-- ==== Sys2Proof/Word.lean ====
section
/-! DEFINITION. Word.lean: the word types of the SQ4810 and the sparse table every store of the model is held in.
A table is a list of (key, entry) pairs in one canonical form: keys strictly rising, no entry equal to what an
unlisted key reads as. Equal tables are equal data. -/

namespace Sys2Proof

/-- One byte, the unit of every layout of the spec. -/
abbrev Byte := BitVec 8

/-- Hearth number h = col + 16 × row, 0–127 (R15, Table 00-4). -/
abbrev HearthId := BitVec 7

/-- Array number a = 1,024 × h + 128 × bay + 2 × (x + 8 × y) + deck (R55). -/
abbrev ArrayId := BitVec 17

/-- Site number, the array number without its deck bit (R55). -/
abbrev SiteId := BitVec 16

/-- Fabric port P0–P7 (R329). -/
abbrev PortId := BitVec 3

/-- A sparse store: (key, entry) pairs. -/
abbrev Tab (α : Type) := List (Nat × α)

namespace Tab

/-- The entry of key `k`; `d` is what an unlisted key reads as. -/
def get {α : Type} (d : α) (k : Nat) : Tab α → α
  | [] => d
  | (k', v) :: m => if k = k' then v else get d k m

/-- Whether `k` is listed. -/
def has {α : Type} (k : Nat) : Tab α → Bool
  | [] => false
  | (k', _) :: m => if k = k' then true else has k m

/-- Remove `k`. -/
def del {α : Type} (k : Nat) : Tab α → Tab α
  | [] => []
  | (k', v) :: m => if k = k' then del k m else (k', v) :: del k m

/-- Put `v` at `k` in a rising table. -/
def ins {α : Type} (k : Nat) (v : α) : Tab α → Tab α
  | [] => [(k, v)]
  | (k', v') :: m =>
    if k < k' then (k, v) :: (k', v') :: m
    else if k = k' then (k, v) :: m
    else (k', v') :: ins k v m

/-- Write `v` at `k`: an entry equal to what an unlisted key reads as is removed. -/
def put {α : Type} [DecidableEq α] (d : α) (k : Nat) (v : α) (m : Tab α) : Tab α :=
  if v = d then del k m else ins k v m

/-- Keys strictly rising, every key above `lo`. -/
def rising {α : Type} : Option Nat → Tab α → Bool
  | _, [] => true
  | lo, (k, _) :: m => (match lo with | none => true | some l => decide (l < k)) && rising (some k) m

/-- No entry equals what an unlisted key reads as. -/
def clean {α : Type} [DecidableEq α] (d : Nat → α) (m : Tab α) : Bool := m.all fun e => decide (e.2 ≠ d e.1)

/-- The canonical form. -/
def wf {α : Type} [DecidableEq α] (d : Nat → α) (m : Tab α) : Bool := rising none m && clean d m

end Tab

end Sys2Proof
end

