-- ==== Sys2Proof/Syntax.lean ====
section
/-! DEFINITION. Syntax.lean: the commands of the SQ4810, one constructor per row of spec/opcode_table.json in the
table's order, and the operands they carry. A command is one happening that reaches the part; what another agent
supplies with it (an analogue reading, a verification read, a frame's bytes) is an operand. -/

namespace Sys2Proof

/-- The two PCI Express ports (R386). -/
inductive HostPort where
  | a
  | b
deriving DecidableEq, Repr

/-- The four requesters of the object dictionary (R8, R437). -/
inductive Requester where
  | hostA
  | hostB
  | sideBand
  | firmware
deriving DecidableEq, Repr

/-- The operation of an object access (Table 16-6). -/
inductive AccessOp where
  | read
  | write
  | command
deriving DecidableEq, Repr

/-- What the host places in the mailbox registers before GO (Table 16-6). -/
structure MailboxReq where
  index : BitVec 16
  sub : Byte
  op : AccessOp
  length : BitVec 32
  bulk : BitVec 64
  tag : BitVec 32
  data : List Byte
deriving DecidableEq, Repr

/-- A NOA request or segment (R419, Table 17-6); `session` none is outside every SPDM session (R420);
`fabric` tells a request that came in a MGMT transfer (R422). -/
structure NoaMsg where
  session : Option (BitVec 2)
  seq : BitVec 32
  op : AccessOp
  more : Bool
  index : BitVec 16
  sub : Byte
  offset : BitVec 32
  length : BitVec 32
  total : BitVec 32
  data : List Byte
  fabric : Bool
deriving DecidableEq, Repr

/-- What a SEC-DED protected read finds (R186, R220, R263): no error, a corrected one, or an uncorrectable one. -/
inductive ReadState where
  | clean
  | corrected
  | uncorrectable
deriving DecidableEq, Repr

/-- The common fields of a stoker instruction: the hearth whose stoker issues it, DELTA (R191, Table 08-6), and what the
read of its word (and of the descriptor it names) finds in instruction and descriptor memory (R186). -/
structure IssueAt where
  h : HearthId
  delta : BitVec 12
  fetch : ReadState
deriving DecidableEq, Repr

/-- A residue mismatch of a checked operation (R462): the lane, and the residue found where `expected` was formed. -/
structure Upset where
  lane : BitVec 8
  expected : BitVec 3
  found : BitVec 3
deriving DecidableEq, Repr

/-- What the cells of one 128-bit buffer word hold: its data, one flipped bit, or more than one (R214, R220); whether a re-read with widened
margin decodes it (R224), and whether the fault of its cells is permanent (R220). -/
structure WordUpset where
  row : BitVec 15
  word : BitVec 2
  state : ReadState
  repairs : Bool
  permanent : Bool
deriving DecidableEq, Repr

/-- A parity error in a flit (R241, R464): at which router of its way it is found, counted from 0, and in which of its 32-bit words. -/
structure FlitFault where
  hop : Byte
  word : BitVec 5
deriving DecidableEq, Repr

/-- A DMA STACK_WR or FABRIC transfer: the engine, and the flits of the transfer, two rows each, in which a parity error is found on their way
to the edge of the mesh (R241). -/
structure EdgeWrite where
  eng : Bool
  parity : List (BitVec 10 × FlitFault)
deriving DecidableEq, Repr

/-- A signal that leaves: its cycle, and whether a PART signal's message meets a parity error on its way (R203, R259). -/
structure LeavingSignal where
  cc : Nat
  parity : Option FlitFault
deriving DecidableEq, Repr

/-- A signal that reaches a hearth: the flag it sets, and whether its message has a parity error (R246, R259). -/
structure ArrivingSignal where
  event : BitVec 6
  parity : Option FlitFault
deriving DecidableEq, Repr

/-- What an attention request meets: a residue mismatch in its gang (R462), and a parity error in its message (R241). -/
structure AttnFaults where
  upset : Option Upset
  parity : Option FlitFault
deriving DecidableEq, Repr

/-- What scrub finds in its line, and what other lines hold from now on that is not what was written (R263). -/
structure LineScrub where
  found : ReadState
  others : List (BitVec 32 × ReadState)
deriving DecidableEq, Repr

/-- A WARM timer that has run out, and whether every other part has a CELLAR region configured (R282). -/
structure WarmExpiry where
  ctx : BitVec 32
  cellars : Bool
deriving DecidableEq, Repr

/-- DRV fields (Table 08-8); L is told by the command. -/
structure DrvFields where
  bay : BitVec 3
  desc : BitVec 10
  lower : Bool
  span : BitVec 2
  slot : BitVec 6
  first : BitVec 10
  last : BitVec 10
  vsrc : BitVec 5
deriving DecidableEq, Repr

/-- ACC fields (R197). -/
structure AccFields where
  bay : BitVec 3
  desc : BitVec 10
  slot : BitVec 6
deriving DecidableEq, Repr

/-- FLU fields (Table 08-12); DIR is told by the command. `dest` is bits [30:24]. -/
structure FluFields where
  tag : BitVec 16
  dest : BitVec 7
  addr : BitVec 15
  len : BitVec 6
  f16 : Bool
deriving DecidableEq, Repr

/-- VEC fields (Table 08-10); VOP is told by the command. -/
structure VecFields where
  w : BitVec 2
  vd : BitVec 5
  va : BitVec 5
  vb : BitVec 5
  vc : BitVec 5
  imm : BitVec 20
  upset : Option Upset
deriving DecidableEq, Repr

/-- DMA fields (R200). -/
structure DmaFields where
  eng : Bool
  desc : BitVec 15
  event : BitVec 6
deriving DecidableEq, Repr

/-- WAI fields (Table 08-13). -/
structure WaiFields where
  event : BitVec 6
  clr : Bool
  scale : Bool
  tmo : BitVec 16
  branch : Bool
  target : BitVec 13
deriving DecidableEq, Repr

/-- SIG fields (Table 08-13); KIND is told by the command. -/
structure SigFields where
  rel : Bool
  event : BitVec 6
  target : BitVec 7
  desc : BitVec 15
deriving DecidableEq, Repr

/-- FEN fields (Table 08-13); SCOPE is told by the command. -/
structure FenFields where
  scale : Bool
  tmo : BitVec 16
deriving DecidableEq, Repr

/-- BRA fields (Table 08-13); COND is told by the command. -/
structure BraFields where
  ga : BitVec 4
  gb : BitVec 4
  bit : BitVec 5
  target : BitVec 13
deriving DecidableEq, Repr

/-- The per-group phases of a calibration run (Table 04-7). -/
inductive CalPhase where
  | offset
  | gain
  | deckRef
deriving DecidableEq, Repr

/-- A trim value a calibration phase asks for: a converter's OFS or GAIN, or with `conv` 67 a deck's REF. -/
structure TrimFound where
  site : SiteId
  conv : BitVec 7
  lower : Bool
  value : Int
deriving DecidableEq, Repr

/-- A SUBMIT entry (Table 12-1); `reserved` tells that some reserved bit or field of it is not 0, or that its opcode is none of Table 12-2
(R290). -/
structure SubEntry where
  flags : Byte
  variant : Byte
  grammar : Byte
  tenant : BitVec 16
  cls : Byte
  stopCount : Byte
  tag : BitVec 64
  ctx : BitVec 32
  promptCount : BitVec 32
  promptAddr : BitVec 64
  deadline : BitVec 64
  maxNew : BitVec 32
  temperature : BitVec 16
  topK : BitVec 16
  topP : BitVec 16
  biasCount : BitVec 16
  startState : BitVec 32
  seed : BitVec 64
  biasAddr : BitVec 64
  stops : List (BitVec 32)
  reserved : Bool
deriving DecidableEq, Repr

/-- The tag of a CANCEL, PAUSE, RENEW or DISCARD entry; `reserved` tells of a reserved bit set in the entry (R290). -/
structure EntryTag where
  tag : BitVec 64
  reserved : Bool
deriving DecidableEq, Repr

/-- A logit as it reaches the token stage: F16 bits, and whether it is poisoned (R303). -/
structure Logit where
  bits : BitVec 16
  poison : Bool
deriving DecidableEq, Repr

/-- A node word (Table 13-1). -/
structure NodeWord where
  depth : BitVec 3
  parent : BitVec 5
  token : BitVec 18
  reserved : Bool
deriving DecidableEq, Repr

/-- A tree record (R310). -/
structure TreeRec where
  count : Byte
  levels : Byte
  source : Byte
  template : Byte
  nodes : List NodeWord
  /-- a bit of header bytes 4 to 7 is set -/
  reserved : Bool := false
deriving DecidableEq, Repr

/-- A TOKEN transfer's payload (R337) with its source and step. -/
structure TokenMsg where
  src : BitVec 16
  step : BitVec 64
  ctx : BitVec 32
  count : Byte
  words : List (BitVec 32)
  m : BitVec 4
  nodes : List (BitVec 5)
  guesses : List (BitVec 32)
  grammarEnd : Bool
deriving DecidableEq, Repr

/-- One candidate that a draft pass gives (R321): a token below the root (`parent` 0) or below candidate number `parent` of the list, counted
from 1, and its draft probability there in units of 2^−24. -/
structure DraftCand where
  parent : Byte
  token : BitVec 18
  prob : BitVec 25
deriving DecidableEq, Repr

/-- IDENT body (Table 14-9). -/
structure IdentBody where
  kind : Byte
  port : Byte
  major : Byte
  minor : Byte
  rack : BitVec 32
  endpoint : BitVec 16
  pair : Byte
  position : Byte
  features : BitVec 32
  serial : BitVec 64
  fwMajor : BitVec 16
  fwMinor : BitVec 16
  fwPatch : BitVec 16
deriving DecidableEq, Repr

/-- Transport header (Table 14-5) and the class of its link frame (Table 14-3); `reserved` tells that a reserved bit is set. -/
structure TransportHdr where
  kind : Byte
  cls : BitVec 2
  mcast : Bool
  first : Bool
  last : Bool
  retry : Bool
  reserved : Bool
  src : BitVec 16
  dst : BitVec 16
  slot : BitVec 16
  tid : BitVec 32
  len : BitVec 32
  offset : BitVec 32
  gen : BitVec 32
  step : BitVec 64
  mask : BitVec 64
  kvGen : BitVec 32
  rack : BitVec 32
deriving DecidableEq, Repr

/-- What the link header of a frame hands back (R334, Table 14-3): the highest sequence number that the peer has received in order, and
granules of credit returned for a class. -/
structure LinkBack where
  acked : BitVec 32
  cls : BitVec 2
  granules : BitVec 14
deriving DecidableEq, Repr

/-- An IDLE frame (R334): the port it comes in on, and what its link header hands back. -/
structure IdleFrame where
  port : PortId
  back : LinkBack
deriving DecidableEq, Repr

/-- What a receiver finds at a DATA frame beside its transfer frame: what its link header hands back; a parity error at the pool (R241); a
bad CRC, an unknown type or a set reserved bit (R334); codewords that the FEC corrected, and one it could not (R330, R343); an IPv6 or UDP
header that R339 has it discard. -/
structure FrameFaults where
  back : LinkBack
  parity : Bool
  crc : Bool
  corrected : BitVec 16
  uncorrectable : Bool
  ip : Bool
deriving DecidableEq, Repr

/-- A SLIP notice (R176): the count, and whether it comes from a replay (R366), which the admitting part counts (R368; a data byte of the
notice, the model's own). -/
structure SlipCount where
  k : Byte
  replay : Bool
deriving DecidableEq, Repr

/-- Step header block (Table 14-7). -/
structure StepHdr where
  headEdge : BitVec 64
  ctx : BitVec 32
  tenant : BitVec 16
  positions : Byte
  variant : Byte
  k : Byte
  cls : Byte
  ctxLen : BitVec 32
  m : Byte
  nodes : List Byte
  tree : TreeRec
deriving DecidableEq, Repr

/-- NACK reasons (Table 14-11). -/
inductive NackReason where
  | nobuf
  | slot
  | format
  | state
deriving DecidableEq, Repr

/-- The argument of a TIER_REPORT notice (Table 14-8). -/
inductive TierReport where
  | hot
  | lost
  | discarded
deriving DecidableEq, Repr

/-- Page header (Table 11-2). -/
structure PageHdr where
  ctx : BitVec 32
  tenant : BitVec 16
  layer : Byte
  head : Byte
  first : BitVec 32
  kScale : BitVec 16
  vScale : BitVec 16
  kvGen : BitVec 32
  state : Byte
  written : Byte
deriving DecidableEq, Repr

/-- One token slot of a page: 128 K4 codes and 128 V4 codes (R266), and whether it carries poison (R521). -/
structure KvSlot where
  slot : BitVec 6
  k : List (BitVec 4)
  v : List (BitVec 4)
  poison : Bool
deriving DecidableEq, Repr

/-- The page list of one layer slot and KV head in a CONTEXT record (Table 15-5): its die, how far it is committed, and the numbers of the
pages it holds. -/
structure ListEdit where
  layer : BitVec 6
  head : BitVec 4
  die : BitVec 1
  committed : BitVec 32
  pages : List (BitVec 11)
deriving DecidableEq, Repr

/-- A CONTEXT mirror record (Table 15-5): the changed context record and its page lists. -/
structure ContextEdit where
  tenant : BitVec 16
  kvGen : BitVec 32
  committed : BitVec 32
  tier : Byte
  lists : List ListEdit
deriving DecidableEq, Repr

/-- A REQUEST mirror record (Table 15-5): one request with its tenant's level and sampler state. `stage` is 0 ended, 1 pending, 2
admitted; what it holds is where the request goes on from, and no step in flight. -/
structure ReqMirror where
  req : BitVec 32
  port : HostPort
  qp : Byte
  entry : SubEntry
  stage : BitVec 2
  arrival : BitVec 64
  order : BitVec 64
  ctx : BitVec 32
  gen : BitVec 32
  kvGen : BitVec 32
  prompt : List (BitVec 32)
  bias : List (BitVec 32 × BitVec 16)
  history : List (BitVec 32)
  rest : List (BitVec 32)
  refill : BitVec 32
  generating : Bool
  m : BitVec 4
  nodes : List (BitVec 5)
  guesses : List (BitVec 32)
  returned : BitVec 32
  grammar : BitVec 32
  level : BitVec 64
  mode : BitVec 2
  miss : Byte
  fallback : BitVec 16
  /-- steps and accepted drafts that a sampler has counted, and the step whose tokens it has last -/
  steps : BitVec 64 := 0
  accepted : BitVec 64 := 0
  lastStep : BitVec 64 := 0
deriving DecidableEq, Repr

/-- A COPY mirror record (R377): the request state or one whole context with its pages. -/
inductive CopyRec where
  | request (r : ReqMirror)
  | context (ctx : BitVec 32) (c : ContextEdit) (die : BitVec 1) (pages : List (PageHdr × List KvSlot))
deriving DecidableEq, Repr

/-- Who opens an SPDM session (R497). -/
inductive SpdmRequester where
  | unauthenticated
  | ownerKey (slot : BitVec 2)
  | vendorPeer (serial : BitVec 64)
  | unknown
deriving DecidableEq, Repr

/-- A finding of an in-field test (Table 20-8). -/
inductive TestFinding where
  | phase (n : BitVec 3)
  | converter (site : SiteId) (conv : BitVec 7)
  | column (a : ArrayId) (col : BitVec 9)
  | digestMismatch (a : ArrayId)
  | rowsSilent (a : ArrayId)
  | fencedPasses (a : ArrayId)
deriving DecidableEq, Repr

/-- What the cover poll reads of one part (R473): a hearth OVERDUE, a calibration DUE and for how many hearths. -/
structure CoverDue where
  endpoint : BitVec 64
  overdue : Bool
  calHearths : BitVec 8
deriving DecidableEq, Repr

/-- The commands (spec/opcode_table.json). -/
inductive Instr where
  /-- OBJECT_WRITE (R427): A write or command to an object that has no row of its own is judged in the order of checks and performed or refused. -/
  | objectWrite (rq : Requester) (op : AccessOp) (idx : BitVec 16) (sub : BitVec 8) (offset : Nat) (data : List Byte)
  /-- MAILBOX_GO (R389): A host write of 1 to GO sets BUSY, performs one object access with the port's rights, then clears BUSY and sets MBXDONE. -/
  | mailboxGo (p : HostPort) (m : MailboxReq)
  /-- NOA_REQUEST (R419): The island takes a NOA request datagram or segment and carries out the object access, answering duplicates from kept responses. -/
  | noaRequest (m : NoaMsg)
  /-- SEGMENTED_WRITE_TIMEOUT (R421): A segmented NOA write is discarded when 2 s pass without a segment. -/
  | segmentedWriteTimeout (session : BitVec 2)
  /-- DRV_ISSUE (R56): A DRV with L = 0 drives the rows of one deck of every site of its descriptor and starts an array issue at the given span. -/
  | drvIssue (w : IssueAt) (f : DrvFields)
  /-- DRV_LATCH_LOAD (R195): A DRV with L = 1 loads the free drive latch of every site of its descriptor from the VE registers, one segment per cycle. -/
  | drvLatchLoad (w : IssueAt) (f : DrvFields)
  /-- DAMPER_HOLD_RELEASE (R454): A damper hold releases at the first frame boundary at which the group fits, delaying every later instruction. -/
  | damperHoldRelease (h : HearthId)
  /-- REISSUE_WIDEN (R69): Under WIDEN a site with a flagged column re-issues in its next reserved interval at the next wider span. -/
  | reissueWiden (site : SiteId)
  /-- REISSUE_SPLIT (R70): Under SPLIT a site with a flagged column re-issues over halves, then quarters, of the active row range. -/
  | reissueSplit (site : SiteId)
  /-- ACC (R197): An ACC instruction arms the bay accumulator for the next issuing DRV to the same bay and descriptor. -/
  | acc (w : IssueAt) (f : AccFields)
  /-- ACC_DELIVERY (R77): When a group's codes are complete the accumulator aligns, sums, scales and rounds them and writes the F16 results in its output window. -/
  | accDelivery (h : HearthId) (bay : BitVec 3) (upset : Option Upset)
  /-- ARRAY_FENCE (R80): An array reaching the check fence count of mismatches within the window is set FENCED and its shard fails over. -/
  | arrayFence (a : ArrayId)
  /-- CONVERTER_SETTLE_FAIL (R523): A converter failing to settle in two distinct steps within 10 s is taken out of service at the next step boundary and its columns remapped. -/
  | converterSettleFail (site : SiteId) (conv : BitVec 7) (slot : BitVec 3)
  /-- REMAP_WRITE (R84): Firmware writes an array's remap table after a verify failure or in-service fault, effective at the next step boundary. -/
  | remapWrite (a : ArrayId) (col : BitVec 9) (inService : Bool)
  /-- HOUSEKEEPING_ROUND (R447): Every 250 us (1 ms in low-power mode) a regular round of conversions starts on the enabled housekeeping converters. -/
  | housekeepingRound
  /-- HOUSEKEEPING_CONVERSION (R443): A housekeeping converter completes one conversion of a channel and stores its result word. -/
  | housekeepingConversion (conv : BitVec 2) (chan : Byte) (code : BitVec 12) (ovr : Bool)
  /-- CALIBRATION_INTERVAL_EXPIRED (R100): The maximum interval since a hearth's last run passes and a run becomes due. -/
  | calibrationIntervalExpired (h : HearthId)
  /-- CALIBRATE_MASKED (R100): Command 0x01 of OD 0x2800.01 makes a run due for the hearths of the mask. -/
  | calibrateMasked (rq : Requester)
  /-- CALIBRATE_ALL (R100): Command 0x02 of OD 0x2800.01 makes a run due for all hearths. -/
  | calibrateAll (rq : Requester)
  /-- CALIBRATION_RUN_START (R101): The run of due hearths starts once the part is not serving or cover is in place. -/
  | calibrationRunStart
  /-- CALIBRATION_MASTER_DONE (R103): The master phase ends: REXT is measured, master and hearth reference trims set, or the whole run fails on a REXT deviation over 2 %. -/
  | calibrationMasterDone (rextPpm : Int) (masterTrim : BitVec 32) (hearthTrims : List (HearthId × BitVec 16))
  /-- CALIBRATION_PHASE_DONE (R102): The offset, gain or deck-reference phase of a group of up to 16 hearths ends and its trims are set. -/
  | calibrationPhaseDone (phase : CalPhase) (found : List TrimFound)
  /-- CALIBRATION_GROUP_DONE (R102): A group's run ends; its hearths become VALID with T_cal recorded and the next group starts. -/
  | calibrationGroupDone
  /-- CALIBRATION_COVER_GRACE_EXPIRED (R104): No cover arrives within the cover grace of a run falling due; an alarm is raised and the run stays due. -/
  | calibrationCoverGraceExpired (h : HearthId)
  /-- TRIM_UPDATE (R99): A pending trim update is applied at a site once its issue group completes, before the next DRV. -/
  | trimUpdate (site : SiteId)
  /-- CALIBRATION_IMAGE_WRITE (R107): A write of the calibration image is checked and accepted or refused per image, hearth and site. -/
  | calibrationImageWrite (rq : Requester) (img : List Byte)
  /-- CALIBRATION_IMAGE_APPLIED (R106): Within 20 ms of an accepted image the trims are applied and held hearths return to service. -/
  | calibrationImageApplied
  /-- STEEP_HOST_DMA (R115): Command 0x01 of OD 0x5020 starts a steep read from host memory through the scatter list. -/
  | steepHostDma (rq : Requester)
  /-- STEEP_FABRIC (R116): Command 0x02 of OD 0x5020 starts a steep from a fabric source. -/
  | steepFabric (rq : Requester)
  /-- SELF_REFRESH (R129): Command 0x03 of OD 0x5020 starts a self-refresh of the masked hearths. -/
  | selfRefresh (rq : Requester)
  /-- STEEP_ABORT (R131): Command 0x04 of OD 0x5020 stops programming arrays at a row boundary and sets them FENCED. -/
  | steepAbort (rq : Requester)
  /-- STEEP_SIGNATURE_VERIFY (R112): On receipt of the signature bytes the part checks the header, key slot and signature of the image. -/
  | steepSignatureVerify (head : List Byte)
  /-- STEEP_CHUNK_ARRIVAL (R113): An arriving chunk is digested, compared, decrypted and content-checked before it may program. -/
  | steepChunkArrival (index : BitVec 32) (bytes : List Byte)
  /-- STEEP_SOURCE_TIMEOUT (R117): 100 ms pass with staging not full and no chunk arriving; the steep ends SOURCE. -/
  | steepSourceTimeout
  /-- STEEP_ARRAY_START (R121): An array whose chunk passed starts programming when concurrency allows, after its program record is stored. -/
  | steepArrayStart (a : ArrayId)
  /-- WEAR_LIMIT (R127): An array's wear count reaches 900,000 (event) or 1,000,000 (alarm). -/
  | wearLimit (a : ArrayId)
  /-- PROGRAM_ITERATION (R120): One program-and-verify iteration of a row completes, pulsing cells outside their window. -/
  | programIteration (a : ArrayId) (row : BitVec 10) (outside : List (BitVec 10))
  /-- KILN_END (R121): The 50 ms kiln of an array ends and final verify starts. -/
  | kilnEnd (a : ArrayId)
  /-- FINAL_VERIFY_DONE (R121): The final window read of an array ends; failing columns go to spares and the scale store is written. -/
  | finalVerifyDone (a : ArrayId) (outside : List (BitVec 10))
  /-- ARRAY_STEEP_COMPLETE (R121): An array's scale store is written and its program record set COMPLETE. -/
  | arraySteepComplete (a : ArrayId)
  /-- PROGRAM_RECORD_ARRIVAL (R130): At start-up each arriving program record is checked and its sample rows level-read against the record. -/
  | programRecordArrival (a : ArrayId) (record : List Byte) (scalesGood : Bool) (rows : List (List Byte)) (marginCells : BitVec 32)
  /-- INTEGRITY_CHECK_COMPLETE (R130): The start-up integrity check completes after the last record and its result is stored. -/
  | integrityCheckComplete (durationUs : BitVec 32)
  /-- SWITCH_COMMAND (R142): A write of OD 0x5001 sets a pending pointer switch to a target generation at an earliest time. -/
  | switchCommand (rq : Requester) (target : BitVec 32) (earliest : BitVec 64)
  /-- BARRIER_RAISE (R151): Command 0x01 of OD 0x5004 raises the admission barrier to DRAINING. -/
  | barrierRaise (rq : Requester)
  /-- BARRIER_LOWER (R151): Command 0x02 of OD 0x5004 lowers the barrier and held requests launch in queue order. -/
  | barrierLower (rq : Requester)
  /-- DRAIN_LIMIT_EXPIRED (R150): The drain limit since a switch passes and the old generation is retired. -/
  | drainLimitExpired
  /-- COPY_COMPLETE (R377): The HOT copy to a rejoining or rematched position completes and the pair becomes PAIRED with cover. -/
  | copyComplete
  /-- REFERENCE_LOST (R159): The rack reference is missing or off frequency and the part enters a main-side reset. -/
  | referenceLost
  /-- REFERENCE_STABLE (R160): The reference has stayed in range for the stable time and the island sequences the main side up. -/
  | referenceStable
  /-- REFERENCE_SELECT_WRITE (R158): A write of OD 0x2100.01 chooses RACK or LOCAL reference, applied through a main-side reset. -/
  | referenceSelectWrite (rq : Requester) (v : Byte)
  /-- CORE_FREQUENCY_CEILING_WRITE (R161): A write of the core frequency ceiling sets a new target frequency. -/
  | coreFrequencyCeilingWrite (rq : Requester) (mhz : BitVec 16)
  /-- SPREAD_WRITE (R164): A write of spread depth or rate is checked against planned depth and applies at the next step boundary. -/
  | spreadWrite (rq : Requester) (rate : Bool) (v : Byte)
  /-- CLOCK_ENABLE_WRITE (R167): A write of OD 0x2120 sets enables within 1 us and clears them at the next step boundary. -/
  | clockEnableWrite (rq : Requester) (v : BitVec 32)
  /-- PTP (R169): An IEEE 1588 message is timestamped and the servo slews or steps rack time. -/
  | ptp (offsetNs : Int)
  /-- PTP_HOLDOVER (R171): No Sync arrives for 8 s and the 1588 state becomes HOLDOVER. -/
  | ptpHoldover
  /-- CADENCE_EDGE (R172): CADENCE is sampled high on a reference edge; the part latches rack time and measures the period. -/
  | cadenceEdge
  /-- CADENCE_EDGE_MISSING (R173): No edge arrives at the predicted tick; the part generates a flywheel edge and counts a miss. -/
  | cadenceEdgeMissing
  /-- CADENCE_LOST (R173): The missing-edge limit of consecutive missed edges is reached; the head launches nothing and an alarm is raised. -/
  | cadenceLost
  /-- STAGE_LAUNCH (R175): At a step's launch tick, if all launch conditions hold, every stoker of the kindle set issues its first instruction. -/
  | stageLaunch (step : BitVec 64)
  /-- STEP_ABANDON (R179): A step's slip count would exceed the slip limit; it is abandoned at the stage and an abandon notice sent. -/
  | stepAbandon (step : BitVec 64)
  /-- HOLD_N_PULSE (R177): HOLD_N sampled low from the upstream board partner is taken as a slip notice. -/
  | holdNPulse
  /-- HOLD_N_STUCK (R177): HOLD_N stays low more than 8 tk; the part ignores it and raises an alarm. -/
  | holdNStuck
  /-- KINDLE (R182): At launch tick minus kindle lead each hearth of the kindle set starts KINDLING. -/
  | kindle (step : BitVec 64)
  /-- KINDLE_COMPLETE (R181): A hearth's rail ramp completes and it becomes HOT. -/
  | kindleComplete (h : HearthId)
  /-- HEARTH_BANK (R181): A halted hearth with no launch within the kindle lead returns to BANKED after 40 tk. -/
  | hearthBank (h : HearthId)
  /-- OUT_OF_SERVICE (R183): Service command 0x01 takes a hearth OFF at the next step boundary unless it holds the only live copy. -/
  | outOfService (rq : Requester) (h : HearthId)
  /-- RETURN_TO_SERVICE (R181): Service command 0x02 returns an OFF hearth to BANKED within 1 ms. -/
  | returnToService (rq : Requester) (h : HearthId)
  /-- PROGRAM_IMAGE_WRITE (R189): A write of the program image is accepted in permitted states and then checked and applied or refused. -/
  | programImageWrite (rq : Requester) (img : List Byte)
  /-- PROGRAM_UNLOAD (R189): Command 0x01 of OD 0x3400 unloads the step programs. -/
  | programUnload (rq : Requester)
  /-- FLU_SEND (R199): A FLU send reads units of buffer rows in flue-out slots and queues them on the tag's tree. -/
  | fluSend (w : IssueAt) (f : FluFields)
  /-- FLU_RECEIVE (R199): A FLU receive arms the hearth to take a tag's merged sums. -/
  | fluReceive (w : IssueAt) (f : FluFields)
  /-- VEC_LD (R198): VEC LD reads 1-16 buffer rows into a VE register. -/
  | vecLd (w : IssueAt) (f : VecFields)
  /-- VEC_ST (R198): VEC ST writes a VE register into 1-16 buffer rows. -/
  | vecSt (w : IssueAt) (f : VecFields)
  /-- VEC_ADD (R198): Lane-wise add. -/
  | vecAdd (w : IssueAt) (f : VecFields)
  /-- VEC_SUB (R198): Lane-wise subtract. -/
  | vecSub (w : IssueAt) (f : VecFields)
  /-- VEC_MUL (R198): Lane-wise multiply. -/
  | vecMul (w : IssueAt) (f : VecFields)
  /-- VEC_FMA (R198): F16 fused multiply-add. -/
  | vecFma (w : IssueAt) (f : VecFields)
  /-- VEC_MAX (R198): Lane-wise maximum. -/
  | vecMax (w : IssueAt) (f : VecFields)
  /-- VEC_MIN (R198): Lane-wise minimum. -/
  | vecMin (w : IssueAt) (f : VecFields)
  /-- VEC_SEL (R198): Lane-wise select by a third operand. -/
  | vecSel (w : IssueAt) (f : VecFields)
  /-- VEC_CMP (R198): Lane-wise greater-than compare. -/
  | vecCmp (w : IssueAt) (f : VecFields)
  /-- VEC_RSUM (R198): Cross-lane sum into lane 0. -/
  | vecRsum (w : IssueAt) (f : VecFields)
  /-- VEC_RMAX (R198): Cross-lane maximum into lane 0. -/
  | vecRmax (w : IssueAt) (f : VecFields)
  /-- VEC_RSQS (R198): Cross-lane sum of squares into lane 0. -/
  | vecRsqs (w : IssueAt) (f : VecFields)
  /-- VEC_RSQRT (R198): Lane-wise reciprocal square root. -/
  | vecRsqrt (w : IssueAt) (f : VecFields)
  /-- VEC_RCP (R198): Lane-wise reciprocal. -/
  | vecRcp (w : IssueAt) (f : VecFields)
  /-- VEC_EXP2 (R198): Lane-wise power of two. -/
  | vecExp2 (w : IssueAt) (f : VecFields)
  /-- VEC_ACT (R198): Lane-wise activation function chosen by IMM. -/
  | vecAct (w : IssueAt) (f : VecFields)
  /-- VEC_GLU (R198): Gated linear unit over groups of 32 lanes. -/
  | vecGlu (w : IssueAt) (f : VecFields)
  /-- VEC_WIDEN (R198): B4 or B8 elements with E8 scales widened to F16. -/
  | vecWiden (w : IssueAt) (f : VecFields)
  /-- VEC_NARROW_B4 (R198): F16 narrowed to B4 elements and E8 scales. -/
  | vecNarrowB4 (w : IssueAt) (f : VecFields)
  /-- VEC_NARROW_B8 (R198): F16 narrowed to B8 elements and E8 scales. -/
  | vecNarrowB8 (w : IssueAt) (f : VecFields)
  /-- VEC_NARROW_A4S (R198): 1,024 F16 elements narrowed to one A4S segment and scale word. -/
  | vecNarrowA4s (w : IssueAt) (f : VecFields)
  /-- VEC_FIX (R198): F16 converted to I32 with a shift, rounding and saturating. -/
  | vecFix (w : IssueAt) (f : VecFields)
  /-- VEC_FLT (R198): I32 converted to F16 with a shift, rounding and saturating. -/
  | vecFlt (w : IssueAt) (f : VecFields)
  /-- VEC_TOPK (R198): The k largest lanes with their indices in descending order. -/
  | vecTopk (w : IssueAt) (f : VecFields)
  /-- VEC_BCAST (R198): One lane broadcast to all lanes. -/
  | vecBcast (w : IssueAt) (f : VecFields)
  /-- VEC_GSET (R198): Scalar register set from an immediate. -/
  | vecGset (w : IssueAt) (f : VecFields)
  /-- VEC_GADD (R198): Scalar register add of an immediate. -/
  | vecGadd (w : IssueAt) (f : VecFields)
  /-- VEC_GCTX (R198): Scalar register loaded from a step context register. -/
  | vecGctx (w : IssueAt) (f : VecFields)
  /-- VEC_GLANE (R198): Scalar register loaded from a VE lane. -/
  | vecGlane (w : IssueAt) (f : VecFields)
  /-- VEC_LANEG (R198): A VE lane written from a scalar register. -/
  | vecLaneg (w : IssueAt) (f : VecFields)
  /-- DMA (R200): A DMA instruction queues a descriptor on one engine. -/
  | dma (w : IssueAt) (f : DmaFields)
  /-- DMA_COPY (R232): The engine runs a COPY descriptor within the own buffer. -/
  | dmaCopy (h : HearthId) (eng : Bool)
  /-- DMA_HEARTH (R232): The engine sends buffer rows to one hearth on the die. -/
  | dmaHearth (h : HearthId) (eng : Bool)
  /-- DMA_SET (R232): The engine multicasts buffer rows to a hearth set. -/
  | dmaSet (h : HearthId) (eng : Bool)
  /-- DMA_STACK_RD (R232): The engine reads stack rows into the own buffer. -/
  | dmaStackRd (h : HearthId) (eng : Bool)
  /-- DMA_STACK_WR (R232): The engine writes buffer rows to a stack. -/
  | dmaStackWr (h : HearthId) (write : EdgeWrite)
  /-- DMA_FABRIC (R232): The engine sends buffer rows to a fabric port's transmit queue. -/
  | dmaFabric (h : HearthId) (write : EdgeWrite)
  /-- DMA_COMPLETE (R232): A transfer reaches its completion point and the engine sets its event. -/
  | dmaComplete (h : HearthId) (eng : Bool) (cc : Nat)
  /-- WAI (R202): A WAI stops issue until its flag is set or its timeout passes. -/
  | wai (w : IssueAt) (f : WaiFields)
  /-- WAI_RELEASE (R202): A waited flag is set and the WAI releases at the next frame boundary. -/
  | waiRelease (h : HearthId)
  /-- WAI_TIMEOUT (R202): A WAI times out and faults or branches to its target. -/
  | waiTimeout (h : HearthId)
  /-- SIG_LOCAL (R203): A SIG LOCAL sets a local flag 2 cc after it leaves. -/
  | sigLocal (w : IssueAt) (f : SigFields)
  /-- SIG_HEARTH (R203): A SIG HEARTH sends a flag to one hearth on the stream channel. -/
  | sigHearth (w : IssueAt) (f : SigFields)
  /-- SIG_SET (R203): A SIG SET multicasts a flag to a hearth set. -/
  | sigSet (w : IssueAt) (f : SigFields)
  /-- SIG_ATTN (R203): A SIG ATTN submits an attention request to M0 or M1. -/
  | sigAttn (w : IssueAt) (f : SigFields)
  /-- SIG_PART (R203): A SIG PART raises a controller event. -/
  | sigPart (w : IssueAt) (f : SigFields)
  /-- SIGNAL_DEPART (R203): A releasing SIG leaves once every earlier write, DMA and FLU send of the hearth has completed. -/
  | signalDepart (h : HearthId) (signal : LeavingSignal)
  /-- SIGNAL_ARRIVAL (R202): A signal arrives and sets its flag, or counts an event overrun if already set. -/
  | signalArrival (h : HearthId) (signal : ArrivingSignal) (cc : Nat)
  /-- FEN_L (R204): A local-scope fence waits until hearth-local transfers are written. -/
  | fenL (w : IssueAt) (f : FenFields)
  /-- FEN_D (R204): A die-scope fence waits until on-die and stack transfers are written. -/
  | fenD (w : IssueAt) (f : FenFields)
  /-- FEN_S (R204): A system-scope fence waits until fabric transfers are acknowledged. -/
  | fenS (w : IssueAt) (f : FenFields)
  /-- FEN_RELEASE (R204): A fence's scope is complete and it releases at a frame boundary. -/
  | fenRelease (h : HearthId) (cc : Nat)
  /-- FEN_TIMEOUT (R204): A fence's timeout passes first and it raises a TIMEOUT stoker fault. -/
  | fenTimeout (h : HearthId)
  /-- BRA_ALWAYS (R201): Unconditional branch. -/
  | braAlways (w : IssueAt) (f : BraFields)
  /-- BRA_NEVER (R201): Branch never taken, used as a delay. -/
  | braNever (w : IssueAt) (f : BraFields)
  /-- BRA_EQ (R201): Branch if two scalar registers are equal. -/
  | braEq (w : IssueAt) (f : BraFields)
  /-- BRA_NE (R201): Branch if two scalar registers differ. -/
  | braNe (w : IssueAt) (f : BraFields)
  /-- BRA_LT (R201): Branch if signed less than. -/
  | braLt (w : IssueAt) (f : BraFields)
  /-- BRA_GE (R201): Branch if signed greater or equal. -/
  | braGe (w : IssueAt) (f : BraFields)
  /-- BRA_DEC (R201): Decrement a scalar register and branch if non-zero. -/
  | braDec (w : IssueAt) (f : BraFields)
  /-- BRA_BITSET (R201): Branch if a register bit is set. -/
  | braBitset (w : IssueAt) (f : BraFields)
  /-- BRA_BITCLR (R201): Branch if a register bit is clear. -/
  | braBitclr (w : IssueAt) (f : BraFields)
  /-- HLT (R205): HLT ends issue for the step. -/
  | hlt (w : IssueAt)
  /-- HEARTH_HALT (R205): After HLT every engine of the hearth becomes idle and the hearth halts. -/
  | hearthHalt (h : HearthId)
  /-- FREEZE_END (R223): Issue resumes at the first frame boundary 50 tk after the freeze started. -/
  | freezeEnd (h : HearthId)
  /-- SCRUB_PATROL (R221): An unused stoker slot reads the next patrol row of each bank and writes back corrections. -/
  | scrubPatrol (h : HearthId) (cells : List WordUpset)
  /-- INBOUND_WRITE (R233): A delivery from outside the hearth enters its inbound queue and is written in the DMA write slot. -/
  | inboundWrite (h : HearthId) (cc : Nat) (parity : Option FlitFault)
  /-- RESIDENT_REGION_WRITE (R227): A write of a resident-region entry is checked against region limits and state. -/
  | residentRegionWrite (rq : Requester) (h : HearthId) (entry : BitVec 3) (v : BitVec 32)
  /-- RESIDENT_IMAGE_WRITE (R239): A write of the resident image is checked against the LOAD entries and stored. -/
  | residentImageWrite (rq : Requester) (img : List Byte)
  /-- FLUE_MERGE (R252): A router holding matching flue flits at every input adds them and forwards one flit. -/
  | flueMerge (router : HearthId) (tag : BitVec 16) (unit : BitVec 6) (flit : BitVec 4) (upset : Option Upset)
  /-- FLUE_UNIT_COMPLETE (R257): A merge-store unit reaches its total, is converted and written to the armed receive. -/
  | flueUnitComplete (h : HearthId) (tag : BitVec 16) (unit : BitVec 6) (cc : Nat)
  /-- FLUE_TREE_WRITE (R250): A write of the flue tree image is checked and applied or refused. -/
  | flueTreeWrite (rq : Requester) (img : List Byte)
  /-- ATTENTION_START (R270): A gang starts a queued attention request after fetching its descriptor. -/
  | attentionStart (die : BitVec 1) (gang : BitVec 2) (found : AttnFaults)
  /-- ATTENTION_COMPLETE (R275): The last output row of a request is accepted and the local flag is set. -/
  | attentionComplete (die : BitVec 1) (gang : BitVec 2) (latencyNs : BitVec 32) (cc : Nat)
  /-- STACK_SCRUB (R263): The stack patrol scrub passes over a line and writes back corrections. -/
  | stackScrub (line : BitVec 32) (found : LineScrub)
  /-- TIER_PAUSE (R281): Tier action PAUSE moves a context to WARM on every part. -/
  | tierPause (ctx : BitVec 32)
  /-- TIER_RESUME (R285): Tier action RESUME moves a context back to HOT on every part. -/
  | tierResume (ctx : BitVec 32)
  /-- TIER_DEMOTE (R281): Tier action DEMOTE moves a WARM context to CELLAR. -/
  | tierDemote (ctx : BitVec 32)
  /-- TIER_DISCARD (R282): Tier action DISCARD frees a context's frames and CELLAR slots. -/
  | tierDiscard (ctx : BitVec 32)
  /-- TIER_RENEW (R281): Tier action RENEW restarts a CELLAR timer. -/
  | tierRenew (ctx : BitVec 32)
  /-- WARM_EXPIRY (R282): A WARM time to live ends and the context is demoted or discarded. -/
  | warmExpiry (expiry : WarmExpiry)
  /-- CELLAR_EXPIRY (R282): A CELLAR time to live ends and the context is discarded. -/
  | cellarExpiry (ctx : BitVec 32)
  /-- TIER_MOVE_COMPLETE (R285): The KV mover completes a tier move and the part reports it to the admitting part. -/
  | tierMoveComplete (ctx : BitVec 32) (slots : List (List Byte))
  /-- DATA_AREA_SIZE_WRITE (R262): A write of the data-area size discards every context on the part. -/
  | dataAreaSizeWrite (rq : Requester) (mib : BitVec 32)
  /-- SUBMISSION_DOORBELL (R393): A host writes a submission tail; invalid values put the queue pair in ERROR. -/
  | submissionDoorbell (p : HostPort) (n : Byte) (tail : BitVec 32)
  /-- COMPLETION_HEAD_DOORBELL (R395): A host writes a completion head, freeing ring slots for reservation. -/
  | completionHeadDoorbell (p : HostPort) (n : Byte) (head : BitVec 32)
  /-- SUBMIT (R290): A SUBMIT entry is consumed, checked and placed in the pending table. -/
  | submit (p : HostPort) (n : Byte) (e : SubEntry)
  /-- CANCEL (R298): A CANCEL entry ends its request at the next step boundary. -/
  | cancel (p : HostPort) (n : Byte) (tag : EntryTag)
  /-- PAUSE (R290): A PAUSE entry issues tier PAUSE for an idle context. -/
  | pause (p : HostPort) (n : Byte) (tag : EntryTag) (ctx : BitVec 32)
  /-- RENEW (R289): A RENEW entry issues tier RENEW. -/
  | renew (p : HostPort) (n : Byte) (tag : EntryTag) (ctx : BitVec 32)
  /-- DISCARD (R290): A DISCARD entry issues tier DISCARD for an idle context. -/
  | discard (p : HostPort) (n : Byte) (tag : EntryTag) (ctx : BitVec 32)
  /-- ADMISSION (R297): A pending request is admitted once barrier, bucket, limits and context conditions hold. -/
  | admission (req : BitVec 32)
  /-- PENDING_DEADLINE_EXPIRED (R297): A pending request's deadline passes and it ends EXPIRED without charge. -/
  | pendingDeadlineExpired (req : BitVec 32)
  /-- BUCKET_REFILL (R295): Every 1 ms each tenant bucket gains its rate share up to its burst. -/
  | bucketRefill
  /-- TENANT_CONFIG_WRITE (R295): A write of tenant configuration applies at the next millisecond and cuts the level to the burst. -/
  | tenantConfigWrite (rq : Requester) (cfg : List Byte)
  /-- TOKEN_SELECTION (R301): The token stage applies bias, grammar, top-k, top-p and the draw once a position's logits arrive. -/
  | tokenSelection (step : BitVec 64) (logits : List (List Logit)) (heads : List (List Logit)) (upset : Option Upset)
  /-- TOKEN (R337): A TOKEN transfer reaches stage 0 with returned tokens and commit record. -/
  | token (m : TokenMsg)
  /-- GRAMMAR_IMAGE_WRITE (R305): A grammar image is checked and forwarded to pairs 30 and 31. -/
  | grammarImageWrite (rq : Requester) (img : List Byte)
  /-- DRAFT (R320): Stage 31 commits the accepted path in draft KV, drafts a new tree and sends it to stage 0. -/
  | draft (ctx : BitVec 32) (cands : List DraftCand)
  /-- TREE (R323): A TREE transfer reaches stage 0 and satisfies the draft condition. -/
  | tree (step : BitVec 64) (ctx : BitVec 32) (tree : TreeRec)
  /-- DRAFT_WAIT_EXPIRED (R323): The draft wait passes without a tree and the step launches plain. -/
  | draftWaitExpired (ctx : BitVec 32)
  /-- SPEC_REPORT (R326): A speculation report updates the request's mode and miss count at stage 31. -/
  | specReport (ctx : BitVec 32) (m : BitVec 4) (ranIn : BitVec 2)
  /-- MISS_LIMIT (R326): The miss count reaches the miss limit and the mode becomes FALLBACK. -/
  | missLimit (ctx : BitVec 32)
  /-- FALLBACK_END (R326): The fall-back count reaches zero and the mode becomes PROBE. -/
  | fallbackEnd (ctx : BitVec 32)
  /-- MODE (R326): A MODE notice tells stage 0 the mode in force. -/
  | mode (ctx : BitVec 32) (mode : BitVec 2)
  /-- REBUILD_COMPLETE (R324): Draft prefill completes and the first tree is sent. -/
  | rebuildComplete (ctx : BitVec 32) (cands : List DraftCand)
  /-- SPECULATION_CONFIG_WRITE (R328): A speculation setting write is forwarded to pairs 30 and 31. -/
  | speculationConfigWrite (rq : Requester) (limits : Bool) (sub : Byte) (v : BitVec 32)
  /-- TRAINING_COMPLETE (R352): A training attempt ends; the port enters IDENT or stays DOWN. -/
  | trainingComplete (p : PortId) (lanesGood : BitVec 8) (peerDegrade : Bool)
  /-- TRAINING_RETRY (R352): Every 1 s a DOWN port tries training again. -/
  | trainingRetry (p : PortId)
  /-- IDENT (R354): A received IDENT is compared with the neighbour entry; the port goes UP or QUARANTINE. -/
  | ident (p : PortId) (id : IdentBody)
  /-- IDENT_TIMEOUT (R352): No peer IDENT arrives within 10 ms and the port goes DOWN. -/
  | identTimeout (p : PortId)
  /-- PEER_SESSION (R499): Within 1 s of a port going UP the islands open a peer SPDM session and check the serial. -/
  | peerSession (p : PortId) (chainGood : Bool) (serial : BitVec 64)
  /-- PORT_DOWN (R344): A port loses FEC lock, sees errors, replays 8 times or goes silent and retrains. -/
  | portDown (p : PortId)
  /-- DATA (R335): A DATA frame arrives and its transfer frame is accepted or refused. -/
  | data (p : PortId) (seq : BitVec 32) (hdr : TransportHdr) (stepHdr : Option StepHdr) (payload : List Byte) (faults : FrameFaults)
  /-- LACK (R343): A LACK acknowledges frames and returns credit. -/
  | lack (p : PortId) (acked : BitVec 32) (cls : BitVec 2) (granules : BitVec 14)
  /-- LNAK (R343): An LNAK makes the sender replay. -/
  | lnak (p : PortId) (acked : BitVec 32)
  /-- IDLE (R334): An IDLE frame carries no body. -/
  | idle (f : IdleFrame)
  /-- LINK_REPLAY_TIMEOUT (R343): No acknowledgement advances for 1 us and the sender replays. -/
  | linkReplayTimeout (p : PortId)
  /-- ACT (R347): An ACT transfer is accepted into the receive pool for its input slot. -/
  | act (src : BitVec 16) (tid : BitVec 32)
  /-- REPAIR (R116): A REPAIR request makes a steep source resend a chunk. -/
  | repair (src : BitVec 16) (image : BitVec 64) (chunk : BitVec 32)
  /-- MGMT (R422): A MGMT transfer is handled as a side-band NOA request. -/
  | mgmt (src : BitVec 16) (m : NoaMsg)
  /-- ACK (R348): An ACK clears its target's outstanding bit. -/
  | ack (src : BitVec 16) (tid : BitVec 32)
  /-- NACK (R346): A NACK schedules a retry or fails the transfer. -/
  | nack (src : BitVec 16) (tid : BitVec 32) (reason : NackReason)
  /-- TRANSFER_INCOMPLETE_TIMEOUT (R346): An accepted transfer still missing frames after 10 us is discarded. -/
  | transferIncompleteTimeout (src : BitVec 16) (tid : BitVec 32)
  /-- NOBUF_RETRY (R349): The retry interval after a NOBUF refusal passes and the transfer is resent. -/
  | nobufRetry (tid : BitVec 32)
  /-- DELIVERY_TIMEOUT (R349): No ACK or NACK arrives within the delivery timeout and the transfer is resent. -/
  | deliveryTimeout (tid : BitVec 32)
  /-- RETRY_LIMIT (R349): A transfer exhausts the retry limit; it fails and so does its step. -/
  | retryLimit (tid : BitVec 32)
  /-- PORT_RETRAIN (R356): Port command 0x01 retrains the port. -/
  | portRetrain (rq : Requester) (p : PortId)
  /-- PORT_DISABLE (R352): Port command 0x02 disables the port at the next step boundary. -/
  | portDisable (rq : Requester) (p : PortId)
  /-- PORT_ENABLE (R352): Port command 0x03 enables a disabled port. -/
  | portEnable (rq : Requester) (p : PortId)
  /-- NEIGHBOUR_ENTRY_WRITE (R356): A write of a neighbour entry retrains its port. -/
  | neighbourEntryWrite (rq : Requester) (p : PortId) (entry : List Byte)
  /-- SLIP (R178): A SLIP notice updates k and moves the kindle tick. -/
  | slip (step : BitVec 64) (k : SlipCount)
  /-- ABANDON (R366): An ABANDON notice makes the retaining part resend a step or the admitting part restart it. -/
  | abandon (src : BitVec 16) (step : BitVec 64) (stage : Byte)
  /-- REPLAY_LIMIT (R368): A failure beyond the replay limit ends the request FAILED. -/
  | replayLimit (step : BitVec 64)
  /-- GEN_FAULT (R147): A GEN_FAULT notice makes the admitting part discard the step and apply the old-generation action. -/
  | genFault (step : BitVec 64) (ctx : BitVec 32)
  /-- GEN_POINTER (R140): A GEN_POINTER notice updates a part's copy of the current generation. -/
  | genPointer (gen : BitVec 32) (edge : BitVec 64)
  /-- GEN_REPORT (R141): A GEN_REPORT notice updates the rack generation map. -/
  | genReport (src : BitVec 16) (gen : BitVec 32) (pred : BitVec 32)
  /-- TIER (R281): A TIER notice carries a tier action to a part. -/
  | tier (ctx : BitVec 32) (action : Byte)
  /-- TIER_REPORT (R285): A TIER_REPORT notice reports HOT, LOST or discarded. -/
  | tierReport (src : BitVec 16) (ctx : BitVec 32) (report : TierReport)
  /-- COMMIT (R365): A COMMIT notice frees retained inputs. -/
  | commit (src : BitVec 16) (step : BitVec 64)
  /-- STAGE_TABLE_WRITE (R361): A stage table write is checked and distributed. -/
  | stageTableWrite (rq : Requester) (img : List Byte)
  /-- STEP_COMMIT (R364): A step is committed once completed, acknowledged and mirrored. -/
  | stepCommit (step : BitVec 64)
  /-- KV_ENTRY (R369): A KV_ENTRY mirror record writes a page entry at the standby. -/
  | kvEntry (die : BitVec 1) (hdr : PageHdr) (entries : List KvSlot)
  /-- KV_COMMIT (R369): A KV_COMMIT mirror record applies a commit at the standby. -/
  | kvCommit (ctx : BitVec 32) (layer : BitVec 6) (head : BitVec 4) (f : BitVec 32) (m : BitVec 4) (nodes : List (BitVec 5))
  /-- CONTEXT (R369): A CONTEXT mirror record applies a context record change. -/
  | context (ctx : BitVec 32) (c : ContextEdit)
  /-- REQUEST (R369): A REQUEST mirror record updates request and sampler state. -/
  | request (r : ReqMirror)
  /-- STEP_DONE (R369): A STEP_DONE mirror record closes a step's records. -/
  | stepDone (step : BitVec 64)
  /-- COPY (R377): A COPY mirror record installs a context or request state. -/
  | copy (c : CopyRec)
  /-- SHADOW_IN (R370): A SHADOW_IN record gives the standby a shadow-checked step's input. -/
  | shadowIn (step : BitVec 64) (hdr : StepHdr) (slot : BitVec 16) (input : List Byte)
  /-- SHADOW_RUN (R370): The standby runs the step on its hearths once the input is complete. -/
  | shadowRun (step : BitVec 64)
  /-- SHADOW_OUT (R371): A SHADOW_OUT record is compared with the shadow run's output. -/
  | shadowOut (step : BitVec 64) (theirs : List Byte) (ours : List Byte)
  /-- ENTRY_TEST (R372): Repeated disagreements make the admitting part test both positions. -/
  | entryTest (entry : BitVec 16)
  /-- MIRROR_HEARTBEAT (R369): A HEARTBEAT mirror record is answered. -/
  | mirrorHeartbeat (src : BitVec 16) (serial : BitVec 64) (role : Byte) (seq : BitVec 32)
  /-- ROLE_FAILED (R375): A ROLE FAILED record makes the twin take over. -/
  | roleFailed (endpoint : BitVec 64) (entry : BitVec 16) (seq : BitVec 32)
  /-- ROLE_TAKEOVER (R375): A ROLE TAKEOVER record reroutes traffic. -/
  | roleTakeover (endpoint : BitVec 64) (entry : BitVec 16) (seq : BitVec 32)
  /-- ROLE_JOIN (R379): A ROLE JOIN record lists a spare or rejoins a position. -/
  | roleJoin (endpoint : BitVec 64) (entry : BitVec 16) (seq : BitVec 32)
  /-- ROLE_ASSIGN (R380): A ROLE ASSIGN record makes a spare recover an entry. -/
  | roleAssign (endpoint : BitVec 64) (entry : BitVec 16) (seq : BitVec 32)
  /-- RECOVERY_COMPLETE (R380): The assigned spare finishes and the MANAGER applies a table naming it. -/
  | recoveryComplete (entry : BitVec 16)
  /-- ROLE_REPORT (R374): A ROLE REPORT record makes the admitting part probe a position. -/
  | roleReport (endpoint : BitVec 64) (entry : BitVec 16) (seq : BitVec 32)
  /-- FAILURE_PROBE_TIMEOUT (R374): No heartbeat answers the probe and the position is declared failed. -/
  | failureProbeTimeout (endpoint : BitVec 64)
  /-- ROLE_DRAIN (R381): Role command 0x01 drains the part. -/
  | roleDrain (rq : Requester)
  /-- ROLE_RETURN (R381): Role command 0x02 rejoins a DRAINED part. -/
  | roleReturn (rq : Requester)
  /-- ROLE_RELEASE (R381): Role command 0x03 makes a DRAINED part SPARE. -/
  | roleRelease (rq : Requester)
  /-- ROLE_REPLACE (R381): Role command 0x04 recovers a spare into a serving part's position. -/
  | roleReplace (rq : Requester)
  /-- PCIE_LINK_UP (R387): A PCIe link trains and QUEUES is set per its rate and width. -/
  | pcieLinkUp (p : HostPort) (rate : BitVec 4) (width : BitVec 4) (flit : Bool)
  /-- PORT_RESET (R400): PERST_N, hot reset or link down ends the port's requests. -/
  | portReset (p : HostPort)
  /-- FUNCTION_LEVEL_RESET (R399): An FLR resets the function and ends its requests. -/
  | functionLevelReset (p : HostPort)
  /-- D3HOT_ENTRY (R399): D0 to D3hot disables the port's queue pairs. -/
  | d3hotEntry (p : HostPort)
  /-- BAR2_READ (R391): A BAR2 read is completed or aborted. -/
  | bar2Read (p : HostPort) (addr : BitVec 30) (len : Nat)
  /-- BAR2_WRITE (R391): A BAR2 write is performed or discarded. -/
  | bar2Write (p : HostPort) (addr : BitVec 30) (data : List Byte)
  /-- QUEUE_PAIR_ENABLE (R392): Command 0x01 enables a DISABLED queue pair. -/
  | queuePairEnable (rq : Requester)
  /-- QUEUE_PAIR_DISABLE (R392): Command 0x02 drains or disables a queue pair. -/
  | queuePairDisable (rq : Requester)
  /-- INTERRUPT_COALESCE_TIMEOUT (R396): The coalesce time passes and the vector is sent. -/
  | interruptCoalesceTimeout (p : HostPort) (n : Byte)
  /-- OWNERSHIP_CLAIM (R398): Command 0x01 claims control. -/
  | ownershipClaim (rq : Requester)
  /-- OWNERSHIP_RELEASE (R398): Command 0x02 releases control. -/
  | ownershipRelease (rq : Requester)
  /-- FORCED_TAKE_OVER (R398): The side-band sets the controlling host. -/
  | forcedTakeOver (rq : Requester) (v : Byte)
  /-- EVENT_CAUSE_CLEAR (R388): Writing 1 to an event cause bit clears it. -/
  | eventCauseClear (p : HostPort) (v : BitVec 32)
  /-- EVENT_RING_DOORBELL (R480): A host writes an event ring head. -/
  | eventRingDoorbell (p : HostPort) (head : BitVec 32)
  /-- OBJ_READ (R407): An OBJ_READ frame performs a side-band read on the main side. -/
  | objRead (corr : BitVec 32) (idx : BitVec 16) (sub : Byte) (offset : BitVec 32) (len : BitVec 32)
  /-- OBJ_WRITE (R407): An OBJ_WRITE frame performs a side-band write or command. -/
  | objWrite (corr : BitVec 32) (idx : BitVec 16) (sub : Byte) (op : AccessOp) (offset : BitVec 32) (data : List Byte)
  /-- OBJ_RESULT (R407): An OBJ_RESULT frame answers a side-band request. -/
  | objResult (corr : BitVec 32) (result : BitVec 16) (data : List Byte)
  /-- EVENT (R481): An EVENT frame queues a record at the island. -/
  | event (rec : List Byte)
  /-- CAL_IMAGE (R407): A CAL_IMAGE frame moves part of the calibration image. -/
  | calImage (toMain : Bool) (offset : BitVec 32) (data : List Byte)
  /-- BLOB_SEGMENT (R407): A BLOB_SEGMENT frame moves part of a BLOB. -/
  | blobSegment (toMain : Bool) (idx : BitVec 16) (sub : Byte) (offset : BitVec 32) (total : BitVec 32) (data : List Byte)
  /-- MGMT_FRAME (R422): A MGMT_FRAME carries a fabric NOA datagram. -/
  | mgmtFrame (toMain : Bool) (m : NoaMsg)
  /-- KEY_OP (R487): A KEY_OP unwraps a content key. -/
  | keyOp (ephemeral : List Byte) (image : BitVec 64) (serial : BitVec 64) (wrapped : List Byte)
  /-- BOOT_IMAGE (R495): BOOT_IMAGE frames carry the main-side code for a digest check. -/
  | bootImage (offset : BitVec 32) (data : List Byte) (last : Bool)
  /-- HEARTBEAT (R409): A barrier HEARTBEAT is taken. -/
  | heartbeat (toMain : Bool) (seq : BitVec 16) (state : Byte) (hottest : BitVec 16) (rackTime : BitVec 64)
  /-- HEARTBEAT_TIMER (R409): Every 1 ms each end sends HEARTBEAT. -/
  | heartbeatTimer (toMain : Bool) (t140 : BitVec 16) (t141 : BitVec 16)
  /-- MAIN_RESET (R406): MAIN_RESET resets the main side. -/
  | mainReset
  /-- MAIN_OFF (R411): MAIN_OFF powers the main side down. -/
  | mainOff (forced : Bool)
  /-- TEMP_TRIP (R411): TEMP_TRIP makes the island power the main side off. -/
  | tempTrip (sensor : BitVec 16)
  /-- BARRIER_ACK (R408): An ACK frame releases a barrier frame. -/
  | barrierAck (toMain : Bool) (urgent : Bool) (seq : BitVec 16)
  /-- BARRIER_RESEND_TIMEOUT (R408): 200 us without ACK resends normal frames. -/
  | barrierResendTimeout (toMain : Bool)
  /-- URGENT_REPEAT (R408): Every 10 us an unacknowledged urgent frame is repeated. -/
  | urgentRepeat (toMain : Bool)
  /-- HEARTBEAT_MISSING (R410): 10 missing heartbeats make the main side UNRESPONSIVE. -/
  | heartbeatMissing
  /-- ISLAND_LOST (R412): 10 missing heartbeats make the island LOST. -/
  | islandLost
  /-- HANG_TIMEOUT (R410): The hang timeout passes and MAIN_RESET is sent. -/
  | hangTimeout
  /-- POWER_ON (R414): Command 0x01 sequences the main side up. -/
  | powerOn (rq : Requester)
  /-- ORDERLY_OFF (R414): Command 0x02 drains and then sends MAIN_OFF. -/
  | orderlyOff (rq : Requester)
  /-- ORDERLY_OFF_DRAINED (R414): The drain ends and MAIN_OFF is sent. -/
  | orderlyOffDrained
  /-- MAIN_SIDE_RESET_COMMAND (R414): Command 0x03 sends MAIN_RESET. -/
  | mainSideResetCommand (rq : Requester)
  /-- FORCED_POWER_OFF (R414): Forced MAIN_OFF. -/
  | forcedPowerOff (rq : Requester)
  /-- ISLAND_RESET (R415): OD 0x1300.04 resets the island. -/
  | islandReset (rq : Requester)
  /-- ISLAND_WATCHDOG (R415): The island watchdog resets the island. -/
  | islandWatchdog
  /-- GET_VERSION (R496): SPDM GET_VERSION. -/
  | getVersion (conn : BitVec 2)
  /-- GET_CAPABILITIES (R496): SPDM GET_CAPABILITIES. -/
  | getCapabilities (conn : BitVec 2)
  /-- NEGOTIATE_ALGORITHMS (R496): SPDM NEGOTIATE_ALGORITHMS. -/
  | negotiateAlgorithms (conn : BitVec 2) (offersSupported : Bool)
  /-- GET_DIGESTS (R496): SPDM GET_DIGESTS. -/
  | getDigests (conn : BitVec 2)
  /-- GET_CERTIFICATE (R486): SPDM GET_CERTIFICATE. -/
  | getCertificate (conn : BitVec 2) (slot : Byte) (offset : BitVec 16) (len : BitVec 16)
  /-- CHALLENGE (R496): SPDM CHALLENGE. -/
  | challenge (conn : BitVec 2) (slot : Byte) (nonce : List Byte)
  /-- GET_MEASUREMENTS (R498): SPDM GET_MEASUREMENTS. -/
  | getMeasurements (conn : BitVec 2) (index : Byte) (signed : Bool) (nonce : List Byte)
  /-- KEY_EXCHANGE (R497): SPDM KEY_EXCHANGE. -/
  | keyExchange (conn : BitVec 2) (requester : SpdmRequester)
  /-- FINISH (R496): SPDM FINISH. -/
  | finish (conn : BitVec 2) (verifies : Bool)
  /-- KEY_UPDATE (R496): SPDM KEY_UPDATE. -/
  | keyUpdate (conn : BitVec 2)
  /-- SPDM_HEARTBEAT (R496): SPDM HEARTBEAT. -/
  | spdmHeartbeat (conn : BitVec 2)
  /-- END_SESSION (R496): SPDM END_SESSION. -/
  | endSession (conn : BitVec 2)
  /-- DROOP_TRIGGER (R448): A VDD_CORE droop triggers an injected sequence. -/
  | droopTrigger
  /-- DRIVE_EVENT_TRIGGER (R448): The first issuing DRV after a launch triggers an injected sequence. -/
  | driveEventTrigger
  /-- INJECTED_SAMPLE (R448): The injected sequence samples after its delay. -/
  | injectedSample (codes : List (BitVec 12 × Bool))
  /-- DAMPER_GRACE_END (R453): The damper grace ends and the damper level may rise. -/
  | damperGraceEnd
  /-- DAMPER_STEP_UP (R453): Every 5 ms C rises if hot or over power. -/
  | damperStepUp
  /-- DAMPER_STEP_DOWN (R453): 50 ms after a change C falls if cool. -/
  | damperStepDown
  /-- PMB_ALERT (R509): PMB_ALERT_N reads STATUS_WORD. -/
  | pmbAlert
  /-- PMBUS_RETRY (R509): Every 1 ms an unacknowledged set point write is retried. -/
  | pmbusRetry (acked : Bool)
  /-- EVENT_RING_WRITE (R480): Queued records are written to an event ring with room. -/
  | eventRingWrite (p : HostPort)
  /-- SIDE_BAND_DATAGRAM (R481): The island sends a record datagram from its bucket. -/
  | sideBandDatagram
  /-- SOOT_RING_WRITE (R482): A record is written to the soot ring. -/
  | sootRingWrite
  /-- SOOT_HEADER_REWRITE (R482): Every 1 ms the soot header is rewritten. -/
  | sootHeaderRewrite
  /-- SOOT_FREEZE (R483): Command 0x01 freezes the soot ring. -/
  | sootFreeze (rq : Requester)
  /-- SOOT_RESUME (R483): Command 0x02 resumes the soot ring. -/
  | sootResume (rq : Requester)
  /-- SOOT_AUTO_RESUME (R483): 600 s after ready a frozen soot ring resumes. -/
  | sootAutoResume
  /-- ERROR_LOG_CLEAR (R469): Command 0x01 clears OD 0x6001 to 0x6003. -/
  | errorLogClear (rq : Requester)
  /-- UNIT_FENCE (R465): A unit with residue or parity errors in two steps within 10 s is fenced. -/
  | unitFence (unit : BitVec 32)
  /-- TEST_DUE (R472): The test interval since a hearth's last pass passes and it is DUE. -/
  | testDue (h : HearthId)
  /-- TEST_OVERDUE (R473): The overdue grace passes and the hearth is OVERDUE. -/
  | testOverdue (h : HearthId)
  /-- ROUTINE_TEST_START (R472): A due routine test starts. -/
  | routineTestStart (h : HearthId)
  /-- DEEP_TEST (R474): OD 0x6101 starts deep tests. -/
  | deepTest (rq : Requester) (mask : BitVec 128)
  /-- TEST_COMPLETE (R475): A test ends and its outcome is applied. -/
  | testComplete (h : HearthId) (findings : List TestFinding)
  /-- COVER_POLL (R473): Once per second the admitting part reads test and calibration status. -/
  | coverPoll (due : List CoverDue)
  /-- OWNER_KEY_WRITE (R489): An owner statement is written to an owner slot. -/
  | ownerKeyWrite (rq : Requester) (slot : BitVec 2) (stmt : List Byte)
  /-- PUBLISHER_KEY_WRITE (R492): An owner statement is written to a publisher slot. -/
  | publisherKeyWrite (rq : Requester) (slot : BitVec 4) (stmt : List Byte)
  /-- FIRMWARE_INSTALL (R493): Command 0x01 installs the firmware image. -/
  | firmwareInstall (rq : Requester)
  /-- FIRMWARE_ACTIVATE (R494): Command 0x02 marks the VALID slot for trial. -/
  | firmwareActivate (rq : Requester)
  /-- ISLAND_BOOT (R494): The island boot ROM checks and boots a slot. -/
  | islandBoot
  /-- TRIAL_COMMIT (R494): After 60 s and readiness the trial slot is committed. -/
  | trialCommit
  /-- TRIAL_FAIL (R494): The trial fails and the island returns to the other slot. -/
  | trialFail
  /-- VISO_POWER_ON (R500): VISO enters its range and the island starts. -/
  | visoPowerOn
  /-- MAIN_SIDE_READY (R501): The part becomes ready to serve and sets READY. -/
  | mainSideReady
  /-- POWER_GOOD (R510): A SEQ_PG rises and the next enable follows. -/
  | powerGood (n : BitVec 3)
  /-- POWER_GOOD_TIMEOUT (R512): A power-good is late during power-up. -/
  | powerGoodTimeout (n : BitVec 3)
  /-- POWER_GOOD_LOST (R512): A power-good falls and a forced MAIN_OFF is sent. -/
  | powerGoodLost (n : BitVec 3)
  /-- POWER_UP_RETRY (R512): 1 s after a power failure the island starts again. -/
  | powerUpRetry
  /-- POWER_DOWN_STEP (R511): One enable is dropped per step of power-down. -/
  | powerDownStep
  /-- VISO_BROWN_OUT (R513): VISO falls and the island resets or the main side loses power. -/
  | visoBrownOut (below2V : Bool)
  /-- BYPASS (R519): TAP BYPASS. -/
  | bypass
  /-- IDCODE (R519): TAP IDCODE. -/
  | idcode
  /-- SAMPLE_PRELOAD (R519): TAP SAMPLE/PRELOAD. -/
  | samplePreload
  /-- EXTEST (R519): TAP EXTEST. -/
  | extest
  /-- EXTEST_PULSE (R519): TAP EXTEST_PULSE. -/
  | extestPulse
  /-- EXTEST_TRAIN (R519): TAP EXTEST_TRAIN. -/
  | extestTrain
  /-- CLAMP (R519): TAP CLAMP. -/
  | clamp
  /-- HIGHZ (R519): TAP HIGHZ. -/
  | highz
  /-- TAP_RESET (R519): TRST_N low resets the TAP. -/
  | tapReset
  /-- HOLD_N_STUCK_CLEARED (R177): A HOLD_N line treated as stuck has been high for 8 tk and the part samples it again. -/
  | holdNStuckCleared
  /-- LEVEL_READ_COMPLETE (R129): The level read of all rows of an array being self-refreshed, or repaired after an in-service fault, ends and its digest is compared, leading to programming or FENCED. -/
  | levelReadComplete (a : ArrayId) (rows : List (List Byte))
  /-- MAIN_SIDE_RESET_RELEASED (R510): At least 4 ms after SEQ_PG5 the island releases the main-side reset and reference acquisition begins. -/
  | mainSideResetReleased
  /-- LACK_TIMER (R343): A receiver sends LACK because 200 ns have passed since its last acknowledgement. -/
  | lackTimer (p : PortId)
  /-- IDLE_TIMER (R334): A port sends an IDLE frame because 1 us has passed with no other frame due. -/
  | idleTimer (p : PortId)
  /-- IDENT_REPEAT (R352): A port sends IDENT again, every 10 us in IDENT state and every 1 s when UP. -/
  | identRepeat (p : PortId)
  /-- HOST_READ_COMPLETION (R290): A PCIe read of host memory (prompt, bias list, steep image or CELLAR slot) completes with data or error, and an error is retried once. -/
  | hostReadCompletion (p : HostPort) (tag : BitVec 10) (data : List Byte) (ok : Bool)
  /-- SIDE_BAND_LINK_CHANGE (R417): The 10BASE-T1S side-band link comes up in CSMA/CD or PLCA mode, or goes down, and OD 0x1310.05 changes. -/
  | sideBandLinkChange (link : Byte)
  /-- ICMPV6_REQUEST (R418): The island answers an IPv6 neighbour discovery or ICMPv6 echo message on the side-band. -/
  | icmpv6Request (echo : Bool) (id : BitVec 32) (data : List Byte)
  /-- GLIDE_COMPLETE (R162): A core frequency glide reaches its target, and after a fall the lower VDD_CORE set point is written. -/
  | glideComplete
  /-- SET_POINT_SETTLE_WAIT (R509): 100 us after a higher VDD_CORE set point is written, the part starts raising the core frequency. -/
  | setPointSettleWait
deriving DecidableEq, Repr

end Sys2Proof
end

