-- ==== Sys2Proof/Decode.lean ====
section
/-! DEFINITION. Decode.lean: the command a word of the opcode table spells. The table gives bits to none of its rows
(spec/opcode_table.json), so no word spells a command. -/

namespace Sys2Proof

/-- The command a word spells by the table's bits: none, for the table gives no row bits. -/
def decodeTableWord (_nbits _w : Nat) : Option Instr := none

end Sys2Proof
end

