-- ==== Sys2Proof/Config.lean ====
section
/-! DEFINITION. Config.lean: what the spec leaves to the implementation or leaves open. Every constant here is opaque:
nothing in Lean can evaluate it, and a statement that mentions one holds for every value it may have. Most take a
number that is the operands, or the counter `State.free` that the step advances with every draw. -/

namespace Sys2Proof.Config

/-- The conversion noise of one conversion in thousandths of its RMS figure (R93), drawn afresh at every conversion: zero-mean, of RMS 1000. -/
opaque converterError : Nat → Int

/-- The part of the error that a column keeps until the next run or steep, in thousandths of its RMS figure (R93), by column, time of the
last run and wear count: zero-mean, of RMS at most 1000. -/
opaque columnDeviate : Nat → Nat → Nat → Int

/-- The error of one conversion in 10⁻⁹ of full scale where no bound is promised (R92, R93). -/
opaque unboundedError : Nat → Int

/-- The share of the relaxation that is common to an array's columns, in thousandths (R91 gives no figure), by array. -/
opaque commonShare : Nat → Nat

/-- The residual error of a level of the reference chain in thousandths of its RMS figure (R95): level 1 of the part for 0, else level 2 of
hearth n − 1, by the time of the hearth's last run. -/
opaque referenceDeviate : Nat → Nat → Int

/-- The threshold error of one window comparator decision in thousandths of its RMS figure (R65, R93). -/
opaque comparatorError : Nat → Int

/-- The payload bits of a NaN the part writes (R51 gives no pattern), by the operands. -/
opaque nanPayload : Nat → Nat

/-- A value the spec does not state, drawn afresh. -/
opaque freeWord : Nat → Nat

/-- A scalar sum outside 32 bits (GADD, Table 08-11 states no result), by its operands. -/
opaque gaddOverflow : Nat → Nat → Nat

/-- The reciprocal and reciprocal square root of 0 and the reciprocal square root of a negative number (Table 08-11
states none), by the operation and the operand. -/
opaque poleValue : Nat → Nat → Nat

/-- The order in which TOPK gives equal lanes (Table 08-11 states none), by draw and lane. -/
opaque tieRank : Nat → Nat → Nat

/-- The per-part voltage table of VDD_CORE set points in mV, by core frequency in MHz (R509), stored at manufacture. -/
opaque setPointMv : Nat → Nat

/-- SHA-512 (R113, R130, R493, R495, R498). -/
opaque sha512 : List Byte → List Byte

/-- Whether an ECDSA P-521 signature of 132 bytes over a message verifies under a public key (R110, R489, R493). -/
opaque ecdsaVerifies : List Byte → List Byte → List Byte → Bool

/-- The signature the identity key makes over a message (R496). -/
opaque identitySign : List Byte → List Byte

/-- The content key that the island unwraps from an ephemeral key, image id, part serial and wrapped key (R114, R487);
none where the unwrap fails. -/
opaque unwrapKey : List Byte → Nat → Nat → List Byte → Option (List Byte)

/-- AES-256-GCM decryption under a key of the chunk with a nonce counter, its associated data and ciphertext with tag (R114);
none where the tag does not verify. -/
opaque aesGcmOpen : List Byte → Nat → List Byte → List Byte → Option (List Byte)

/-- Whether a DER chain ends at a key whose SHA-512 is a given hash, and the public key of its leaf (R493). -/
opaque chainLeaf : List Byte → List Byte → Option (List Byte)

/-- The lid of the part, with which its ordering code ends: V or C (OD 0x1001, R1). -/
opaque vaporChamber : Bool

/-- The firmware image with which a part leaves manufacture, in slot A. -/
opaque factoryImage : List Byte

/-- What stage 30 knows of a request's sampling parameters where it is not the admitting part: no rule says how they reach it.
By context handle, step and field. -/
opaque remoteParam : Nat → Nat → Nat → Nat

/-- The variant mask (OD 0x3402) of another part of the stage table: no rule says how the admitting part learns it. By endpoint and sequence
of the table. -/
opaque partVariants : Nat → Nat → Nat

/-- The sampling time of a step (R291): the TOKEN payload of R337 has no place for it. By step id. -/
opaque samplingTime : Nat → Nat

/-- The part power of a housekeeping round in W (OD 0x2000.01), from the latest results of the rails and currents: no rule gives
its formula. -/
opaque partPower : List Nat → Nat

/-- The hash of source endpoint, destination endpoint and class that flow labels and source ports take (14 R339): the spec does not give
it (log 212). -/
opaque flowHash : Nat → Nat → Nat → Nat

/-- The UDP source port that a hash gives (14 R339; log 212). -/
opaque flowPort : Nat → Nat

/-- Whether the ACT transfers of an input slot carry B8 blocks: nothing in a transfer tells (15 R371; log 213). -/
opaque actB8 : Nat → Bool

end Sys2Proof.Config
end

