-- ==== Sys2Proof/Machine/Bits.lean ====
section
/-! DEFINITION. Machine/Bits.lean: bit fields, byte order, checks and exact arithmetic shared by every chapter. -/

namespace Sys2Proof.Machine

/-- Bits [hi:lo] of a number (R11). -/
def field (n hi lo : Nat) : Nat := n / 2 ^ lo % 2 ^ (hi + 1 - lo)

/-- Bit [i] of a number. -/
def bit (n i : Nat) : Bool := n / 2 ^ i % 2 == 1

/-- `n` with bit [i] set or cleared. -/
def setBit (n i : Nat) (v : Bool) : Nat :=
  if bit n i then (if v then n else n - 2 ^ i) else (if v then n + 2 ^ i else n)

/-- The number of set bits among bits 0 to w − 1. -/
def popCount (w n : Nat) : Nat := ((List.range w).filter (bit n)).length

/-- A Bool as a number. -/
def flagNat (b : Bool) : Nat := if b then 1 else 0

/-- ⌈a / b⌉. -/
def ceilDiv (a b : Nat) : Nat := (a + b - 1) / b

/-- A number as `w` bytes, least significant first (R13). -/
def leBytes : Nat → Nat → List Byte
  | 0, _ => []
  | w + 1, n => BitVec.ofNat 8 n :: leBytes w (n / 256)

/-- Little-endian bytes as a number (R13). -/
def leNat : List Byte → Nat
  | [] => 0
  | b :: bs => b.toNat + 256 * leNat bs

/-- A number as `w` bytes, most significant first (R333, R419). -/
def beBytes (w n : Nat) : List Byte := (leBytes w n).reverse

/-- Big-endian bytes as a number. -/
def beNat (bs : List Byte) : Nat := leNat bs.reverse

/-- `len` bytes from `off`, short at the end of the string. -/
def slice {α : Type} (off len : Nat) (bs : List α) : List α := (bs.drop off).take len

/-- The little-endian number in `len` bytes at `off`. -/
def leAt (bs : List Byte) (off len : Nat) : Nat := leNat (slice off len bs)

/-- Whether every byte of the range is 0 (a reserved field, R12). -/
def zeroAt (bs : List Byte) (off len : Nat) : Bool := (slice off len bs).all (fun b => b == 0)

/-- `bs` with `v` written at `off`, extended with zeros where it is shorter. -/
def patch (bs : List Byte) (off : Nat) (v : List Byte) : List Byte :=
  let pre := bs.take off
  pre ++ List.replicate (off - pre.length) 0 ++ v ++ bs.drop (off + v.length)

/-- A bit-reflected CRC-32 of a given polynomial, initial value and final inversion all ones. -/
def crcByte (poly : Nat) : Nat → Nat → Nat
  | 0, c => c
  | k + 1, c => crcByte poly k (if c % 2 = 1 then Nat.xor (c / 2) poly else c / 2)

def crcBytes (poly : Nat) : Nat → List Byte → Nat
  | c, [] => c
  | c, b :: bs => crcBytes poly (crcByte poly 8 (Nat.xor c b.toNat)) bs

/-- CRC-32 of IEEE 802.3, the check of images, records and headers. -/
def crc32 (bs : List Byte) : Nat := Nat.xor (crcBytes 0xEDB88320 0xFFFFFFFF bs) 0xFFFFFFFF

/-- CRC-32C, the check of barrier and link frames (R334, R407). -/
def crc32c (bs : List Byte) : Nat := Nat.xor (crcBytes 0x82F63B78 0xFFFFFFFF bs) 0xFFFFFFFF

/-- An integer held in two's complement in `w` bits. -/
def toSigned (w n : Nat) : Int := if n % 2 ^ w < 2 ^ (w - 1) then (n % 2 ^ w : Nat) else (n % 2 ^ w : Nat) - (2 ^ w : Nat)

/-- The two's-complement pattern of an integer in `w` bits. -/
def ofSigned (w : Nat) (i : Int) : Nat := (i % (2 ^ w : Nat)).toNat

/-- `i` held between `lo` and `hi`. -/
def clampInt (lo hi i : Int) : Int := if i < lo then lo else if hi < i then hi else i

/-- `n` over `d`, rounded to nearest with ties to even (R44). -/
def divRne (n : Int) (d : Nat) : Int :=
  let q := n / (d : Int)
  let r := n % (d : Int)
  if 2 * r < d then q else if (d : Int) < 2 * r then q + 1 else if q % 2 = 0 then q else q + 1

/-- Replace element `i` of a list. -/
def setAt {α : Type} (i : Nat) (v : α) (l : List α) : List α := l.set i v

/-- The bits set in a mask given as bytes, bit 0 of byte 0 first. -/
def maskBit (bs : List Byte) (i : Nat) : Bool := bit (bs.getD (i / 8) 0).toNat (i % 8)

/-- A mask of bytes with bit `i` set or cleared. -/
def maskPut (size : Nat) (bs : List Byte) (i : Nat) (v : Bool) : List Byte :=
  let full := bs ++ List.replicate (size - bs.length) 0
  setAt (i / 8) (BitVec.ofNat 8 (setBit (full.getD (i / 8) 0).toNat (i % 8) v)) full

end Sys2Proof.Machine
end

