-- ==== Sys2Proof/Machine/ObjectTable.lean ====
section
/-! DEFINITION. Machine/ObjectTable.lean: the object dictionary of the part (18_object_dictionary.md R427 to R440, and the
object tables of the chapters): one row per object with its type, access code, rights, default, persistence, the clock
enable that gates it (Table 07-8) and whether only the admitting part answers it (Table 18-4). Every number an object
shows is held in one table of State under the key of its instance, index, subindex and field. -/

namespace Sys2Proof.Machine

/-- Types of Table 00-3: numbers as the byte widths of their fields (`record` for a REC, one field otherwise), and byte
strings with their listed size, `fixed` when a write must have exactly that size (R431). -/
inductive OdType where
  | num (record : Bool) (widths : List Nat)
  | bytes (size : Nat) (fixed : Bool)
deriving DecidableEq, Repr

/-- Access codes of Table 00-3. -/
inductive OdCode where
  | ro
  | rw
  | wo
  | cmd
  | rwb
deriving DecidableEq, Repr

/-- One row of the dictionary. `lo`–`hi` are the indices it covers (one per hearth or port where the object is listed so),
`slo`–`shi` the subindices; `rh ro rs rf` the rights H, O, S, F; `default` the fields' defaults, a missing one is 0;
`stored` tells persistence N; `gate` is the bit of OD 0x2120 that gates it. -/
structure OdRow where
  lo : Nat
  hi : Nat
  slo : Nat
  shi : Nat
  type : OdType
  code : OdCode
  rightH : Bool
  rightO : Bool
  rightS : Bool
  rightF : Bool
  isBool : Bool
  default : List Nat
  stored : Bool
  gate : Option Nat
  admitting : Bool
deriving DecidableEq, Repr

/-- Rows 1 to 40 of the object dictionary (Table 18-4). -/
def odRows1 : List OdRow :=
  [⟨0x1000, 0x1000, 0x00, 0x00, .num false [8], .ro, false, false, false, false, false, [], true, none, false⟩,
   ⟨0x1001, 0x1001, 0x00, 0x00, .bytes 8 false, .ro, false, false, false, false, false, [], true, none, false⟩,
   ⟨0x1002, 0x1002, 0x00, 0x00, .num false [2], .ro, false, false, false, false, false, [176], true, none, false⟩,
   ⟨0x1003, 0x1003, 0x00, 0x00, .num true [1, 2, 2, 2, 2, 2, 2], .ro, false, false, false, false, false, [], false, none, false⟩,
   ⟨0x1004, 0x1004, 0x00, 0x00, .bytes 65536 false, .ro, false, false, false, false, false, [], true, none, false⟩,
   ⟨0x1005, 0x1005, 0x00, 0x00, .bytes 512 true, .ro, false, false, false, false, false, [], true, none, false⟩,
   ⟨0x1100, 0x1100, 0x01, 0x01, .num false [1], .ro, false, false, false, false, false, [255], true, none, false⟩,
   ⟨0x1100, 0x1100, 0x02, 0x02, .num false [1], .cmd, true, true, false, false, false, [], false, none, false⟩,
   ⟨0x1100, 0x1100, 0x03, 0x03, .num false [1], .cmd, false, false, true, false, false, [], false, none, false⟩,
   ⟨0x1100, 0x1100, 0x04, 0x04, .num false [4], .rw, true, false, true, false, false, [1000], true, none, false⟩,
   ⟨0x1200, 0x1200, 0x01, 0x01, .num true [4, 4, 4, 4, 4, 4, 4, 8, 8], .ro, false, false, false, false, false, [], false, none, false⟩,
   ⟨0x1200, 0x1200, 0x02, 0x02, .num true [4, 4, 4, 4, 4, 4, 4, 8, 8], .ro, false, false, false, false, false, [], false, none, false⟩,
   ⟨0x1200, 0x1200, 0x03, 0x03, .num true [2, 2, 2, 2], .ro, false, false, false, false, false, [], true, none, false⟩,
   ⟨0x1201, 0x1201, 0x01, 0x01, .num true [8, 8, 8, 8], .rw, true, false, true, false, false, [], false, none, false⟩,
   ⟨0x1201, 0x1201, 0x02, 0x02, .num true [8, 8, 8, 8], .rw, true, false, true, false, false, [], false, none, false⟩,
   ⟨0x1210, 0x1210, 0x01, 0x01, .num true [1, 2], .rw, true, true, true, false, false, [], false, none, false⟩,
   ⟨0x1210, 0x1210, 0x02, 0x02, .num true [8, 8, 8, 1, 1, 2, 1, 1, 2], .rw, true, true, true, false, false, [], false, none, false⟩,
   ⟨0x1210, 0x1210, 0x03, 0x03, .num false [1], .cmd, true, true, true, false, false, [], false, none, false⟩,
   ⟨0x1210, 0x1210, 0x04, 0x04, .num true [1, 4, 4, 4, 4, 8, 8], .ro, false, false, false, false, false, [], false, none, false⟩,
   ⟨0x1300, 0x1300, 0x01, 0x01, .num false [1], .cmd, true, false, true, false, false, [], false, none, false⟩,
   ⟨0x1300, 0x1300, 0x02, 0x02, .num false [1], .cmd, false, false, true, false, false, [], false, none, false⟩,
   ⟨0x1300, 0x1300, 0x03, 0x03, .num false [1], .ro, false, false, false, false, false, [], false, none, false⟩,
   ⟨0x1300, 0x1300, 0x04, 0x04, .num false [1], .cmd, false, false, true, false, false, [], false, none, false⟩,
   ⟨0x1301, 0x1301, 0x00, 0x00, .num true [8, 8, 4, 4, 4, 4, 4, 4], .ro, false, false, false, false, false, [], false, none, false⟩,
   ⟨0x1302, 0x1302, 0x01, 0x01, .num false [2], .rw, true, false, true, false, false, [100], true, none, false⟩,
   ⟨0x1302, 0x1302, 0x02, 0x02, .num false [1], .rw, true, false, true, false, false, [1], true, none, false⟩,
   ⟨0x1310, 0x1310, 0x01, 0x01, .num false [1], .rw, false, false, true, false, false, [255], true, none, false⟩,
   ⟨0x1310, 0x1310, 0x02, 0x02, .num false [1], .rw, false, false, true, false, false, [9], true, none, false⟩,
   ⟨0x1310, 0x1310, 0x03, 0x03, .num false [1], .rw, false, false, true, false, false, [32], true, none, false⟩,
   ⟨0x1310, 0x1310, 0x04, 0x04, .num false [1], .rw, false, false, true, false, false, [], true, none, false⟩,
   ⟨0x1310, 0x1310, 0x05, 0x05, .num false [1], .ro, false, false, false, false, false, [], false, none, false⟩,
   ⟨0x1311, 0x1311, 0x00, 0x00, .num true [16, 1], .rw, false, false, true, false, false, [], true, none, false⟩,
   ⟨0x1312, 0x1312, 0x00, 0x00, .num true [16, 2], .rw, false, false, true, false, false, [], true, none, false⟩,
   ⟨0x1313, 0x1313, 0x00, 0x00, .num false [2], .rw, false, false, true, false, false, [47311], true, none, false⟩,
   ⟨0x1314, 0x1314, 0x00, 0x00, .num true [8, 4, 4, 4, 4], .ro, false, false, false, false, false, [], false, none, false⟩,
   ⟨0x2000, 0x2000, 0x01, 0x01, .num false [2], .ro, false, false, false, false, false, [], false, none, false⟩,
   ⟨0x2000, 0x2000, 0x02, 0x02, .num false [2], .rw, true, false, true, false, false, [850], true, none, false⟩,
   ⟨0x2000, 0x2000, 0x03, 0x03, .num false [2], .ro, false, false, false, false, false, [1000], true, none, false⟩,
   ⟨0x2001, 0x2001, 0x00, 0x00, .num false [2], .rwb, true, false, true, false, false, [250], true, none, false⟩,
   ⟨0x2100, 0x2100, 0x01, 0x01, .num false [1], .rw, true, false, true, false, false, [], true, none, false⟩]

/-- Rows 41 to 80 of the object dictionary (Table 18-4). -/
def odRows2 : List OdRow :=
  [⟨0x2100, 0x2100, 0x02, 0x02, .num false [1], .ro, false, false, false, false, false, [1], false, none, false⟩,
   ⟨0x2100, 0x2100, 0x03, 0x03, .num false [2], .rw, true, false, true, false, false, [10], true, none, false⟩,
   ⟨0x2101, 0x2101, 0x01, 0x01, .num false [2], .rw, true, false, true, false, false, [3000], true, none, false⟩,
   ⟨0x2101, 0x2101, 0x02, 0x02, .num false [2], .ro, false, false, false, false, false, [], false, none, false⟩,
   ⟨0x2102, 0x2102, 0x01, 0x01, .num false [1], .rwb, true, false, true, false, false, [], true, none, false⟩,
   ⟨0x2102, 0x2102, 0x02, 0x02, .num false [1], .rwb, true, false, true, false, false, [32], true, none, false⟩,
   ⟨0x2103, 0x2103, 0x00, 0x00, .num false [1], .ro, false, false, false, false, false, [10], false, none, false⟩,
   ⟨0x2110, 0x2110, 0x01, 0x01, .num false [8], .ro, false, false, false, false, false, [], false, none, false⟩,
   ⟨0x2110, 0x2110, 0x02, 0x02, .num false [1], .ro, false, false, false, false, false, [], false, none, false⟩,
   ⟨0x2110, 0x2110, 0x03, 0x03, .num false [1], .rw, true, false, true, false, false, [2], true, none, false⟩,
   ⟨0x2110, 0x2110, 0x04, 0x04, .num false [4], .ro, false, false, false, false, false, [], false, none, false⟩,
   ⟨0x2120, 0x2120, 0x00, 0x00, .num false [4], .rwb, true, false, true, true, false, [], false, none, false⟩,
   ⟨0x2200, 0x2200, 0x01, 0x01, .num false [2], .ro, false, false, false, false, false, [], false, none, false⟩,
   ⟨0x2200, 0x2200, 0x02, 0x02, .num false [2], .rw, true, false, true, false, false, [379], true, none, false⟩,
   ⟨0x2201, 0x2201, 0x00, 0x00, .num false [4], .rwb, true, false, true, false, false, [], true, none, false⟩,
   ⟨0x2202, 0x2202, 0x00, 0x00, .num false [1], .rw, true, false, true, false, false, [8], true, none, false⟩,
   ⟨0x2203, 0x2203, 0x00, 0x00, .num false [1], .rw, true, false, true, false, false, [16], true, none, false⟩,
   ⟨0x2204, 0x2204, 0x00, 0x00, .num true [8, 4, 4, 8, 4, 4, 4, 4], .ro, false, false, false, false, false, [], false, none, false⟩,
   ⟨0x2400, 0x2400, 0x01, 0x01, .num false [4], .ro, false, false, false, false, false, [], false, none, false⟩,
   ⟨0x2400, 0x2400, 0x02, 0x02, .num false [2], .ro, false, false, false, false, false, [], false, none, false⟩,
   ⟨0x2401, 0x2401, 0x00, 0x00, .num false [1], .rw, true, false, true, false, false, [98], true, none, false⟩,
   ⟨0x2402, 0x2402, 0x00, 0x00, .num false [2], .rw, true, false, true, false, false, [20], true, none, false⟩,
   ⟨0x2403, 0x2403, 0x00, 0x00, .num false [1], .ro, false, false, false, false, false, [112], true, none, false⟩,
   ⟨0x2404, 0x2404, 0x00, 0x00, .num false [1], .ro, false, false, false, false, false, [], false, none, false⟩,
   ⟨0x2405, 0x2405, 0x00, 0x00, .num false [1], .rwb, true, false, true, false, false, [], true, none, false⟩,
   ⟨0x2406, 0x2406, 0x00, 0x00, .num false [1], .rw, true, false, true, false, false, [], true, none, false⟩,
   ⟨0x2407, 0x2407, 0x00, 0x00, .num false [1], .rw, true, false, true, false, false, [5], true, none, false⟩,
   ⟨0x2408, 0x2408, 0x00, 0x00, .bytes 18 true, .ro, false, false, false, false, false, [], false, none, false⟩,
   ⟨0x2410, 0x2410, 0x01, 0x8E, .num false [4], .ro, false, false, false, false, false, [], false, none, false⟩,
   ⟨0x2411, 0x2411, 0x00, 0x00, .num true [4, 4, 8, 4, 4], .ro, false, false, false, false, false, [], false, none, false⟩,
   ⟨0x2500, 0x2500, 0x00, 0x00, .bytes 256 true, .rwb, true, false, true, false, false, [], true, none, false⟩,
   ⟨0x2501, 0x2501, 0x00, 0x00, .bytes 64 true, .rwb, true, false, true, false, false, [], true, none, false⟩,
   ⟨0x2502, 0x2502, 0x00, 0x00, .num true [1, 1, 4], .rwb, true, false, true, false, false, [1], true, none, false⟩,
   ⟨0x2503, 0x2503, 0x00, 0x00, .num true [8, 4], .rw, true, false, true, false, false, [], false, none, false⟩,
   ⟨0x2504, 0x2504, 0x00, 0x00, .num false [1], .rw, true, false, true, false, true, [], true, none, false⟩,
   ⟨0x2505, 0x2505, 0x00, 0x00, .bytes 128 true, .ro, false, false, false, false, false, [], false, none, false⟩,
   ⟨0x2506, 0x2506, 0x00, 0x00, .num true [8, 4, 4, 4], .ro, false, false, false, false, false, [], false, none, false⟩,
   ⟨0x2800, 0x2800, 0x01, 0x01, .num false [1], .cmd, true, false, true, false, false, [], false, some 13, false⟩,
   ⟨0x2800, 0x2800, 0x02, 0x02, .bytes 16 true, .rw, true, false, true, false, false, [], false, none, false⟩,
   ⟨0x2801, 0x2801, 0x00, 0x00, .num false [1], .rw, true, false, true, false, false, [5], true, none, false⟩]

/-- Rows 81 to 120 of the object dictionary (Table 18-4). -/
def odRows3 : List OdRow :=
  [⟨0x2802, 0x2802, 0x00, 0x00, .num false [4], .rw, true, false, true, false, false, [10000], true, none, false⟩,
   ⟨0x2803, 0x2803, 0x00, 0x00, .num false [4], .rw, true, false, true, false, false, [86400], true, none, false⟩,
   ⟨0x2804, 0x2804, 0x00, 0x00, .num false [1], .rw, true, false, true, false, true, [1], true, none, false⟩,
   ⟨0x2805, 0x2805, 0x01, 0x80, .num true [4, 8, 1, 4], .ro, false, false, false, false, false, [], false, none, false⟩,
   ⟨0x2808, 0x2808, 0x00, 0x00, .bytes 9441344 false, .rw, true, false, true, false, false, [], false, none, false⟩,
   ⟨0x2809, 0x2809, 0x00, 0x00, .num false [4], .ro, false, false, false, false, false, [], false, none, false⟩,
   ⟨0x2810, 0x2810, 0x01, 0x80, .num false [4], .ro, false, false, false, false, false, [], false, none, false⟩,
   ⟨0x3000, 0x307F, 0x01, 0x01, .num false [1], .ro, false, false, false, false, false, [1], false, none, false⟩,
   ⟨0x3000, 0x307F, 0x02, 0x02, .num false [1], .cmd, true, false, true, false, false, [], false, none, false⟩,
   ⟨0x3000, 0x307F, 0x03, 0x03, .num false [8], .ro, false, false, false, false, false, [], false, none, false⟩,
   ⟨0x3000, 0x307F, 0x04, 0x04, .num true [4, 4, 4, 4, 4, 1, 4, 4], .ro, false, false, false, false, false, [], false, none, false⟩,
   ⟨0x3000, 0x307F, 0x05, 0x05, .bytes 256 true, .ro, false, false, false, false, false, [], true, none, false⟩,
   ⟨0x3000, 0x307F, 0x10, 0x17, .num false [4], .rw, true, false, true, false, false, [], true, none, false⟩,
   ⟨0x3100, 0x3100, 0x01, 0x01, .num false [4], .rw, true, false, true, false, false, [], false, none, false⟩,
   ⟨0x3101, 0x3101, 0x00, 0x00, .bytes 32 true, .rw, false, false, false, true, false, [], true, none, false⟩,
   ⟨0x3104, 0x3104, 0x01, 0x01, .num false [1], .rwb, true, false, true, false, false, [8], true, none, false⟩,
   ⟨0x3104, 0x3104, 0x02, 0x02, .num false [1], .rwb, true, false, true, false, false, [3], true, none, false⟩,
   ⟨0x3104, 0x3104, 0x03, 0x03, .num false [2], .rwb, true, false, true, false, false, [1000], true, none, false⟩,
   ⟨0x3105, 0x3105, 0x00, 0x00, .num false [1], .ro, false, false, false, false, false, [], true, none, false⟩,
   ⟨0x3107, 0x3107, 0x00, 0x00, .num true [4, 1, 1, 1, 1, 2, 2, 4, 4, 2, 2, 8, 32, 4, 24, 4], .ro, false, false, false, false, false, [], true, none, false⟩,
   ⟨0x3110, 0x3110, 0x01, 0x80, .num false [4], .ro, false, false, false, false, false, [], true, none, false⟩,
   ⟨0x3111, 0x3111, 0x00, 0x00, .num false [4], .rw, true, false, true, false, false, [2500], true, none, false⟩,
   ⟨0x3112, 0x3112, 0x00, 0x00, .num false [4], .rw, true, false, true, false, false, [3000], true, none, false⟩,
   ⟨0x3113, 0x3113, 0x00, 0x00, .bytes 16 true, .ro, false, false, false, false, false, [], false, none, false⟩,
   ⟨0x3120, 0x3120, 0x01, 0x40, .num true [4, 4, 4, 4, 4, 4, 4, 4], .ro, false, false, false, false, false, [], false, none, false⟩,
   ⟨0x3400, 0x3400, 0x00, 0x00, .num false [1], .cmd, true, false, true, false, false, [], false, none, false⟩,
   ⟨0x3401, 0x3401, 0x00, 0x00, .bytes 12582976 false, .rw, true, false, true, false, false, [], true, none, false⟩,
   ⟨0x3402, 0x3402, 0x00, 0x00, .num true [1, 1, 1, 4, 8, 1], .ro, false, false, false, false, false, [], true, none, false⟩,
   ⟨0x3404, 0x3404, 0x00, 0x00, .num true [8, 8, 4, 4, 4, 4], .ro, false, false, false, false, false, [], false, none, false⟩,
   ⟨0x3405, 0x3405, 0x01, 0x80, .num true [1, 2, 1, 8, 4, 4], .ro, false, false, false, false, false, [], false, none, false⟩,
   ⟨0x3406, 0x3406, 0x01, 0x01, .num false [1], .rw, true, false, true, false, true, [1], true, none, false⟩,
   ⟨0x3407, 0x3407, 0x00, 0x00, .bytes 8388672 false, .rw, true, false, true, false, false, [], true, none, false⟩,
   ⟨0x3408, 0x3408, 0x00, 0x00, .bytes 65600 false, .rw, true, false, true, false, false, [], true, none, false⟩,
   ⟨0x3409, 0x3409, 0x00, 0x00, .num true [1, 1, 2, 2], .ro, false, false, false, false, false, [], true, none, false⟩,
   ⟨0x340A, 0x340A, 0x00, 0x00, .num true [8, 4, 4, 4, 4, 4, 8, 8, 8], .ro, false, false, false, false, false, [], false, none, false⟩,
   ⟨0x4000, 0x4007, 0x01, 0x01, .num false [1], .ro, false, false, false, false, false, [1], false, none, false⟩,
   ⟨0x4000, 0x4007, 0x02, 0x02, .num false [1], .cmd, true, false, true, false, false, [], false, none, false⟩,
   ⟨0x4000, 0x4007, 0x03, 0x03, .num false [1], .ro, false, false, false, false, false, [], false, none, false⟩,
   ⟨0x4000, 0x4007, 0x04, 0x04, .num true [1, 1, 1, 1, 4, 2, 1, 1, 4, 8, 2, 2, 2, 2], .ro, false, false, false, false, false, [], false, none, false⟩,
   ⟨0x4000, 0x4007, 0x05, 0x05, .num true [1, 1, 4], .ro, false, false, false, false, false, [], false, none, false⟩]

/-- Rows 121 to 160 of the object dictionary (Table 18-4). -/
def odRows4 : List OdRow :=
  [⟨0x4000, 0x4007, 0x06, 0x06, .num true [8, 8, 4, 4, 8, 4, 4, 4], .ro, false, false, false, false, false, [], false, none, false⟩,
   ⟨0x4000, 0x4007, 0x07, 0x07, .num false [1], .rw, true, false, true, false, true, [1], true, none, false⟩,
   ⟨0x4010, 0x4010, 0x01, 0x08, .num true [1, 1, 2, 4, 2, 2, 8], .rw, true, false, true, false, false, [0, 255, 0, 0, 65535], true, none, false⟩,
   ⟨0x4011, 0x4011, 0x00, 0x00, .num true [4, 2, 16, 2], .rw, true, false, true, false, false, [0, 0, 0, 47310], true, none, false⟩,
   ⟨0x4012, 0x4012, 0x00, 0x00, .num true [1, 1, 4], .ro, false, false, false, false, false, [2, 1, 15], true, none, false⟩,
   ⟨0x4013, 0x4013, 0x01, 0x10, .num true [4, 8], .rw, true, false, true, false, false, [], true, none, false⟩,
   ⟨0x4100, 0x4100, 0x01, 0x01, .num false [1], .ro, false, false, false, false, false, [], true, none, false⟩,
   ⟨0x4100, 0x4100, 0x02, 0x02, .num false [8], .rw, true, false, true, false, false, [], true, none, false⟩,
   ⟨0x4101, 0x4101, 0x00, 0x00, .num false [1], .cmd, true, false, true, false, false, [], false, none, false⟩,
   ⟨0x4102, 0x4102, 0x00, 0x00, .num true [1, 1, 8, 8], .ro, false, false, false, false, false, [], false, none, false⟩,
   ⟨0x4103, 0x4103, 0x00, 0x00, .num false [2], .rwb, true, false, true, false, false, [64], true, none, false⟩,
   ⟨0x4104, 0x4104, 0x01, 0x01, .num false [1], .rwb, true, false, true, false, false, [2], true, none, false⟩,
   ⟨0x4104, 0x4104, 0x02, 0x02, .num false [4], .rwb, true, false, true, false, false, [10000], true, none, false⟩,
   ⟨0x4104, 0x4104, 0x03, 0x03, .num false [1], .rwb, true, false, true, false, false, [2], true, none, false⟩,
   ⟨0x4104, 0x4104, 0x04, 0x04, .num false [4], .rwb, true, false, true, false, false, [4096], true, none, false⟩,
   ⟨0x4105, 0x4105, 0x00, 0x00, .num false [1], .rw, true, false, true, false, false, [2], true, none, false⟩,
   ⟨0x4106, 0x4106, 0x00, 0x00, .num false [2], .rw, true, false, true, false, false, [20], true, none, false⟩,
   ⟨0x4107, 0x4107, 0x00, 0x00, .num true [8, 4, 4, 4, 4, 4, 4, 4], .ro, false, false, false, false, false, [], false, none, false⟩,
   ⟨0x4110, 0x4110, 0x00, 0x00, .bytes 12320 false, .rw, true, false, true, false, false, [], true, none, true⟩,
   ⟨0x4111, 0x4111, 0x00, 0x00, .num true [4, 1, 2], .ro, false, false, false, false, false, [], false, none, false⟩,
   ⟨0x4113, 0x4113, 0x00, 0x00, .bytes 12288 false, .rw, true, false, true, false, false, [], true, none, false⟩,
   ⟨0x4115, 0x4115, 0x00, 0x00, .num true [1, 8, 8, 8, 8, 8, 8, 8, 8, 8, 8, 8, 8, 8, 8, 8, 8], .ro, false, false, false, false, false, [], false, none, false⟩,
   ⟨0x4116, 0x4116, 0x00, 0x00, .num false [1], .rw, true, false, true, false, true, [1], true, none, false⟩,
   ⟨0x4200, 0x4200, 0x01, 0x01, .num true [2, 2, 2], .rwb, true, false, true, false, false, [512, 128, 6880], true, none, false⟩,
   ⟨0x4200, 0x4200, 0x02, 0x02, .num true [2, 2, 2, 2, 4], .ro, false, false, false, false, false, [], false, none, false⟩,
   ⟨0x4200, 0x4200, 0x03, 0x03, .num true [2, 2, 2, 2, 4], .ro, false, false, false, false, false, [], false, none, false⟩,
   ⟨0x4201, 0x4201, 0x00, 0x00, .num true [2, 4, 1, 4, 4], .rw, true, false, true, false, false, [100, 2000, 32, 5000, 50000], true, none, false⟩,
   ⟨0x4202, 0x4202, 0x00, 0x00, .num true [8, 8, 4, 4, 4, 4, 4, 4], .ro, false, false, false, false, false, [], false, none, false⟩,
   ⟨0x4208, 0x4208, 0x00, 0x00, .bytes 8192 true, .rw, true, false, true, false, false, [], true, none, false⟩,
   ⟨0x5000, 0x5000, 0x01, 0x01, .num false [4], .ro, false, false, false, false, false, [], true, none, true⟩,
   ⟨0x5000, 0x5000, 0x02, 0x02, .num false [4], .ro, false, false, false, false, false, [], true, none, true⟩,
   ⟨0x5000, 0x5000, 0x03, 0x03, .num false [8], .ro, false, false, false, false, false, [], true, none, true⟩,
   ⟨0x5001, 0x5001, 0x00, 0x00, .num true [4, 8], .cmd, true, false, true, false, false, [], false, none, true⟩,
   ⟨0x5002, 0x5002, 0x01, 0x40, .num true [2, 4, 4, 1], .ro, false, false, false, false, false, [], true, none, false⟩,
   ⟨0x5003, 0x5003, 0x00, 0x00, .num true [4, 4], .ro, false, false, false, false, false, [], false, none, false⟩,
   ⟨0x5004, 0x5004, 0x00, 0x00, .num false [1], .cmd, true, false, true, false, false, [], false, none, false⟩,
   ⟨0x5005, 0x5005, 0x00, 0x00, .num false [1], .ro, false, false, false, false, false, [], false, none, false⟩,
   ⟨0x5006, 0x5006, 0x01, 0x20, .num true [4, 4, 4, 4], .ro, false, false, false, false, false, [], false, none, true⟩,
   ⟨0x5007, 0x5007, 0x00, 0x00, .num false [1], .ro, false, false, false, false, false, [], false, none, false⟩,
   ⟨0x5008, 0x5008, 0x00, 0x00, .num true [4, 4, 4, 4, 4, 8, 4], .ro, false, false, false, false, false, [], false, none, false⟩]

/-- Rows 161 to 200 of the object dictionary (Table 18-4). -/
def odRows5 : List OdRow :=
  [⟨0x5010, 0x5010, 0x01, 0x10, .num true [300], .rw, true, false, true, false, false, [], true, none, false⟩,
   ⟨0x5018, 0x5018, 0x01, 0x01, .num false [1], .rwb, true, false, true, false, false, [1], true, none, false⟩,
   ⟨0x5018, 0x5018, 0x02, 0x02, .num false [4], .rw, true, false, true, false, false, [5000], true, none, false⟩,
   ⟨0x5020, 0x5020, 0x00, 0x00, .num false [1], .cmd, true, false, true, false, false, [], false, some 11, false⟩,
   ⟨0x5021, 0x5021, 0x00, 0x00, .num false [8], .rw, true, false, false, false, false, [], false, none, false⟩,
   ⟨0x5022, 0x5022, 0x00, 0x00, .num false [2], .rw, true, false, false, false, false, [], false, none, false⟩,
   ⟨0x5023, 0x5023, 0x00, 0x00, .num true [8, 8], .rw, true, false, true, false, false, [], false, none, false⟩,
   ⟨0x5024, 0x5024, 0x00, 0x00, .bytes 16 true, .rw, true, false, true, false, false, [], false, none, false⟩,
   ⟨0x5025, 0x5025, 0x00, 0x00, .num true [1, 1, 4, 4, 4, 4, 4, 4, 4], .ro, false, false, false, false, false, [], false, none, false⟩,
   ⟨0x5026, 0x5026, 0x00, 0x00, .num false [4], .rw, true, false, true, false, false, [4096], true, none, false⟩,
   ⟨0x5027, 0x5027, 0x00, 0x00, .num false [2], .rw, true, false, true, false, false, [8192], true, none, false⟩,
   ⟨0x5028, 0x5028, 0x00, 0x00, .num false [1], .rw, true, false, true, false, false, [], true, none, false⟩,
   ⟨0x5029, 0x5029, 0x00, 0x00, .num true [4, 4, 4, 4], .ro, false, false, false, false, false, [], false, none, false⟩,
   ⟨0x5400, 0x5400, 0x01, 0x01, .num false [4], .ro, false, false, false, false, false, [32178176], false, none, false⟩,
   ⟨0x5400, 0x5400, 0x02, 0x02, .num false [4], .ro, false, false, false, false, false, [], false, none, false⟩,
   ⟨0x5400, 0x5400, 0x03, 0x03, .num false [4], .rw, true, false, true, false, false, [262144], true, none, false⟩,
   ⟨0x5401, 0x5401, 0x00, 0x00, .num false [4], .rw, true, false, true, false, false, [4096], true, none, false⟩,
   ⟨0x5402, 0x5402, 0x01, 0x01, .num false [4], .rw, true, false, true, false, false, [300], true, none, false⟩,
   ⟨0x5402, 0x5402, 0x02, 0x02, .num false [4], .rw, true, false, true, false, false, [3600], true, none, false⟩,
   ⟨0x5402, 0x5402, 0x03, 0x03, .num false [1], .rw, true, false, true, false, true, [1], true, none, false⟩,
   ⟨0x5403, 0x5403, 0x00, 0x00, .num true [1, 8, 8], .rw, true, false, false, false, false, [], false, none, false⟩,
   ⟨0x5405, 0x5405, 0x00, 0x00, .num true [4, 1], .cmd, true, false, true, false, false, [], false, none, true⟩,
   ⟨0x5406, 0x5406, 0x01, 0x01, .num false [4], .rw, true, false, true, false, false, [], false, none, false⟩,
   ⟨0x5406, 0x5406, 0x02, 0x02, .num true [2, 1, 4, 4, 4, 4], .ro, false, false, false, false, false, [], false, none, false⟩,
   ⟨0x5407, 0x5407, 0x00, 0x00, .num true [4, 4, 4, 4, 4, 4, 4, 4, 4, 8, 4], .ro, false, false, false, false, false, [], false, none, false⟩,
   ⟨0x5408, 0x5408, 0x00, 0x00, .num true [8, 4, 4, 4, 4, 4, 8, 4, 2, 4], .ro, false, false, false, false, false, [], false, none, false⟩,
   ⟨0x5800, 0x5800, 0x01, 0x01, .num false [2], .rw, true, false, true, false, false, [], false, none, true⟩,
   ⟨0x5801, 0x5801, 0x00, 0x00, .num true [1, 4, 4, 1], .rw, true, false, true, false, false, [], true, none, true⟩,
   ⟨0x5802, 0x5802, 0x00, 0x00, .num true [8, 4, 4, 8, 8, 4, 4], .ro, false, false, false, false, false, [], false, none, true⟩,
   ⟨0x5803, 0x5803, 0x00, 0x00, .num true [8, 8, 4, 4, 4, 4, 4, 4, 4, 4, 4, 4, 4, 4, 4, 4, 4, 4], .ro, false, false, false, false, false, [], false, none, true⟩,
   ⟨0x5804, 0x5804, 0x01, 0x01, .num false [2], .rwb, true, false, true, false, false, [4], true, none, true⟩,
   ⟨0x5804, 0x5804, 0x02, 0x02, .num false [1], .rwb, true, false, true, false, false, [8], true, none, true⟩,
   ⟨0x5805, 0x5805, 0x00, 0x00, .num false [2], .rw, true, false, true, false, false, [4096], true, none, true⟩,
   ⟨0x5806, 0x5806, 0x01, 0x01, .num false [4], .rw, true, false, true, false, false, [], false, none, true⟩,
   ⟨0x5806, 0x5806, 0x02, 0x02, .num true [8, 2, 1, 4, 4, 8, 4], .ro, false, false, false, false, false, [], false, none, true⟩,
   ⟨0x5C01, 0x5C01, 0x00, 0x00, .num true [8, 8, 8, 4, 4, 4], .ro, false, false, false, false, false, [], false, none, false⟩,
   ⟨0x5C10, 0x5C10, 0x00, 0x00, .num false [1], .rw, true, false, true, false, false, [], false, none, false⟩,
   ⟨0x5C11, 0x5C11, 0x00, 0x00, .bytes 16777216 false, .rw, true, false, true, false, false, [], false, none, true⟩,
   ⟨0x5C12, 0x5C12, 0x00, 0x00, .num true [1, 1, 1, 4, 4], .ro, false, false, false, false, false, [], false, none, false⟩,
   ⟨0x5C20, 0x5C20, 0x01, 0x01, .num false [1], .rwb, true, false, true, false, false, [1], true, none, true⟩]

/-- Rows 201 to 235 of the object dictionary (Table 18-4). -/
def odRows6 : List OdRow :=
  [⟨0x5C20, 0x5C20, 0x02, 0x02, .num false [1], .rwb, true, false, true, false, false, [8], true, none, true⟩,
   ⟨0x5C20, 0x5C20, 0x03, 0x03, .num false [1], .rwb, true, false, true, false, false, [8], true, none, true⟩,
   ⟨0x5C20, 0x5C20, 0x04, 0x04, .num false [1], .rwb, true, false, true, false, false, [4], true, none, true⟩,
   ⟨0x5C20, 0x5C20, 0x05, 0x05, .num false [1], .rwb, true, false, true, false, false, [64], true, none, true⟩,
   ⟨0x5C20, 0x5C20, 0x06, 0x06, .num false [4], .rwb, true, false, true, false, false, [20000], true, none, true⟩,
   ⟨0x5C21, 0x5C21, 0x01, 0x01, .num false [1], .rwb, true, false, true, false, false, [8], true, none, true⟩,
   ⟨0x5C21, 0x5C21, 0x02, 0x02, .num false [2], .rwb, true, false, true, false, false, [64], true, none, true⟩,
   ⟨0x5C22, 0x5C22, 0x00, 0x00, .num true [8, 8, 8, 8, 4, 4, 4, 4, 4, 4], .ro, false, false, false, false, false, [], false, none, false⟩,
   ⟨0x5C23, 0x5C23, 0x00, 0x00, .num true [1, 1, 2, 8, 8], .ro, false, false, false, false, false, [], false, none, false⟩,
   ⟨0x6000, 0x6000, 0x00, 0x00, .num true [4, 4, 4, 4], .ro, false, false, false, false, false, [], false, none, false⟩,
   ⟨0x6001, 0x6001, 0x00, 0x00, .bytes 32 true, .ro, false, false, false, false, false, [], false, none, false⟩,
   ⟨0x6002, 0x6002, 0x00, 0x00, .bytes 8192 true, .ro, false, false, false, false, false, [], false, none, false⟩,
   ⟨0x6003, 0x6003, 0x00, 0x00, .bytes 256 true, .ro, false, false, false, false, false, [], false, none, false⟩,
   ⟨0x6004, 0x6004, 0x00, 0x00, .num false [1], .cmd, true, false, true, false, false, [], false, none, false⟩,
   ⟨0x6008, 0x6008, 0x01, 0x01, .num false [1], .rwb, true, false, true, false, false, [], true, none, false⟩,
   ⟨0x6008, 0x6008, 0x02, 0x02, .num false [1], .rwb, true, false, true, false, false, [], true, none, false⟩,
   ⟨0x6100, 0x6100, 0x01, 0x01, .num false [4], .rw, true, false, true, false, false, [14400], true, none, false⟩,
   ⟨0x6100, 0x6100, 0x02, 0x02, .num false [4], .rw, true, false, true, false, false, [2000], true, none, false⟩,
   ⟨0x6100, 0x6100, 0x03, 0x03, .num false [4], .rw, true, false, true, false, false, [3600], true, none, false⟩,
   ⟨0x6101, 0x6101, 0x00, 0x00, .bytes 16 true, .cmd, true, false, true, false, false, [], false, some 12, false⟩,
   ⟨0x6102, 0x6102, 0x01, 0x80, .num true [8, 1, 4, 4], .ro, false, false, false, false, false, [], false, none, false⟩,
   ⟨0x6103, 0x6103, 0x00, 0x00, .num true [8, 4, 4, 4], .ro, false, false, false, false, false, [], false, none, false⟩,
   ⟨0x6400, 0x6400, 0x01, 0x01, .num false [4], .rw, true, false, true, false, false, [64000], true, none, false⟩,
   ⟨0x6401, 0x6401, 0x01, 0x01, .num true [8, 1, 2, 1], .rw, true, true, true, false, false, [], false, some 6, false⟩,
   ⟨0x6401, 0x6401, 0x02, 0x02, .num true [8, 1, 2, 1], .rw, true, true, true, false, false, [], false, some 7, false⟩,
   ⟨0x6402, 0x6402, 0x00, 0x00, .num true [8, 4, 4, 4, 1], .ro, false, false, false, false, false, [0, 512], false, none, false⟩,
   ⟨0x6403, 0x6403, 0x00, 0x00, .num true [8, 4, 4, 8, 4, 4, 8, 4, 4, 8, 4, 4, 8, 4, 4, 8, 4, 4, 8, 4, 4, 8, 4, 4, 8, 4, 4, 8, 4, 4, 8, 4, 4, 8, 4, 4], .ro, false, false, false, false, false, [], false, none, false⟩,
   ⟨0x6404, 0x6404, 0x00, 0x00, .num false [1], .cmd, true, false, true, false, false, [], false, some 5, false⟩,
   ⟨0x7000, 0x7000, 0x00, 0x00, .bytes 64 true, .ro, false, false, false, false, false, [], true, none, false⟩,
   ⟨0x7001, 0x7001, 0x01, 0x04, .num true [300], .rw, true, false, true, false, false, [], true, none, false⟩,
   ⟨0x7002, 0x7002, 0x00, 0x00, .num true [4, 4, 4, 4], .ro, false, false, false, false, false, [], true, none, false⟩,
   ⟨0x7003, 0x7003, 0x00, 0x00, .num true [2, 2, 2, 1, 2, 2, 2, 1], .ro, false, false, false, false, false, [0, 0, 0, 2], true, none, false⟩,
   ⟨0x7004, 0x7004, 0x00, 0x00, .num false [1], .cmd, true, false, true, false, false, [], false, none, false⟩,
   ⟨0x7005, 0x7005, 0x00, 0x00, .bytes 12582912 false, .wo, true, false, true, false, false, [], false, none, false⟩,
   ⟨0x7006, 0x7006, 0x00, 0x00, .bytes 133 true, .ro, false, false, false, false, false, [], true, none, false⟩]

/-- The object dictionary (R439). -/
def odRows : List OdRow := odRows1 ++ odRows2 ++ odRows3 ++ odRows4 ++ odRows5 ++ odRows6

/-- Whether a row covers an object. -/
def OdRow.covers (idx sub : Nat) (r : OdRow) : Bool :=
  decide (r.lo ≤ idx) && decide (idx ≤ r.hi) && decide (r.slo ≤ sub) && decide (sub ≤ r.shi)

/-- The row of an object; none: no such object (R439). -/
def odRow? (idx sub : Nat) : Option OdRow := odRows.find? (OdRow.covers idx sub)

/-- The highest subindex of an index whose subindices run from 1 upward, shown at subindex 0 (R432). -/
def odHighest (idx : Nat) : Nat :=
  odRows.foldl (fun m r => if decide (r.lo ≤ idx) && decide (idx ≤ r.hi) then max m r.shi else m) 0

/-- The byte widths of an object's fields. -/
def odWidths (idx sub : Nat) : List Nat :=
  match odRow? idx sub with
  | some ⟨_, _, _, _, .num _ ws, _, _, _, _, _, _, _, _, _, _⟩ => ws
  | _ => []

/-- What a field of an object that nothing has written reads as: its default. -/
def odDefault (idx sub fld : Nat) : Nat :=
  match odRow? idx sub with
  | some r => r.default.getD fld 0
  | none => 0

/-- The greatest value a field holds (R438); fields without a row are as wide as a U64. -/
def odMax (idx sub fld : Nat) : Nat := 256 ^ (odWidths idx sub).getD fld 8 - 1

/-- The key of a field in the dictionary: instance, index, subindex, field. The instance is 0, or the unit selected
(array, tenant, context handle, queue pair, grammar slot), or for a select object the requester (R437). -/
def odKey (inst idx sub fld : Nat) : Nat := 64 * (256 * (65536 * inst + idx) + sub) + fld

def OdType.isBytes : OdType → Bool
  | .bytes _ _ => true
  | .num _ _ => false

/-- The field numbers under which a CMD object keeps its state, value and result (R435). -/
def cmdState : Nat := 60
def cmdValue : Nat := 61
def cmdResult : Nat := 62

end Sys2Proof.Machine
end

