-- ==== Sys2Proof/Machine/State.lean ====
section
/-! DEFINITION. Machine/State.lean: everything the spec gives the part, as plain data, and the state right after reset.
Every number an object of the dictionary shows lives in `dict`, every byte string in `blobs`; the structures below hold
what lies behind the objects. Tables keep one canonical form (Sys2Proof/Word.lean). -/

namespace Sys2Proof.Machine

/-- Why a step stops with a fault. No command of this part ends so: what the spec calls a fault is an effect on the
part's state (a record, a fence, a failed step, a refused access). The one reason is kept for a word of the queue that
no agent of the spec can place, and no meaning answers with it (safe). -/
inductive Fault where
  | noSuchCommand
deriving DecidableEq, Repr

/-- Why a step has no meaning: raised only by an arm of Dispatch.lean whose command is not modelled (safe). -/
inductive Refusal where
  | notModelled (mnemonic : String)
deriving DecidableEq, Repr

/-! ### Records and the chimney (20_errors_test_chimney.md) -/

/-- One record (R467, Table 20-3); class 0 ALARM, 1 EVENT, 2 TRACE. -/
structure Record where
  time : Nat
  path : Nat
  step : Nat
  pc : Nat
  opcode : Nat
  kind : Nat
  cls : Nat
  sev : Nat
  islandTime : Bool
  coalesced : Bool
  temp : Nat
  rail : Nat
  count : Nat
  detail : Nat
deriving DecidableEq, Repr

/-- One chimney path (Table 20-9): its unsent records oldest first, and the rack time of its last CHIMNEY alarm (R479). -/
structure PathQ where
  queue : List Record
  alarmAt : Option Nat
deriving DecidableEq, Repr

/-- An event ring (R480): write index, host head, phase of the present lap, when its vector was last sent, and whether
records written since await it. -/
structure EventRing where
  index : Nat
  head : Nat
  phase : Bool
  sentAt : Nat
  unsignalled : Bool
deriving DecidableEq, Repr

/-! ### Outputs -/

/-- What leaves the part, in order: writes to host memory, MSI-X messages, reads issued, Completer Aborts, fabric frames,
barrier frames, side-band datagrams, pin drives, regulator writes and controller events. -/
inductive Out where
  | hostWrite (port : HostPort) (addr : Nat) (data : List Byte)
  | hostRead (port : HostPort) (tag addr len : Nat)
  | msix (port : HostPort) (vector : Nat)
  | completion (port : HostPort) (data : List Byte)
  | completerAbort (port : HostPort)
  | frame (port : Nat) (kind : Nat) (body : List Byte)
  | linkControl (port : Nat) (kind : Nat) (acked cls granules : Nat)
  | data (port : Nat) (wire : List Byte)                        -- a DATA frame as it stands on the wire
  | selfTransfer (kind step : Nat) (payload : List Byte)        -- to this part's own controller
  | barrier (toMain : Bool) (kind seq corr : Nat) (body : List Byte)
  | response (session : Option (BitVec 2)) (fabric : Bool) (seq result total : Nat) (data : List Byte)
  | spdm (conn : BitVec 2) (code : Nat) (body : List Byte)
  | datagram (records : List Record)
  | echo (body : List Byte)
  | holdLow (tick : Nat)
  | rail (n : Nat) (on : Bool)
  | pmbus (rail : Nat) (mv : Nat)
  | tap (instr : Nat) (shown : List Bool)
  | controllerEvent (h : Nat) (n : Nat)
deriving DecidableEq, Repr

/-- One barrier frame (R407, Table 17-2). -/
structure BFrame where
  kind : Nat
  seq : Nat
  corr : Nat
  body : List Byte
deriving DecidableEq, Repr

/-- One lane and direction of the barrier (R405, R408): next sequence number, frames sent and not acknowledged (at most
32), frames waiting for a place among them, and the last sequence number taken at the far end. -/
structure Lane where
  next : Nat
  unacked : List BFrame
  queued : List BFrame
  taken : Option Nat
deriving DecidableEq, Repr

def Lane.fresh : Lane := { next := 0, unacked := [], queued := [], taken := none }

/-! ### Hearth: stoker, vector engine, DMA engines (08_step_programs.md, 09_hearth_buffers.md) -/

/-- A VE lane as results carry it: its bits, its poison, and whether it holds part of a block narrowed to scale 0xFF
(R51, R222, R225). -/
structure VCell where
  bits : BitVec 16
  poison : Bool
  bad : Bool
deriving DecidableEq, Repr

/-- Lanes `first` onward of VE register `reg`. -/
structure VWrite where
  reg : Nat
  first : Nat
  cells : List VCell
deriving DecidableEq, Repr

/-- A releasing signal that has not left (R203): kind as Table 08-13. -/
structure Signal where
  kind : Nat
  event : Nat
  target : Nat
  desc : Nat
  cc : Nat
  seq : Nat
deriving DecidableEq, Repr

/-- A row on its way to a hearth's buffer (R233): where it goes, its cells, its source (a hearth plus 1, else a number of a stack, gang or
input slot), the transfer of the source that carries it, its channel (R243), the flag it sets on acceptance where it is a transfer's last
(R231), its step, and its number among the rows that the hearth has accepted. -/
structure InRow where
  row : Nat
  cells : List VCell
  src : Nat
  xfer : Nat
  bulk : Bool
  event : Option Nat
  step : Nat
  serial : Nat
  /-- the router it starts from, 128 to 131 for the edge routers W, E, N and S, and which flit of its transfer carries it (10 R240, R241) -/
  start : Nat := 0
  flit : Nat := 0
deriving DecidableEq, Repr

/-- What the mesh brings to a hearth beside flue flits (R243, R246): a row, or a signal of a hearth's step that sets a flag. -/
inductive Packet where
  | row (r : InRow)
  | signal (src event step : Nat)
deriving DecidableEq, Repr

/-- Something an engine of the hearth does at its cycle (R216, Table 09-2). -/
inductive Due where
  | vreg (w : VWrite)                                     -- a VE result is written
  | greg (g : Nat) (v : Nat)                              -- a scalar result is written
  | load (vd addr rows done : Nat)                        -- VE read slot
  | store (addr : Nat) (rows : List (List VCell))         -- VE write slot
  | accRow (row : Nat) (cells : List VCell) (since : Nat) -- accumulator write slot, of a group driven at a cycle
  | flueOut (tag unit addr total : Nat) (f16 : Bool)            -- flue-out slot
  | flueIn (tag addr : Nat) (rows : List (List VCell))    -- flue-in slot
  | setFlag (e : Nat)                                     -- a flag is set
  | dmaRead                                               -- DMA read slot (R230)
  | inbound (r : InRow)                                   -- DMA write slot, an inbound row
  | copyRow (row : Nat) (cells : List VCell) (xfer : Nat) -- DMA write slot, a COPY row of a transfer
  | fetch (row xfer : Nat)                                -- stoker slot, the descriptor of a transfer (R230)
  | attn (g : Signal)                                     -- stoker slot, an attention request (R203)
  | writeBack (key : Nat)                                 -- stoker slot, a corrected word is written back (R220)
  | repair (row word : Nat)                               -- stoker slot, a failing word's last re-read (R224)
  | latch (sites : List Nat) (seq reg half scaleReg lane : Nat) -- one segment of a latch load (R195)
deriving DecidableEq, Repr

/-- Among work of one cycle, what a register read of that cycle must see comes first (R193). -/
def Due.late : Due → Nat
  | .vreg _ | .greg _ _ | .load _ _ _ _ | .store _ _ | .accRow _ _ _ | .flueOut _ _ _ _ _ | .flueIn _ _ _ | .setFlag _ | .dmaRead
  | .inbound _ | .copyRow _ _ _ | .fetch _ _ | .attn _ | .writeBack _ | .repair _ _ => 0
  | .latch _ _ _ _ _ _ => 1

/-- A calendar entry: cycle, order of issue, work. -/
structure Slot where
  cc : Nat
  seq : Nat
  due : Due
deriving DecidableEq, Repr

/-- An armed ACC (R197). -/
structure Armed where
  bay : Nat
  desc : Nat
  slot : Nat
  cc : Nat
deriving DecidableEq, Repr

/-- One column of a site's issue: its code at `span`, its unresolved over-range flag (−1, 0, 1), whether it is invalid. -/
structure ColConv where
  code : Int
  flag : Int
  span : Nat
  invalid : Bool
deriving DecidableEq, Repr

/-- A SPLIT column's parts (R70): the codes of the halves or quarters and their flags, in row order. -/
structure SplitPart where
  first : Nat
  last : Nat
  level : Nat
  cols : List ColConv
deriving DecidableEq, Repr

/-- One site's part of an issue group: array, segment, drive elements and scale word, its first conversion (531 columns
in physical order), the columns as the policy has them so far, the parts of a split, and the intervals used. -/
structure SiteConv where
  site : Nat
  array : Nat
  seg : Nat
  blk : Nat
  elems : List (BitVec 4)
  scale : Nat
  cause : Nat
  initial : List ColConv
  cols : List ColConv
  parts : List SplitPart
  used : Nat
  reissues : Nat
deriving DecidableEq, Repr

/-- An issue group in flight (R74, R197). -/
structure Group where
  bay : Nat
  desc : Nat
  slot : Nat
  layer : Nat
  span : Nat
  first : Nat
  last : Nat
  cc : Nat
  policy : Nat
  budget : Nat
  window : Nat
  nblk : Nat
  nseg : Nat
  outBase : Nat
  sites : List SiteConv
  delivered : Bool
deriving DecidableEq, Repr

/-- A wait (R202): flag, CLR, timeout cycle, what a timeout does, and the cycle of issue. -/
structure Wait where
  event : Nat
  clr : Bool
  timeout : Nat
  branch : Bool
  target : Nat
  cc : Nat
deriving DecidableEq, Repr

/-- A fence (R204): scope 0 L, 1 D, 2 S; earliest release; timeout cycle; cycle and order of issue; the inbound rows accepted and the flue
sends made before it (R236); the last cycle at which a row of its scope was written so far. -/
structure Fence where
  scope : Nat
  earliest : Nat
  timeout : Nat
  cc : Nat
  seq : Nat
  rows : Nat
  sends : Nat
  landed : Nat
deriving DecidableEq, Repr

/-- One DMA descriptor (Table 09-5). -/
structure Descriptor where
  kind : Nat
  chain : Bool
  bulk : Bool
  remote : Bool
  reservedSet : Bool
  target : Nat
  event : Nat
  src : Nat
  dst : Nat
  rows : Nat
  stride : Nat
  stackAddr : Nat
  stage : Nat
  slot : Nat
deriving DecidableEq, Repr

/-- A DMA transfer (R200, R230): the row of its current descriptor, its event, order of issue, that descriptor once fetched, whether the
engine runs it, the rows it has read and what a FABRIC has gathered, the flits of a STACK_WR or FABRIC that meet a parity error on the mesh, the
descriptors of the chain that have moved, whether all have, the cycle its last COPY row was written, and its fabric transfer ids. -/
structure Transfer where
  row : Nat
  event : Nat
  seq : Nat
  desc : Option Descriptor
  running : Bool
  pos : Nat
  data : List Byte
  parity : List (Nat × FlitFault)
  ran : List Descriptor
  moved : Bool
  wrote : Nat
  tids : List Nat
deriving DecidableEq, Repr

/-- A FLU receive (R199): tag, flag, first row, units, the cycle it was armed, and the units written so far. -/
structure Receive where
  tag : Nat
  event : Nat
  addr : Nat
  len : Nat
  cc : Nat
  written : List Nat
deriving DecidableEq, Repr

/-- Where a stoker stands: idle, issuing, held by WAI, held by FEN, past HLT, stopped by a fault, halted. -/
inductive Phase where
  | idle
  | running
  | waiting
  | fencing
  | ended
  | faulted
  | halted
deriving DecidableEq, Repr

/-- A freeze (R223): the cycle it starts and the cycle issue resumes. -/
structure Freeze where
  start : Nat
  resume : Nat
deriving DecidableEq, Repr

/-- One hearth's engines. `last` is t(p) of R192, `now` the cycle up to which the calendar has run; `inbound` is the queue of rows accepted,
`serial` how many were, `waiting` what the mesh holds for the hearth (R233); `busy` and `landed` are the last cycles at which an engine
worked (R205) and at which something the hearth sent was written (R236). -/
structure Hearth where
  phase : Phase
  step : Nat
  pc : Nat
  first : Bool
  last : Nat
  now : Nat
  seq : Nat
  ctx : List Nat
  g : Tab Nat
  flags : Tab Nat
  v : Tab (BitVec 16)
  vPoison : Tab Bool
  vBad : Tab Bool
  calendar : List Slot
  armed : List Armed
  groups : List Group
  loadFrame : Option Nat
  storeFrame : Option Nat
  topk : Option Nat
  flueUntil : Nat
  sent : List Nat
  receives : List Receive
  queue0 : List Transfer
  queue1 : List Transfer
  finished : List Transfer
  signals : List Signal
  inbound : List InRow
  serial : Nat
  waiting : List Packet
  /-- stream rows accepted while a bulk row waited (10 R244) -/
  bulkPassed : Nat := 0
  busy : Nat
  landed : Nat
  wait : Option Wait
  fence : Option Fence
  freeze : Option Freeze
  held : Option (IssueAt × DrvFields)
  hltAt : Nat
  haltAt : Nat
  haltTick : Nat
  bankedAt : Nat
  kindleAt : Nat
  patrol : Nat
deriving DecidableEq, Repr

/-- A hearth that has run nothing (R187: VE registers read as zero after banking). -/
def Hearth.fresh : Hearth :=
  { phase := .idle, step := 0, pc := 0, first := false, last := 0, now := 0, seq := 0, ctx := [], g := [], flags := [],
    v := [], vPoison := [], vBad := [], calendar := [], armed := [], groups := [], loadFrame := none, storeFrame := none,
    topk := none, flueUntil := 0, sent := [], receives := [], queue0 := [], queue1 := [], finished := [], signals := [],
    inbound := [], serial := 0, waiting := [], busy := 0, landed := 0, wait := none, fence := none, freeze := none, held := none, hltAt := 0, haltAt := 0, haltTick := 0,
    bankedAt := 0, kindleAt := 0, patrol := 0 }

/-- A drive latch (R58): its step, its segment's elements and scale word as loaded, the cycle its load ends, once an issue
drives from it the cycle that issue and its re-issues end, and the number of its load. -/
structure Latch where
  step : Nat
  elems : List (BitVec 4)
  scale : Nat
  ready : Nat
  busyUntil : Option Nat
  seq : Nat
deriving DecidableEq, Repr

/-- A site (R58 to R61): its two latches, the step and cycle of its last executed issue, the end of its reserved
intervals, the set point of its 67 converters. -/
structure Site where
  latchA : Option Latch
  latchB : Option Latch
  step : Nat
  lastIssue : Option Nat
  reservedUntil : Nat
deriving DecidableEq, Repr

def Site.fresh : Site := { latchA := none, latchB := none, step := 0, lastIssue := none, reservedUntil := 0 }

/-- The check history of an array (R80): issues so far and the issue numbers of its mismatches. -/
structure CheckLog where
  issues : Nat
  mismatches : List Nat
deriving DecidableEq, Repr

def CheckLog.fresh : CheckLog := { issues := 0, mismatches := [] }

/-! ### Flue (10_on_die_network.md) -/

/-- A flue flit (R241, R252, R253): tag, unit, flit index, step field, 32 lanes with their poison, count and total. -/
structure Flit where
  tag : Nat
  unit : Nat
  index : Nat
  step : Nat
  lanes : List (Int × Bool)
  count : Nat
  total : Nat
deriving DecidableEq, Repr

/-- A flit held at a router (`router` is a hearth number) at an input: 0 local, 1 west, 2 east, 3 north, 4 south. -/
structure Held where
  router : Nat
  input : Nat
  flit : Flit
deriving DecidableEq, Repr

/-- One flit place of a merge-store unit (R257): contributions counted and lane sums. -/
structure StoreFlit where
  index : Nat
  count : Nat
  lanes : List (Int × Bool)
deriving DecidableEq, Repr

/-- An entry of a merge store (R257): its hearth, tag, unit and step field, the tag's total once known, its flits. -/
structure StoreUnit where
  hearth : Nat
  tag : Nat
  unit : Nat
  step : Nat
  total : Option Nat
  flits : List StoreFlit
deriving DecidableEq, Repr

/-- The flue: flits at router inputs (send queues are the local inputs) and the merge stores. -/
structure Flue where
  flits : List Held
  stores : List StoreUnit
deriving DecidableEq, Repr

/-! ### Steps at this part (07 R174 to R179, 08 R209, R210, 15 R363 to R368) -/

/-- Where a step stands here: inputs expected, launched, past its boundary, failed and awaiting replay, abandoned, handed
to the twin, committed. -/
inductive StepPhase where
  | waiting
  | running
  | halted
  | failed
  | abandoned
  | handed
  | committed
deriving DecidableEq, Repr

/-- An accepted input transfer of a step (R347): its slot, source, transfer, bytes, the granules it holds, whether its rows
have gone to the inbound queues, and the hearths whose event is still to be set. -/
structure StepInput where
  slot : Nat
  src : Nat
  tid : Nat
  data : List Byte
  poisoned : Bool
  port : Nat
  reserve : Nat
  shared : Nat
  forwarded : Bool
  waiting : List Nat
deriving DecidableEq, Repr

/-- One step as this part knows it. `cfg` is the dictionary at its launch (R210); `runs` counts its failures here. -/
structure StepRec where
  phase : StepPhase
  k : Nat
  gen : Nat
  kvGen : Nat
  hdr : Option StepHdr
  headEdge : Nat
  edgeTick : Nat
  known : Bool
  kindled : Bool
  launched : Option Nat
  boundary : Nat
  sources : List Nat
  inputs : List StepInput
  cfg : Tab Nat
  remaps : Tab (List Byte)
  variant : Nat
  runs : Nat
  fencedSeen : List Nat
  convSeen : List Nat
  tids : List Nat
  matched : List Nat
  stepDone : Bool
  /-- an attention request of the step found no free frame (11 R276) -/
  kvFull : Bool := false
deriving DecidableEq, Repr

/-- A step nothing is known of yet. -/
def StepRec.fresh : StepRec :=
  { phase := .waiting, k := 0, gen := 0, kvGen := 0, hdr := none, headEdge := 0, edgeTick := 0, known := false,
    kindled := false, launched := none, boundary := 0, sources := [], inputs := [], cfg := [],
    remaps := [], variant := 0, runs := 0, fencedSeen := [], convSeen := [], tids := [], matched := [], stepDone := false }

/-! ### Stacks, pages, contexts, attention (11_memory_stacks_attention.md) -/

/-- A KV page frame in use (R266, R267): its page header and the token slots written, four-bit K and V codes by dimension. -/
structure Page where
  ctx : Nat
  tenant : Nat
  layer : Nat
  head : Nat
  first : Nat
  kScale : Nat
  vScale : Nat
  kvGen : Nat
  state : Nat
  written : Nat
  slots : Tab (List (BitVec 4) × List (BitVec 4))
deriving DecidableEq, Repr

/-- Where a context stands (Table 11-5). -/
inductive Tier where
  | hot
  | warm
  | cellar
  | lost
deriving DecidableEq, Repr

/-- The page list of one (layer slot, KV head): its stack, frames by page number, the index of the first position of the last step
that used it and of the step before, the last step, and the committed length. -/
structure PageList where
  layer : Nat
  head : Nat
  die : Nat
  frames : Tab (Option Nat)
  first : Nat
  before : Nat
  step : Option Nat
  committed : Nat
deriving DecidableEq, Repr

/-- A KV mover's work on a context (R281, R282): 1 to CELLAR, 2 back to HOT; whether RESUME or DISCARD arrived meanwhile. -/
structure Move where
  kind : Nat
  resume : Bool
  discard : Bool
deriving DecidableEq, Repr

/-- A context record (R268): the KV of one conversation on this part; when its tier was reached and it was last used; the
move in progress; the bytes and offset of its slots in the CELLAR region, and the length each slot was given (R284). -/
structure Ctx where
  tenant : Nat
  kvGen : Nat
  committed : Nat
  tier : Tier
  lists : List PageList
  since : Nat
  used : Nat
  move : Option Move
  cellar : Nat
  cellarAt : Nat
  slotLen : Nat
deriving DecidableEq, Repr

/-- An attention request (R270): who submitted it, its descriptor, its latency bound with those ahead of it (in 1/134,400
ns), whether the gang has started it, and the run of the step that submitted it (R279). -/
structure AttnReq where
  die : Nat
  hearth : Nat
  step : Nat
  event : Nat
  request : List Byte
  bound : Nat
  started : Bool
  run : Nat
deriving DecidableEq, Repr

/-- What the admitting part keeps of a context's tier (R281): the coldest tier on any part, when the first part reached it,
the parts that have yet to report HOT after a RESUME, and whether one reported LOST. -/
structure TierTimer where
  tier : Tier
  since : Nat
  awaiting : List Nat
  lost : Bool
deriving DecidableEq, Repr

/-! ### Fabric (14_fabric_ports.md) -/

/-- A transfer this part sends and has not seen delivered (R348 to R350): its header, step header block and payload, its
port, the endpoints still outstanding and those among them that refused it, failed attempts, when it was last sent, when a
refused one is due again, the hearth whose DMA sent it plus 1, and the run of its step (its failures here at sending). -/
structure Sending where
  hdr : TransportHdr
  stepHdr : Option StepHdr
  payload : List Byte
  port : Nat
  left : List Nat
  refused : List Nat
  tries : Nat
  sentAt : Nat
  retryAt : Option Nat
  hearth : Nat
  run : Nat
  acked : Bool
deriving DecidableEq, Repr

/-- A retained ACT transfer (R365): its step, and the endpoints from which COMMIT must still arrive. -/
structure Retained where
  step : Nat
  left : List Nat
  send : Sending
deriving DecidableEq, Repr

/-- A transfer being received (R346): the granules it holds at its die's pool, from the port's reserve and from the shared
portion, when its first frame came, the bytes received, whether all have come, and whether its words are poisoned. -/
structure Receiving where
  src : Nat
  tid : Nat
  hdr : TransportHdr
  stepHdr : Option StepHdr
  port : Nat
  reserve : Nat
  shared : Nat
  since : Nat
  data : List Byte
  offsets : List Nat
  complete : Bool
  poisoned : Bool
deriving DecidableEq, Repr

/-- A DATA frame of a port (R335, R343): its sequence number once sent, its header and body, replays so far, and the
frames that passed it while it waited (R341), and the rack it goes to (R339). -/
structure LinkFrame where
  seq : Nat
  hdr : TransportHdr
  body : List Byte
  replays : Nat
  passed : Nat
  rack : Nat
deriving DecidableEq, Repr

/-- The link state of one port (R342 to R344, R352 to R356): next sequence number, frames waiting to be sent, frames not
acknowledged, last sequence received in order, whether a gap awaits it, when the last frame arrived and an acknowledgement
last advanced, frames received since the last LACK and when that went, credit held and credit owed in granules by class,
the IDENT accepted, the serial its peer proved, and when uncorrectable codewords arrived in the last ms (R344). -/
structure Port where
  txSeq : Nat
  queue : List LinkFrame
  retry : List LinkFrame
  rxSeq : Nat
  gap : Bool
  heardAt : Nat
  ackAt : Nat
  sinceAck : Nat
  lackAt : Nat
  credit : List Nat
  owed : List Nat
  ident : Option IdentBody
  peerSerial : Option Nat
  trainAt : Nat
  fecAt : List Nat
deriving DecidableEq, Repr

def Port.fresh : Port :=
  { txSeq := 0, queue := [], retry := [], rxSeq := 2 ^ 32 - 1, gap := false, heardAt := 0, ackAt := 0, sinceAck := 0,
    lackAt := 0, credit := [128, 128, 128], owed := [0, 0, 0], ident := none, peerSerial := none, trainAt := 0, fecAt := [] }
/-! ### Reads of host memory (12 R290, 05 R115, 11 R284) -/

/-- What a read of host memory is for: a request's prompt or bias list, the steep's scatter list or image bytes, a CELLAR
slot of a context. -/
inductive ReadFor where
  | prompt (req : Nat)
  | bias (req : Nat)
  | scatter
  | image (offset : Nat)
  | slot (ctx n : Nat)
deriving DecidableEq, Repr

/-- A read that has left and not completed: its port, tag, address, length, purpose, and whether it is the retry. -/
structure HostRead where
  port : HostPort
  tag : Nat
  addr : Nat
  len : Nat
  why : ReadFor
  retried : Bool
deriving DecidableEq, Repr

/-! ### Requests, rings, speculation (12, 13, 16) -/

/-- One step of a request (R298 to R300): its id, 0 while it waits for an edge; a prefill chunk, and whether it samples;
prefilled again and so free of charge; the index of its first position and its tree record; the commit it carries; the
mode it runs in; replays and restarts so far (R368); the rack time of its head edge. -/
structure Flight where
  step : Nat
  chunk : Bool
  samples : Bool
  free : Bool
  first : Nat
  tree : TreeRec
  m : Nat
  nodes : List Nat
  mode : Nat
  replays : Nat
  edge : Nat
deriving DecidableEq, Repr

/-- Where a request stands: its lists are being read, pending, admitted, ended with its final entry still to be written. -/
inductive ReqPhase where
  | reading
  | pending
  | active
  | ended
deriving DecidableEq, Repr

/-- A request of the request table or the pending table (R288, R297): its queue pair and entry; order of arrival and of
admission; context handle and generation fields; the tokens and biases read from host memory; the tokens still to be
prefilled, how many of the first of them are prefilled again without charge (R149, R285), and whether it generates, when the one token left is the next root; the tokens of its context; the index of its next first
position; what stage 0 has for its next step (commit record, guesses, tree, when the tokens came, mode); its steps; tokens
returned and grammar state; whether it holds a completion slot (R395); an outcome that waits for the step in flight; its
final entry when that waits for a slot; whether it writes no entry (R400); whether it waits for a
RESUME (R285); the last step whose tokens came (R373). -/
structure Request where
  port : HostPort
  qp : Nat
  entry : SubEntry
  phase : ReqPhase
  arrival : Nat
  order : Nat
  ctx : Nat
  gen : Nat
  kvGen : Nat
  prompt : List Nat
  bias : List (Nat × Nat)
  awaiting : Nat
  rest : List Nat
  refill : Nat
  generating : Bool
  history : List Nat
  first : Nat
  m : Nat
  nodes : List Nat
  guesses : List Nat
  tree : Option TreeRec
  tokensAt : Nat
  mode : Nat
  flights : List Flight
  returned : Nat
  grammar : Nat
  holds : Bool
  ending : Option Nat
  final : Option (List Byte)
  silent : Bool
  resuming : Bool
  lastStep : Nat
deriving DecidableEq, Repr

/-- A kept context as the admitting part knows it (R294): tenant, generation fields, its tokens, and the commit record that its
last step left for the next. -/
structure Kept where
  tenant : Nat
  gen : Nat
  kvGen : Nat
  history : List Nat
  m : Nat
  nodes : List Nat
deriving DecidableEq, Repr

/-- A queue pair beside its objects (R393, R396): the tail and head last written by the host, completion entries not yet
signalled and when the first of them was written, and the requests whose final entry waits for a slot. -/
structure QPair where
  tail : Nat
  head : Nat
  unsignalled : Nat
  since : Nat
  finals : List Nat
deriving DecidableEq, Repr

def QPair.fresh : QPair := { tail := 0, head := 0, unsignalled := 0, since := 0, finals := [] }

/-- The sampler role's record of a request, by context handle (R326): mode, miss count, plain steps left of a fall-back,
steps and drafts accepted; whether it is of class T, and then the token it drafts from, the step that returned it and the commit record it received
(R320). -/
structure Sampler where
  mode : Nat
  miss : Nat
  left : Nat
  steps : Nat
  accepted : Nat
  classT : Bool
  root : Option Nat
  step : Nat
  m : Nat
  nodes : List Nat
  /-- grammar state that the tokens of `step` have led to, where the request has a slot (13 R321) -/
  gram : Nat := 0
deriving DecidableEq, Repr

def Sampler.fresh : Sampler :=
  { mode := 0, miss := 0, left := 0, steps := 0, accepted := 0, classT := false, root := none, step := 0, m := 0, nodes := [] }

/-- What a port's mailbox holds after an access (Table 16-6): result, response tag, response length, data buffer. -/
structure Mailbox where
  result : Nat
  tag : Nat
  length : Nat
  data : List Byte
deriving DecidableEq, Repr

def Mailbox.fresh : Mailbox := { result := 0, tag := 0, length := 0, data := [] }

/-! ### Twins (15_twins_topology.md) -/

/-- A shadow check at the standby (R370): its step, header block and inputs by slot; whether its run has begun and has ended, and the ACT
payloads of the run by slot; the compare data that came from the primary, with the hidden state of the run at a TOKEN entry; and the
scratch of the run: pages, contexts and line states of the stacks as only it sees them. -/
structure Shadow where
  step : Nat
  hdr : StepHdr
  inputs : List (Nat × List Byte)
  running : Bool
  ended : Bool
  out : List (Nat × List Byte)
  theirs : Option (List Byte × List Byte)
  pages : Tab (Option Page)
  ctxs : Tab (Option Ctx)
  lines : Tab Nat
deriving DecidableEq, Repr

def Shadow.fresh (step : Nat) (hdr : StepHdr) : Shadow :=
  { step := step, hdr := hdr, inputs := [], running := false, ended := false, out := [], theirs := none, pages := [], ctxs := [], lines := [] }

/-- A recovery at the MANAGER (R380): the entry, the position that the spare takes, the spare, and whether it replaces a part that
still serves (R381). -/
structure Recovery where
  entry : Nat
  pos : Nat
  spare : Nat
  replace : Bool
deriving DecidableEq, Repr

/-! ### The island (17_management_island.md, 21_security_startup.md, 22_electrical_package.md) -/

/-- The island's sequencer (R510 to R513): SEQ_EN and SEQ_PG as bit masks, when the last step was taken, failed attempts,
a power-down that runs and whether it is forced, when a power-good was last lost, whether it starts again 1 s after the
rails have fallen, and whether the main-side reset is released. -/
structure Sequencer where
  enables : Nat
  goods : Nat
  stepAt : Nat
  fails : Nat
  down : Option Bool
  lostAt : Option Nat
  again : Bool
  released : Bool
deriving DecidableEq, Repr

def Sequencer.fresh : Sequencer :=
  { enables := 0, goods := 0, stepAt := 0, fails := 0, down := none, lostAt := none, again := false, released := false }

/-- The main side's boot ROM (R495): the digest announced, the code so far, failed matches, and when the start began. -/
structure Boot where
  digest : List Byte
  code : List Byte
  fails : Nat
  startAt : Nat
deriving DecidableEq, Repr

def Boot.fresh : Boot := { digest := [], code := [], fails := 0, startAt := 0 }

/-- A segmented write at the island (R421): the object, the operation, the bytes so far, the total, when the last segment
came. -/
structure Segmented where
  idx : Nat
  sub : Nat
  op : AccessOp
  data : List Byte
  total : Nat
  at_ : Nat
deriving DecidableEq, Repr

/-- An open SPDM session (R420, R421, R497): whether a peer session, the owner slot whose key opened it, the responses to
its last 64 sequence numbers (sequence, result, total, data), and its segmented writes in progress. -/
structure Session where
  peer : Bool
  slot : Option Nat
  kept : List (Nat × Nat × Nat × List Byte)
  segments : List Segmented
deriving DecidableEq, Repr

/-- One SPDM connection: 0 nothing negotiated, 1 version, 2 capabilities, 3 algorithms; a key exchange that awaits FINISH;
its session. -/
structure Conn where
  phase : Nat
  exchange : Option SpdmRequester
  session : Option Session
deriving DecidableEq, Repr

def Conn.fresh : Conn := { phase := 0, exchange := none, session := none }

/-- A NOA request that waits for the main side's OBJ_RESULT (R407): its correlation number and the request. -/
structure NoaWait where
  corr : Nat
  msg : NoaMsg
deriving DecidableEq, Repr
/-! ### Steeping, calibration, test and housekeeping (04, 05, 19, 20) -/

/-- One array of a steep or self-refresh (R121, R129): the array, its chunk, its target row records and column scales, and where
it stands: 0 staged, 1 rows, 2 kiln, 3 final verify, 4 scale store, 5 ended, 6 level read; the row and iteration, and the columns that
failed so far. -/
structure SteepArray where
  array : Nat
  chunk : Nat
  layer : Nat
  gen : Nat
  format : Nat
  flags : Nat
  rows : List (List Byte)
  scales : List Byte
  phase : Nat
  row : Nat
  iter : Nat
  failed : List Nat
deriving DecidableEq, Repr

/-- A steep or self-refresh that runs: command (1 host DMA, 2 fabric, 3 self-refresh), when it started, whether its head has been
verified, its host port, scatter list and the ranges of the image still to be read, its fabric source and image id, the image's
head, the content key, chunks accepted and chunks asked for again, its arrays, when a chunk last arrived or staging last had room,
the hearths whose calibration run comes first (R104), and the first outcome that concerned one array only. -/
structure SteepJob where
  kind : Nat
  startAt : Nat
  verified : Bool
  port : HostPort
  scatter : List (Nat × Nat)
  todo : List (Nat × Nat)
  source : Nat
  image : Nat
  head : List Byte
  key : Option (List Byte)
  got : List Nat
  again : List Nat
  arrays : List SteepArray
  named : List Nat
  held : List (Nat × List Byte)
  lastAt : Nat
  calFirst : List Nat
  worst : Nat
deriving DecidableEq, Repr

/-- A calibration run (R102): its hearths that wait, the group that runs, whether the master phase is over, and the group's next phase:
0 offset, 1 gain, 2 deck reference, 3 end. -/
structure CalRun where
  waiting : List Nat
  group : List Nat
  master : Bool
  phase : Nat
deriving DecidableEq, Repr

/-- An injected sequence (R448): its record kind (1 droop, 2 drive event) and how many results of each converter are
still to come, none given before the common sample is taken. -/
structure Injected where
  kind : Nat
  left : List Nat
deriving DecidableEq, Repr

/-! ### The state, in parts -/

/-- Time, cadence and core frequency (07_clocks_cadence_power.md; 22 R509). -/
structure ClockPart where
  /-- ticks of the rack reference since reset (07 R3, R4) -/
  tick : Nat
  /-- rack time in ns, 64 bits (00 R5, 07 R169); starts at 0 (21 R501) -/
  rackTime : BitVec 64
  /-- offset to the time transmitter still to be slewed, ns (07 R170) -/
  slew : Int
  /-- tick of the last 9 or 11 ns step (07 R170) -/
  slewTick : Nat
  /-- the model's own counter of free values drawn; no statement rests on it -/
  free : Nat
  /-- frequency of core PLL H in effect, MHz (07 R161); OD 0x2101.02 -/
  coreMhz : Nat
  /-- CADENCE edges seen, tick and latched rack time, oldest first, the last 1,024 (07 R172, R174) -/
  edges : List (Nat × Nat)
  /-- consecutive edges off the grid in force, tick and rack time, the last 4 (07 R173) -/
  grid : List (Nat × Nat)
  /-- consecutive edges missed (07 R173) -/
  missed : Nat
  /-- cadence is LOST (07 R173) -/
  cadenceLost : Bool
  /-- consecutive correct edges while cadence is LOST (07 R173) -/
  goodEdges : Nat
  /-- the frequency core PLL H glides to, MHz (07 R162) -/
  freqTarget : Nat
  /-- the core frequency whose set point the VDD_CORE regulator last took, MHz (22 R509) -/
  setPoint : Nat
  /-- when a higher set point was written for a rise that waits (22 R509) -/
  setPointAt : Option Nat
  /-- a set point write was not acknowledged and is retried (22 R509) -/
  pmbusFailed : Bool
  /-- since when the reference has been in range, ns (07 R160) -/
  refSince : Nat
  /-- when the last Sync message arrived, ns (07 R171) -/
  ptpAt : Nat
  /-- the tick at which this part releases HOLD_N (07 R176) -/
  holdUntil : Nat
  /-- HOLD_N is treated as stuck (07 R177) -/
  holdStuck : Bool
  /-- HOLD_N pulses taken for the next step from the board partner (07 R177) -/
  partnerSlips : Nat
  /-- core PLL H glides from its frequency in effect to freqTarget (07 R162) -/
  gliding : Bool
deriving DecidableEq, Repr

/-- The dictionary, what has left the part, and the chimney (18, 20). -/
structure RecordPart where
  /-- every field of every object of the dictionary, keyed by odKey (18 R439) -/
  dict : Tab Nat
  /-- every byte string of the dictionary: masks, tables, images, records logs (18 R431, R439) -/
  blobs : Tab (List Byte)
  /-- what has left the part, in order (host writes, frames, barrier frames, responses, pins) -/
  out : List Out
  /-- chimney queue of event ring A, 1,024 records (20 R477) -/
  path0 : PathQ
  /-- chimney queue of event ring B, 1,024 records (20 R477) -/
  path1 : PathQ
  /-- chimney queue of the side-band, 2,048 records at the island (20 R477) -/
  path2 : PathQ
  /-- chimney queue of the soot ring, 4,096 records (20 R477) -/
  path3 : PathQ
  /-- event ring of port A (20 R480) -/
  ringA : EventRing
  /-- event ring of port B (20 R480) -/
  ringB : EventRing
  /-- result word of the last access of each requester, by requester number (18 R428); the model keeps it beside the mailbox and the responses -/
  results : Tab Nat
deriving DecidableEq, Repr

/-- The hearth die: hearths, buffers, sites, flue, steps (03, 08, 09, 10). -/
structure HearthPart where
  /-- the engines of each hearth: stoker, registers, flags, cycle counter, VE, DMA engines (08 R186) -/
  hearths : Tab Hearth
  /-- hearth buffers, 128 times 2 MiB, keyed (32768 * h + row) * 64 + byte (09 R214) -/
  buf : Tab Byte
  /-- written bit of each row (09 R219) -/
  bufWritten : Tab Bool
  /-- what the cells of each 128-bit word hold: 0 good, 1 one flipped bit, 2 more, 3 poison; plus 4 when a re-read with widened margin decodes (09 R214, R220, R222, R224) -/
  bufWord : Tab Nat
  /-- rows that hold part of a block narrowed to scale 0xFF (09 R225) -/
  bufBad : Tab Bool
  /-- words waiting for a write-back, at most 4 per bank, keyed h * 16 + bank (09 R220) -/
  writeBacks : Tab (List Nat)
  /-- the programmed weight of each cell pair, 131,072 arrays times 1,024 rows times 531 columns, as its W4I, W4F, W3I or WT code (02 R35, 03 R54) -/
  weights : Tab (BitVec 4)
  /-- S16 column scales of each array, 512 words (03 R76) -/
  scales : Tab Nat
  /-- drive latches and issue timing of each of 65,536 sites (03 R58 to R61) -/
  latches : Tab Site
  /-- check history of each array (03 R80) -/
  checks : Tab CheckLog
  /-- converters out of service, keyed site * 128 + converter (03 R86, R523) -/
  convOut : Tab Bool
  /-- steps and rack times of unsettled conversions of each converter (03 R523) -/
  settleFails : Tab (List (Nat × Nat))
  /-- flits held at the routers and the merge stores (10 R252 to R257) -/
  flue : Flue
  /-- the steps this part knows, by step id (07 R174, 08 R209, R210, 15 R364) -/
  steps : Tab (Option StepRec)
  /-- steps and rack times of the RESIDUE and PARITY records of each unit (20 R465) -/
  residueLog : Tab (List (Nat × Nat))
  /-- per layer: generation, KV predecessor and arrays of the image that last named it; generation 0 after an abort (05 R126, 06 R134) -/
  layerImage : Tab (Nat × Nat × List Nat)
  /-- layer slots that the loaded program uses (06 R135) -/
  usedSlots : List Nat
  /-- accepted reference-column samples of each hearth since the last round: array, code, quarters of a unit product expected over full scale steps (03 R81, 04 R108) -/
  refSamples : Tab (List (Nat × Int × Int))
  /-- converters to be taken out of service at the next step boundary, site * 128 + converter (03 R523) -/
  convPending : List Nat
  /-- hearths to go OFF at the next step boundary, and whether as a fault (07 R181, 09 R224, 20 R465) -/
  offPending : List (Nat × Bool)
  /-- digital units to be fenced at the next step boundary, by unit path (20 R465) -/
  fencePending : List Nat
  /-- the part has reported itself failed (15 R374) -/
  selfFailed : Bool
  /-- what RWB fields written while a step runs had before, plus 1: in force until the boundary (08 R210) -/
  rwbOld : Tab Nat
  /-- what RWB byte strings written while a step runs had before: in force until the boundary (08 R210) -/
  rwbOldBlobs : Tab (Option (List Byte))
  /-- permanent faults of the cells of each 128-bit word: 0 none, else as the word then reads (09 R220) -/
  bufStuck : Tab Nat
  /-- the shadow copy in the stacks of the rows of LOAD regions, as they were loaded, keyed 32768 * h + row (09 R228) -/
  shadowRows : Tab (Option (List Byte))
deriving DecidableEq, Repr

/-- Stacks, contexts, attention and tiers (11_memory_stacks_attention.md), reads of host memory. -/
structure MemoryPart where
  /-- data areas and soot ring of the two stacks by 38-bit stack address (11 R261, R262) -/
  stack : Tab Byte
  /-- 64-byte lines that read uncorrectable (1), carry a poison pattern (2) or hold a correctable error (3), by address / 64 (11 R264, R521) -/
  stackLine : Tab Nat
  /-- page frames in use with their headers, by frame number (11 R262, R266, R267) -/
  pages : Tab (Option Page)
  /-- retired frames by their place in the stacks, or groups of 256 (true), in island non-volatile memory (11 R264) -/
  retired : List (Nat × Bool)
  /-- retired frames listed in the stacks' system regions (11 R264) -/
  retiredSoft : List Nat
  /-- frames that steep staging holds in M0 and M1 (05 R117, 11 R262) -/
  staging : Nat × Nat
  /-- context records by handle (11 R268) -/
  ctxs : Tab (Option Ctx)
  /-- attention requests submitted and not completed, oldest first (11 R270) -/
  attnQueue : List AttnReq
  /-- tier timers of contexts at the admitting part (11 R281) -/
  tiers : Tab (Option TierTimer)
  /-- reads of host memory that have left and not completed (12 R290, 05 R115, 11 R284) -/
  reads : List HostRead
  /-- the tag of the next read of host memory, 10 bits; the model's own choice of numbers -/
  nextRead : Nat
  /-- tier actions that wait for KVMOVE, in order: action and context (07 R522) -/
  tierWaits : List (Nat × Nat)
  /-- stack lines that hold part of a block narrowed to scale 0xFF, by line (09 R225) -/
  stackBad : Tab Bool
deriving DecidableEq, Repr

/-- Fabric ports, transfers, twins and topology (14, 15). -/
structure FabricPart where
  /-- transfers sent and not yet delivered or failed (14 R348 to R350) -/
  sending : List Sending
  /-- retention store of sent ACT transfers (15 R365) -/
  retained : List Retained
  /-- accepted transfers whose frames are not complete (14 R346) -/
  receiving : List Receiving
  /-- the last 1,024 completed transfer ids of each source (14 R351) -/
  completed : Tab (List Nat)
  /-- link state of P0 to P7 (14 R342 to R344) -/
  ports : Tab Port
  /-- the next transfer id this part chooses (14 Table 14-5); the model's own choice of numbers -/
  nextTid : Nat
  /-- the part is ready to serve: the main side has finished start-up (21 R501) -/
  ready : Bool
  /-- an accepted stage table that waits for its effective edge (15 R361) -/
  tableNext : List Byte
  /-- failure probes of the admitting part that have no answer yet: endpoint and when it was sent (15 R374) -/
  probes : List (Nat × Nat)
  /-- positions this part has reported and not heard of since (15 R366, R374) -/
  suspects : List Nat
  /-- replays that wait for a declaration: step and entry (15 R366) -/
  heldResends : List (Nat × Nat)
  /-- positions the admitting part has declared failed (15 R374, R375) -/
  declared : List Nat
  /-- bytes so far of an object that the admitting part forwards to this part in segments (12 R305, 13 R328, 15 R361); the model's own -/
  forwarding : List Byte
  /-- the stage table before the one in force, by which steps launched earlier are routed (15 R361) -/
  tableOld : List Byte
  /-- the latched time of the edge at which the table in force took effect (15 R361) -/
  tableAt : Nat
  /-- the requests of the admitting part as its twin knows them (15 R369, R376) -/
  mirrored : Tab (Option ReqMirror)
  /-- the shadow check of a standby (15 R370) -/
  shadow : Option Shadow
  /-- the recovery that the MANAGER carries out (15 R380) -/
  recovery : Option Recovery
  /-- the entry this spare is assigned to (15 R380) -/
  assigned : Option Nat
  /-- the entry whose positions the admitting part tests, and the position under test (15 R372) -/
  entryTest : Option (Nat × Nat)
  /-- the part has left a LOCKSTEP entry under cover for due tests or runs and joins again when they are done (04 R101, 20 R473) -/
  coveredAway : Bool
  /-- positions that have rejoined a pair and whose copy is not complete: they give no cover (06 R146, 15 R377) -/
  syncing : List Nat
  /-- entries that have reached OD 0x4104.03 disagreements, as the admitting part knows of them (15 R372) -/
  doubtful : List Nat
  /-- per entry, the comparisons made here and the numbers of the latest that disagreed (15 R372) -/
  checkMarks : Tab (Nat × List Nat)
  /-- the deep test under way here is that of R372: failing it takes the position out of service (15 R372) -/
  entryTested : Bool
deriving DecidableEq, Repr

/-- Requests, queue pairs, speculation, generations (06, 12, 13, 16). -/
structure ServingPart where
  /-- the request table and the pending table of the admitting part, by request number (12 R288, R297) -/
  requests : Tab (Option Request)
  /-- the next request number; the model's own choice of numbers -/
  nextReq : Nat
  /-- the next context handle this part assigns (11 R268); the model's own choice of numbers -/
  nextCtx : Nat
  /-- the next step id this part gives (07 R174, 15 R367); the model's own choice of numbers -/
  nextStep : Nat
  /-- arrivals and admissions so far, for the orders of R297 and R300 -/
  nextOrder : Nat
  /-- kept contexts as the admitting part knows them (12 R294) -/
  kept : Tab (Option Kept)
  /-- edges since the last prefill launch (12 R300) -/
  prefillEdges : Nat
  /-- the queue pairs of both ports, port times 256 plus number (16 R392 to R396) -/
  qps : Tab QPair
  /-- event cause registers of both ports (16 Table 16-5) -/
  eventCause : Tab Nat
  /-- mailbox registers of both ports (16 Table 16-6) -/
  mailboxes : Tab Mailbox
  /-- the sampler role's requests by context handle (13 R326) -/
  samplers : Tab (Option Sampler)
  /-- generations the admitting part has retired (06 R150) -/
  retiredGens : List Nat
  /-- an accepted switch that waits for its edge: target and earliest time (06 R142) -/
  switchTo : Option (Nat × Nat)
  /-- the barrier was raised by the admitting part itself (06 R143) -/
  barrierAuto : Bool
  /-- the admission hold of an untwinned part for calibration or test cover, and its hearths (04 R101, 20 R473) -/
  holdFor : Option Nat
  /-- when the admitting part last granted an admission hold, ns (20 R473) -/
  heldAt : Option Nat
  /-- rack time at which the token stage, where it is this admitting part, completed a step's selection (12 R291, Table 12-3) -/
  selectedAt : Tab Nat
  /-- positions of pair 30 that have yet to apply the image of a grammar slot (12 R305) -/
  gramAwait : Tab (List Nat)
deriving DecidableEq, Repr

/-- Sensors, the island barrier, the island and start-up (17, 19, 21, 22). -/
structure IslandPart where
  /-- value in use of each of 142 sensors, 1/16 degree C (19 R442) -/
  sensorUse : Tab Int
  /-- latest result word of each housekeeping channel (19 R444, Table 19-2) -/
  hkLatest : Tab Nat
  /-- barrier, main to island, normal lane (17 R405, R408) -/
  laneMainNormal : Lane
  /-- barrier, main to island, urgent lane (17 R405, R408) -/
  laneMainUrgent : Lane
  /-- barrier, island to main, normal lane (17 R405, R408) -/
  laneIslandNormal : Lane
  /-- barrier, island to main, urgent lane (17 R405, R408) -/
  laneIslandUrgent : Lane
  /-- the main side holds the island LOST (17 R412) -/
  islandLost : Bool
  /-- side-band records held while the island is LOST, 256 KiB (17 R412) -/
  lostQueue : List Record
  /-- when the island last started, ns (21 R494) -/
  islandAt : Nat
  /-- the main side's boot ROM (21 R495) -/
  boot : Boot
  /-- every object of the start-up stream has been applied (21 R500, R501) -/
  streamed : Bool
  /-- the start-up integrity check is complete (05 R130, 21 R501) -/
  integrity : Bool
  /-- the four SPDM connections (17 R420, 21 R496) -/
  conns : Tab Conn
  /-- NOA requests the island has passed to the main side (17 R407) -/
  noaWaits : List NoaWait
  /-- the next correlation number (17 Table 17-2); the model's own choice of numbers -/
  nextCorr : Nat
  /-- when the island last took a heartbeat, ns (17 R410) -/
  islandHeard : Nat
  /-- when the main side last took a heartbeat, ns (17 R412) -/
  mainHeard : Nat
  /-- the hang timeout has acted on the present hang (17 R410) -/
  hangAlarmed : Bool
  /-- the journal of stored changes while the island is LOST: dictionary key and bytes (17 R413) -/
  journal : List (Nat × Nat)
  /-- the journal was full and its alarm raised (17 R413) -/
  journalFull : Bool
  /-- the main side is in thermal hold (19 R457) -/
  thermalHold : Bool
  /-- N values that the island stored while the main side was not UP, and that its next start applies: instance, index, subindex, bytes (17 R424) -/
  storedNext : List (Nat × Nat × Nat × List Byte)
  /-- MGMT requests passed to the island: session, sequence number, source endpoint (17 R422) -/
  mgmtFrom : List (Option (BitVec 2) × Nat × Nat)
  /-- bytes so far of a BLOB that crosses the island barrier to the main side: index, subindex, bytes (17 Table 17-1) -/
  blobSoFar : List (Nat × Nat × List Byte)
deriving DecidableEq, Repr

/-- What the power sequence, the start of the island, a firmware trial and the test port hold; only commands of 21 and 22 change it. -/
structure AlwaysOnPart where
  /-- the island: 0 in its ROM or held in reset, 1 running, 2 kept in its ROM because no slot passed (21 R494) -/
  islandRun : Nat
  /-- firmware trial: 0 none, 1 pending, 2 running (21 R494) -/
  trial : Nat
  /-- the firmware slot that runs, 0 A, 1 B (21 R494) -/
  runSlot : Nat
  /-- the island's power sequencer (22 R510 to R513) -/
  seq : Sequencer
  /-- the instruction the TAP holds, by its place in the list of 22 R519; IDCODE (1) after a reset of the TAP -/
  tapInstr : Nat
deriving DecidableEq, Repr

/-- Steeping, calibration, test and housekeeping (04, 05, 19, 20). -/
structure UpkeepPart where
  /-- the steep or self-refresh that runs (05 R115 to R132) -/
  steep : Option SteepJob
  /-- remaps that wait for an array: array, physical column, cause (05 Table 05-8) -/
  remapWaits : List (Nat × Nat × Nat)
  /-- converter trim words and deck references of each site as the last run set them, keyed site * 72 + converter, 67 REF_U, 68 REF_L (04 R96) -/
  trims : Tab Nat
  /-- compensation of each hearth's deck references in steps of REF, as the last round computed it (04 R98) -/
  compWanted : Tab Int
  /-- compensation in force at each site (04 R99) -/
  compAt : Tab Int
  /-- steep count of each site at its last run, low 16 bits (04 R105) -/
  calSerial : Tab Nat
  /-- reference trim of each hearth (04 R96) -/
  hearthTrim : Tab Nat
  /-- the master trim (04 R96) -/
  masterTrim : Nat
  /-- the calibration run in progress (04 R102) -/
  calRun : Option CalRun
  /-- an accepted calibration image that is not applied yet (04 R106) -/
  calImage : List Byte
  /-- bytes so far of a calibration image that crosses the island barrier (17 Table 17-1) -/
  calBuffer : List Byte
  /-- consecutive rounds in which a sensor gave no good result (19 R458) -/
  badRounds : Tab Nat
  /-- sensors with a result in the present round, and whether it was good (19 R458) -/
  roundSeen : List (Nat × Bool)
  /-- sequence number of the next housekeeping record (19 Table 19-6) -/
  hkSeq : Nat
  /-- offset of the next record in the result buffer (19 R449) -/
  hkOffset : Nat
  /-- result buffer in force for the present round: stack address and size (19 R449) -/
  hkBuffer : Nat × Nat
  /-- part power of the rounds of the last second: when, ns, and W (19 R453) -/
  powerLog : List (Nat × Nat)
  /-- the slow-down request that stands, and since when, ns (19 R451) -/
  slowDown : Option Nat
  /-- the damper level C that the part computes (19 R453) -/
  damperLevel : Nat
  /-- when C last changed or was last tested for a fall, ns (19 R453) -/
  damperAt : Nat
  /-- when the 5 ms test of C was last made, ns (19 R453) -/
  damperTest : Nat
  /-- when the present regular round started, ns (19 R447) -/
  roundAt : Nat
  /-- the injected sequence that runs (19 R448) -/
  injected : Option Injected
  /-- no DRV with L = 0 has issued since the last launch here (19 R448) -/
  driveArmed : Bool
  /-- hearths whose deep test is asked for and has not started (20 R474) -/
  deepWanted : List Nat
  /-- the test that runs on a hearth: 0 none, 1 routine, 2 deep (20 R472) -/
  testing : Tab Nat
  /-- bits in the bucket of the side-band chimney (20 R481); full at the start -/
  sideBits : Nat
  /-- when that bucket was last filled, ns (20 R481) -/
  sideAt : Nat
  /-- rack time of the first record since the soot ring was last started (20 Table 20-10) -/
  sootStart : Nat
  /-- when the part became ready, ns (20 R483) -/
  readyAt : Nat
  /-- when the kiln of each array last ended, ns plus 1; 0 never (04 R91, R92); a fact of its cells -/
  kilnAt : Tab Nat
  /-- the housekeeping converters run at their low-power rate (19 R450) -/
  hkSlow : Bool
deriving DecidableEq, Repr

/-- The whole state of the part (INVENTORY.md, State). -/
structure State extends ClockPart, RecordPart, HearthPart, MemoryPart, FabricPart, ServingPart, IslandPart, AlwaysOnPart, UpkeepPart where
  /-- the commands that are waiting, first in, first out; the model's own (the queue of the block) -/
  pending : List Instr
deriving DecidableEq, Repr

/-- The part right after reset: every object at its default, every queue empty, every hearth BANKED, the main side OFF
and the island in its boot ROM. Fields whose value the spec does not give are named in the assumption log. -/
def State.reset : State :=
  { pending := [],
    tick := 0,
    rackTime := 0,
    slew := 0,
    slewTick := 0,
    free := 0,
    dict := [],
    blobs := [],
    out := [],
    path0 := { queue := [], alarmAt := none },
    path1 := { queue := [], alarmAt := none },
    path2 := { queue := [], alarmAt := none },
    path3 := { queue := [], alarmAt := none },
    ringA := { index := 0, head := 0, phase := true, sentAt := 0, unsignalled := false },
    ringB := { index := 0, head := 0, phase := true, sentAt := 0, unsignalled := false },
    hearths := [],
    buf := [],
    bufWritten := [],
    bufWord := [],
    bufBad := [],
    writeBacks := [],
    weights := [],
    scales := [],
    latches := [],
    checks := [],
    convOut := [],
    settleFails := [],
    flue := { flits := [], stores := [] },
    sensorUse := [],
    hkLatest := [],
    laneMainNormal := Lane.fresh,
    laneMainUrgent := Lane.fresh,
    laneIslandNormal := Lane.fresh,
    laneIslandUrgent := Lane.fresh,
    islandLost := false,
    lostQueue := [],
    steps := [],
    coreMhz := 3000,
    residueLog := [],
    layerImage := [],
    usedSlots := [],
    refSamples := [],
    convPending := [],
    offPending := [],
    fencePending := [],
    selfFailed := false,
    stack := [],
    stackLine := [],
    pages := [],
    retired := [],
    retiredSoft := [],
    staging := (0, 0),
    ctxs := [],
    attnQueue := [],
    sending := [],
    retained := [],
    receiving := [],
    completed := [],
    ports := [],
    nextTid := 1,
    ready := false,
    tableNext := [],
    results := [],
    tiers := [],
    reads := [],
    nextRead := 0,
    edges := [],
    grid := [],
    missed := 0,
    cadenceLost := false,
    goodEdges := 0,
    requests := [],
    nextReq := 1,
    nextCtx := 1,
    nextStep := 1,
    nextOrder := 1,
    kept := [],
    prefillEdges := 0,
    qps := [],
    eventCause := [],
    mailboxes := [],
    samplers := [],
    retiredGens := [],
    switchTo := none,
    barrierAuto := false,
    holdFor := none,
    probes := [],
    suspects := [],
    heldResends := [],
    declared := [],
    islandRun := 0,
    islandAt := 0,
    trial := 0,
    runSlot := 0,
    seq := Sequencer.fresh,
    boot := Boot.fresh,
    streamed := false,
    integrity := false,
    conns := [],
    noaWaits := [],
    nextCorr := 1,
    islandHeard := 0,
    mainHeard := 0,
    hangAlarmed := false,
    journal := [],
    journalFull := false,
    thermalHold := false,
    tapInstr := 1,
    freqTarget := 3000,
    setPoint := 3000,
    setPointAt := none,
    pmbusFailed := false,
    refSince := 0,
    ptpAt := 0,
    holdUntil := 0,
    holdStuck := false,
    partnerSlips := 0,
    forwarding := [],
    tableOld := [],
    tableAt := 0,
    mirrored := [],
    shadow := none,
    recovery := none,
    assigned := none,
    entryTest := none,
    heldAt := none,
    steep := none,
    remapWaits := [],
    trims := [],
    compWanted := [],
    compAt := [],
    calSerial := [],
    hearthTrim := [],
    masterTrim := 0,
    calRun := none,
    calImage := [],
    calBuffer := [],
    badRounds := [],
    roundSeen := [],
    hkSeq := 0,
    hkOffset := 0,
    hkBuffer := (0, 0),
    powerLog := [],
    slowDown := none,
    damperLevel := 0,
    damperAt := 0,
    damperTest := 0,
    roundAt := 0,
    injected := none,
    driveArmed := false,
    deepWanted := [],
    testing := [],
    sideBits := 64000,
    sideAt := 0,
    sootStart := 0,
    readyAt := 0,
    storedNext := [],
    mgmtFrom := [],
    rwbOld := [],
    rwbOldBlobs := [],
    kilnAt := [],
    hkSlow := false,
    coveredAway := false,
    tierWaits := [],
    bufStuck := [],
    shadowRows := [],
    stackBad := [],
    gliding := false,
    syncing := [],
    doubtful := [],
    checkMarks := [],
    entryTested := false,
    selectedAt := [],
    gramAwait := [],
    blobSoFar := [] }

end Sys2Proof.Machine
end

