-- ==== Sys2Proof/Machine/Ops.lean ====
section
/-! DEFINITION. Machine/Ops.lean: the named operations that every family shares: the object dictionary (R427 to R440),
free values, outputs, the island barrier's send side (R407, R408), and raising a record (R467 to R469, R477 to R479). -/

namespace Sys2Proof.Machine

/-! ### The dictionary -/

/-- A field of an object of unit `inst` (0 where the object has one instance). -/
def State.odAt (s : State) (inst idx sub fld : Nat) : Nat := s.dict.get (odDefault idx sub fld) (odKey inst idx sub fld)

/-- A field of an object with one instance. -/
def State.od (s : State) (idx sub fld : Nat) : Nat := s.odAt 0 idx sub fld

def State.setOdAt (inst idx sub fld v : Nat) (s : State) : State :=
  { s with dict := s.dict.put (odDefault idx sub fld) (odKey inst idx sub fld) v }

def State.setOd (idx sub fld v : Nat) (s : State) : State := s.setOdAt 0 idx sub fld v

/-- Count `n` more in a counter field, saturating (R438). -/
def State.bumpAt (inst idx sub fld n : Nat) (s : State) : State :=
  s.setOdAt inst idx sub fld (min (s.odAt inst idx sub fld + n) (odMax idx sub fld))

def State.bump (idx sub fld n : Nat) (s : State) : State := s.bumpAt 0 idx sub fld n

/-- The bytes of an object's fields as the dictionary holds them. -/
def State.fieldBytes (s : State) (inst idx sub : Nat) : List Byte :=
  (odWidths idx sub).zipIdx.flatMap fun w => leBytes w.1 (s.odAt inst idx sub w.2)

/-- The bytes of a BLOB or STR object as last accepted; empty where nothing was. -/
def State.blobAt (s : State) (inst idx sub : Nat) : List Byte := s.blobs.get [] (odKey inst idx sub 0)

def State.blob (s : State) (idx sub : Nat) : List Byte := s.blobAt 0 idx sub

def State.setBlobAt (inst idx sub : Nat) (v : List Byte) (s : State) : State :=
  { s with blobs := s.blobs.put [] (odKey inst idx sub 0) v }

def State.setBlob (idx sub : Nat) (v : List Byte) (s : State) : State := s.setBlobAt 0 idx sub v

/-- Bit `i` of a mask object. -/
def State.mask (s : State) (idx sub i : Nat) : Bool := maskBit (s.blob idx sub) i

def State.setMask (size idx sub i : Nat) (v : Bool) (s : State) : State :=
  s.setBlob idx sub (maskPut size (s.blob idx sub) i v)

/-- A field of an RWB object in force: what it held before a write acknowledged while a step runs, until the boundary (R210). -/
def State.inForce (s : State) (idx sub fld : Nat) : Nat :=
  match s.rwbOld.get 0 (odKey 0 idx sub fld) with
  | 0 => s.od idx sub fld
  | v + 1 => v

/-- A byte string of an RWB object in force (R210). -/
def State.blobInForce (s : State) (idx sub : Nat) : List Byte := (s.rwbOldBlobs.get none (odKey 0 idx sub 0)).getD (s.blob idx sub)

/-- Keep what a number or byte string of an RWB object holds, as a write comes while a step runs. The first such write counts. -/
def State.keepOld (idx sub fld : Nat) (s : State) : State :=
  let k := odKey 0 idx sub fld
  if s.rwbOld.get 0 k = 0 then { s with rwbOld := s.rwbOld.put 0 k (s.od idx sub fld + 1) } else s
def State.keepOldBlob (idx sub : Nat) (s : State) : State :=
  let k := odKey 0 idx sub 0
  if s.rwbOldBlobs.get none k = none then { s with rwbOldBlobs := s.rwbOldBlobs.put none k (some (s.blob idx sub)) } else s

/-- Whether bit `b` of OD 0x2120 is set (Table 07-2): what object accesses are judged by (R522). -/
def State.enableSet (s : State) (b : Nat) : Bool := bit (s.od 0x2120 0 0) b

/-- Whether the block of bit `b` runs: its bit is set, or was cleared while a step that uses the block runs (R167). -/
def State.enabled (s : State) (b : Nat) : Bool := s.enableSet b || bit (s.inForce 0x2120 0 0) b

/-- A field in force for a step: RWB objects as they stood at its launch (R210). -/
def cfgOf (cfg : Tab Nat) (idx sub fld : Nat) : Nat := cfg.get (odDefault idx sub fld) (odKey 0 idx sub fld)

/-! ### Free values, time, outputs -/

/-- Advance the counter of free values by `n`. -/
def State.spend (n : Nat) (s : State) : State := { s with free := s.free + n }

/-- Rack time in ns. -/
def State.now (s : State) : Nat := s.rackTime.toNat

def State.emit (o : Out) (s : State) : State := { s with out := s.out ++ [o] }

/-- Nominal ns since reset by ticks (R4), for intervals that no correction of rack time may move. -/
def State.elapsed (s : State) : Nat := s.tick * 10

/-! ### The barrier's send side (R407, R408) -/

/-- Put a frame on a lane: sent while fewer than 32 are unacknowledged, else kept in order. -/
def Lane.push (kind corr : Nat) (body : List Byte) (l : Lane) : Lane :=
  let f : BFrame := { kind := kind, seq := l.next, corr := corr, body := body }
  let l' := { l with next := (l.next + 1) % 65536 }
  if l.unacked.length < 32 then { l' with unacked := l.unacked ++ [f] } else { l' with queued := l.queued ++ [f] }

/-- The main side sends a barrier frame. -/
def State.sendToIsland (urgent : Bool) (kind corr : Nat) (body : List Byte) (s : State) : State :=
  let seq := if urgent then s.laneMainUrgent.next else s.laneMainNormal.next
  let s := if urgent then { s with laneMainUrgent := s.laneMainUrgent.push kind corr body }
    else { s with laneMainNormal := s.laneMainNormal.push kind corr body }
  (s.bump 0x1301 0 0 1).emit (.barrier false kind seq corr body)

/-- The island sends a barrier frame. -/
def State.sendToMain (urgent : Bool) (kind corr : Nat) (body : List Byte) (s : State) : State :=
  let seq := if urgent then s.laneIslandUrgent.next else s.laneIslandNormal.next
  let s := if urgent then { s with laneIslandUrgent := s.laneIslandUrgent.push kind corr body }
    else { s with laneIslandNormal := s.laneIslandNormal.push kind corr body }
  s.emit (.barrier true kind seq corr body)

/-! ### Unit paths (Table 20-4) -/

def pathDie (die unit : Nat) : Nat := 2 ^ 29 * die + 2 ^ 20 * unit
def pathUnit (die unit sub index : Nat) : Nat := 2 ^ 29 * die + 2 ^ 27 + 2 ^ 20 * unit + 2 ^ 16 * sub + index
/-- Level 2: the site of array `a`, with its deck. -/
def pathSite (a : Nat) : Nat :=
  let site := a / 2 % 64
  2 ^ 28 + 2 ^ 20 * (a / 1024) + 2 ^ 17 * (a / 128 % 8) + 2 ^ 14 * (site % 8) + 2 ^ 11 * (site / 8) + 2 ^ 10 * (a % 2)
/-- Level 3: a column of array `a`, or 768 + c for converter c. -/
def pathColumn (a col : Nat) : Nat := pathSite a + 2 ^ 27 + col

/-! ### Sensors and rails as records carry them (Table 20-3) -/

/-- The value in use of a sensor, 1/16 °C (R442). -/
def State.sensor (s : State) (n : Nat) : Int := s.sensorUse.get 0 n

/-- The largest value in use of sensors `lo` to `lo + n`. -/
def State.hottestOf (s : State) (lo n : Nat) : Int :=
  (List.range n).foldl (fun m i => max m (s.sensor (lo + i + 1))) (s.sensor lo)

/-- A rail in mV from its channel's latest result (Table 19-2: 1.2 V full scale). -/
def State.railMv (s : State) (chan : Nat) : Nat := (divRne ((s.hkLatest.get 0 chan % 4096) * 1200 : Nat) 4095).toNat

/-- The die quadrant of a hearth: col ≥ 8, plus 2 for row ≥ 4. -/
def quadrant (h : Nat) : Nat := (if 8 ≤ h % 16 then 1 else 0) + (if 4 ≤ h / 16 then 2 else 0)

def State.lowestCore (s : State) : Nat := (List.range 7).foldl (fun m i => min m (s.railMv (0xA1 + i))) (s.railMv 0xA0)

def recordTemp (s : State) (path : Nat) : Int :=
  let die := field path 31 29
  let unit := field path 26 20
  if die = 0 then (if field path 28 27 = 0 then s.hottestOf 0 135 else s.sensor unit)
  else if die = 1 then s.hottestOf 128 3
  else if die = 2 then s.hottestOf 132 3
  else if die = 3 then s.hottestOf 136 1
  else if die = 4 then s.hottestOf 138 1
  else if die = 5 then s.hottestOf 140 1
  else s.hottestOf 0 141

def recordRail (s : State) (path : Nat) : Nat :=
  let die := field path 31 29
  let level := field path 28 27
  let unit := field path 26 20
  if die = 0 then
    if level = 0 then s.lowestCore
    else if 2 ≤ level || field path 19 16 == 7 then s.railMv (0xA8 + quadrant unit)
    else s.railMv (0xA0 + unit / 16)
  else if die = 1 then s.railMv 0xAD
  else if die = 2 then s.railMv 0xAE
  else if die = 3 then s.railMv 0xAF
  else if die = 4 then s.railMv 0xB0
  else if die = 5 then 0
  else s.lowestCore

/-! ### Records -/

/-- Record kinds of Table 20-6 that rules name. -/
inductive Kind where
  | check | schedule | format | siteBusy | fenced | converter | generation | gated | illegal | imem | timeout | variant
  | buffer | protect | dma | parity | residue | flue | stack | tenant | kvFull | cellar | delivery | twin | test
  | corrected | step | slip | thermal | damper | sensor | calibration | steep | refresh | fence | port | role | clock
  | island | admission | overdue | chimney
deriving DecidableEq, Repr

/-- Code, class (0 ALARM, 1 EVENT, 2 TRACE; "as raised" reads EVENT) and severity of a kind (Table 20-6). -/
def Kind.info : Kind → Nat × Nat × Nat
  | .check => (1, 1, 2) | .schedule => (2, 1, 2) | .format => (3, 1, 2) | .siteBusy => (4, 1, 2) | .fenced => (5, 1, 2)
  | .converter => (6, 1, 2) | .generation => (7, 1, 2) | .gated => (8, 1, 2) | .illegal => (9, 1, 2)
  | .imem => (10, 1, 2) | .timeout => (11, 1, 2) | .variant => (12, 1, 2) | .buffer => (13, 1, 2)
  | .protect => (14, 1, 2) | .dma => (15, 1, 2) | .parity => (16, 1, 2) | .residue => (17, 1, 2) | .flue => (18, 1, 2)
  | .stack => (19, 1, 2) | .tenant => (20, 0, 2) | .kvFull => (21, 0, 2) | .cellar => (22, 1, 2)
  | .delivery => (23, 1, 2) | .twin => (24, 1, 2) | .test => (25, 0, 3) | .corrected => (26, 2, 1) | .step => (32, 2, 0)
  | .slip => (33, 2, 0) | .thermal => (34, 1, 0) | .damper => (35, 1, 0) | .sensor => (36, 0, 2)
  | .calibration => (37, 1, 0) | .steep => (38, 1, 0) | .refresh => (39, 1, 0) | .fence => (40, 0, 3) | .port => (41, 1, 0)
  | .role => (42, 0, 0) | .clock => (43, 0, 0) | .island => (44, 0, 0) | .admission => (45, 1, 0) | .overdue => (46, 0, 0)
  | .chimney => (47, 0, 0)

def Kind.code (k : Kind) : Nat := k.info.1

/-- What a rule gives with a record. `alarm` or `event` force class ALARM or EVENT where the rule says that it raises one. -/
structure Raise where
  kind : Kind
  path : Nat
  detail : Nat := 0
  count : Nat := 1
  step : Nat := 0
  pc : Nat := 0xFFFF
  opcode : Nat := 0
  alarm : Bool := false
  event : Bool := false
deriving DecidableEq, Repr

def State.makeRecord (s : State) (r : Raise) : Record :=
  { time := s.now, path := r.path, step := r.step % 2 ^ 32, pc := r.pc, opcode := r.opcode, kind := r.kind.code,
    cls := if r.alarm then 0 else if r.event then 1 else r.kind.info.2.1, sev := r.kind.info.2.2, islandTime := false, coalesced := false,
    temp := ofSigned 16 (recordTemp s r.path), rail := recordRail s r.path, count := min r.count 65535,
    detail := r.detail % 2 ^ 32 }

/-- The 32 bytes of a record (Table 20-3); `phase` is the PHASE bit of event rings. -/
def Record.bytes (r : Record) (phase : Bool) : List Byte :=
  leBytes 8 r.time ++ leBytes 4 r.path ++ leBytes 4 r.step ++ leBytes 2 r.pc ++ leBytes 1 r.opcode ++ leBytes 1 r.kind ++
  leBytes 1 (r.cls * 64 + r.sev * 16 + flagNat r.islandTime * 8 + flagNat r.coalesced * 4) ++ leBytes 1 (flagNat phase) ++
  leBytes 2 r.temp ++ leBytes 2 r.rail ++ leBytes 2 r.count ++ leBytes 4 r.detail

/-- A record read back from its 32 bytes. -/
def Record.ofBytes (b : List Byte) : Record :=
  let c := leAt b 20 1
  { time := leAt b 0 8, path := leAt b 8 4, step := leAt b 12 4, pc := leAt b 16 2, opcode := leAt b 18 1,
    kind := leAt b 19 1, cls := c / 64, sev := c / 16 % 4, islandTime := bit c 3, coalesced := bit c 2,
    temp := leAt b 22 2, rail := leAt b 24 2, count := leAt b 26 2, detail := leAt b 28 4 }

/-- Add a count to a record, saturating, and mark it coalesced (R478). -/
def Record.join (n : Nat) (r : Record) : Record := { r with count := min (r.count + n) 65535, coalesced := true }

/-- Whether a queued record is an ALARM of a kind and unit path. -/
def Record.alarmOf (kind path : Nat) (r : Record) : Bool := r.cls == 0 && r.kind == kind && r.path == path

/-- The unit path of two merged ALARMs: the common one, else their die at LEVEL 0, else DIE 7 (R478). -/
def mergePath (p q : Nat) : Nat :=
  if p = q then p else if field p 31 29 = field q 31 29 then field p 31 29 * 2 ^ 29 else 7 * 2 ^ 29

/-- Merge the queued ALARMs of each kind into the oldest one of that kind (R478, step 3). -/
def mergeAlarms : List Record → List Record → List Record
  | done, [] => done
  | done, r :: rest =>
    if r.cls == 0 && done.any (fun d => d.cls == 0 && d.kind == r.kind) then
      mergeAlarms (done.map fun d =>
        if d.cls == 0 && d.kind == r.kind then { (d.join r.count) with path := mergePath d.path r.path } else d) rest
    else mergeAlarms (done ++ [r]) rest

/-- What taking a record does to a queue: the queue, the class of a record dropped, and whether it was coalesced. -/
structure Taken where
  queue : List Record
  dropped : Option Nat
  coalesced : Bool
deriving DecidableEq, Repr

/-- Offer an ALARM to a queue of `cap` entries (R478): it is never dropped. -/
def takeAlarm (cap : Nat) (q : List Record) (r : Record) : Taken :=
  if q.any (Record.alarmOf r.kind r.path) then
    ⟨q.map fun d => if d.alarmOf r.kind r.path then d.join r.count else d, none, true⟩
  else if q.length < cap then ⟨q ++ [r], none, false⟩
  else
    let q := mergeAlarms [] q
    if q.any (Record.alarmOf r.kind r.path) then
      ⟨q.map fun d => if d.alarmOf r.kind r.path then d.join r.count else d, none, true⟩
    else ⟨q ++ [r], none, false⟩

/-- Remove the oldest record of class `c`. -/
def dropOldest (c : Nat) : List Record → List Record
  | [] => []
  | r :: q => if r.cls = c then q else r :: dropOldest c q

/-- Offer a record to a queue of `cap` entries (R478). -/
def takeRecord (cap : Nat) (q : List Record) (r : Record) : Taken :=
  if r.cls = 0 then takeAlarm cap q r
  else if q.length + 64 < cap then ⟨q ++ [r], none, false⟩
  else if r.cls = 1 && q.any (fun d => d.cls == 2) then ⟨dropOldest 2 q ++ [r], some 2, false⟩
  else ⟨q, some r.cls, false⟩

/-- Queue sizes of Table 20-9. -/
def pathCap (p : Nat) : Nat := if p < 2 then 1024 else if p = 2 then 2048 else 4096

def State.pathQ (s : State) (p : Nat) : PathQ :=
  if p = 0 then s.path0 else if p = 1 then s.path1 else if p = 2 then s.path2 else s.path3

def State.setPathQ (p : Nat) (q : PathQ) (s : State) : State :=
  if p = 0 then { s with path0 := q } else if p = 1 then { s with path1 := q }
  else if p = 2 then { s with path2 := q } else { s with path3 := q }

/-- Whether a path takes records at all (Table 20-9): enabled, configured, not frozen. -/
def State.pathOpen (s : State) (p : Nat) : Bool :=
  if p = 0 then s.enabled 6 && s.od 0x6401 1 0 != 0
  else if p = 1 then s.enabled 7 && s.od 0x6401 2 0 != 0
  else if p = 2 then s.od 0x1312 0 0 != 0
  else s.enabled 5 && s.od 0x6402 0 4 == 0

/-- Whether a path takes records of a class (Table 20-9). -/
def State.pathClass (s : State) (p c : Nat) : Bool :=
  if p < 2 then bit (s.od 0x6401 (p + 1) 3) c else if p = 2 then c != 2 else true

/-- The counter of OD 0x6403 for a path, class and column (0 sent, 1 dropped, 2 coalesced). -/
def chimneyField (p c k : Nat) : Nat := (p * 3 + c) * 3 + k

/-- Offer a record to path `p` (R477, R478); the Bool tells a drop from a full queue. -/
def State.offer (p : Nat) (r : Record) (s : State) : State × Bool :=
  if !s.pathClass p r.cls then (s, false)
  else if !s.pathOpen p then (s.bump 0x6403 0 (chimneyField p r.cls 1) 1, false)
  else
    let t := takeRecord (pathCap p) (s.pathQ p).queue r
    let s := s.setPathQ p { s.pathQ p with queue := t.queue }
    let s := if t.coalesced then s.bump 0x6403 0 (chimneyField p r.cls 2) 1 else s
    match t.dropped with
    | some c => (s.bump 0x6403 0 (chimneyField p c 1) 1, true)
    | none => (s, false)

/-- The island LOST queue takes a record: 8,192 entries, the oldest EVENT dropped and counted (R412, R481). -/
def State.holdForIsland (r : Record) (s : State) : State :=
  if s.lostQueue.length < 8192 then { s with lostQueue := s.lostQueue ++ [r] }
  else { s with lostQueue := dropOldest 1 s.lostQueue ++ [r] }.bump 0x1301 0 7 1

/-- The counters and logs of a record (R469). -/
def State.logRecord (r : Record) (s : State) : State :=
  let s := (s.bump 0x6000 0 r.sev r.count).setOd 0x6003 0 r.kind (min (s.od 0x6003 0 r.kind + r.count) 0xFFFFFFFF)
  if r.sev < 2 then s
  else
    let b := r.bytes false
    let log := s.blob 0x6002 0 ++ b
    (s.setBlob 0x6001 0 b).setBlob 0x6002 0 (log.drop (log.length - 8192))

/-- Offer a record to every path: the rings, the soot ring, and the barrier for the side-band. Answers the paths that
dropped it from a full queue. -/
def State.offerAll (r : Record) (s : State) : State × List Nat :=
  let (s, d0) := s.offer 0 r
  let (s, d1) := s.offer 1 r
  let (s, d3) := s.offer 3 r
  let s := if r.cls = 2 then s else if s.islandLost then s.holdForIsland r else s.sendToIsland false 4 0 (r.bytes false)
  (s, (if d0 then [0] else []) ++ (if d1 then [1] else []) ++ (if d3 then [3] else []))

/-- The unit a CHIMNEY alarm names: the die at which the path leaves. -/
def chimneyUnit (p : Nat) : Nat :=
  if p = 0 then pathUnit 3 8 0 0 else if p = 1 then pathUnit 4 8 0 0 else if p = 2 then pathDie 5 0 else pathUnit 2 127 0 0

/-- A drop from the full queue of path `p` (R479): an alarm at the first, and at the first at least 1 s after the last
alarm; the count of an unsent alarm of that path carries the drops. -/
def State.chimneyDrop (s : State) (p : Nat) : State :=
  let q := s.pathQ p
  let due := match q.alarmAt with
    | none => true
    | some t => decide (t + 1000000000 ≤ s.now)
  if due then
    let r := s.makeRecord { kind := .chimney, path := chimneyUnit p, detail := p }
    ((s.setPathQ p { q with alarmAt := some s.now }).logRecord r |>.offerAll r).1
  else
    let up (l : List Record) := l.map fun d => if d.kind == 47 && d.detail == p then { d with count := min (d.count + 1) 65535 } else d
    { s with path0 := { s.path0 with queue := up s.path0.queue }, path1 := { s.path1 with queue := up s.path1.queue },
             path2 := { s.path2 with queue := up s.path2.queue }, path3 := { s.path3 with queue := up s.path3.queue } }

/-- Raise a record (R468, R469). -/
def State.raise (r : Raise) (s : State) : State :=
  let rec' := s.makeRecord r
  let (s, drops) := (s.logRecord rec').offerAll rec'
  drops.foldl State.chimneyDrop s

/-- While the island is LOST, a stored change of the part's own is appended to the journal of 4 MiB: its dictionary key and its bytes. A full
journal is an ALARM, and takes nothing more (17 R413). -/
def State.journaled (key n : Nat) (s : State) : State :=
  if !s.islandLost || s.journalFull then s
  else if (s.journal.map (·.2)).sum + n ≤ 4194304 then { s with journal := s.journal ++ [(key, n)] }
  else { s with journalFull := true }.raise { kind := .island, path := pathDie 5 0, detail := s.od 0x1300 3 0 }

/-- The island raises a record of its own (R409): to the side-band path. -/
def State.raiseIsland (islandTime : Bool) (r : Raise) (s : State) : State :=
  let rec' := { s.makeRecord r with islandTime := islandTime }
  let (s, full) := (s.logRecord rec').offer 2 rec'
  if full then s.chimneyDrop 2 else s

end Sys2Proof.Machine
end

