-- ==== Sys2Proof/Machine/Wire.lean ====
section
/-! DEFINITION. Machine/Wire.lean: a DATA frame as its bytes stand on the wire (14 R333 to R335, R339, R340): link header, between racks an
IPv6 and a UDP header, transport header, body, CRC-32C. -/

namespace Sys2Proof.Machine

/-- A frame to another rack has the IP bit set and carries IPv6 and UDP headers (R339). -/
def LinkFrame.ip (f : LinkFrame) : Bool := f.rack != f.hdr.rack.toNat

def LinkFrame.cls (f : LinkFrame) : Nat := f.hdr.cls.toNat

/-- The transport header (Table 14-5), every field big-endian (R333). -/
def transportBytes (h : TransportHdr) : List Byte :=
  let flags := flagNat h.mcast + 2 * flagNat h.first + 4 * flagNat h.last + 8 * flagNat h.retry
  beBytes 1 h.kind.toNat ++ beBytes 1 flags ++ beBytes 2 h.src.toNat ++ beBytes 2 h.dst.toNat ++ beBytes 2 h.slot.toNat ++
  beBytes 4 h.tid.toNat ++ beBytes 4 h.len.toNat ++ beBytes 4 h.offset.toNat ++ beBytes 4 h.gen.toNat ++ beBytes 8 h.step.toNat ++
  beBytes 8 h.mask.toNat ++ beBytes 4 h.kvGen.toNat ++ beBytes 4 h.rack.toNat

/-- The body of a frame: transport header, then what follows it, carried as it stands in its source (R333). -/
def LinkFrame.packet (f : LinkFrame) : List Byte := transportBytes f.hdr ++ f.body

/-- The ones' complement sum of 16-bit words, as UDP sums (R339). -/
def onesSum : List Byte → Nat
  | [] => 0
  | [a] => 256 * a.toNat
  | a :: b :: l =>
    let n := 256 * a.toNat + b.toNat + onesSum l
    n % 65536 + n / 65536

/-- The UDP checksum over pseudo header and datagram; 0 is sent as all ones. -/
def udpChecksum (bs : List Byte) : Nat := let n := 65535 - onesSum bs % 65536; if n = 0 then 65535 else n

/-- The traffic class of a transfer class: DSCP 46, 34 or 10, ECN not-ECT (R339). -/
def trafficClass (c : Nat) : Nat := 4 * (if c = 0 then 46 else if c = 1 then 34 else 10)

/-- The IPv6 address of an endpoint: the /64 prefix that OD 0x4013 lists for its rack, then its number (R340). -/
def State.ipv6Of (s : State) (rack endpoint : Nat) : List Byte :=
  let row := ((List.range 16).find? fun i => s.od 0x4013 (i + 1) 0 == rack).getD 0
  leBytes 8 (s.od 0x4013 (row + 1) 1) ++ beBytes 8 endpoint

/-- The IPv6 and UDP headers of a frame (R339): the part's own address from OD 0x4011; flow label and source port from one hash of source,
destination and class, which the spec does not give. -/
def State.ipHeaders (s : State) (f : LinkFrame) : List Byte :=
  let body := f.packet
  let n := 8 + body.length
  let src := leBytes 16 (s.od 0x4011 0 2)
  let dst := s.ipv6Of f.rack f.hdr.dst.toNat
  let hash := Config.flowHash f.hdr.src.toNat f.hdr.dst.toNat f.cls
  let ip := beBytes 4 (2 ^ 20 * (16 * 16 * 6 + trafficClass f.cls) + hash % 2 ^ 20) ++ beBytes 2 n ++ beBytes 1 17 ++ beBytes 1 64 ++ src ++ dst
  let udp (sum : Nat) : List Byte := beBytes 2 (Config.flowPort hash) ++ beBytes 2 (s.od 0x4011 0 3) ++ beBytes 2 n ++ beBytes 2 sum
  ip ++ udp (udpChecksum (src ++ dst ++ beBytes 4 n ++ beBytes 4 17 ++ udp 0 ++ body))

/-- A DATA frame on the wire (R334): link header (Table 14-3) with the sequence acknowledged, headers, body and CRC-32C. -/
def State.wire (s : State) (p : Nat) (f : LinkFrame) : List Byte :=
  let inner := (if f.ip then s.ipHeaders f else []) ++ f.packet
  let link := beBytes 1 1 ++ beBytes 1 (f.cls + 4 * flagNat f.ip) ++ beBytes 2 inner.length ++ beBytes 4 f.seq ++
    beBytes 4 (s.ports.get Port.fresh p).rxSeq ++ beBytes 2 0 ++ beBytes 2 0
  link ++ inner ++ beBytes 4 (crc32c (link ++ inner))

end Sys2Proof.Machine
end

