-- ==== Sys2Proof/Machine/Send.lean ====
section
/-! DEFINITION. Machine/Send.lean: the stage table as every chapter reads it (15 R359 to R363) and the sending side of the
fabric: choice of port, frames, credit and the retry buffer (14 R335, R341 to R343), notices (R338) and mirror records
(15 R369). -/

namespace Sys2Proof.Machine

/-! ### Stage table -/

/-- One entry (Table 15-2). -/
structure Entry where
  segment : Nat
  stage : Nat
  mode : Nat
  flags : Nat
  service : Nat
  pos0 : Nat
  pos1 : Nat
deriving DecidableEq, Repr

def Entry.main (e : Entry) : Bool := bit e.flags 0
def Entry.token (e : Entry) : Bool := bit e.flags 1
def Entry.draft (e : Entry) : Bool := bit e.flags 2
def Entry.head (e : Entry) : Bool := bit e.flags 3

/-- No endpoint. -/
def noEndpoint : Nat := 2 ^ 64 - 1

def entryOf (b : List Byte) : Entry :=
  { segment := leAt b 0 1, stage := leAt b 1 1, mode := leAt b 2 1, flags := leAt b 3 1, service := leAt b 4 1,
    pos0 := leAt b 8 8, pos1 := leAt b 16 8 }

/-- The entries of a stage table. -/
def entriesOf (t : List Byte) : List Entry := (List.range (leAt t 2 2)).map fun i => entryOf (slice (32 + 24 * i) 24 t)

/-- The entries of the table in force. -/
def State.entries (s : State) : List Entry := entriesOf (s.blob 0x4110 0)

/-- Both positions of an entry that name a part. -/
def Entry.members (e : Entry) : List Nat := [e.pos0, e.pos1].filter (· != noEndpoint)

/-- The in-service positions of an entry (Table 15-2). -/
def Entry.serving (e : Entry) : List Nat :=
  (if bit e.service 0 then [e.pos0] else []) ++ (if bit e.service 1 && e.pos1 != noEndpoint then [e.pos1] else [])

/-- Where a step's transfers to an entry go: the in-service positions; for SPLIT position 0 (R362). -/
def Entry.targets (e : Entry) : List Nat := if e.mode = 3 then e.serving.filter (· == e.pos0) else e.serving

/-- This part's endpoint address (R340) from OD 0x4011. -/
def State.endpoint (s : State) : Nat := 65536 * s.od 0x4011 0 0 + s.od 0x4011 0 1

/-- The admitting part (OD 0x4100.02). -/
def State.admitting (s : State) : Nat := s.od 0x4100 2 0

def State.isAdmitting (s : State) : Bool := s.admitting == s.endpoint

/-- The position in pipeline order of the entry that holds an endpoint. -/
def State.entryIndexOf (s : State) (ep : Nat) : Option Nat := s.entries.findIdx? fun e => e.members.contains ep

def State.entryAt (s : State) (i : Nat) : Option Entry := s.entries[i]?

def State.ownIndex (s : State) : Option Nat := s.entryIndexOf s.endpoint

def State.ownEntry (s : State) : Option Entry := s.ownIndex.bind s.entryAt

/-- Whether this part is in service under the table in force; a part under no table is not (R362). -/
def State.inService (s : State) : Bool := (s.ownEntry.map fun e => e.serving.contains s.endpoint).getD false

/-- The other position of this part's entry. -/
def State.twin (s : State) : Option Nat := s.ownEntry.bind fun e => e.members.find? (· != s.endpoint)

/-- Where the map keeps the row of entry `i`: subindex `i + 1` of OD 0x5006, which shows the first 32 (R156); a table may have 512 entries,
and those from 254 on lie in rows that no subindex names. -/
def mapRow (i : Nat) : Nat × Nat := (i / 254, i % 254 + 1)

/-- The report of a pair's position: stage generation and predecessor (R141), at other parts than the admitting part its copy (R156). -/
def State.genReport (s : State) (i pos : Nat) : Nat × Nat :=
  let k := mapRow i
  (s.odAt k.1 0x5006 k.2 (2 * pos), s.odAt k.1 0x5006 k.2 (2 * pos + 1))

/-- A MIRROR or LOCKSTEP entry is divided while its two positions report different stage generations (R144, R360). -/
def State.dividedAt (s : State) (i : Nat) (e : Entry) : Bool :=
  (e.mode == 1 || e.mode == 2) && e.members.length == 2 && (s.genReport i 0).1 != (s.genReport i 1).1

/-- Whether a sender's copies come in two: its LOCKSTEP entry has both positions in service and is not divided (R144, R373). -/
def State.dualSource (s : State) (src : Nat) : Bool :=
  ((s.entryIndexOf src).bind fun i => (s.entryAt i).map fun e => e.mode == 2 && decide (1 < e.serving.length) && !s.dividedAt i e).getD false

/-- The position that holds a generation where its stage is divided, if it has not failed (R145). -/
def State.holders (s : State) (gen i : Nat) (e : Entry) : List Nat :=
  ([(e.pos0, 0), (e.pos1, 1)].filter fun p => (s.genReport i p.2).1 == gen && !s.declared.contains p.1).map (·.1)

/-- Where a transfer of a step of generation `gen` to entry `i` goes: as in R362, and where the stage is divided to the position that holds
the generation (R145). Where none does any more it goes as before, and meets its generation fault there (R147; DEDUCED, log 194). -/
def State.entryTargets (s : State) (gen i : Nat) (e : Entry) : List Nat :=
  if s.dividedAt i e && s.holders gen i e != [] then s.holders gen i e else e.targets

/-- The positions of an entry at which a step may run: those in service, where the stage is divided both. -/
def State.atWork (s : State) (i : Nat) (e : Entry) : List Nat := if s.dividedAt i e then e.members else e.serving

/-- The parts at work in later entries, in pipeline order (R176). -/
def State.laterParts (s : State) : List Nat :=
  match s.ownIndex with
  | none => []
  | some i => (s.entries.zipIdx.drop (i + 1)).flatMap fun e => s.atWork e.2 e.1

/-- Every endpoint of the table. -/
def State.allParts (s : State) : List Nat := (s.entries.flatMap Entry.members).eraseDups

/-! ### Ports -/

def State.port (s : State) (p : Nat) : Port := s.ports.get Port.fresh p

def State.setPort (p : Nat) (x : Port) (s : State) : State := { s with ports := s.ports.put Port.fresh p x }

def State.modPort (p : Nat) (f : Port → Port) (s : State) : State := s.setPort p (f (s.port p))

/-- The state of a port (Table 14-12), OD 0x4000+p.01. -/
def State.portState (s : State) (p : Nat) : Nat := s.od (0x4000 + p) 1 0

def State.portUp (s : State) (p : Nat) : Bool := s.portState p == 4

def State.upLeaves (s : State) : List Nat := [2, 3, 4, 5, 6, 7].filter s.portUp

/-- Whether a port is UP and leads straight to an endpoint (P0 and P1). -/
def State.leadsTo (s : State) (p dest : Nat) : Bool :=
  s.portUp p && (match (s.port p).ident with
    | some id => 65536 * id.rack.toNat + id.endpoint.toNat == dest && id.kind == 1
    | none => false)

/-- The leaf port of a transfer (R341). -/
def State.leafPort (s : State) (dest tid : Nat) : Option Nat :=
  let l := s.upLeaves
  if l.isEmpty then none else l[crc32c (leBytes 2 dest ++ leBytes 4 tid) % l.length]?

/-- Whether an endpoint's rack is this part's own. -/
def State.sameRack (s : State) (dest : Nat) : Bool := dest / 65536 == s.od 0x4011 0 0

/-- Whether a rack stands in the rack address table (R340). -/
def State.rackKnown (s : State) (dest : Nat) : Bool :=
  s.sameRack dest || (List.range 16).any fun i => s.od 0x4013 (i + 1) 0 == dest / 65536 && s.od 0x4013 (i + 1) 0 != 0

/-- The port of a transfer's first frame (R341); none when the destination cannot be reached. -/
def State.choosePort (s : State) (targets : List Nat) (tid : Nat) : Option Nat :=
  match targets with
  | [] => none
  | [d] =>
    if !s.rackKnown d then none
    else if s.leadsTo 0 d then some 0 else if s.leadsTo 1 d then some 1 else s.leafPort d tid
  | _ => s.leafPort 0xFFFF tid

/-- Mirror records that pass over the leaf ports: HEARTBEAT, and REQUEST and ROLE with another part than the twin (15 R369, R374). -/
def State.overLeaf (s : State) (kind : Nat) (payload : List Byte) (dest : Nat) : Bool :=
  let type := (payload.headD 0).toNat
  kind == 7 && (type == 9 || (type == 4 || type == 0x0A) && s.twin != some dest)

/-- The port of a transfer (R341): multicast goes over a leaf port whatever its targets (Table 14-1); where no UP port leads on, MGMT may
take one in QUARANTINE (Table 14-12). -/
def State.pathFor (s : State) (kind : Nat) (payload : List Byte) (mcast : Bool) (dests : List Nat) (tid : Nat) : Option Nat :=
  match dests with
  | [d] =>
    if mcast then s.leafPort 0xFFFF tid
    else if s.overLeaf kind payload d then (if s.rackKnown d then s.leafPort d tid else none)
    else (s.choosePort dests tid).or (if kind = 8 ∧ s.rackKnown d = true then (List.range 8).find? fun p => s.portState p == 5 else none)
  | _ => s.choosePort dests tid

/-! ### Frames of a port (R335, R341 to R343) -/

/-- Bytes of a frame: link header, IPv6 and UDP headers between racks, transport header, body, CRC. -/
def LinkFrame.size (f : LinkFrame) : Nat := 16 + (if f.ip then 48 else 0) + 48 + f.body.length + 4

/-- Whether a frame may go: credit of its class, and room in the retry buffer of 256 KiB. -/
def Port.maySend (x : Port) (f : LinkFrame) : Bool :=
  decide (ceilDiv f.size 512 ≤ x.credit.getD f.cls 0) &&
  decide ((x.retry.map LinkFrame.size).sum + f.size ≤ 262144)

/-- The next frame to send: a BULK frame that 15 frames have passed, else the first of CTL, then STEP, then BULK. -/
def Port.nextFrame (x : Port) : Option LinkFrame :=
  let first (c : Nat) : Option LinkFrame := (x.queue.find? fun f => f.cls == c).filter x.maySend
  match (first 2).filter fun f => decide (15 ≤ f.passed) with
  | some f => some f
  | none => (first 0).or ((first 1).or (first 2))

/-- Send what a port may send. -/
def State.pump (p : Nat) : Nat → State → State
  | 0, s => s
  | fuel + 1, s =>
    let x := s.port p
    if !(s.portUp p || s.portState p == 5) then s
    else match x.nextFrame with
      | none => s
      | some f =>
        let g := { f with seq := x.txSeq }
        let rest := (x.queue.erase f).map fun e => if e.cls = 2 then { e with passed := e.passed + 1 } else e
        let x' := { x with txSeq := (x.txSeq + 1) % 2 ^ 32, queue := rest, retry := x.retry ++ [g],
                           ackAt := if x.retry.isEmpty then s.elapsed else x.ackAt,
                           credit := setAt f.cls (x.credit.getD f.cls 0 - ceilDiv f.size 512) x.credit }
        (((s.setPort p x').bump (0x4000 + p) 6 0 1).emit (.data p (s.wire p g))).pump p fuel

/-- The bytes of a tree record (13 R310, Table 13-1). -/
def treeBytes (t : TreeRec) : List Byte :=
  [t.count, t.levels, t.source, t.template] ++ leBytes 4 0 ++
    t.nodes.flatMap fun n => leBytes 4 (n.depth.toNat * 2 ^ 23 + n.parent.toNat * 2 ^ 18 + n.token.toNat)

/-- The step header block (Table 14-7). -/
def StepHdr.bytes (h : StepHdr) : List Byte :=
  let tree := treeBytes h.tree
  let b := leBytes 8 h.headEdge.toNat ++ leBytes 4 h.ctx.toNat ++ leBytes 2 h.tenant.toNat ++ [h.positions, h.variant, h.k, h.cls] ++
    leBytes 2 0 ++ leBytes 4 h.ctxLen.toNat ++ [h.m] ++ patch (List.replicate 8 0) 0 (h.nodes.take 8)
  patch (patch (List.replicate 192 0) 0 b) 40 tree

/-- The frames of a transfer to a rack in ascending offset, each of 4,096 payload bytes but the last. -/
def transferFrames (hdr : TransportHdr) (stepHdr : Option StepHdr) (payload : List Byte) (rack : Nat) : List LinkFrame :=
  let n := max 1 (ceilDiv payload.length 4096)
  (List.range n).map fun i =>
    let lead := if i = 0 then (stepHdr.map StepHdr.bytes).getD [] else []
    { seq := 0, replays := 0, passed := 0, rack := rack, body := lead ++ slice (4096 * i) 4096 payload,
      hdr := { hdr with first := i == 0 && stepHdr.isSome, last := i + 1 == n, offset := BitVec.ofNat 32 (4096 * i) } }

/-- Put the frames of a transfer on a port. -/
def State.queueFrames (p : Nat) (fs : List LinkFrame) (s : State) : State :=
  (s.modPort p fun x => { x with queue := x.queue ++ fs }).pump p (fs.length + (s.port p).queue.length)

/-- Retries queue ahead of new transfers of their class (R349). -/
def State.queueRetry (p : Nat) (fs : List LinkFrame) (s : State) : State :=
  (s.modPort p fun x => { x with queue := fs ++ x.queue }).pump p (fs.length + (s.port p).queue.length)

/-! ### Transfers -/

/-- What a transfer is to carry (Table 14-5, Table 14-6). -/
structure Message where
  kind : Nat
  cls : Nat
  targets : List Nat
  slot : Nat := 0
  step : Nat := 0
  gen : Nat := 0
  kvGen : Nat := 0
  stepHdr : Option StepHdr := none
  payload : List Byte
  hearth : Nat := 0
deriving DecidableEq, Repr

/-- Zero bytes up to the next multiple of 8 (R335). -/
def pad8 (b : List Byte) : List Byte := b ++ List.replicate (ceilDiv b.length 8 * 8 - b.length) 0

/-- The multicast mask of target endpoints 0 to 63 of this rack. -/
def targetMask (l : List Nat) : Nat := (l.eraseDups.map fun e => 2 ^ (e % 65536 % 64)).sum

def State.headerOf (s : State) (m : Message) (tid : Nat) : TransportHdr :=
  let many := decide (1 < m.targets.length)
  { kind := BitVec.ofNat 8 m.kind, cls := BitVec.ofNat 2 m.cls, mcast := many, first := false, last := false, retry := false,
    reserved := false, src := BitVec.ofNat 16 s.endpoint,
    dst := if many then 0xFFFF else BitVec.ofNat 16 (m.targets.headD 0xFFFF), slot := BitVec.ofNat 16 m.slot,
    tid := BitVec.ofNat 32 tid, len := BitVec.ofNat 32 (pad8 m.payload).length, offset := 0, gen := BitVec.ofNat 32 m.gen,
    step := BitVec.ofNat 64 m.step, mask := if many then BitVec.ofNat 64 (targetMask m.targets) else 0,
    kvGen := BitVec.ofNat 32 m.kvGen, rack := BitVec.ofNat 32 (s.od 0x4011 0 0) }

/-- Send a transfer: it is kept until every target acknowledges it. One whose destination cannot be reached fails with NACK reason STATE,
raised by the part itself (R340, R362): no transfer id; the sender of an ACT counts and records it with the step. A transfer to this part
goes to its own controller. -/
def State.send (m : Message) (s : State) : Option Nat × State :=
  if m.targets = [s.endpoint] then (some 0, s.emit (.selfTransfer m.kind m.step m.payload))
  else
    let tid := s.nextTid
    match s.pathFor m.kind m.payload (decide (1 < m.targets.length)) m.targets tid with
    | none =>
      if m.kind = 1 then (none, s)
      else (none, (s.bump 0x4202 0 4 1).raise { kind := .delivery, path := pathDie 3 0, detail := m.targets.headD 0xFFFF % 65536 * 256 + 4, step := m.step })
    | some p =>
      let hdr := s.headerOf m tid
      let body := pad8 m.payload
      let rec' : Sending :=
        { hdr := hdr, stepHdr := m.stepHdr, payload := body, port := p, left := m.targets, refused := [], tries := 0,
          sentAt := s.elapsed, retryAt := none, hearth := m.hearth, acked := false, run := ((s.steps.get none m.step).map (·.runs)).getD 0 }
      let s := { s with nextTid := (tid + 1) % 2 ^ 32, sending := s.sending ++ [rec'] }
      (some tid, (s.bump 0x4202 0 0 1).queueFrames p (transferFrames hdr m.stepHdr body (m.targets.headD 0 / 65536)))

/-- Send to one target after another. -/
def State.sendEach (m : Message) : List Nat → State → State
  | [], s => s
  | d :: ds, s => ((s.send { m with targets := [d] }).2).sendEach m ds

/-! ### Notices (R338, Table 14-8) -/

def noticeBytes (type arg ctx step : Nat) (data : List Byte) : List Byte :=
  patch (leBytes 1 type ++ leBytes 1 arg ++ leBytes 2 0 ++ leBytes 4 ctx ++ leBytes 8 step ++ List.replicate 48 0) 16 data

/-- Send a notice to each of several endpoints. -/
def State.notice (type arg ctx step : Nat) (data : List Byte) (dests : List Nat) (s : State) : State :=
  s.sendEach { kind := 2, cls := 0, targets := [], step := step, payload := noticeBytes type arg ctx step data } dests.eraseDups

/-- The later stages and the admitting part (R176). -/
def State.concerned (s : State) : List Nat := s.laterParts ++ [s.admitting]

/-! ### Mirror records (15 R369, Table 15-5) -/

def State.stepRec (s : State) (id : Nat) : StepRec := (s.steps.get none id).getD StepRec.fresh

/-- A field as it holds for a step: as at the step's launch, before it what is in force (R210). -/
def State.forStep (s : State) (step idx sub fld : Nat) : Nat :=
  let r := s.stepRec step
  if r.launched.isSome then cfgOf r.cfg idx sub fld else s.inForce idx sub fld

def State.setStep (id : Nat) (x : StepRec) (s : State) : State := { s with steps := s.steps.put none id (some x) }

def State.modStep (id : Nat) (f : StepRec → StepRec) (s : State) : State := s.setStep id (f (s.stepRec id))

/-- A mirror record: its 8-byte header and body. -/
def mirrorBytes (type : Nat) (body : List Byte) : List Byte := leBytes 1 type ++ leBytes 3 0 ++ leBytes 4 body.length ++ body

/-- A string in pieces of at most `n` bytes, none of an empty one. -/
def pieces (n : Nat) (b : List Byte) : List (List Byte) := ((List.range (b.length / n + 1)).map fun i => slice (n * i) n b).filter (· != [])

/-- Each string leaves as one MIRROR transfer to an endpoint. Answers the transfer ids. -/
def State.sendStrings (dest : Nat) (l : List (List Byte)) (s : State) : List Nat × State :=
  l.foldl (fun acc b =>
    let (tid, s) := acc.2.send { kind := 7, cls := 2, targets := [dest], payload := b }
    (acc.1 ++ tid.toList, s)) ([], s)

/-- Send a mirror record to an endpoint, over P0 where that is the twin: one MIRROR transfer, or several where it exceeds the 1,048,576 bytes
of one (R335; its length field tells where it ends; the model's own). Answers the transfer ids. -/
def State.sendMirror (type : Nat) (body : List Byte) (dest : Nat) (s : State) : List Nat × State :=
  s.sendStrings dest (pieces 1048576 (mirrorBytes type body))

def State.mirrorTo (type : Nat) (body : List Byte) (dest : Nat) (s : State) : State := (s.sendMirror type body dest).2

/-- Whether this part is the primary of a MIRROR entry and mirrors to its twin: not while the pair is SOLO or DIVIDED (R144,
R375). -/
def State.mirrors (s : State) : Bool :=
  (s.ownEntry.map fun e => e.mode == 1 && e.serving.contains s.endpoint && e.members.length == 2).getD false &&
    (s.od 0x4102 0 0 == 0 || s.od 0x4102 0 0 == 2)

/-- Send a record to the twin where this part mirrors. The step's commit waits for its acknowledgement (R364); `step` 0
is none. -/
def State.mirrorToTwin (step type : Nat) (body : List Byte) (s : State) : State :=
  match s.mirrors, s.twin with
  | true, some t =>
    let (ids, s) := s.sendMirror type body t
    if (s.steps.get none step).isNone then s else s.modStep step fun r => { r with tids := r.tids ++ ids }
  | _, _ => s

/-! ### Forwarded objects (12 R305, 13 R328, 15 R361) -/

/-- A NOA header (Table 17-6) with data: a write of an object, `more` on every segment but the last. -/
def noaWrite (seq idx sub offset total : Nat) (more : Bool) (data : List Byte) : List Byte :=
  leBytes 1 1 ++ leBytes 1 1 ++ leBytes 1 2 ++ leBytes 1 (flagNat more) ++ beBytes 4 seq ++ beBytes 2 idx ++ leBytes 1 sub ++ leBytes 1 0 ++
  beBytes 4 offset ++ beBytes 4 data.length ++ beBytes 4 total ++ beBytes 2 0 ++ leBytes 6 0 ++ data

/-- The admitting part forwards an object to other parts: NOA writes of at most 1,024 bytes in MGMT transfers. The spec names
no message for it; this one is the model's own. -/
def State.forward (idx sub : Nat) (data : List Byte) (dests : List Nat) (s : State) : State :=
  let n := max 1 (ceilDiv data.length 1024)
  (List.range n).foldl (fun s i =>
    s.sendEach { kind := 8, cls := 0, targets := [],
                 payload := noaWrite i idx sub (1024 * i) data.length (decide (i + 1 < n)) (slice (1024 * i) 1024 data) } dests) s

/-- The parts that serve the draft model, and those that serve the token stage. -/
def State.draftParts (s : State) : List Nat := ((s.entries.find? (·.draft)).map Entry.targets).getD []
def State.tokenParts (s : State) : List Nat := ((s.entries.find? (·.token)).map Entry.targets).getD []

/-- Both positions of the token stage's entry but this part, and of the draft model's. -/
def State.tokenPair (s : State) : List Nat := ((s.entries.filter (·.token)).flatMap Entry.members).filter (· != s.endpoint)
def State.draftPair (s : State) : List Nat := ((s.entries.filter (·.draft)).flatMap Entry.members).filter (· != s.endpoint)

/-- This part is a position of the token stage's entry. -/
def State.inTokenPair (s : State) : Bool := (s.entries.filter (·.token)).any fun e => e.members.contains s.endpoint

/-- Both positions of the entries that hold the token stage and the draft model. -/
def State.samplerParts (s : State) : List Nat :=
  ((s.entries.filter fun e => e.token || e.draft).flatMap Entry.members).filter (· != s.endpoint)

/-! ### Draft contexts (13 R324) -/

def State.ctx (s : State) (c : Nat) : Option Ctx := s.ctxs.get none c

/-- Free the frames of a context. -/
def State.freeFrames (c : Nat) (s : State) : State :=
  { s with pages := s.pages.filter fun e => match e.2 with
      | some p => p.ctx != c
      | none => false }

/-- Discard a context: its frames and slots are free and its record is gone (11 R282). -/
def State.discardCtx (c : Nat) (s : State) : State :=
  match s.ctx c with
  | none => s
  | some _ => { s.freeFrames c with ctxs := s.ctxs.put none c none }.bump 0x5407 0 6 1

/-- This part serves the draft model and the sampler role. -/
def State.isDraft (s : State) : Bool := (s.ownEntry.map (·.draft)).getD false

/-- A draft context is lost: its class T request goes to REBUILD, and stage 0 hears of it. -/
def State.rebuild (c : Nat) (s : State) : State :=
  match s.samplers.get none c with
  | some x =>
    if !s.isDraft || !x.classT || x.mode = 3 then s
    else ({ s with samplers := s.samplers.put none c (some { x with mode := 3, miss := 0, left := 0 }) }.bump 0x5C22 0 9 1).notice 8 3 c 0 []
      [s.admitting]
  | none => s

/-- The stage generation of the draft model's part has changed: every class T draft and its KV are discarded (06 R139). -/
def State.rebuildAll (s : State) : State :=
  if !s.isDraft then s
  else s.samplers.foldl (fun s e => if (e.2.map (·.classT)).getD false then (s.rebuild e.1).discardCtx e.1 else s) s

/-- Whether a step is shadow-checked (R370). -/
def State.shadowed (s : State) (step : Nat) : Bool :=
  let n := s.forStep step 0x4103 0 0
  n != 0 && step % n == 0

end Sys2Proof.Machine
end

