-- ==== Sys2Proof/Machine/Copy.lean ====
section
/-! DEFINITION. Machine/Copy.lean: pages and requests as mirror records carry them (11 R266, Table 11-2; 15 R369, Table 15-5), and
the copy that a serving position sends its twin (06 R146, 15 R377). The layout of REQUEST and COPY bodies is the model's own. -/

namespace Sys2Proof.Machine

/-! ### Map of the stacks (11 R261, R262, Table 11-1) -/

def gib : Nat := 2 ^ 30

/-- D of R262 in bytes. -/
def State.dataSize (s : State) : Nat := 2 ^ 20 * s.od 0x5401 0 0

/-- Page frames of the KV pools in M0 and in M1. -/
def State.frames0 (s : State) : Nat := (2 ^ 37 - gib - s.dataSize) / 8192
def State.frames1 (s : State) : Nat := (2 ^ 37 - gib - s.dataSize - 2 ^ 29) / 8192

/-- The stack of a frame. -/
def State.frameDie (s : State) (p : Nat) : Nat := if p < s.frames0 then 0 else 1

/-- Stack address of a frame's first byte. -/
def State.frameAddr (s : State) (p : Nat) : Nat :=
  if p < s.frames0 then gib + s.dataSize + 8192 * p else 2 ^ 37 + gib + s.dataSize + 8192 * (p - s.frames0)

/-- The frame that holds an address. -/
def State.frameOf (s : State) (addr : Nat) : Option Nat :=
  let st := addr / 2 ^ 37
  let off := addr % 2 ^ 37
  let base := gib + s.dataSize
  if off < base then none
  else
    let p := (off - base) / 8192
    if st = 0 then some p else if p < s.frames1 then some (s.frames0 + p) else none

/-- Whether `len` bytes at an offset lie in the data area. -/
def State.inDataArea (s : State) (off len : Nat) : Bool := decide (gib ≤ off) && decide (off + len ≤ gib + s.dataSize)

/-- Address of the soot ring in M1. -/
def sootBase : Nat := 2 ^ 37 + (2 ^ 37 - 2 ^ 29)

/-! ### Pages -/

def State.page (s : State) (f : Nat) : Option Page := s.pages.get none f

def zeroCodes : List (BitVec 4) := List.replicate 128 0

def Page.slot (p : Page) (t : Nat) : List (BitVec 4) × List (BitVec 4) := p.slots.get (zeroCodes, zeroCodes) t

/-- A page header (Table 11-2). -/
def Page.header (p : Page) : List Byte :=
  let b := leBytes 4 p.ctx ++ leBytes 2 p.tenant ++ leBytes 1 p.layer ++ leBytes 1 p.head ++ leBytes 4 p.first ++ leBytes 2 p.kScale ++
    leBytes 2 p.vScale ++ leBytes 4 p.kvGen ++ leBytes 1 p.state ++ leBytes 1 p.written ++ leBytes 6 0
  b ++ leBytes 4 (crc32 b)

/-- 128 four-bit codes as 64 bytes (R266). -/
def packCodes (l : List (BitVec 4)) : List Byte :=
  (List.range 64).map fun i => BitVec.ofNat 8 ((l.getD (2 * i) 0).toNat + 16 * (l.getD (2 * i + 1) 0).toNat)

/-- A token slot as mirror records carry it: its number, with bit 7 set where it carries poison (R521), K codes, V codes. -/
def slotBytes (t : Nat) (kv : List (BitVec 4) × List (BitVec 4)) (poison : Bool) : List Byte :=
  leBytes 1 (t + 128 * flagNat poison) ++ packCodes kv.1 ++ packCodes kv.2

/-- Lines of a frame that hold token slot `t`: its K line and its V line. -/
def State.slotLines (s : State) (f t : Nat) : List Nat := let b := s.frameAddr f / 64; [b + t, b + 64 + t]

/-- Whether a token slot delivers poison, as a mirror record or a copy carries it (R521). -/
def State.slotBad (s : State) (f t : Nat) : Bool := (s.slotLines f t).any fun x => s.stackLine.get 0 x == 1 || s.stackLine.get 0 x == 2

/-! ### Retired frames and LOST contexts (R264) -/

/-- The place of a frame: which 8,192 bytes of the stacks it is, whatever the size of the data area. The lists of retired frames name
places, so that a frame stays retired when OD 0x5401 gives it another number. -/
def State.place (s : State) (p : Nat) : Nat := s.frameAddr p / 8192

def State.isRetired (s : State) (p : Nat) : Bool :=
  s.retired.any (fun e => if e.2 then e.1 == s.place p / 256 else e.1 == s.place p) || s.retiredSoft.contains (s.place p)

def State.setCtx (c : Nat) (x : Ctx) (s : State) : State := { s with ctxs := s.ctxs.put none c (some x) }

/-- A context's pages on this part are gone: LOST (Table 11-5). -/
def State.loseCtx (c : Nat) (s : State) : State :=
  match s.ctx c with
  | none => s
  | some x =>
    if x.tier = .lost then s
    else (((s.freeFrames c).setCtx c { x with tier := .lost, lists := [], since := s.elapsed, move := none, cellar := 0, cellarAt := 0, slotLen := 0 }).bump 0x5407 0 7 1).rebuild c

/-- The frames of the pages that stand in one place, or in a group of places. -/
def State.pagesAt (s : State) (group : Bool) (a : Nat) : List (Nat × Nat) :=
  s.pages.filterMap fun e => e.2.bind fun p => if (if group then s.place e.1 / 256 else s.place e.1) = a then some (e.1, p.ctx) else none

/-- Frames leave use: their pages go, and every context that owned one is LOST on this part. -/
def State.dropPages (l : List (Nat × Nat)) (s : State) : State :=
  l.foldl (fun s e => s.loseCtx e.2) { s with pages := s.pages.filter fun e => !l.any fun x => x.1 == e.1 }

/-- Retire a frame: an entry of the list in island non-volatile memory, else its whole group, else the list in the stack. -/
def State.retireFrame (p : Nat) (s : State) : State :=
  if s.isRetired p then s
  else
    let a := s.place p
    let g := a / 256
    let s := s.bump 0x5408 0 8 1
    if s.retired.length < 4096 then
      ({ s with retired := s.retired ++ [(a, false)] }.journaled (odKey 0 0x5408 0 0) 4).dropPages (s.pagesAt false a)
    else if s.retired.any fun e => e.1 == (if e.2 then g else e.1) && (e.2 || e.1 / 256 == g) then
      ({ s with retired := (s.retired.filter fun (e : Nat × Bool) => e.2 || e.1 / 256 != g) ++ [(g, true)] }.journaled (odKey 0 0x5408 0 0) 4).dropPages
        (s.pagesAt true g)
    else
      ({ s with retiredSoft := s.retiredSoft ++ [a] }.raise
        { kind := .stack, path := pathUnit (1 + s.frameDie p) 127 0 0, detail := p, alarm := true }).dropPages (s.pagesAt false a)

/-! ### Lines (R263, R264, R521) -/

/-- Detail of a STACK record for an address. -/
def State.stackDetail (s : State) (addr : Nat) : Nat :=
  match s.frameOf addr with
  | some p => p
  | none => 2 ^ 31 + addr / 2 ^ 37 * 2 ^ 24 + addr % 2 ^ 37 / 8192

/-- The frame that holds an address, if any, is retired. -/
def State.retireAt (addr : Nat) (s : State) : State :=
  match s.frameOf addr with
  | some p => s.retireFrame p
  | none => s

/-- An uncorrectable line is found: a STACK record, and the KV frame that holds it is retired. -/
def State.stackError (line step : Nat) (s : State) : State :=
  ((s.bump 0x5408 0 7 1).raise
    { kind := .stack, path := pathUnit (1 + line * 64 / 2 ^ 37) 127 0 0, detail := s.stackDetail (line * 64), step := step }).retireAt (line * 64)

/-- A read of a line corrects an error in it: it is counted, with a CORRECTED record (R263). -/
def State.correctLine (line : Nat) (s : State) : State :=
  (s.bump 0x5408 0 6 1).raise { kind := .corrected, path := pathUnit (1 + line / 2 ^ 31) 127 0 0, detail := 1 }

/-- Read one line: whether it delivers poison. A poison pattern writes no record; a correctable error stays until the scrub or a write of
the whole line. -/
def State.readLine (line step : Nat) (s : State) : Bool × State :=
  let st := s.stackLine.get 0 line
  if st = 1 then (true, s.stackError line step) else if st = 3 then (false, s.correctLine line) else (st == 2, s)

/-- Read some lines: whether any delivers poison. -/
def State.readLines (lines : List Nat) (step : Nat) (s : State) : Bool × State :=
  lines.foldl (fun (acc : Bool × State) l => let (b, s) := acc.2.readLine l step; (acc.1 || b, s)) (false, s)

/-- Whether some line of a frame delivers poison; an uncorrectable one is found now (R264). -/
def State.readFrame (f step : Nat) (s : State) : Bool × State :=
  let base := s.frameAddr f / 64
  s.readLines ((s.stackLine.filter fun e => decide (base ≤ e.1) && decide (e.1 < base + 128)).map (·.1)) step

/-- The frames of a context's pages, list by list and page by page. -/
def Ctx.frameList (x : Ctx) : List Nat := x.lists.flatMap fun l => l.frames.filterMap (·.2)

/-! ### Requests -/

/-- A submission entry's fields up to its stop tokens (Table 12-1). -/
def entryFields (e : SubEntry) : List Byte :=
  leBytes 1 1 ++ [e.flags, e.variant, e.grammar] ++ leBytes 2 e.tenant.toNat ++ [e.cls, e.stopCount] ++ leBytes 8 e.tag.toNat ++
  leBytes 4 e.ctx.toNat ++ leBytes 4 e.promptCount.toNat ++ leBytes 8 e.promptAddr.toNat ++ leBytes 8 e.deadline.toNat ++
  leBytes 4 e.maxNew.toNat ++ leBytes 2 e.temperature.toNat ++ leBytes 2 e.topK.toNat ++ leBytes 2 e.topP.toNat ++ leBytes 2 e.biasCount.toNat ++
  leBytes 4 e.startState.toNat ++ leBytes 8 e.seed.toNat ++ leBytes 8 e.biasAddr.toNat ++ e.stops.flatMap fun w => leBytes 4 w.toNat

/-! Ports and queue pairs by number. -/

def hostNo : HostPort → Nat
  | .a => 0
  | .b => 1

def hostOf (n : Nat) : HostPort := if n = 0 then .a else .b

def qpKey (p n : Nat) : Nat := p * 256 + n
def qpPort (k : Nat) : Nat := k / 256

def Request.key (r : Request) : Nat := qpKey (hostNo r.port) r.qp
def Request.tenant (r : Request) : Nat := r.entry.tenant.toNat
def Request.isActive (r : Request) : Bool := r.phase == .active
def Request.keep (r : Request) : Bool := bit r.entry.flags.toNat 0

/-- The live requests, by number. -/
def State.reqList (s : State) : List (Nat × Request) := s.requests.filterMap fun e => e.2.map fun r => (e.1, r)

/-- The body of a REQUEST record: what a request goes on from. -/
def requestBody (n : Nat) (r : Request) (level : Nat) : List Byte :=
  let stage := if r.phase = .pending then 1 else if r.phase = .active then 2 else 0
  let words (l : List Nat) : List Byte := leBytes 4 l.length ++ l.flatMap (leBytes 4)
  leBytes 4 n ++ leBytes 1 (hostNo r.port) ++ leBytes 1 r.qp ++ leBytes 1 stage ++ leBytes 1 (flagNat r.generating) ++ entryFields r.entry ++
  leBytes 8 r.arrival ++ leBytes 8 r.order ++ leBytes 4 r.ctx ++ leBytes 4 r.gen ++ leBytes 4 r.kvGen ++ words r.prompt ++
  words (r.bias.flatMap fun b => [b.1, b.2]) ++ words r.history ++ words r.rest ++ leBytes 4 r.refill ++ leBytes 1 r.m ++ words r.nodes ++
  words r.guesses ++ leBytes 4 r.returned ++ leBytes 4 r.grammar ++ leBytes 8 level ++ leBytes 1 r.mode

/-! ### The copy (R146, R377) -/

/-- A page list as a CONTEXT record carries it: layer slot, KV head, die, committed length, page count, page numbers (the model's own
layout). -/
def PageList.body (l : PageList) : List Byte :=
  let pages := l.frames.filterMap fun e => e.2.map fun _ => e.1
  leBytes 1 l.layer ++ leBytes 1 l.head ++ leBytes 1 l.die ++ leBytes 4 l.committed ++ leBytes 2 pages.length ++ pages.flatMap (leBytes 2)

/-- A context record: tenant, KV generation, committed length, tier, page lists. -/
def Ctx.body (c : Nat) (x : Ctx) : List Byte :=
  let tier := match x.tier with
    | .hot => 0
    | .warm => 1
    | .cellar => 2
    | .lost => 3
  leBytes 4 c ++ leBytes 2 x.tenant ++ leBytes 4 x.kvGen ++ leBytes 4 x.committed ++ leBytes 1 tier ++ leBytes 2 x.lists.length ++
    x.lists.flatMap PageList.body

/-- A context record that changed goes to the twin. -/
def State.mirrorCtx (c : Nat) (s : State) : State :=
  match s.ctxs.get none c with
  | some x => s.mirrorToTwin 0 3 (x.body c)
  | none => s

/-- A page with every slot written. -/
def State.pageBody (s : State) (f : Nat) (p : Page) : List Byte :=
  p.header ++ (List.range p.written).flatMap fun t => slotBytes t (p.slot t) (s.slotBad f t)

/-- The COPY record of a context. -/
def State.copyBody (s : State) (c : Nat) (x : Ctx) : List Byte :=
  leBytes 1 1 ++ x.body c ++ x.lists.flatMap fun l => leBytes 1 l.die ++ (l.frames.filterMap (·.2)).flatMap fun f =>
    match s.page f with
    | some p => s.pageBody f p
    | none => []

/-- The mover reads the pages of a context for its copy; a line found uncorrectable makes the context LOST here (11 R264). -/
def State.readCtx (x : Ctx) (s : State) : State := x.frameList.foldl (fun s f => (s.readFrame f 0).2) s

/-- A CONTEXT record that says of a context that this part has lost it. -/
def lostBody (c tenant kvGen : Nat) : List Byte := leBytes 4 c ++ leBytes 2 tenant ++ leBytes 4 kvGen ++ leBytes 4 0 ++ leBytes 1 3 ++ leBytes 2 0

/-- COPY records to the twin. -/
def State.sendCopies (t : Nat) (bodies : List (List Byte)) (s : State) : State := bodies.foldl (fun s b => s.mirrorTo 6 b t) s

/-- What the copy consists of: the request state, then HOT contexts, then WARM ones. -/
def State.copyList (s : State) : List (List Byte) :=
  let of (t : Tier) : List (List Byte) := s.ctxs.filterMap fun e => e.2.bind fun x => if x.tier = t then some (s.copyBody e.1 x) else none
  let reqs := if s.isAdmitting then s.reqList.map fun e => leBytes 1 0 ++ requestBody e.1 e.2 (s.odAt e.2.tenant 0x5802 0 0) else []
  reqs ++ of .hot ++ of .warm

def State.setPair (v : Nat) (s : State) : State := s.setOd 0x4102 0 0 v

/-- A position gives no cover until its copy is complete. -/
def State.noteSyncing (ep : Nat) (s : State) : State := if s.syncing.contains ep then s else { s with syncing := s.syncing ++ [ep] }

/-- The pair enters SYNCING; the serving position sends the copy. -/
def State.startSync (s : State) : State :=
  let s := (s.setPair 2).noteSyncing (if s.inService then s.twin.getD noEndpoint else s.endpoint)
  match s.inService, s.twin with
  | true, some t =>
    let s := s.ctxs.foldl (fun s e => (e.2.map fun x => s.readCtx x).getD s) s
    let l := s.copyList
    (s.setOd 0x4102 0 3 (l.map List.length).sum).sendCopies t l
  | _, _ => s

/-- The twin's stage generation as this part knows it (hidden fields 40 and 41 of OD 0x5007). -/
def State.twinGen (s : State) : Nat × Nat := (s.od 0x5007 0 40, s.od 0x5007 0 41)

/-- The pair generation state follows the stage generations of a MIRROR or LOCKSTEP pair (R144, R360): DIVIDED while they differ; a
pair that matches again copies first (R146). -/
def State.settlePair (s : State) : State :=
  match s.ownEntry with
  | none => s
  | some e =>
    if (e.mode ≠ 1 ∧ e.mode ≠ 2) ∨ s.twin.isNone then s
    else
      let divided := s.od 0x5003 0 0 != s.twinGen.1
      let s := s.setOd 0x5007 0 0 (flagNat divided)
      if divided then (if s.od 0x4102 0 0 = 0 ∨ s.od 0x4102 0 0 = 2 then s.setPair 3 else s)
      else if s.od 0x4102 0 0 = 3 then s.startSync else s

end Sys2Proof.Machine
end

