-- ==== Sys2Proof/Machine/Floats.lean ====
section
/-! DEFINITION. Machine/Floats.lean: exact arithmetic of the number formats (02_number_formats.md): F16 and F32 by exact
integers and one rounding to nearest, ties to even, saturating (R48); E8, S16 and A4S scale words; the block
narrowings of R49 and R50; L8 and P4 codes. A finite F16 is an integer count of 2^−24. -/

namespace Sys2Proof.Machine

/-- `n / d` rounded to `p` significant bits on a grid no finer than 2^−k: the result counts 2^−k. -/
def roundUnits (p k : Nat) (n : Int) (d : Nat) : Int :=
  let a := n.natAbs * 2 ^ k
  let x := a / d
  let s := if x < 2 ^ p then 0 else Nat.log2 x + 1 - p
  let r := divRne a (d * 2 ^ s) * (2 ^ s : Nat)
  if n < 0 then -r else r

/-- The largest finite F16, 65,504, in counts of 2^−24. -/
def f16MaxUnits : Nat := 65504 * 2 ^ 24

/-- The F16 pattern of a count of 2^−24 below 2^41 that F16 represents. -/
def f16Pattern (neg : Bool) (u : Nat) : BitVec 16 :=
  let m := if u < 2 ^ 11 then u else
    let l := Nat.log2 u
    (l - 9) * 1024 + (u / 2 ^ (l - 10) - 1024)
  BitVec.ofNat 16 (m + (if neg then 0x8000 else 0))

/-- `n / d` as F16: rne, saturating at ±65,504 (R48, R50); `neg` is the sign a zero result carries. -/
def f16OfRat (neg : Bool) (n : Int) (d : Nat) : BitVec 16 :=
  let u := (roundUnits 11 24 n d).natAbs
  f16Pattern (if n = 0 then neg else decide (n < 0)) (min u f16MaxUnits)

/-- A NaN, the mark of an invalid value (R51); its payload is not stated. -/
def f16Nan (seed : Nat) : BitVec 16 := BitVec.ofNat 16 (0x7C01 + Config.nanPayload seed % 1023)

/-- NaN, or an infinity pattern, which every operation takes as NaN (R51). -/
def f16IsNan (x : BitVec 16) : Bool := x.toNat / 1024 % 32 == 31

/-- An F16 as an operation that passes it on takes it: a NaN or an infinity pattern is the NaN mark (R51). -/
def f16Taken (x : BitVec 16) : BitVec 16 := if f16IsNan x then f16Nan x.toNat else x

/-- A free F16 where no result is stated: finite, or the NaN mark; the part never produces an infinity (R51). -/
def freeF16 (n : Nat) : BitVec 16 := f16Taken (BitVec.ofNat 16 n)

def f16Neg (x : BitVec 16) : Bool := x.toNat / 0x8000 == 1

/-- The value of a finite F16 in counts of 2^−24. -/
def f16Units (x : BitVec 16) : Int :=
  let e := x.toNat / 1024 % 32
  let m := x.toNat % 1024
  let u : Nat := if e = 0 then m else (1024 + m) * 2 ^ (e - 1)
  if f16Neg x then -u else u

/-- The F32 nearest to `n / d`, as a count of 2^−149, within the F32 range. -/
def f32Units (n : Int) (d : Nat) : Int :=
  clampInt (-((2 ^ 24 - 1) * 2 ^ 253 : Nat)) ((2 ^ 24 - 1) * 2 ^ 253 : Nat) (roundUnits 24 149 n d)

/-! ### Scales (R32 to R34) -/

/-- A positive rational as numerator and denominator. -/
abbrev Ratio := Nat × Nat

/-- 2^e. -/
def pow2 (e : Int) : Ratio := if e < 0 then (1, 2 ^ (-e).toNat) else (2 ^ e.toNat, 1)

/-- The value of an E8 scale (R32). -/
def e8Value (e : Nat) : Ratio := pow2 ((e : Int) - 127)

/-- The value of a S16 scale word (R33). -/
def s16Value (w : Nat) : Ratio :=
  if w = 0 then (0, 1) else
  let p := pow2 ((w / 256 : Nat) - 127)
  (p.1 * (256 + w % 256), p.2 * 256)

def s16Invalid (w : Nat) : Bool := w / 256 == 255

/-- The value of an A4S scale word (R34): KIND [15], M [10:8], E [7:0]. -/
def a4sValue (w : Nat) : Ratio :=
  let p := pow2 ((w % 256 : Nat) - 127)
  (p.1 * (8 + field w 10 8), p.2 * 8)

def a4sInvalid (w : Nat) : Bool := w % 256 == 255

/-- The smallest E in 0..254 with rne(m / 2^(E − 127)) at most `top`, elements in units of 1/`sub`; `m = n / d` (R49). -/
def fitE (top sub : Nat) (n d : Nat) : Nat :=
  ((List.range 255).find? fun e =>
    let s := e8Value e
    decide (divRne (n * s.2 * sub : Nat) (d * s.1) ≤ top)).getD 254

/-- The smallest A4S scale (E then M) for which no element saturates: `fp4` selects m / s ≤ 6 (R49). -/
def fitA4s (fp4 : Bool) (n d : Nat) : Nat :=
  let ok (e m : Nat) : Bool :=
    let s := a4sValue (m * 256 + e)
    if fp4 then decide (n * s.2 ≤ 6 * (d * s.1)) else decide (divRne (n * s.2 : Nat) (d * s.1) ≤ 7)
  let e := ((List.range 255).find? fun e => ok e 7).getD 254
  let m := ((List.range 8).find? fun m => ok e m).getD 7
  m * 256 + e

/-- The nearest S16 value to `n / d` (rne on the mantissa grid); 0 is word 0. -/
def s16OfRat (n d : Nat) : Nat :=
  if n = 0 then 0 else
  let e := ((List.range 255).find? fun e => let s := e8Value e; decide (n * s.2 < 2 * (d * s.1))).getD 254
  let s := e8Value e
  let m := (divRne (n * s.2 * 256 : Nat) (d * s.1)).toNat
  if m < 256 then e * 256 else if m < 512 then e * 256 + (m - 256) else min ((e + 1) * 256) (254 * 256 + 255)

/-- The smallest S16 value s with rne(m / s) ≤ 7 (R41, R49). -/
def fitS16 (n d : Nat) : Nat :=
  let ok (w : Nat) : Bool := let s := s16Value w; decide (divRne (n * s.2 : Nat) (d * s.1) ≤ 7)
  let e := ((List.range 255).find? fun e => ok (e * 256 + 255)).getD 254
  let m := ((List.range 256).find? fun m => decide (e * 256 + m ≠ 0) && ok (e * 256 + m)).getD 255
  e * 256 + m

/-! ### Element codes (R30, R31) -/

/-- An INT element; 0x8 reads as −7. -/
def intElem (c : Nat) : Int := if c < 8 then c else if c = 8 then -7 else (c : Int) - 16

/-- The INT code of a value within ±7. -/
def intCode (i : Int) : Nat := (clampInt (-7) 7 i % 16).toNat

/-- An E2M1 element in halves: 0, ½, 1, 1½, 2, 3, 4, 6. -/
def fp4Halves (c : Nat) : Int :=
  let m : Nat := [0, 1, 2, 3, 4, 6, 8, 12].getD (c % 8) 0
  if c < 8 then m else -(m : Int)

/-- rne onto the E2M1 grid of the magnitude `n / d` with saturation at 6: the code without its sign. -/
def fp4Round (n d : Nat) : Nat :=
  -- midpoints between neighbouring grid values, in quarters; a tie goes to the even code
  let q := n * 4
  if q ≤ d then 0 else if q < 3 * d then 1 else if q ≤ 5 * d then 2 else if q < 7 * d then 3
  else if q ≤ 10 * d then 4 else if q < 14 * d then 5 else if q ≤ 20 * d then 6 else 7

/-- The E2M1 code of `n / d`; a zero result is written as code 0. -/
def fp4Code (n : Int) (d : Nat) : Nat :=
  let c := fp4Round n.natAbs d
  if c = 0 then 0 else if n < 0 then c + 8 else c

/-! ### Transcendentals, by 128-bit fixed point (DEDUCED from R48: the exact value, rounded once) -/

def fxBits : Nat := 128
def fxOne : Int := 2 ^ fxBits
/-- ⌊ln 2 × 2^128⌋. -/
def fxLn2 : Int := 235865763225513294137944142764154484399

def fxMul (a b : Int) : Int := a * b / fxOne

/-- Σ term, where each term is the previous one times y over its index. -/
def fxExpSum (y : Int) : Nat → Nat → Int → Int → Int
  | 0, _, _, acc => acc
  | k + 1, i, t, acc => let t' := fxMul t y / (i : Int); fxExpSum y k (i + 1) t' (acc + t')

/-- e^y for 0 ≤ y < 1 in fixed point. -/
def fxExpFrac (y : Int) : Int := fxExpSum y 40 1 fxOne fxOne

/-- 2^x for x = n / d as a ratio of integers: mantissa over 2^128, scaled by a power of two. -/
def exp2Ratio (n : Int) (d : Nat) : Ratio :=
  let i := n / (d : Int)
  let f := (n - i * d) * fxOne / (d : Int)
  let m := (fxExpFrac (fxMul f fxLn2)).toNat
  let p := pow2 i
  (m * p.1, 2 ^ fxBits * p.2)

/-- e^x for x = n / d. -/
def expRatio (n : Int) (d : Nat) : Ratio := exp2Ratio (n * fxOne) (d * fxLn2.toNat)

/-- Σ 2^j z^(2j+1) / (2j+1)!!, the positive series of erf. -/
def fxErfSum (zz : Int) : Nat → Nat → Int → Int → Int
  | 0, _, _, acc => acc
  | k + 1, j, t, acc => let t' := fxMul t (2 * zz) / ((2 * j + 1 : Nat) : Int); fxErfSum zz k (j + 1) t' (acc + t')

/-- Φ(x) × 2^129 for |x| < 8, x = n / 2^24: 1 + erf(x/√2). -/
def phiTwice (n : Int) : Int :=
  let x := n * (2 ^ (fxBits - 24) : Nat)
  let half := fxMul x x / 2
  -- z = x/√2; z·(2/√π)·Σ = x·√(2/π)·Σ', with √(2/π) = (2/√π)/√2
  let s := fxErfSum half 120 1 fxOne fxOne
  let e := expRatio (-half) fxOne.toNat
  let ez := (e.1 * fxOne.toNat / e.2 : Nat)
  let c : Int := 271506046879672464325182014351570923903  -- ⌊√(2/π) × 2^128⌋
  fxOne + fxMul (fxMul (fxMul x c) s) ez

/-- Integer square root by bits from the top. -/
def isqrtFrom (n : Nat) : Nat → Nat → Nat
  | 0, r => r
  | k + 1, r => let c := r + 2 ^ k; isqrtFrom n k (if c * c ≤ n then c else r)

def isqrt (n : Nat) : Nat := isqrtFrom n (Nat.log2 n / 2 + 1) 0

/-- A ratio that lies just above `n / d` unless it is exact: rounding it once is rounding the exact root. -/
def sticky (n : Nat) (exact : Bool) : Nat := 2 * n + (if exact then 0 else 1)

/-! ### L8 and P4 (R44, R45) -/

/-- p4 := rne(15 × 2^(−c/16)), 0 for c = 255. -/
def p4OfL8 (c : Nat) : Nat :=
  if c = 255 then 0 else
  let r := exp2Ratio (-(c : Int)) 16
  (divRne (15 * r.1 : Nat) r.2).toNat

end Sys2Proof.Machine
end

