-- ==== Sys2Proof/Machine/Operands.lean ====
section
/-! DEFINITION. Machine/Operands.lean: the operand forms of stoker instructions: lanes at each width (Table 08-10), the
descriptors of issue groups and transfers (Table 08-9, Table 09-5), header fields of the loaded program (Table 08-4),
and the low instruction bits an ILLEGAL record carries (Tables 08-8 to 08-13). -/

namespace Sys2Proof.Machine

/-! ### Lanes by width: 0 I4, 1 I8, 2 I16, 3 F16 -/

/-- Bits of an element at a width. -/
def elemBits (w : Nat) : Nat := if w = 0 then 4 else if w = 1 then 8 else 16

/-- The elements of a lane as signed integers, element 0 in the low bits. -/
def laneInts (w : Nat) (b : BitVec 16) : List Int :=
  (List.range (16 / elemBits w)).map fun i => toSigned (elemBits w) (b.toNat / 2 ^ (elemBits w * i))

/-- Integers saturated to the width and packed into a lane (R48). -/
def packInts (w : Nat) (l : List Int) : BitVec 16 :=
  let n := elemBits w
  BitVec.ofNat 16 (l.foldr (fun i acc => acc * 2 ^ n + ofSigned n (clampInt (-(2 ^ (n - 1))) (2 ^ (n - 1) - 1) i)) 0)

/-- The bytes of lanes `first` to `first + n − 1`, low byte first, with each byte's poison. -/
def laneBytes (cells : List VCell) (first n : Nat) : List (Nat × Bool) :=
  (slice first n cells).flatMap fun c => [(c.bits.toNat % 256, c.poison), (c.bits.toNat / 256, c.poison)]

/-- Four-bit codes packed four to a lane, element 0 in bits [3:0] (R38, R39), marked bad by block of `blk` elements. -/
def packNibbles (codes : List Nat) (bad : List Bool) (blk : Nat) : List VCell :=
  (List.range (codes.length / 4)).map fun i =>
    { bits := BitVec.ofNat 16 (codes.getD (4 * i) 0 + 16 * codes.getD (4 * i + 1) 0 + 256 * codes.getD (4 * i + 2) 0 +
        4096 * codes.getD (4 * i + 3) 0), poison := false, bad := bad.getD (4 * i / blk) false }

/-- Bytes packed two to a lane, marked bad by block of `blk` bytes. -/
def packBytes (bytes : List Nat) (bad : List Bool) (blk : Nat) : List VCell :=
  (List.range (bytes.length / 2)).map fun i =>
    { bits := BitVec.ofNat 16 (bytes.getD (2 * i) 0 + 256 * bytes.getD (2 * i + 1) 0), poison := false,
      bad := bad.getD (2 * i / blk) false || bad.getD ((2 * i + 1) / blk) false }

/-! ### The loaded program (R188) -/

/-- Offset of hearth block `h` in OD 0x3401. -/
def blockOffset (h : Nat) : Nat := 64 + 98304 * h

/-- `len` bytes at `off` of the header of hearth `h`'s program. -/
def State.progAt (s : State) (h off len : Nat) : Nat := leAt (s.blob 0x3401 0) (blockOffset h + off) len

/-- The lowest-numbered hearth with a program; its header speaks for the part (R188). -/
def State.firstProgram (s : State) : Option Nat := (List.range 128).find? fun h => bit (leAt (s.blob 0x3401 0) 16 16) h

/-- A header field that is the same in every hearth's header. -/
def State.headerAt (s : State) (off len : Nat) : Nat :=
  match s.firstProgram with
  | some h => s.progAt h off len
  | none => 0

/-- Whether a program is loaded (OD 0x3402 state). -/
def State.programLoaded (s : State) : Bool := s.od 0x3402 0 0 == 1

def State.hasProgram (s : State) (h : Nat) : Bool := s.programLoaded && bit (leAt (s.blob 0x3401 0) 16 16) h

/-- The kindle set as a mask (R182, Table 08-4). -/
def State.kindleSet (s : State) : Nat := if s.programLoaded then s.headerAt 16 16 else 0

/-- The hearths of header set `n` (Table 08-4). -/
def State.hearthSet (s : State) (n : Nat) : List Nat := (List.range 128).filter (bit (s.headerAt (320 + 16 * n) 16))

/-- Layer of a layer slot, and its policy and budget as the step has them (R67). -/
def State.slotLayer (s : State) (slot : Nat) : Nat := s.headerAt (64 + 4 * slot) 2
def State.slotPolicy (s : State) (slot : Nat) (cfg : Tab Nat) : Nat :=
  let p := s.headerAt (66 + 4 * slot) 1
  if p = 0xFF then cfgOf cfg 0x6008 1 0 else p
def State.slotBudget (s : State) (slot : Nat) (cfg : Tab Nat) : Nat :=
  let b := s.headerAt (67 + 4 * slot) 1
  if b = 0xFF then cfgOf cfg 0x6008 2 0 else b

/-- An issue-group descriptor of hearth `h` (Table 08-9). -/
structure GroupDesc where
  sites : List Nat
  nseg : Nat
  seg0 : Nat
  scaleReg : Nat
  outBase : Nat
  nblk : Nat
deriving DecidableEq, Repr

def State.groupDesc (s : State) (h d : Nat) : GroupDesc :=
  let o := blockOffset h + 65536 + 32 * d
  let b := s.blob 0x3401 0
  { sites := (List.range 64).filter (bit (leAt b o 8)), nseg := leAt b (o + 8) 1, seg0 := leAt b (o + 9) 1,
    scaleReg := leAt b (o + 10) 1, outBase := leAt b (o + 12) 4, nblk := leAt b (o + 16) 1 }

/-! ### DMA descriptors (Table 09-5) -/

def descriptorOf (b : List Byte) : Descriptor :=
  let f := leAt b 1 1
  { kind := leAt b 0 1, chain := bit f 0, bulk := bit f 1, remote := bit f 2,
    reservedSet := decide (f / 8 ≠ 0) || !zeroAt b 10 2 || !zeroAt b 25 1 || !zeroAt b 28 36,
    target := leAt b 2 1, event := leAt b 3 1, src := leAt b 4 2, dst := leAt b 6 2, rows := leAt b 8 2,
    stride := leAt b 12 4, stackAddr := leAt b 16 8, stage := leAt b 24 1, slot := leAt b 26 2 }

/-! ### Low instruction bits [31:0] -/

def drvLow (f : DrvFields) : Nat :=
  f.span.toNat % 2 * 2 ^ 31 + f.slot.toNat * 2 ^ 25 + f.first.toNat * 2 ^ 15 + f.last.toNat * 2 ^ 5 + f.vsrc.toNat
def accLow (f : AccFields) : Nat := f.slot.toNat % 8 * 2 ^ 29
def fluLow (f : FluFields) : Nat :=
  f.tag.toNat % 2 * 2 ^ 31 + f.dest.toNat * 2 ^ 24 + f.addr.toNat * 2 ^ 9 + f.len.toNat * 8 + flagNat f.f16 * 4
def vecLow (f : VecFields) : Nat :=
  f.va.toNat % 4 * 2 ^ 30 + f.vb.toNat * 2 ^ 25 + f.vc.toNat * 2 ^ 20 + f.imm.toNat
def dmaLow (f : DmaFields) : Nat := f.event.toNat * 2 ^ 26
def waiLow (f : WaiFields) : Nat := f.tmo.toNat % 256 * 2 ^ 24 + flagNat f.branch * 2 ^ 23 + f.target.toNat * 2 ^ 10
def sigLow (f : SigFields) : Nat := f.target.toNat % 2 * 2 ^ 31 + f.desc.toNat * 2 ^ 16
def fenLow (f : FenFields) : Nat := f.tmo.toNat % 8 * 2 ^ 29
def braLow (f : BraFields) : Nat := f.bit.toNat % 2 * 2 ^ 31 + f.target.toNat * 2 ^ 18

/-! ### Cycles of a timeout (Table 08-13) -/

def timeoutCc (scale : Bool) (tmo : Nat) : Nat := if scale then 64 * tmo else tmo

end Sys2Proof.Machine
end

