-- ==== Sys2Proof/Machine/Layers.lean ====
section
/-! DEFINITION. Machine/Layers.lean: array states, program records and remap tables as every chapter reads them (R55, R82,
R85, Table 05-7), and what a change of them does to layer and stage generations (R126, R134, R135). -/

namespace Sys2Proof.Machine

/-- Array state: 0 SERVING, 1 STEEPING, 2 FENCED, 3 RETIRED (OD 0x3105). -/
def State.arrayState (s : State) (a : Nat) : Nat := s.odAt a 0x3105 0 0
/-- Fields of the program record (Table 05-7): state, format, flags, layer, generation, wear. -/
def State.recState (s : State) (a : Nat) : Nat := s.odAt a 0x3107 0 1
def State.recFormat (s : State) (a : Nat) : Nat := s.odAt a 0x3107 0 2
def State.recFlags (s : State) (a : Nat) : Nat := s.odAt a 0x3107 0 3
def State.recLayer (s : State) (a : Nat) : Nat := s.odAt a 0x3107 0 5
def State.recGen (s : State) (a : Nat) : Nat := s.odAt a 0x3107 0 7
def State.recWear (s : State) (a : Nat) : Nat := s.odAt a 0x3107 0 8

/-- Parts of a dictionary key. -/
def keyInst (k : Nat) : Nat := k / 2 ^ 30
def keyIndex (k : Nat) : Nat := k / 2 ^ 14 % 65536
def keyField (k : Nat) : Nat := k % 64

/-- The arrays whose program record has a state other than EMPTY. -/
def State.programmed (s : State) : List Nat :=
  s.dict.filterMap fun e => if keyIndex e.1 = 0x3107 ∧ keyField e.1 = 1 then some (keyInst e.1) else none

def State.layerArrays (s : State) (layer : Nat) : List Nat := s.programmed.filter fun a => s.recLayer a == layer

/-- Generation, predecessor and state (0 NONE, 1 VALID, 2 STEEPING) of a layer (R126, R134), by the arrays with which an image last placed
it. -/
def State.layerNow (s : State) (layer : Nat) : Nat × Nat × Nat :=
  let img := s.layerImage.get (0, 0, []) layer
  let arrays := if img.2.2 = [] then s.layerArrays layer else img.2.2
  if arrays.any fun a => s.arrayState a == 1 then (0, 0, 2)
  else if arrays.any fun a => s.arrayState a == 2 || s.arrayState a == 3 then (0, 0, 0)
  else if img.1 ≠ 0 ∧ img.2.2 ≠ [] ∧ img.2.2.all (fun a => s.recState a == 2 && s.recGen a == img.1) then (img.1, img.2.1, 1)
  else (0, 0, 0)

/-- The common value of a list, 0 when it is empty or differs. -/
def common : List Nat → Nat
  | [] => 0
  | n :: l => if l.all (· == n) then n else 0

/-- The range counters of a slot are cleared when it is assigned to another layer (R89). -/
def State.clearRange (n layer : Nat) (s : State) : State :=
  if s.od 0x5002 (n + 1) 0 = layer then s else (List.range 8).foldl (fun s f => s.setOd 0x3120 (n + 1) f 0) s

/-- Set the four fields of a layer slot (OD 0x5002). -/
def State.setLayerSlot (n layer : Nat) (v : Nat × Nat × Nat) (s : State) : State :=
  ((((s.clearRange n layer).setOd 0x5002 (n + 1) 0 layer).setOd 0x5002 (n + 1) 1 v.1).setOd 0x5002 (n + 1) 2 v.2.1).setOd 0x5002 (n + 1) 3 v.2.2

/-- A change of the stage generation is reported to the admitting part and the twin (R141). -/
def State.reportGeneration (s : State) : State :=
  let data := leBytes 4 (s.od 0x5003 0 0) ++ leBytes 4 (s.od 0x5003 0 1)
  s.notice 5 0 0 0 data (s.admitting :: s.twin.toList)

/-- Recompute the layer slots and the stage generation (R134, R135), within 1 µs of a change: here at once. -/
def State.refreshStage (s : State) : State :=
  let old := (s.od 0x5003 0 0, s.od 0x5003 0 1)
  let s := if s.programLoaded then (List.range 64).foldl (fun s n => s.setLayerSlot n (s.slotLayer n) (s.layerNow (s.slotLayer n))) s
    else s
  let g := common (s.usedSlots.map fun n => s.od 0x5002 (n + 1) 1)
  let p := common (s.usedSlots.map fun n => s.od 0x5002 (n + 1) 2)
  let s := (s.setOd 0x5003 0 0 g).setOd 0x5003 0 1 p
  if old = (g, p) then s else (if s.inService then s.reportGeneration.rebuildAll else s.reportGeneration).settlePair

/-- Set an array's state; its layer and the stage follow. While the island is LOST the change is journaled (R413). -/
def State.setArrayState (a v : Nat) (s : State) : State := ((s.setOdAt a 0x3105 0 0 v).journaled (odKey a 0x3105 0 0) 1).refreshStage

/-! ### Remap tables (R82, Table 03-5) -/

/-- Entry `i` of a remap table of 32 bytes. -/
def remapEntry (t : List Byte) (i : Nat) : Nat := leAt t (2 * i) 2

/-- The spare that holds logical column `l`. -/
def spareOf (t : List Byte) (l : Nat) : Option Nat :=
  (List.range 16).find? fun i => bit (remapEntry t i) 15 && remapEntry t i % 512 == l

/-- The physical column of logical column `l` (R82). -/
def physColumn (t : List Byte) (l : Nat) : Nat :=
  match spareOf t l with
  | some i => 512 + i
  | none => l

def State.remapTable (s : State) (a : Nat) : List Byte := s.blobAt a 0x3101 0

/-- The converter of a physical column (Table 03-2). -/
def converterOf (col : Nat) : Nat := if col < 512 then col % 64 else if col < 520 then 64 else if col < 528 then 65 else 66

/-- The columns a converter serves; the reference converter's are not remapped. -/
def converterColumns (c : Nat) : List Nat :=
  if c < 64 then (List.range 8).map fun k => c + 64 * k
  else if c = 64 then (List.range 8).map (512 + ·)
  else if c = 65 then (List.range 8).map (520 + ·)
  else []

def cellKey (a row col : Nat) : Nat := 1024 * (1024 * a + row) + col

/-- Copy the cells of one column into another (R84, R122). -/
def State.copyColumn (a src dst : Nat) (s : State) : State :=
  { s with weights := (List.range 1024).foldl (fun w r => w.put 0 (cellKey a r dst) (w.get 0 (cellKey a r src))) s.weights }

/-- A hearth of the kindle set of a part that serves or stands by is to go out of service as a fault at the next step boundary, and the
shard fails over (R80, R85; 15 R374). Not while the part is steeped: it then serves nothing. -/
def State.failOver (h : Nat) (s : State) : State :=
  let role := s.od 0x4100 1 0
  if s.ready && (role == 1 || role == 2) && s.steep.isNone && bit s.kindleSet h && !s.offPending.any (fun e => e.1 == h) then
    { s with offPending := s.offPending ++ [(h, true)] }
  else s

/-- An array is RETIRED for want of a spare (R85): a FENCE alarm names it, and the shard fails over. -/
def State.retireArray (a : Nat) (s : State) : State :=
  ((s.setArrayState a 3).raise { kind := .fence, path := pathSite a, detail := 0 }).failOver (a / 1024)

/-- Bytes 0 to 91 of a program record (Table 05-7). -/
def State.recordBody (s : State) (a : Nat) : List Byte := (s.fieldBytes a 0x3107 0).take 92

/-- A changed program record carries its check again. -/
def State.sealRecord (a : Nat) (s : State) : State := (s.setOdAt a 0x3107 0 15 (crc32 (s.recordBody a))).journaled (odKey a 0x3107 0 0) 96

/-- The wear count of an array has reached 900,000 (an event) or 1,000,000 (an alarm); each is raised once. Hidden field 40 keeps
which. -/
def State.noteWear (a : Nat) (s : State) : State :=
  let n := s.recWear a
  let told := s.odAt a 0x3107 0 40
  if 1000000 ≤ n ∧ told < 2 then (s.setOdAt a 0x3107 0 40 2).raise { kind := .steep, path := pathSite a, detail := n, alarm := true }
  else if 900000 ≤ n ∧ told < 1 then (s.setOdAt a 0x3107 0 40 1).raise { kind := .steep, path := pathSite a, detail := n }
  else s

/-- Count a steep, self-refresh or spare copy of an array (R127). A spare copy within a steep is part of it and counts no more (DEDUCED from
the worked example of 05, log 192). -/
def State.wear (a : Nat) (s : State) : State :=
  ((s.setOdAt a 0x3107 0 8 (min (s.recWear a + 1) 0xFFFFFFFF)).sealRecord a).noteWear a

/-- Remap physical column `col` of an array (R84): its logical column goes to the lowest free spare whose converter
serves, the cells with it; with no spare free the array is RETIRED (R85). `cause` 0 steep verify, 1 in service. The entry of a spare
whose own column fails is cleared, and that spare may be taken again (DESIGN CHOICE, log 181). -/
def State.remapColumn (a col cause : Nat) (s : State) : State :=
  let t := s.remapTable a
  let logical := if col < 512 then (if (spareOf t col).isSome then none else some col)
    else if bit (remapEntry t (col - 512)) 15 then some (remapEntry t (col - 512) % 512) else none
  match logical with
  | none => s
  | some l =>
    let free (i : Nat) : Bool := !bit (remapEntry t i) 15 && !s.convOut.get false (a / 2 * 128 + converterOf (512 + i)) && 512 + i != col
    match (List.range 16).find? free with
    | none => s.retireArray a
    | some i =>
      let full := t ++ List.replicate (32 - t.length) 0
      let t' := patch (if col < 512 then full else patch full (2 * (col - 512)) [0, 0]) (2 * i) (leBytes 2 (0x8000 + cause * 0x4000 + l))
      let s := ((s.copyColumn a col (512 + i)).setBlobAt a 0x3101 0 t').journaled (odKey a 0x3101 0 0) 32
      if cause = 0 then s else s.wear a

/-- A column of an array that is being steeped waits for the end of that array, one of a COMPLETE array for a level read whose digest matches
(05 Table 05-8). A RETIRED array has nothing to remap. -/
def State.remapOrWait (a col cause : Nat) (s : State) : State :=
  if s.arrayState a = 3 then s
  else if s.arrayState a = 1 ∨ (cause = 1 ∧ s.recState a = 2) then
    if s.remapWaits.any (fun e => e.1 == a && e.2.1 == col) then s else { s with remapWaits := s.remapWaits ++ [(a, col, cause)] }
  else s.remapColumn a col cause

/-- A converter goes out of service (R84, R523): a FENCE alarm of detail 1, and its columns remapped in both decks. -/
def State.dropConverter (site conv : Nat) (s : State) : State :=
  let s := { s with convOut := s.convOut.put false (site * 128 + conv) true }
  let s := s.raise { kind := .fence, path := pathColumn (2 * site) (768 + conv), detail := 1 }
  (converterColumns conv).foldl (fun s c => (s.remapOrWait (2 * site) c 1).remapOrWait (2 * site + 1) c 1) s

end Sys2Proof.Machine
end

