-- ==== Sys2Proof/Machine/Damper.lean ====
section
/-! DEFINITION. Machine/Damper.lean: power states of hearths as every chapter reads them (07 Table 07-3), the core frequency and its set
point, and the damper level in effect (07 R161, R162; 19 R452; 22 R509). -/

namespace Sys2Proof.Machine

/-! ### Power states of hearths (Table 07-3) -/

def State.power (s : State) (h : Nat) : Nat := s.od (0x3000 + h) 1 0

def State.hot (s : State) (h : Nat) : Bool := s.power h == 3 || s.power h == 4

/-- The hearths of the kindle set, in order. -/
def State.kindleHearths (s : State) : List Nat := (List.range 128).filter (bit s.kindleSet)

/-- An issue group of a hearth converts or holds reserved intervals. -/
def State.converting (s : State) (h : Nat) : Bool := (s.hearths.get Hearth.fresh h).groups.any fun g => !g.delivered

/-- HOT, or DAMPED while the damper level is above 0. -/
def State.workingState (s : State) : Nat := if s.od 0x2404 0 0 = 0 then 3 else 4

/-- At an issue-group boundary a hearth takes the state of the level in effect (R181, R454). -/
def State.toWorking (h : Nat) (s : State) : State :=
  if s.hot h && !s.converting h then s.setOd (0x3000 + h) 1 0 s.workingState else s

/-! ### Core frequency (R161, R162, R509) -/

/-- The core frequency ceiling of a damper level (Table 19-7). -/
def damperMhz (level : Nat) : Nat := if level < 5 then 3000 else if level = 5 then 2500 else if level = 6 then 2000 else 1500

/-- The frequency core PLL H is to have. -/
def State.targetMhz (s : State) : Nat := min (s.od 0x2101 1 0) (damperMhz (s.od 0x2404 0 0))

/-- Set points of the per-part voltage table lie between 0.60 V at 1.5 GHz and 0.80 V at 3.0 GHz. -/
def boundMv (mv : Nat) : Nat := min 800 (max 600 mv)

/-- Write the VDD_CORE set point of a frequency. -/
def State.writeSetPoint (mhz : Nat) (s : State) : State :=
  { s with setPoint := mhz }.emit (.pmbus 0 (boundMv (Config.setPointMv mhz)))

/-- Move towards the target. A fall glides at once. A rise first writes its set point; one that waits is given up, and its set point
lowered again, where the target falls back. A rise under way that is turned down glides to the lower target from where it is, and VDD_CORE is
lowered when that is reached (R162). -/
def State.retarget (s : State) : State :=
  let t := s.targetMhz
  if s.gliding = true ∧ t ≤ s.setPoint ∧ s.setPointAt = none then { s with freqTarget := t }
  else if s.gliding = false ∧ t = s.coreMhz ∧ s.setPointAt.isSome = true then { s.writeSetPoint t with freqTarget := t, setPointAt := none }
  else if t ≤ s.coreMhz then { s with freqTarget := t, setPointAt := none, gliding := decide (t < s.coreMhz) }
  else if t ≤ s.setPoint then (if s.setPointAt.isSome then s else { s with freqTarget := t, gliding := true })
  else if s.pmbusFailed then s
  else { s.writeSetPoint t with setPointAt := some s.elapsed }

/-! ### The level in effect (R452, R453) -/

/-- A DAMPER event with the level in effect (R453, R509). -/
def State.damperEvent (s : State) : State := s.raise { kind := .damper, path := pathDie 0 0, detail := s.od 0x2404 0 0 }

/-- The level in effect follows C and the forced level in force (R210, R452): an event at every change, hearths DAMPED or HOT from their
next issue-group boundary on, the core frequency. -/
def State.settleDamper (s : State) : State :=
  let old := s.od 0x2404 0 0
  let new := max s.damperLevel (s.inForce 0x2405 0 0)
  if new = old then s
  else
    let s := s.setOd 0x2404 0 0 new
    let s := if old = 0 then s.bump 0x2411 0 1 1 else s
    let s := (List.range 128).foldl (fun s h => s.toWorking h) s
    s.damperEvent.retarget

end Sys2Proof.Machine
end

