-- ==== Sys2Proof/Machine/Flags.lean ====
section
/-! DEFINITION. Machine/Flags.lean: the flags the part computes: residues (R462), the over-range comparator (R65), the
conversion itself (R64), branch conditions (Table 08-13), and the port status word (Table 16-4). -/

namespace Sys2Proof.Machine

/-- r(x) = x mod 7 on the signed value, 0 to 6 (R462). -/
def residue (x : Int) : Nat := (x % 7).toNat

/-- Full scale of a span in unit products (Table 03-3). -/
def spanFull (span : Nat) : Nat := 784 * 4 ^ span

/-- A column's charge in 1/(4 × 10⁹) unit products: its sum in quarters of a unit product, with a gain error in 10⁻⁶ and an error in
10⁻⁹ of full scale (R90, R92). -/
def columnCharge (sum4 : Int) (span : Nat) (gain err : Int) : Int := sum4 * (1000000 + gain) * 1000 + err * (4 * spanFull span : Nat)

/-- The converter's code for a column's charge (R64). -/
def converterCode (charge : Int) (span : Nat) : Int := clampInt (-127) 127 (divRne (charge * 127) (4000000000 * spanFull span))

/-- The over-range flag with its sign (R65): the charge, with the comparator's own error in 10⁻⁹ of full scale, above full scale × 127.5 / 127;
never at span 3. -/
def overRange (charge : Int) (span : Nat) (err : Int) : Int :=
  if 3 ≤ span then 0
  else
    let v := charge + err * (4 * spanFull span : Nat)
    if 4000000000 * spanFull span * 255 < v.natAbs * 254 then (if v < 0 then -1 else 1) else 0

/-- Branch conditions of Table 08-13 on signed and unsigned scalars; DEC is judged on the decremented register. -/
def condEq (a b : Nat) : Bool := a == b
def condLt (a b : Nat) : Bool := decide (toSigned 32 a < toSigned 32 b)
def condBit (a i : Nat) : Bool := bit a i

/-- The port status word (Table 16-4). -/
def portStatus (rate width : Nat) (flit ready controller queues : Bool) : Nat :=
  rate * 2 ^ 20 + width * 2 ^ 16 + flagNat flit * 2 ^ 15 + flagNat ready * 2 ^ 14 + flagNat controller * 2 ^ 13 +
  flagNat queues * 2 ^ 12

end Sys2Proof.Machine
end

