-- ==== Sys2Proof/Machine/Analog.lean ====
section
/-! DEFINITION. Machine/Analog.lean: the calibration status and temperature of a hearth as every chapter reads them, and the analogue error
of a converter code: drift, column error and gain error (04_analog_accuracy_calibration.md R90 to R93, R97 to R99). -/

namespace Sys2Proof.Machine

/-! ### The status of a hearth (OD 0x2805)

Fields 0 to 3 are the object's. Field 40: its trims are valid; 41: when it fell due, ns plus 1; 42: T_cal in 1/16 °C; 43: the cover grace
has been alarmed; 44: a trigger fired during the run. -/

def State.cal (s : State) (h f : Nat) : Nat := s.od 0x2805 (h + 1) f
def State.setCal (h f v : Nat) (s : State) : State := s.setOd 0x2805 (h + 1) f v

def State.calState (s : State) (h : Nat) : Nat := s.cal h 2
def State.calValid (s : State) (h : Nat) : Bool := s.cal h 40 == 1
def State.tCal (s : State) (h : Nat) : Int := toSigned 16 (s.cal h 42)

/-- A hearth may be in service: its trims are valid, no run of it is in progress (R97, R101), no image waits to be applied (R106). -/
def State.calServes (s : State) (h : Nat) : Bool := s.calValid h && s.calState h != 3 && s.calImage == []

/-- A test of a hearth is overdue or runs, or a run of it is due or in progress. -/
def State.workDue (s : State) (h : Nat) : Bool :=
  s.od 0x6102 (h + 1) 1 == 2 || s.od 0x6102 (h + 1) 1 == 3 || (s.power h != 0 && (s.calState h == 2 || s.calState h == 3))

/-! ### Temperatures (R99; 19 R458, R459) -/

def State.broken (s : State) (n : Nat) : Bool := s.mask 0x2408 0 n

/-- Whether a reading fails 19 R458: over-range, or outside −20 °C to 135 °C. -/
def badReading (t : Int) (ovr : Bool) : Bool := ovr || decide (t < -320) || decide (2160 < t)

/-- The grid neighbours of a hearth (Table 19-1). -/
def gridNeighbours (h : Nat) : List Nat :=
  (if h % 16 = 0 then [] else [h - 1]) ++ (if h % 16 = 15 then [] else [h + 1]) ++ (if h < 16 then [] else [h - 16]) ++
    (if 112 ≤ h then [] else [h + 16])

/-- The temperature that compensation and triggers take: that of its sensor, or for a broken one the mean of its neighbours in range; where
none is in range, the sensor's value in use (DESIGN CHOICE, log 206). -/
def State.calTemp (s : State) (h : Nat) : Int :=
  if !s.broken h then s.sensor h
  else
    let l := (gridNeighbours h).filter fun n => !s.broken n && !badReading (s.sensor n) false
    if l.isEmpty then s.sensor h else divRne ((l.map s.sensor).foldl (· + ·) 0) l.length

/-! ### Age and drift (R91) -/

/-- Decades of time in thousandths, from 1 s on: 1000 × log₁₀ of a number of seconds. -/
def milliDecades (sec : Nat) : Nat := Nat.log2 (max 1 sec ^ 1000) * 30103 / 100000

/-- Table 04-1 at a temperature in 1/16 °C, in 10⁻⁶ of full cell conductance per decade. Between its rows and above them the nearest two rows'
line is taken, below 25 °C the 25 °C figure (DESIGN CHOICE, log 184). -/
def driftPerDecade (t : Int) : Int :=
  if t < 400 then 500
  else if t < 880 then 500 + divRne (1300 * (t - 400)) 480
  else if t < 1360 then 1800 + divRne (3200 * (t - 880)) 480
  else 5000 + divRne (4000 * (t - 1360)) 320

/-- Seconds since the kiln of an array last ended; none where it was never steeped. -/
def State.kilnAge (s : State) (a : Nat) : Option Nat :=
  match s.kilnAt.get 0 a with
  | 0 => none
  | t + 1 => some ((s.elapsed - t) / 1000000000)

/-- The common part of the relaxation since the last run, or since the kiln where the hearth holds no trims, in 10⁻⁶; its share of the drift
is the array's own (R91 states none). -/
def State.driftGain (s : State) (a : Nat) : Int :=
  match s.kilnAge a with
  | none => 0
  | some age =>
    let run := if s.calValid (a / 1024) then age - (s.now - s.cal (a / 1024) 1) / 1000000000 else 0
    divRne (driftPerDecade (s.calTemp (a / 1024)) * ((milliDecades age : Int) - milliDecades run) * (Config.commonShare a % 1001 : Nat)) 1000000

/-! ### Bound of the column error (R92, R93), in 10⁻⁶ of full scale -/

/-- The line of Table 04-2 through its 25 °C and 95 °C figures; at 25 °C below. -/
def errorLine (low high : Int) (t : Int) : Int := low + divRne ((high - low) * (max 400 t - 400)) 1120

/-- The bound of an array at a temperature by its age, steeps, and distance from T_cal; none where no bound is promised: above 105 °C, past
10⁶ steeps, not calibrated, never steeped, or past the refresh interval. -/
def State.errorBound (s : State) (a : Nat) : Option Int :=
  let h := a / 1024
  let t := s.calTemp h
  match s.kilnAge a with
  | none => none
  | some age =>
    if 1680 < t || !s.calValid h || decide (1000000 < s.recWear a) || decide ((s.od 0x3111 0 0 : Int) < toSigned 32 (s.od 0x3110 (h + 1) 0)) then none
    else
      let m : Int := if 10000 ≤ s.recWear a then 7500 else min 7500 (max 4940 (milliDecades age))
      let fresh := errorLine 6000 9000 t
      let base := fresh + divRne ((errorLine 10000 14000 t - fresh) * (m - 4940)) 2560
      some (if s.od 0x2804 0 0 = 1 then base + divRne (200 * ((t - s.tCal h).natAbs : Int)) 16 else base)

/-- The part of the error fixed for a column until the next run or steep: what the bound leaves beside 0.35 % of conversion noise. -/
def fixedSigma (bound : Int) : Int := Nat.sqrt (bound.toNat ^ 2 - 3500 ^ 2)

/-- The error of one conversion of a column in 10⁻⁹ of full scale, from the draw `n`: noise and fixed part, scaled by the bound where there
is one. -/
def State.columnError (s : State) (a col n : Nat) (bound : Option Int) : Int :=
  match bound with
  | none => Config.unboundedError n
  | some b => 3500 * Config.converterError n + fixedSigma b * Config.columnDeviate (a * 1024 + col) (s.cal (a / 1024) 1) (s.recWear a)

/-! ### Gain error (R90, R98), in 10⁻⁶ -/

/-- The common residual of the reference chain at a hearth (R95): 0.05 % of level 1, common to the part, and 0.03 % of level 2 since the
hearth's last run. -/
def State.chainError (s : State) (h : Nat) : Int :=
  divRne (500 * Config.referenceDeviate 0 0 + 300 * Config.referenceDeviate (h + 1) (s.cal h 1)) 1000

/-- The gain common to the columns of an array: the residual of the reference chain; with compensation on, what its site has not yet taken of
it; with compensation off, the coefficient of R90 from T_cal on and the REF trims as they stand. The trims remove the common part of the
relaxation at each run and between runs (R91); a hearth that holds none carries it. -/
def State.gainError (s : State) (a : Nat) : Int :=
  let h := a / 1024
  let comp := s.compAt.get 0 (a / 2)
  (if s.od 0x2804 0 0 = 1 then 100 * (s.compWanted.get 0 h - comp) else -divRne (1500 * (s.calTemp h - s.tCal h)) 16 - 100 * comp) +
    s.chainError h - (if s.calValid h then 0 else s.driftGain a)

end Sys2Proof.Machine
end

