-- ==== Sys2Proof/Machine/Hearth.lean ====
section
/-! DEFINITION. Machine/Hearth.lean: the engines of a hearth on its cycle line: buffer rows and their protection
(09 R214 to R225), VE registers and poison (R187, R193, R222), the calendar of slots and results (R216, R217), scalar
registers and flags, and the records a stoker writes. -/

namespace Sys2Proof.Machine

/-! ### Access to a hearth -/

def State.hearth (s : State) (h : Nat) : Hearth := s.hearths.get Hearth.fresh h

def State.setHearth (h : Nat) (x : Hearth) (s : State) : State := { s with hearths := s.hearths.put Hearth.fresh h x }

def State.modHearth (h : Nat) (f : Hearth → Hearth) (s : State) : State := s.setHearth h (f (s.hearth h))

/-- Core cycles in `n` ticks at the frequency in effect (R3, R4), rounded up. -/
def State.ccOfTicks (s : State) (n : Nat) : Nat := ceilDiv (n * s.coreMhz) 100

/-- The end of a group's output window (R197). -/
def Group.ends (g : Group) : Nat := g.window + 8 * g.nblk

/-- The first frame boundary at or after a cycle (R194). -/
def frameUp (cc : Nat) : Nat := ceilDiv cc 8 * 8

/-! ### Buffer (R214 to R225) -/

def rowKey (h row : Nat) : Nat := 32768 * h + row

/-- Whether a row lies in a VALID resident region, optionally only those with bit `b` of the entry set (R227). -/
def State.inRegion (s : State) (h row : Nat) (b : Option Nat) : Bool :=
  (List.range 8).any fun i =>
    let e := s.od (0x3000 + h) (0x10 + i) 0
    bit e 31 && (match b with | none => true | some k => bit e k) &&
      decide (field e 14 0 ≤ row) && decide (row ≤ field e 14 0 + field e 26 16)

/-- The stored lane (16 bits) `l` of a row; an unwritten row reads 0 (R219). -/
def State.rowLane (s : State) (h row l : Nat) : BitVec 16 :=
  if s.bufWritten.get false (rowKey h row) then
    BitVec.ofNat 16 ((s.buf.get 0 (rowKey h row * 64 + 2 * l)).toNat + 256 * (s.buf.get 0 (rowKey h row * 64 + 2 * l + 1)).toNat)
  else 0

/-- What the cells of a word hold, 0 good, 1 one flipped bit, 2 more, 3 poison; an unwritten row makes no check. A word found
uncorrectable reads as poison until its repair. -/
def State.wordState (s : State) (h row w : Nat) : Nat :=
  if s.bufWritten.get false (rowKey h row) then s.bufWord.get 0 (rowKey h row * 4 + w) % 4 else 0

/-- The 32 lanes of a row as an engine takes them: a word found uncorrectable or poisoned carries poison (R222). -/
def State.readCells (s : State) (h row : Nat) : List VCell :=
  let bad := s.bufBad.get false (rowKey h row)
  (List.range 32).map fun l => { bits := s.rowLane h row l, poison := decide (2 ≤ s.wordState h row (l / 8)), bad := bad }

/-- Write lanes `i`, `i + 1`, … of a row, two bytes each, lower byte first (R13). -/
def putLanes (key : Nat) : Nat → List VCell → Tab Byte → Tab Byte
  | _, [], b => b
  | i, c :: cs, b =>
    let n := c.bits.toNat
    putLanes key (i + 1) cs ((b.put 0 (key * 64 + 2 * i) (BitVec.ofNat 8 n)).put 0 (key * 64 + 2 * i + 1) (BitVec.ofNat 8 (n / 256)))

/-- Write a whole row: data, the poison bit of each word, the written bit (R219, R222, R225). A permanent fault of a word's cells stays
(R220). -/
def State.writeRow (h row : Nat) (cells : List VCell) (s : State) : State :=
  let k := rowKey h row
  let w (i : Nat) : Nat := if (slice (8 * i) 8 cells).any (·.poison) then 3 else s.bufStuck.get 0 (k * 4 + i)
  { s with buf := putLanes k 0 cells s.buf, bufWritten := s.bufWritten.put false k true,
           bufBad := s.bufBad.put false k (cells.any (·.bad)),
           bufWord := (((s.bufWord.put 0 (k * 4) (w 0)).put 0 (k * 4 + 1) (w 1)).put 0 (k * 4 + 2) (w 2)).put 0 (k * 4 + 3) (w 3) }

/-- A row of 64 bytes as 32 lanes. -/
def cellsOfBytes (bs : List Byte) (poison : Bool) : List VCell :=
  (List.range 32).map fun l =>
    { bits := BitVec.ofNat 16 ((bs.getD (2 * l) 0).toNat + 256 * (bs.getD (2 * l + 1) 0).toNat), poison := poison, bad := false }

def bytesOfCells (cs : List VCell) : List Byte := cs.flatMap fun c => leBytes 2 c.bits.toNat

/-! ### Records and faults of a stoker -/

/-- What the stoker of `h` writes with a record: its step, program counter and opcode. -/
def State.stokerRaise (h : Nat) (k : Kind) (path detail opcode : Nat) (s : State) : State :=
  let x := s.hearth h
  s.raise { kind := k, path := path, detail := detail, step := x.step, pc := x.pc, opcode := opcode }

/-- OD 0x3405 of a hearth: state and instruction word (R213). While the stoker works a read shows the word it stands at (State.computed). -/
def State.showStoker (h st : Nat) (s : State) : State :=
  (s.setOd 0x3405 (h + 1) 0 st).setOd 0x3405 (h + 1) 1 (s.hearth h).pc

/-- Clear the flue state of a step (R258): held flits, send queues, merge stores. The step field is the id's low 8 bits. -/
def State.clearFlue (step : Nat) (s : State) : State :=
  { s with flue := { flits := s.flue.flits.filter (fun f => f.flit.step != step % 256),
                     stores := s.flue.stores.filter (fun u => u.step != step % 256) } }

/-- The hearths at work on a step. -/
def State.hearthsOf (s : State) (step : Nat) : List Nat :=
  (List.range 128).filter fun h =>
    let x := s.hearth h
    x.step == step && x.phase != .idle && x.phase != .halted

/-- A PARITY record (R241, R464): detail the word index. -/
def State.raiseParity (path step word : Nat) (s : State) : State :=
  let s := s.raise { kind := .parity, path := path, detail := word, step := step }
  { s with residueLog := s.residueLog.put [] path (s.residueLog.get [] path ++ [(step, s.now)]) }

/-! ### Step boundaries (R209) and what acts at them -/

/-- ROLE records go to the twin and the admitting part (R374, Table 15-5): action, entry, endpoint, sequence. -/
def roleBody (action entry endpoint seq : Nat) : List Byte :=
  leBytes 1 action ++ leBytes 2 entry ++ leBytes 8 endpoint ++ leBytes 4 seq

/-- The sequence number of a ROLE JOIN that says the copy is complete (the model's own). -/
def joinDone : Nat := 0xFFFFFFFF

/-- ROLE JOIN of this part for an entry, or as a spare with 0xFFFF (R377, R379). In a pair its copy comes next. -/
def State.sendJoin (entry : Nat) (s : State) : State :=
  let s := if s.twin.isSome then s.noteSyncing s.endpoint else s
  s.mirrorTo 0x0A (roleBody 3 entry s.endpoint (s.od 0x4111 0 0)) s.admitting

/-- ROLE JOIN of this part once its copy is complete (R377). -/
def State.sendJoined (entry : Nat) (s : State) : State := s.mirrorTo 0x0A (roleBody 3 entry s.endpoint joinDone) s.admitting

/-- The part reports itself failed to its twin and to the admitting part (R374). -/
def State.reportFailed (s : State) : State :=
  if s.selfFailed then s
  else
    let body := roleBody 1 0xFFFF s.endpoint (s.od 0x4111 0 0)
    let s := { s with selfFailed := true }
    let s := match s.twin with
      | some t => s.mirrorTo 0x0A body t
      | none => s
    s.mirrorTo 0x0A body s.admitting

/-- Empty a hearth's buffer: every row reads as unwritten (R219, R228). -/
def State.dropRows (h : Nat) (keep : Nat → Bool) (s : State) : State :=
  let mine (row : Nat) : Bool := row / 32768 == h && !keep (row % 32768)
  { s with bufWritten := s.bufWritten.filter fun e => !mine e.1,
           bufWord := s.bufWord.filter fun e => !mine (e.1 / 4),
           bufBad := s.bufBad.filter fun e => !mine e.1,
           buf := s.buf.filter fun e => !mine (e.1 / 64) }

/-- A hearth goes OFF (R181, R228): out of service, resident contents lost; as a fault with a FENCE alarm of detail 3. Where the hearth
is of its kindle set, the part reports itself failed: as a fault (R374), or because its stage serves from the twin from this boundary on
(R183; DEDUCED, log 182). -/
def State.hearthOff (h : Nat) (fault : Bool) (s : State) : State :=
  let s := (((s.setOd (0x3000 + h) 1 0 0).setHearth h Hearth.fresh).dropRows h (fun _ => false)).setOd 0x3405 (h + 1) 0 0
  let s := { s with writeBacks := s.writeBacks.filter fun e => e.1 / 16 != h }
  let s := if fault then s.raise { kind := .fence, path := pathUnit 0 h 0 0, detail := 3 } else s
  if bit s.kindleSet h && (fault || s.inService) then s.reportFailed else s

/-- Table 20-2: what fencing a digital unit does. -/
def State.fenceUnit (path : Nat) (s : State) : State :=
  let die := field path 31 29
  let unit := field path 26 20
  let sub := field path 19 16
  if die = 0 ∧ field path 28 27 ≠ 0 ∧ sub ≠ 6 then s.hearthOff unit true
  else if (die = 3 ∨ die = 4) ∧ field path 28 27 ≠ 0 ∧ unit < 8 then
    -- a fabric port retrains; a second fence within 1 h leaves it DISABLED. Field 40 of its state keeps the last fence.
    let s := s.raise { kind := .fence, path := path, detail := 5 }
    let last := s.od (0x4000 + unit) 1 40
    let again := decide (last ≠ 0 ∧ s.now < last - 1 + 3600000000000)
    (s.setOd (0x4000 + unit) 1 40 (s.now + 1)).setOd (0x4000 + unit) 1 0 (if again then 0 else 2)
  else (s.raise { kind := .fence, path := path, detail := 4 }).reportFailed

/-- Whether a step runs at this part. -/
def State.stepRunning (s : State) : Bool := s.steps.any fun e => match e.2 with
  | some r => r.phase == .running
  | none => false

/-- A write of an RWB object while a step runs leaves the value before it in force until the boundary (R8, R210). -/
def State.keepForStep (idx sub : Nat) (s : State) : State :=
  if s.stepRunning && ((odRow? idx sub).any fun r => r.code == .rwb) then
    if ((odRow? idx sub).any fun r => r.type.isBytes) then s.keepOldBlob idx sub
    else (List.range (odWidths idx sub).length).foldl (fun s f => s.keepOld idx sub f) s
  else s

/-- A step that runs holds a hearth: it is of the kindle set. -/
def State.heldByStep (s : State) (h : Nat) : Bool := bit s.kindleSet h && s.stepRunning

/-- Hearths that are to go OFF do, once no step whose kindle set holds them runs (R181). -/
def State.settleOff (s : State) : State :=
  let l := s.offPending
  let s := { s with offPending := l.filter fun e => s.heldByStep e.1 }
  (l.filter fun e => !s.heldByStep e.1).foldl (fun s e => s.hearthOff e.1 e.2) s

/-- Writes of RWB objects take effect at the boundary of the last step launched before them (R210). -/
def State.settleRwb (s : State) : State :=
  if s.stepRunning then s else { s with rwbOld := [], rwbOldBlobs := [] }.settleDamper

/-- What waits for a step boundary is done: RWB values, converters, digital units, hearths (R210, R523, R465, R181, R224). -/
def State.applyBoundary (s : State) : State :=
  let s := s.settleRwb
  let s := s.convPending.foldl (fun s k => if s.convOut.get false k then s else s.dropConverter (k / 128) (k % 128)) s
  let s := s.fencePending.foldl (fun s p => s.fenceUnit p) s
  (List.range 128).foldl (fun s h => s.toWorking h) { s with convPending := [], fencePending := [] }.settleOff

/-- Four consecutive edges on a new grid: the part adopts it (R173). -/
def State.adoptGrid (s : State) : State :=
  match s.grid with
  | [a, b, c, d] =>
    if b.1 - a.1 = c.1 - b.1 ∧ c.1 - b.1 = d.1 - c.1 then
      { s with grid := [], edges := s.edges ++ [d], missed := 0 }.setOd 0x2200 1 0 (d.1 - c.1)
    else s
  | _ => s

/-- A hearth is to go out of service: at the boundary of each step whose kindle set holds it, at once where none runs. -/
def State.takeOff (h : Nat) (fault : Bool) (s : State) : State :=
  if s.offPending.any (fun e => e.1 == h) then s else { s with offPending := s.offPending ++ [(h, fault)] }.settleOff

/-! ### Write-backs and repairs (R220, R224) -/

/-- A corrected word is written back: a soft error in its cells is gone. -/
def State.writeBack (key : Nat) (s : State) : State :=
  let b := key / 4 / 32768 * 16 + key / 4 % 16
  let s := { s with writeBacks := s.writeBacks.put [] b ((s.writeBacks.get [] b).filter (· != key)) }
  if s.bufWord.get 0 key % 4 = 1 then { s with bufWord := s.bufWord.put 0 key (s.bufStuck.get 0 key) } else s

/-- Whether a row lies in a LOAD region. -/
def State.inLoad (s : State) (h row : Nat) : Bool := s.inRegion h row (some 30)

/-- Rows of the resident image: where row `row` of hearth `h` stands in it (R228, Table 09-9); none where no LOAD region
holds the row. -/
def State.residentOffset (s : State) (h row : Nat) : Option Nat :=
  let entry (g i : Nat) : Nat := s.od (0x3000 + g) (0x10 + i) 0
  let loads (e : Nat) : Bool := bit e 31 && bit e 30
  let before := (List.range h).foldl (fun n g => (List.range 8).foldl (fun n i =>
    if loads (entry g i) then n + field (entry g i) 26 16 + 1 else n) n) 0
  ((List.range 8).foldl (fun (acc : Nat × Option Nat) i =>
    let e := entry h i
    if !loads e then acc
    else if field e 14 0 ≤ row ∧ row ≤ field e 14 0 + field e 26 16 then (acc.1, acc.2.orElse fun _ => some (acc.1 + (row - field e 14 0)))
    else (acc.1 + field e 26 16 + 1, acc.2)) (before, none)).2.map fun n => 64 + 64 * n

/-- A bank row moves to a spare: good words as they are, poison in a failed one; the faults of the cells are left behind. -/
def State.moveRow (h row : Nat) (s : State) : State :=
  (List.range 4).foldl (fun s w =>
    let key := rowKey h row * 4 + w
    let v := s.bufWord.get 0 key
    { s with bufStuck := s.bufStuck.put 0 key 0, bufWord := s.bufWord.put 0 key (if v % 4 = 1 then 0 else if v = 11 then 3 else v) }) s

/-- The last margin re-read of a failing word (R224): it decodes and the row stays, or its bank row moves to the lowest
free spare, whose contents come from the stack shadow for a LOAD region; with no spare free the hearth goes out of
service as a fault. A word written since is no longer failing. -/
def State.repair (h row w : Nat) (s : State) : State :=
  let key := rowKey h row * 4 + w
  let v := s.bufWord.get 0 key
  if v = 7 then { s with bufWord := s.bufWord.put 0 key (s.bufStuck.get 0 key) }
  else if v ≠ 11 then s
  else
    let map := s.blob (0x3000 + h) 5
    let slot (i : Nat) : Nat := (row % 16 * 8 + i) * 2
    match (List.range 8).find? fun i => !bit (leAt map (slot i) 2) 15 with
    | none => s.takeOff h true
    | some i =>
      let full := map ++ List.replicate (256 - map.length) 0
      let s := ((s.setBlob (0x3000 + h) 5 (patch full (slot i) (leBytes 2 (0x8000 + row / 16)))).journaled (odKey 0 (0x3000 + h) 5 0) 256).bump (0x3000 + h) 4 5 1
      let s := s.moveRow h row
      match s.shadowRows.get none (rowKey h row) with
      | some b => if s.inLoad h row then s.writeRow h row (cellsOfBytes b false) else s
      | none => s

/-- Write-backs and repairs that wait in a hearth's calendar are made before it is dropped: the stoker slots do not stop with a step. -/
def State.settleCells (h : Nat) (s : State) : State :=
  (s.hearth h).calendar.foldl (fun s n => match n.due with
    | .writeBack key => s.writeBack key
    | .repair row w => s.repair h row w
    | _ => s) s

/-- Copies from a LOCKSTEP entry that found no second by the boundary are counted, and their granules are free (R373). -/
def State.dropLone (step : Nat) (s : State) : State :=
  let r := s.stepRec step
  let lone := r.inputs.filter fun i => !r.matched.contains i.slot && s.dualSource i.src
  (s.bump 0x4107 0 1 lone.length).modStep step fun r => { r with inputs := r.inputs.map fun i => { i with reserve := 0, shared := 0 } }

/-- The boundary of a step (R209): the STEP record (Table 20-6: slip count, halt minus planned halt), its flue state
cleared, what waits for a boundary done. Of a step that did not halt no input is left (R347). -/
def State.boundary (step : Nat) (phase : StepPhase) (s : State) : State :=
  let r := s.stepRec step
  let s := match r.launched with
    | none => s
    | some t =>
      let late : Int := (s.tick : Int) - (t : Int) - (s.headerAt 36 4 : Nat)
      s.raise { kind := .step, path := pathDie 0 0, detail := r.k % 256 + 256 * ofSigned 24 late, step := step }
  let s := (s.dropLone step).modStep step fun r =>
    { r with phase := phase, boundary := s.tick, inputs := if phase = .halted then r.inputs else [] }
  (s.clearFlue step).applyBoundary.adoptGrid

/-- ABANDON with this part's stage goes to the parts that retain an input of a step for it. -/
def State.abandonNotice (step : Nat) (dests : List Nat) (s : State) : State :=
  s.notice 2 0 0 step (leBytes 1 ((s.ownEntry.map (·.stage)).getD 0)) dests

def Packet.src : Packet → Nat
  | .row r => r.src
  | .signal src _ _ => src

def Packet.step : Packet → Nat
  | .row r => r.step
  | .signal _ _ step => step

/-- Deliveries of a failed step are discarded at a hearth (R207). -/
def Hearth.discard (step : Nat) (x : Hearth) : Hearth :=
  { x with inbound := x.inbound.filter fun r => r.step != step, waiting := x.waiting.filter fun p => p.step != step,
           calendar := x.calendar.filter fun n => match n.due with
             | .inbound r => r.step != step
             | _ => true }

/-- Every stoker of a step stops, what its hearths had in progress is dropped, and its deliveries are discarded wherever they go (R207). -/
def State.stopHearths (step : Nat) (s : State) : State :=
  let s := (s.hearthsOf step).foldl (fun s h => ((s.settleCells h).modHearth h fun x =>
      { x with phase := .halted, haltTick := s.tick, wait := none, fence := none, freeze := none, held := none, signals := [], calendar := [],
               armed := [], groups := [], queue0 := [], queue1 := [] }).showStoker h 0) s
  (s.hearths.map (·.1)).foldl (fun s h => s.modHearth h (Hearth.discard step)) s

/-! ### Shadow runs (15 R370) -/

/-- The step whose shadow run is at work on the hearths. -/
def State.isShadow (s : State) (step : Nat) : Bool :=
  match s.shadow with
  | some x => x.step == step && x.running && !x.ended
  | none => false

/-- A shadow run leaves nothing of its step here: requests not yet started go, and its flue state is cleared. -/
def State.leaveShadow (step : Nat) (s : State) : State :=
  let s := { s with steps := s.steps.put none step (if (s.stepRec step).stepDone then some { StepRec.fresh with stepDone := true } else none),
                    attnQueue := s.attnQueue.filter fun a => a.step != step || a.started }
  (s.clearFlue step).applyBoundary.adoptGrid

/-- The shadow check is discarded; a run at work stops. -/
def State.dropShadow (s : State) : State :=
  match s.shadow with
  | none => s
  | some x =>
    let run := s.isShadow x.step
    let s := { s with shadow := none }
    if run then (s.stopHearths x.step).leaveShadow x.step else s

/-- A step fails here (R207, R366): every stoker of the step stops, each part that retains an input gets ABANDON, and the
step's state is cleared at this boundary (R209). A failure met twice in a step counts once. A shadow run that fails is discarded. -/
def State.failStep (step : Nat) (s : State) : State :=
  let r := s.stepRec step
  if r.phase != .running then s
  else if s.isShadow step then s.dropShadow
  else
    let s := s.stopHearths step
    let s := s.abandonNotice step r.sources
    -- the admitting part learns that the KV pool was full (12 R293; the model's own message)
    let s := if r.kvFull then s.forward 0x5408 0 (leBytes 8 step) [s.admitting] else s
    let s := s.modStep step fun r => { r with runs := r.runs + 1, kvFull := false }
    s.boundary step .failed

/-- A stoker fault (R207, Table 08-14): the record of its kind, OD 0x3405 shows FAULTED and the kind, OD 0x3404 counts it,
and the step fails. -/
def State.stokerFault (h : Nat) (k : Kind) (detail opcode : Nat) (s : State) : State :=
  let s := s.stokerRaise h k (pathUnit 0 h 0 0) detail opcode
  let s := (s.bump 0x3404 0 2 1).setOd 0x3405 (h + 1) 2 k.code
  let pc := (s.hearth h).pc
  let s := s.failStep (s.hearth h).step
  ((s.setOd 0x3405 (h + 1) 0 3).setOd 0x3405 (h + 1) 1 pc).modHearth h fun x => { x with phase := .faulted }

/-! ### Slips seen here (R176, R223) -/

/-- A slip originated at this part: k rises, HOLD_N goes low for 2 tk, and a slip notice goes to the later stages and the
admitting part. A shadow run is outside the cadence and slips nothing. -/
def State.originateSlip (step : Nat) (freeze : Bool) (s : State) : State :=
  if s.isShadow step then s else
  let s := s.modStep step fun r => { r with k := r.k + 1 }
  let k := (s.stepRec step).k
  let s := (s.bump 0x2204 0 4 1).raise { kind := .slip, path := pathDie 0 0, detail := k + 256 * flagNat freeze, step := step }
  ({ s with holdUntil := s.tick + 2 }.emit (.holdLow s.tick)).notice 1 k 0 step [] s.concerned

/-! ### The calendar -/

/-- Insert in order of cycle, then of issue. -/
def insertSlot (n : Slot) : List Slot → List Slot
  | [] => [n]
  | m :: l => if n.cc < m.cc ∨ (n.cc = m.cc ∧ (n.due.late < m.due.late ∨ (n.due.late = m.due.late ∧ n.seq < m.seq))) then n :: m :: l else m :: insertSlot n l

/-- Enter work at a cycle, in order of issue. -/
def Hearth.at (cc : Nat) (d : Due) (x : Hearth) : Hearth :=
  { x with seq := x.seq + 1, calendar := insertSlot { cc := cc, seq := x.seq, due := d } x.calendar }

def State.schedule (h cc : Nat) (d : Due) (s : State) : State := s.modHearth h (Hearth.at cc d)

/-! ### Reads by an engine (R220, R222, R223) -/

/-- Who reads a word: an engine, the scrub, or a FABRIC transfer or flue send, whose failing read makes one record of its own (R225). -/
inductive ReadBy where
  | engine
  | sending
  | scrub
deriving DecidableEq, Repr

/-- Whether a hearth runs a program: its stoker slots follow its cycle line. -/
def Hearth.works (x : Hearth) : Bool := x.phase == .running || x.phase == .waiting || x.phase == .fencing || x.phase == .ended

/-- The bank that a fetch of the calendar reads, and that a write-back or repair uses. -/
def Due.fetchBank : Due → Option Nat
  | .fetch row _ => some (row % 16)
  | .attn g => some (g.desc % 16)
  | _ => none

def Due.cellBank : Due → Option Nat
  | .writeBack key => some (key / 4 % 16)
  | .repair row _ => some (row % 16)
  | _ => none

/-- The first stoker slot of a bank, of those 8 cc apart from `slot` on, in which none of some kinds of work stands. -/
def Hearth.stokerSlot (x : Hearth) (stands : Due → Bool) (slot : Nat) : Nat :=
  let used (c : Nat) : Bool := x.calendar.any fun n => n.cc == c && stands n.due
  (((List.range (x.calendar.length + 1)).map fun k => slot + 8 * k).find? fun c => !used c).getD slot

/-- A write-back or repair takes a stoker slot that no fetch, write-back or repair of its bank has (R216). -/
def Hearth.cellAt (bank slot : Nat) (d : Due) (x : Hearth) : Hearth :=
  x.at (x.stokerSlot (fun w => w.fetchBank == some bank || w.cellBank == some bank) slot) d

/-- A fetch takes the stoker slot of the next frame in which its bank has no earlier fetch (R230); a write-back or repair that stood there goes
to a later one: fetches come first (R216). -/
def Hearth.fetchIn (row cc : Nat) (d : Due) (x : Hearth) : Hearth :=
  let bank := row % 16
  let slot := x.stokerSlot (fun w => w.fetchBank == some bank) (8 * (cc / 8 + 1) + 7)
  let behind (n : Slot) : Bool := n.cc == slot && n.due.cellBank == some bank
  (x.calendar.filter behind).foldl (fun y n => y.cellAt bank (slot + 8) n.due)
    ({ x with calendar := x.calendar.filter fun n => !behind n }.at slot d)

def State.fetchAt (h row cc : Nat) (d : Due) (s : State) : State := s.modHearth h (Hearth.fetchIn row cc d)

/-- Enter a write-back or repair in a stoker slot of its bank; a hearth that runs nothing does it at once. -/
def State.inStokerSlot (h cc bank : Nat) (d : Due) (go : State → State) (s : State) : State :=
  if (s.hearth h).works then s.modHearth h (Hearth.cellAt bank cc d) else go s

/-- The part abandons a running step whose freeze would slip it past the limit; the admitting part restarts it (R179, R223, 15 R367). -/
def State.giveUpRunning (step : Nat) (s : State) : State :=
  let s := ((s.stopHearths step).bump 0x2204 0 7 1).abandonNotice step [s.admitting]
  (s.modStep step fun r => { r with runs := r.runs + 1 }).boundary step .abandoned

/-- A freeze of a hearth (R223): issue holds from the frame boundary after detection for at least 50 tk, and the step slips, or is abandoned
where the slip would exceed OD 0x2203. -/
def State.freezeHearth (h cc : Nat) (s : State) : State :=
  let step := (s.hearth h).step
  if s.isShadow step = false ∧ s.od 0x2203 0 0 ≤ (s.stepRec step).k then s.giveUpRunning step
  else
    let start := frameUp (cc + 3)
    let resume := frameUp (start + s.ccOfTicks 50)
    let s := s.bump (0x3000 + h) 4 3 1
    (s.modHearth h fun x => { x with freeze := some { start := start, resume := resume } }).originateSlip step true

/-- What one read of a row does beside delivering it: corrections queue write-backs (at most 4 per bank), a newly
uncorrectable word is recorded, poisoned, repaired, and freezes the hearth where an engine finds it, a poisoned word counts. -/
def State.wordRead (h row w cc : Nat) (who : ReadBy) (s : State) : State :=
  let key := rowKey h row * 4 + w
  let st := s.wordState h row w
  if st = 1 then
    let s := (s.bump (0x3000 + h) 4 0 1).raise { kind := .corrected, path := pathUnit 0 h 3 (row % 16), detail := 0 }
    let b := h * 16 + row % 16
    let q := s.writeBacks.get [] b
    if q.contains key then s
    else if q.length < 4 then
      { s with writeBacks := s.writeBacks.put [] b (q ++ [key]) }.inStokerSlot h (frameUp (cc + 1) + 7) (row % 16) (.writeBack key)
        (State.writeBack key)
    else s.bump (0x3000 + h) 4 4 1
  else if st = 2 then
    let x := s.hearth h
    let s := s.bump (0x3000 + h) 4 1 1
    let s := if who = .sending then s
      else s.raise { kind := .buffer, path := pathUnit 0 h 3 (row % 16), detail := row, step := x.step, pc := x.pc }
    let v := s.bufWord.get 0 key
    let s := { s with bufWord := s.bufWord.put 0 key (if v = 6 then 7 else 11) }.inStokerSlot h (frameUp (cc + 3) + 31) (row % 16) (.repair row w)
      (State.repair h row w)
    if who != .scrub && x.freeze.isNone && x.works then s.freezeHearth h cc else s
  else if st = 3 then s.bump (0x3000 + h) 4 2 1
  else s

/-- A row is read: its cells, and what the read does. -/
def State.rowRead (who : ReadBy) (h row cc : Nat) (s : State) : List VCell × State :=
  let cells := s.readCells h row
  (cells, (List.range 4).foldl (fun s w => s.wordRead h row w cc who) s)

/-- An engine reads a row. -/
def State.engineRead (h row cc : Nat) (s : State) : List VCell × State := s.rowRead .engine h row cc

/-! ### Registers -/

def Hearth.lane (x : Hearth) (r l : Nat) : VCell :=
  { bits := x.v.get 0 (r * 512 + l), poison := x.vPoison.get false (r * 64 + l / 8), bad := x.vBad.get false (r * 512 + l) }

def Hearth.lanes (x : Hearth) (r : Nat) : List VCell := (List.range 512).map (x.lane r)

def putVLanes (r : Nat) : Nat → List VCell → Tab (BitVec 16) → Tab (BitVec 16)
  | _, [], v => v
  | l, c :: cs, v => putVLanes r (l + 1) cs (v.put 0 (r * 512 + l) c.bits)

def putVBad (r : Nat) : Nat → List VCell → Tab Bool → Tab Bool
  | _, [], v => v
  | l, c :: cs, v => putVBad r (l + 1) cs (v.put false (r * 512 + l) c.bad)

/-- The poison bit of group `g` after a write of lanes `first` to `first + cells.length − 1` (R222): the new values alone
where all 8 lanes are written, else also what it was. -/
def groupPoison (old : Bool) (g first : Nat) (cells : List VCell) : Bool :=
  let covered := (List.range 8).filter fun i => decide (first ≤ 8 * g + i) && decide (8 * g + i < first + cells.length)
  let new := covered.any fun i => ((cells.getD (8 * g + i - first) { bits := 0, poison := false, bad := false }).poison)
  if covered.length = 8 then new else old || new

def Hearth.writeV (w : VWrite) (x : Hearth) : Hearth :=
  let groups := (List.range 64).filter fun g => decide (w.first < 8 * g + 8) && decide (8 * g < w.first + w.cells.length)
  { x with v := putVLanes w.reg w.first w.cells x.v, vBad := putVBad w.reg w.first w.cells x.vBad,
           vPoison := groups.foldl (fun t g => t.put false (w.reg * 64 + g)
             (groupPoison (t.get false (w.reg * 64 + g)) g w.first w.cells)) x.vPoison }

/-- A scalar register; g0 reads 0 (R186). A number of 16 to 31 in a field of 5 bits names the register of its low 4 bits (DESIGN CHOICE, log
216). -/
def Hearth.gReg (x : Hearth) (n : Nat) : Nat := if n % 16 = 0 then 0 else x.g.get 0 (n % 16)

/-- Write a scalar register; g0 ignores writes (R186). -/
def Hearth.setG (n v : Nat) (x : Hearth) : Hearth := if n % 16 = 0 then x else { x with g := x.g.put 0 (n % 16) v }

/-- The cycle at which a flag was set, none while it is clear. -/
def Hearth.flagAt (x : Hearth) (e : Nat) : Option Nat := let v := x.flags.get 0 e; if v = 0 then none else some (v - 1)

def Hearth.clearFlag (e : Nat) (x : Hearth) : Hearth := { x with flags := x.flags.put 0 e 0 }

/-- A flag is set at a cycle; a flag already set counts an event overrun (R202). -/
def State.setFlag (h e cc : Nat) (s : State) : State :=
  match (s.hearth h).flagAt e with
  | some _ => s.bump 0x3404 0 5 1
  | none => s.modHearth h fun x => { x with flags := x.flags.put 0 e (cc + 1) }

/-- Write rows from `row` onward. -/
def State.writeRows (h : Nat) : Nat → List (List VCell) → State → State
  | _, [], s => s
  | row, c :: cs, s => (s.writeRow h row c).writeRows h (row + 1) cs

/-- Read `n` rows from `row` onward in one slot. -/
def State.rowsRead (who : ReadBy) (h cc : Nat) : Nat → Nat → State → List (List VCell) × State
  | _, 0, s => ([], s)
  | row, n + 1, s =>
    let (c, s) := s.rowRead who h row cc
    let (cs, s) := s.rowsRead who h cc (row + 1) n
    (c :: cs, s)

/-- An engine reads `n` rows from `row` onward in one slot. -/
def State.readRows (h cc row n : Nat) (s : State) : List VCell × State :=
  let (l, s) := s.rowsRead .engine h cc row n
  (l.flatten, s)

/-! ### Flue port: converting a send (R254) -/

/-- One F16 lane of a FMT 1 send: sat32(rne(x × 2^s)); the Bools tell a poisoned lane and a saturation. -/
def flueFix (shift : Int) (c : VCell) : Int × Bool × Bool :=
  if f16IsNan c.bits then (0, true, false)
  else
    let p := pow2 shift
    let v := divRne (f16Units c.bits * p.1) (2 ^ 24 * p.2)
    let w := clampInt (-(2 ^ 31 - 1)) (2 ^ 31 - 1) v
    (w, c.poison, decide (w ≠ v))

/-- Two 16-bit lanes as one I32. -/
def i32Of (lo hi : VCell) : Int := toSigned 32 (lo.bits.toNat + 65536 * hi.bits.toNat)

def pairUp : List VCell → List (Int × Bool)
  | a :: b :: cs => (i32Of a b, a.poison || b.poison) :: pairUp cs
  | _ => []

/-- Cut a list into pieces of `n`. -/
def chunksOf {α : Type} (n : Nat) : Nat → List α → List (List α)
  | 0, _ => []
  | k + 1, l => l.take n :: chunksOf n k (l.drop n)

/-- The tag entry of the flue tree image (R249, Table 10-4), 32 bytes. -/
def State.flueEntry (s : State) (tag : Nat) : List Byte := slice (64 + 32 * tag) 32 (s.blob 0x3408 0)

def State.flueShift (s : State) (tag : Nat) : Int := toSigned 8 (leAt (s.flueEntry tag) 2 1)

def State.tagContributors (s : State) (tag : Nat) : Nat := leAt (s.flueEntry tag) 8 16

/-! ### Latch loads (R58, R195) -/

def State.site (s : State) (n : Nat) : Site := s.latches.get Site.fresh n

def State.setSite (n : Nat) (x : Site) (s : State) : State := { s with latches := s.latches.put Site.fresh n x }

/-- The latch of one number takes a segment. -/
def Latch.fill (seq : Nat) (elems : List (BitVec 4)) (scale : Nat) (l : Latch) : Latch :=
  if l.seq = seq then { l with elems := elems, scale := scale } else l

/-- One segment of a latch load is read from half `half` of a register, its scale word from lane `lane` of another. A
poisoned element or scale lane makes the segment invalid (R51, R222). -/
def State.loadSegment (h : Nat) (sites : List Nat) (seq reg half scaleReg lane : Nat) (s : State) : State :=
  let x := s.hearth h
  let cells := (List.range 256).map fun l => x.lane reg (256 * half + l)
  let elems := cells.flatMap fun c => (List.range 4).map fun i => BitVec.ofNat 4 (c.bits.toNat / 16 ^ i)
  let w := x.lane scaleReg lane
  let word := if w.poison || cells.any (·.poison) then w.bits.toNat / 256 * 256 + 255 else w.bits.toNat
  sites.foldl (fun s n =>
    let y := s.site n
    s.setSite n { y with latchA := y.latchA.map (Latch.fill seq elems word), latchB := y.latchB.map (Latch.fill seq elems word) }) s

end Sys2Proof.Machine
end

