-- ==== Sys2Proof/Machine/Shadow.lean ====
section
/-! DEFINITION. Machine/Shadow.lean: comparing the results of twins, and the end of a shadow run (15_twins_topology.md R370, R371). -/

namespace Sys2Proof.Machine

/-! ### Comparing two results (R371) -/

/-- A B4 vector: elements first, then one scale byte to 16 elements (R39). -/
def b4Blocks (b : List Byte) : List (List Int × Nat) :=
  let n := b.length / 9
  (List.range n).map fun j =>
    ((slice (8 * j) 8 b).flatMap fun x => [intElem (x.toNat % 16), intElem (x.toNat / 16)], (b.getD (8 * n + j) 0).toNat)

/-- An element of B8, two's complement in 8 bits, −128 read as −127 (R40). -/
def byteElem (x : Byte) : Int := max (-127) (toSigned 8 x.toNat)

/-- A B8 vector: elements first, then one scale byte to 32 elements (R40). -/
def b8Blocks (b : List Byte) : List (List Int × Nat) :=
  let n := b.length / 33
  (List.range n).map fun j => ((slice (32 * j) 32 b).map byteElem, (b.getD (32 * n + j) 0).toNat)

/-- The blocks of an ACT payload. -/
def actBlocks (slot : Nat) (b : List Byte) : List (List Int × Nat) := if Config.actB8 slot then b8Blocks b else b4Blocks b

/-- Mismatched elements of two blocks; all of them where a scale is 0xFF or the scales are more than one step apart. -/
def blockMismatch (tol : Nat) (a b : List Int × Nat) : Nat :=
  let d : Int := (a.2 : Int) - (b.2 : Int)
  if a.2 = 255 ∨ b.2 = 255 ∨ 1 < d.natAbs then a.1.length
  else
    let m := max a.2 b.2
    let s (x : List Int × Nat) (i : Nat) : Int := x.1.getD i 0 * 2 ^ (1 - (m - x.2))
    ((List.range a.1.length).filter fun i => decide (2 * tol < (s a i - s b i).natAbs)).length

/-- Mismatched elements of two lists of blocks of a step in parts per million, and whether they disagree, by the tolerances that hold for
it. The element step of either format is its own (R371). -/
def State.compareBlocks (s : State) (step : Nat) (x y : List (List Int × Nat)) : Nat × Bool :=
  let bs := x.zip y
  let bad := (bs.map fun p => blockMismatch (s.forStep step 0x4104 1 0) p.1 p.2).sum
  let total := (bs.map fun p => p.1.1.length).sum
  (if total = 0 then 0 else bad * 1000000 / total, decide (s.forStep step 0x4104 2 0 * total < bad * 1000000))

/-- Two copies of one input slot. -/
def State.compare (s : State) (step slot : Nat) (x y : List Byte) : Nat × Bool := s.compareBlocks step (actBlocks slot x) (actBlocks slot y)

/-- Blocks of the compare data of a step: the ACT payloads of its slots one after another, as `own` gives their order and lengths. -/
def dataBlocks : List (Nat × List Byte) → List Byte → List (List Int × Nat)
  | [], _ => []
  | (slot, mine) :: own, b => actBlocks slot (b.take mine.length) ++ dataBlocks own (b.drop mine.length)

/-- One more comparison of an entry. Once OD 0x4104.03 of the last OD 0x4104.04 disagreed, the admitting part hears of it (R372): by a ROLE
REPORT without an endpoint, the model's own. -/
def State.noteCheck (step i : Nat) (bad : Bool) (s : State) : State :=
  let old := s.checkMarks.get (0, []) i
  let n := old.1 + 1
  let marks := (if bad then old.2 ++ [n] else old.2).filter fun m => decide (n < m + s.forStep step 0x4104 4 0)
  let full := decide (s.forStep step 0x4104 3 0 ≤ marks.length) && bad
  let s := { s with checkMarks := s.checkMarks.put (0, []) i (n, if full then [] else marks) }
  if !full then s
  else if s.isAdmitting then (if s.entryTest.isSome ∨ s.doubtful.contains i = true then s else { s with doubtful := s.doubtful ++ [i] })
  else s.mirrorTo 0x0A (roleBody 5 i 0 (s.od 0x4111 0 0)) s.admitting

/-- A disagreement is a TWIN record (R371). -/
def State.twinMismatch (step ppm : Nat) (s : State) : State :=
  (s.bump 0x4107 0 2 1).raise { kind := .twin, path := pathDie 0 0, detail := ppm, step := step }

/-! ### A shadow run ends (R370) -/

/-- Once the run has ended and the primary's compare data are here, they are compared and the check is over. At a TOKEN entry the
compare data are the hidden states that come with them. -/
def State.settleShadow (s : State) : State :=
  match s.shadow with
  | none => s
  | some x => match x.ended, x.theirs with
    | true, some (theirs, hidden) =>
      let token := (s.ownEntry.map Entry.token).getD false
      let own := x.out.eraseDups
      let (ppm, bad) := if token then s.compareBlocks x.step (b4Blocks theirs) (b4Blocks hidden)
        else s.compareBlocks x.step (dataBlocks own theirs) (dataBlocks own (own.flatMap (·.2)))
      let s := ({ s with shadow := none }.bump 0x4107 0 0 1).noteCheck x.step (s.ownIndex.getD 0xFFFF) bad
      if bad then s.twinMismatch x.step ppm else s
    | _, _ => s

/-- The last hearth of a shadow run has halted: its scratch is discarded, its compare data kept. -/
def State.shadowHalts (step : Nat) (s : State) : State :=
  let s := s.leaveShadow step
  let ended (x : Shadow) : Shadow := { x with ended := true, pages := [], ctxs := [], lines := [] }
  { s with shadow := s.shadow.map ended }.settleShadow

end Sys2Proof.Machine
end

