-- ==== Sys2Proof/Machine/Deliver.lean ====
section
/-! DEFINITION. Machine/Deliver.lean: sending a step's output and what becomes of a transfer that fails (14 R349, R350;
15 R360, R362, R365). -/

namespace Sys2Proof.Machine

/-! ### Failure of a transfer (R349) -/

/-- The unit path of a port's die, or of the receive pool. -/
def pathPort (p : Nat) : Nat := pathUnit (3 + p / 4) p 0 0
def pathPool (p : Nat) : Nat := pathUnit (3 + p / 4) 9 0 0

/-- A transfer of a step fails: a DELIVERY record with the endpoint and the NACK reason (0 when none came), and the step
fails. -/
def State.deliveryFailed (step ep reason : Nat) (s : State) : State :=
  let s := (s.bump 0x4202 0 4 1).raise
    { kind := .delivery, path := pathDie 3 0, detail := ep % 65536 * 256 + reason, step := step }
  s.failStep step

/-! ### Where a stage leads (R360, R362) -/

/-- The entries a step is routed by: those of the table before the one in force where its head edge was earlier (R361). A failed
position is not routed to (R375). -/
def State.routing (s : State) (step : Nat) : List Entry :=
  let r := s.stepRec step
  let l := if s.tableOld ≠ [] ∧ r.headEdge < s.tableAt then entriesOf s.tableOld else s.entries
  let serves (e : Entry) (b pos : Nat) : Bool := bit e.service b && !s.declared.contains pos
  l.map fun e => { e with service := flagNat (serves e 0 e.pos0) + 2 * flagNat (serves e 1 e.pos1) }

/-- The endpoints a transfer of a step to `stage` goes to; none in service: empty. -/
def State.stageTargets (s : State) (step stage : Nat) : List Nat :=
  let es := s.routing step
  match es.find? fun e => e.members.contains s.endpoint with
  | none => []
  | some own =>
    if own.mode = 3 ∧ own.pos0 = s.endpoint ∧ stage = own.stage then own.serving.filter (· == own.pos1)
    else
      let lastMain := !(es.any fun e => e.segment == own.segment && e.main && decide (own.stage < e.stage))
      let next := es.find? fun e => e.segment == own.segment + 1 && e.stage == 0
      let e := if stage = 0 ∧ own.main = true ∧ lastMain = true ∧ next.isSome then next
        else es.find? fun e => e.segment == own.segment && e.stage == stage
      (e.map fun e => s.entryTargets (s.stepRec step).gen ((s.entryIndexOf e.pos0).getD 0xFFFF) e).getD []

/-! ### ACT transfers (R335, R336, R365) -/

/-- Room in the retention store of 128 MiB. -/
def State.retentionRoom (s : State) (n : Nat) : Bool :=
  decide ((s.retained.map fun r => r.send.payload.length).sum + n ≤ 134217728)

/-- The step header block as this part sends it: the slip count it knows (Table 14-7). -/
def State.outHeader (s : State) (step : Nat) : Option StepHdr :=
  let r := s.stepRec step
  r.hdr.map fun h => { h with k := BitVec.ofNat 8 r.k }

/-- Send one ACT transfer of a step to some endpoints and keep a copy. -/
def State.sendActTo (h step slot : Nat) (targets : List Nat) (payload : List Byte) (s : State) : Option Nat × State :=
  let r := s.stepRec step
  let (tid, s) := s.send { kind := 1, cls := 1, targets := targets, slot := slot, step := step, gen := r.gen, kvGen := r.kvGen,
                           stepHdr := s.outHeader step, payload := payload, hearth := h + 1 }
  match tid with
  | none => (none, s.deliveryFailed step (targets.headD 0xFFFF) 4)
  | some id =>
    match s.sending.find? fun o => o.hdr.tid.toNat == id with
    | none => (some id, s)
    | some o => (some id, { s with retained := s.retained ++ [{ step := step, left := targets, send := o }] })

/-- The transfers a step's output to a stage makes: one multicast to several parts 0 to 63 of this rack, else one transfer to each. -/
def State.actGroups (s : State) (step stage : Nat) : List (List Nat) :=
  match s.stageTargets step stage with
  | [] => []
  | targets => if targets.all fun t => s.sameRack t && decide (t % 65536 < 64) then [targets] else targets.map fun t => [t]

/-- Send a step's output to a stage: one multicast where its targets are several parts 0 to 63 of this rack, else one
transfer each. Answers the transfer ids. What a shadow run would send is its compare data (R370). -/
def State.sendAct (h step stage slot : Nat) (payload : List Byte) (s : State) : List Nat × State :=
  if s.isShadow step then ([], { s with shadow := s.shadow.map fun x => { x with out := x.out ++ [(slot, payload)] } }) else
  match s.actGroups step stage with
  | [] => ([], s.deliveryFailed step 0xFFFF 4)
  | groups =>
    groups.foldl (fun acc g =>
      let (tid, s) := acc.2.sendActTo h step slot g payload
      (acc.1 ++ tid.toList, s)) ([], s)

/-- Send a kept transfer again under a new transfer id (R366). -/
def State.resendRetained (dests : List Nat) (r : Retained) (s : State) : State :=
  let o := r.send
  let (tid, s) := s.send { kind := 1, cls := 1, targets := dests, slot := o.hdr.slot.toNat, step := r.step, gen := o.hdr.gen.toNat,
                           kvGen := o.hdr.kvGen.toNat, stepHdr := o.stepHdr, payload := o.payload }
  match tid with
  | some _ => s
  | none => (s.bump 0x4202 0 4 1).raise { kind := .delivery, path := pathDie 3 0, detail := dests.headD 0xFFFF % 65536 * 256 + 4, step := r.step }

end Sys2Proof.Machine
end

