-- ==== Sys2Proof/Machine/Mesh.lean ====
section
/-! DEFINITION. Machine/Mesh.lean: the routes of the on-die network (10 R240 to R242), stream and bulk packets on their way to a hearth and
its inbound queue of 64 rows (09 R231, R233; 10 R243 to R246): their order, their credit, and what a sender's local port has room for. -/

namespace Sys2Proof.Machine

/-! ### Routes (R240 to R242) -/

/-- The next router from `r` toward `d`, and the input at which it arrives there. -/
def nextHop (r d : Nat) : Option (Nat × Nat) :=
  let rx := r % 16; let ry := r / 16; let dx := d % 16; let dy := d / 16
  if rx < dx then some (r + 1, 1) else if dx < rx then some (r - 1, 2)
  else if ry < dy then some (r + 16, 3) else if dy < ry then some (r - 16, 4)
  else none

/-- The routers that a packet passes from router `r`, which it has entered at input `inp`, to router `d`, with its input at each. -/
def routeFrom (d : Nat) : Nat → Nat → Nat → List (Nat × Nat)
  | 0, r, inp => [(r, inp)]
  | fuel + 1, r, inp => (r, inp) :: match nextHop r d with
    | none => []
    | some (n, i) => routeFrom d fuel n i

/-- The edge routers of Table 10-1 as starts and ends of a way. -/
def edgeW : Nat := 128
def edgeE : Nat := 129
def edgeN : Nat := 130
def edgeS : Nat := 131

/-- The hearth routers of a packet's way to hearth `d` (R242): along its row, then its column; from an edge router straight in, from the
boundary router of the destination's row or column. Inputs are 0 local, 1 west, 2 east, 3 north, 4 south. -/
def routeTo (start d : Nat) : List (Nat × Nat) :=
  let row := d / 16 * 16
  if start = edgeW then routeFrom d 24 row 1
  else if start = edgeE then routeFrom d 24 (row + 15) 2
  else if start = edgeN then routeFrom d 24 (d % 16) 3
  else if start = edgeS then routeFrom d 24 (112 + d % 16) 4
  else routeFrom d 24 start 0

/-- The hearth routers of a packet's way from hearth `h` to an edge router, in a straight line (R242). -/
def routeOut (h edge : Nat) : List (Nat × Nat) :=
  let line (n : Nat) (at_ : Nat → Nat) (inp : Nat) : List (Nat × Nat) := (List.range n).map fun k => (at_ k, if k = 0 then 0 else inp)
  if edge = edgeW then line (h % 16 + 1) (fun k => h - k) 2
  else if edge = edgeE then line (16 - h % 16) (fun k => h + k) 1
  else if edge = edgeN then line (h / 16 + 1) (fun k => h - 16 * k) 4
  else line (8 - h / 16) (fun k => h + 16 * k) 3

/-- The edge router of a memory-side die: W for M0, E for M1. -/
def stackEdge (die : Nat) : Nat := if die = 0 then edgeW else edgeE

/-- A parity error in a flit is recorded and counted at the router of the way that finds it, the last one where the way is shorter (R241). -/
def State.meshParity (route : List (Nat × Nat)) (f : FlitFault) (step : Nat) (s : State) : State :=
  let r := (route[f.hop.toNat]?).getD (route.getLastD (0, 0))
  (s.bump 0x340A 0 5 1).raiseParity (pathUnit 0 r.1 6 r.2) step f.word.toNat

/-- The first cycle at or after `cc` that is slot `slot` of a frame (R216). -/
def slotFrom (slot cc : Nat) : Nat := cc + (slot + 8 - cc % 8) % 8

/-- A piece of calendar work is a read in the DMA read slot. -/
def Due.isDmaRead : Due → Bool
  | .dmaRead => true
  | _ => false

/-- The DMA engines of a hearth try their next read slot after a cycle. -/
def State.wakeDma (h cc : Nat) (s : State) : State :=
  let x := s.hearth h
  if x.queue0.isEmpty && x.queue1.isEmpty || x.calendar.any (fun n => n.due.isDmaRead) then s
  else s.schedule h (slotFrom 5 (max x.now cc + 1)) .dmaRead

/-- The row of one channel that a hearth may accept next: the first whose source has sent nothing before it on that channel that is still
on its way (R246). A signal is a stream packet, and rows of its source wait behind it. -/
def firstRow (bulk : Bool) : List Nat → List Packet → Option InRow
  | _, [] => none
  | blocked, .signal src _ _ :: l => firstRow bulk (if bulk then blocked else src :: blocked) l
  | blocked, .row r :: l => if r.bulk == bulk && !blocked.contains r.src then some r else firstRow bulk blocked l

/-- The next row a hearth accepts: the stream channel goes before the bulk channel, which takes the 16th turn when it has waited 15 (R244). -/
def Hearth.nextRow (x : Hearth) : Option InRow :=
  let stream := firstRow false [] x.waiting
  let bulk := firstRow true [] x.waiting
  if 15 ≤ x.bulkPassed then bulk.or stream else stream.or bulk

/-- A row is accepted into the inbound queue; the last row of a transfer sets its remote event in a hearth of its step (R231). -/
def State.acceptRow (dest cc : Nat) (r : InRow) (s : State) : State :=
  let s := s.modHearth dest fun x =>
    { x with inbound := x.inbound ++ [{ r with serial := x.serial }], serial := x.serial + 1, waiting := x.waiting.erase (.row r),
             bulkPassed := if r.bulk || (firstRow true [] x.waiting).isNone then 0 else x.bulkPassed + 1 }
  let s := match r.event with
    | some e => if (s.hearth dest).step = r.step then s.setFlag dest e cc else s
    | none => s
  if 1 ≤ r.src ∧ r.src ≤ 128 then s.wakeDma (r.src - 1) cc else s

/-- A hearth accepts rows while its queue of 64 has room; when it is full it withholds credit (R233, R245). -/
def State.acceptRows (dest cc : Nat) : Nat → State → State
  | 0, s => s
  | fuel + 1, s =>
    if 64 ≤ (s.hearth dest).inbound.length then s
    else match (s.hearth dest).nextRow with
      | none => s
      | some r => (s.acceptRow dest cc r).acceptRows dest cc fuel

/-- Rows go to a hearth. -/
def State.sendRows (dest cc : Nat) (rows : List InRow) (s : State) : State :=
  let s := s.modHearth dest fun x => { x with waiting := x.waiting ++ rows.map .row }
  s.acceptRows dest cc (s.hearth dest).waiting.length

/-- Whether the rows a source sent to a hearth have all been accepted into its queue. -/
def Hearth.accepted (x : Hearth) (src : Nat) : Bool := !x.waiting.any fun p => match p with
  | .row r => r.src == src
  | .signal _ _ _ => false

/-- Whether the rows of one transfer of a source have all been accepted. -/
def Hearth.acceptedOf (x : Hearth) (src xfer : Nat) : Bool := !x.waiting.any fun p => match p with
  | .row r => r.src == src && r.xfer == xfer
  | .signal _ _ _ => false

/-- The rows that a hearth's local port holds on one channel, wherever they go; the copies of a row for a set of hearths are one (R245, R248). -/
def State.heldBy (s : State) (h : Nat) (bulk : Bool) : Nat :=
  let of (p : Packet) : Option (Nat × Nat) := match p with
    | .row r => if r.src = h + 1 ∧ r.bulk = bulk then some (r.xfer, r.row) else none
    | .signal _ _ _ => none
  (s.hearths.flatMap fun e => e.2.waiting.filterMap of).eraseDups.length

/-- The destination hearths of a HEARTH or SET descriptor. -/
def State.dmaDests (s : State) (h : Nat) (d : Descriptor) : List Nat :=
  if d.kind = 1 then [d.target] else if d.kind = 2 then s.hearthSet d.target else [h]

/-- Whether a sender's local port has room for `n` more rows of a mesh transfer: it holds 32 stream flits or 16 bulk flits, two rows each
(R233, R245). -/
def State.portRoom (s : State) (h : Nat) (d : Descriptor) (n : Nat) : Bool :=
  (d.kind != 1 && d.kind != 2) || decide (s.heldBy h d.bulk + n ≤ if d.bulk then 32 else 64)

end Sys2Proof.Machine
end

