-- ==== Sys2Proof/Machine/Stack.lean ====
section
/-! DEFINITION. Machine/Stack.lean: the two memory stacks: their map, reads and writes by line, poison and uncorrectable
lines (11 R261 to R264, R521). -/

namespace Sys2Proof.Machine

def readBytes (m : Tab Byte) (addr len : Nat) : List Byte := (List.range len).map fun i => m.get 0 (addr + i)

/-- Read 64 bytes of a line as a buffer row; a block of scale 0xFF that a transfer wrote there keeps its mark (R225). -/
def State.readStackRow (addr step : Nat) (s : State) : List VCell × State :=
  let (bad, s) := s.readLine (addr / 64) step
  let mark := s.stackBad.get false (addr / 64)
  ((cellsOfBytes (readBytes s.stack addr 64) bad).map fun c => { c with bad := mark }, s)

def writeBytes : Nat → List Byte → Tab Byte → Tab Byte
  | _, [], m => m
  | a, b :: bs, m => writeBytes (a + 1) bs (m.put 0 a b)

/-- Write a whole line; poisoned words mark it with a poison pattern, clean ones clear what it was. -/
def State.writeStackRow (addr : Nat) (cells : List VCell) (s : State) : State :=
  { s with stack := writeBytes addr (bytesOfCells cells) s.stack,
           stackLine := s.stackLine.put 0 (addr / 64) (if cells.any (·.poison) then 2 else 0),
           stackBad := s.stackBad.put false (addr / 64) (cells.any (·.bad)) }

/-- Write any bytes: every line covered whole is clean afterwards, a line covered in part keeps what it was. -/
def State.writeStack (addr : Nat) (bs : List Byte) (s : State) : State :=
  let whole (l : Nat) : Bool := decide (addr ≤ 64 * l) && decide (64 * l + 64 ≤ addr + bs.length)
  { s with stack := writeBytes addr bs s.stack, stackLine := s.stackLine.filter fun e => !whole e.1,
           stackBad := s.stackBad.filter fun e => !whole e.1 }

/-- Read any bytes; the Bool tells poison. -/
def State.readStack (addr len step : Nat) (s : State) : List Byte × Bool × State :=
  let first := addr / 64
  let lines := if len = 0 then [] else (List.range ((addr + len - 1) / 64 - first + 1)).map (first + ·)
  let (bad, s) := s.readLines lines step
  (readBytes s.stack addr len, bad, s)

end Sys2Proof.Machine
end

