-- ==== Sys2Proof/Machine/Engines.lean ====
section
/-! DEFINITION. Machine/Engines.lean: the work of a hearth's calendar (09 R216, R217): the DMA engines in their slots (R230 to R234), stoker
fetches, flue sends, and the run of the calendar itself. -/

namespace Sys2Proof.Machine

/-! ### Stoker fetches (R216, R222, R230) -/

/-- Fetch one buffer row in the stoker slot: its bytes, none where a word of it is poisoned (R222). -/
def State.fetchRow (h row cc : Nat) (s : State) : Option (List Byte) × State :=
  let (cells, s) := s.engineRead h row cc
  (if cells.any (·.poison) then none else some (bytesOfCells cells), s)

/-- A step fails at a stoker fetch of a poisoned row (R222): a BUFFER record and R207. -/
def State.failFetch (h row opcode : Nat) (s : State) : State :=
  (s.stokerRaise h .buffer (pathUnit 0 h 3 (row % 16)) row opcode).failStep (s.hearth h).step

/-- The stoker is to fetch the descriptor of a transfer. -/
def State.fetchSoon (h row xfer cc : Nat) (s : State) : State := s.fetchAt h row cc (.fetch row xfer)

/-! ### Attention requests -/

/-- The latency bound of a request by itself (R277), in 1/134,400 ns. -/
def attnBound (d : List Byte) : Nat :=
  let g := leAt d 4 1
  let p := leAt d 5 1
  let rows := g * p
  let keys := leAt d 32 4 + p
  let passes := ceilDiv (rows * keys) 8388608
  let bufRows := rows + ceilDiv rows 8 + (if bit (leAt d 0 1) 0 then 8 * p else 0) + (if bit (leAt d 0 1) 1 then ceilDiv p 16 else 0) + 4 * rows
  300 * 134400 + bufRows * 67200 + passes * (128 * keys * 96 + rows * keys * 175)

/-- A request joins its gang's queue; its bound is that of every request of the gang ahead of it and its own. -/
def State.attnRequest (s : State) (die h step event : Nat) (d : List Byte) : AttnReq :=
  let ahead := s.attnQueue.filter fun r => r.die == die && leAt r.request 1 1 == leAt d 1 1
  let wait := ahead.foldl (fun n r => n + attnBound r.request) 0
  { die := die, hearth := h, step := step, event := event, request := d, bound := wait + attnBound d, started := false,
    run := (s.stepRec step).runs }

/-- The stoker fetches the row of an attention request, which goes to its gang (R203). -/
def State.runAttn (h cc : Nat) (g : Signal) (s : State) : State :=
  match s.fetchRow h g.desc cc with
  | (none, s) => s.failFetch h g.desc 7
  | (some row, s) => { s with attnQueue := s.attnQueue ++ [s.attnRequest (g.target % 2) h (s.hearth h).step g.event row] }

/-! ### DMA descriptors (R231, R234) -/

/-- Row `i` of a descriptor's stack side. -/
def Descriptor.stackRow (d : Descriptor) (i : Nat) : Nat := d.stackAddr + i * (if d.stride = 0 then 64 else d.stride)

/-- What R234 refuses. -/
def State.badDescriptor (s : State) (d : Descriptor) : Bool :=
  let k := d.kind
  let fromBuffer := k != 3
  let toBuffer := decide (k ≤ 3)
  decide (6 ≤ k) || d.reservedSet || d.rows == 0 || decide (2048 < d.rows) ||
  (fromBuffer && decide (32768 < d.src + d.rows)) || (toBuffer && decide (32768 < d.dst + d.rows)) ||
  (k == 1 && decide (128 ≤ d.target)) || ((k == 2 || k == 5) && decide (8 ≤ d.target)) || ((k == 3 || k == 4) && decide (2 ≤ d.target)) ||
  (d.remote && decide (64 ≤ d.event)) ||
  ((k == 3 || k == 4) && (d.stackAddr % 64 != 0 || decide (2 ^ 37 ≤ d.stackAddr) || d.stride % 64 != 0 ||
    !((List.range d.rows).all fun i => s.inDataArea (d.stackRow i) 64)))

/-! ### The queues of the engines (R200, R230) -/

/-- The queue of an engine. -/
def Hearth.engine (x : Hearth) (eng : Bool) : List Transfer := if eng then x.queue1 else x.queue0

def Hearth.setEngine (eng : Bool) (q : List Transfer) (x : Hearth) : Hearth := if eng then { x with queue1 := q } else { x with queue0 := q }

/-- Change a transfer of a hearth, by its order of issue. -/
def State.modTransfer (h xfer : Nat) (f : Transfer → Transfer) (s : State) : State :=
  let g (t : Transfer) : Transfer := if t.seq = xfer then f t else t
  s.modHearth h fun x => { x with queue0 := x.queue0.map g, queue1 := x.queue1.map g }

/-- The transfer of a hearth with an order of issue, and its engine. -/
def Hearth.transfer (x : Hearth) (xfer : Nat) : Option (Bool × Transfer) :=
  match x.queue0.find? fun t => t.seq == xfer with
  | some t => some (false, t)
  | none => (x.queue1.find? fun t => t.seq == xfer).map fun t => (true, t)

/-- A descriptor that R234 refuses: nothing moves, the event is set, a DMA record is written and the step fails. -/
def State.refuseDma (h cc : Nat) (eng : Bool) (t : Transfer) (s : State) : State :=
  let s := (s.setFlag h t.event cc).stokerRaise h .dma (pathUnit 0 h 4 (flagNat eng)) t.row 5
  (s.modHearth h fun x => x.setEngine eng ((x.engine eng).filter fun e => e.seq != t.seq)).failStep (s.hearth h).step

/-- The stoker fetches the descriptor of a transfer; a poisoned one fails the step (R222). -/
def State.runFetch (h cc row xfer : Nat) (s : State) : State :=
  match (s.hearth h).transfer xfer with
  | none => s
  | some (eng, t) =>
    match s.fetchRow h row cc with
    | (none, s) => s.failFetch h row 5
    | (some b, s) =>
      let d := descriptorOf b
      if s.badDescriptor d then s.refuseDma h cc eng t else s.modTransfer h xfer fun t => { t with desc := some d }

/-- The current descriptor of a transfer has moved. A chain goes on with the next row, which the stoker fetches; a row past the buffer is
refused (R215, R234). -/
def State.dmaMoved (h cc : Nat) (eng : Bool) (xfer : Nat) (d : Descriptor) (s : State) : State :=
  let s := s.modTransfer h xfer fun t => { t with ran := t.ran ++ [d], running := false, pos := 0, data := [], parity := [] }
  if !d.chain then s.modTransfer h xfer fun t => { t with moved := true }
  else match (s.hearth h).transfer xfer with
    | none => s
    | some (_, t) =>
      let s := s.modTransfer h xfer fun t => { t with row := t.row + 1, desc := none }
      if 32767 ≤ t.row then s.refuseDma h cc eng t else s.fetchSoon h (t.row + 1) xfer cc

/-! ### Rows of a transfer (R230, R232, R233) -/

/-- The bank that a write of the DMA write slot goes to. -/
def Due.writeBank : Due → Option Nat
  | .inbound r => some (r.row % 16)
  | .copyRow row _ _ => some (row % 16)
  | _ => none

/-- The first DMA write slot at or after a cycle that no row of the bank uses. -/
def Hearth.copySlot (x : Hearth) (row cc : Nat) : Nat :=
  let used (c : Nat) : Bool := x.calendar.any fun n => n.cc == c && n.due.writeBank == some (row % 16)
  (((List.range (x.calendar.length + 1)).map fun k => slotFrom 6 cc + 8 * k).find? fun c => !used c).getD (slotFrom 6 cc)

/-- A COPY row is written in a free DMA write slot of its bank. -/
def Hearth.copyAt (cc row : Nat) (cells : List VCell) (xfer : Nat) (x : Hearth) : Hearth := x.at (x.copySlot row cc) (.copyRow row cells xfer)

/-- Rows of a mesh transfer as its destinations take them; `last` marks the transfer's last row. -/
def meshRows (h xfer step : Nat) (d : Descriptor) (pos : Nat) (rows : List (List VCell)) : List InRow :=
  rows.zipIdx.map fun r =>
    { row := d.dst + pos + r.2, cells := r.1, src := h + 1, xfer := xfer, bulk := d.bulk,
      event := if d.remote && pos + r.2 + 1 == d.rows then some (d.event % 64) else none, step := step, serial := 0, start := h,
      flit := (pos + r.2) / 2 }

/-- A row on its way to an edge router: with a parity error in its flit it is poisoned; the flit is recorded once, with the first of its rows
(R241). -/
def State.edgeRow (h edge : Nat) (t : Transfer) (i : Nat) (cells : List VCell) (s : State) : List VCell × State :=
  match t.parity.find? fun e => e.1 == i / 2 with
  | none => (cells, s)
  | some e => (cells.map fun c => { c with poison := true }, if i % 2 = 0 then s.meshParity (routeOut h edge) e.2 (s.hearth h).step else s)

/-- Rows read in one DMA read slot go where their descriptor sends them: COPY rows to the next frames' write slots, mesh rows to their
destinations, STACK_WR rows to the stack, FABRIC rows to what leaves at the end as one ACT transfer. -/
def State.dmaDeliver (h cc : Nat) (t : Transfer) (d : Descriptor) (rows : List (List VCell)) (s : State) : State :=
  let step := (s.hearth h).step
  if d.kind = 0 then
    rows.zipIdx.foldl (fun s r => s.modHearth h (Hearth.copyAt (8 * (cc / 8 + 1)) (d.dst + t.pos + r.2) r.1 t.seq)) s
  else if d.kind = 4 then
    let s := rows.zipIdx.foldl (fun s r =>
      let (cells, s) := s.edgeRow h (stackEdge d.target) t (t.pos + r.2) r.1
      s.writeStackRow (d.target * 2 ^ 37 + d.stackRow (t.pos + r.2)) cells) s
    s.modHearth h fun x => { x with landed := max x.landed cc }
  else if d.kind = 5 then s.modTransfer h t.seq fun t => { t with data := t.data ++ rows.flatMap bytesOfCells }
  else (s.dmaDests h d).foldl (fun s g => s.sendRows g cc (meshRows h t.seq step d t.pos rows)) s

/-- The last row of a FABRIC transfer has been read: it leaves. -/
def State.dmaLeave (h xfer : Nat) (d : Descriptor) (s : State) : State :=
  if d.kind ≠ 5 then s
  else match (s.hearth h).transfer xfer with
    | none => s
    | some (_, t) =>
      let (tids, s) := s.sendAct h (s.hearth h).step d.stage d.slot t.data
      s.modTransfer h xfer fun t => { t with tids := t.tids ++ tids }

/-- One DMA read slot of an engine: up to 16 rows. A FABRIC read of a poisoned word or a block of scale 0xFF fails the step (R225). -/
def State.dmaChunk (h cc : Nat) (eng : Bool) (t : Transfer) (d : Descriptor) (s : State) : State :=
  let n := min 16 (d.rows - t.pos)
  let (rows, s) := s.rowsRead (if d.kind = 5 then .sending else .engine) h cc (d.src + t.pos) n
  let hit := d.kind == 5 && (List.range n).any fun i => t.parity.any fun e => e.1 == (t.pos + i) / 2
  match if d.kind = 5 then rows.zipIdx.find? fun r => r.1.any fun c => c.poison || c.bad else none with
  | some r =>
    (s.stokerRaise h (if r.1.any (·.poison) then .buffer else .format) (pathUnit 0 h 4 (flagNat eng)) (d.src + t.pos + r.2) 5).failStep
      (s.hearth h).step
  | none =>
    if hit then
      -- a word that a router delivers poisoned is not sent (R225)
      (rows.zipIdx.foldl (fun s r => (s.edgeRow h (if d.target < 4 then edgeN else edgeS) t (t.pos + r.2) r.1).2) s).failStep (s.hearth h).step
    else
    let s := (s.dmaDeliver h cc t d rows).modTransfer h t.seq fun t => { t with pos := t.pos + n }
    if d.rows ≤ t.pos + n then (s.dmaLeave h t.seq d).dmaMoved h cc eng t.seq d else s

/-- The transfer that an engine reads source rows for. -/
def Hearth.reading (x : Hearth) (eng : Bool) : Option (Transfer × Descriptor) :=
  match x.engine eng with
  | [] => none
  | t :: _ => match t.desc with
    | some d => if t.running && decide (t.pos < d.rows) then some (t, d) else none
    | none => none

/-- What an engine would read in this slot: nothing where its local port has no room (R233). -/
def State.dmaWants (s : State) (h : Nat) (eng : Bool) : Option (Transfer × Descriptor) :=
  ((s.hearth h).reading eng).filter fun e => s.portRoom h e.2 (min 16 (e.2.rows - e.1.pos))

/-- A read slot that an engine cannot use for want of credit is counted by channel (R260). -/
def State.countStall (h : Nat) (eng : Bool) (s : State) : State :=
  match (s.hearth h).reading eng, s.dmaWants h eng with
  | some e, none => s.bump 0x340A 0 (if e.2.bulk then 8 else 7) 1
  | _, _ => s

/-- The DMA read slot of frame f: engine 0 owns even frames, engine 1 odd ones, and an owner with nothing to read leaves it to the other
(R230). -/
def State.runDmaSlot (h cc : Nat) (s : State) : State :=
  let own := cc / 8 % 2 == 1
  let s := (s.countStall h false).countStall h true
  let s := match s.dmaWants h own, s.dmaWants h !own with
    | some e, _ => s.dmaChunk h cc own e.1 e.2
    | none, some e => s.dmaChunk h cc (!own) e.1 e.2
    | none, none => s
  if (s.dmaWants h false).isSome || (s.dmaWants h true).isSome then s.wakeDma h cc else s

/-! ### Flue sends (R254) -/

/-- A unit read in the flue-out slot becomes flits at the local input of the hearth's router, behind which the send queue of 64 KiB stands
(R241, R254). A poisoned word or a block of scale 0xFF fails the step (R225). A unit whose tag has flits of another step here is late (R258). -/
def State.flueUnit (h cc tag unit addr total : Nat) (f16 : Bool) (s : State) : State :=
  let x := s.hearth h
  let (rows, s) := s.rowsRead .sending h cc addr 16
  match rows.zipIdx.find? fun r => r.1.any fun c => c.poison || c.bad with
  | some r =>
    (s.raise { kind := if r.1.any (·.poison) then .buffer else .format, path := pathUnit 0 h 5 0, detail := addr + r.2,
               step := x.step, pc := x.pc, opcode := 3 }).failStep x.step
  | none =>
    let cells := rows.flatten
    let fixed := cells.map (flueFix (s.flueShift tag))
    let lanes : List (Int × Bool) := if f16 then fixed.map fun v => (v.1, v.2.1) else pairUp cells
    let s := if f16 then s.bump 0x340A 0 4 (fixed.filter fun v => v.2.2).length else s
    let pieces := chunksOf 32 (if f16 then 16 else 8) lanes
    let flits : List Held := pieces.zipIdx.map fun p =>
      let f : Flit := { tag := tag, unit := unit, index := p.2, step := x.step % 256, lanes := p.1, count := 1, total := total }
      { router := h, input := 0, flit := f }
    let here := s.flue.flits.filter fun f => f.router == h
    if here.any fun f => f.flit.tag == tag && f.flit.step != x.step % 256 then s.bump 0x340A 0 2 flits.length
    else if 32 + 512 < (here.filter fun f => f.input == 0).length + flits.length then s.stokerFault h .schedule cc 3
    else { s with flue := { s.flue with flits := s.flue.flits ++ flits } }

/-! ### Running the calendar (R216, R217) -/

/-- An inbound row is written: the fences that wait for it, here and at its sender, see when (R236). -/
def State.landRow (h cc : Nat) (r : InRow) (s : State) : State :=
  let s := (s.writeRow h r.row r.cells).modHearth h fun x =>
    { x with fence := x.fence.map fun g => if r.serial < g.rows then { g with landed := max g.landed cc } else g }
  if 1 ≤ r.src ∧ r.src ≤ 128 then s.modHearth (r.src - 1) fun x => { x with landed := if x.step = r.step then max x.landed cc else x.landed } else s

/-- A merged unit is written: its contributors' fences see when. -/
def State.landUnit (h cc tag addr : Nat) (rows : List (List VCell)) (s : State) : State :=
  let c := s.tagContributors tag
  ((List.range 128).filter (bit c)).foldl (fun s g => s.modHearth g fun x => if x.sent.contains tag then { x with landed := max x.landed cc } else x)
    (s.writeRows h addr rows)

/-- Do one piece of calendar work of an instruction of order `seq`. What a load has read is due with the order of the load (R193). -/
def State.runDue (h cc seq : Nat) (d : Due) (s : State) : State :=
  match d with
  | .vreg w => s.modHearth h (Hearth.writeV w)
  | .greg g v => s.modHearth h (Hearth.setG g v)
  | .load vd addr rows done =>
    let (cells, s) := s.readRows h cc addr rows
    s.modHearth h fun x => { x with calendar := insertSlot { cc := done, seq := seq, due := .vreg { reg := vd, first := 0, cells := cells } } x.calendar }
  | .store addr rows => s.writeRows h addr rows
  | .accRow row cells _ => s.writeRow h row cells
  | .flueOut tag unit addr total f16 => s.flueUnit h cc tag unit addr total f16
  | .flueIn tag addr rows => s.landUnit h cc tag addr rows
  | .setFlag e => s.setFlag h e cc
  | .dmaRead => s.runDmaSlot h cc
  | .inbound r => s.landRow h cc r
  | .copyRow row cells xfer => (s.writeRow h row cells).modTransfer h xfer fun t => { t with wrote := max t.wrote cc }
  | .fetch row xfer => s.runFetch h cc row xfer
  | .attn g => s.runAttn h cc g
  | .writeBack key => s.writeBack key
  | .repair row w => s.repair h row w
  | .latch sites seq reg half scaleReg lane => s.loadSegment h sites seq reg half scaleReg lane

/-- The work of the engines that a halt waits for beside the DMA queues (R205): flue sends read, windows, VE results. -/
def Due.engineWork : Due → Bool
  | .vreg _ | .greg _ _ | .load _ _ _ _ | .store _ _ | .accRow _ _ _ | .flueOut _ _ _ _ _ => true
  | _ => false

/-- Run the calendar of a hearth up to cycle `cc`, at most `fuel` pieces of work. -/
def State.runTo (h cc : Nat) : Nat → State → State
  | 0, s => s
  | fuel + 1, s =>
    match (s.hearth h).calendar with
    | [] => s
    | n :: rest =>
      if n.cc ≤ cc then
        ((s.modHearth h fun x => { x with calendar := rest, now := max x.now n.cc, busy := if n.due.engineWork then max x.busy n.cc else x.busy }).runDue
          h n.cc n.seq n.due).runTo h cc fuel
      else s

/-- Rows that an engine's running descriptor has still to read. -/
def Hearth.rowsLeft (x : Hearth) (eng : Bool) : Nat := match x.reading eng with
  | some e => e.2.rows - e.1.pos
  | none => 0

/-- Enough for the calendar and what it enters: a load enters its result, a DMA read slot the next one and at most one row for each it reads. -/
def Hearth.workLeft (x : Hearth) : Nat := 3 * (x.calendar.length + x.rowsLeft false + x.rowsLeft true) + 8

/-- Bring a hearth's engines to a cycle. -/
def State.advance (h cc : Nat) (s : State) : State :=
  let s := s.runTo h cc (s.hearth h).workLeft
  s.modHearth h fun x => { x with now := max x.now cc }

/-- The rows that a hearth has in its write slots are written: the hearth's frames go on after a halt (R216). -/
def State.settleRows (h : Nat) (s : State) : State :=
  (s.hearth h).calendar.foldl (fun s n => match n.due with
    | .inbound r => s.landRow h n.cc r
    | .copyRow row cells _ => s.writeRow h row cells
    | .flueIn _ addr rows => s.writeRows h addr rows
    | .writeBack key => s.writeBack key
    | .repair row w => s.repair h row w
    | _ => s) s

end Sys2Proof.Machine
end

