-- ==== Sys2Proof/Machine/Issue.lean ====
section
/-! DEFINITION. Machine/Issue.lean: issuing one stoker instruction (R191 to R193, R207, R223): the cycle it issues at, the
checks that stop it, and moving to the next word. -/

namespace Sys2Proof.Machine

/-- A stoker fault of kind SCHEDULE at cycle `cc` (Table 08-14; detail cc since launch). -/
def State.scheduleFault (h cc opcode : Nat) (s : State) : State := s.stokerFault h .schedule cc opcode

/-- A residue mismatch (R462, R463, R465): a RESIDUE record, and the unit's log of distinct steps. -/
def State.raiseResidue (path step pc opcode : Nat) (u : Upset) (s : State) : State :=
  let s := s.raise { kind := .residue, path := path, detail := u.lane.toNat * 256 + u.expected.toNat * 16 + u.found.toNat,
                     step := step, pc := pc, opcode := opcode }
  { s with residueLog := s.residueLog.put [] path (s.residueLog.get [] path ++ [(step, s.now)]) }

/-- The cycle at which the stoker issues the next instruction with this DELTA (R192). -/
def Hearth.issueCycle (x : Hearth) (delta : Nat) : Nat := if x.first then x.last else x.last + delta

/-- Whether the stoker issues at a cycle: it runs, holds no DRV (R454), and no freeze has begun (R223). -/
def Hearth.issues (x : Hearth) (cc : Nat) : Bool :=
  x.phase == .running && x.held.isNone && (match x.freeze with | none => true | some f => decide (cc < f.start))

/-- Start an instruction: none when the stoker does not issue it (it is stopped, held, or the word or DELTA faults), else
its cycle, with the engines brought to it. -/
def State.begin (i : IssueAt) (low opcode : Nat) (s : State) : Option Nat × State :=
  let h := i.h.toNat
  let t := (s.hearth h).issueCycle i.delta.toNat
  if !(s.hearth h).issues t then (none, s)
  else
    let s := s.advance h t
    let x := s.hearth h
    if !x.issues t then (none, s)
    else
      let s := if i.fetch == .corrected then s.raise { kind := .corrected, path := pathUnit 0 h 0 0, detail := 2 } else s
      if i.fetch == .uncorrectable then (none, s.stokerFault h .imem x.pc opcode)
      else if i.delta == 0 && !x.first then (none, s.stokerFault h .illegal low opcode)
      else (some t, s.modHearth h fun x => { x with last := t, first := false })

/-- The word after an instruction that goes on. -/
def State.toNext (h : Nat) (s : State) : State := s.modHearth h fun x => { x with pc := x.pc + 1 }

/-- Issue one instruction: `go` does its work at its cycle. -/
def State.issue (i : IssueAt) (low opcode : Nat) (go : Nat → State → State) (s : State) : State :=
  match s.begin i low opcode with
  | (none, s) => s
  | (some t, s) =>
    let s := go t s
    if (s.hearth i.h.toNat).phase == .faulted then s else s.toNext i.h.toNat

/-- Cells for lanes `first` onward of a register. -/
def vw (reg first : Nat) (cells : List VCell) : VWrite := { reg := reg, first := first, cells := cells }

/-- Whether a width (0 I4, 1 I8, 2 I16, 3 F16) is listed for an operation. -/
inductive Widths where
  | any
  | f16
  | narrow
  | ignored
deriving DecidableEq, Repr

def Widths.allows : Widths → Nat → Bool
  | .any, _ => true
  | .f16, w => w == 3
  | .narrow, w => decide (w < 2)
  | .ignored, _ => true

/-- Issue a VEC instruction: a width not listed for its operation is a stoker fault of kind ILLEGAL (R198). -/
def State.issueVec (i : IssueAt) (f : VecFields) (vop : Nat) (ws : Widths) (go : Nat → State → State) (s : State) : State :=
  s.issue i (vecLow f) (128 + vop) (fun t s =>
    if ws.allows f.w.toNat then go t s else s.stokerFault i.h.toNat .illegal (vecLow f) (128 + vop)) 

/-- Poison the lane group of a residue mismatch in result lanes (R463). -/
def poisonGroup (first lane : Nat) (cells : List VCell) : List VCell :=
  cells.zipIdx.map fun c => if (first + c.2) / 8 = lane / 8 then { c.1 with poison := true } else c.1

/-- A VE result falls due: entered at issue + latency, poisoned and recorded where its residue mismatches (R462). -/
def State.result (i : IssueAt) (f : VecFields) (vop t lat : Nat) (w : VWrite) (s : State) : State :=
  let h := i.h.toNat
  match f.upset with
  | some u =>
    if u.expected = u.found then s.schedule h (t + lat) (.vreg w)
    else
      let x := s.hearth h
      (s.schedule h (t + lat) (.vreg { w with cells := poisonGroup w.first u.lane.toNat w.cells })).raiseResidue
        (pathUnit 0 h 1 (u.lane.toNat / 8)) x.step x.pc (128 + vop) u
  | none => s.schedule h (t + lat) (.vreg w)

end Sys2Proof.Machine
end

