-- ==== Sys2Proof/Machine/Judge.lean ====
section
/-! DEFINITION. Machine/Judge.lean: judging an access to an object (18 R427, Table 18-1), the result word (R428), values of
numbers and records (R429, R430), and the frame every command with a requester runs in. -/

namespace Sys2Proof.Machine

/-! ### Result words (R428) -/

def codeAccess : Nat := 1
def codeIndex : Nat := 2
def codeLength : Nat := 3
def codeGated : Nat := 4
def codeState : Nat := 5
def codeBusy : Nat := 6
def codeRange : Nat := 7
def codeFormat : Nat := 8
def codeResource : Nat := 9
/-- STATE with a reason of Table 18-3. -/
def stateReason (r : Nat) : Nat := codeState + 256 * r
def onlyCopy : Nat := stateReason 1
def notAdmitting : Nat := stateReason 2
def islandLostReason : Nat := stateReason 3
def mainDown : Nat := stateReason 4
def linkReason : Nat := stateReason 5

/-! ### Requests -/

/-- A request for an object (R427). `room` is the length a read offers, `size` the length of the value that a write gives. -/
structure Req where
  rq : Requester
  op : AccessOp
  idx : Nat
  sub : Nat
  offset : Nat
  room : Nat
  data : List Byte
  size : Nat := data.length
deriving DecidableEq, Repr

def rqNo : Requester → Nat
  | .hostA => 0
  | .hostB => 1
  | .sideBand => 2
  | .firmware => 3

/-- Whether a requester is the controlling host (OD 0x1100.01). -/
def State.controls (s : State) (rq : Requester) : Bool := decide (rqNo rq < 2) && s.od 0x1100 1 0 == rqNo rq

/-- Whether a requester holds a right listed for the object (R9). -/
def State.mayWrite (s : State) (rq : Requester) (r : OdRow) : Bool :=
  match rq with
  | .sideBand => r.rightS
  | .firmware => r.rightF
  | _ => if s.controls rq then r.rightH else r.rightO

/-- The state of the main side (Table 17-5). -/
def State.mainState (s : State) : Nat := s.od 0x1300 3 0

def State.mainUp (s : State) : Bool := s.mainState == 2

/-- Byte length of a number or record. -/
def OdType.size : OdType → Nat
  | .num _ ws => ws.sum
  | .bytes n _ => n

def OdType.isRecord : OdType → Bool
  | .num r _ => r
  | .bytes _ _ => false

/-- Row 2 of Table 18-1. -/
def codeSuits (op : AccessOp) (c : OdCode) : Bool :=
  match op, c with
  | .read, .wo => false
  | .read, _ => true
  | .write, .rw | .write, .rwb | .write, .wo => true
  | .write, _ => false
  | .command, .cmd => true
  | .command, _ => false

/-- Row 4 of Table 18-1 (R429 to R431). -/
def lengthSuits (q : Req) (r : OdRow) (present : Nat) : Bool :=
  let isRead := q.op == .read
  match r.type with
  | .num true _ => if isRead then (if r.code == .cmd then decide (q.offset ≤ 4) else decide (q.offset ≤ r.type.size))
      else q.offset == 0 && q.size == r.type.size
  | .num false _ =>
    if isRead then (if r.code == .cmd then decide (q.offset ≤ 4) else q.offset == 0 && decide (r.type.size ≤ q.room))
    else q.offset == 0 && q.size == r.type.size
  | .bytes n fixed => if isRead then (if r.code == .cmd then decide (q.offset ≤ 4) else decide (q.offset ≤ present))
      else if fixed then q.offset == 0 && q.size == n else q.offset == 0 && decide (q.size ≤ n)

/-- Whether an access is refused by a clear enable bit (R522); the steep abort is served. -/
def State.gated (s : State) (q : Req) (r : OdRow) : Bool :=
  match r.gate with
  | none => false
  | some b => q.op != .read && !s.enableSet b && !(q.idx == 0x5020 && q.data == [4])

/-- The objects the island answers whatever the main side does (Table 17-8), among them its own. -/
def islandServes (idx sub : Nat) : Bool :=
  (0x1000 ≤ idx && idx ≤ 0x1005) || (0x1300 ≤ idx && idx ≤ 0x1314) || (idx == 0x1100 && sub == 3) || idx == 0x5010 || 0x7000 ≤ idx

/-- Whether a segmented write of an object is open in some session (R421, row 7 of Table 18-1). -/
def State.segmentOpen (s : State) (idx sub : Nat) : Bool :=
  s.conns.any fun c => (c.2.session.map fun x => x.segments.any fun g => g.idx == idx && g.sub == sub).getD false

/-- The common part of row 6 of Table 18-1: the admitting part's objects, N writes while the island is LOST (R412), and a
side-band request for a main-side object while the main side is not UP (R424). -/
def State.commonState (s : State) (q : Req) (r : OdRow) : Nat :=
  if r.admitting && q.op != .read && !s.isAdmitting then notAdmitting
  else if s.islandLost && q.rq != .sideBand && ((q.op == .write && r.stored) || (q.op != .read && 0x1300 ≤ q.idx && islandServes q.idx q.sub)) then
    islandLostReason
  else if q.rq == .sideBand && !s.mainUp && !islandServes q.idx q.sub && (!r.stored || q.op == .command) then mainDown
  else 0

/-- Rows 1 to 7 of Table 18-1 as far as they are the same for every object: 0, or the result of the first that fails.
`present` is the length of a byte string. -/
def State.judge (s : State) (q : Req) (present : Nat) : Nat :=
  match odRow? q.idx q.sub with
  | none => if q.sub = 0 ∧ odHighest q.idx ≠ 0 then (if q.op = .read then 0 else codeAccess) else codeIndex
  | some r =>
    if !codeSuits q.op r.code then codeAccess
    else if q.op != .read && !s.mayWrite q.rq r then codeAccess
    else if !lengthSuits q r present then codeLength
    else if s.gated q r then codeGated
    else
      let c := s.commonState q r
      if c ≠ 0 then c
      else if q.op == .command && s.od q.idx q.sub cmdState == 1 && !(q.idx == 0x5020 && q.data == [4]) then codeBusy
      else if q.op == .write && s.segmentOpen q.idx q.sub then codeBusy
      else 0

/-! ### Values -/

/-- The fields of a record or number from its bytes (R430, R13). -/
def fieldsOf : List Nat → List Byte → List Nat
  | [], _ => []
  | w :: ws, b => leNat (b.take w) :: fieldsOf ws (b.drop w)

/-- Set fields `i`, `i + 1`, … of an object. -/
def State.putFields (inst idx sub : Nat) : Nat → List Nat → State → State
  | _, [], s => s
  | i, v :: vs, s => (s.setOdAt inst idx sub i v).putFields inst idx sub (i + 1) vs

/-- Store the bytes of a number or record. -/
def State.putValue (inst idx sub : Nat) (data : List Byte) (s : State) : State :=
  s.putFields inst idx sub 0 (fieldsOf (odWidths idx sub) data)

/-! ### Running an access -/

/-- What the last access of each requester answered (R428); the model keeps it beside the mailbox and the responses. -/
def State.answer (rq : Requester) (code : Nat) (s : State) : State := { s with results := s.results.put 0 (rqNo rq) code }

/-- Note an accepted command: value and result; done unless its action has said that it runs (R435). -/
def State.noteCommand (idx sub : Nat) (data : List Byte) (s : State) : State :=
  let s := (s.setOd idx sub cmdValue (leNat (data.take 1))).setOd idx sub cmdResult 0
  if s.od idx sub cmdState = 1 then s else s.setOd idx sub cmdState 2

/-- An action that ran ends: done or failed, with its result word (R435). -/
def State.endCommand (idx sub result : Nat) (s : State) : State :=
  (s.setOd idx sub cmdState (if result = 0 then 2 else 3)).setOd idx sub cmdResult result

/-- A write or command by its own row: judged, then `apply` tells its result, which is 0 where it was performed. A refusal
leaves nothing but its result (R10); `apply` keeps to that, but for the status object of an image. -/
def State.access (rq : Requester) (op : AccessOp) (idx sub : Nat) (data : List Byte) (apply : State → Nat × State) (s : State) : State :=
  let c := s.judge { rq := rq, op := op, idx := idx, sub := sub, offset := 0, room := 0, data := data } 0
  if c ≠ 0 then s.answer rq c
  else
    let (c, s) := apply s
    if c ≠ 0 then s.answer rq c
    else (if op = .command then s.noteCommand idx sub data else s).answer rq 0

/-! ### Responses of the island (17 R419 to R422) -/

/-- The connection of a NOA message; the place behind the four holds what an island kept in its ROM takes without a session (21 R494). -/
def connOf (m : NoaMsg) : Nat := (m.session.map BitVec.toNat).getD 4

def AccessOp.number : AccessOp → Nat
  | .read => 1
  | .write => 2
  | .command => 3

/-- A NOA response (Table 17-6). -/
def noaResponse (m : NoaMsg) (code total : Nat) (data : List Byte) : List Byte :=
  let more := m.op == .read && decide (m.offset.toNat + data.length < total)
  leBytes 1 1 ++ leBytes 1 2 ++ leBytes 1 (AccessOp.number m.op) ++ leBytes 1 (flagNat more) ++ beBytes 4 m.seq.toNat ++ beBytes 2 m.index.toNat ++
    [m.sub] ++ leBytes 1 0 ++ beBytes 4 m.offset.toNat ++ beBytes 4 data.length ++ beBytes 4 total ++ beBytes 2 code ++ leBytes 6 0 ++ data

/-- A response leaves; to the fabric by MGMT_FRAME. -/
def State.respondOnce (m : NoaMsg) (code total : Nat) (data : List Byte) (s : State) : State :=
  let s := s.emit (.response m.session m.fabric m.seq.toNat code total data)
  if m.fabric then s.sendToMain false 7 0 (noaResponse m code total data) else s

/-- The response to a request is sent, and kept with the last 64 of its session (R421). -/
def State.respond (m : NoaMsg) (code total : Nat) (data : List Byte) (s : State) : State :=
  let s := if code = codeAccess then s.bump 0x1314 0 2 1 else s
  let x := s.conns.get Conn.fresh (connOf m)
  let keep (y : Session) : Session := { y with kept := ((m.seq.toNat, code, total, data) :: y.kept).take 64 }
  { s with conns := s.conns.put Conn.fresh (connOf m) { x with session := x.session.map keep } }.respondOnce m code total data

/-- What a hearth-die image write needs (R189): not ready to serve, role drained or standby, or the barrier HELD; a
spare assigned to an entry takes its images too (15 R380). -/
def State.imageState (s : State) : Bool := !s.ready || s.assigned.isSome || s.od 0x4100 1 0 == 2 || s.od 0x4100 1 0 == 3 || s.od 0x5005 0 0 == 2

/-- Answer a refusal. -/
def refuse (c : Nat) (s : State) : Nat × State := (c, s)

end Sys2Proof.Machine
end

