-- ==== Sys2Proof/Machine/Flue.lean ====
section
/-! DEFINITION. Machine/Flue.lean: flue sends and receives, merging at the routers, merge stores, and the flue tree image
(10 R249 to R258, 08 R199). -/

namespace Sys2Proof.Machine

/-! ### Tag entries (Table 10-4) -/

def State.tagValid (s : State) (tag : Nat) : Bool := decide (tag < leAt (s.blob 0x3408 0) 2 2) && bit (leAt (s.flueEntry tag) 0 1) 0
def State.tagSparse (s : State) (tag : Nat) : Bool := bit (leAt (s.flueEntry tag) 0 1) 1
def State.tagF16 (s : State) (tag : Nat) : Bool := bit (leAt (s.flueEntry tag) 0 1) 2
def State.tagDest (s : State) (tag : Nat) : Nat := leAt (s.flueEntry tag) 1 1

/-! ### FLU (R199, R253, R254) -/

/-- FLU send: unit u is read in the flue-out slot of frame ⌊t/8⌋ + 1 + u. The checks of R199, R253 and R254 are SCHEDULE
faults; rows past the buffer are one too (DEDUCED, log 22). -/
def execFluSend (i : IssueAt) (f : FluFields) (s : State) : Host.Outcome State Fault Refusal :=
  .next (s.issue i (fluLow f) 3 fun t s =>
    let h := i.h.toNat
    let x := s.hearth h
    let tag := f.tag.toNat
    let lead := s.tagSparse tag && leAt (s.flueEntry tag) 3 1 == h
    let total := if lead then x.gReg 15 % 256 else 0
    let bad := decide (t < x.flueUntil) || !s.tagValid tag || s.tagF16 tag != f.f16 || s.tagDest tag != f.dest.toNat ||
      !bit (s.tagContributors tag) h || x.sent.contains tag || decide (32768 < f.addr.toNat + 16 * f.len.toNat) ||
      (lead && (total == 0 || decide (leAt (s.flueEntry tag) 4 1 < total)))
    if bad then s.scheduleFault h t 3
    else
      let frame := t / 8 + 1
      let s := s.modHearth h fun x => { x with flueUntil := 8 * (frame + f.len.toNat), sent := x.sent ++ [tag] }
      (List.range f.len.toNat).foldl (fun s u =>
        s.schedule h (8 * (frame + u) + 4) (.flueOut tag u (f.addr.toNat + 16 * u) total f.f16)) s)

/-- FLU receive: arms the hearth for the tag's merged contributions; EVENT is bits [30:25]. -/
def execFluReceive (i : IssueAt) (f : FluFields) (s : State) : Host.Outcome State Fault Refusal :=
  .next (s.issue i (fluLow f) 3 fun t s =>
    let r : Receive := { tag := f.tag.toNat, event := f.dest.toNat / 2, addr := f.addr.toNat, len := f.len.toNat, cc := t, written := [] }
    s.modHearth i.h.toNat fun x => { x with receives := x.receives ++ [r] })

/-! ### Routes (R242, R251) -/

/-- The input at which router `r` takes flits of contributor `c` bound for `d`: 0 local, 1 west, 2 east, 3 north, 4 south;
none where the route does not pass it. Row first, then column. -/
def routeInput (c d r : Nat) : Option Nat :=
  let cx := c % 16; let cy := c / 16; let dx := d % 16; let dy := d / 16; let rx := r % 16; let ry := r / 16
  if r = c then some 0
  else if ry = cy ∧ cx < rx ∧ rx ≤ dx then some 1
  else if ry = cy ∧ rx < cx ∧ dx ≤ rx then some 2
  else if rx = dx ∧ cy < ry ∧ ry ≤ dy then some 3
  else if rx = dx ∧ ry < cy ∧ dy ≤ ry then some 4
  else none

/-- The inputs of router `r` that carry a tag (R251). -/
def tagInputs (contributors dest r : Nat) : List Nat :=
  ((List.range 5).filter fun inp => (List.range 128).any fun c => bit contributors c && routeInput c dest r == some inp)

/-! ### Merging (R252, R253, R255) -/

/-- A flue adder on one lane: modulo 2^32 (R47), a poisoned operand poisons, a residue mismatch poisons and is told. -/
def addLane (a b : Int × Bool) : (Int × Bool) × Option (Nat × Nat) :=
  let v := toSigned 32 (ofSigned 32 (a.1 + b.1))
  let want := (residue a.1 + residue b.1) % 7
  if want = residue v then ((v, a.2 || b.2), none) else ((v, true), some (want, residue v))

/-- Add two flits; answers the lanes whose residue does not check. -/
def addFlits (a b : Flit) : Flit × List (Nat × Nat × Nat) :=
  let sums := (a.lanes.zip b.lanes).map fun p => addLane p.1 p.2
  let bad := sums.zipIdx.filterMap fun e => e.1.2.map fun r => (e.2, r.1, r.2)
  ({ a with lanes := sums.map (·.1), count := a.count + b.count, total := if a.total = 0 then b.total else a.total }, bad)

/-- Poison one lane of a flit. -/
def Flit.poisonLane (l : Nat) (f : Flit) : Flit := { f with lanes := f.lanes.zipIdx.map fun e => if e.2 = l then (e.1.1, true) else e.1 }

/-- The RESIDUE record of an add at router `r`. -/
def State.flueResidue (r : Nat) (step : Nat) (bad : List (Nat × Nat × Nat)) (s : State) : State :=
  match bad with
  | [] => s
  | (lane, want, got) :: _ =>
    let path := pathUnit 0 r 6 0
    let s := (s.bump 0x340A 0 1 bad.length).raise { kind := .residue, path := path, detail := lane * 256 + want * 16 + got,
                                                    count := bad.length, step := step }
    { s with residueLog := s.residueLog.put [] path (s.residueLog.get [] path ++ [(step, s.now)]) }

/-- An adder makes a wrong sum on one lane: the RESIDUE check finds it and poisons the lane (R255). -/
def State.upsetAdd (r step : Nat) (upset : Option Upset) (f : Flit) (s : State) : Flit × State :=
  match upset with
  | some u =>
    if u.expected = u.found then (f, s)
    else (f.poisonLane u.lane.toNat, s.flueResidue r step [(u.lane.toNat, u.expected.toNat, u.found.toNat)])
  | none => (f, s)

/-- Flits of sums in the merge store of a hearth: it holds 128 KiB, 1,024 of them (R257). -/
def State.storeFlits (s : State) (h : Nat) : Nat := ((s.flue.stores.filter fun u => u.hearth == h).map fun u => u.flits.length).sum

/-- The pending entry of a unit in a merge store. -/
def StoreUnit.at (h tag unit : Nat) (u : StoreUnit) : Bool := u.hearth == h && u.tag == tag && u.unit == unit

/-- A flit joins the merge store of its destination (R257): lanes and counts add; the total becomes known with the lead's contribution. -/
def State.storeFlit (h step : Nat) (upset : Option Upset) (f : Flit) (s : State) : State :=
  match s.flue.stores.find? (StoreUnit.at h f.tag f.unit) with
  | some u =>
    let old := u.flits.find? fun e => e.index == f.index
    let (flit, s) := match old with
      | none => (({ index := f.index, count := f.count, lanes := f.lanes } : StoreFlit), s)
      | some e =>
        let (g, bad) := addFlits { f with lanes := e.lanes, count := e.count } f
        let (g, s) := (s.flueResidue h step bad).upsetAdd h step upset g
        ({ index := f.index, count := g.count, lanes := g.lanes }, s)
    let u' := { u with total := if u.total.isSome then u.total else if f.total = 0 then none else some f.total,
                       flits := (u.flits.filter fun e => e.index != f.index) ++ [flit] }
    { s with flue := { s.flue with stores := s.flue.stores.map fun v => if v.at h f.tag f.unit then u' else v } }
  | none =>
    let fixed := if s.tagSparse f.tag then none else some (popCount 128 (s.tagContributors f.tag))
    let u : StoreUnit := { hearth := h, tag := f.tag, unit := f.unit, step := f.step,
                           total := if fixed.isSome then fixed else if f.total = 0 then none else some f.total,
                           flits := [{ index := f.index, count := f.count, lanes := f.lanes }] }
    { s with flue := { s.flue with stores := s.flue.stores ++ [u] } }

/-- Whether a merge store has a place for a flit: that of its sums, or a free one. -/
def State.storeRoom (s : State) (h : Nat) (f : Flit) : Bool :=
  (match s.flue.stores.find? (StoreUnit.at h f.tag f.unit) with
    | some u => u.flits.any fun e => e.index == f.index
    | none => false) || decide (s.storeFlits h < 1024)

/-- Whether a flit may leave router `r`: its next router's input holds fewer than 32 flits, or the merge store has a place (R245, R257). -/
def State.flueRoom (s : State) (r dest : Nat) (f : Flit) : Bool :=
  match nextHop r dest with
  | none => s.storeRoom r f
  | some (n, inp) => decide ((s.flue.flits.filter fun e => e.router == n && e.input == inp).length < 32)

/-- Whether the tag's pending entry where a flit goes is of another step: then the flit is late (R258). -/
def State.flueLate (s : State) (r dest : Nat) (f : Flit) : Bool :=
  match nextHop r dest with
  | none => s.flue.stores.any fun u => u.hearth == r && u.tag == f.tag && u.step != f.step
  | some (n, _) => s.flue.flits.any fun e => e.router == n && e.flit.tag == f.tag && e.flit.step != f.step

/-- A flit leaves router `r`: to the next router, or to the merge store where `r` is the destination; a late one is discarded and counted. -/
def State.forwardFlit (r dest step : Nat) (upset : Option Upset) (f : Flit) (s : State) : State :=
  if s.flueLate r dest f then s.bump 0x340A 0 2 1
  else match nextHop r dest with
    | none => s.storeFlit r step upset f
    | some (n, inp) => { s with flue := { s.flue with flits := s.flue.flits ++ [{ router := n, input := inp, flit := f }] } }

/-- Add a list of matching flits. -/
def mergeFlits : Flit → List Flit → Flit × List (Nat × Nat × Nat)
  | f, [] => (f, [])
  | f, g :: rest =>
    let (x, bad) := addFlits f g
    let (y, more) := mergeFlits x rest
    (y, bad ++ more)

/-- The heads of a router's inputs: flits of one channel leave in the order they came (R244). -/
def State.heads (s : State) (r : Nat) : List Held :=
  (List.range 5).filterMap fun inp => s.flue.flits.find? fun e => e.router == r && e.input == inp

/-- Whether a held flit is the one named. -/
def Held.is (tag unit flit : Nat) (e : Held) : Bool := e.flit.tag == tag && e.flit.unit == unit && e.flit.index == flit

/-- FLUE_MERGE: one flit of a tag leaves a router from the heads of its inputs. FIXED: once it is present at every input of the tag, all are
added; SPARSE: the heads of two inputs are added where they match, a single one goes on unchanged. Without credit it waits, and that is
counted. -/
def execFlueMerge (router : HearthId) (tag : BitVec 16) (unit : BitVec 6) (flit : BitVec 4) (upset : Option Upset) (s : State) :
    Host.Outcome State Fault Refusal :=
  .next (
    let r := router.toNat
    match (s.heads r).filter (Held.is tag.toNat unit.toNat flit.toNat) with
    | [] => s
    | first :: others =>
      let same := first :: others.filter fun e => e.flit.step == first.flit.step
      let dest := s.tagDest tag.toNat
      let inputs := tagInputs (s.tagContributors tag.toNat) dest r
      let sparse := s.tagSparse tag.toNat
      if !sparse && !(inputs.all fun inp => same.any fun e => e.input == inp) then s
      else if !s.flueRoom r dest first.flit then s.bump 0x340A 0 6 1
      else
        let taken := if sparse then same.take 2 else same
        let (f, bad) := mergeFlits first.flit ((taken.drop 1).map (·.flit))
        let step := (s.hearth dest).step
        let s := { s with flue := { s.flue with flits := taken.foldl (fun l e => l.erase e) s.flue.flits } }
        let s := (s.bump 0x340A 0 0 (taken.length - 1)).flueResidue r step bad
        if taken.length < 2 then s.forwardFlit r dest step upset f
        else
          let (f, s) := s.upsetAdd r step upset f
          s.forwardFlit r dest step none f)

/-! ### Delivery (R257, R258) -/

/-- Flits of one unit: 16 where the tag carries F16 rows, else 8. -/
def State.tagFlits (s : State) (tag : Nat) : Nat := if s.tagF16 tag then 16 else 8

/-- Rows of a complete unit: F16 by the tag's shift, or the I32 sums (R257). A unit written for its excess count is poisoned whole, lanes
that have not come too (R258). -/
def State.unitRows (s : State) (tag : Nat) (full : Bool) (u : StoreUnit) : List (List VCell) :=
  let lanes := (List.range (s.tagFlits tag)).flatMap fun i => ((u.flits.find? fun e => e.index == i).map (·.lanes)).getD (List.replicate 32 (0, true))
  let cells : List VCell :=
    if s.tagF16 tag then
      let p := pow2 (-(s.flueShift tag))
      lanes.map fun l => { bits := f16OfRat (decide (l.1 < (0 : Int))) (l.1 * (p.1 : Int)) p.2, poison := l.2 || full, bad := false }
    else lanes.flatMap fun l =>
      let n := ofSigned 32 l.1
      [{ bits := BitVec.ofNat 16 n, poison := l.2 || full, bad := false }, { bits := BitVec.ofNat 16 (n / 65536), poison := l.2 || full, bad := false }]
  chunksOf 32 16 cells

/-- The flue-in slot of the first frame after a cycle that no other unit of the hearth uses. -/
def Hearth.flueInSlot (x : Hearth) (cc : Nat) : Nat :=
  let first := 8 * (cc / 8 + 1) + 3
  let used (c : Nat) : Bool := x.calendar.any fun n => n.cc == c && (match n.due with | .flueIn _ _ _ => true | _ => false)
  (((List.range (x.calendar.length + 1)).map fun k => first + 8 * k).find? fun c => !used c).getD first

/-- FLUE_UNIT_COMPLETE: at cycle `cc` the unit is complete and its receive armed. It is converted in 2 cc and written in the
flue-in slot of the first frame that follows; the last unit sets EVENT in that cycle. A count above the total poisons every
lane and is a FLUE record. -/
def execFlueUnitComplete (hh : HearthId) (tag : BitVec 16) (unit : BitVec 6) (cc : Nat) (s : State) : Host.Outcome State Fault Refusal :=
  .next (
    let h := hh.toNat
    let mine := StoreUnit.at h tag.toNat unit.toNat
    let s := s.advance h cc
    match s.flue.stores.find? mine, (s.hearth h).receives.find? fun r => r.tag == tag.toNat && !r.written.contains unit.toNat with
    | some u, some r =>
      match u.total with
      | none => s
      | some total =>
        let counts := u.flits.map (·.count)
        let excess := counts.any fun n => decide (total < n)
        let full := u.flits.length == s.tagFlits tag.toNat && counts.all fun n => decide (total ≤ n)
        if !(full || excess) then s
        else
          let s := if excess then (s.bump 0x340A 0 3 1).raise { kind := .flue, path := pathUnit 0 h 5 0, detail := tag.toNat, step := (s.hearth h).step } else s
          let rows := s.unitRows tag.toNat excess u
          let s := { s with flue := { s.flue with stores := s.flue.stores.filter fun v => !mine v } }
          let slot := (s.hearth h).flueInSlot (max cc r.cc)
          let r' := { r with written := r.written ++ [unit.toNat] }
          let last := decide (r.len ≤ r'.written.length)
          let s := s.modHearth h fun x =>
            { x with receives := if last then x.receives.erase r else x.receives.map fun e => if e = r then r' else e }
          let s := s.schedule h slot (.flueIn tag.toNat (r.addr + 16 * unit.toNat) rows)
          if last then s.schedule h slot (.setFlag r.event) else s
    | _, _ => s)

/-! ### Flue tree image (R249, R250) -/

/-- Result of a flue tree image and the failing tag, 0 OK (Table 10-5). -/
def State.judgeFlueTree (s : State) (img : List Byte) : Nat × Nat :=
  let count := leAt img 2 2
  let entry (t : Nat) : List Byte := slice (64 + 32 * t) 32 img
  let tags := List.range count
  let header := img.length == 64 + 32 * count && decide (count ≤ 2048) && leAt img 0 2 == 1 &&
    leAt img 56 4 == crc32 (img.drop 64) && leAt img 60 4 == crc32 (img.take 60)
  let shift (t : Nat) : Int := toSigned 8 (leAt (entry t) 2 1)
  let badForm (t : Nat) : Bool :=
    let e := entry t
    decide (8 ≤ leAt e 0 1) || !zeroAt e 5 3 || !zeroAt e 24 8 || decide (shift t < -8) || decide (15 < shift t) ||
      (!bit (leAt e 0 1) 2 && shift t != 0) || decide (127 < leAt e 1 1)
  let valid (t : Nat) : Bool := bit (leAt (entry t) 0 1) 0
  let contributors (t : Nat) : Nat := leAt (entry t) 8 16
  let badTree (t : Nat) : Bool :=
    let e := entry t
    valid t && (contributors t == 0 || (bit (leAt e 0 1) 1 &&
      (!bit (contributors t) (leAt e 3 1) || leAt e 4 1 == 0 || decide (popCount 128 (contributors t) < leAt e 4 1))))
  let through (r t : Nat) : Bool := valid t && (leAt (entry t) 1 1 == r || tagInputs (contributors t) (leAt (entry t) 1 1) r != [])
  if !header then (2, 0xFFFF)
  else match tags.find? badForm with
    | some t => (2, t)
    | none => match tags.find? badTree with
      | some t => (3, t)
      | none =>
        match (List.range 128).find? fun r => decide (256 < (tags.filter (through r)).length) with
        | some r => (4, ((tags.filter (through r)).getD 256 0))
        | none => if s.programLoaded && leAt img 8 8 != s.od 0x3402 0 4 then (5, 0xFFFF) else (0, 0)

/-- An accepted or refused flue tree image (R249, R250); the result stands in OD 0x3409. -/
def State.applyFlueTree (img : List Byte) (s : State) : Nat × State :=
  let r := if s.imageState then s.judgeFlueTree img else (1, 0xFFFF)
  let s := (s.setOd 0x3409 0 1 r.1).setOd 0x3409 0 2 r.2
  if r.1 = 0 then (0, (((s.setBlob 0x3408 0 img).setOd 0x3409 0 0 1).setOd 0x3409 0 3 (leAt img 2 2))) else (r.1, s)

/-- FLUE_TREE_WRITE (OD 0x3408). -/
def execFlueTreeWrite (rq : Requester) (img : List Byte) (s : State) : Host.Outcome State Fault Refusal :=
  .next (s.access rq .write 0x3408 0 img fun s =>
    let (r, s) := s.applyFlueTree img
    (if r = 0 then 0 else if r = 1 then codeState else codeFormat, s))

end Sys2Proof.Machine
end

