-- ==== Sys2Proof/Machine/Buffer.lean ====
section
/-! DEFINITION. Machine/Buffer.lean: what reaches a hearth buffer from outside its engines: patrol scrub (09 R221), inbound
writes (R233, R229), a step's fabric inputs (14 R347), resident regions and their image (R227, R228, R239). -/

namespace Sys2Proof.Machine

/-! ### Patrol scrub (R221) -/

/-- What the cells of a word turn out to hold; a permanent fault stays with them (R220). -/
def State.upsetWord (h : Nat) (u : WordUpset) (s : State) : State :=
  let key := rowKey h u.row.toNat * 4 + u.word.toNat
  let v := match u.state with
    | .clean => 0
    | .corrected => 1
    | .uncorrectable => if u.repairs then 6 else 2
  let s := if u.permanent then { s with bufStuck := s.bufStuck.put 0 key v } else s
  if s.bufWord.get 0 key % 4 = 3 then s else { s with bufWord := s.bufWord.put 0 key v }

/-- SCRUB_PATROL: the next patrol row of each bank is read; what it corrects is written back, and an uncorrectable word is
poisoned and repaired without a freeze. `cells` says what the cells of words hold where that is not their data: those of other rows stay
so until a read of any kind finds them (DESIGN CHOICE, log 195: the table has no row for an upset). -/
def execScrubPatrol (hh : HearthId) (cells : List WordUpset) (s : State) : Host.Outcome State Fault Refusal :=
  .next (
    let h := hh.toNat
    let st := s.od (0x3000 + h) 1 0
    let s := cells.foldl (fun s u => s.upsetWord h u) s
    if (st ≠ 3 ∧ st ≠ 4) ∨ s.od 0x3406 1 0 = 0 then s
    else
      let p := (s.hearth h).patrol
      let s := (List.range 16).foldl (fun s b => (List.range 4).foldl (fun s w => s.wordRead h (16 * p + b) w (s.hearth h).now .scrub) s) s
      let s := s.modHearth h fun x => { x with patrol := (p + 1) % 2048 }
      if p = 2047 then s.bump (0x3000 + h) 4 7 1 else s)

/-! ### Fabric inputs (14 R347) -/

/-- Entry of the input slot map. -/
structure SlotEntry where
  valid : Bool
  required : Bool
  set : Bool
  target : Nat
  event : Nat
  row : Nat
  rows : Nat
deriving DecidableEq, Repr

def State.slotEntry (s : State) (n : Nat) : SlotEntry :=
  let b := slice (8 * n) 8 (s.blob 0x4208 0)
  let f := leAt b 0 1
  { valid := bit f 0, required := bit f 1, set := bit f 2, target := leAt b 1 1, event := leAt b 2 1 % 64, row := leAt b 4 2, rows := leAt b 6 2 }

/-- The hearths a slot's rows go to. -/
def State.slotHearths (s : State) (e : SlotEntry) : List Nat := if e.set then s.hearthSet (e.target % 8) else [e.target % 128]

/-- The source number of a fabric input's rows in an inbound queue. -/
def slotSource (slot : Nat) : Nat := 200 + slot

/-- A step's input slot has had its last row accepted at hearth `h`: its event is set; once every target has accepted, the pool's granules
are free, the first of two LOCKSTEP copies but when the second has been accepted (R373). -/
def State.settleInput (h cc : Nat) (inp : StepInput) (matched : Bool) (s : State) : State × StepInput :=
  if inp.forwarded && inp.waiting.contains h && (s.hearth h).accepted (slotSource inp.slot) then
    let left := inp.waiting.filter (· != h)
    let free := left.isEmpty && (matched || !s.dualSource inp.src)
    (s.setFlag h (s.slotEntry inp.slot).event cc,
     { inp with waiting := left, reserve := if free then 0 else inp.reserve, shared := if free then 0 else inp.shared })
  else (s, inp)

def State.settleInputs (h cc step : Nat) (s : State) : State :=
  let matched := (s.stepRec step).matched
  let (s, l) := (s.stepRec step).inputs.foldl (fun (acc : State × List StepInput) inp =>
    let (s, i) := acc.1.settleInput h cc inp (matched.contains inp.slot)
    (s, acc.2 ++ [i])) (s, [])
  if (s.steps.get none step).isNone then s else s.modStep step fun r => { r with inputs := l }

/-- A slot's rows go to the inbound queues of its targets. -/
def State.forwardInput (step : Nat) (inp : StepInput) (s : State) : State :=
  let e := s.slotEntry inp.slot
  let rows : List InRow := (List.range (inp.data.length / 64)).map fun i =>
    { row := e.row + i, cells := cellsOfBytes (slice (64 * i) 64 inp.data) inp.poisoned, src := slotSource inp.slot, xfer := inp.tid,
      bulk := false, event := none, step := step, serial := 0, start := if inp.port < 4 then edgeN else edgeS, flit := i / 2 }
  let hs := s.slotHearths e
  let s := hs.foldl (fun s h => s.sendRows h (s.hearth h).now rows) s
  let s := s.modStep step fun r =>
    { r with inputs := r.inputs.map fun i => if i.slot = inp.slot ∧ i.tid = inp.tid then { i with forwarded := true, waiting := hs } else i }
  hs.foldl (fun s h => s.settleInputs h (s.hearth h).now step) s

/-! ### Inbound writes (R233, R229) -/

/-- Whether calendar work writes an inbound row into a bank. -/
def Due.inboundTo (bank : Nat) : Due → Bool
  | .inbound r => r.row % 16 == bank
  | _ => false

/-- The first DMA write slot at or after a cycle in which no other inbound row goes to the row's bank. -/
def Hearth.inboundSlot (x : Hearth) (row cc : Nat) : Nat :=
  let used (c : Nat) : Bool := x.calendar.any fun n => n.cc == c && n.due.inboundTo (row % 16)
  (((List.range (x.calendar.length + 1)).map fun k => slotFrom 6 cc + 8 * k).find? fun c => !used c).getD (slotFrom 6 cc)

/-- An inbound row takes its slot ahead of the hearth's COPY rows in the same bank (R233): those move to the next free slots. -/
def Hearth.placeInbound (r : InRow) (cc : Nat) (x : Hearth) : Hearth :=
  let slot := x.inboundSlot r.row cc
  let behind (n : Slot) : Bool := decide (slot ≤ n.cc) && (match n.due with
    | .copyRow row _ _ => row % 16 == r.row % 16
    | _ => false)
  let y := { x with calendar := x.calendar.filter fun n => !behind n }.at slot (.inbound r)
  (x.calendar.filter behind).foldl (fun y n => match n.due with
    | .copyRow row cells xfer => y.copyAt n.cc row cells xfer
    | _ => y) y

def InRow.poisoned (r : InRow) : InRow := { r with cells := r.cells.map fun c => { c with poison := true } }

/-- Poison the other row of a flit where it stands in the inbound queue or waits to enter it. -/
def Hearth.poisonFlit (r : InRow) (x : Hearth) : Hearth :=
  let same (q : InRow) : Bool := q.src == r.src && q.xfer == r.xfer && q.step == r.step && q.flit == r.flit
  match x.inbound.find? same with
  | some q => { x with inbound := x.inbound.map fun e => if e = q then q.poisoned else e }
  | none => { x with waiting := x.waiting.map fun p => match p with
      | .row q => if same q then .row q.poisoned else p
      | p => p }

/-- A flit that arrives with a parity error is delivered poisoned, both of its rows, and recorded at the router that found it (R241). -/
def State.parityRow (h : Nat) (bad : Option FlitFault) (r : InRow) (s : State) : InRow × State :=
  match bad with
  | none => (r, s)
  | some f => (r.poisoned, (s.modHearth h (Hearth.poisonFlit r)).meshParity (routeTo r.start h) f r.step)

/-- An inbound row into a PROTECT region is discarded and recorded (R229); another gets its write slot. -/
def State.writeInbound (h cc : Nat) (r : InRow) (s : State) : State :=
  if s.inRegion h r.row (some 29) then
    ((s.bump (0x3000 + h) 4 6 1).raise { kind := .protect, path := pathUnit 0 h 3 (r.row % 16), detail := r.row, step := r.step }).modHearth h fun x =>
      { x with fence := x.fence.map fun g => if r.serial < g.rows then { g with landed := max g.landed cc } else g }
  else s.modHearth h (Hearth.placeInbound r cc)

/-- INBOUND_WRITE: at cycle `cc` the front row of the inbound queue leaves it for the next DMA write slot, and the queue has room for
another. Into a PROTECT region it is discarded and recorded. A parity mismatch on its way delivers it poisoned. -/
def execInboundWrite (hh : HearthId) (cc : Nat) (parity : Option FlitFault) (s : State) : Host.Outcome State Fault Refusal :=
  .next (
    let h := hh.toNat
    let s := s.advance h cc
    match (s.hearth h).inbound with
    | [] => s
    | r :: rest =>
      let s := s.modHearth h fun x => { x with inbound := rest }
      let (r, s) := s.parityRow h parity r
      let s := s.writeInbound h cc r
      (s.acceptRows h cc (s.hearth h).waiting.length).settleInputs h cc (s.hearth h).step)

/-! ### Resident regions (R227) and the resident image (R239) -/

/-- The VALID entries of a hearth, with entry `i` replaced. -/
def State.regions (s : State) (h i v : Nat) : List Nat :=
  ((List.range 8).map fun k => if k = i then v else s.od (0x3000 + h) (0x10 + k) 0).filter fun e => bit e 31

def regionBase (e : Nat) : Nat := field e 14 0
def regionSize (e : Nat) : Nat := field e 26 16 + 1

/-- Whether two regions share a row. -/
def regionsMeet (a b : Nat) : Bool := decide (regionBase a < regionBase b + regionSize b) && decide (regionBase b < regionBase a + regionSize a)

/-- No two regions of a list meet. -/
def disjoint : List Nat → Bool
  | [] => true
  | a :: l => l.all (fun b => !regionsMeet a b) && disjoint l

/-- Rows of every LOAD region of the part, entry `i` of hearth `h` read as `v`. -/
def State.loadRows (s : State) (h i v : Nat) : Nat :=
  ((List.range 128).map fun g =>
    ((if g = h then s.regions h i v else s.regions g 8 0).map fun e => if bit e 30 then regionSize e else 0).sum).sum

def State.applyRegion (h i v : Nat) (s : State) : Nat × State :=
  let v := v % 2 ^ 32
  let v := v - field v 28 27 * 2 ^ 27 - field v 15 15 * 2 ^ 15
  let rs := s.regions h i v
  if !s.imageState then refuse codeState s
  else if !disjoint rs || decide (4096 < (rs.map regionSize).sum) || rs.any (fun e => decide (32768 < regionBase e + regionSize e)) ||
      decide (131072 < s.loadRows h i v) then refuse codeRange s
  else (0, s.setOd (0x3000 + h) (0x10 + i) 0 v)

/-- RESIDENT_REGION_WRITE (OD 0x3000+h.10 to .17). -/
def execResidentRegionWrite (rq : Requester) (h : HearthId) (entry : BitVec 3) (v : BitVec 32) (s : State) : Host.Outcome State Fault Refusal :=
  .next (s.access rq .write (0x3000 + h.toNat) (0x10 + entry.toNat) (leBytes 4 v.toNat) (State.applyRegion h.toNat entry.toNat v.toNat))

/-- The number of LOAD regions of the part. -/
def State.loadRegions (s : State) : Nat :=
  ((List.range 128).map fun g => ((s.regions g 8 0).filter fun e => bit e 30).length).sum

def State.applyResidentImage (img : List Byte) (s : State) : Nat × State :=
  if !s.imageState then refuse codeState s
  else if img.length ≠ 64 + 64 * s.loadRows 128 8 0 ∨ leAt img 0 2 ≠ 1 ∨ leAt img 2 2 ≠ s.loadRegions ∨
      leAt img 56 4 ≠ crc32 (img.drop 64) ∨ leAt img 60 4 ≠ crc32 (img.take 60) then refuse codeFormat s
  else (0, s.setBlob 0x3407 0 img)

/-- RESIDENT_IMAGE_WRITE (OD 0x3407). -/
def execResidentImageWrite (rq : Requester) (img : List Byte) (s : State) : Host.Outcome State Fault Refusal :=
  .next (s.access rq .write 0x3407 0 img (State.applyResidentImage img))

/-- Write every LOAD region of a hearth from the resident image, and its shadow copy in the stacks (R228); the other regions come back
unwritten. -/
def State.loadResident (h : Nat) (s : State) : State :=
  let s := { s with shadowRows := s.shadowRows.filter fun e => e.1 / 32768 != h }
  (s.regions h 8 0).foldl (fun s e =>
    if bit e 30 then
      (List.range (regionSize e)).foldl (fun s i =>
        match s.residentOffset h (regionBase e + i) with
        | some off =>
          let b := slice off 64 (s.blob 0x3407 0)
          { s.writeRow h (regionBase e + i) (cellsOfBytes b false) with shadowRows := s.shadowRows.put none (rowKey h (regionBase e + i)) (some b) }
        | none => s) s
    else s) s

end Sys2Proof.Machine
end

