-- ==== Sys2Proof/Machine/Rings.lean ====
section
/-! DEFINITION. Machine/Rings.lean: the rings of the queue pairs (16 R392 to R396), the event cause register (Table 16-5)
and MSI-X. -/

namespace Sys2Proof.Machine

/-! ### Ports -/

/-- Bits of the port status register (Table 16-4): READY, CONTROLLER and QUEUES follow the part; the rest is stored. -/
def State.portStatus (s : State) (p : Nat) : Nat :=
  let w := s.od 0x1200 (p + 1) 0
  let queues := decide (4 ≤ field w 23 20) && decide (4 ≤ field w 19 16)
  setBit (setBit (setBit w 14 s.ready) 13 (s.od 0x1100 1 0 == p)) 12 queues

def State.queuesServe (s : State) (p : Nat) : Bool := bit (s.portStatus p) 12

/-- Whether a port's link is up. -/
def State.hostLink (s : State) (p : Nat) : Bool := field (s.od 0x1200 (p + 1) 0) 19 16 != 0

/-- Set bits of the event cause register; vector 0 leaves when any goes from 0 to 1. -/
def State.setCause (p b : Nat) (s : State) : State :=
  let w := s.eventCause.get 0 p
  if bit w b then s
  else { s with eventCause := s.eventCause.put 0 p (setBit w b true) }.emit (.msix (hostOf p) 0)

/-! ### Queue pairs -/

def State.qp (s : State) (k : Nat) : QPair := s.qps.get QPair.fresh k
def State.modQp (k : Nat) (f : QPair → QPair) (s : State) : State := { s with qps := s.qps.put QPair.fresh k (f (s.qp k)) }

/-- A field of a queue pair's configuration (Table 16-8) and of its status. -/
def State.qpCfg (s : State) (k f : Nat) : Nat := s.odAt k 0x1210 2 f
def State.qpStat (s : State) (k f : Nat) : Nat := s.odAt k 0x1210 4 f
def State.setQpStat (k f v : Nat) (s : State) : State := s.setOdAt k 0x1210 4 f v

def State.qpState (s : State) (k : Nat) : Nat := s.qpStat k 0

def State.subSize (s : State) (k : Nat) : Nat := 2 ^ s.qpCfg k 3
def State.compSize (s : State) (k : Nat) : Nat := 2 ^ s.qpCfg k 4

/-- Completion entries written and not yet read by the host. -/
def State.unread (s : State) (k : Nat) : Nat := (s.qpStat k 2 + s.compSize k - (s.qp k).head) % s.compSize k

/-- Free completion slots that no request holds (R393, R395). -/
def State.freeSlots (s : State) (k : Nat) : Nat := s.compSize k - 1 - s.unread k - s.qpStat k 3

/-- The MSI-X vector of a queue pair leaves. -/
def State.signalQp (k : Nat) (s : State) : State :=
  (s.modQp k fun q => { q with unsignalled := 0 }).emit (.msix (hostOf (qpPort k)) (s.qpCfg k 5))

/-- Write the status block (R394); a coalesce count of 0 signals every such write (R396). -/
def State.writeBlock (k : Nat) (s : State) : State :=
  let b := leBytes 4 (s.qpStat k 1) ++ leBytes 4 (s.qpStat k 2) ++ leBytes 1 (s.qpState k) ++ List.replicate 55 0
  let s := (s.emit (.hostWrite (hostOf (qpPort k)) (s.qpCfg k 2) b)).bump 0x1200 (qpPort k + 1) 8 64
  if s.qpCfg k 6 = 0 then s.signalQp k else s

/-- Write a completion entry into the next slot, then the block, then the vector where it is due (R394, R396). -/
def State.writeEntry (k : Nat) (e : List Byte) (s : State) : State :=
  let t := s.qpStat k 2
  let s := (s.emit (.hostWrite (hostOf (qpPort k)) (s.qpCfg k 1 + 64 * t) e)).bump 0x1200 (qpPort k + 1) 8 64
  let s := ((s.setQpStat k 2 ((t + 1) % s.compSize k)).bumpAt k 0x1210 4 6 1)
  let s := s.modQp k fun q => { q with unsignalled := q.unsignalled + 1, since := if q.unsignalled = 0 then s.elapsed else q.since }
  let s := s.writeBlock k
  if s.qpCfg k 6 ≠ 0 ∧ s.qpCfg k 6 ≤ (s.qp k).unsignalled then s.signalQp k else s

/-- Hold one more completion slot, or give one back. -/
def State.holdSlot (k : Nat) (s : State) : State := s.setQpStat k 3 (s.qpStat k 3 + 1)
def State.dropSlot (k : Nat) (s : State) : State := s.setQpStat k 3 (s.qpStat k 3 - 1)

end Sys2Proof.Machine
end

