-- ==== Sys2Proof/Machine/Steps.lean ====
section
/-! DEFINITION. Machine/Steps.lean: where a step stands before and between its runs: its edge and launch tick (07 R174, R178),
its inputs (14 R347), the tick of a replay (15 R366), and a step that is dropped (15 R367). -/

namespace Sys2Proof.Machine

/-! ### Edges and ticks (R172, R174) -/

/-- The cadence period as measured. -/
def State.period (s : State) : Nat := s.od 0x2200 1 0

/-- The tick of the edge whose latched time lies within half a period of `time`; the latest such. -/
def State.findEdge (s : State) (time : Nat) : Option Nat :=
  (s.edges.reverse.find? fun e => decide (((e.2 : Int) - (time : Int)).natAbs ≤ s.period * 5)).map (·.1)

/-- The scheduled launch tick (R174). -/
def State.launchTick (s : State) (r : StepRec) : Nat := r.edgeTick + s.od 0x2201 0 0 + 50 * r.k

/-- A step's edge is identified once the edge has been latched. -/
def State.settleEdge (step : Nat) (s : State) : State :=
  let r := s.stepRec step
  if r.known || (s.steps.get none step).isNone then s
  else match s.findEdge r.headEdge with
    | some t => s.modStep step fun r => { r with edgeTick := t, known := true }
    | none => s

/-- A slip count received for a step (R178): the largest counts. -/
def State.takeK (step k : Nat) (s : State) : State :=
  if k ≤ (s.stepRec step).k then s
  else (s.bump 0x2204 0 5 1).modStep step fun r => { r with k := k }

/-- The part on the same board: the peer that P1 identifies, else by the reference numbering (R20, R340). -/
def State.partner (s : State) : Nat :=
  match (s.port 1).ident with
  | some i => 65536 * i.rack.toNat + i.endpoint.toNat
  | none => s.endpoint / 4 * 4 + (s.endpoint + 2) % 4

/-! ### Inputs (R175 condition 1, R347) -/

/-- The REQUIRED slots of the input slot map. -/
def State.requiredSlots (s : State) : List Nat :=
  (List.range 1024).filter fun n => let f := leAt (s.blob 0x4208 0) (8 * n) 1; bit f 0 && bit f 1

/-- This part serves the HEAD entry. -/
def State.isHead (s : State) : Bool := (s.ownEntry.map (·.head)).getD false

/-- The input of a step has all arrived; the head takes its input from the admitting part's request. -/
def State.inputsReady (s : State) (r : StepRec) : Bool :=
  s.isHead || s.requiredSlots.all fun n => r.inputs.any fun i => i.slot == n

/-! ### Replay (R366) -/

/-- The earliest tick at which every hearth of the kindle set can be HOT (R181, R182). -/
def State.hotTick (s : State) : Nat :=
  let cold := s.kindleHearths.filter fun h => s.power h != 3 && s.power h != 4 && s.power h != 2
  let warm := s.kindleHearths.foldl (fun m h => if s.power h = 2 then max m ((s.hearth h).kindleAt + 180) else m) s.tick
  if cold = [] then warm else max warm (s.tick + (ceilDiv cold.length 8 - 1) + 180)

/-- The least slip count above `k` whose launch tick is not before `t`. -/
def replayCount (edge k t : Nat) : Nat := max (k + 1) (ceilDiv (t - edge) 50)

/-- A step that failed here, or that a twin takes over, and has its input is scheduled, and one SLIP notice goes out. To the admitting part
its first data byte says that it is a replay (R368; the model's own); the admitting part counts its own. -/
def State.scheduleReplay (step : Nat) (s : State) : State :=
  let r := s.stepRec step
  let base := r.edgeTick + s.od 0x2201 0 0
  let k := replayCount base r.k s.hotTick
  ((s.modStep step fun r => { r with k := k, phase := .waiting, launched := none, kindled := false }).bump 0x4107 0 4 1).notice
    1 k 0 step (leBytes 1 (flagNat !s.isAdmitting)) s.concerned

/-- The twin of a MIRROR primary that failed serves in its place (R375). -/
def State.tookOver (s : State) : Bool :=
  s.inService && s.od 0x4102 0 0 == 1 && (s.ownEntry.map (·.mode)) == some 1 && s.twin.any s.declared.contains

/-- Whether a step is to be scheduled anew: it failed here, or its launch tick passed before this part took its stage over, and its inputs
are complete (R366, R375). -/
def State.replayDue (s : State) (step : Nat) : Bool :=
  let r := s.stepRec step
  s.inputsReady r && (r.phase == .failed || r.phase == .waiting && r.known && decide (s.launchTick r < s.tick) && s.tookOver)

/-! ### Dropping a step (R367, R179) -/

/-- Work on a step stops at once, as under R207, and its state is cleared; nothing is reported. -/
def State.haltStep (step : Nat) (phase : StepPhase) (s : State) : State :=
  let r := s.stepRec step
  let s := s.stopHearths step
  if r.phase == .running then s.boundary step phase else s.modStep step fun r => { r with phase := phase, inputs := [] }

/-- A step is abandoned here by notice: nothing of it is kept (R367). -/
def State.dropStep (step : Nat) (s : State) : State :=
  let s := if (s.shadow.map (·.step)) = some step then s.dropShadow else s
  let s := if (s.steps.get none step).isNone then s.setStep step { StepRec.fresh with phase := .abandoned } else s.haltStep step .abandoned
  { s with retained := s.retained.filter fun r => r.step != step,
           attnQueue := s.attnQueue.filter fun a => a.step != step || a.started }

/-- A step fails after its last hearth halted and before it commits (R349, R364): as a failure, without stokers to stop. -/
def State.failLate (step : Nat) (s : State) : State :=
  let r := s.stepRec step
  if r.phase == .running then s.failStep step
  else if r.phase == .halted then
    (s.abandonNotice step r.sources).modStep step fun r => { r with phase := .failed, runs := r.runs + 1, inputs := [] }
  else s

/-- Send a step's TOKEN or TREE to its destinations; where one cannot be reached, or there is none, the step fails (R362). -/
def State.sendFor (m : Message) (dests : List Nat) (s : State) : State :=
  if dests = [] then (s.deliveryFailed m.step 0xFFFF 4).failLate m.step
  else
    let (lost, s) := dests.foldl (fun acc d =>
      let (tid, s) := acc.2.send { m with targets := [d] }
      (acc.1 || tid.isNone, s)) (false, s)
    if lost then s.failLate m.step else s

end Sys2Proof.Machine
end

