-- ==== Sys2Proof/Machine/Stoker.lean ====
section
/-! DEFINITION. Machine/Stoker.lean: the control instructions of a stoker and what releases, times out or ends them
(08 R201 to R205, R223, R236; Table 08-13, Table 09-7). -/

namespace Sys2Proof.Machine

/-! ### WAI (R202) -/

/-- Run a hearth's calendar until a flag is set or a cycle is reached. -/
def State.runUntilFlag (h e limit : Nat) : Nat → State → State
  | 0, s => s
  | fuel + 1, s =>
    if ((s.hearth h).flagAt e).isSome then s
    else match (s.hearth h).calendar with
      | [] => s
      | n :: _ => if n.cc ≤ limit then (s.advance h n.cc).runUntilFlag h e limit fuel else s

/-- A stoker stops at a WAI: OD 0x3405 shows WAITING and counts the wait. -/
def execWai (i : IssueAt) (f : WaiFields) (s : State) : Host.Outcome State Fault Refusal :=
  .next (match s.begin i (waiLow f) 6 with
    | (none, s) => s
    | (some t, s) =>
      let h := i.h.toNat
      let w : Wait := { event := f.event.toNat, clr := f.clr, timeout := t + timeoutCc f.scale f.tmo.toNat,
                        branch := f.branch, target := f.target.toNat, cc := t }
      (((s.modHearth h fun x => { x with phase := .waiting, wait := some w }).showStoker h 2).bump 0x3405 (h + 1) 3 1))

/-- A release no earlier than a freeze's end (Table 09-8). -/
def Hearth.afterFreeze (x : Hearth) (r : Nat) : Nat :=
  match x.freeze with
  | some f => if f.start ≤ r then max r f.resume else r
  | none => r

/-- The cycle a WAI releases at once its flag was set at `c` (R202). -/
def Wait.release (w : Wait) (c : Nat) : Nat := if c ≤ w.cc then (w.cc / 8 + 1) * 8 else frameUp (c + 2)

/-- WAI_RELEASE: the flag is set by issue + timeout; the WAI releases at its frame boundary, clearing the flag where CLR
is set. -/
def execWaiRelease (hh : HearthId) (s : State) : Host.Outcome State Fault Refusal :=
  .next (
    let h := hh.toNat
    match (s.hearth h).phase, (s.hearth h).wait with
    | .waiting, some w =>
      let s := s.runUntilFlag h w.event w.timeout ((s.hearth h).calendar.length + 1)
      let x := s.hearth h
      match x.flagAt w.event with
      | none => s
      | some c =>
        if w.timeout < c ∨ x.phase ≠ .waiting then s
        else
          -- a freeze that a read before the release finds holds the release too (R238)
          let s := s.advance h (w.release c - 1)
          let r := (s.hearth h).afterFreeze (w.release c)
          let s := s.advance h r
          if (s.hearth h).phase ≠ .waiting then s
          else
            let s := s.modHearth h fun x =>
              let x := if w.clr then x.clearFlag w.event else x
              { x with phase := .running, wait := none, last := r, pc := x.pc + 1 }
            let longest := max (s.od 0x3405 (h + 1) 5) (min (r - w.cc) 0xFFFFFFFF)
            (s.showStoker h 1).setOd 0x3405 (h + 1) 5 longest
    | _, _ => s)

/-- WAI_TIMEOUT: the flag is not set by issue + timeout. ACT 0 is a TIMEOUT stoker fault; ACT 1 branches, the target
counting from the timeout cycle (R192, R202). -/
def execWaiTimeout (hh : HearthId) (s : State) : Host.Outcome State Fault Refusal :=
  .next (
    let h := hh.toNat
    match (s.hearth h).phase, (s.hearth h).wait with
    | .waiting, some w =>
      let s := s.advance h w.timeout
      let x := s.hearth h
      let set := match x.flagAt w.event with
        | some c => decide (c ≤ w.timeout)
        | none => false
      if set || x.phase != .waiting then s
      else
        let s := s.bump 0x3405 (h + 1) 4 1
        if w.branch then
          let last := x.afterFreeze w.timeout
          (s.modHearth h fun x => { x with phase := .running, wait := none, last := last, pc := w.target }).showStoker h 1
        else s.stokerFault h .timeout w.event 6
    | _, _ => s)

/-! ### SIG (R203) -/

/-- A signal goes to hearths on the stream channel, behind what its sender has sent there before (R246). -/
def State.signalTo (src event step : Nat) (dests : List Nat) (s : State) : State :=
  dests.foldl (fun s d => s.modHearth d fun x => { x with waiting := x.waiting ++ [.signal src event step] }) s

/-- A signal leaves at cycle `cc`. For ATTN the stoker is to fetch the request row; PART raises a controller event. -/
def State.sendSignal (h : Nat) (g : Signal) (cc : Nat) (s : State) : State :=
  let step := (s.hearth h).step
  if g.kind = 0 then s.schedule h (cc + 2) (.setFlag g.event)
  else if g.kind = 1 then s.signalTo (h + 1) g.event step [g.target]
  else if g.kind = 2 then s.signalTo (h + 1) g.event step (s.hearthSet (g.target % 8))
  else if g.kind = 3 then s.fetchAt h g.desc cc (.attn g)
  else s.emit (.controllerEvent h g.target)

/-- A SIG issues: with REL clear it leaves at once. -/
def State.sig (kind : Nat) (i : IssueAt) (f : SigFields) (s : State) : State :=
  s.issue i (sigLow f) 7 fun t s =>
    let h := i.h.toNat
    let g : Signal := { kind := kind, event := f.event.toNat, target := f.target.toNat, desc := f.desc.toNat, cc := t, seq := (s.hearth h).seq }
    if f.rel then s.modHearth h fun x => { x with signals := x.signals ++ [g], seq := x.seq + 1 }
    else s.sendSignal h g t

def execSigLocal (i : IssueAt) (f : SigFields) (s : State) : Host.Outcome State Fault Refusal := .next (s.sig 0 i f)
def execSigHearth (i : IssueAt) (f : SigFields) (s : State) : Host.Outcome State Fault Refusal := .next (s.sig 1 i f)
def execSigSet (i : IssueAt) (f : SigFields) (s : State) : Host.Outcome State Fault Refusal := .next (s.sig 2 i f)
def execSigAttn (i : IssueAt) (f : SigFields) (s : State) : Host.Outcome State Fault Refusal := .next (s.sig 3 i f)
def execSigPart (i : IssueAt) (f : SigFields) (s : State) : Host.Outcome State Fault Refusal := .next (s.sig 4 i f)

/-- Whether calendar work is a buffer write or a flue read that a releasing signal waits for: one that the hearth issued before it (R203). A
row of an output window is of the cycle of its DRV. -/
def Due.blocksSignal (g : Signal) (seq : Nat) : Due → Bool
  | .store _ _ | .flueOut _ _ _ _ _ => decide (seq < g.seq)
  | .accRow _ _ since => decide (since ≤ g.cc)
  | _ => false

/-- Whether every buffer write, DMA transfer and FLU send issued before a signal has completed. -/
def Hearth.released (x : Hearth) (g : Signal) : Bool :=
  !(x.calendar.any fun n => n.due.blocksSignal g n.seq) &&
  !((x.queue0 ++ x.queue1).any fun t => decide (t.seq < g.seq)) &&
  !(x.groups.any fun e => !e.delivered && decide (e.cc ≤ g.cc))

/-- SIGNAL_DEPART: at cycle `cc` the hearth's oldest signal whose releases have completed leaves. -/
def execSignalDepart (hh : HearthId) (signal : LeavingSignal) (s : State) : Host.Outcome State Fault Refusal :=
  .next (
    let h := hh.toNat
    let cc := signal.cc
    let s := s.advance h cc
    let x := s.hearth h
    match x.signals.find? fun g => x.released g && decide (g.cc ≤ cc) with
    | none => s
    | some g =>
      let s := s.modHearth h fun x => { x with signals := x.signals.erase g }
      match signal.parity with
      | some f => if g.kind = 4 then s.meshParity (routeOut h edgeN) f x.step else s.sendSignal h g cc
      | none => s.sendSignal h g cc)

/-- The first signal on its way to a hearth that sets a flag and is behind nothing its source has sent there on the stream channel. -/
def firstSignal (event : Nat) : List Nat → List Packet → Option Packet
  | _, [] => none
  | blocked, .row r :: l => firstSignal event (if r.bulk then blocked else r.src :: blocked) l
  | blocked, .signal src e step :: l =>
    if e = event ∧ blocked.contains src = false then some (.signal src e step) else firstSignal event (src :: blocked) l

/-- SIGNAL_ARRIVAL: a signal that has left for the hearth sets its flag; a flag already set counts an event overrun. A
signal of another step than the hearth runs is discarded (R207), and so is one with a parity error, which is recorded (R259). -/
def execSignalArrival (hh : HearthId) (signal : ArrivingSignal) (cc : Nat) (s : State) : Host.Outcome State Fault Refusal :=
  .next (
    let h := hh.toNat
    match firstSignal signal.event.toNat [] (s.hearth h).waiting with
    | none => s
    | some p =>
      let s := s.modHearth h fun x => { x with waiting := x.waiting.erase p }
      let s : State := match signal.parity with
        | some f => s.meshParity (routeTo (p.src - 1) h) f p.step
        | none =>
          if p.step = (s.hearth h).step ∧ (s.stepRec p.step).phase = .running then (s.advance h cc).setFlag h signal.event.toNat cc
          else s
      s.acceptRows h cc (s.hearth h).waiting.length)

/-! ### FEN (R204, R236) -/

/-- The 4 or 24 cc of R204. -/
def fenceLead (scope : Nat) : Nat := if scope = 0 then 4 else 24

/-- A fence issues and the stoker stops. Waits, timeouts and longest wait of OD 0x3405 count WAI alone, a fence not (DESIGN CHOICE, log
218). -/
def State.fen (scope : Nat) (i : IssueAt) (f : FenFields) (s : State) : State :=
  match s.begin i (fenLow f) 8 with
  | (none, s) => s
  | (some t, s) =>
    let h := i.h.toNat
    let g : Fence := { scope := scope, earliest := t + fenceLead scope, timeout := t + timeoutCc f.scale f.tmo.toNat, cc := t, seq := (s.hearth h).seq,
                       rows := (s.hearth h).serial, sends := (s.hearth h).sent.length, landed := 0 }
    (s.modHearth h fun x => { x with phase := .fencing, fence := some g }).showStoker h 2

def execFenL (i : IssueAt) (f : FenFields) (s : State) : Host.Outcome State Fault Refusal := .next (s.fen 0 i f)
def execFenD (i : IssueAt) (f : FenFields) (s : State) : Host.Outcome State Fault Refusal := .next (s.fen 1 i f)
def execFenS (i : IssueAt) (f : FenFields) (s : State) : Host.Outcome State Fault Refusal := .next (s.fen 2 i f)

/-- The last cycle of the calendar work that a test picks, no earlier than `m`. -/
def lastDue (f : Due → Bool) (m : Nat) (l : List Slot) : Nat := l.foldl (fun m n => if f n.due then max m n.cc else m) m

/-- FEN.L: the cycle at which the inbound rows accepted before the fence are all written; none while one has no write slot. A COPY that has
completed and a receive whose event is set have been written already (R232, R257). -/
def Hearth.localAt (x : Hearth) (g : Fence) : Option Nat :=
  let mine : Due → Bool := fun d => match d with
    | .inbound r => decide (r.serial < g.rows)
    | _ => false
  if x.inbound.any fun r => decide (r.serial < g.rows) then none else some (lastDue mine (max g.cc g.landed) x.calendar)

/-- A transfer issued before a fence whose rows have still to move, where it may hold a descriptor of some kinds. -/
def Transfer.pends (seq : Nat) (kinds : List Nat) (t : Transfer) : Bool :=
  decide (t.seq < seq) && !t.moved && (match t.desc with
    | none => true
    | some d => d.chain || kinds.contains d.kind)

/-- Whether a packet is a row that hearth `h` sent in a step. -/
def Packet.rowOf (h step : Nat) : Packet → Bool
  | .row r => r.src == h + 1 && r.step == step
  | .signal _ _ _ => false

/-- FEN.D beyond FEN.L: the cycle at which the transfers to hearths and stacks and the flue sends of the hearth are written at their
destinations; none while one has no write slot. -/
def State.dieAt (s : State) (h : Nat) (g : Fence) : Option Nat :=
  let x := s.hearth h
  let tags := x.sent.take g.sends
  let reads : Due → Bool := fun d => match d with
    | .flueOut tag _ _ _ _ => tags.contains tag
    | _ => false
  let open_ := (x.queue0 ++ x.queue1).any (Transfer.pends g.seq [1, 2, 4]) ||
    s.hearths.any (fun e => e.2.waiting.any (Packet.rowOf h x.step) || e.2.inbound.any fun r => (Packet.row r).rowOf h x.step) ||
    x.calendar.any (fun n => reads n.due) ||
    s.flue.flits.any (fun f => f.flit.step == x.step % 256 && tags.contains f.flit.tag) ||
    s.flue.stores.any (fun u => u.step == x.step % 256 && tags.contains u.tag)
  let lands : Due → Bool := fun d => match d with
    | .inbound r => (Packet.row r).rowOf h x.step
    | .flueIn tag _ _ => tags.contains tag
    | _ => false
  if open_ then none else some (s.hearths.foldl (fun m e => lastDue lands m e.2.calendar) x.landed)

/-- FEN.S beyond FEN.D: whether every FABRIC transfer of the hearth is acknowledged. -/
def State.fabricDone (s : State) (h : Nat) (g : Fence) : Bool :=
  let x := s.hearth h
  !((x.queue0 ++ x.queue1).any (Transfer.pends g.seq [5])) &&
  (x.queue0 ++ x.queue1 ++ x.finished).all fun t => !decide (t.seq < g.seq) || t.tids.all fun id => !(s.sending.any fun o => o.hdr.tid.toNat == id)

/-- The cycle at which the scope of a fence is complete (R236), none while it is not; the cycle of the last acknowledgement is `cc`. -/
def State.fenceAt (s : State) (h : Nat) (g : Fence) (cc : Nat) : Option Nat :=
  match (s.hearth h).localAt g with
  | none => none
  | some l =>
    if g.scope = 0 then some l
    else match s.dieAt h g with
      | none => none
      | some d => if g.scope = 1 then some (max l d) else if s.fabricDone h g then some (max (max l d) cc) else none

/-- The frame boundary at which a fence whose scope is complete at `c` releases (R204). -/
def Fence.release (g : Fence) (c : Nat) : Nat := frameUp (max g.earliest c)

/-- FEN_RELEASE: the scope of the fence is complete; it releases at its frame boundary, when that is no later than its timeout. For FEN.S,
`cc` is the cycle of the last acknowledgement. -/
def execFenRelease (hh : HearthId) (cc : Nat) (s : State) : Host.Outcome State Fault Refusal :=
  .next (
    let h := hh.toNat
    match (s.hearth h).phase, (s.hearth h).fence with
    | .fencing, some g =>
      match s.fenceAt h g cc with
      | none => s
      | some c =>
        if g.timeout < g.release c then s
        else
          let s := s.advance h (g.release c - 1)
          let r := (s.hearth h).afterFreeze (g.release c)
          let s := s.advance h r
          if (s.hearth h).phase ≠ .fencing then s
          else (s.modHearth h fun x => { x with phase := .running, fence := none, last := r, pc := x.pc + 1 }).showStoker h 1
    | _, _ => s)

/-- FEN_TIMEOUT: the timeout passes before the fence's release; a TIMEOUT stoker fault with detail 0x100 + scope. -/
def execFenTimeout (hh : HearthId) (s : State) : Host.Outcome State Fault Refusal :=
  .next (
    let h := hh.toNat
    match (s.hearth h).phase, (s.hearth h).fence with
    | .fencing, some g =>
      let s := s.advance h g.timeout
      let released := match s.fenceAt h g g.timeout with
        | some c => decide (g.release c ≤ g.timeout)
        | none => false
      if (s.hearth h).phase ≠ .fencing ∨ released = true then s
      else s.stokerFault h .timeout (0x100 + g.scope) 8
    | _, _ => s)

/-! ### BRA (R192, R201) -/

/-- A branch: `taken` judges on the hearth, after `pre` has changed it. -/
def State.bra (i : IssueAt) (f : BraFields) (pre : Hearth → Hearth) (taken : Hearth → Bool) (s : State) : State :=
  match s.begin i (braLow f) 9 with
  | (none, s) => s
  | (some _, s) =>
    s.modHearth i.h.toNat fun x =>
      let x := pre x
      { x with pc := if taken x then f.target.toNat else x.pc + 1 }

def execBraAlways (i : IssueAt) (f : BraFields) (s : State) : Host.Outcome State Fault Refusal :=
  .next (s.bra i f id fun _ => true)
def execBraNever (i : IssueAt) (f : BraFields) (s : State) : Host.Outcome State Fault Refusal :=
  .next (s.bra i f id fun _ => false)
def execBraEq (i : IssueAt) (f : BraFields) (s : State) : Host.Outcome State Fault Refusal :=
  .next (s.bra i f id fun x => condEq (x.gReg f.ga.toNat) (x.gReg f.gb.toNat))
def execBraNe (i : IssueAt) (f : BraFields) (s : State) : Host.Outcome State Fault Refusal :=
  .next (s.bra i f id fun x => !condEq (x.gReg f.ga.toNat) (x.gReg f.gb.toNat))
def execBraLt (i : IssueAt) (f : BraFields) (s : State) : Host.Outcome State Fault Refusal :=
  .next (s.bra i f id fun x => condLt (x.gReg f.ga.toNat) (x.gReg f.gb.toNat))
def execBraGe (i : IssueAt) (f : BraFields) (s : State) : Host.Outcome State Fault Refusal :=
  .next (s.bra i f id fun x => !condLt (x.gReg f.ga.toNat) (x.gReg f.gb.toNat))
/-- DEC: gA := gA − 1 modulo 2^32, taken if it is then not zero; g0 stays 0 (R186). -/
def execBraDec (i : IssueAt) (f : BraFields) (s : State) : Host.Outcome State Fault Refusal :=
  .next (s.bra i f (fun x => x.setG f.ga.toNat ((x.gReg f.ga.toNat + (2 ^ 32 - 1)) % 2 ^ 32)) fun x => x.gReg f.ga.toNat != 0)
def execBraBitset (i : IssueAt) (f : BraFields) (s : State) : Host.Outcome State Fault Refusal :=
  .next (s.bra i f id fun x => condBit (x.gReg f.ga.toNat) f.bit.toNat)
def execBraBitclr (i : IssueAt) (f : BraFields) (s : State) : Host.Outcome State Fault Refusal :=
  .next (s.bra i f id fun x => !condBit (x.gReg f.ga.toNat) f.bit.toNat)

/-! ### HLT and the halt of a hearth (R205, R206, R209) -/

/-- HLT ends issue for the step. -/
def execHlt (i : IssueAt) (s : State) : Host.Outcome State Fault Refusal :=
  .next (match s.begin i 0 10 with
    | (none, s) => s
    | (some t, s) => s.modHearth i.h.toNat fun x => { x with phase := .ended, hltAt := t })

/-- The hearths of the kindle set that have a program and have not halted. -/
def State.stillRunning (s : State) (step : Nat) : List Nat :=
  (List.range 128).filter fun h =>
    let x := s.hearth h
    x.step == step && (x.phase == .running || x.phase == .waiting || x.phase == .fencing || x.phase == .ended)

/-- The last hearth of a step has halted: its cycle, counted from the launch, is compared with the planned compute length (R206), then the
boundary. -/
def State.stepHalts (step : Nat) (s : State) : State :=
  if s.isShadow step then s.shadowHalts step else
  let s := s.bump 0x3404 0 1 1
  let halt := s.hearths.foldl (fun m e => if e.2.step == step && e.2.phase == .halted then max m e.2.haltAt else m) 0
  let late := halt - s.headerAt 36 4 * s.coreMhz / 100
  let s := if late = 0 then s
    else (s.bump 0x3404 0 3 1).setOd 0x3404 0 4 (max (s.od 0x3404 0 4) (min late 0xFFFFFFFF))
  let s := s.boundary step .halted
  -- a mirroring primary sends the compare data of a shadow-checked step, then STEP_DONE (R369, R370)
  let data := ((s.retained.filter fun r => r.step == step).map fun r => (r.send.hdr.slot.toNat, r.send.payload)).eraseDups.flatMap (·.2)
  let s := if s.shadowed step then s.mirrorToTwin step 8 (leBytes 8 step ++ data) else s
  s.mirrorToTwin step 5 (leBytes 8 step)

/-- HEARTH_HALT: after HLT every engine of the hearth is idle: the DMA queues are empty, sends read, ACC windows ended, VE
results written (R205). That cycle, no earlier than the HLT, is the halt. The last halt of the step is its boundary. -/
def execHearthHalt (hh : HearthId) (s : State) : Host.Outcome State Fault Refusal :=
  .next (
    let h := hh.toNat
    let x := s.hearth h
    let busy := x.queue0 ≠ [] ∨ x.queue1 ≠ [] ∨ x.groups.any (fun g => !g.delivered)
    if x.phase ≠ .ended ∨ busy then s
    else
      let idle := x.groups.foldl (fun m g => max m g.ends) (max x.hltAt x.busy)
      let idle := x.calendar.foldl (fun m n => match n.due with
        | .load _ _ _ done => max m done
        | d => if d.engineWork then max m n.cc else m) idle
      let s := s.advance h idle
      if (s.hearth h).phase ≠ .ended then s
      else
        let s := (s.modHearth h fun x => { x with phase := .halted, haltAt := idle, haltTick := s.tick }).showStoker h 0
        if s.stillRunning x.step = [] then s.stepHalts x.step else s)

/-- FREEZE_END (R223): issue resumes; every instruction not yet issued moves by the length of the freeze. A wait or fence
that released after it counts from its own release. What is read before it resumes is read within the freeze. -/
def execFreezeEnd (hh : HearthId) (s : State) : Host.Outcome State Fault Refusal :=
  .next (
    let h := hh.toNat
    match (s.hearth h).freeze with
    | none => s
    | some f =>
      let s := s.advance h (f.resume - 1)
      match (s.hearth h).freeze with
      | none => s
      | some f => s.modHearth h fun x => { x with freeze := none, last := if x.last < f.start then x.last + (f.resume - f.start) else x.last })

end Sys2Proof.Machine
end

