-- ==== Sys2Proof/Machine/Attention.lean ====
section
/-! DEFINITION. Machine/Attention.lean: the attention engines (11 R266 to R276, R279; 02 R41, R44, R45): pages, the commit of
the previous step, new entries, scores, the weighted sum, and the results. -/

namespace Sys2Proof.Machine

/-! ### The request descriptor (Table 11-3) -/

/-- A request as its gang reads it. -/
structure AttnDesc where
  write : Bool
  tree : Bool
  gang : Nat
  layer : Nat
  head : Nat
  g : Nat
  p : Nat
  ctx : Nat
  tenant : Nat
  qRow : Nat
  kvRow : Nat
  outRow : Nat
  maskRow : Nat
  factor : Nat
  kvGen : Nat
  first : Nat
  m : Nat
  nodes : List Nat
deriving DecidableEq, Repr

def attnDesc (b : List Byte) : AttnDesc :=
  { write := bit (leAt b 0 1) 0, tree := bit (leAt b 0 1) 1, gang := leAt b 1 1 % 4, layer := leAt b 2 1 % 64, head := leAt b 3 1 % 16,
    g := leAt b 4 1, p := leAt b 5 1, ctx := leAt b 8 4, tenant := leAt b 12 2, qRow := leAt b 14 2, kvRow := leAt b 16 2,
    outRow := leAt b 18 2, maskRow := leAt b 20 2, factor := leAt b 24 4, kvGen := leAt b 28 4, first := leAt b 32 4,
    m := min (leAt b 36 1) 8, nodes := (List.range 8).map fun j => leAt b (40 + j) 1 }

def AttnDesc.rows (d : AttnDesc) : Nat := d.g * d.p

/-! ### Contexts and page lists (R268) -/

def emptyList (layer head : Nat) : PageList :=
  { layer := layer, head := head, die := 0, frames := [], first := 0, before := 0, step := none, committed := 0 }

def Ctx.list (c : Ctx) (layer head : Nat) : PageList := (c.lists.find? fun l => l.layer == layer && l.head == head).getD (emptyList layer head)

def Ctx.setList (l : PageList) (c : Ctx) : Ctx :=
  if c.lists.any fun k => k.layer == l.layer && k.head == l.head then
    { c with lists := c.lists.map fun k => if k.layer = l.layer ∧ k.head = l.head then l else k }
  else { c with lists := c.lists ++ [l] }

def State.modCtx (c : Nat) (f : Ctx → Ctx) (s : State) : State :=
  match s.ctx c with
  | some x => s.setCtx c (f x)
  | none => s

/-- The tier report of a context to the admitting part: 0 HOT, 1 LOST, 2 discarded (Table 14-8). -/
def State.tierReport (c report : Nat) (s : State) : State := s.notice 7 report c 0 [] [s.admitting]

/-- The least recently used context of a tier. -/
def State.lruCtx (s : State) (t : Tier) (ok : Ctx → Bool) : Option Nat :=
  (s.ctxs.foldl (fun (best : Option (Nat × Nat)) e => match e.2 with
    | none => best
    | some x =>
      if x.tier = t ∧ ok x = true then
        match best with
        | none => some (e.1, x.used)
        | some b => if x.used < b.2 then some (e.1, x.used) else best
      else best) none).map (·.1)

/-- The context records that this part holds (field contexts of OD 0x5407). -/
def State.ctxCount (s : State) : Nat := (s.ctxs.filter fun e => e.2.isSome).length

/-- A new context record, HOT; at the limit of 16,384 the least recently used CELLAR context goes, else the least recently
used WARM one, and the discard is reported (R268). Where every record is HOT or LOST there is none to discard, and no record is made. -/
def State.newCtx (c tenant kvGen : Nat) (s : State) : State :=
  let s := if s.ctxCount < 16384 then s
    else match (s.lruCtx .cellar fun _ => true).or (s.lruCtx .warm fun _ => true) with
      | some v => (s.discardCtx v).tierReport v 2
      | none => s
  if 16384 ≤ s.ctxCount then s
  else
    (s.setCtx c { tenant := tenant, kvGen := kvGen, committed := 0, tier := .hot, lists := [], since := s.elapsed, used := s.elapsed, move := none,
                  cellar := 0, cellarAt := 0, slotLen := 0 }).mirrorCtx c

/-! ### Frames (R262, R264, R266) -/

def State.setPage (f : Nat) (p : Page) (s : State) : State := { s with pages := s.pages.put none f (some p) }

/-- Free frames of a stack: the pool less frames in use, retired, or held by steep staging. -/
def State.freeIn (s : State) (die : Nat) : Nat :=
  let total := if die = 0 then s.frames0 else s.frames1
  let mine (f : Nat) : Bool := s.frameDie f == die
  let used := (s.pages.filter fun e => mine e.1).length
  let inPool (a : Nat) : Bool := a / 2 ^ 24 == die && (s.frameOf (8192 * a)).isSome
  let single := (s.retired.filter fun e => !e.2 && inPool e.1).length + (s.retiredSoft.filter inPool).length
  let groups := (s.retired.filter fun e => e.2 && inPool (256 * e.1)).length * 256
  let staged := if die = 0 then s.staging.1 else s.staging.2
  total - used - single - groups - staged

/-- The lowest free frame of a stack at or above `f` (the choice among free frames is the model's). -/
def State.findFrame (s : State) : Nat → Nat → Option Nat
  | 0, _ => none
  | fuel + 1, f => if (s.page f).isNone && !s.isRetired f then some f else s.findFrame fuel (f + 1)

def State.takeFrame (s : State) (die : Nat) : Option Nat :=
  if s.freeIn die = 0 then none
  else s.findFrame (s.pages.length + 256 * s.retired.length + s.retiredSoft.length + 1) (if die = 0 then 0 else s.frames0)

/-- A frame is written whole: every line of it is clean. -/
def State.cleanFrame (f : Nat) (s : State) : State :=
  let base := s.frameAddr f / 64
  { s with stackLine := s.stackLine.filter fun e => !(decide (base ≤ e.1) && decide (e.1 < base + 128)) }

/-- A token slot is written with words that carry poison (R521). -/
def State.poisonSlot (f t : Nat) (s : State) : State :=
  { s with stackLine := (s.slotLines f t).foldl (fun m x => m.put 0 x 2) s.stackLine }

/-- A token slot is written whole: its lines are clean again. -/
def State.cleanSlot (f t : Nat) (s : State) : State :=
  { s with stackLine := s.stackLine.filter fun e => !(s.slotLines f t).contains e.1 }

def Page.putSlot (t : Nat) (kv : List (BitVec 4) × List (BitVec 4)) (p : Page) : Page :=
  { p with slots := p.slots.put (zeroCodes, zeroCodes) t kv, written := max p.written (t + 1) }

/-! ### Entries -/

/-- Codes of elements on a fixed page scale, and how many saturate (R41). -/
def onScale (w : Nat) (vals : List (Int × Nat)) : List (BitVec 4) × Nat :=
  let s := s16Value w
  let q := vals.map fun v => if w = 0 then (0 : Int) else divRne (v.1 * s.2) (v.2 * s.1)
  (q.map fun i => BitVec.ofNat 4 (intCode i), (q.filter fun i => decide (i < -7) || decide (7 < i)).length)

/-- A list moved to another page's scale (R272). A source scale of 0xFF is computed with as any exponent: R51 does not say that its mark
follows an entry into a page with a valid scale (DESIGN CHOICE, log 177). -/
def rescale (src dst : Nat) (l : List (BitVec 4)) : List (BitVec 4) × Nat :=
  if src = dst then (l, 0)
  else
    let a := s16Value src
    onScale dst (l.map fun c => (intElem c.toNat * a.1, a.2))

/-- Where token index `i` of a list stands: its frame and slot. -/
def PageList.locate (l : PageList) (i : Nat) : Option (Nat × Nat) := (l.frames.get none (i / 64)).map fun f => (f, i % 64)

/-- Whether a page header carries the tags of a context record (R269), and its frame may be written (R521). -/
def State.tagged (s : State) (c f : Nat) (p : Page) : Bool :=
  (match s.ctx c with
    | some x => p.ctx == c && p.tenant == x.tenant && p.kvGen == x.kvGen
    | none => false) && !s.isRetired f

/-- Move one entry of a commit (R272); not from or into a page with other tags. -/
def State.moveEntry (c : Nat) (l : PageList) (src dst : Nat) (s : State) : State :=
  if src = dst then s
  else match l.locate src, l.locate dst with
    | some (f, t), some (g, u) =>
      if !((s.page f).any (s.tagged c f) && (s.page g).any (s.tagged c g)) then s
      else
        let (bad, s) := s.readLines (s.slotLines f t) ((l.step).getD 0)
        match s.page f, s.page g with
        | some p, some q =>
          let kv := p.slot t
          let (k, n1) := rescale p.kScale q.kScale kv.1
          let (v, n2) := rescale p.vScale q.vScale kv.2
          let s := ((s.setPage g (q.putSlot u (k, v))).cleanSlot g u).bump 0x5407 0 9 (n1 + n2)
          if bad then s.poisonSlot g u else s
        | _, _ => s
    | _, _ => s

/-- What a commit leaves as the committed length, and the list of moves (R272, Table 11-7). -/
def commitMoves (f m committed : Nat) (nodes : List Nat) : Option (Nat × List (Nat × Nat)) :=
  if f < committed then none
  else some (f + m, (List.range m).map fun j => (f + nodes.getD j 0, f + j))

/-- The frames of a commit's moves whose pages carry other tags than the context's record (R269). -/
def State.foreignFrames (s : State) (c layer head f m : Nat) (nodes : List Nat) : List Nat :=
  match s.ctx c with
  | none => []
  | some x =>
    let l := x.list layer head
    let ends := ((commitMoves f m l.committed nodes).map (·.2)).getD []
    (ends.filter fun e => e.1 != e.2).flatMap fun e => [e.1, e.2].filterMap fun i => (l.locate i).bind fun a =>
      if (s.page a.1).all (s.tagged c a.1) then none else some a.1

/-- Apply a commit to a context's list. A page of other tags is neither read nor written, and is recorded (R269). -/
def State.commitList (c layer head f m : Nat) (nodes : List Nat) (s : State) : State :=
  match s.ctx c with
  | none => s
  | some x =>
    let l := x.list layer head
    match commitMoves f m l.committed nodes with
    | none => s.bump 0x5407 0 10 1
    | some (len, moves) =>
      let s := match s.foreignFrames c layer head f m nodes with
        | [] => s
        | g :: _ => (s.bump 0x5408 0 4 1).raise
            { kind := .tenant, path := pathUnit (1 + s.frameDie g) 127 0 0, detail := x.tenant, step := (l.step).getD 0 }
      let s := moves.foldl (fun s e => s.moveEntry c l e.1 e.2) s
      s.modCtx c fun x => { (x.setList { l with committed := len }) with committed := len }

/-- The index that a request commits the step before from: none where it is not its step's first for its list. A step that was abandoned
leaves no index. -/
def State.commitFrom (s : State) (step : Nat) (d : AttnDesc) : Option Nat :=
  (s.ctx d.ctx).bind fun x =>
    let l := x.list d.layer d.head
    if l.step = some step then none
    else
      let gone : Bool := match l.step with
        | some o => (s.stepRec o).phase == .abandoned
        | none => false
      some (if gone then l.before else l.first)

/-- Whether a request's commit meets a page of other tags (R269). -/
def State.commitsForeign (s : State) (step : Nat) (d : AttnDesc) : Bool :=
  match s.commitFrom step d with
  | some f => d.m != 0 && !(s.foreignFrames d.ctx d.layer d.head f d.m d.nodes).isEmpty
  | none => false

/-- The first request of a step for a list commits the step before (R272). -/
def State.firstRequest (step : Nat) (d : AttnDesc) (s : State) : State :=
  match s.commitFrom step d with
  | none => s
  | some f =>
      let s := if d.m = 0 then
          s.modCtx d.ctx fun x => { (x.setList { x.list d.layer d.head with committed := d.first }) with committed := d.first }
        else s.commitList d.ctx d.layer d.head f d.m d.nodes
      let body := leBytes 4 d.ctx ++ leBytes 1 d.layer ++ leBytes 1 d.head ++ leBytes 4 (if d.m = 0 then d.first else f) ++ leBytes 1 d.m ++ d.nodes.flatMap (leBytes 1)
      let s := s.mirrorToTwin step 2 body
      s.modCtx d.ctx fun x => x.setList { x.list d.layer d.head with first := d.first, before := f, step := some step }

/-! ### WRITE (R271, R276) -/

/-- 128 F16 values of 4 rows as ratios of units of 2^−24; none where one is NaN or poisoned (R51, R222). -/
def keyValues (cells : List VCell) : Option (List (Int × Nat)) :=
  if cells.any fun c => c.poison || f16IsNan c.bits then none else some (cells.map fun c => (f16Units c.bits, 2 ^ 24))

/-- The largest magnitude of some vectors, in units of 2^−24. -/
def largest (l : List (List (Int × Nat))) : Nat := l.foldl (fun m v => v.foldl (fun m e => max m e.1.natAbs) m) 0

/-- The scale of a page as its opening step fixes it: fit16(2 × m), 0xFF00 where a vector is invalid (R41, R51). -/
def openScale (l : List (Option (List (Int × Nat)))) : Nat :=
  if l.any Option.isNone then 0xFF00
  else
    let m := largest (l.filterMap id)
    if m = 0 then 0x7F00 else fitS16 (2 * m) (2 ^ 24)

/-- New entries of one page: `l` gives slot, key and value. A page with tags other than the request's is not written (R269). -/
def State.writePage (step c f : Nat) (l : List (Nat × Option (List (Int × Nat)) × Option (List (Int × Nat)))) (s : State) : State :=
  match (s.page f).filter (s.tagged c f) with
  | none => s
  | some p =>
    let p := if p.kScale = 0 then { p with kScale := openScale (l.map fun e => e.2.1) } else p
    let p := if p.vScale = 0 then { p with vScale := openScale (l.map fun e => e.2.2) } else p
    let p := if l.any fun e => e.2.1.isNone then { p with kScale := 0xFF00 } else p
    let p := if l.any fun e => e.2.2.isNone then { p with vScale := 0xFF00 } else p
    let narrow (w : Nat) (v : Option (List (Int × Nat))) : List (BitVec 4) × Nat :=
      match v with
      | some v => if w / 256 = 255 then (zeroCodes, 0) else onScale w v
      | none => (zeroCodes, 0)
    let (p, sat) := l.foldl (fun (acc : Page × Nat) e =>
      let (k, n1) := narrow p.kScale e.2.1
      let (v, n2) := narrow p.vScale e.2.2
      (acc.1.putSlot e.1 (k, v), acc.2 + n1 + n2)) (p, 0)
    let s := (s.setPage f p).bump 0x5407 0 9 sat
    let s := l.foldl (fun s e => s.cleanSlot f e.1) s
    s.mirrorToTwin step 1 (p.header ++ l.flatMap fun e => slotBytes e.1 (p.slot e.1) false)

/-- Page numbers that positions first to first + P − 1 lie in. -/
def pagesOf (first p : Nat) : List Nat := if p = 0 then [] else (List.range ((first + p - 1) / 64 - first / 64 + 1)).map (first / 64 + ·)

/-- Take frames for the missing pages of a list; none where the pool has too few, or a page lies beyond token 131,071. -/
def State.openPages (die : Nat) (d : AttnDesc) : List Nat → State → Option State
  | [], s => some s
  | n :: ns, s =>
    match s.ctx d.ctx with
    | none => none
    | some x =>
      let l := x.list d.layer d.head
      if 2048 ≤ n then none
      else match l.frames.get none n with
        | some _ => s.openPages die d ns
        | none =>
          match s.takeFrame die with
          | none => none
          | some f =>
            let p : Page := { ctx := d.ctx, tenant := d.tenant, layer := d.layer, head := d.head, first := 64 * n, kScale := 0,
                              vScale := 0, kvGen := d.kvGen, state := 1, written := 0, slots := [] }
            ((s.setPage f p).modCtx d.ctx fun x => x.setList { l with die := die, frames := l.frames.put none n (some f) }).openPages die d ns

/-- The rows of a block of the hearth's buffer, as the gang reads them. -/
def State.gangRead (h row n : Nat) (s : State) : List VCell × State := s.readRows h (s.hearth h).now row n

/-- The new entries of a request; false where no frame can be had. -/
def State.writeEntries (step die h : Nat) (d : AttnDesc) (s : State) : Bool × State :=
  match s.openPages die d (pagesOf d.first d.p) with
  | none => (false, s)
  | some s' =>
    let (ks, s') := s'.gangRead h d.kvRow (4 * d.p)
    let (vs, s') := s'.gangRead h (d.kvRow + 4 * d.p) (4 * d.p)
    let entry (i : Nat) : Nat × Option (List (Int × Nat)) × Option (List (Int × Nat)) :=
      ((d.first + i) % 64, keyValues (slice (128 * i) 128 ks), keyValues (slice (128 * i) 128 vs))
    let frameAt (s : State) (n : Nat) : Option Nat := (s.ctx d.ctx).bind fun x => (x.list d.layer d.head).frames.get none n
    (true, (pagesOf d.first d.p).foldl (fun s n =>
      match frameAt s n with
      | none => s
      | some f => s.writePage step d.ctx f (((List.range d.p).filter fun i => (d.first + i) / 64 == n).map entry)) s')

/-! ### Scores (R273, R274) -/

/-- A query row: 128 elements, 8 block scales, whether it carries poison. -/
structure Query where
  elems : List Int
  scales : List Nat
  poison : Bool
deriving DecidableEq, Repr

def nibbles (bs : List Byte) : List Nat := bs.flatMap fun b => [b.toNat % 16, b.toNat / 16]

/-- Query row `r` from the query block's rows and scale rows. -/
def queryOf (q sc : List VCell) (r : Nat) : Query :=
  let row := slice (32 * r) 32 q
  let scRow := slice (4 * r) 4 sc
  { elems := (nibbles (bytesOfCells row)).map intElem, scales := (bytesOfCells scRow).map (·.toNat), poison := row.any (·.poison) || scRow.any (·.poison) }

/-- The score factor, an F32; none for a NaN or infinity pattern. -/
def f32Ratio (w : Nat) : Option (Int × Nat) :=
  let e := field w 30 23
  if e = 255 then none
  else
    let m : Nat := if e = 0 then field w 22 0 else field w 22 0 + 2 ^ 23
    let p := pow2 ((max e 1 : Nat) - 150 : Int)
    let v : Int := m * p.1
    some (if bit w 31 then -v else v, p.2)

/-- d_j of R273. -/
def blockDot (q k : List Int) (j : Nat) : Int := ((List.range 16).map fun i => q.getD (16 * j + i) 0 * k.getD (16 * j + i) 0).sum

/-- The exact score sum acc of R273 for e_m = `em`. -/
def scoreSum (q : Query) (k : List Int) (em : Nat) : Int :=
  ((List.range 8).map fun j =>
    let e := q.scales.getD j 255
    if e = 255 ∨ e + 10 < em then 0 else divRne (blockDot q.elems k j) (2 ^ (em - e))).sum

/-- t_i of R273. -/
def scoreOf (q : Query) (k : List Int) (em kScale : Nat) (factor : Int × Nat) : Int :=
  let a := e8Value em
  let b := s16Value kScale
  clampInt (-32768) 32767 (divRne (256 * scoreSum q k em * a.1 * b.1 * factor.1) (a.2 * b.2 * factor.2))

/-- The largest valid scale of a query row. -/
def Query.top (q : Query) : Nat := (q.scales.filter (· != 255)).foldl max 0

/-! ### One output row (R275) -/

/-- A page as a request reads it: its first token, scales, slots, whether it is readable. -/
structure SeenPage where
  first : Nat
  kScale : Nat
  vScale : Nat
  slots : Tab (List (BitVec 4) × List (BitVec 4))
  nan : Bool
  poison : Bool
deriving DecidableEq, Repr

/-- Token slots of a page that a row sees. -/
def SeenPage.visible (see : Nat → Bool) (p : SeenPage) : List Nat := (List.range 64).filter fun t => see (p.first + t)

def SeenPage.slot (p : SeenPage) (t : Nat) : List (BitVec 4) × List (BitVec 4) := p.slots.get (zeroCodes, zeroCodes) t

def invalidRow (poison : Bool) (seed : Nat) : List VCell := List.replicate 128 { bits := f16Nan seed, poison := poison, bad := false }

/-- F32 sum of two values given in its units of 2^−149. -/
def f32Add (a b : Int) : Int := f32Units (a + b) (2 ^ 149)

/-- The 128 results of one query row; a row that sees no key has no stated value. -/
def outputRow (q : Query) (factor : Option (Int × Nat)) (see : Nat → Bool) (pages : List SeenPage) (seed : Nat) : List VCell :=
  let seen := pages.filter fun p => !(p.visible see).isEmpty
  if q.poison || seen.any (·.poison) then invalidRow true seed
  else match factor with
    | none => invalidRow false seed
    | some fac =>
      if q.scales.any (· == 255) || seen.any (·.nan) then invalidRow false seed
      else
        let em := q.top
        let scores := seen.map fun p => (p, (p.visible see).map fun t =>
          (t, scoreOf q ((p.slot t).1.map fun c => intElem c.toNat) em p.kScale fac))
        let all := scores.flatMap fun e => e.2.map (·.2)
        match all with
        | [] => (List.range 128).map fun i => { bits := freeF16 (Config.freeWord (seed + i)), poison := false, bad := false }
        | t0 :: ts =>
          let tMax := ts.foldl max t0
          let p4 (t : Int) : Nat := p4OfL8 (min 255 (divRne (tMax - t) 16).toNat)
          let weights := scores.map fun e => (e.1, e.2.map fun x => (x.1, p4 x.2))
          let total := (weights.flatMap fun e => e.2.map (·.2)).sum
          (List.range 128).map fun dim =>
            let acc := weights.foldl (fun (a : Int) e =>
              let sum : Int := (e.2.map fun x => (x.2 : Int) * intElem ((e.1.slot x.1).2.getD dim 0).toNat).sum
              let v := s16Value e.1.vScale
              f32Add a (f32Units (sum * v.1) v.2)) 0
            { bits := f16OfRat (decide (acc < 0)) acc (2 ^ 149 * total), poison := false, bad := false }

/-! ### ATTENTION_START (R270 to R276) -/

/-- Why a request is not served as asked: its tags or its tier (R269, R285). -/
def State.attnMismatch (s : State) (d : AttnDesc) : Bool :=
  match s.ctx d.ctx with
  | none => true
  | some x => x.tier != .hot || x.tenant != d.tenant || x.kvGen != d.kvGen

/-- One page of a request: tags compared, its lines read. -/
def State.seePage (step die : Nat) (d : AttnDesc) (n : Nat) (s : State) : Option SeenPage × Bool × State :=
  let frame := (s.ctx d.ctx).bind fun x => (x.list d.layer d.head).frames.get none n
  match frame.bind fun f => (s.page f).map fun p => (f, p) with
  | none => (none, false, s)
  | some (f, p) =>
    let wrong := p.tenant != d.tenant || p.ctx != d.ctx || p.kvGen != d.kvGen
    let (bad, s) := if wrong then (true, s) else s.readFrame f step
    (some { first := 64 * n, kScale := p.kScale, vScale := p.vScale, slots := if wrong then [] else p.slots,
            nan := s16Invalid p.kScale || s16Invalid p.vScale, poison := bad || s.frameDie f != die }, wrong, s)

def State.seePages (step die : Nat) (d : AttnDesc) : List Nat → State → List SeenPage × Bool × State
  | [], s => ([], false, s)
  | n :: ns, s =>
    let (p, w, s) := s.seePage step die d n
    let (ps, w', s) := s.seePages step die d ns
    (p.toList ++ ps, w || w', s)

/-- A TENANT record (R269). -/
def State.tenantRecord (die step : Nat) (d : AttnDesc) (s : State) : State :=
  (s.bump 0x5408 0 4 1).raise { kind := .tenant, path := pathUnit (1 + die) (8 * d.gang) 0 0, detail := d.tenant, step := step }

/-- The mask word of a position (R271, R274). -/
def maskWord (cells : List VCell) (p : Nat) : Nat := i32Nat (slice (2 * p) 2 cells)
where
  /-- Two lanes as a U32. -/
  i32Nat : List VCell → Nat
    | a :: b :: _ => a.bits.toNat + 65536 * b.bits.toNat
    | _ => 0

/-- Whether position `p` of a request sees token `i` (R274). -/
def AttnDesc.sees (d : AttnDesc) (committed : Nat) (masks : List VCell) (p i : Nat) : Bool :=
  if i < committed then true
  else if i < d.first ∨ d.first + d.p ≤ i then false
  else if d.tree then bit (maskWord masks p) (i - d.first) else decide (i ≤ d.first + p)

/-- The output rows of a request, as inbound rows of its hearth from source `src`. -/
def AttnDesc.outRows (d : AttnDesc) (src step : Nat) (results : List (List VCell)) : List InRow :=
  results.zipIdx.flatMap fun r => (List.range 4).map fun k =>
    { row := d.outRow + 4 * r.2 + k, cells := slice (32 * k) 32 r.1, src := src, xfer := 0, bulk := false, event := none, step := step, serial := 0,
      start := if src < 144 then edgeW else edgeE, flit := (4 * r.2 + k) / 2 }

/-- Compute a request: every output row. -/
def State.attend (step die h : Nat) (d : AttnDesc) (s : State) : List (List VCell) × State :=
  let poisoned := List.replicate d.rows (invalidRow true s.free)
  if s.attnMismatch d then (poisoned, s.tenantRecord die step d)
  else
    let foreign := s.commitsForeign step d
    let s := s.firstRequest step d
    let s := s.modCtx d.ctx fun x => { x with used := s.elapsed }
    -- a line that the commit found uncorrectable has made the context LOST (R264)
    if foreign || s.attnMismatch d then (poisoned, s)
    else
    let (ok, s) := if d.write then s.writeEntries step die h d else (true, s)
    if !ok then
      let s := (s.bump 0x5408 0 5 1).raise { kind := .kvFull, path := pathUnit (1 + die) (8 * d.gang) 0 0, detail := d.ctx, step := step }
      (poisoned, if (s.steps.get none step).isNone then s else s.modStep step fun r => { r with kvFull := true })
    else
      let (q, s) := s.gangRead h d.qRow d.rows
      let (sc, s) := s.gangRead h (d.qRow + d.rows) (ceilDiv d.rows 8)
      let (masks, s) := if d.tree then s.gangRead h d.maskRow (ceilDiv d.p 16) else ([], s)
      let committed := ((s.ctx d.ctx).map fun x => (x.list d.layer d.head).committed).getD 0
      let (pages, wrong, s) := s.seePages step die d (List.range (ceilDiv (max committed (d.first + d.p)) 64)) 
      let s := if wrong then s.tenantRecord die step d else s
      let factor := f32Ratio d.factor
      let badMask := masks.any (·.poison)
      let rows := (List.range d.rows).map fun r =>
        let qr := queryOf q sc r
        outputRow { qr with poison := qr.poison || badMask } factor (d.sees committed masks (r / d.g)) pages (s.free + 128 * r)
      (rows, s.spend (128 * d.rows))

/-! ### Requests of a shadow run (15 R370) -/

/-- Work in the scratch of a shadow run: pages, contexts and lines are those that the run sees; the real ones stay, but for a fault that a
read has found: its frame is retired, and the context that owned it is LOST (11 R264). -/
def State.inScratch {α : Type} (f : State → α × State) (s : State) : α × State :=
  match s.shadow with
  | none => f s
  | some x =>
    let (a, t) := f { s with pages := x.pages, ctxs := x.ctxs, stackLine := x.lines }
    let seen := s.stackLine.map fun e => (e.1, if t.stackLine.get 0 e.1 = 0 then e.2 else t.stackLine.get 0 e.1)
    let lost := s.od 0x5407 0 7
    let t := { t.setOd 0x5407 0 7 lost with shadow := some { x with pages := t.pages, ctxs := t.ctxs, lines := t.stackLine },
                                            pages := s.pages, ctxs := s.ctxs, stackLine := seen }
    (a, t.dropPages (t.pages.filterMap fun e => e.2.bind fun p => if t.isRetired e.1 && !s.isRetired e.1 then some (e.1, p.ctx) else none))

/-- Where the scratch lists the step before a run's request as not yet committed, its first index follows from the request; where the
mirrored commit has come, there is none to make. -/
def State.scratchCommit (step : Nat) (d : AttnDesc) (s : State) : State :=
  s.modCtx d.ctx fun x =>
    let l := x.list d.layer d.head
    if l.step = some step then x
    else if d.m ≠ 0 ∧ d.first ≤ l.committed then x.setList { l with step := some step }
    else x.setList { l with first := d.first - d.m, step := none }

/-- A request of a shadow run, served in its scratch. -/
def State.attendShadow (step die h : Nat) (d : AttnDesc) (s : State) : List (List VCell) × State :=
  s.inScratch fun s =>
    let s := if (s.ctx d.ctx).isNone then
        s.setCtx d.ctx { tenant := d.tenant, kvGen := d.kvGen, committed := 0, tier := .hot, lists := [], since := s.elapsed, used := s.elapsed,
                         move := none, cellar := 0, cellarAt := 0, slotLen := 0 }
      else s
    (s.scratchCommit step d).attend step die h d

/-- The source number of a gang's rows in an inbound queue. -/
def gangSource (die gang : Nat) : Nat := 140 + 4 * die + gang

/-- The first request of a gang's queue. -/
def AttnReq.ofGang (die gang : Nat) (r : AttnReq) : Bool := r.die == die && (attnDesc r.request).gang == gang

/-- Pages of a context in one stack. -/
def State.pagesIn (s : State) (die c : Nat) : Nat :=
  (s.pages.filter fun e => s.frameDie e.1 == die && (match e.2 with
    | some p => p.ctx == c
    | none => false)).length

/-- Bytes of a CELLAR slot (R284). -/
def State.slotSize (s : State) : Nat := 64 + if s.od 0x5402 3 0 = 1 then 6144 else 8192

/-- Whether a stretch of the CELLAR region is free of slots. -/
def State.cellarFree (s : State) (at_ n : Nat) : Bool :=
  s.ctxs.all fun e => match e.2 with
    | some x => x.cellar == 0 || decide (at_ + n ≤ x.cellarAt) || decide (x.cellarAt + x.cellar ≤ at_)
    | none => true

/-- The lowest stretch of the CELLAR region for `n` bytes (the place of slots is the model's choice). -/
def State.cellarPlace (s : State) (n : Nat) : Option Nat :=
  let ends := s.ctxs.filterMap fun e => e.2.map fun x => x.cellarAt + x.cellar
  let fit := (0 :: ends).filter fun a => s.cellarFree a n && decide (a + n ≤ s.od 0x5403 0 2)
  match fit with
  | [] => none
  | a :: l => some (l.foldl min a)

/-- The bytes a context takes in the CELLAR region. -/
def State.cellarNeed (s : State) (c : Nat) : Nat := (s.pagesIn 0 c + s.pagesIn 1 c) * s.slotSize

/-- Whether the CELLAR region has room for a context. -/
def State.cellarRoom (s : State) (c : Nat) : Bool := s.od 0x5403 0 2 != 0 && (s.cellarPlace (s.cellarNeed c)).isSome

/-- Start a move of a context to CELLAR (R282, R283). Its slots are taken now, of the length that OD 0x5402.03 then gives. -/
def State.startDemote (c : Nat) (s : State) : State :=
  s.modCtx c fun x =>
    { x with move := some { kind := 1, resume := false, discard := false }, cellar := s.cellarNeed c,
             cellarAt := (s.cellarPlace (s.cellarNeed c)).getD 0, slotLen := s.slotSize }

/-- Free frames of a stack once the moves in progress to CELLAR end. -/
def State.freeSoon (s : State) (die : Nat) : Nat :=
  s.ctxs.foldl (fun n e => match e.2 with
    | some x => match x.move with
      | some m => if m.kind = 1 then n + s.pagesIn die e.1 else n
      | none => n
    | none => n) (s.freeIn die)

/-- Free frames below the low-water mark: the part demotes its least recently used WARM contexts until the count is
restored, or discards them and reports it where no CELLAR region has room (R283). With KVMOVE clear it waits (R522). -/
def State.relievePool : Nat → State → State
  | 0, s => s
  | fuel + 1, s =>
    if !s.enabled 10 || (decide (s.od 0x5400 3 0 ≤ s.freeSoon 0) && decide (s.od 0x5400 3 0 ≤ s.freeSoon 1)) then s
    else match s.lruCtx .warm fun x => x.move.isNone with
      | none => s
      | some c => (if s.cellarRoom c then s.startDemote c else (s.discardCtx c).tierReport c 2).relievePool fuel

/-- Whatever lowers the free frames, raises the mark or makes a context WARM is followed by this (R283). -/
def State.relieve (s : State) : State := s.relievePool s.ctxs.length

/-- Whether the run of a step that submitted a request still stands at its hearth: else its results are discarded (R279). -/
def State.attnLives (s : State) (r : AttnReq) : Bool :=
  (s.stepRec r.step).phase == .running && (s.stepRec r.step).runs == r.run && (s.hearth r.hearth).step == r.step

/-- Requests whose fetch stands in a hearth's calendar come first: a gang starts what the stokers have fetched (R270). -/
def State.reachAttn (die : Nat) (s : State) : State :=
  (s.hearths.map (·.1)).foldl (fun s h =>
    let due (n : Slot) : Option Nat := match n.due with
      | .attn g => if g.target % 2 = die then some n.cc else none
      | _ => none
    match (s.hearth h).calendar.findSome? due with
    | some cc => s.advance h cc
    | none => s) s

/-- A gang serves a request that it has not started. A request for a handle with no record opens one where it starts at token 0, and is
refused with TENANT where it goes on from tokens that the part does not hold (R285; DEDUCED, log 52). A request of a shadow run is served in
its scratch. -/
def State.serveRequest (dn gang : Nat) (r : AttnReq) (upset : Option Upset) (s : State) : State :=
  let d := attnDesc r.request
  let shadow := s.isShadow r.step
  let s := if !shadow && (s.ctx d.ctx).isNone && d.first == 0 then s.newCtx d.ctx d.tenant d.kvGen else s
  let (rows, s) := if shadow then s.attendShadow r.step dn r.hearth d else s.attend r.step dn r.hearth d
  let hit := match upset with
    | some u => u.expected != u.found
    | none => false
  let rows := if hit then rows.map fun l => l.map fun c => { c with poison := true } else rows
  let s := match upset with
    | some u => if hit then s.raiseResidue (pathUnit (1 + dn) (8 * d.gang) 0 0) r.step 0xFFFF 7 u else s
    | none => s
  let s := s.bump 0x5408 0 0 1
  let s := if 8388608 < d.rows * (d.first + d.p) then s.bump 0x5408 0 1 1 else s
  let s := { s with attnQueue := s.attnQueue.map fun e => if e = r then { e with started := true } else e }
  let s := if s.attnLives r then s.sendRows r.hearth (s.hearth r.hearth).now (d.outRows (gangSource dn gang) r.step rows) else s
  if shadow then s else s.relieve

/-- ATTENTION_START: the gang takes the oldest of its requests that it has not started: commit, new entries, and the output
rows, which go to the hearth's inbound queue. A residue mismatch in its arithmetic poisons every output row. A request that came with a
parity error is discarded and recorded; its hearth's wait times out (10 R259). -/
def execAttentionStart (die : BitVec 1) (gang : BitVec 2) (found : AttnFaults) (s : State) : Host.Outcome State Fault Refusal :=
  .next (
    let s := s.reachAttn die.toNat
    match s.attnQueue.filter (AttnReq.ofGang die.toNat gang.toNat) with
    | [] => s
    | r :: _ =>
      if r.started then s
      else match found.parity with
        | some f => { s with attnQueue := s.attnQueue.erase r }.meshParity (routeOut r.hearth (stackEdge r.die)) f r.step
        | none => s.serveRequest die.toNat gang.toNat r found.upset)

/-- ATTENTION_COMPLETE: at cycle `cc` the last output row of the gang's request has been accepted and its local flag is
set; a latency beyond its bound is an overrun (R279). Results of a failed step are discarded. -/
def execAttentionComplete (die : BitVec 1) (gang : BitVec 2) (latencyNs : BitVec 32) (cc : Nat) (s : State) : Host.Outcome State Fault Refusal :=
  .next (
    match s.attnQueue.find? fun r => r.ofGang die.toNat gang.toNat && r.started with
    | none => s
    | some r =>
      let alive := s.attnLives r
      let s := if alive then s.advance r.hearth cc else s
      if alive && !(s.hearth r.hearth).accepted (gangSource die.toNat gang.toNat) then s
      else
        let s := { s with attnQueue := s.attnQueue.erase r }
        let s := s.setOd 0x5408 0 3 (max (s.od 0x5408 0 3) latencyNs.toNat)
        let s := if r.bound < latencyNs.toNat * 134400 then s.bump 0x5408 0 2 1 else s
        if alive then s.setFlag r.hearth r.event cc else s)

/-! ### STACK_SCRUB (R263, R264) -/

/-- Errors arise in the cells of a line: correctable (3), or uncorrectable (1); what already reads worse stays. -/
def State.upsetLine (line : Nat) (found : ReadState) (s : State) : State :=
  let st := s.stackLine.get 0 line
  match found with
  | .clean => s
  | .corrected => if st = 0 then { s with stackLine := s.stackLine.put 0 line 3 } else s
  | .uncorrectable => if st = 2 then s else { s with stackLine := s.stackLine.put 0 line 1 }

/-- STACK_SCRUB: the patrol reads a line. A corrected line is written back; an uncorrectable one is found now and keeps
delivering poison. The last line of a stack ends a pass. `found.others` tells of errors that have arisen in the cells of other lines, where the
next read of any kind finds them (DESIGN CHOICE, log 195: the table has no row for an upset). -/
def execStackScrub (line : BitVec 32) (found : LineScrub) (s : State) : Host.Outcome State Fault Refusal :=
  .next (
    let n := line.toNat
    let s := (found.others.foldl (fun s e => s.upsetLine e.1.toNat e.2) s).upsetLine n found.found
    let st := s.stackLine.get 0 n
    let s := if st = 3 then { s.correctLine n with stackLine := s.stackLine.put 0 n 0 } else if st = 1 then (s.stackError n 0).relieve else s
    if n % 2 ^ 31 = 2 ^ 31 - 1 then s.bump 0x5408 0 9 1 else s)

end Sys2Proof.Machine
end

