-- ==== Sys2Proof/Machine/Tiers.lean ====
section
/-! DEFINITION. Machine/Tiers.lean: KV tiers and the KV mover (11 R280 to R286; 02 R42, R43), tier actions of the admitting
part and their notices, and the size of the data area (R262). -/

namespace Sys2Proof.Machine

/-! ### Reads of host memory -/

/-- A read leaves on a port under the next tag. -/
def State.hostRead (port : HostPort) (addr len : Nat) (why : ReadFor) (s : State) : State :=
  let r : HostRead := { port := port, tag := s.nextRead, addr := addr, len := len, why := why, retried := false }
  { s with reads := s.reads ++ [r], nextRead := (s.nextRead + 1) % 1024 }.emit (.hostRead port r.tag addr len)

/-! ### Slots (R284) -/

/-- K3 from K4 (R42): an element, and a scale. -/
def k3Code (c : BitVec 4) : Nat := (clampInt (-3) 3 (divRne (intElem c.toNat * 3) 7) % 8).toNat

def k3Scale (w : Nat) : Nat :=
  if s16Invalid w then w
  else
    let s := s16Value w
    s16OfRat (s.1 * 7) (s.2 * 3)

/-- K4 from K3 (R43): 0b100 is never written. -/
def k4Code (c : Nat) : BitVec 4 := BitVec.ofNat 4 (intCode (2 * toSigned 3 c))

/-- The scale of K4 from K3 (R43): E one lower. A word with E = 0 cannot be halved so and stays as it is (DESIGN CHOICE, log 176). -/
def k4Scale (w : Nat) : Nat := if s16Invalid w ∨ w < 256 then w else w - 256

/-- Eight three-bit elements in three bytes, element 0 lowest. -/
def pack3 (l : List Nat) : List Byte :=
  (List.range (l.length / 8)).flatMap fun i => leBytes 3 ((slice (8 * i) 8 l).foldr (fun c n => n * 8 + c) 0)

def unpack3 (b : List Byte) : List Nat :=
  (List.range (b.length / 3)).flatMap fun i => (List.range 8).map fun k => leAt b (3 * i) 3 / 8 ^ k % 8

/-- The elements of a page, K of every token slot, then V. -/
def Page.codes (p : Page) : List (BitVec 4) :=
  ((List.range 64).flatMap fun t => (p.slot t).1) ++ (List.range 64).flatMap fun t => (p.slot t).2

/-- A CELLAR slot of a page: its header with the CRC of the data at 60, then the data. -/
def Page.slotOut (k3 : Bool) (p : Page) : List Byte :=
  let q := if k3 then { p with kScale := k3Scale p.kScale, vScale := k3Scale p.vScale, state := 3 } else { p with state := 3 }
  let data := if k3 then pack3 (p.codes.map k3Code) else packWide p.codes
  patch (patch (List.replicate 64 0) 0 q.header) 60 (leBytes 4 (crc32 data)) ++ data
where
  /-- Four-bit codes two to a byte. -/
  packWide (l : List (BitVec 4)) : List Byte :=
    (List.range (l.length / 2)).map fun i => BitVec.ofNat 8 ((l.getD (2 * i) 0).toNat + 16 * (l.getD (2 * i + 1) 0).toNat)

/-- A page read back from a slot of 64 bytes of header and its data; none where its CRC fails. -/
def pageOfSlot (b : List Byte) : Option Page :=
  let data := b.drop 64
  if leAt b 60 4 ≠ crc32 data ∨ (data.length ≠ 6144 ∧ data.length ≠ 8192) then none
  else
    let k3 := data.length == 6144
    let codes : List (BitVec 4) := if k3 then (unpack3 data).map k4Code else (nibbles data).map (BitVec.ofNat 4)
    let scale (w : Nat) : Nat := if k3 then k4Scale w else w
    let slots : Tab (List (BitVec 4) × List (BitVec 4)) := (List.range 64).foldl (fun m t =>
      m.put (zeroCodes, zeroCodes) t (slice (128 * t) 128 codes, slice (8192 + 128 * t) 128 codes)) []
    some { ctx := leAt b 0 4, tenant := leAt b 4 2, layer := leAt b 6 1, head := leAt b 7 1, first := leAt b 8 4, kScale := scale (leAt b 12 2),
           vScale := scale (leAt b 14 2), kvGen := leAt b 16 4, state := 1, written := leAt b 21 1, slots := slots }

/-! ### Tier changes on this part -/

/-- The state field of the headers of a context's pages. -/
def State.markPages (c code : Nat) (s : State) : State :=
  { s with pages := s.pages.map fun e => match e.2 with
      | some p => if p.ctx = c then (e.1, some { p with state := code }) else e
      | none => e }

/-- Set the tier of a context and the state of its pages. -/
def State.setTier (c : Nat) (t : Tier) (code : Nat) (s : State) : State :=
  ((s.modCtx c fun x => { x with tier := t, since := s.elapsed }).markPages c code).mirrorCtx c

/-- Start reading a context back from CELLAR: one read per slot, of the length it was written with (R284, R285). -/
def State.startRestore (c : Nat) (s : State) : State :=
  match s.ctx c with
  | none => s
  | some x =>
    let port : HostPort := if s.od 0x5403 0 0 = 0 then .a else .b
    let s := s.modCtx c fun x => { x with move := some { kind := 2, resume := false, discard := false } }
    (List.range (x.cellar / x.slotLen)).foldl (fun s i =>
      s.hostRead port (s.od 0x5403 0 1 + x.cellarAt + i * x.slotLen) x.slotLen (.slot c i)) s

/-- PAUSE: a HOT context becomes WARM; below the low-water mark it may move on at once (R283). -/
def State.pauseHere (c : Nat) (s : State) : State :=
  match (s.ctx c).map (·.tier) with
  | some Tier.hot => ((s.setTier c .warm 2).bump 0x5407 0 1 1).relieve
  | _ => s

/-- A context that this part has lost, or has no record of: in a MIRROR pair with cover a CONTEXT record asks the twin for its copy (R285, 15
R377), else it is reported LOST. -/
def State.askTwin (c tenant kvGen : Nat) (s : State) : State :=
  match s.twin with
  | some t =>
    if (s.ownEntry.map (·.mode)) = some 1 ∧ s.od 0x4102 0 0 = 0 then s.mirrorTo 3 (lostBody c tenant kvGen) t else s.tierReport c 1
  | none => s.tierReport c 1

/-- RESUME (R285): at once from WARM, by a read back from CELLAR, after a demotion that still runs; a context that is LOST
or unknown here is copied from the twin or reported. -/
def State.resumeHere (c : Nat) (s : State) : State :=
  match s.ctx c with
  | none => s.askTwin c 0 0
  | some x =>
    match x.move, x.tier with
    | some m, _ => s.modCtx c fun x => { x with move := some { m with resume := true } }
    | none, .hot => s.tierReport c 0
    | none, .warm => ((s.setTier c .hot 1).bump 0x5407 0 2 1).tierReport c 0
    | none, .cellar => s.startRestore c
    | none, .lost => s.askTwin c x.tenant x.kvGen

/-- DEMOTE: a WARM context starts to move to CELLAR; without room there it is discarded and reported (R283). -/
def State.demoteHere (c : Nat) (s : State) : State :=
  match s.ctx c with
  | none => s
  | some x =>
    if x.tier ≠ .warm ∨ x.move.isSome then s
    else if s.cellarRoom c then s.startDemote c
    else (s.discardCtx c).tierReport c 2

/-- DISCARD: frames and slots are freed, a read back stops (Table 11-7). -/
def State.discardHere (c : Nat) (s : State) : State :=
  let s := { s with reads := s.reads.filter fun r => match r.why with
    | .slot d _ => d != c
    | _ => true }
  s.discardCtx c

/-- RENEW: the CELLAR timer starts anew. -/
def State.renewHere (c : Nat) (s : State) : State :=
  match (s.ctx c).map (·.tier) with
  | some Tier.cellar => s.modCtx c fun x => { x with since := s.elapsed }
  | _ => s

/-- A tier action as the mover carries it out: 1 PAUSE, 2 RESUME, 3 DEMOTE, 4 DISCARD, 5 RENEW. -/
def State.tierNow (action c : Nat) (s : State) : State :=
  if action = 1 then s.pauseHere c
  else if action = 2 then s.resumeHere c
  else if action = 3 then s.demoteHere c
  else if action = 4 then { s with tierWaits := s.tierWaits.filter fun e => e.2 != c }.discardHere c
  else if action = 5 then s.renewHere c
  else s

/-- Whether an action would move a context between tiers here, or stands behind one that waits to. -/
def State.moveDue (s : State) (action c : Nat) : Bool :=
  match s.ctx c with
  | none => false
  | some x =>
    action ≤ 3 && (s.tierWaits.any (·.2 == c) || (action == 1 && x.tier == .hot) || (action == 2 && (x.tier == .warm || x.tier == .cellar)) ||
      (action == 3 && x.tier == .warm))

/-- A tier action at this part. A tier move that falls due while KVMOVE is clear waits until the bit is set: the context keeps its tier
(07 R522). -/
def State.tierHere (action c : Nat) (s : State) : State :=
  if !s.enabled 10 && s.moveDue action c then { s with tierWaits := s.tierWaits ++ [(action, c)] } else s.tierNow action c

/-- KVMOVE is set: the moves that waited are carried out in order, and those of pool pressure. -/
def State.resumeMoves (s : State) : State :=
  if !s.enabled 10 then s else (s.tierWaits.foldl (fun (s : State) e => s.tierNow e.1 e.2) { s with tierWaits := [] }).relieve

/-! ### Tier actions of the admitting part (R281) -/

def State.timer (s : State) (c : Nat) : Option TierTimer := s.tiers.get none c

def State.setTimer (c : Nat) (t : Option TierTimer) (s : State) : State := { s with tiers := s.tiers.put none c t }

/-- What an action does to the admitting part's timer. The CELLAR timer of a context that this part holds starts when its move ends here; of
any other, for want of a report, when DEMOTE is sent (DESIGN CHOICE, log 52). -/
def State.noteTier (action c : Nat) (s : State) : State :=
  let fresh (t : Tier) : State := s.setTimer c (some { tier := t, since := s.elapsed, awaiting := [], lost := false })
  let tierIs (x : Tier) : Bool := (s.timer c).any fun t => t.tier == x && t.awaiting == []
  if action = 1 then (if tierIs .warm || tierIs .cellar || tierIs .lost then s else fresh .warm)
  else if action = 2 then
    match s.timer c with
    | some t => s.setTimer c (some { t with awaiting := s.allParts, lost := false })
    | none => s
  else if action = 3 then (if tierIs .warm && (s.ctx c).isNone then fresh .cellar else s)
  else if action = 4 then s.setTimer c none
  else
    match s.timer c with
    | some t => if t.tier = .cellar then s.setTimer c (some { t with since := s.elapsed }) else s
    | none => s

/-- Whether a tier is colder than another. -/
def Tier.rank : Tier → Nat
  | .hot => 0
  | .warm => 1
  | .cellar => 2
  | .lost => 3

/-- A tier is reached on this part: where it is colder than any before, the admitting part starts its timer (R281). -/
def State.reachTier (c : Nat) (t : Tier) (s : State) : State :=
  match s.timer c with
  | some x => if s.isAdmitting && x.awaiting == [] && decide (x.tier.rank < t.rank) then s.setTimer c (some { x with tier := t, since := s.elapsed }) else s
  | none => s

/-- A tier action: the admitting part sends it to every part of the stage table; every part carries it out. -/
def State.tierAction (action c : Nat) (s : State) : State :=
  let s := if s.isAdmitting then (s.noteTier action c).notice 6 action c 0 [] (s.allParts.filter (· != s.endpoint)) else s
  s.tierHere action c

/-- Nanoseconds a context may stay in a tier (Table 11-5). -/
def State.ttl (s : State) (t : Tier) : Nat :=
  match t with
  | .warm => 1000000000 * s.od 0x5402 1 0
  | .cellar => 1000000000 * s.od 0x5402 2 0
  | _ => 0

/-- Whether a timer of a tier has run out. -/
def State.expired (s : State) (c : Nat) (t : Tier) : Bool :=
  match s.timer c with
  | some x => x.tier == t && decide (x.since + s.ttl t ≤ s.elapsed)
  | none => false

/-- Whether a RENEW comes too late: expiry wins within its millisecond (Table 11-7), and a context that has expired has no timer left. -/
def State.renewLate (s : State) (c : Nat) : Bool :=
  match s.timer c with
  | some x => x.tier == .cellar && decide ((x.since + s.ttl .cellar) / 1000000 ≤ s.elapsed / 1000000)
  | none => true

def execTierPause (ctx : BitVec 32) (s : State) : Host.Outcome State Fault Refusal := .next (s.tierAction 1 ctx.toNat)
def execTierResume (ctx : BitVec 32) (s : State) : Host.Outcome State Fault Refusal := .next (s.tierAction 2 ctx.toNat)
def execTierDemote (ctx : BitVec 32) (s : State) : Host.Outcome State Fault Refusal := .next (s.tierAction 3 ctx.toNat)
def execTierDiscard (ctx : BitVec 32) (s : State) : Host.Outcome State Fault Refusal := .next (s.tierAction 4 ctx.toNat)
/-- RENEW after the CELLAR timer has run out is refused by the admitting part, which keeps it: expiry wins (R281, Table 11-7). -/
def execTierRenew (ctx : BitVec 32) (s : State) : Host.Outcome State Fault Refusal :=
  .next (if s.isAdmitting && s.renewLate ctx.toNat then s else s.tierAction 5 ctx.toNat)

/-- WARM_EXPIRY (R282): DEMOTE where every part has a CELLAR region configured, else DISCARD. `expiry.cellars` tells of the other parts: no rule
gives the admitting part their OD 0x5403 (DESIGN CHOICE, log 52). A context that is already on its way to CELLAR has no second expiry. -/
def execWarmExpiry (expiry : WarmExpiry) (s : State) : Host.Outcome State Fault Refusal :=
  .next (
    let c := expiry.ctx.toNat
    if !s.expired c .warm || ((s.ctx c).bind (·.move)).isSome then s
    else (s.bump 0x5407 0 5 1).tierAction (if expiry.cellars && s.od 0x5403 0 2 != 0 then 3 else 4) c)

/-- CELLAR_EXPIRY (R282): DISCARD. -/
def execCellarExpiry (ctx : BitVec 32) (s : State) : Host.Outcome State Fault Refusal :=
  .next (if !s.expired ctx.toNat .cellar then s else (s.bump 0x5407 0 5 1).tierAction 4 ctx.toNat)

/-- TIER: a notice carries an action to this part. -/
def execTier (ctx : BitVec 32) (action : Byte) (s : State) : Host.Outcome State Fault Refusal := 
  -- a resume or a discard takes the draft context with it (13 R324)
  .next ((if action = 2 ∨ action = 4 then s.rebuild ctx.toNat else s).tierHere action.toNat ctx.toNat)

/-! ### The KV mover (R284, R285) -/

/-- Pages of a context in the order of its slots. -/
def State.pagesOfCtx (s : State) (x : Ctx) : List Page := x.frameList.filterMap s.page

/-- A demotion ends: the slots are written to host memory, the frames are free, the tier is CELLAR. Before a page is read its tags are
compared: one that differs is not read, and is recorded (R269); then, or where a line of it does not read, the context is LOST here. -/
def State.endDemote (c : Nat) (x : Ctx) (m : Move) (s : State) : State :=
  let port : HostPort := if s.od 0x5403 0 0 = 0 then .a else .b
  let base := s.od 0x5403 0 1 + x.cellarAt
  let s := match x.frameList.find? fun f => !(s.page f).any fun p => p.ctx == c && p.tenant == x.tenant && p.kvGen == x.kvGen with
    | some f => ((s.bump 0x5408 0 4 1).raise { kind := .tenant, path := pathUnit (1 + s.frameDie f) 127 0 0, detail := x.tenant }).loseCtx c
    | none => x.frameList.foldl (fun s f => (s.readFrame f 0).2) s
  match s.ctx c with
  | none => s
  | some y =>
    if y.tier = .lost then s.tierReport c 1
    else
      let s := (s.pagesOfCtx x).zipIdx.foldl (fun s p => s.emit (.hostWrite port (base + p.2 * x.slotLen) (p.1.slotOut (x.slotLen == 6208)))) s
      let s := (((s.freeFrames c).setTier c .cellar 3).bump 0x5407 0 3 1).reachTier c .cellar
      let s := s.modCtx c fun x => { x with move := none, lists := x.lists.map fun l => { l with frames := [] } }
      if m.discard then s.discardHere c else if m.resume then s.startRestore c else s

/-- One page comes back, whole, into a free frame of its list's stack; false where its tags differ or no frame is free. -/
def State.restorePage (c : Nat) (p : Page) (s : State) : Bool × State :=
  match s.ctx c with
  | none => (false, s)
  | some x =>
    let l := x.list p.layer p.head
    if p.ctx ≠ c ∨ p.tenant ≠ x.tenant ∨ p.kvGen ≠ x.kvGen then (false, s)
    else match s.takeFrame l.die with
      | none => (false, s)
      | some f => (true, ((s.setPage f p).cleanFrame f).modCtx c fun x => x.setList { l with frames := l.frames.put none (p.first / 64) (some f) })

def State.restorePages (c : Nat) : List (List Byte) → State → Bool × State
  | [], s => (true, s)
  | b :: bs, s =>
    match pageOfSlot b with
    | none => (false, s)
    | some p =>
      let (ok, s) := s.restorePage c p
      if ok then s.restorePages c bs else (false, s)

/-- A slot fails its CRC or its tags: a CELLAR record, and the context is discarded (R284). -/
def State.cellarFailure (c : Nat) (s : State) : State :=
  let s := (s.bump 0x5407 0 8 1).raise { kind := .cellar, path := pathUnit 1 127 0 0, detail := c }
  (s.discardHere c).tierReport c 2

/-- TIER_MOVE_COMPLETE: the mover ends a context's move. `slots` are the slots read back. The move waits while KVMOVE is
clear. -/
def execTierMoveComplete (ctx : BitVec 32) (slots : List (List Byte)) (s : State) : Host.Outcome State Fault Refusal :=
  .next (
    let c := ctx.toNat
    if !s.enabled 10 then s
    else match s.ctx c with
      | none => s
      | some x =>
        match x.move with
        | none => s
        | some m =>
          if m.kind = 1 then (s.endDemote c x m).relieve
          else
            let (ok, s) := s.restorePages c slots
            if !ok then s.cellarFailure c
            else
              let s := ((s.setTier c .hot 1).bump 0x5407 0 4 1).bump 0x5407 0 2 1
              ((s.modCtx c fun x => { x with move := none, cellar := 0, cellarAt := 0, slotLen := 0, used := s.elapsed }).tierReport c 0).relieve)

/-! ### Data area (R262, R287) -/

def State.applyDataArea (mib : Nat) (s : State) : Nat × State :=
  if !s.imageState then refuse codeState s
  else if mib < 1024 ∨ 16384 < mib ∨ mib % 1024 ≠ 0 then refuse codeRange s
  else (0, ({ s with ctxs := [], pages := [] }.bump 0x5407 0 6 s.ctxCount).setOd 0x5401 0 0 mib)

/-- DATA_AREA_SIZE_WRITE (OD 0x5401). -/
def execDataAreaSizeWrite (rq : Requester) (mib : BitVec 32) (s : State) : Host.Outcome State Fault Refusal :=
  .next (s.access rq .write 0x5401 0 (leBytes 4 mib.toNat) (State.applyDataArea mib.toNat))

end Sys2Proof.Machine
end

