-- ==== Sys2Proof/Machine/Requests.lean ====
section
/-! DEFINITION. Machine/Requests.lean: the request table of the admitting part: completion entries and outcomes (12 R291 to
R294, 16 R395), charging (12 R296), generations held and the old-generation action (06 R143, R148, R149), and the restart of
a step (15 R367). -/

namespace Sys2Proof.Machine

def State.req (s : State) (n : Nat) : Option Request := s.requests.get none n

def State.setReq (n : Nat) (r : Option Request) (s : State) : State := { s with requests := s.requests.put none n r }

def State.modReq (n : Nat) (f : Request → Request) (s : State) : State :=
  match s.req n with
  | some r => s.setReq n (some (f r))
  | none => s

/-- The request that a step belongs to. -/
def State.reqOfStep (s : State) (step : Nat) : Option (Nat × Request) :=
  if step = 0 then none else s.reqList.find? fun e => e.2.flights.any fun f => f.step == step

/-- The admitted request of a context. -/
def State.reqOfCtx (s : State) (c : Nat) : Option (Nat × Request) := s.reqList.find? fun e => e.2.ctx == c && e.2.isActive

/-! ### Tenants (R295, R296) -/

/-- A tenant's level, a signed count of tokens. -/
def State.level (s : State) (t : Nat) : Int := toSigned 64 (s.odAt t 0x5802 0 0)

def State.setLevel (t : Nat) (l : Int) (s : State) : State := s.setOdAt t 0x5802 0 0 (ofSigned 64 l)

/-- Charge a tenant; the level may fall below zero. -/
def State.charge (t n : Nat) (s : State) : State := (s.setLevel t (s.level t - n)).bumpAt t 0x5802 0 4 n

/-! ### Completion entries (R291, Table 12-3) -/

/-- The entry of tokens `words` of a step; `outcome` 0 while the request runs. -/
def Request.entryBytes (r : Request) (outcome : Nat) (words : List Nat) (step time : Nat) : List Byte :=
  let logprob := bit r.entry.flags.toNat 1 && words != []
  let flags := flagNat (outcome != 0) + 2 * flagNat logprob
  patch (List.replicate 64 0) 0 (leBytes 8 r.entry.tag.toNat ++ leBytes 4 r.ctx ++ leBytes 1 words.length ++ leBytes 1 outcome ++
    leBytes 1 flags ++ leBytes 1 0 ++ leBytes 4 r.returned ++ leBytes 4 step ++ leBytes 8 time ++ words.flatMap (leBytes 4))

/-- Whether a queue pair still writes entries. -/
def State.qpLives (s : State) (k : Nat) : Bool := s.qpState k == 1 || s.qpState k == 2

/-- The last request of a DRAINING queue pair has gone: it is DISABLED (R392). -/
def State.drained (k : Nat) (s : State) : State :=
  if s.qpState k = 2 ∧ !(s.reqList.any fun e => e.2.key == k) then (s.setQpStat k 0 0).writeBlock k else s

/-- A request leaves the table. -/
def State.dropReq (n k : Nat) (s : State) : State := ((s.setReq n none).setQpStat k 4 (s.qpStat k 4 - 1)).drained k

/-- What becomes of the context of a request that ends (R294). A request that ends before admission FORMAT, TENANT, BUDGET
or HOST leaves a kept context as it is, and one with KEEP set does so with any outcome. -/
def State.releaseCtx (r : Request) (outcome : Nat) (s : State) : State :=
  if r.ctx = 0 then s
  else if !r.isActive && (r.keep || outcome = 6 || outcome = 7 || outcome = 8 || outcome = 13) then s
  else if r.keep then
    { s with kept := s.kept.put none r.ctx (some { tenant := r.tenant, gen := r.gen, kvGen := r.kvGen, history := r.history, m := r.m, nodes := r.nodes }) }.tierAction 1 r.ctx
  else { s with kept := s.kept.put none r.ctx none }.tierAction 4 r.ctx

/-- The REQUEST mirror record of a request (15 R369, R376), sent to the twin of the admitting part. -/
def State.mirrorReq (n : Nat) (s : State) : State :=
  match s.req n with
  | none => s
  | some r => s.mirrorToTwin 0 4 (requestBody n r (s.odAt r.tenant 0x5802 0 0))

/-- A request ends with an outcome (0 where a port reset ends it, R400), returning the words of a step: its final entry is written into the slot it holds, or
waits for one (R395). -/
def State.finish (n outcome : Nat) (words : List Nat) (step time : Nat) (s : State) : State :=
  match s.req n with
  | none => s
  | some r =>
    if r.phase = .ended then s
    else
      let k := r.key
      let t := r.tenant
      let s := if outcome = 0 then s else s.bump 0x5803 0 (1 + outcome) 1
      let s := if r.phase = .active then s.setOdAt t 0x5802 0 2 (s.odAt t 0x5802 0 2 - 1)
        else if r.phase = .pending then s.setOdAt t 0x5802 0 1 (s.odAt t 0x5802 0 1 - 1) else s
      let s := if outcome = 3 then s.bumpAt t 0x5802 0 5 1 else if outcome = 6 ∨ outcome = 8 then s.bumpAt t 0x5802 0 6 1 else s
      let s := { s with samplers := s.samplers.put none r.ctx none }
      let s := (s.modReq n fun r => { r with phase := .ended }).mirrorReq n
      let s := s.releaseCtx r outcome
      let e := r.entryBytes outcome words step time
      if r.silent || !s.qpLives k then (if r.holds then s.dropSlot k else s).dropReq n k
      else if r.holds then ((s.dropSlot k).writeEntry k e).dropReq n k
      else (s.setReq n (some { r with phase := .ended, final := some e, flights := [] })).modQp k fun q => { q with finals := q.finals ++ [n] }

/-- Give every request without a slot one while slots are free (R395), after the final entries that wait. -/
def State.giveSlots (k : Nat) : Nat → State → State
  | 0, s => s
  | fuel + 1, s =>
    if s.freeSlots k = 0 then s
    else match (s.qp k).finals with
      | n :: rest =>
        let s := s.modQp k fun q => { q with finals := rest }
        let s := match s.req n with
          | some r => (s.writeEntry k (r.final.getD [])).dropReq n k
          | none => s
        s.giveSlots k fuel
      | [] =>
        match s.reqList.find? fun e => e.2.key == k && e.2.phase != .ended && !e.2.holds with
        | some e => ((s.holdSlot k).modReq e.1 fun r => { r with holds := true }).giveSlots k fuel
        | none => s

def State.serveSlots (k : Nat) (s : State) : State := s.giveSlots k (s.compSize k)

/-- A step's tokens go to the host in a non-final entry, and the request reserves a new slot (R395). -/
def State.returnTokens (n : Nat) (words : List Nat) (step time : Nat) (s : State) : State :=
  match s.req n with
  | none => s
  | some r =>
    let k := r.key
    let s := s.modReq n fun r => { r with returned := r.returned + words.length }
    if r.silent || !s.qpLives k then s
    else (((s.dropSlot k).writeEntry k (r.entryBytes 0 words step time)).modReq n fun r => { r with holds := false }).serveSlots k

/-! ### Generations held (R142, R143, R148) -/

/-- The positions of the pipeline that belong to the main model, with their place. -/
def State.mainEntries (s : State) : List (Nat × Entry) := (s.entries.zipIdx.filter fun e => e.1.main).map fun e => (e.2, e.1)

/-- Whether an entry holds a generation: on one position, for SPLIT on both (R360). -/
def State.entryHolds (s : State) (g : Nat) (e : Nat × Entry) : Bool :=
  let a := (s.genReport e.1 0).1 == g
  let b := (s.genReport e.1 1).1 == g && e.2.pos1 != noEndpoint
  if e.2.mode = 3 then a && b else a || b

/-- Every stage of the main model has a position that holds generation `g`. -/
def State.rackHolds (s : State) (g : Nat) : Bool := g != 0 && s.mainEntries != [] && s.mainEntries.all (s.entryHolds g)

def State.currentGen (s : State) : Nat := s.od 0x5000 1 0

/-- The predecessor that counts for the continue test of a stage (R148): the report of the position that holds the current
generation; where both do, the reports of both. -/
def State.continues (s : State) (kvGen : Nat) : Bool :=
  s.mainEntries.all fun e =>
    let r := [s.genReport e.1 0, s.genReport e.1 1].filter fun r => r.1 == s.currentGen
    r != [] && r.all fun x => x.2 == kvGen

/-! ### Barrier and retirement (R150, R151) -/

/-- The barrier's state. Every other part hears of HELD and of its end by a forwarded OD 0x5005: it then counts as drained for R118 (R151;
the model's own message, log 86). -/
def State.setBarrier (v : Nat) (s : State) : State :=
  let tell := s.isAdmitting && s.od 0x5005 0 0 != v && (s.od 0x5005 0 0 == 2 || v == 2)
  let s := s.setOd 0x5005 0 0 v
  if tell then s.forward 0x5005 0 (leBytes 1 (if v = 2 then 2 else 0)) (s.allParts.filter (· != s.endpoint)) else s

/-- Whether a step of the admitting part's requests is in flight. -/
def State.anyFlight (s : State) : Bool := s.reqList.any fun e => e.2.flights.any fun f => f.step != 0

/-- The last step in flight has committed: the barrier is HELD (R151). -/
def State.settleBarrier (s : State) : State :=
  if s.od 0x5005 0 0 = 1 && !s.anyFlight && !s.steps.any (fun e => match e.2 with
      | some r => r.phase == .running || r.phase == .halted
      | none => false) then s.setBarrier 2 else s

/-- Note a generation as retired. -/
def State.noteRetired (g : Nat) (s : State) : State := if s.retiredGens.contains g then s else { s with retiredGens := s.retiredGens ++ [g] }

/-- Retire a generation: no further step of it launches, and every part hears of it by a forwarded OD 0x5000.02 (R150; the model's own
message, log 86). -/
def State.retire (g : Nat) (s : State) : State :=
  if g = 0 ∨ g = s.currentGen ∨ s.retiredGens.contains g = true then s
  else (s.noteRetired g).forward 0x5000 2 (leBytes 4 g) (s.allParts.filter (· != s.endpoint))

/-- The admitting part retires the previous generation once no request carries it or the barrier is HELD (R150). -/
def State.settleRetire (s : State) : State :=
  let g := s.od 0x5000 2 0
  let carried := s.reqList.any fun e => e.2.isActive && e.2.gen == g
  if s.isAdmitting && (!carried || s.od 0x5005 0 0 == 2) then s.retire g else s

/-- A step or a request has ended: the barrier may be HELD, and a generation retired (R150, R151). -/
def State.settleDrain (s : State) : State := s.settleBarrier.settleRetire

/-- The barrier follows the stages (R143): raised by the admitting part itself while a stage lacks the current generation,
with an alarm, and lowered again when the condition clears; not while the current generation is 0. -/
def State.autoBarrier (s : State) : State :=
  if !s.isAdmitting || s.currentGen == 0 then s
  else if !s.rackHolds s.currentGen && !s.barrierAuto && s.od 0x5005 0 0 = 0 then
    (({ s with barrierAuto := true }.setBarrier 1).raise { kind := .admission, path := pathDie 5 0, detail := 1, alarm := true }).settleDrain
  else if s.rackHolds s.currentGen && s.barrierAuto then { s with barrierAuto := false }.setBarrier 0
  else s

/-! ### Prefilling again, and the old-generation action (R148, R149) -/

/-- Every token of a request: those of its context, the root of a step in flight, and those still to be prefilled. -/
def Request.allTokens (r : Request) : List Nat :=
  r.history ++ (r.flights.flatMap fun f => if f.chunk then [] else (f.tree.nodes.take 1).map fun w => w.token.toNat) ++ r.rest

/-- A request prefills its tokens again without charge: its KV is discarded, its steps in flight are forgotten, its
speculation starts anew, for class T in REBUILD (R149, R285, R324). -/
def State.prefillAgain (n : Nat) (s : State) : State :=
  match s.req n with
  | none => s
  | some r =>
    let tokens := r.allTokens
    let s := ((s.tierAction 4 r.ctx).setTimer r.ctx (some { tier := .hot, since := s.elapsed, awaiting := [], lost := false })).setReq n (some { r with
      rest := tokens, refill := if r.generating then tokens.length else tokens.length - r.rest.length + r.refill, generating := false, history := [], first := 0, m := 0, nodes := [], flights := [], tree := none,
      guesses := [], resuming := false, mode := if r.entry.cls = 2 then 3 else 0 })
    match s.samplers.get none r.ctx with
    | some x =>
      { s with samplers := s.samplers.put none r.ctx (some { x with mode := if x.classT then 3 else 0, miss := 0, left := 0 }) }
    | none => s

/-- The sampler role starts a request anew in a mode: its miss and fall-back counts are cleared (13 R327). -/
def State.resetSampler (c mode : Nat) (s : State) : State :=
  match s.samplers.get none c with
  | some x => { s with samplers := s.samplers.put none c (some { x with mode := mode, miss := 0, left := 0 }) }
  | none => s

/-- A re-admitted request starts SPECULATIVE, one of class T in REBUILD; the sampler role hears of it by a MODE notice (13 R327; that notice
is the model's own). -/
def State.restartSpec (n : Nat) (s : State) : State :=
  match s.req n with
  | none => s
  | some r =>
    let mode := if r.entry.cls = 2 then 3 else 0
    let s := s.modReq n fun r => { r with mode := mode }
    if r.entry.cls = 0 then s else (s.resetSampler r.ctx mode).notice 8 mode r.ctx 0 [] (s.draftParts.filter (· != s.endpoint))

/-- R148: what becomes of a request whose generation is no longer held: true where it still runs. -/
def State.oldGeneration (n : Nat) (s : State) : State :=
  match s.req n with
  | none => s
  | some r =>
    let action := s.od 0x5018 1 0
    let cur := s.currentGen
    -- tokens never prefilled before are not prefilled again
    let again (s : State) : State :=
      let k := r.allTokens.length - if r.generating then 0 else r.rest.length
      (((s.prefillAgain n).modReq n fun r => { r with gen := cur, kvGen := cur }).bump 0x5008 0 4 1).bump 0x5008 0 5 k
    let late (s : State) : State := (s.bump 0x5008 0 6 1).finish n 5 [] 0 s.now
    if action = 0 then again s
    else if action = 3 then late s
    else if s.continues r.kvGen then (s.modReq n fun r => { r with gen := cur }).bump 0x5008 0 3 1
    else if action = 1 then again s
    else late s

/-- A kept context is taken up again (R294, R285): its tokens and generation fields. -/
def State.keptOf (s : State) (c : Nat) : Option Kept := s.kept.get none c

/-! ### Restart (R367, R368) -/

/-- ABANDON for a step goes to every part of the table, and its work here stops. -/
def State.abandonEverywhere (step : Nat) (s : State) : State :=
  (s.notice 2 0 0 step [] (s.allParts.filter (· != s.endpoint))).dropStep step

/-- Count one more replay or restart of a step. -/
def State.countReplay (step : Nat) (s : State) : State :=
  match s.reqOfStep step with
  | none => s
  | some (n, _) => s.modReq n fun r => { r with flights := r.flights.map fun f => if f.step = step then { f with replays := f.replays + 1 } else f }

/-- Replays and restarts of a step so far. -/
def State.replaysOf (s : State) (step : Nat) : Nat :=
  match s.reqOfStep step with
  | none => 0
  | some (_, r) => ((r.flights.find? fun f => f.step == step).map (·.replays)).getD 0

/-- The admitting part restarts a step from the head: the old id is abandoned everywhere, and the request's step waits for an
edge with a new id. Beyond the replay limit it stays as it is until the request ends FAILED (R368). -/
def State.restartStep (step : Nat) (s : State) : State :=
  if !s.isAdmitting || (s.reqOfStep step).isNone then s
  else
    let s := s.countReplay step
    if s.od 0x4105 0 0 < s.replaysOf step then s
    else
      let s := (s.abandonEverywhere step).bump 0x4107 0 5 1
      match s.reqOfStep step with
      | none => s
      | some (n, _) =>
        (s.modReq n fun r => { r with flights := r.flights.map fun f => if f.step = step then { f with step := 0 } else f }).settleDrain

/-- A part reports that a step failed for want of a KV frame: its request ends RESOURCE (12 R293, R307). -/
def State.kvFails (step : Nat) (s : State) : State :=
  match s.reqOfStep step with
  | none => s
  | some (n, _) => if s.isAdmitting then ((s.abandonEverywhere step).finish n 10 [] step s.now).settleDrain else s

/-- REPLAY_LIMIT: a step has failed beyond the limit; its request ends FAILED. -/
def execReplayLimit (step : BitVec 64) (s : State) : Host.Outcome State Fault Refusal :=
  .next (
    match s.reqOfStep step.toNat with
    | none => s
    | some (n, _) =>
      if s.replaysOf step.toNat ≤ s.od 0x4105 0 0 then s
      else ((s.abandonEverywhere step.toNat).finish n 11 [] step.toNat s.now).settleDrain)

end Sys2Proof.Machine
end

