-- ==== Sys2Proof/Machine/Link.lean ====
section
/-! DEFINITION. Machine/Link.lean: the hop level of the fabric ports: training, identity and quarantine (14 R352 to R356,
R331), acknowledgement, credit and replay of DATA frames (R342, R343), and a port that goes DOWN (R344, 15 R382). -/

namespace Sys2Proof.Machine

/-! ### Failure of a transfer -/

/-- Whether a transfer carries a step's output. -/
def stepKind (h : TransportHdr) : Bool := h.kind == 1 || h.kind == 3 || h.kind == 4

/-- A transfer has failed at one endpoint (R349): counted, a DELIVERY record, and the step of an ACT, TOKEN or TREE transfer
of its present run fails. A resend of a kept input that fails is for the admitting part to restart (R367). -/
def State.transferFails (o : Sending) (ep reason : Nat) (s : State) : State :=
  let step := o.hdr.step.toNat
  let s := (s.bump 0x4202 0 4 1).raise { kind := .delivery, path := pathPort o.port, detail := ep % 65536 * 256 + reason, step := step }
  if o.hdr.kind = 1 ∧ o.hearth = 0 then
    if s.isAdmitting then s.restartStep step
    else s.notice 2 0 0 step (leBytes 1 (((s.entryIndexOf ep).bind s.entryAt |>.map (·.stage)).getD 0)) [s.admitting]
  else if stepKind o.hdr && (s.stepRec step).runs == o.run then s.failLate step
  else s

/-- Take endpoints off a transfer; a transfer with none left is gone. -/
def State.strike (tid : Nat) (eps : List Nat) (s : State) : State :=
  let less (l : List Nat) : List Nat := l.filter fun e => !eps.contains e
  let all := s.sending.map fun o => if o.hdr.tid.toNat = tid then { o with left := less o.left, refused := less o.refused } else o
  { s with sending := all.filter fun o => o.hdr.tid.toNat != tid || o.left != [] }

def State.sendingOf (s : State) (tid : Nat) : Option Sending := s.sending.find? fun o => o.hdr.tid.toNat == tid

def State.modSending (tid : Nat) (f : Sending → Sending) (s : State) : State :=
  { s with sending := s.sending.map fun o => if o.hdr.tid.toNat = tid then f o else o }

/-- A transfer fails at some of its endpoints. With none left it counts as delivered where another has taken it (R350). -/
def State.failAt (o : Sending) (eps : List Nat) (reason : Nat) (s : State) : State :=
  let tid := o.hdr.tid.toNat
  let took := ((s.sendingOf tid).map (·.acked)).getD false
  let s := s.strike tid eps
  let s := if took && (s.sendingOf tid).isNone then s.bump 0x4202 0 1 1 else s
  eps.foldl (fun s e => s.transferFails o e reason) s

/-- The frames of a transfer to the endpoints it still owes, all or only those refused (R350). -/
def Sending.frames (o : Sending) (dests : List Nat) (retry : Bool) : List LinkFrame :=
  let mask := if o.hdr.mcast then BitVec.ofNat 64 (targetMask dests) else 0
  transferFrames { o.hdr with mask := mask, retry := retry } o.stepHdr o.payload (dests.headD 0 / 65536)

/-! ### Port states -/

def State.setPortState (p v : Nat) (s : State) : State := s.setOd (0x4000 + p) 1 0 v

/-- The PORT record: the port's state. -/
def State.portRecord (p : Nat) (alarm : Bool) (s : State) : State :=
  s.raise { kind := .port, path := pathPort p, detail := s.portState p, alarm := alarm }

/-- The link of a port starts anew in a state: sequence numbers, credit and identity are forgotten. -/
def State.clearLink (p v : Nat) (s : State) : State :=
  let s := (s.setPort p { Port.fresh with trainAt := s.elapsed, heardAt := s.elapsed, ackAt := s.elapsed, lackAt := s.elapsed }).setPortState p v
  ((s.setOd (0x4000 + p) 3 0 0).putFields 0 (0x4000 + p) 4 0 (List.replicate 14 0)).putFields 0 (0x4000 + p) 5 0 [0, 0, 0]

/-- Another path for one transfer of a port that went DOWN (R382): the same transfer id, the endpoints still outstanding. -/
def State.moveTransfer (tid : Nat) (s : State) : State :=
  match s.sendingOf tid with
  | none => s
  | some o =>
    match s.pathFor o.hdr.kind.toNat o.payload o.hdr.mcast o.left tid with
    | none => s.failAt o o.left 4
    | some q => (s.modSending tid fun o => { o with port := q, sentAt := s.elapsed }).queueRetry q (o.frames o.left false)

/-- ACK and NACK frames that wait on a port that went DOWN go out on another. -/
def State.moveAnswer (f : LinkFrame) (s : State) : State :=
  match s.choosePort [f.hdr.dst.toNat + 65536 * f.rack] f.hdr.tid.toNat with
  | none => s
  | some q => s.queueFrames q [{ f with replays := 0, passed := 0 }]

def LinkFrame.isAnswer (f : LinkFrame) : Bool := f.hdr.kind == 0x0A || f.hdr.kind == 0x0B

/-- Take a port out of service and give its unacknowledged transfers another path (R344, R382). -/
def State.lowerPort (p v : Nat) (s : State) : State :=
  let x := s.port p
  let frames := x.retry ++ x.queue
  let mine := (s.sending.filter fun o => o.port == p && frames.any fun f => !f.isAnswer && f.hdr.tid == o.hdr.tid).map fun o => o.hdr.tid.toNat
  let s := s.clearLink p v
  let s := mine.foldl (fun s t => s.moveTransfer t) s
  (frames.filter LinkFrame.isAnswer).foldl (fun s f => s.moveAnswer f) s

/-- A neighbour entry of kind 3 leaves its port unused (Table 14-12). -/
def State.unusedPort (s : State) (p : Nat) : Bool := s.od 0x4010 (p + 1) 0 == 3

/-- A retrain (R352, R356): the port is TRAINING; DISABLED where its entry or command 0x02 says so (field 42 of its state);
DOWN while the main side is not UP. -/
def State.retrain (p : Nat) (s : State) : State :=
  if s.unusedPort p || s.od (0x4000 + p) 1 42 == 1 then s.lowerPort p 0
  else if !s.mainUp then s.lowerPort p 1
  else (s.lowerPort p 2).bump (0x4000 + p) 6 6 1

/-! ### Identity (R353 to R355) -/

def identFields (i : IdentBody) : List Nat :=
  [i.kind.toNat, i.port.toNat, i.major.toNat, i.minor.toNat, i.rack.toNat, i.endpoint.toNat, i.pair.toNat, i.position.toNat,
   i.features.toNat, i.serial.toNat, i.fwMajor.toNat, i.fwMinor.toNat, i.fwPatch.toNat, 0]

/-- This part's own IDENT body (Table 14-9): pair and position by the reference numbering of R340. -/
def State.identBytes (s : State) (p : Nat) : List Byte :=
  let e := s.od 0x4011 0 1
  leBytes 1 1 ++ leBytes 1 p ++ leBytes 1 2 ++ leBytes 1 1 ++ leBytes 4 (s.od 0x4011 0 0) ++ leBytes 2 e ++ leBytes 1 (e / 2) ++
  leBytes 1 (e % 2) ++ leBytes 4 (s.od 0x4012 0 2) ++ leBytes 8 (s.od 0x1000 0 0) ++ leBytes 2 (s.od 0x1003 0 4) ++
  leBytes 2 (s.od 0x1003 0 5) ++ leBytes 2 (s.od 0x1003 0 6) ++ leBytes 2 0

/-- A link frame with no transfer leaves a port, and is counted (R358). -/
def State.control (p kind ack cls granules : Nat) (s : State) : State := (s.bump (0x4000 + p) 6 0 1).emit (.linkControl p kind ack cls granules)

/-- A link frame has come in on a port, and is counted. -/
def State.heard (p : Nat) (s : State) : State := (s.bump (0x4000 + p) 6 1 1).modPort p fun x => { x with heardAt := s.elapsed }

def State.sendIdent (p : Nat) (s : State) : State := (s.bump (0x4000 + p) 6 0 1).emit (.frame p 4 (s.identBytes p))

/-- Whether a received IDENT matches the neighbour entry (Table 14-10) and the protocol major (R355). -/
def State.identMatches (s : State) (p : Nat) (i : IdentBody) : Bool :=
  let e (f : Nat) : Nat := s.od 0x4010 (p + 1) f
  let rack := if e 3 = 0 then s.od 0x4011 0 0 else e 3
  (e 0 == 0 || e 0 == i.kind.toNat) && (e 1 == 0xFF || e 1 == i.port.toNat) && rack == i.rack.toNat &&
    (e 4 == 0xFFFF || e 4 == i.endpoint.toNat) && (e 6 == 0 || e 6 == i.serial.toNat) && i.major == 2

/-- The port goes to QUARANTINE with an alarm that names it (R354). The values received stand in OD 0x4000+p.04, those expected in
OD 0x4010. -/
def State.quarantine (p : Nat) (i : IdentBody) (s : State) : State :=
  (((s.lowerPort p 5).bump (0x4000 + p) 6 7 1).putFields 0 (0x4000 + p) 4 0 (identFields i)).portRecord p true

/-- IDENT: in IDENT state the peer is checked and the port goes UP or to QUARANTINE; on an UP port a different one
quarantines it. -/
def execIdent (p : PortId) (i : IdentBody) (s : State) : Host.Outcome State Fault Refusal :=
  .next (
    let n := p.toNat
    let s := if s.portState n = 3 ∨ s.portState n = 4 ∨ s.portState n = 5 then s.heard n else s
    if s.portState n = 3 then
      let s := s.putFields 0 (0x4000 + n) 4 0 (identFields i)
      if s.identMatches n i then
        let s := s.putFields 0 (0x4000 + n) 5 0 [2, min 1 i.minor.toNat, Nat.land (s.od 0x4012 0 2) i.features.toNat]
        let s := (s.setPortState n 4).modPort n fun x => { x with ident := some i }
        s.pump n (s.port n).queue.length
      else s.quarantine n i
    else if s.portState n = 4 ∧ (s.port n).ident ≠ some i then s.quarantine n i
    else s)

/-! ### Training (R331, R352) -/

/-- TRAINING_COMPLETE: all eight lanes train, or with lane degrade enabled at both ends one half does, which is an event;
else the port stays DOWN. -/
def execTrainingComplete (p : PortId) (lanesGood : BitVec 8) (peerDegrade : Bool) (s : State) : Host.Outcome State Fault Refusal :=
  .next (
    let n := p.toNat
    if s.portState n ≠ 2 then s
    else
      let half := s.od (0x4000 + n) 7 0 != 0 && peerDegrade && (lanesGood.toNat % 16 == 15 || lanesGood.toNat / 16 == 15)
      let up (lanes : Nat) : State := ((s.setOd (0x4000 + n) 3 0 lanes).setPortState n 3).modPort n fun x => { x with heardAt := s.elapsed, trainAt := s.elapsed }
      if lanesGood = 0xFF then (up 8).sendIdent n
      else if half then ((up 4).portRecord n false).sendIdent n
      else (s.setPortState n 1).modPort n fun x => { x with trainAt := s.elapsed })

/-- TRAINING_RETRY: a port that is DOWN trains again, 1 s after the failed attempt. -/
def execTrainingRetry (p : PortId) (s : State) : Host.Outcome State Fault Refusal :=
  .next (
    let n := p.toNat
    let t := (s.port n).trainAt
    if !s.mainUp || s.portState n ≠ 1 || (t ≠ 0 && s.elapsed < t + 1000000000) then s else s.retrain n)

/-- IDENT_TIMEOUT: 10 ms in IDENT without the peer's leave the port DOWN. -/
def execIdentTimeout (p : PortId) (s : State) : Host.Outcome State Fault Refusal :=
  .next (
    let n := p.toNat
    if s.portState n ≠ 3 ∨ s.elapsed < (s.port n).trainAt + 10000000 then s
    else (s.lowerPort n 1).modPort n fun x => { x with trainAt := s.elapsed })

/-- IDENT_REPEAT: IDENT goes out again, every 10 µs in IDENT, every 1 s in UP and in QUARANTINE, which carries it too (Table 14-12). -/
def execIdentRepeat (p : PortId) (s : State) : Host.Outcome State Fault Refusal :=
  .next (if s.portState p.toNat = 3 ∨ s.portState p.toNat = 4 ∨ s.portState p.toNat = 5 then s.sendIdent p.toNat else s)

/-- A HEARTBEAT record: serial, role, table sequence (Table 15-5). -/
def State.sendHeartbeat (dest : Nat) (s : State) : State :=
  s.mirrorTo 9 (leBytes 8 (s.od 0x1000 0 0) ++ leBytes 1 (s.od 0x4100 1 0) ++ leBytes 4 (s.od 0x4111 0 0)) dest

/-- Probe a position (R374): a HEARTBEAT that must be answered in time. -/
def State.probe (ep : Nat) (s : State) : State :=
  if s.probes.any (fun p => p.1 == ep) || s.declared.contains ep then s
  else { s with probes := s.probes ++ [(ep, s.elapsed)] }.sendHeartbeat ep

/-- A port goes DOWN and retrains (R344); its unacknowledged transfers take another path; the loss of the twin link is reported to the
admitting part, or where that is the twin itself probed (R374, R376). -/
def State.portLost (n : Nat) (s : State) : State :=
  let lost := if n = 0 ∧ s.portState 0 = 4 then s.twin else none
  let s := s.retrain n
  match lost with
  | some t => if t = s.admitting then s.probe t else s.mirrorTo 0x0A (roleBody 5 (s.ownIndex.getD 0xFFFF) t (s.od 0x4111 0 0)) s.admitting
  | none => s

/-- PORT_DOWN: FEC lock has been lost for 1 µs, or no frame has come for 10 µs (R344). -/
def execPortDown (p : PortId) (s : State) : Host.Outcome State Fault Refusal := .next (if s.portState p.toNat < 3 then s else s.portLost p.toNat)

/-! ### Port commands and the neighbour entry (R356, Table 14-13) -/

/-- PORT_RETRAIN (command 0x01). -/
def State.applyRetrain (p : Nat) (s : State) : Nat × State := (0, s.retrain p)

def execPortRetrain (rq : Requester) (p : PortId) (s : State) : Host.Outcome State Fault Refusal :=
  .next (s.access rq .command (0x4000 + p.toNat) 2 (leBytes 1 1) (State.applyRetrain p.toNat))

/-- Whether a port has transfers of its own to finish. -/
def State.portBusy (s : State) (p : Nat) : Bool := s.sending.any fun o => o.port == p

/-- Command 0x02: the port is DISABLED once the transfers started on it are complete and no step uses it. Field 41 of its
state keeps the wish. -/
def State.applyDisable (p : Nat) (s : State) : Nat × State :=
  if s.stepRunning || s.portBusy p then (0, s.setOd (0x4000 + p) 1 41 1) else (0, (s.setOd (0x4000 + p) 1 42 1).lowerPort p 0)

/-- What waits for a port command acts at a boundary. -/
def State.settlePorts (s : State) : State :=
  (List.range 8).foldl (fun s p =>
    if s.od (0x4000 + p) 1 41 = 1 && !s.stepRunning && !s.portBusy p then ((s.setOd (0x4000 + p) 1 41 0).setOd (0x4000 + p) 1 42 1).lowerPort p 0 else s) s

def execPortDisable (rq : Requester) (p : PortId) (s : State) : Host.Outcome State Fault Refusal :=
  .next (s.access rq .command (0x4000 + p.toNat) 2 (leBytes 1 2) (State.applyDisable p.toNat))

/-- Command 0x03: a DISABLED port trains again. -/
def State.applyEnable (p : Nat) (s : State) : Nat × State :=
  let s := (s.setOd (0x4000 + p) 1 41 0).setOd (0x4000 + p) 1 42 0
  (0, if s.portState p = 0 then s.retrain p else s)

def execPortEnable (rq : Requester) (p : PortId) (s : State) : Host.Outcome State Fault Refusal :=
  .next (s.access rq .command (0x4000 + p.toNat) 2 (leBytes 1 3) (State.applyEnable p.toNat))

/-- A neighbour entry is stored and its port retrains. -/
def State.applyNeighbour (p : Nat) (data : List Byte) (s : State) : Nat × State :=
  if 3 < leAt data 0 1 then refuse codeRange s
  else
    let data := patch (patch data 2 [0, 0]) 10 [0, 0]
    (0, (s.putValue 0 0x4010 (p + 1) data).retrain p)

/-- NEIGHBOUR_ENTRY_WRITE (OD 0x4010). -/
def execNeighbourEntryWrite (rq : Requester) (p : PortId) (entry : List Byte) (s : State) : Host.Outcome State Fault Refusal :=
  .next (s.access rq .write 0x4010 (p.toNat + 1) entry (State.applyNeighbour p.toNat entry))

/-! ### Acknowledgement, credit, replay (R342, R343) -/

/-- Whether sequence number `a` lies at or before `b` (32 bits, wrapping). -/
def seqAtMost (a b : Nat) : Bool := decide ((b + 2 ^ 32 - a) % 2 ^ 32 < 2 ^ 31)

/-- The peer acknowledges every frame up to a number. -/
def State.acked (p n : Nat) (s : State) : State :=
  s.modPort p fun x =>
    let left := x.retry.filter fun f => !seqAtMost f.seq n
    { x with retry := left, ackAt := if left.length < x.retry.length then s.elapsed else x.ackAt }

/-- Replay from the first unacknowledged frame. A frame replayed 8 times takes the port DOWN (R344). -/
def State.replay (p : Nat) (s : State) : State :=
  let x := s.port p
  let again := x.retry.map fun f => { f with replays := f.replays + 1 }
  let s := ((s.setPort p { x with retry := again, ackAt := s.elapsed }).bump (0x4000 + p) 6 3 again.length).bump (0x4000 + p) 6 0 again.length
  let s := again.foldl (fun s f => s.emit (.data p (s.wire p f))) s
  if again.any fun f => decide (8 ≤ f.replays) then s.portLost p else s

/-- A codeword that the FEC cannot correct is counted; the sixteenth within 1 ms takes the port DOWN (R344). -/
def State.badCodeword (p : Nat) (s : State) : State :=
  let l := (s.port p).fecAt.filter (fun t => decide (s.elapsed < t + 1000000)) ++ [s.elapsed]
  let s := (s.bump (0x4000 + p) 6 5 1).modPort p fun x => { x with fecAt := l }
  if 16 ≤ l.length then s.portLost p else s

/-- A replay is asked for once, and what follows is discarded until the expected frame comes (R343). -/
def State.askReplay (p : Nat) (s : State) : State :=
  if (s.port p).gap then s else (s.modPort p fun x => { x with gap := true }).control p 3 (s.port p).rxSeq 0 0

/-- Whether frames pass on a port. -/
def State.linkOpen (s : State) (p : Nat) : Bool := s.portState p == 4 || s.portState p == 5

/-- What a link header hands back (R334, R342, R343): acknowledged frames leave the retry buffer, credit returns, and frames that waited
go. -/
def State.handBack (p : Nat) (b : LinkBack) (s : State) : State :=
  let s := (s.acked p b.acked.toNat).modPort p fun x =>
    { x with credit := setAt b.cls.toNat (x.credit.getD b.cls.toNat 0 + b.granules.toNat) x.credit }
  s.pump p ((s.port p).queue.length)

/-- LACK: it hands back, and nothing else. -/
def execLack (p : PortId) (ack : BitVec 32) (cls : BitVec 2) (granules : BitVec 14) (s : State) : Host.Outcome State Fault Refusal :=
  .next (if s.linkOpen p.toNat then (s.heard p.toNat).handBack p.toNat ⟨ack, cls, granules⟩ else s)

/-- LNAK: replay from the frame after the one acknowledged. -/
def execLnak (p : PortId) (ack : BitVec 32) (s : State) : Host.Outcome State Fault Refusal :=
  .next (if s.linkOpen p.toNat then ((s.heard p.toNat).acked p.toNat ack.toNat).replay p.toNat else s)

/-- IDLE: the link is heard, and its header hands back. -/
def execIdle (f : IdleFrame) (s : State) : Host.Outcome State Fault Refusal :=
  .next (if s.linkOpen f.port.toNat then (s.heard f.port.toNat).handBack f.port.toNat f.back else s)

/-- LINK_REPLAY_TIMEOUT: no acknowledgement has advanced for 1 µs. -/
def execLinkReplayTimeout (p : PortId) (s : State) : Host.Outcome State Fault Refusal :=
  .next (
    let x := s.port p.toNat
    if s.linkOpen p.toNat && x.retry != [] && decide (x.ackAt + 1000 ≤ s.elapsed) then s.replay p.toNat else s)

/-- Bytes of a chunk of a steep image (05 R111). -/
def chunkSize : Nat := 264272

/-- Chunks in staging: from arrival until the last row of the array is programmed (05 R117). -/
def SteepJob.staged (j : SteepJob) : Nat := (j.arrays.filter fun a => a.phase == 0 || a.phase == 1).length

def State.stagingFull (s : State) (j : SteepJob) : Bool := decide (2 ^ 20 * s.od 0x5026 0 0 < (j.staged + 1) * chunkSize)

/-- The credit owed that may be returned: none of class BULK while the staging of a steep over the fabric is full (05 R117). -/
def State.mayReturn (s : State) (c : Nat) : Bool := c != 2 || !s.steep.any fun j => j.kind == 2 && s.stagingFull j

/-- Acknowledge what has come in order and return the credit owed, one class to a LACK. -/
def State.sendLack (p : Nat) (s : State) : State :=
  let x := s.port p
  let owed := ([0, 1, 2].map fun c => (c, x.owed.getD c 0)).filter fun e => e.2 != 0 && s.mayReturn e.1
  let kept := [0, 1, 2].map fun c => if s.mayReturn c then 0 else x.owed.getD c 0
  let s := s.setPort p { x with owed := kept, sinceAck := 0, lackAt := s.elapsed }
  (if owed = [] then [(0, 0)] else owed).foldl (fun s e => s.control p 2 x.rxSeq e.1 e.2) s

/-- LACK_TIMER: 200 ns have passed since the last LACK. -/
def execLackTimer (p : PortId) (s : State) : Host.Outcome State Fault Refusal :=
  .next (if s.linkOpen p.toNat && decide ((s.port p.toNat).lackAt + 200 ≤ s.elapsed) then s.sendLack p.toNat else s)

/-- IDLE_TIMER: no other frame is due for 1 µs. -/
def execIdleTimer (p : PortId) (s : State) : Host.Outcome State Fault Refusal :=
  .next (if s.linkOpen p.toNat then s.control p.toNat 5 (s.port p.toNat).rxSeq 0 0 else s)

end Sys2Proof.Machine
end

