-- ==== Sys2Proof/Machine/Fabric.lean ====
section
/-! DEFINITION. Machine/Fabric.lean: transfers at the delivery level: the receive pool (14 R345, R346), acceptance of DATA
frames and of ACT transfers (R347, R351, 15 R362, R373), ACK and NACK (R348 to R350), notices about steps (07 R178, 15 R365 to
R367) and the commit of a step (R364). -/

namespace Sys2Proof.Machine

/-! ### Receive pool (R345) -/

/-- Class of a transfer kind (Table 14-6): 0 CTL, 1 STEP, 2 BULK. -/
def kindClass (k : Nat) : Nat := if k = 1 then 1 else if k = 5 ∨ k = 7 then 2 else 0

/-- What a transfer holds of a pool. -/
structure Holding where
  port : Nat
  cls : Nat
  reserve : Nat
  shared : Nat
deriving DecidableEq, Repr

/-- Everything that holds granules: transfers received and inputs of steps. -/
def State.holdings (s : State) : List Holding :=
  (s.receiving.map fun r => ⟨r.port, kindClass r.hdr.kind.toNat, r.reserve, r.shared⟩) ++
  s.steps.flatMap fun e => match e.2 with
    | some r => r.inputs.map fun i => ⟨i.port, 1, i.reserve, i.shared⟩
    | none => []

/-- Reserve of a port for a class. -/
def State.classReserve (s : State) (c : Nat) : Nat := if c = 0 then 16 else s.inForce 0x4200 1 (c - 1)

/-- Granules shared by STEP and BULK. -/
def State.sharedTotal (s : State) : Nat := 16384 - 4 * (s.classReserve 0 + s.classReserve 1 + s.classReserve 2)

def State.sharedUsed (s : State) (die : Nat) (ok : Nat → Bool) : Nat :=
  ((s.holdings.filter fun h => h.port / 4 == die && ok h.cls).map (·.shared)).sum

/-- Granules for a transfer, from the port's reserve first, then shared (R346); none where they are not free. -/
def State.findGranules (s : State) (p c n : Nat) : Option (Nat × Nat) :=
  let used := ((s.holdings.filter fun h => h.port == p && h.cls == c).map (·.reserve)).sum
  let r := min n (s.classReserve c - used)
  let sh := n - r
  if sh = 0 then some (r, 0)
  else if c = 0 then none
  else if s.sharedTotal < s.sharedUsed (p / 4) (fun _ => true) + sh then none
  else if c = 2 ∧ s.inForce 0x4200 1 2 < s.sharedUsed (p / 4) (· == 2) + sh then none
  else some (r, sh)

/-! ### Answers (R346, R348) -/

/-- ACK (0x0A) or NACK (0x0B) for a transfer; the layout of its content is the model's own: the transfer id in the header,
the source endpoint and the reason in eight bytes. -/
def State.sendAnswer (kind dest tid reason : Nat) (s : State) : State :=
  let m : Message := { kind := kind, cls := 0, targets := [dest], payload := leBytes 2 (dest % 65536) ++ leBytes 1 reason ++ List.replicate 5 0 }
  match s.choosePort [dest] tid with
  | none => s
  | some p => s.queueFrames p (transferFrames (s.headerOf m tid) none m.payload (dest / 65536))

/-! ### Acceptance of a transfer (R346, R347, R362) -/

/-- Whether an endpoint serves the entry before this part's, or steps run on it there (06 R145); for the second half of a SPLIT entry its first half. The twin
hands steps over under R145 and R147. -/
def State.precedes (s : State) (src : Nat) : Bool :=
  s.twin == some src ||
  match s.ownIndex, s.ownEntry with
  | some i, some own =>
    if own.mode = 3 ∧ own.pos1 = s.endpoint then false
    else if i = 0 then false
    else match s.entryAt (i - 1) with
      | some e => if e.mode = 3 then e.pos1 == src else (s.atWork (i - 1) e).contains src
      | none => false
  | _, _ => false

/-- NACK reason for a transfer's first frame, 0 where none applies (Table 14-11, in the order FORMAT, STATE, SLOT). A steep that runs at a
part not ready takes its image (05 R116, R118; DEDUCED, log 191). -/
def State.refusalOf (s : State) (h : TransportHdr) (src : Nat) : Nat :=
  let kind := h.kind.toNat
  let len := h.len.toNat
  if h.reserved || kind == 0 || decide (0x0B < kind) || decide (len < 8) || decide (1048576 < len) || len % 8 != 0 then 3
  else if kind ≠ 8 ∧ kind ≠ 9 ∧ !s.ready ∧ !(kind = 5 ∧ s.steep.isSome = true) then 4
  else if kind = 1 ∧ !s.precedes src then 4
  else if kind = 1 then
    let e := s.slotEntry h.slot.toNat
    if !e.valid || decide (1023 < h.slot.toNat) || decide (64 * e.rows < len) then 2 else 0
  else 0

def State.receivingOf (s : State) (src tid : Nat) : Option Receiving := s.receiving.find? fun r => r.src == src && r.tid == tid

def State.modReceiving (src tid : Nat) (f : Receiving → Receiving) (s : State) : State :=
  { s with receiving := s.receiving.map fun r => if r.src = src ∧ r.tid = tid then f r else r }

def State.dropReceiving (src tid : Nat) (s : State) : State :=
  { s with receiving := s.receiving.filter fun r => !(r.src == src && r.tid == tid) }

/-- Record a completed transfer id, the last 1,024 of each source (R351). -/
def State.noteCompleted (src tid : Nat) (s : State) : State :=
  let l := s.completed.get [] src ++ [tid]
  { s with completed := s.completed.put [] src (l.drop (l.length - 1024)) }

/-- A transfer's first frame: refused with NACK, or granules reserved. -/
def State.openTransfer (p src : Nat) (h : TransportHdr) (stepHdr : Option StepHdr) (s : State) : State :=
  let tid := h.tid.toNat
  let why := s.refusalOf h src
  if why ≠ 0 then s.sendAnswer 0x0B src tid why
  else match s.findGranules p (kindClass h.kind.toNat) (ceilDiv h.len.toNat 512) with
    | none => (s.bump 0x4200 (2 + p / 4) 4 1).sendAnswer 0x0B src tid 1
    | some (r, sh) =>
      let x : Receiving := { src := src, tid := tid, hdr := h, stepHdr := stepHdr, port := p, reserve := r, shared := sh, since := s.elapsed,
                             data := List.replicate h.len.toNat 0, offsets := [], complete := false, poisoned := false }
      { s with receiving := s.receiving ++ [x] }

/-- A frame of an accepted transfer is written at its offset; one at an offset already there is discarded (R382). The last
one written completes the transfer: it is acknowledged, and all but ACT leave the pool for their consumer. -/
def State.fillTransfer (src tid offset : Nat) (payload : List Byte) (bad : Bool) (s : State) : State :=
  match s.receivingOf src tid with
  | none => s
  | some x =>
    if x.complete || x.offsets.contains offset then s
    else
      let offsets := x.offsets ++ [offset]
      let done := decide (ceilDiv x.hdr.len.toNat 4096 ≤ offsets.length)
      let s := s.modReceiving src tid fun r =>
        { r with data := (patch r.data offset payload).take x.hdr.len.toNat, offsets := offsets, complete := done, poisoned := r.poisoned || bad }
      if !done then s
      else
        let s := (s.noteCompleted src tid).sendAnswer 0x0A src tid 0
        if x.hdr.kind = 1 then s else s.dropReceiving src tid

/-- A DATA frame that arrived in order, at the delivery level. -/
def State.takeData (p : Nat) (h : TransportHdr) (stepHdr : Option StepHdr) (payload : List Byte) (bad : Bool) (s : State) : State :=
  let src := 65536 * h.rack.toNat + h.src.toNat
  let tid := h.tid.toNat
  let mine := if h.mcast then bit h.mask.toNat (s.endpoint % 65536) && decide (s.endpoint % 65536 < 64) else h.dst.toNat == s.endpoint % 65536
  if !mine || (s.portState p == 5 && h.kind != 8) then s
  else
    let s := if bad then s.raiseParity (pathPool p) h.step.toNat 0 else s
    if h.kind = 0x0A ∨ h.kind = 0x0B then s
    else if (s.completed.get [] src).contains tid then
      if h.last then (s.bump 0x4202 0 5 1).sendAnswer 0x0A src tid 0 else s
    else
      let s := if h.offset = 0 ∧ (s.receivingOf src tid).isNone then s.openTransfer p src h stepHdr else s
      s.fillTransfer src tid h.offset.toNat payload bad

/-- The credit a received frame takes: its length in granules, the IPv6 and UDP headers of one from another rack among it (R342). -/
def State.frameGranules (s : State) (hdr : TransportHdr) (stepHdr : Option StepHdr) (payload : List Byte) : Nat :=
  let ip := if hdr.rack.toNat = s.od 0x4011 0 0 then 0 else 48
  ceilDiv (64 + ip + payload.length + (if stepHdr.isSome then 192 else 0) + 4) 512

/-- DATA (R334, R335, R342, R343): a frame on an open port. A bad CRC, an uncorrectable codeword or a gap asks for a replay once, and what
follows is discarded until the expected frame comes; a frame already received is discarded. A packet that R339 refuses is discarded above
the link. The header of a frame that is taken hands back. -/
def execData (p : PortId) (seq : BitVec 32) (hdr : TransportHdr) (stepHdr : Option StepHdr) (payload : List Byte) (faults : FrameFaults)
    (s : State) : Host.Outcome State Fault Refusal :=
  .next (
    let n := p.toNat
    if !s.linkOpen n then s
    else
      let s := (s.heard n).bump (0x4000 + n) 6 4 faults.corrected.toNat
      let x := s.port n
      if faults.uncorrectable then (s.askReplay n).badCodeword n
      else if faults.crc then (s.bump (0x4000 + n) 6 2 1).askReplay n
      else if seq.toNat = (x.rxSeq + 1) % 2 ^ 32 then
        let c := hdr.cls.toNat
        let owed := setAt c (x.owed.getD c 0 + s.frameGranules hdr stepHdr payload) x.owed
        let s := s.setPort n { x with rxSeq := seq.toNat, gap := false, sinceAck := x.sinceAck + 1, owed := owed }
        let s := if faults.ip && hdr.rack.toNat != s.od 0x4011 0 0 then s else s.takeData n hdr stepHdr payload faults.parity
        let s := if 16 ≤ (s.port n).sinceAck then s.sendLack n else s
        s.handBack n faults.back
      else if seqAtMost seq.toNat x.rxSeq then s
      else s.askReplay n)

/-- TRANSFER_INCOMPLETE_TIMEOUT: frames of an accepted transfer are still missing after 10 µs (R346). -/
def execTransferIncompleteTimeout (src : BitVec 16) (tid : BitVec 32) (s : State) : Host.Outcome State Fault Refusal :=
  .next (
    match s.receiving.find? fun r => r.src % 65536 == src.toNat && r.tid == tid.toNat with
    | none => s
    | some r => if r.complete ∨ s.elapsed < r.since + 10000 then s else (s.dropReceiving r.src r.tid).bump 0x4202 0 6 1)

/-! ### ACT (R336, R347, R373, Table 14-13) -/

/-- A step seen here for the first time takes its fields from its header block and its edge from the edges latched. -/
def State.openStep (step : Nat) (h : TransportHdr) (b : StepHdr) (s : State) : State :=
  let s := s.modStep step fun r =>
    { r with gen := h.gen.toNat, kvGen := h.kvGen.toNat, hdr := some b, headEdge := b.headEdge.toNat, variant := b.variant.toNat }
  (s.settleEdge step).takeK step b.k.toNat

/-- HOLD_N pulses of the board partner count for the next step it sends (07 R177). -/
def State.takePartner (src step : Nat) (s : State) : State :=
  if s.partnerSlips = 0 ∨ s.partner ≠ src then s else { s.takeK step s.partnerSlips with partnerSlips := 0 }

/-- A slot's first copy joins the step. -/
def State.joinInput (x : Receiving) (step : Nat) (s : State) : State :=
  let inp : StepInput := { slot := x.hdr.slot.toNat, src := x.src, tid := x.tid, data := x.data, poisoned := x.poisoned, port := x.port,
                           reserve := x.reserve, shared := x.shared, forwarded := false, waiting := [] }
  let s := s.modStep step fun r => { r with inputs := r.inputs ++ [inp], sources := (r.sources ++ [x.src]).eraseDups }
  let s := if s.shadowed step then s.mirrorToTwin step 7 ((x.stepHdr.map StepHdr.bytes).getD [] ++ leBytes 2 inp.slot ++ List.replicate 6 0 ++ x.data) else s
  let s := if (s.stepRec step).phase == .running then s.forwardInput step inp else s
  if s.replayDue step then (if s.isAdmitting then s.countReplay step else s).scheduleReplay step else s

/-- A second copy of a slot: compared where its sender serves a LOCKSTEP entry (R373), and discarded; the first one's granules are free once
its rows have been accepted. Its sender gets COMMIT too (R364). -/
def State.secondCopy (x : Receiving) (first : StepInput) (step : Nat) (s : State) : State :=
  let lock := ((s.entryIndexOf x.src).bind s.entryAt |>.map fun e => e.mode == 2).getD false
  let s := s.modStep step fun r => { r with sources := (r.sources ++ [x.src]).eraseDups }
  if !lock || first.src == x.src then s
  else
    let (ppm, bad) := s.compare step first.slot first.data x.data
    let s := (s.bump 0x4107 0 0 1).modStep step fun r => { r with
      matched := r.matched ++ [first.slot],
      inputs := r.inputs.map fun i => if i.slot = first.slot ∧ i.forwarded = true ∧ i.waiting = [] then { i with reserve := 0, shared := 0 } else i }
    let s := s.noteCheck step ((s.entryIndexOf x.src).getD 0xFFFF) bad
    if bad then s.twinMismatch step ppm else s

/-- ACT: a completed ACT transfer is taken into its step. One for a step that is past, or begun before its failure here, is
discarded and counted late. -/
def execAct (src : BitVec 16) (tid : BitVec 32) (s : State) : Host.Outcome State Fault Refusal :=
  .next (
    match s.receiving.find? fun r => r.src % 65536 == src.toNat && r.tid == tid.toNat && r.hdr.kind == 1 && r.complete with
    | none => s
    | some x =>
      let step := x.hdr.step.toNat
      let s := s.dropReceiving x.src x.tid
      let r := s.stepRec step
      let past := r.phase != .waiting && r.phase != .running && r.phase != .failed
      let stale := r.phase == .failed && decide (x.since < r.boundary * 10)
      if past || stale then s.bump 0x4202 0 7 1
      else
        let s := match x.stepHdr with
          | some b => if r.hdr.isNone then (s.openStep step x.hdr b).takePartner x.src step else s.takeK step b.k.toNat
          | none => s
        match (s.stepRec step).inputs.find? fun i => i.slot == x.hdr.slot.toNat with
        | some first => s.secondCopy x first step
        | none => s.joinInput x step)

/-! ### ACK, NACK and retries (R348 to R350) -/

/-- The full endpoint among a transfer's targets with a 16-bit number. -/
def Sending.target (o : Sending) (src : Nat) : Option Nat := o.left.find? fun e => e % 65536 == src

/-- A delivery at one endpoint: its bit clears; with none left the transfer is delivered. -/
def State.delivered (o : Sending) (e : Nat) (s : State) : State :=
  let tid := o.hdr.tid.toNat
  let s := ({ s with suspects := s.suspects.filter (· != e) }.modSending tid fun o => { o with acked := true }).strike tid [e]
  if (s.sendingOf tid).isSome then s
  else (s.bump 0x4202 0 1 1).settlePorts

/-- ACK from an endpoint. -/
def execAck (src : BitVec 16) (tid : BitVec 32) (s : State) : Host.Outcome State Fault Refusal :=
  .next (
    match s.sendingOf tid.toNat with
    | none => s
    | some o =>
      match o.target src.toNat with
      | none => s
      | some e => s.delivered o e)

def nackCode : NackReason → Nat
  | .nobuf => 1
  | .slot => 2
  | .format => 3
  | .state => 4

def State.retryLimit (s : State) : Nat := s.od 0x4201 0 2

/-- NACK: NOBUF sets the endpoint down for a retry; any other reason fails the transfer there. -/
def execNack (src : BitVec 16) (tid : BitVec 32) (reason : NackReason) (s : State) : Host.Outcome State Fault Refusal :=
  .next (
    match s.sendingOf tid.toNat with
    | none => s
    | some o =>
      match o.target src.toNat with
      | none => s
      | some e =>
        let s := s.bump 0x4202 0 2 1
        if reason ≠ .nobuf then s.failAt o [e] (nackCode reason)
        else
          let wait := s.od 0x4201 0 (if kindClass o.hdr.kind.toNat = 2 then 1 else 0)
          s.modSending tid.toNat fun o => { o with
            refused := (o.refused ++ [e]).eraseDups, tries := if o.retryAt.isNone then o.tries + 1 else o.tries,
            retryAt := some (o.retryAt.getD (s.elapsed + wait)) })

/-- Send a transfer again to some of its endpoints: the port is chosen anew, and its frames go ahead of new ones. -/
def State.sendAgain (tid : Nat) (dests : List Nat) (s : State) : State :=
  match s.sendingOf tid with
  | none => s
  | some o =>
    match s.pathFor o.hdr.kind.toNat o.payload o.hdr.mcast dests tid with
    | none => s.failAt o dests 4
    | some p =>
      let s := s.modSending tid fun o => { o with port := p, sentAt := s.elapsed, retryAt := none, refused := o.refused.filter fun e => !dests.contains e }
      (s.bump 0x4202 0 3 1).queueRetry p (o.frames dests true)

/-- NOBUF_RETRY: the retry interval has passed. -/
def execNobufRetry (tid : BitVec 32) (s : State) : Host.Outcome State Fault Refusal :=
  .next (
    match s.sendingOf tid.toNat with
    | none => s
    | some o =>
      match o.retryAt with
      | none => s
      | some t => if s.elapsed < t ∨ s.retryLimit ≤ o.tries then s else s.sendAgain tid.toNat o.refused)

/-- A position whose delivery timed out is reported to the admitting part once (R374). -/
def State.reportPosition (e : Nat) (s : State) : State :=
  if s.suspects.contains e then s
  else { s with suspects := s.suspects ++ [e] }.mirrorTo 0x0A (roleBody 5 ((s.entryIndexOf e).getD 0xFFFF) e (s.od 0x4111 0 0)) s.admitting

/-- DELIVERY_TIMEOUT: no ACK or NACK has come from some endpoints in time; the transfer goes to them again. -/
def execDeliveryTimeout (tid : BitVec 32) (s : State) : Host.Outcome State Fault Refusal :=
  .next (
    match s.sendingOf tid.toNat with
    | none => s
    | some o =>
      let silent := o.left.filter fun e => !o.refused.contains e
      let wait := if silent.all s.sameRack then s.od 0x4201 0 3 else s.od 0x4201 0 4
      if silent = [] ∨ s.elapsed < o.sentAt + wait ∨ s.retryLimit ≤ o.tries then s
      else
        let s := s.modSending tid.toNat fun o => { o with tries := o.tries + 1 }
        let s := if o.hdr.kind = 1 then silent.foldl (fun s e => s.reportPosition e) s else s
        if s.retryLimit ≤ o.tries + 1 then s else s.sendAgain tid.toNat silent)

/-- RETRY_LIMIT: the attempts are used up; the transfer fails at every endpoint it still owes. -/
def execRetryLimit (tid : BitVec 32) (s : State) : Host.Outcome State Fault Refusal :=
  .next (
    match s.sendingOf tid.toNat with
    | none => s
    | some o =>
      if o.tries < s.retryLimit then s
      else
        let silent := o.left.filter fun e => !o.refused.contains e
        (s.failAt o o.refused 1).failAt o silent 0)

/-! ### Notices about steps -/

/-- SLIP: the slip count of a step (R178). The admitting part counts one that comes from a replay (R368). -/
def execSlip (step : BitVec 64) (k : SlipCount) (s : State) : Host.Outcome State Fault Refusal :=
  .next ((if k.replay && s.isAdmitting then s.countReplay step.toNat else s).takeK step.toNat k.k.toNat)

/-- Where kept transfers of a step for the entry of an endpoint go now: to the position that serves it. -/
def State.resendFor (step i : Nat) (s : State) : State :=
  match s.entryAt i with
  | none => s
  | some e =>
    (s.retained.filter fun r => r.step == step && r.left.any fun x => e.members.contains x).foldl
      (fun s r => s.resendRetained (s.entryTargets r.send.hdr.gen.toNat i e) r) s

/-- Whether this part keeps an input of a step for an entry. -/
def State.retains (s : State) (step i : Nat) : Bool :=
  match s.entryAt i with
  | some e => s.retained.any fun r => r.step == step && r.left.any fun x => e.members.contains x
  | none => false

/-- Resend what is kept of a step for an entry, once a declaration that is pending for it has come (R366). -/
def State.resendOrWait (step i : Nat) (e : Entry) (s : State) : State :=
  if e.members.any fun x => s.suspects.contains x then { s with heldResends := s.heldResends ++ [(step, i)] } else s.resendFor step i

/-- The admitting part takes ABANDON from the HEAD as a request to replay (R366 to R368): the head input it keeps goes out again, or the step
is scheduled anew where this part is the HEAD itself. -/
def State.replayHead (step i : Nat) (e : Entry) (s : State) : State :=
  let s := s.countReplay step
  if s.od 0x4105 0 0 < s.replaysOf step then s
  else if s.retains step i then s.resendOrWait step i e
  else if (s.stepRec step).phase == .failed then s.scheduleReplay step
  else s

/-- ABANDON (R366, R367). From the admitting part with stage 0 it drops an old step id. A part that keeps an input for the
failing entry resends it, after the declaration where one is pending; at the slip limit, or with nothing kept, the admitting
part restarts the step. -/
def execAbandon (src : BitVec 16) (step : BitVec 64) (stage : Byte) (s : State) : Host.Outcome State Fault Refusal :=
  .next (
    let id := step.toNat
    let ep := 65536 * (s.endpoint / 65536) + src.toNat
    let self := ep == s.endpoint
    match s.entries.zipIdx.find? fun e => e.1.members.contains ep with
    | none => if ep = s.admitting ∧ stage = 0 then (s.dropStep id).settleDrain else s
    | some (e, i) =>
      if ep == s.admitting && stage == 0 && !self then (s.dropStep id).settleDrain
      else if e.head then (if s.isAdmitting then s.replayHead id i e else s)
      else
        let limit := decide (s.od 0x2203 0 0 ≤ (s.stepRec id).k)
        if s.isAdmitting && limit then s.restartStep id
        else if s.retains id i then s.resendOrWait id i e
        else s.restartStep id)

/-- COMMIT (R365): a position has committed a step; what was kept for it goes once every position has. -/
def execCommit (src : BitVec 16) (step : BitVec 64) (s : State) : Host.Outcome State Fault Refusal :=
  .next (
    let less (r : Retained) : Retained := if r.step = step.toNat then { r with left := r.left.filter fun e => e % 65536 != src.toNat } else r
    { s with retained := (s.retained.map less).filter fun r => r.left != [] })

/-! ### Commit (R364) -/

/-- Whether everything a step sent has been acknowledged, its mirror records among them. -/
def State.stepAcked (s : State) (step : Nat) : Bool :=
  let r := s.stepRec step
  !(s.sending.any fun o => stepKind o.hdr && o.hdr.step.toNat == step && o.run == r.runs) &&
  !(r.tids.any fun t => (s.sendingOf t).isSome)

end Sys2Proof.Machine
end

