-- ==== Sys2Proof/Machine/Restart.lean ====
section
/-! DEFINITION. Machine/Restart.lean: what a main-side reset and a power cycle leave (21 R502, Table 21-7; 04 R97, 11 R265,
09 R228, 16 R399, 20 R481), and the island's messages that ask for them (17 R406, R411). -/

namespace Sys2Proof.Machine

/-! ### What a reset keeps -/

/-- Whether an object outlives a reset of the main side: it is stored by the island or belongs to it. -/
def survives (idx sub : Nat) : Bool :=
  islandServes idx sub || ((odRow? idx sub).map (·.stored)).getD false

def keySub (k : Nat) : Nat := k / 64 % 256

def keptEntries {α : Type} (m : Tab α) : Tab α := m.filter fun e => survives (keyIndex e.1) (keySub e.1)

/-- Where the trims are kept, so is what a hearth's last run found: T_cal, its time, and that its trims are valid (04 R97). -/
def keptRun (k : Nat) : Bool :=
  let f := k % 64
  keyIndex k == 0x2805 && (f == 0 || f == 1 || f == 40 || f == 42)

/-- A hearth whose trims are kept is VALID; the drift since the last steep goes on from the figure kept (04 R97, R108). A run that was due or
in progress is forgotten, and falls due again by the triggers (DESIGN CHOICE, log 189). -/
def State.restoreRuns (s : State) : State :=
  (List.range 128).foldl (fun s h =>
    let s := if s.od 0x2805 (h + 1) 40 = 1 then s.setOd 0x2805 (h + 1) 2 1 else s
    s.setOd 0x3110 (h + 1) 40 (s.od 0x3110 (h + 1) 0)) s

/-- Resident rows outlive a reset that keeps VDD_CORE up: those of VALID regions. -/
def State.keptRow (s : State) (key : Nat) : Bool := s.inRegion (key / 32768) (key % 32768) none

/-- The data areas and the soot ring outlive a reset that keeps VDD_MEM up; page frames do not. -/
def State.keptStack (s : State) (addr : Nat) : Bool :=
  s.inDataArea (addr % 2 ^ 37) 1 || decide (sootBase ≤ addr)

/-- Every NOA request that waits for the main side ends with a state error (17 Table 17-9). -/
def State.failWaits (s : State) : State :=
  { s.noaWaits.foldl (fun s w => s.respond w.msg mainDown 0 []) s with noaWaits := [] }

/-- Whether a steep runs, by OD 0x5025. -/
def State.steepRuns (s : State) : Bool := let x := s.od 0x5025 0 0; decide (1 ≤ x) && decide (x ≤ 4)

/-- Everything the main side forgets: `cycle` when its rails fall, so that VDD_AON and VDD_MEM are lost too. -/
def State.forget (cycle : Bool) (s : State) : State :=
  State.restoreRuns { State.reset with
    pending := s.pending, tick := s.tick, free := s.free, out := s.out, results := s.results,
    dict := s.dict.filter fun e => survives (keyIndex e.1) (keySub e.1) || (!cycle && keptRun e.1), blobs := keptEntries s.blobs,
    trims := if cycle then [] else s.trims, compAt := if cycle then [] else s.compAt, calSerial := if cycle then [] else s.calSerial,
    hearthTrim := if cycle then [] else s.hearthTrim, masterTrim := if cycle then 0 else s.masterTrim,
    sideBits := s.sideBits, sideAt := s.sideAt, storedNext := s.storedNext,
    path2 := s.path2,
    weights := s.weights, scales := s.scales, convOut := s.convOut, layerImage := s.layerImage, usedSlots := s.usedSlots,
    retired := s.retired,
    kilnAt := s.kilnAt,
    retiredSoft := if cycle then [] else s.retiredSoft,
    stack := if cycle then [] else s.stack.filter fun e => s.keptStack e.1,
    stackLine := if cycle then [] else s.stackLine.filter fun e => s.keptStack (e.1 * 64),
    stackBad := if cycle then [] else s.stackBad.filter fun e => s.keptStack (e.1 * 64),
    bufStuck := s.bufStuck, shadowRows := if cycle then [] else s.shadowRows,
    buf := if cycle then [] else s.buf.filter fun e => s.keptRow (e.1 / 64),
    bufWritten := if cycle then [] else s.bufWritten.filter fun e => s.keptRow e.1,
    bufWord := if cycle then [] else s.bufWord.filter fun e => s.keptRow (e.1 / 4),
    bufBad := if cycle then [] else s.bufBad.filter fun e => s.keptRow e.1,
    nextTid := s.nextTid, nextRead := s.nextRead, nextReq := s.nextReq, nextCtx := s.nextCtx, nextStep := s.nextStep,
    nextOrder := s.nextOrder, nextCorr := s.nextCorr,
    islandRun := s.islandRun, islandAt := s.islandAt, trial := s.trial, runSlot := s.runSlot, seq := s.seq, boot := s.boot,
    conns := s.conns, islandHeard := s.islandHeard, mainHeard := s.elapsed,
    journal := if cycle then [] else s.journal, journalFull := !cycle && s.journalFull,
    tapInstr := s.tapInstr, refSince := s.elapsed }

/-- A steep that a reset interrupts ends FAILED with outcome POWER (Table 05-9). -/
def State.steepLost (s : State) : State := (s.setOd 0x5025 0 0 6).setOd 0x5025 0 1 10

/-- A position that has failed, or was in service, takes role DRAINED when it next starts (R375). -/
def State.roleLost (s : State) : State := if s.od 0x4100 1 0 = 1 ∨ s.od 0x4100 1 0 = 2 then s.setOd 0x4100 1 0 3 else s

/-- The main side restarts in a state of Table 17-5: it reports itself failed first where it can (R374). -/
def State.mainSideReset (cycle : Bool) (mainState : Nat) (s : State) : State :=
  let s := (if s.ready then s.reportFailed else s).failWaits
  let steeping := s.steepRuns
  let t := (s.forget cycle).setOd 0x1300 3 0 mainState
  let t := if s.ready then t.roleLost else t
  let t := [0, 1].foldl (fun t p => if s.hostLink p then t.setOd 0x1200 (p + 1) 40 (s.elapsed + 1) else t) t
  let t := if t.od 0x1300 1 cmdState = 1 then t.endCommand 0x1300 1 codeState else t
  if steeping then t.steepLost else t

/-! ### Requests of the island -/

/-- The island sends MAIN_RESET (urgent). -/
def State.sendReset (s : State) : State := s.sendToMain true 0xB 0 []

/-- The island sends MAIN_OFF (urgent), forced or not. -/
def State.sendOff (forced : Bool) (s : State) : State := s.sendToMain true 0xC 0 (leBytes 1 (flagNat forced))

/-- The island starts to sequence the main side up: SEQ_EN0 goes high (R510). -/
def State.startSequence (s : State) : State :=
  let q := { s.seq with enables := 1, goods := 0, stepAt := s.elapsed, down := none, again := false, released := false }
  ({ s with seq := q }.setOd 0x1300 3 0 1).emit (.rail 0 true)

/-- The rails begin to fall, the last enable first (R511). -/
def State.startPowerDown (forced again : Bool) (s : State) : State :=
  { s with seq := { s.seq with down := some forced, again := again, stepAt := s.elapsed, released := false } }

end Sys2Proof.Machine
end

