-- ==== Sys2Proof/Machine/Clocks.lean ====
section
/-! DEFINITION. Machine/Clocks.lean: the reference, core frequency and its set point, spread, clock enables, rack time and
its servo, HOLD_N, launch and slip of a step, and the power states of hearths (07 R157 to R184; 22 R509). -/

namespace Sys2Proof.Machine

/-! ### Reference (R158 to R160) -/

def State.isLocal (s : State) : Bool := s.od 0x2100 1 0 == 1

/-- REFERENCE_LOST: the part enters a main-side reset; HOLD_N is released, the hearths are BANKED, trims stay; the island
records it. -/
def execReferenceLost (s : State) : Host.Outcome State Fault Refusal :=
  .next (
    if s.mainState = 0 ∨ s.isLocal then s
    else
      let s := (s.mainSideReset false 4).setOd 0x2100 2 0 2
      s.raiseIsland false { kind := .clock, path := pathDie 5 0, detail := 0 })

/-- The image of a firmware slot as installed (R493), in slot A that of manufacture until then; its main digest and main-side code
(Table 21-3). -/
def State.slotImage (s : State) (n : Nat) : List Byte :=
  let b := s.blobAt (n + 1) 0x7005 0
  if b = [] ∧ n = 0 then Config.factoryImage else b
def mainDigest (img : List Byte) : List Byte := slice 128 64 img
def mainCode (img : List Byte) : List Byte := slice (256 + leAt img 32 4 + 132 + leAt img 24 4) (leAt img 28 4) img

/-- The island sends the main-side code, the digest ahead of it in the first frame (R495). -/
def State.sendBoot (s : State) : State :=
  let img := s.slotImage s.runSlot
  let stream := mainDigest img ++ mainCode img
  (List.range (max 1 (ceilDiv stream.length 4096))).foldl (fun s i =>
    s.sendToMain false 9 0 (leBytes 4 (4096 * i) ++ slice (4096 * i) 4096 stream)) s

/-- REFERENCE_STABLE: the reference is LOCKED after its stable time; the island brings the main side up. -/
def execReferenceStable (s : State) : Host.Outcome State Fault Refusal :=
  .next (
    if s.mainState = 0 ∨ s.seq.released = false ∨ s.thermalHold = true ∨ s.od 0x2100 2 0 = 0 ∨ s.elapsed < s.refSince + 1000000 * s.od 0x2100 3 0 then s
    else
      let s := { s with boot := { s.boot with digest := [], code := [], fails := 0, startAt := s.elapsed } }.setOd 0x2100 2 0 0
      s.sendBoot)

def State.applyReferenceSelect (v : Nat) (s : State) : Nat × State :=
  if s.ready then refuse codeState s
  else if 1 < v then refuse codeRange s
  else (0, (s.setOd 0x2100 1 0 v).mainSideReset false 4)

/-- REFERENCE_SELECT_WRITE (OD 0x2100.01): applied through a main-side reset. -/
def execReferenceSelectWrite (rq : Requester) (v : Byte) (s : State) : Host.Outcome State Fault Refusal :=
  .next (s.access rq .write 0x2100 1 [v] (State.applyReferenceSelect v.toNat))

/-! ### Core frequency (R161, R162, R509) -/

def State.applyCeiling (mhz : Nat) (s : State) : Nat × State :=
  if mhz < 1500 ∨ 3000 < mhz ∨ mhz % 125 ≠ 0 then refuse codeRange s
  else (0, (s.setOd 0x2101 1 0 mhz).retarget)

/-- CORE_FREQUENCY_CEILING_WRITE (OD 0x2101.01). -/
def execCoreFrequencyCeilingWrite (rq : Requester) (mhz : BitVec 16) (s : State) : Host.Outcome State Fault Refusal :=
  .next (s.access rq .write 0x2101 1 (leBytes 2 mhz.toNat) (State.applyCeiling mhz.toNat))

/-- SET_POINT_SETTLE_WAIT: 100 µs after a higher set point was written, the rise begins. -/
def execSetPointSettleWait (s : State) : Host.Outcome State Fault Refusal :=
  .next (
    match s.setPointAt with
    | none => s
    | some t => if s.pmbusFailed || decide (s.elapsed < t + 100000) then s
      else { s with freqTarget := min s.setPoint s.targetMhz, setPointAt := none, gliding := true })

/-- GLIDE_COMPLETE: the frequency in effect is the target's; where VDD_CORE stands higher than it needs, and no rise waits, the lower set point
is written. -/
def execGlideComplete (s : State) : Host.Outcome State Fault Refusal :=
  .next (
    if !s.gliding then s
    else
      let s := { s with coreMhz := s.freqTarget, gliding := false }
      (if s.freqTarget < s.setPoint ∧ s.setPointAt = none then s.writeSetPoint s.freqTarget else s).retarget)

/-- PMBUS_RETRY: a write of the set point was not acknowledged and is made again. The part keeps its frequency and set point
until the regulator takes it. -/
def execPmbusRetry (acked : Bool) (s : State) : Host.Outcome State Fault Refusal :=
  .next (
    let t := if s.coreMhz < s.targetMhz then s.targetMhz else s.coreMhz
    let s := (if s.pmbusFailed then s else s.damperEvent).emit (.pmbus 0 (boundMv (Config.setPointMv t)))
    if acked then
      { s with pmbusFailed := false, setPoint := t, setPointAt := if s.coreMhz < t then some s.elapsed else none }
    else { s with pmbusFailed := true, setPointAt := none })

/-- PMB_ALERT: the part reads STATUS_WORD (79h) and raises a DAMPER event. -/
def execPmbAlert (s : State) : Host.Outcome State Fault Refusal :=
  .next (if s.mainState = 0 then s else (s.emit (.pmbus 0x79 0)).damperEvent)

/-! ### Spread and clock enables (R164, R166, R167, R211) -/

def State.applySpreadDepth (v : Nat) (s : State) : Nat × State :=
  if s.od 0x2103 0 0 < v then refuse codeState s else if 10 < v then refuse codeRange s else (0, s.setOd 0x2102 1 0 v)

def State.applySpreadRate (v : Nat) (s : State) : Nat × State :=
  if v < 30 ∨ 63 < v then refuse codeRange s else (0, s.setOd 0x2102 2 0 v)

/-- SPREAD_WRITE (OD 0x2102). -/
def execSpreadWrite (rq : Requester) (rate : Bool) (v : Byte) (s : State) : Host.Outcome State Fault Refusal :=
  .next (if rate then s.access rq .write 0x2102 2 [v] (State.applySpreadRate v.toNat)
    else s.access rq .write 0x2102 1 [v] (State.applySpreadDepth v.toNat))

/-- Pair state: 0 PAIRED, 1 SOLO, 2 SYNCING, 3 DIVIDED (Table 15-4). -/
def State.pairState (s : State) : Nat := s.od 0x4102 0 0

/-- Steps run here: the part is in service, or stands by in a pair that is divided and takes the steps of its own generation (06 R145,
R147). -/
def State.runsSteps (s : State) : Bool := s.inService || s.od 0x5007 0 0 == 1 && s.od 0x4100 1 0 == 2

/-- The part holds the only live copy of its shard (R211): nothing else of its entry can take the stage over. -/
def State.onlyLive (s : State) : Bool :=
  s.runsSteps && (match s.ownEntry with
    | some e => (e.mode == 3 || e.mode == 4) || e.members.length != 2 || s.pairState != 0 || s.twin.any s.declared.contains
    | none => false)

/-- Blocks of OD 0x2120 that a write of `v` clears while a step runs whose block-use mask `used` names them stay in force (R167). -/
def State.holdBlocks (v used : Nat) (s : State) : State :=
  let held := Nat.lor (s.rwbOld.get 0 (odKey 0 0x2120 0 0) - 1) (Nat.land (s.od 0x2120 0 0) (Nat.land used (0x3FFE - v)))
  if s.stepRunning && held != 0 then { s with rwbOld := s.rwbOld.put 0 (odKey 0 0x2120 0 0) (held + 1) } else s

def State.applyClockEnable (v : Nat) (s : State) : Nat × State :=
  let v := Nat.land v 0x3FFE
  let used := if s.programLoaded then s.headerAt 32 4 else 0
  let cleared := (List.range 14).any fun b => bit (s.od 0x2120 0 0) b && !bit v b && bit used b
  if s.onlyLive && cleared then refuse onlyCopy s else (0, ((s.holdBlocks v used).setOd 0x2120 0 0 v).resumeMoves)

/-- CLOCK_ENABLE_WRITE (OD 0x2120): bits set act at once; a cleared block that a running step uses runs on to its boundary (R167). -/
def execClockEnableWrite (rq : Requester) (v : BitVec 32) (s : State) : Host.Outcome State Fault Refusal :=
  .next (s.access rq .write 0x2120 0 (leBytes 4 v.toNat) (State.applyClockEnable v.toNat))

/-! ### Rack time (R169 to R171) -/

def State.clockAlarm (detail : Nat) (s : State) : State := s.raise { kind := .clock, path := pathDie 0 0, detail := detail }

/-- The port whose timestamps discipline rack time (R169). -/
def State.ptpPort (s : State) : Nat := s.od 0x2110 3 0

/-- The delay request with which an offset is measured leaves by the PTP port: message type 1 of IEEE 1588-2019, version 2, 44 bytes, the
rest left 0; the time transmitter's address is not in the spec (log 185). -/
def State.delayRequest (s : State) : State :=
  let m : Message := { kind := 9, cls := 0, targets := [], payload := [1, 2] ++ beBytes 2 44 ++ List.replicate 44 0 }
  ({ s with nextTid := (s.nextTid + 1) % 2 ^ 32 }.bump 0x4202 0 0 1).queueFrames s.ptpPort (transferFrames (s.headerOf m s.nextTid) none m.payload (s.od 0x4011 0 0))

/-- PTP: an offset to the time transmitter, measured at the PTP port by Sync and delay request. Up to 1,000 ns it is slewed; more is stepped
before the part is ready, and slewed with an alarm while it serves. Within 20 ns the servo is LOCKED (R171). -/
def execPtp (offsetNs : Int) (s : State) : Host.Outcome State Fault Refusal :=
  .next (
    if !s.enabled 4 || s.isLocal || s.mainState = 0 || !s.portUp s.ptpPort then s
    else
      let s := s.delayRequest
      let s := ({ s with ptpAt := s.elapsed }.setOd 0x2110 4 0 (ofSigned 32 offsetNs)).setOd 0x2110 2 0 (if offsetNs.natAbs ≤ 20 then 1 else 0)
      if offsetNs.natAbs ≤ 1000 then { s with slew := -offsetNs }
      else if s.ready then { s with slew := -offsetNs }.clockAlarm 1
      else { s with slew := 0, rackTime := s.rackTime + BitVec.ofNat 64 (ofSigned 64 (-offsetNs)) }.clockAlarm 1)

/-- PTP_HOLDOVER: no Sync for 8 s, the timestamp unit gated included (Table 07-8): rack time runs on at the reference frequency. -/
def execPtpHoldover (s : State) : Host.Outcome State Fault Refusal :=
  .next (if s.mainState != 0 && s.od 0x2110 2 0 != 2 && decide (s.ptpAt + 8000000000 ≤ s.elapsed) then { s.setOd 0x2110 2 0 2 with slew := 0 } else s)

/-! ### Cadence LOST (R173) -/

/-- CADENCE_LOST: the limit of consecutive missed edges is reached; the head launches nothing. -/
def execCadenceLost (s : State) : Host.Outcome State Fault Refusal :=
  .next (if s.cadenceLost || decide (s.missed < s.od 0x2202 0 0) then s else { s with cadenceLost := true, goodEdges := 0 }.clockAlarm 2)

/-! ### HOLD_N (R177) -/

/-- A step whose input the partner has not yet begun to send waits for its kindle: a pulse of its moves that too (R178). -/
def State.slipNext (s : State) : State := { s with partnerSlips := s.partnerSlips + 1 }

/-- HOLD_N_PULSE: sampled low while this part does not drive it, or has driven it from this tick on as the partner has (Table 07-5). The
upstream board partner's pulse is a slip of the next step it sends; any other is counted and ignored. -/
def execHoldNPulse (s : State) : Host.Outcome State Fault Refusal :=
  .next (
    if s.holdStuck || (decide (s.tick < s.holdUntil) && s.tick + 2 != s.holdUntil) then s
    else if s.precedes s.partner && s.twin != some s.partner then s.slipNext
    else s.bump 0x2204 0 6 1)

/-- HOLD_N_STUCK: low for more than 8 tk; ignored, with an alarm. -/
def execHoldNStuck (s : State) : Host.Outcome State Fault Refusal :=
  .next (if s.holdStuck then s else { s with holdStuck := true }.clockAlarm 3)

/-- HOLD_N_STUCK_CLEARED: high for 8 tk. -/
def execHoldNStuckCleared (s : State) : Host.Outcome State Fault Refusal := .next { s with holdStuck := false }

/-! ### Generation check and fault (06 R138, R147) -/

/-- Whether a stage generation and predecessor pass a step's fields. -/
def passes (gen kvGen stage pred : Nat) : Bool := gen == stage && (gen == kvGen || kvGen == pred)

/-- Stages of the main model check (R138, R139). -/
def State.checksGen (s : State) : Bool := (s.ownEntry.map (·.main)).getD false

/-- A step goes to the twin, one slip quantum later (R145, R147): its inputs as kept in the pool, or for the head an ACT
that carries the step header block alone. -/
def State.handToTwin (step t : Nat) (s : State) : State :=
  let s := s.modStep step fun r => { r with k := r.k + 1 }
  let r := s.stepRec step
  let h := s.outHeader step
  let inputs : List (Nat × List Byte) := if r.inputs = [] then [(0, List.replicate 8 0)] else r.inputs.map fun i => (i.slot, i.data)
  let s := inputs.foldl (fun s i =>
    (s.send { kind := 1, cls := 1, targets := [t], slot := i.1, step := step, gen := r.gen, kvGen := r.kvGen, stepHdr := h, payload := i.2 }).2) s
  let s := s.notice 1 r.k 0 step [] s.concerned
  (s.modStep step fun r => { r with inputs := [] }).boundary step .handed

/-- The fault notice to the admitting part; the step's input is released. -/
def State.faultNotice (step : Nat) (s : State) : State :=
  let c := ((s.stepRec step).hdr.map fun h => h.ctx.toNat).getD 0
  let s := (s.bump 0x5008 0 2 1).notice 3 0 c step (leBytes 4 (s.od 0x5003 0 0) ++ leBytes 4 (s.od 0x5003 0 1)) [s.admitting]
  s.boundary step .abandoned

/-- A generation fault (R147): a GENERATION record; replay on the twin where its generation passes and P0 is up, else a
fault notice to the admitting part. -/
def State.generationFault (step : Nat) (s : State) : State :=
  let r := s.stepRec step
  let s := (s.bump 0x5008 0 0 1).raise { kind := .generation, path := pathDie 0 0, detail := s.od 0x5003 0 0, step := step }
  let g := s.twinGen
  match s.twin with
  | some t =>
    if passes r.gen r.kvGen g.1 g.2 && s.portUp 0 then (s.bump 0x5008 0 1 1).handToTwin step t
    else s.faultNotice step
  | none => s.faultNotice step

/-! ### Launch and slip (R175, R176, R179) -/

/-- The context registers (Table 08-2). -/
def StepRec.context (r : StepRec) (step : Nat) : List Nat :=
  match r.hdr with
  | some h => [step % 2 ^ 32, h.positions.toNat, h.variant.toNat, r.k, r.gen, r.kvGen, h.ctxLen.toNat, h.cls.toNat]
  | none => [step % 2 ^ 32, 0, r.variant, r.k, r.gen, r.kvGen, 0, 0]

/-- Conditions 2 and 3, on hearths that may be in service (04 R97, R101, R106). -/
def State.hearthsFree (s : State) : Bool :=
  s.kindleHearths.all fun h => s.hot h && s.calServes h && (match (s.hearth h).phase with
    | .idle | .halted | .faulted => true
    | _ => false)

/-- The launch conditions of R175 at this tick. -/
def State.mayLaunch (s : State) (r : StepRec) : Bool :=
  s.inputsReady r && s.programLoaded && s.hearthsFree && !(s.isHead && s.cadenceLost)

/-- A stoker begins: flags, scalar registers and the cycle counter are cleared (R187). Rows on their way to the hearth stay so. -/
def Hearth.launch (step pc : Nat) (ctx : List Nat) (x : Hearth) : Hearth :=
  { Hearth.fresh with phase := .running, step := step, pc := pc, first := true, ctx := ctx, v := x.v, vPoison := x.vPoison, vBad := x.vBad,
                      bankedAt := x.bankedAt, kindleAt := x.kindleAt, patrol := x.patrol, inbound := x.inbound.map fun r => { r with serial := 0 },
                      waiting := x.waiting, serial := 1 }

/-- The dictionary and remap tables as a step runs under them (R210). -/
def State.snapshot (s : State) : Tab Nat × Tab (List Byte) :=
  (s.dict.filter fun e => keyInst e.1 == 0, s.blobs.filter fun e => keyIndex e.1 == 0x3101)

/-- Every stoker of the kindle set issues its first instruction (R175, R190). -/
def State.startRun (step : Nat) (s : State) : State :=
  let r := s.stepRec step
  let entry := s.headerAt (40 + 2 * (r.variant % 8)) 2
  let snap := s.snapshot
  -- a run begins with every latch free and no reserved interval at its sites (R58, R61), a rerun under the same step id too
  let s := { s with driveArmed := true, latches := s.latches.filter fun e => !bit s.kindleSet (e.1 / 512) }
  let s := s.modStep step fun r => { r with phase := .running, launched := some s.tick, cfg := snap.1, remaps := snap.2, fencedSeen := [],
                                            convSeen := [] }
  let ctx := (s.stepRec step).context step
  let s := s.kindleHearths.foldl (fun s h => ((s.settleRows h).modHearth h (Hearth.launch step entry ctx)).showStoker h 1) s
  if entry = 0 then s.stokerFault (s.kindleHearths.headD 0) .variant (r.variant % 256) 0
  else (s.stepRec step).inputs.foldl (fun s i => s.forwardInput step i) s

/-- A step launches: it is counted, and its stokers start. -/
def State.launch (step : Nat) (s : State) : State := ((s.bump 0x2204 0 3 1).bump 0x3404 0 0 1).startRun step

/-- A step is given up at this stage: ABANDON goes to the admitting part (R179). -/
def State.giveUp (step : Nat) (s : State) : State :=
  let s := (s.bump 0x2204 0 7 1).abandonNotice step [s.admitting]
  s.boundary step .abandoned

/-- The pipeline has one stage: the HEAD entry of this part is the only MAIN one (R158). -/
def State.oneStage (s : State) : Bool := s.isHead && s.laterParts.isEmpty

/-- A step that waits for its launch tick, which has come: an event after its tick counts as at its tick. -/
def State.dueLaunch (s : State) (step : Nat) : Bool :=
  let r := s.stepRec step
  (s.steps.get none step).isSome && r.phase == .waiting && r.known && decide (s.launchTick r ≤ s.tick) && s.runsSteps &&
    !(s.isLocal && !(s.oneStage && r.sources.all (· == s.endpoint)))

/-- The count of a step is past the slip limit, or one more slip would take it past (R179). -/
def State.overSlips (s : State) (r : StepRec) : Bool :=
  decide (s.od 0x2203 0 0 < r.k) || !s.mayLaunch r && decide (s.od 0x2203 0 0 ≤ r.k)

/-- STAGE_LAUNCH: at its launch tick a step launches, meets a generation fault, slips, or is abandoned at the slip limit. -/
def execStageLaunch (step : BitVec 64) (s : State) : Host.Outcome State Fault Refusal :=
  .next (
    let id := step.toNat
    let s := s.settleEdge id
    let r := s.stepRec id
    if !s.dueLaunch id then s
    else if s.overSlips r then s.giveUp id
    else if !s.mayLaunch r then s.originateSlip id false
    else if s.checksGen && !passes r.gen r.kvGen (s.od 0x5003 0 0) (s.od 0x5003 0 1) then s.generationFault id
    else s.launch id)

/-- STEP_ABANDON: a step due here whose next slip would exceed the limit, or one that waits with a count that a notice or a replay has
taken past it (R179). -/
def execStepAbandon (step : BitVec 64) (s : State) : Host.Outcome State Fault Refusal :=
  .next (
    let id := step.toNat
    let r := s.stepRec id
    let waits := (s.steps.get none id).isSome && r.phase == .waiting
    if waits && decide (s.od 0x2203 0 0 < r.k) || s.dueLaunch id && s.overSlips r then s.giveUp id else s)

/-! ### Kindling and banking (R180 to R183) -/

/-- A kindle for a step ends a test of its hearth: it is counted, and the hearth stays DUE (20 R472). -/
def State.abortTest (h : Nat) (s : State) : State :=
  if s.testing.get 0 h = 0 then s
  else (({ s with testing := s.testing.put 0 h 0 }.setOd 0x6102 (h + 1) 1 1).bump 0x6102 (h + 1) 2 1).bump 0x6103 0 0 1

/-- The tick, from `first` on, in which the power controller starts the next kindle: at most 8 start in a tick (R182). -/
def State.nextKindle (s : State) (first : Nat) : Nat :=
  let started (t : Nat) : Nat := ((List.range 128).filter fun h => s.power h == 2 && (s.hearth h).kindleAt == t).length
  (((List.range 17).map (first + ·)).find? fun t => decide (started t < 8)).getD (first + 16)

/-- Start the kindle of a hearth as the power controller comes to it, or when its banking ends; rows outside valid regions are unwritten
(09 R219). The converters return to full rate (19 R450). -/
def State.kindleHearth (h : Nat) (s : State) : State :=
  let x := s.hearth h
  let k := s.nextKindle (max s.tick x.bankedAt)
  let s := ({ s with hkSlow := false }.setOd (0x3000 + h) 1 0 2).bump (0x3000 + h) 3 0 1
  (s.dropRows h fun row => s.inRegion h row none).modHearth h fun _ => { x with kindleAt := k }

/-- Kindle the BANKED hearths of the kindle set in hearth order; none that is being taken OFF (Table 07-5), none while an accepted
calibration image holds the hearths out of service (04 R106). -/
def State.kindleSetNow (s : State) : State :=
  let s := s.kindleHearths.foldl (fun s h => s.abortTest h) s
  let cold := s.kindleHearths.filter fun h => s.power h == 1 && s.calImage == [] && !s.offPending.any (fun e => e.1 == h)
  cold.foldl (fun s h => s.kindleHearth h) s

/-- KINDLE: the kindle tick of a step has come. -/
def execKindle (step : BitVec 64) (s : State) : Host.Outcome State Fault Refusal :=
  .next (
    let id := step.toNat
    let s := s.settleEdge id
    let r := s.stepRec id
    -- a pulse of HOLD_N that waits for this step's input moves its kindle tick as its notice will (R178)
    let wait := if r.hdr.isNone then 50 * s.partnerSlips else 0
    let early := r.known && decide (s.tick + s.od 0x2001 0 0 < s.launchTick r + wait)
    if early || !s.runsSteps then s
    else
      let s := s.kindleSetNow
      if (s.steps.get none id).isSome then s.modStep id fun r => { r with kindled := true } else s)

/-- KINDLE_COMPLETE: the ramp is over. -/
def execKindleComplete (h : HearthId) (s : State) : Host.Outcome State Fault Refusal :=
  .next (if s.power h.toNat = 2 ∧ (s.hearth h.toNat).kindleAt ≤ s.tick then s.setOd (0x3000 + h.toNat) 1 0 s.workingState else s)

/-- Whether a launch that holds a hearth lies within the kindle lead, or its kindle tick has passed (R178), or a shadow run waits for its
hearths. -/
def State.wantedSoon (s : State) (h : Nat) : Bool :=
  let step := s.steps.any fun e => match e.2 with
    | some r => r.phase == .waiting && r.known && (r.kindled || decide (s.launchTick r ≤ s.tick + s.od 0x2001 0 0))
    | none => false
  bit s.kindleSet h && (step || ((s.shadow.map fun x => !x.running).getD false))

/-- An array that a steep or self-refresh names has ended. -/
def SteepJob.ended (j : SteepJob) (a : Nat) : Bool := j.arrays.any fun x => x.array == a && x.phase == 5

/-- Whether a steep, a calibration run or a test keeps a hearth HOT (05 R119, 04 R102, 20 R470). -/
def State.workHolds (s : State) (h : Nat) : Bool :=
  (match s.steep with
    | some j => j.named.any fun a => a / 1024 == h && !j.ended a
    | none => false) ||
  (match s.calRun with
    | some r => r.group.contains h
    | none => false) || s.testing.get 0 h != 0

/-- HEARTH_BANK: a hearth with nothing to run returns to BANKED, in 40 tk. -/
def execHearthBank (h : HearthId) (s : State) : Host.Outcome State Fault Refusal :=
  .next (
    let n := h.toNat
    let x := s.hearth n
    let busy := match x.phase with
      | .idle | .halted | .faulted => false
      | _ => true
    if !s.hot n || busy || s.wantedSoon n || s.workHolds n then s
    else
      let s := s.settleRows n
      if s.power n = 0 then s   -- a repair due in it found no spare row and took the hearth OFF (09 R224)
      else (s.setOd (0x3000 + n) 1 0 1).modHearth n fun _ =>
        { Hearth.fresh with bankedAt := s.tick + 40, kindleAt := x.kindleAt, patrol := x.patrol, inbound := x.inbound, waiting := x.waiting })

def State.applyOutOfService (h : Nat) (s : State) : Nat × State :=
  if s.onlyLive && bit s.kindleSet h then refuse onlyCopy s else if s.power h = 0 then (0, s) else (0, s.takeOff h false)

/-- OUT_OF_SERVICE (OD 0x3000+h.02, 0x01). -/
def execOutOfService (rq : Requester) (h : HearthId) (s : State) : Host.Outcome State Fault Refusal :=
  .next (s.access rq .command (0x3000 + h.toNat) 2 [1] (State.applyOutOfService h.toNat))

/-- An OFF hearth comes back BANKED; its LOAD regions are written (09 R228). It can be kindled 1 ms later (Table 07-4). -/
def State.applyReturn (h : Nat) (s : State) : Nat × State :=
  if s.power h = 0 then (0, ((s.setOd (0x3000 + h) 1 0 1).modHearth h fun x => { x with bankedAt := s.tick + 100000 }).loadResident h) else (0, s)

/-- RETURN_TO_SERVICE (OD 0x3000+h.02, 0x02). -/
def execReturnToService (rq : Requester) (h : HearthId) (s : State) : Host.Outcome State Fault Refusal :=
  .next (s.access rq .command (0x3000 + h.toNat) 2 [2] (State.applyReturn h.toNat))

end Sys2Proof.Machine
end

