-- ==== Sys2Proof/Machine/TokenStage.lean ====
section
/-! DEFINITION. Machine/TokenStage.lean: the token stage (12 R301 to R306, 13 R313 to R319): bias, grammar mask, candidates,
temperature, top-k and top-p, the draw, the walk of a step's tree, the extra heads, and the grammar slots. -/

namespace Sys2Proof.Machine

/-! ### Grammar images (Tables 12-6 to 12-8) -/

def gramKind (img : List Byte) : Nat := leAt img 2 1
def gramStates (img : List Byte) : Nat := leAt img 4 4
def gramStart (img : List Byte) : Nat := leAt img 8 4
def gramVocab (img : List Byte) : Nat := leAt img 12 4
def gramBody (img : List Byte) : List Byte := img.drop 64

/-- An automaton state entry (Table 12-7). -/
structure GramState where
  isEnd : Bool
  any : Bool
  kind : Nat
  masks : Nat
  maskAt : Nat
  transAt : Nat
  trans : Nat
  dflt : Nat
deriving DecidableEq, Repr

def gramState (img : List Byte) (n : Nat) : GramState :=
  let e := slice (16 * n) 16 (gramBody img)
  let f := leAt e 0 1
  { isEnd := bit f 0, any := bit f 1, kind := leAt e 1 1, masks := leAt e 2 2, maskAt := leAt e 4 4,
    transAt := leAt e 8 4, trans := leAt e 12 2, dflt := leAt e 14 2 }

/-- Ranges (lo, hi) of a RANGES mask. -/
def GramState.ranges (g : GramState) (body : List Byte) : List (Nat × Nat) :=
  (List.range g.masks).map fun i => (leAt body (g.maskAt + 8 * i) 4, leAt body (g.maskAt + 8 * i + 4) 4)

/-- Transitions (lo, hi, next) (Table 12-8). -/
def GramState.moves (g : GramState) (body : List Byte) : List (Nat × Nat × Nat) :=
  (List.range g.trans).map fun i =>
    let w := leAt body (g.transAt + 8 * i) 8
    (field w 17 0, field w 35 18, field w 51 36)

/-- Whether the grammar of a slot allows a token in a state; an empty image allows none. -/
def gramAllows (img : List Byte) (st tok : Nat) : Bool :=
  if img = [] then false
  else if gramKind img = 1 then (List.range (leAt img 16 4)).any fun i => leAt (gramBody img) (4 * i) 4 == tok
  else if gramStates img ≤ st then false
  else
    let g := gramState img st
    if g.any then true
    else if g.kind = 1 then decide (tok < gramVocab img) && maskBit ((gramBody img).drop g.maskAt) tok
    else (g.ranges (gramBody img)).any fun r => decide (r.1 ≤ tok) && decide (tok ≤ r.2)

/-- The state after a token. -/
def gramNext (img : List Byte) (st tok : Nat) : Nat :=
  if gramKind img = 1 then st
  else
    let g := gramState img st
    match (g.moves (gramBody img)).find? fun m => decide (m.1 ≤ tok) && decide (tok ≤ m.2.1) with
    | some m => m.2.2
    | none => g.dflt

/-- Whether a state is an END state. -/
def gramEnds (img : List Byte) (st : Nat) : Bool := gramKind img == 0 && (gramState img st).isEnd

/-- Pairs disjoint and ascending, each of them too. -/
def ascending : Option Nat → List (Nat × Nat) → Bool
  | _, [] => true
  | below, (lo, hi) :: l => (match below with
      | some b => decide (b < lo)
      | none => true) && decide (lo ≤ hi) && ascending (some hi) l

/-- A state entry lies within the image (R306). -/
def gramStateGood (img : List Byte) (n : Nat) : Bool :=
  let g := gramState img n
  let body := gramBody img
  let mask := if g.any then true
    else if g.kind = 0 then decide (1 ≤ g.masks) && decide (g.maskAt + 8 * g.masks ≤ body.length) && ascending none (g.ranges body) &&
      (g.ranges body).all fun r => decide (r.2 < gramVocab img)
    else g.kind == 1 && g.masks == 0 && decide (g.maskAt + ceilDiv (gramVocab img) 8 ≤ body.length)
  let moves := g.moves body
  mask && decide (g.transAt + 8 * g.trans ≤ body.length) && ascending none (moves.map fun m => (m.1, m.2.1)) &&
    moves.all (fun m => decide (m.2.1 < gramVocab img) && decide (m.2.2 < gramStates img)) && decide (g.dflt < gramStates img)

/-- An image as it is read: its reserved fields return 0 (R12). -/
def gramShown (img : List Byte) : List Byte :=
  if img = [] then []
  else
    let b := patch (patch img 3 [0]) 24 (List.replicate 32 0)
    if gramKind img ≠ 0 then b
    else (List.range (gramStates img)).foldl (fun b n =>
      let g := gramState img n
      (List.range g.trans).foldl (fun b i =>
        let p := 64 + g.transAt + 8 * i
        patch b (p + 6) (leBytes 2 (leAt b (p + 6) 2 % 16))) (patch b (64 + 16 * n) (leBytes 1 (leAt b (64 + 16 * n) 1 % 4)))) b

/-- Whether the token stage takes an image (R306); reserved fields are ignored (R12). -/
def gramGood (img : List Byte) : Bool :=
  let v := gramVocab img
  let n := leAt img 16 4
  let head := decide (64 ≤ img.length) && leAt img 0 2 == 1 && leAt img 20 4 == img.length &&
    leAt img 56 4 == crc32 (img.drop 64) && leAt img 60 4 == crc32 (img.take 60) && decide (1 ≤ v) && decide (v ≤ 262144)
  let ids := (List.range n).map fun i => leAt (gramBody img) (4 * i) 4
  if !head then false
  else if gramKind img = 1 then
    gramStates img == 1 && gramStart img == 0 && decide (1 ≤ n) && decide (n ≤ 4096) && (gramBody img).length == 4 * n &&
      ascending none (ids.map fun t => (t, t)) && ids.all fun t => decide (t < v)
  else
    gramKind img == 0 && decide (1 ≤ gramStates img) && decide (gramStates img ≤ 65536) && decide (gramStart img < gramStates img) && n == 0 &&
      decide (16 * gramStates img ≤ (gramBody img).length) && (List.range (gramStates img)).all (gramStateGood img)

/-- The image of a slot. -/
def State.grammar (s : State) (slot : Nat) : List Byte := s.blobAt slot 0x5C11 0

/-! ### Parameters of a request as the token stage has them -/

/-- Temperature, top-k, top-p, bias list, grammar slot (255 none) and state, seed, sequence number of the step's first token,
LOGPROB, and the mode of the step as it is reported. -/
structure Sampling where
  temperature : Nat
  topK : Nat
  topP : Nat
  bias : List (Nat × Nat)
  slot : Nat
  gram : Nat
  seed : Nat
  seq : Nat
  logprob : Bool
  mode : Nat
deriving DecidableEq, Repr

/-- The parameters of a request as its entry and its progress give them. A plain step is reported as FALLBACK where the request is in that
mode, else as REBUILD: it counts neither as a miss nor as an acceptance (R311, R323; DESIGN CHOICE, log 90). -/
def samplingOf (e : SubEntry) (bias : List (Nat × Nat)) (gram seq source mode : Nat) : Sampling :=
  { temperature := e.temperature.toNat, topK := e.topK.toNat, topP := e.topP.toNat, bias := bias, slot := e.grammar.toNat, gram := gram,
    seed := e.seed.toNat, seq := seq, logprob := bit e.flags.toNat 1, mode := if source ≠ 0 ∨ mode = 1 then mode else 3 }

/-- The REQUEST record that this part holds of a context's request (Table 15-5). -/
def State.recordOf (s : State) (ctx : Nat) : Option ReqMirror := s.mirrored.findSome? fun e => e.2.filter fun r => r.ctx.toNat == ctx

/-- From the request table where this part admits; elsewhere from the REQUEST record that the admitting part sends with each launch
(`State.tellStages`; DESIGN CHOICE, log 90). Where no record has come, no rule tells the parameters, nor in which mode the step ran: free
values. -/
def State.sampling (s : State) (step ctx source : Nat) : Sampling :=
  match (if s.isAdmitting then (s.reqOfStep step).or (s.reqOfCtx ctx) else none), s.recordOf ctx with
  | some (_, r), _ =>
    samplingOf r.entry r.bias r.grammar r.returned source (((r.flights.find? fun f => f.step == step).map (·.mode)).getD r.mode)
  | none, some r => samplingOf r.entry (r.bias.map fun b => (b.1.toNat, b.2.toNat)) r.grammar.toNat r.returned.toNat source r.mode.toNat
  | none, none =>
    let p := Config.remoteParam ctx step
    { temperature := p 0 % 65536, topK := p 1 % 65536, topP := p 2 % 65536,
      bias := (List.range (p 3 % 129)).map fun i => (p (16 + 2 * i) % 262144, p (17 + 2 * i) % 65536),
      slot := if p 4 % 17 = 16 then 255 else p 4 % 17, gram := p 5 % 65536, seed := p 6 % 2 ^ 64, seq := p 7 % 2 ^ 32,
      logprob := p 8 % 2 == 1, mode := if source = 0 then 1 + 2 * (p 9 % 2) else 2 * (p 9 % 2) }

/-- Whether the grammar of the request allows a token in a state. -/
def State.allows (s : State) (p : Sampling) (st tok : Nat) : Bool := p.slot == 255 || gramAllows (s.grammar p.slot) st tok

/-- The state after a token. -/
def State.advanceGram (s : State) (p : Sampling) (st tok : Nat) : Nat := if p.slot = 255 then st else gramNext (s.grammar p.slot) st tok

/-! ### One position (R301, R302) -/

/-- A logit after bias: a count of 2^−149, none for a NaN or a poisoned one. -/
def biased (bias : List (Nat × Nat)) (tok : Nat) (l : Logit) : Option Int :=
  if l.poison || f16IsNan l.bits then none
  else (bias.filter fun b => b.1 == tok).foldl (fun v b =>
    match v with
    | none => none
    | some x => if f16IsNan (BitVec.ofNat 16 b.2) then none else some (f32Units (x + f16Units (BitVec.ofNat 16 b.2) * 2 ^ 125) (2 ^ 149)))
    (some (f32Units (f16Units l.bits) (2 ^ 24)))

/-- A token banned by bias −infinity. -/
def banned (bias : List (Nat × Nat)) (tok : Nat) : Bool := bias.any fun b => b.1 == tok && b.2 == 0xFC00

/-- Insert a candidate in descending order, ties to the lower token id, which was met first. -/
def insertCand (c : Nat × Int) : List (Nat × Int) → List (Nat × Int)
  | [] => [c]
  | d :: l => if d.2 < c.2 then c :: d :: l else d :: insertCand c l

/-- Steps 1 to 3: the 256 largest allowed biased logits, or none where one of the allowed is a NaN or poisoned (R303). -/
def State.candidates (s : State) (p : Sampling) (st : Nat) (logits : List Logit) : Option (List (Nat × Int)) :=
  (logits.zipIdx).foldl (fun acc e =>
    match acc with
    | none => none
    | some l =>
      if banned p.bias e.2 || !s.allows p st e.2 then some l
      else match biased p.bias e.2 e.1 with
        | none => none
        | some v => some ((insertCand (e.2, v) l).take 256)) (some [])

/-- w_j in F32: e to the difference over the temperature. -/
def weight (top temp : Int) (c : Nat × Int) : Int :=
  let d := c.2 - top
  let den := temp.toNat * 2 ^ 125
  if d < -(200 * den : Nat) then 0
  else
    let r := expRatio d den
    f32Units r.1 r.2

/-- Running sums in F32. -/
def prefixSums : Int → List Int → List Int
  | _, [] => []
  | acc, w :: ws => let x := f32Units (acc + w) (2 ^ 149); x :: prefixSums x ws

/-- One round of Philox4x32. -/
def philoxRound (k0 k1 : Nat) (c : Nat × Nat × Nat × Nat) : Nat × Nat × Nat × Nat :=
  let p := 0xD2511F53 * c.1
  let q := 0xCD9E8D57 * c.2.2.1
  (Nat.xor (Nat.xor (q / 2 ^ 32) c.2.1) k0, q % 2 ^ 32, Nat.xor (Nat.xor (p / 2 ^ 32) c.2.2.2) k1, p % 2 ^ 32)

def philoxRounds : Nat → Nat → Nat → Nat × Nat × Nat × Nat → Nat × Nat × Nat × Nat
  | 0, _, _, c => c
  | n + 1, k0, k1, c => philoxRounds n ((k0 + 0x9E3779B9) % 2 ^ 32) ((k1 + 0xBB67AE85) % 2 ^ 32) (philoxRound k0 k1 c)

/-- The 24 bits of u. -/
def draw24 (seed seq pos : Nat) : Nat :=
  (philoxRounds 10 (seed % 2 ^ 32) (seed / 2 ^ 32 % 2 ^ 32) (seq % 2 ^ 32, pos % 2 ^ 32, 0, 0)).1 / 2 ^ 8

/-- Steps 4 and 5: the token drawn from descending candidates; `cands` is not empty. -/
def drawToken (p : Sampling) (seq pos : Nat) (cands : List (Nat × Int)) : Nat × Int :=
  let c0 := cands.headD (0, 0)
  let t := f16Units (BitVec.ofNat 16 p.temperature)
  if t = 0 then c0
  else
    let k := min (if p.topK = 0 then 256 else p.topK) cands.length
    let top := cands.take k
    let sums := prefixSums 0 (top.map (weight c0.2 t))
    let total := sums.getD (k - 1) 0
    let tp := f16Units (BitVec.ofNat 16 p.topP)
    let n := if tp = 0 ∨ tp = 2 ^ 24 then k
      else match sums.findIdx? fun x => decide (f32Units (tp * total) (2 ^ 173) ≤ x) with
        | some i => i + 1
        | none => k
    let bar := f32Units ((draw24 p.seed seq pos : Nat) * sums.getD (n - 1) 0) (2 ^ 173)
    match sums.findIdx? fun x => decide (bar < x) with
    | some j => top.getD j c0
    | none => top.getD (n - 1) c0

/-- The L8 code of a token against the largest allowed biased logit (Table 12-5). -/
def logProb (p : Sampling) (top v : Int) : Nat :=
  if !p.logprob then 255 else min 255 (divRne (16 * (top - v) * fxOne) (2 ^ 149 * fxLn2.toNat)).toNat

/-! ### The walk (R313, R314) -/

/-- What the walk finds: token words returned, the path, where the walk ended without an allowed token, the grammar state after
the last token drawn, the positions drawn, and whether a logit was a NaN. -/
structure Walk where
  words : List Nat
  path : List Nat
  ended : Bool
  gram : Nat
  drawn : Nat
  nan : Bool
deriving DecidableEq, Repr

def tokenWord (lp tok : Nat) : Nat := lp * 2 ^ 24 + tok

/-- Walk from node `i`; a tree has at most 8 levels. -/
def State.walk (s : State) (p : Sampling) (nodes : List NodeWord) (logits : List (List Logit)) (pos : Nat) :
    Nat → Nat → Nat → Walk → Walk
  | 0, _, _, w => w
  | fuel + 1, i, st, w =>
    let w := { w with path := w.path ++ [i], drawn := w.drawn + 1 }
    match s.candidates p st (logits.getD i []) with
    | none => { w with nan := true }
    | some [] => { w with ended := true, gram := st }
    | some cands =>
      let x := drawToken p (p.seq + w.words.length) pos cands
      let next := s.advanceGram p st x.1
      let w := { w with words := w.words ++ [tokenWord (logProb p (cands.headD (0, 0)).2 x.2) x.1], gram := next }
      match nodes.zipIdx.find? fun c => decide (0 < c.2) && c.1.parent.toNat == i && c.1.token.toNat == x.1 with
      | some c => s.walk p nodes logits pos fuel c.2 next w
      | none => w

/-- The guesses of some heads along a chain, each the largest allowed candidate at the grammar state of the node that it will occupy; a guess
with none leaves out what stands below it. And whether a logit was a NaN. -/
def State.chainGuesses (s : State) (p : Sampling) : List (List Logit) → Option Nat → List Nat × Bool
  | [], _ => ([], false)
  | h :: hs, st =>
    match st.bind fun st => (s.candidates p st h).map fun l => (st, l) with
    | none =>
      let (rest, bad) := s.chainGuesses p hs none
      (0xFFFFFFFF :: rest, bad || st.isSome)
    | some (st, l) =>
      let c := (l.head?).map (·.1)
      let (rest, bad) := s.chainGuesses p hs (c.map (s.advanceGram p st))
      (c.getD 0xFFFFFFFF :: rest, bad)

/-- The guesses of the four heads, two of each: head 1's ranks 1 and 2, and for every later head its largest allowed candidate below the one
and below the other (R317, R318; DESIGN CHOICE, log 92: the second word of a later head is the guess of the chain below rank 2). -/
def State.guesses (s : State) (p : Sampling) (heads : List (List Logit)) (st : Nat) : List Nat × Bool :=
  match heads with
  | [] => ([], false)
  | h :: hs =>
    match s.candidates p st h with
    | none => ([], true)
    | some l =>
      let one (k : Nat) : Option Nat := (l[k]?).map (·.1)
      let (a, bad) := s.chainGuesses p hs ((one 0).map (s.advanceGram p st))
      let (b, bad') := s.chainGuesses p hs ((one 1).map (s.advanceGram p st))
      ([(one 0).getD 0xFFFFFFFF, (one 1).getD 0xFFFFFFFF] ++ (a.zip b).flatMap fun e => [e.1, e.2], bad || bad')

/-! ### TOKEN_SELECTION -/

/-- A TOKEN payload (R337). -/
def tokenBytes (ctx : Nat) (words : List Nat) (m : Nat) (nodes guesses : List Nat) : List Byte :=
  let pad (n d : Nat) (l : List Nat) : List Nat := (l ++ List.replicate n d).take n
  leBytes 4 ctx ++ leBytes 1 words.length ++ leBytes 3 0 ++ (pad 8 0 words).flatMap (leBytes 4) ++
    leBytes 1 m ++ (pad 8 0 nodes).flatMap (leBytes 1) ++ leBytes 3 0 ++ (pad 8 0xFFFFFFFF guesses).flatMap (leBytes 4) ++ leBytes 4 0

/-- Where tokens and trees for stage 0 go: to the in-service positions of the HEAD entry (R360, R362), and to the admitting part, which keeps
the requests (Table 14-6, R378). -/
def State.stage0 (s : State) : List Nat := (((s.entries.find? (·.head)).map Entry.targets).getD [] ++ [s.admitting]).eraseDups

/-- Whether the HEAD entry has a position in service. -/
def State.headServed (s : State) : Bool := (s.entries.find? (·.head)).any fun e => e.targets != []

/-- The tokens of a step leave for stage 0, for class T also for the draft model; classes H and T report to the sampler role. -/
def State.sendTokens (step ctx cls m mode : Nat) (payload : List Byte) (s : State) : State :=
  let dests := s.stage0 ++ if cls = 2 then s.draftParts else []
  let s := s.sendFor { kind := 3, cls := 0, targets := [], step := step, payload := payload } (if s.headServed then dests.eraseDups else [])
  if cls = 0 then s else s.notice 9 m ctx step (leBytes 1 mode) s.draftParts

/-- The step fails in the token stage: a NaN, a poisoned logit, or a residue mismatch (R303). -/
def State.tokenFailure (step : Nat) (upset : Option Upset) (s : State) : State :=
  let s := match upset with
    | some u => s.raiseResidue (pathDie 0 0) step 0xFFFF 0 u
    | none => s.bump 0x5C01 0 4 1
  s.failStep step

/-- Tokens removed by a ban from a position's logits. -/
def bansOf (p : Sampling) (logits : List Logit) : Nat :=
  ((List.range logits.length).filter fun t => banned p.bias t).length

/-- TOKEN_SELECTION: selection for a step whose logits have come. A chunk (a chain that is no speculation) samples at its last
position; every other step walks its tree. A shadow run returns no token. -/
def execTokenSelection (step : BitVec 64) (logits heads : List (List Logit)) (upset : Option Upset) (s : State) :
    Host.Outcome State Fault Refusal :=
  .next (
    let id := step.toNat
    let r := s.stepRec id
    if s.isShadow id then s else
    match r.phase, r.hdr with
    | .running, some h =>
      let ctx := h.ctx.toNat
      let source := h.tree.source.toNat
      let p := s.sampling id ctx source
      let h0 := s.kindleHearths.headD 0
      let en := cfgOf r.cfg 0x2120 0 0
      if !bit en 8 || (p.slot != 255 && !bit en 9) then s.stokerFault h0 .gated (if bit en 8 then 9 else 8) 0
      else if upset.isSome then s.tokenFailure id upset
      else
        let chunk := source == 0 && decide (1 < h.tree.count.toNat)
        let last := h.positions.toNat - 1
        let start : Walk := { words := [], path := [], ended := false, gram := p.gram, drawn := 0, nan := false }
        -- a chunk none of whose positions samples is reported complete without a token (R296)
        let w := if logits = [] then start else if chunk then s.walk p [] logits last 1 last p.gram start
          else s.walk p h.tree.nodes logits 0 8 0 p.gram start
        let g := if h.cls = 1 && !w.ended && !w.nan && w.words != [] then s.guesses p (heads.take 4) w.gram else ([], false)
        if w.nan || g.2 then s.tokenFailure id none
        else
          let m := if source = 0 then 0 else w.path.length
          let s := (s.bump 0x5C01 0 0 w.drawn).bump 0x5C01 0 1 (if p.temperature % 32768 = 0 then w.drawn else 0)
          let s := s.bump 0x5C01 0 2 (w.path.map fun i => bansOf p (logits.getD i [])).sum
          let s := s.bump 0x5C01 0 3 (if w.ended then 1 else 0)
          let s := s.bump 0x5C22 0 1 (if source = 0 then 0 else h.tree.count.toNat)
          let s := if s.isAdmitting then { s with selectedAt := s.selectedAt.put 0 id s.now } else s
          s.sendTokens id ctx h.cls.toNat m p.mode (tokenBytes ctx w.words m (if source = 0 then [] else w.path) g.1)
    | _, _ => s)

/-! ### GRAMMAR_IMAGE_WRITE (R305, R306) -/

/-- An admitted or pending request names a slot. -/
def State.slotUsers (s : State) (slot : Nat) : Nat :=
  (s.reqList.filter fun e => (e.2.phase == .active || e.2.phase == .pending) && e.2.entry.grammar.toNat == slot).length

/-- OD 0x5C12: state, result, kind, states. -/
def State.showGrammar (slot result : Nat) (s : State) : State :=
  let img := s.grammar slot
  let s := (s.setOdAt slot 0x5C12 0 0 (flagNat (img != []))).setOdAt slot 0x5C12 0 1 result
  (s.setOdAt slot 0x5C12 0 2 (if img = [] then 0 else gramKind img)).setOdAt slot 0x5C12 0 3 (if img = [] then 0 else gramStates img)

/-- An image is taken into a slot of the token stage, which sends it to both positions of the draft model's pair (13 R322). -/
def State.storeGrammar (slot : Nat) (img : List Byte) (s : State) : State :=
  let s := s.setBlobAt slot 0x5C11 0 img
  if s.inTokenPair then s.forward 0x5C11 slot img s.draftPair else s

/-- Some positions have yet to apply a slot's image; with none it is OK. -/
def State.awaitGrammar (slot : Nat) (l : List Nat) (s : State) : State :=
  let s := { s with gramAwait := s.gramAwait.put [] slot l }
  if l = [] then s.showGrammar slot 0 else s

/-- An image is judged and taken into a slot. The admitting part forwards it to both positions of the token stage's pair and reports OK once
both have applied it (R305); while it waits, OD 0x5C12 shows what it did. -/
def State.applyGrammar (slot : Nat) (img : List Byte) (s : State) : Nat × State :=
  if s.reqList.any fun e => e.2.isActive && e.2.entry.grammar.toNat == slot then refuse codeState (s.showGrammar slot 1)
  else if !gramGood img then refuse codeFormat (s.showGrammar slot 2)
  else
    let pair := s.tokenPair
    (0, ((s.storeGrammar slot img).forward 0x5C11 slot img pair).awaitGrammar slot pair)

/-- A forwarded image at a position of the token stage or of the draft model: judged, taken, and answered to the admitting part by a
forwarded OD 0x5C12 (the model's own message). -/
def State.takeGrammar (slot : Nat) (img : List Byte) (s : State) : State :=
  let s := if gramGood img then (s.storeGrammar slot img).showGrammar slot 0 else s.showGrammar slot 2
  if s.inTokenPair then s.forward 0x5C12 slot (leBytes 1 (if gramGood img then 0 else 2)) [s.admitting] else s

/-- The answer of a position of the token stage's pair: the last of them lets OD 0x5C12 show OK. -/
def State.grammarApplied (slot result src : Nat) (s : State) : State :=
  let wait := s.gramAwait.get [] slot
  let left := wait.filter fun e => e % 65536 != src
  if left = wait then s
  else if result ≠ 0 then { s with gramAwait := s.gramAwait.put [] slot [] }.showGrammar slot 2
  else s.awaitGrammar slot left

/-- GRAMMAR_IMAGE_WRITE (OD 0x5C11 of the slot that the requester selects). -/
def execGrammarImageWrite (rq : Requester) (img : List Byte) (s : State) : Host.Outcome State Fault Refusal :=
  .next (s.access rq .write 0x5C11 0 img (State.applyGrammar (s.odAt (rqNo rq) 0x5C10 0 0) img))

end Sys2Proof.Machine
end

