-- ==== Sys2Proof/Machine/Serving.lean ====
section
/-! DEFINITION. Machine/Serving.lean: submission entries, admission, tenants and their buckets, tokens at stage 0 (12 R288 to
R300, R304, R307), and the admitting part's side of a RESUME (11 R281, R283, R285). -/

namespace Sys2Proof.Machine

/-! ### Consuming a ring (R289, R393 to R395) -/

/-- Requests that wait in the pending table. -/
def State.pendingCount (s : State) : Nat := (s.reqList.filter fun e => e.2.phase == .pending).length

/-- Requests in the pending table or on their way to it. -/
def State.pendingSoon (s : State) : Nat := (s.reqList.filter fun e => e.2.phase == .pending || e.2.phase == .reading).length

/-- Whether the next entry of a submission ring may be consumed: the ring has one, the completion ring has a slot that no request
holds, and the pending table is not full. -/
def State.mayConsume (s : State) (k : Nat) : Bool :=
  s.ready && s.isAdmitting && s.qpLives k && s.qpStat k 1 != (s.qp k).tail && decide (0 < s.freeSlots k) && decide (s.pendingSoon < 65536)

/-- An entry is consumed: the head moves and the status block is written. -/
def State.consume (k : Nat) (s : State) : State :=
  let s := (s.setQpStat k 1 ((s.qpStat k 1 + 1) % s.subSize k)).bumpAt k 0x1210 4 5 1
  (s.bump 0x5803 0 0 1).writeBlock k

/-- A final entry for a queue entry that is no request (Table 12-4: FORMAT, BUSY, DONE). -/
def State.plainEntry (k tag ctx outcome : Nat) (s : State) : State :=
  let e := patch (List.replicate 64 0) 0 (leBytes 8 tag ++ leBytes 4 ctx ++ leBytes 1 0 ++ leBytes 1 outcome ++ leBytes 1 1)
  (s.bump 0x5803 0 (1 + outcome) 1).writeEntry k (patch e 24 (leBytes 8 s.now))

/-- No deadline. -/
def noDeadline : Nat := 2 ^ 64 - 1

def pastDeadline (e : SubEntry) (t : Nat) : Bool := e.deadline.toNat != noDeadline && decide (e.deadline.toNat < t)

/-! ### SUBMIT (R289, R290, R297) -/

/-- Whether every field of a SUBMIT lies within Table 12-1 (F16 limits by the nearest patterns). -/
def fieldsGood (e : SubEntry) : Bool :=
  let t := e.temperature.toNat
  let p := e.topP.toNat
  !e.reserved && decide (e.flags.toNat < 4) && decide (e.variant.toNat < 8) && (decide (e.grammar.toNat < 16) || e.grammar == 255) &&
  decide (e.tenant.toNat < 4096) && decide (e.cls.toNat ≤ 2) && decide (e.stopCount.toNat ≤ 4) &&
  decide (1 ≤ e.promptCount.toNat) && decide (e.promptCount.toNat ≤ 131072) && e.promptAddr.toNat % 4 == 0 &&
  decide (1 ≤ e.maxNew.toNat) && decide (e.maxNew.toNat ≤ 131072) &&
  (t % 32768 == 0 || (decide (0x2A66 ≤ t) && decide (t ≤ 0x4400))) && decide (e.topK.toNat ≤ 256) &&
  (p % 32768 == 0 || p == 0x3C00 || (decide (0x211F ≤ p) && decide (p ≤ 0x3BEC))) && decide (e.biasCount.toNat ≤ 128) &&
  ((e.stops.take e.stopCount.toNat).all fun x => decide (x.toNat < 262144))

/-- What the entry names exists: the variant at every part of the stage table (08 R190), the grammar slot and its start state, the kept context of its tenant. -/
def State.namesGood (s : State) (e : SubEntry) : Bool :=
  let img := s.grammar e.grammar.toNat
  let mask (ep : Nat) : Nat := if ep = s.endpoint then s.od 0x3402 0 5 else Config.partVariants ep (s.od 0x4111 0 0)
  bit (s.od 0x3402 0 5) e.variant.toNat && (s.allParts.all fun p => bit (mask p) e.variant.toNat) && (e.cls != 2 || s.entries.any (·.draft)) &&
  (e.grammar == 255 || (img != [] && (e.startState.toNat == 0xFFFFFFFF || decide (e.startState.toNat < gramStates img)))) &&
  (e.ctx == 0 || (match s.keptOf e.ctx.toNat with
    | some x => x.tenant == e.tenant.toNat
    | none => false))

/-- A request as it enters the table: it holds a completion slot. -/
def newRequest (p : HostPort) (n : Nat) (e : SubEntry) (order gram : Nat) : Request :=
  { port := p, qp := n, entry := e, phase := .reading, arrival := order, order := 0, ctx := e.ctx.toNat, gen := 0, kvGen := 0, prompt := [],
    bias := [], awaiting := 1 + (if e.biasCount = 0 then 0 else 1), rest := [], refill := 0, generating := false, history := [], first := 0,
    m := 0, nodes := [], guesses := [], tree := none, tokensAt := 0, mode := 0, flights := [], returned := 0, grammar := gram, holds := true,
    ending := none, final := none, silent := false, resuming := false, lastStep := 0 }

/-- SUBMIT: an entry is consumed and becomes a request; it ends at once BUSY (a draining queue pair), FORMAT or TENANT, else its
prompt and bias list are read from host memory. -/
def execSubmit (p : HostPort) (n : Byte) (e : SubEntry) (s : State) : Host.Outcome State Fault Refusal :=
  .next (
    let k := qpKey (hostNo p) n.toNat
    if !s.mayConsume k then s
    else
      let s := s.consume k
      let id := s.nextReq
      let gram := if e.grammar = 255 then 0
        else if e.startState.toNat = 0xFFFFFFFF then gramStart (s.grammar e.grammar.toNat) else e.startState.toNat
      let r := newRequest p n.toNat e s.nextOrder gram
      let s := { s with nextReq := id + 1, nextOrder := s.nextOrder + 1 }
      let s := ((s.holdSlot k).setQpStat k 4 (s.qpStat k 4 + 1)).setReq id (some r)
      let finished (o : Nat) (s : State) : State := s.finish id o [] 0 s.now
      if s.qpState k = 2 then finished 12 s
      else if !(fieldsGood e && s.namesGood e) then finished 7 s
      else if s.odAt e.tenant.toNat 0x5801 0 0 = 0 then finished 8 s
      else
        let s := s.hostRead p e.promptAddr.toNat (4 * e.promptCount.toNat) (.prompt id)
        if e.biasCount = 0 then s else s.hostRead p e.biasAddr.toNat (8 * e.biasCount.toNat) (.bias id))

/-- The reads of a request are done: it joins the pending table. -/
def State.joinPending (n : Nat) (s : State) : State :=
  match s.req n with
  | none => s
  | some r =>
    let s := (s.modReq n fun r => { r with phase := .pending }).setOdAt r.tenant 0x5802 0 1 (s.odAt r.tenant 0x5802 0 1 + 1)
    (s.setOd 0x5803 0 16 (max (s.od 0x5803 0 16) s.pendingCount)).mirrorReq n

/-! ### CANCEL, PAUSE, RENEW, DISCARD (Table 12-2) -/

/-- A step of the request is in flight. -/
def Request.inFlight (r : Request) : Bool := r.flights.any fun f => f.step != 0

/-- A request ends with an outcome at its next step boundary: at once where no step of it is in flight. The first outcome
recorded stands (R307). -/
def State.endAtBoundary (n outcome : Nat) (s : State) : State :=
  match s.req n with
  | none => s
  | some r =>
    if r.phase = .active ∧ r.inFlight = true then
      s.modReq n fun r => { r with ending := r.ending.or (some outcome), flights := r.flights.filter fun f => f.step != 0 }
    else s.finish n outcome [] 0 s.now

/-- CANCEL: the request of this port with the tag; an unknown tag is counted. -/
def execCancel (p : HostPort) (n : Byte) (tag : EntryTag) (s : State) : Host.Outcome State Fault Refusal :=
  .next (
    let k := qpKey (hostNo p) n.toNat
    if !s.mayConsume k then s
    else
      let s := s.consume k
      if tag.reserved then s.plainEntry k tag.tag.toNat 0 7
      else match s.reqList.find? fun e => e.2.port == p && e.2.entry.tag == tag.tag && e.2.phase != .ended with
      | none => s.bump 0x5803 0 17 1
      | some (id, _) => (s.endAtBoundary id 4).settleDrain)

/-- A tier entry: BUSY where an active request keeps it from acting. A reserved bit or an unknown handle ends it FORMAT. -/
def State.tierEntry (k : Nat) (t : EntryTag) (ctx action : Nat) (s : State) : State :=
  let tag := t.tag.toNat
  if t.reserved then s.plainEntry k tag ctx 7
  else if action ≠ 5 ∧ (s.reqOfCtx ctx).isSome then s.plainEntry k tag ctx 12
  else if (s.keptOf ctx).isNone && (s.reqOfCtx ctx).isNone then s.plainEntry k tag ctx 7
  else if action = 5 ∧ s.renewLate ctx = true then s.plainEntry k tag ctx 7
  else
    let s := s.tierAction action ctx
    let s := if action = 4 then { s with kept := s.kept.put none ctx none } else s
    s.plainEntry k tag ctx 14

/-- PAUSE. -/
def execPause (p : HostPort) (n : Byte) (tag : EntryTag) (ctx : BitVec 32) (s : State) : Host.Outcome State Fault Refusal :=
  .next (let k := qpKey (hostNo p) n.toNat; if !s.mayConsume k then s else (s.consume k).tierEntry k tag ctx.toNat 1)

/-- RENEW; after the CELLAR timer has run out it is refused. -/
def execRenew (p : HostPort) (n : Byte) (tag : EntryTag) (ctx : BitVec 32) (s : State) : Host.Outcome State Fault Refusal :=
  .next (let k := qpKey (hostNo p) n.toNat; if !s.mayConsume k then s else (s.consume k).tierEntry k tag ctx.toNat 5)

/-- DISCARD. -/
def execDiscard (p : HostPort) (n : Byte) (tag : EntryTag) (ctx : BitVec 32) (s : State) : Host.Outcome State Fault Refusal :=
  .next (let k := qpKey (hostNo p) n.toNat; if !s.mayConsume k then s else (s.consume k).tierEntry k tag ctx.toNat 4)

/-! ### RESUME at the admitting part (R285, R148) -/

/-- A request whose context every part has reported HOT goes on: prefilled again where one was LOST; else R148 where its
generation is no longer held. -/
def State.settleResume (c : Nat) (s : State) : State :=
  match s.timer c with
  | none => s
  | some t =>
    if t.awaiting ≠ [] then s
    else
      let s := s.setTimer c (some { t with tier := if t.lost then .lost else .hot, since := s.elapsed })
      match s.reqOfCtx c with
      | none => s
      | some (n, r) =>
        if !r.resuming then s
        else
          let s := s.modReq n fun r => { r with resuming := false }
          if t.lost then s.prefillAgain n
          else if s.retiredGens.contains r.gen || !s.rackHolds r.gen then s.oldGeneration n
          else s

/-- TIER_REPORT: HOT, LOST, or a discard, which the admitting part makes on every part. A request that meanwhile resumes on a
discarded context prefills it again; the conversation of a kept one stays known (R282). -/
def execTierReport (src : BitVec 16) (ctx : BitVec 32) (report : TierReport) (s : State) : Host.Outcome State Fault Refusal :=
  .next (
    let c := ctx.toNat
    let heard (t : TierTimer) : TierTimer := { t with awaiting := t.awaiting.filter fun e => e % 65536 != src.toNat }
    if !s.isAdmitting then s
    else match report, s.timer c with
      | _, none => s
      | .hot, some t => if t.awaiting = [] then s else (s.setTimer c (some (heard t))).settleResume c
      | .lost, some t =>
        if t.awaiting = [] then s.setTimer c (some { t with tier := .lost, since := s.elapsed, lost := true }) else (s.setTimer c (some { heard t with lost := true })).settleResume c
      | .discarded, some _ =>
        match s.reqOfCtx c with
        | some (n, r) => if r.resuming then s.prefillAgain n else s.tierAction 4 c
        | none => s.tierAction 4 c)

/-! ### Admission (R297, R137) -/

/-- Requests admitted and not ended. -/
def State.activeCount (s : State) : Nat := (s.reqList.filter fun e => e.2.isActive).length

/-- An earlier pending request of the same tenant. -/
def State.earlierPending (s : State) (r : Request) : Bool :=
  s.reqList.any fun e => e.2.phase == .pending && e.2.tenant == r.tenant && decide (e.2.arrival < r.arrival)

/-- The barrier is OPEN and every stage holds the current generation (R143, R151). -/
def State.admits (s : State) : Bool := s.od 0x5005 0 0 == 0 && s.rackHolds s.currentGen

/-- A request is admitted on a new context, or on the one it keeps, which is resumed first; a discarded one is prefilled again. -/
def State.admitReq (n : Nat) (r : Request) (s : State) : State :=
  let t := r.tenant
  let order := s.nextOrder
  let s := ((s.setOdAt t 0x5802 0 1 (s.odAt t 0x5802 0 1 - 1)).bumpAt t 0x5802 0 2 1).bumpAt t 0x5802 0 3 1
  let s := { s.bump 0x5803 0 1 1 with nextOrder := order + 1 }
  let cur := s.currentGen
  let s := if r.ctx = 0 then
      let c := s.nextCtx
      let s := { s with nextCtx := c + 1 }.setReq n (some { r with phase := .active, order := order, ctx := c, gen := cur, kvGen := cur, rest := r.prompt })
      s.setTimer c (some { tier := .hot, since := s.elapsed, awaiting := [], lost := false })
    else
      let c := r.ctx
      let kept := (s.keptOf c).getD { tenant := t, gen := cur, kvGen := cur, history := [], m := 0, nodes := [] }
      let r := { r with phase := .active, order := order, gen := kept.gen, kvGen := kept.kvGen, rest := r.prompt, history := kept.history,
                        first := kept.history.length, m := kept.m, nodes := kept.nodes, mode := if r.entry.cls = 2 then 3 else 0 }
      let s := { s with kept := s.kept.put none c none }.setReq n (some r)
      match s.timer c with
      | none => (s.prefillAgain n).modReq n fun r => { r with gen := cur, kvGen := cur }
      | some _ => (s.modReq n fun r => { r with resuming := true }).tierAction 2 c
  s.mirrorReq n

/-- No context record is free here, and none can be made so: every one is HOT or LOST (11 R268). -/
def State.noRecord (s : State) : Bool :=
  decide (16384 ≤ s.ctxCount) && (s.lruCtx .cellar fun _ => true).isNone && (s.lruCtx .warm fun _ => true).isNone

/-- ADMISSION: a pending request is admitted once the conditions hold, in arrival order within its tenant. -/
def execAdmission (req : BitVec 32) (s : State) : Host.Outcome State Fault Refusal :=
  .next (
    let n := req.toNat
    match s.req n with
    | none => s
    | some r =>
      if r.phase ≠ .pending ∨ s.earlierPending r = true ∨ s.admits = false then s
      else if s.odAt r.tenant 0x5801 0 0 = 0 then s.finish n 8 [] 0 s.now
      else if pastDeadline r.entry s.now then s.finish n 3 [] 0 s.now
      else
        let cfg (f : Nat) : Nat := s.odAt r.tenant 0x5801 0 f
        if s.level r.tenant < (min r.entry.promptCount.toNat (cfg 2) : Nat) then (if cfg 3 = 1 then s.finish n 6 [] 0 s.now else s)
        else if s.od 0x5805 0 0 ≤ s.activeCount then s
        else if (if r.ctx = 0 then s.noRecord else (s.keptOf r.ctx).isNone) then s.finish n 10 [] 0 s.now
        else s.admitReq n r)

/-- PENDING_DEADLINE_EXPIRED: without a charge. -/
def execPendingDeadlineExpired (req : BitVec 32) (s : State) : Host.Outcome State Fault Refusal :=
  .next (
    match s.req req.toNat with
    | none => s
    | some r =>
      if (r.phase = .pending ∨ r.phase = .reading) ∧ pastDeadline r.entry s.now = true then s.finish req.toNat 3 [] 0 s.now else s)

/-! ### Tenants (R295) -/

/-- The tenants with a configuration. -/
def State.tenants (s : State) : List Nat :=
  (s.dict.filterMap fun e => if keyIndex e.1 = 0x5801 then some (keyInst e.1) else none).eraseDups

/-- One millisecond's tokens: r/1,000, the fraction carried, never above b. -/
def State.refill (t : Nat) (s : State) : State :=
  let x := s.odAt t 0x5802 0 40 + s.odAt t 0x5801 0 1
  (s.setOdAt t 0x5802 0 40 (x % 1000)).setLevel t (min (s.level t + (x / 1000 : Nat)) (s.odAt t 0x5801 0 2 : Nat))

/-- BUCKET_REFILL: a millisecond has passed. -/
def execBucketRefill (s : State) : Host.Outcome State Fault Refusal :=
  .next (if s.isAdmitting then s.tenants.foldl (fun s t => s.refill t) s else s)

def State.applyTenant (t : Nat) (cfg : List Byte) (s : State) : Nat × State :=
  let rate := leAt cfg 1 4
  let burst := leAt cfg 5 4
  let empty := leAt cfg 9 1
  if 1 < leAt cfg 0 1 ∨ 10000000 < rate ∨ 16777216 < burst ∨ 1 < empty then refuse codeRange s
  else
    let s := (s.putValue t 0x5801 0 cfg).setLevel t (min (s.level t) (burst : Nat))
    let off := leAt cfg 0 1 == 0
    (0, if off then (s.reqList.filter fun e => (e.2.phase == .pending || e.2.phase == .reading) && e.2.tenant == t).foldl (fun s e => s.finish e.1 8 [] 0 s.now) s else s)

/-- TENANT_CONFIG_WRITE (OD 0x5801 of the tenant that the requester selects). -/
def execTenantConfigWrite (rq : Requester) (cfg : List Byte) (s : State) : Host.Outcome State Fault Refusal :=
  .next (s.access rq .write 0x5801 0 cfg (State.applyTenant (s.odAt (rqNo rq) 0x5800 1 0) cfg))

/-! ### TOKEN (R292, R296, R298, R304, R315) -/

def wordToken (w : Nat) : Nat := w % 2 ^ 18

/-- The tokens of a step that a request takes: up to a stop token or an END state (STOP), the maximum (LENGTH), or a position
with no allowed token (GRAMMAR). Answers the words, the outcome (0 where it goes on) and the grammar state. -/
def takeWords (stops : List Nat) (img : List Byte) (slot : Nat) (room : Nat) : List Nat → List Nat → Nat → List Nat × Nat × Nat
  | done, [], st => (done, 0, st)
  | done, w :: ws, st =>
    let t := wordToken w
    let st' := if slot = 255 then st else gramNext img st t
    let done := done ++ [w]
    if stops.contains t || (slot != 255 && gramEnds img st') then (done, 1, st')
    else if room ≤ done.length then (done, 2, st')
    else takeWords stops img slot room done ws st'

/-- What stage 0 has for the next step of a generating request, of whose tokens it takes `words`: the root and the tokens of the
accepted path now stand in the context; a speculative step leaves a commit record (R315). -/
def Request.follow (r : Request) (f : Flight) (m : TokenMsg) (words : List Nat) (gram now : Nat) (step : Nat) : Request :=
  let toks := words.map wordToken
  let root := if f.chunk ∨ words = [] then [] else (f.tree.nodes.take 1).map fun w => w.token.toNat
  let spec := !f.chunk && f.tree.source != 0
  { r with history := r.history ++ root ++ toks.dropLast, rest := toks.drop (toks.length - 1), refill := 0, generating := true,
           first := if f.chunk then r.first else r.first + words.length, m := if spec then words.length else 0,
           nodes := if spec then (m.nodes.take words.length).map (·.toNat) else [],
           guesses := m.guesses.map (·.toNat), tree := none, tokensAt := now, grammar := gram, lastStep := step }

/-- The tokens of a step at the admitting part. -/
def State.takeTokens (n : Nat) (r : Request) (f : Flight) (m : TokenMsg) (s : State) : State :=
  let step := m.step.toNat
  let words := m.words.map (·.toNat)
  let time := if s.selectedAt.get 0 step = 0 then Config.samplingTime step % 2 ^ 64 else s.selectedAt.get 0 step
  let s := { s with selectedAt := s.selectedAt.put 0 step 0 }
  let left := r.flights.filter fun g => g.step != step
  let s := s.modReq n fun r => { r with flights := left }
  let positions := f.tree.count.toNat
  let charge (k : Nat) (s : State) : State := if f.free then s else s.charge r.tenant k
  let all := if f.chunk then positions else words.length
  -- an outcome recorded, or a deadline that has passed, withholds the tokens; the step is charged
  let late := pastDeadline r.entry s.now && !pastDeadline r.entry f.edge
  let out := r.ending.or (if late then some 3 else none)
  match out with
  | some o =>
    let s := charge all s
    if left.any fun g => g.step != 0 then s.modReq n fun r => { r with ending := some o, flights := left.filter fun g => g.step != 0 }
    else s.finish n o [] step time
  | none =>
    if !f.samples then charge all s
    else
      let slot := r.entry.grammar.toNat
      let stops := (r.entry.stops.take r.entry.stopCount.toNat).map (·.toNat)
      let (ws, o, gram) := takeWords stops (s.grammar slot) slot (r.entry.maxNew.toNat - r.returned) [] words r.grammar
      let s := (charge (if f.chunk then positions else ws.length) s).modReq n fun r => r.follow f m ws gram s.elapsed step
      if o ≠ 0 then s.finish n o ws step time
      else if m.grammarEnd || ws = [] then s.finish n 9 ws step time
      else (s.returnTokens n ws step time).mirrorReq n

/-- A second copy from a LOCKSTEP entry: tokens that differ are counted (R373). -/
def State.secondTokens (m : TokenMsg) (s : State) : State :=
  match s.reqList.find? fun e => e.2.lastStep == m.step.toNat with
  | none => s
  | some (_, r) =>
    let toks := m.words.map fun w => wordToken w.toNat
    let all := r.allTokens
    if all.drop (all.length - toks.length) = toks then s else s.bump 0x4107 0 2 1

/-- This part serves a stage of the main model. -/
def State.isMain (s : State) : Bool := match s.ownEntry with
  | some e => e.main
  | none => false

/-- The draft model's part takes the tokens of a class T step: it commits the accepted path in its own contexts and has its next
root (R320, R272). -/
def State.draftTokens (m : TokenMsg) (s : State) : State :=
  let c := m.ctx.toNat
  let nodes := m.nodes.map (·.toNat)
  let s : State := match s.ctx c with
    | none => s
    | some x => if m.m = 0 ∨ s.isMain = true then s
        else x.lists.foldl (fun s (l : PageList) => s.commitList c l.layer l.head l.first m.m.toNat nodes) s
  let p : Sampling := s.sampling m.step.toNat c 2
  let held := s.samplers.get none c
  -- a request that has gone on, or runs in REBUILD, and of which this part knows nothing, has lost its draft context (R324)
  let lost := held.isNone && (decide (0 < p.seq) || p.mode == 3) && (s.recordOf c).isSome
  let x := { held.getD Sampler.fresh with
    classT := true, root := (m.words.getLast?).map (fun w => wordToken w.toNat), step := m.step.toNat, m := m.m.toNat, nodes := nodes,
    gram := (m.words.map fun w => wordToken w.toNat).foldl (s.advanceGram p) p.gram }
  let s := { s with samplers := s.samplers.put none c (some x) }
  if lost then s.rebuild c else s

/-- Whether the TOKEN of a context is for the draft model here: of class T where the class is known. -/
def State.draftWants (s : State) (ctx : Nat) : Bool :=
  s.isDraft && (!s.isAdmitting || (match s.reqOfCtx ctx with
    | some (_, r) => r.entry.cls == 2
    | none => false))

/-- TOKEN: returned tokens and commit record reach stage 0, and for class T the draft model. -/
def execToken (m : TokenMsg) (s : State) : Host.Outcome State Fault Refusal :=
  .next (
    let s := if s.draftWants m.ctx.toNat && m.words != [] then s.draftTokens m else s
    if !s.isAdmitting then s
    else match s.reqOfStep m.step.toNat with
      | none => s.secondTokens m
      | some (n, r) =>
        match r.flights.find? fun f => f.step == m.step.toNat with
        | none => s
        | some f => (s.takeTokens n r f m).settleDrain)

end Sys2Proof.Machine
end

