-- ==== Sys2Proof/Machine/Speculation.lean ====
section
/-! DEFINITION. Machine/Speculation.lean: the draft sampler and the sampler role, trees and modes at stage 0 (13 R310, R317 to
R328). -/

namespace Sys2Proof.Machine

def State.sampler (s : State) (c : Nat) : Option Sampler := s.samplers.get none c


/-- A sampler as a REQUEST record of request 0: its class, root, step, path and grammar state stand where a request's do (the model's own
layout), then its counters. -/
def samplerBody (c : Nat) (x : Sampler) : List Byte :=
  leBytes 4 0 ++ leBytes 4 c ++ leBytes 1 (if x.classT then 2 else 1) ++ leBytes 1 x.mode ++ leBytes 1 x.miss ++ leBytes 2 x.left ++
  leBytes 8 x.steps ++ leBytes 8 x.accepted ++ leBytes 8 x.step ++ leBytes 1 x.m ++ leBytes 1 x.nodes.length ++ x.nodes.flatMap (leBytes 1) ++
  leBytes 4 x.gram ++ leBytes 1 (flagNat x.root.isSome) ++ leBytes 4 (x.root.getD 0)

/-- A sampler changes: its mode and counters go to the twin of the draft model's primary (15 R369), and to the admitting part, which shows
them (R328, Table 15-5). -/
def State.setSampler (c : Nat) (x : Sampler) (s : State) : State :=
  let s := { s with samplers := s.samplers.put none c (some x) }.mirrorToTwin 0 4 (samplerBody c x)
  if s.isAdmitting then s else s.mirrorTo 4 (samplerBody c x) s.admitting

/-! ### The draft sampler (R321) -/

/-- A node word. -/
def nodeWord (depth parent tok : Nat) : NodeWord :=
  { depth := BitVec.ofNat 3 depth, parent := BitVec.ofNat 5 parent, token := BitVec.ofNat 18 tok, reserved := false }

/-- Levels of a list of nodes. -/
def levelsOf (nodes : List NodeWord) : Nat := 1 + nodes.foldl (fun m n => max m n.depth.toNat) 0

/-- A tree record over nodes. -/
def treeRec (source template : Nat) (nodes : List NodeWord) : TreeRec :=
  { count := BitVec.ofNat 8 nodes.length, levels := BitVec.ofNat 8 (levelsOf nodes), source := BitVec.ofNat 8 source,
    template := BitVec.ofNat 8 template, nodes := nodes }

/-- The tree of the root alone. -/
def plainTree (root : Nat) : TreeRec := treeRec 0 0 [nodeWord 0 0 root]

/-- The limits of a draft: node budget, levels, width, probability floor. -/
structure DraftLimits where
  nodes : Nat
  levels : Nat
  width : Nat
  floor : Nat
deriving DecidableEq, Repr

def State.draftLimits (s : State) : DraftLimits :=
  { nodes := s.inForce 0x5C20 2 0, levels := s.inForce 0x5C20 3 0, width := s.inForce 0x5C20 4 0, floor := s.inForce 0x5C20 5 0 }

/-- A node of a draft as it grows: the candidate that it comes from (0 for the root), its place in the tree, its cumulative probability in units
of 2^(−24 × depth), and the grammar state that its token leads to. -/
structure DraftNode where
  cand : Nat
  depth : Nat
  parent : Nat
  token : Nat
  prob : Nat
  gram : Nat
deriving DecidableEq, Repr

/-- A candidate that could be added now: its number, the node it stands below, its own node. -/
def candUnder (nodes : List DraftNode) (next : Nat → Nat → Nat) (k : Nat) (c : DraftCand) : Option (DraftNode × DraftNode) :=
  (nodes.zipIdx.find? fun e => e.1.cand == c.parent.toNat).map fun e =>
    (e.1, { cand := k, depth := e.1.depth + 1, parent := e.2, token := c.token.toNat, prob := e.1.prob * min c.prob.toNat (2 ^ 24),
            gram := next e.1.gram c.token.toNat })

/-- Whether a node's cumulative probability is above another's. -/
def DraftNode.above (a b : DraftNode) : Bool := decide (b.prob * 2 ^ (24 * a.depth) < a.prob * 2 ^ (24 * b.depth))

/-- Whether the L8 code of a node's cumulative probability relative to 1 lies above the floor (02 R44): −16 log2 p rounds to more than it. -/
def DraftNode.low (floor : Nat) (a : DraftNode) : Bool := decide (a.prob ^ 32 * 2 ^ (2 * floor + 1) < 2 ^ (24 * a.depth * 32))

/-- The candidate of the greatest cumulative probability; of equals the first. -/
def bestCand (l : List (DraftNode × DraftNode)) : Option (DraftNode × DraftNode) :=
  l.foldl (fun best x => match best with
    | none => some x
    | some b => if x.2.above b.2 then some x else best) none

/-- Add candidates in descending order of cumulative probability, skipping what the grammar or a sibling excludes, up to the first that breaks
a limit (R321). `open_` are the candidates not yet met, with their numbers. -/
def growTree (lim : DraftLimits) (allows : Nat → Nat → Bool) (next : Nat → Nat → Nat) :
    Nat → List (Nat × DraftCand) → List DraftNode → List DraftNode
  | 0, _, nodes => nodes
  | fuel + 1, open_, nodes =>
    match bestCand (open_.filterMap fun e => candUnder nodes next e.1 e.2) with
    | none => nodes
    | some (p, x) =>
      let rest := open_.filter fun e => e.1 != x.cand
      let atDepth := (nodes.filter fun n => n.depth == x.depth).length
      if !allows p.gram x.token || nodes.any (fun n => decide (0 < n.depth) && n.parent == x.parent && n.token == x.token) then
        growTree lim allows next fuel rest nodes
      else if lim.nodes ≤ nodes.length ∨ lim.levels ≤ x.depth ∨ lim.width ≤ atDepth ∨ x.low lim.floor = true then nodes
      else growTree lim allows next fuel rest (nodes ++ [x])

/-- The tree that the draft sampler builds from a root and the candidates of its passes. Until this part has applied the request's grammar slot
there is no filtering (R322). -/
def State.draftTree (c : Nat) (x : Sampler) (root : Nat) (cands : List DraftCand) (s : State) : TreeRec :=
  let p := s.sampling x.step c 2
  let p := if p.slot != 255 && s.grammar p.slot == [] then { p with slot := 255 } else p
  let nodes := growTree s.draftLimits (s.allows p) (s.advanceGram p) cands.length (cands.zipIdx.map fun e => (e.2 + 1, e.1))
    [{ cand := 0, depth := 0, parent := 0, token := root, prob := 1, gram := x.gram }]
  treeRec 2 0xFF (nodes.map fun n => nodeWord n.depth n.parent n.token)

/-- The serving part of the draft model drafts from a root and sends the tree to stage 0. -/
def State.sendTree (c : Nat) (x : Sampler) (root : Nat) (cands : List DraftCand) (s : State) : State :=
  s.sendFor { kind := 4, cls := 0, targets := [], step := x.step, payload := treeBytes (s.draftTree c x root cands) } s.stage0

/-- DRAFT: the draft sampler has its candidates; in FALLBACK and REBUILD drafting stops. -/
def execDraft (ctx : BitVec 32) (cands : List DraftCand) (s : State) : Host.Outcome State Fault Refusal :=
  .next (
    match s.sampler ctx.toNat with
    | none => s
    | some x =>
      match x.root with
      | none => s
      | some r => if !s.isDraft || !x.classT || x.mode = 1 || x.mode = 3 then s else s.sendTree ctx.toNat x r cands)

/-- TREE: a tree record reaches stage 0. One for a step already launched, or for another step, is discarded. -/
def execTree (step : BitVec 64) (ctx : BitVec 32) (tree : TreeRec) (s : State) : Host.Outcome State Fault Refusal :=
  .next (
    match s.reqOfCtx ctx.toNat with
    | none => s
    | some (n, r) =>
      if !s.isAdmitting || r.entry.cls ≠ 2 || !r.generating || r.flights ≠ [] || r.tree.isSome || r.lastStep ≠ step.toNat then s
      else s.modReq n fun r => { r with tree := some tree })

/-- DRAFT_WAIT_EXPIRED: the tree is late; the step is to launch as a plain step (R323). -/
def execDraftWaitExpired (ctx : BitVec 32) (s : State) : Host.Outcome State Fault Refusal :=
  .next (
    match s.reqOfCtx ctx.toNat with
    | none => s
    | some (n, r) =>
      let waits := r.entry.cls == 2 && r.generating && r.flights == [] && r.tree.isNone && (r.mode == 0 || r.mode == 2)
      if !s.isAdmitting || !waits || decide (s.elapsed < r.tokensAt + s.inForce 0x5C20 6 0) then s
      else (s.bump 0x5C22 0 7 1).modReq n fun r => { r with tree := some (plainTree (r.rest.headD 0)) })

/-! ### The sampler role (R326) -/

/-- A change of mode, sent to stage 0. -/
def State.setMode (c : Nat) (x : Sampler) (s : State) : State := (s.setSampler c x).notice 8 x.mode c 0 [] [s.admitting]

/-- SPEC_REPORT: a step counts under the mode it ran in. -/
def execSpecReport (ctx : BitVec 32) (m : BitVec 4) (ranIn : BitVec 2) (s : State) : Host.Outcome State Fault Refusal :=
  .next (
    let c := ctx.toNat
    let x := (s.sampler c).getD Sampler.fresh
    -- the handle's last request was of class T, this one is not
    let x : Sampler := if x.classT && (s.recordOf c).any (·.entry.cls == 1) then Sampler.fresh else x
    if !s.isDraft then s
    else if ranIn = 1 ∨ ranIn = 3 then (if x.mode = 1 ∧ ranIn = 1 then s.setSampler c { x with left := x.left - 1 } else s.setSampler c x)
    else
      let more := m.toNat - 1
      let s := (s.bump 0x5C22 0 0 1).bump 0x5C22 0 2 more
      let x : Sampler := { x with steps := x.steps + 1, accepted := x.accepted + more }
      if ranIn = 0 then
        let s := s.bump 0x5C22 0 3 (if more = 0 then 1 else 0)
        s.setSampler c (if x.mode ≠ 0 then x else { x with miss := if more = 0 then x.miss + 1 else 0 })
      else
        let s := (s.bump 0x5C22 0 5 1).bump 0x5C22 0 6 (if more = 0 then 0 else 1)
        if x.mode ≠ 2 then s.setSampler c x
        else if more = 0 then (s.bump 0x5C22 0 4 1).setMode c { x with mode := 1, left := s.inForce 0x5C21 2 0 }
        else s.setMode c { x with mode := 0, miss := 0 })

/-- MISS_LIMIT: FALLBACK, with the fall-back length of plain steps to run. -/
def execMissLimit (ctx : BitVec 32) (s : State) : Host.Outcome State Fault Refusal :=
  .next (
    match s.sampler ctx.toNat with
    | none => s
    | some x =>
      if !s.isDraft || x.mode ≠ 0 || decide (x.miss < s.inForce 0x5C21 1 0) then s
      else (s.bump 0x5C22 0 4 1).setMode ctx.toNat { x with mode := 1, left := s.inForce 0x5C21 2 0 })

/-- FALLBACK_END: PROBE. -/
def execFallbackEnd (ctx : BitVec 32) (s : State) : Host.Outcome State Fault Refusal :=
  .next (
    match s.sampler ctx.toNat with
    | none => s
    | some x => if !s.isDraft || x.mode ≠ 1 || decide (0 < x.left) then s else s.setMode ctx.toNat { x with mode := 2 })

/-- MODE: stage 0 takes a request's mode; it holds from the next launch. Only class T is ever in REBUILD. At the sampler role it says that the
admitting part starts a request anew (`State.restartSpec`). -/
def execMode (ctx : BitVec 32) (mode : BitVec 2) (s : State) : Host.Outcome State Fault Refusal :=
  .next (
    if !s.isAdmitting then (if s.isDraft then s.resetSampler ctx.toNat mode.toNat else s)
    else match s.reqOfCtx ctx.toNat with
    | none => s
    | some (n, r) => if mode = 3 ∧ r.entry.cls ≠ 2 then s else s.modReq n fun r => { r with mode := mode.toNat })

/-- REBUILD_COMPLETE: the draft context is prefilled again; SPECULATIVE, with a first tree (R324). -/
def execRebuildComplete (ctx : BitVec 32) (cands : List DraftCand) (s : State) : Host.Outcome State Fault Refusal :=
  .next (
    match s.sampler ctx.toNat with
    | none => s
    | some x =>
      if !s.isDraft || x.mode ≠ 3 then s
      else
        let x := { x with mode := 0, miss := 0 }
        let s := s.setMode ctx.toNat x
        match x.root with
        | some r => s.sendTree ctx.toNat x r cands
        | none => s)

/-! ### Configuration (R328) -/

/-- Lowest and highest value of a speculation object. -/
def specRange (limits : Bool) (sub : Nat) : Nat × Nat :=
  if limits then (if sub = 1 then (1, 64) else (1, 4096))
  else match sub with
    | 1 => (0, 3)
    | 2 => (2, 32)
    | 3 => (2, 8)
    | 4 => (1, 8)
    | 5 => (0, 254)
    | _ => (1000, 100000)

def State.applySpec (limits : Bool) (sub v : Nat) (s : State) : Nat × State :=
  let idx := if limits then 0x5C21 else 0x5C20
  let r := specRange limits sub
  if v < r.1 ∨ r.2 < v then refuse codeRange s
  else
    let s := (s.keepForStep idx sub).setOd idx sub 0 v
    (0, if s.isAdmitting then s.forward idx sub (leBytes ((odWidths idx sub).headD 1) v) s.samplerParts else s)

/-- SPECULATION_CONFIG_WRITE (OD 0x5C20, OD 0x5C21). -/
def execSpeculationConfigWrite (rq : Requester) (limits : Bool) (sub : Byte) (v : BitVec 32) (s : State) : Host.Outcome State Fault Refusal :=
  .next (
    let idx := if limits then 0x5C21 else 0x5C20
    s.access rq .write idx sub.toNat (leBytes ((odWidths idx sub.toNat).headD 1) v.toNat) (State.applySpec limits sub.toNat v.toNat))

end Sys2Proof.Machine
end

