-- ==== Sys2Proof/Machine/Table.lean ====
section
/-! DEFINITION. Machine/Table.lean: a stage table as it is judged, distributed and applied (15 R359 to R363), the roles and pair states
that follow from it, and failed positions as every part routes around them (R375). -/

namespace Sys2Proof.Machine

/-! ### Judging (R361) -/

/-- What one entry must be by itself (Tables 15-2, 15-3). -/
def entryGood (t : List Byte) (i : Nat) : Bool :=
  let b := slice (32 + 24 * i) 24 t
  let e := entryOf b
  let two := e.pos1 != noEndpoint
  zeroAt b 5 3 && decide (e.segment < 16) && decide (e.stage < 32) && decide (e.mode ≤ 4) && decide (e.flags < 16) && decide (e.service < 4) &&
  (if 1 ≤ e.mode ∧ e.mode ≤ 3 then two else if e.mode = 4 then !two && decide (e.service < 2) else true) &&
  (if e.mode = 1 then e.service == 1 || e.service == 2 else true) && !(e.draft && e.main)

/-- Pipeline order. -/
def Entry.rank (e : Entry) : Nat := e.segment * 32 + e.stage

/-- An entry and its fellows: ascending order, no endpoint twice. -/
def entryFits (es : List Entry) (i : Nat) : Bool :=
  match es[i]? with
  | none => false
  | some e =>
    let before := es.take i
    (match before.getLast? with
      | some p => decide (p.rank < e.rank)
      | none => true) &&
    (e.members.eraseDups == e.members) && e.members.all fun m => !before.any fun p => p.members.contains m

/-- The first failing entry of a table, 0xFFFF where it is the header or the table as a whole; none for a good one. -/
def tableFail (t : List Byte) (inForce : Nat) : Option Nat :=
  let n := leAt t 2 2
  let es := entriesOf t
  let head := decide (32 ≤ t.length) && leAt t 0 2 == 1 && decide (1 ≤ n) && decide (n ≤ 512) && t.length == 32 + 24 * n &&
    leAt t 24 4 == crc32 (t.drop 32) && leAt t 28 4 == crc32 (t.take 28) && decide (inForce < leAt t 4 4)
  if !head then some 0xFFFF
  else match (List.range n).find? fun i => !(entryGood t i && entryFits es i) with
    | some i => some i
    | none =>
      let heads := es.filter (·.head)
      let whole := heads.length == 1 && heads.all (fun e => e.rank == 0) && decide ((es.filter (·.draft)).length ≤ 1) &&
        (es.filter (·.token)).length == 1 && (((es.filter (·.main)).getLast?).map (·.token)).getD false
      if whole then none else some 0xFFFF

/-- The stage generation that the admitting part knows of an endpoint. -/
def State.genOf (s : State) (ep : Nat) : Option Nat :=
  (s.entryIndexOf ep).bind fun i => (s.entryAt i).map fun e => (s.genReport i (if e.pos0 = ep then 0 else 1)).1

/-- A table that leaves a MAIN entry without a position in service that has not failed and holds its generation, while requests
are active. A part that stands in no entry of the table in force is not known to hold one. -/
def State.strandsEntry (s : State) (es : List Entry) : Bool :=
  decide (0 < s.activeCount) && (es.filter (·.main)).any fun e =>
    !e.serving.any fun p => !s.declared.contains p && (match s.genOf p with
      | some g => g == s.currentGen
      | none => false)

/-! ### Roles and pair states (R363) -/

/-- A step is at work at this part: its input has begun to come, and it is not over. -/
def State.stepsOpen (s : State) : Bool := s.steps.any fun e => match e.2 with
  | some r => (r.phase == .waiting && r.hdr.isSome) || r.phase == .running || r.phase == .halted || r.phase == .failed
  | none => false

/-- The role the table in force gives: one in service, STANDBY in a MIRROR entry; a part that leaves its entry is DRAINED, one that was
in none keeps its role. -/
def State.tableRole (s : State) : Nat :=
  match s.ownEntry with
  | some e => if e.serving.contains s.endpoint then 1 else if e.mode = 1 then 2 else 3
  | none => if s.od 0x4100 1 0 = 0 then 0 else 3

/-- A part that leaves service is DRAINED once its last step has committed; a drain command ends then (R381). -/
def State.settleRole (s : State) : State :=
  if s.inService ∨ s.stepsOpen = true then s
  else if s.od 0x4101 0 cmdState = 1 ∧ s.od 0x4101 0 cmdValue = 1 then (s.setOd 0x4100 1 0 3).endCommand 0x4101 0 0
  else if s.od 0x4100 1 0 = 1 then s.setOd 0x4100 1 0 s.tableRole
  else s

/-- The pair state under a new table: SOLO where the entry has one part, where the other position has failed, or where one position of a
LOCKSTEP entry serves; SYNCING where a position has joined or a new one stands in the pair (R377); else as the generations say. -/
def State.tablePair (old : Option Entry) (s : State) : State :=
  match s.ownEntry with
  | none => (s.setPair 1).setOd 0x4102 0 1 0
  | some e =>
    let s := (s.setOd 0x4102 0 1 e.mode).setOd 0x4102 0 2 (s.twin.getD noEndpoint)
    match s.twin with
    | none => s.setPair 1
    | some t =>
      if (e.mode ≠ 1 ∧ e.mode ≠ 2) ∨ s.declared.contains t = true then s.setPair 1
      else
        let before := (old.map fun o => o.members.contains t && o.members.contains s.endpoint).getD true
        let joins := s.syncing.contains t || s.syncing.contains s.endpoint
        if e.mode = 2 ∧ e.serving.length < 2 ∧ joins = false ∧ before = true ∧ s.od 0x4102 0 0 = 0 then s.setPair 1
        else if s.od 0x4102 0 0 = 1 ∧ joins = false ∧ before = true ∧ old.isSome = true then s
        else if !before || (s.od 0x4102 0 0 == 1 && old.isSome) then
          (if s.od 0x5003 0 0 = s.twinGen.1 then s.startSync else s.setPair 3).bump 0x4107 0 7 1
        else s.settlePair

/-! ### Applying a table (R361, R362, R375) -/

/-- Replays that waited for a declaration go out. -/
def State.flushHeld (s : State) : State :=
  let l := s.heldResends
  l.foldl (fun s e => s.resendFor e.1 e.2) { s with heldResends := [], suspects := [] }

/-- A LOCKSTEP position that a table takes out of service with work due, and no role command of its own, has been given cover: it returns
when that is done (04 R101, 20 R473). -/
def State.noteCover (was : Bool) (s : State) : State :=
  if s.inService then { s with coveredAway := false }
  else if was && (s.ownEntry.map (·.mode)) == some 2 && s.od 0x4101 0 cmdState != 1 && (List.range 128).any s.workDue then { s with coveredAway := true }
  else s

/-- A table takes effect; steps launched before it keep the routing of the one before (R361). -/
def State.applyTable (t : List Byte) (time : Nat) (s : State) : State :=
  let old := s.ownEntry
  let was := s.inService
  let s := { s with tableOld := s.blob 0x4110 0, tableAt := time, tableNext := [] }.setBlob 0x4110 0 t
  let s := (s.setOd 0x4111 0 0 (leAt t 4 4)).setOd 0x4100 2 0 (leAt t 16 8)
  let s := { s with declared := s.declared.filter fun d => !(entriesOf t).any fun e => e.serving.contains d }
  let role := s.tableRole
  let s := if role = 2 then s else s.dropShadow
  let s := if role = 1 ∨ s.stepsOpen = false then s.setOd 0x4100 1 0 role else s
  let s := if role = 1 then { s with assigned := none } else s
  -- the serving part of the draft model changes to one of another generation (06 R139)
  let s := if s.inService && !was && s.od 0x5003 0 0 != s.twinGen.1 then s.rebuildAll else s
  ((s.tablePair old).settleRole.flushHeld).reportGeneration.noteCover was

/-- A table that has come to this part: one whose sequence does not exceed the one in force is ignored; it waits for its edge. -/
def State.receiveTable (t : List Byte) (s : State) : State :=
  if leAt t 4 4 ≤ s.od 0x4111 0 0 then s else { s with tableNext := t }

/-- At an edge, a table whose effective time has come takes effect, unless one of its sequence or later is in force by then (R361). -/
def State.tableEdge (time : Nat) (s : State) : State :=
  if s.tableNext = [] ∨ time < leAt s.tableNext 8 8 then s
  else if leAt s.tableNext 4 4 ≤ s.od 0x4111 0 0 then { s with tableNext := [] }
  else s.applyTable s.tableNext time

/-- The parts a table is sent to: every endpoint in it and every listed spare. -/
def State.tableDests (s : State) (t : List Byte) : List Nat :=
  let spares := (List.range (s.od 0x4115 0 0)).map fun i => s.od 0x4115 0 (i + 1)
  ((((entriesOf t).flatMap Entry.members) ++ spares).eraseDups).filter (· != s.endpoint)

/-- The admitting part takes a table as its own and sends it out. -/
def State.issueTable (t : List Byte) (s : State) : State :=
  let s := { s with tableNext := t }
  s.forward 0x4110 0 t (s.tableDests t)

/-- The table in force with an entry's in-service bits and one position set, the sequence raised, effective at a time. -/
def editFrom (t : List Byte) (i service : Nat) (pos : Option (Nat × Nat)) (time : Nat) : List Byte :=
  let t := patch t (32 + 24 * i + 4) (leBytes 1 service)
  let t := match pos with
    | some (p, ep) => patch t (32 + 24 * i + 8 + 8 * p) (leBytes 8 ep)
    | none => t
  let t := patch (patch t 4 (leBytes 4 (leAt t 4 4 + 1))) 8 (leBytes 8 time)
  let t := patch t 24 (leBytes 4 (crc32 (t.drop 32)))
  patch t 28 (leBytes 4 (crc32 (t.take 28)))

def State.editTable (s : State) (i service : Nat) (pos : Option (Nat × Nat)) (time : Nat) : List Byte :=
  editFrom (s.blob 0x4110 0) i service pos time

/-- OD 0x4111 after a write. -/
def State.showTable (result failing : Nat) (s : State) : State := (s.setOd 0x4111 0 1 result).setOd 0x4111 0 2 failing

def State.applyTableWrite (img : List Byte) (s : State) : Nat × State :=
  match tableFail img (s.od 0x4111 0 0) with
  | some i => refuse codeFormat (s.showTable 1 i)
  | none =>
    if s.recovery.isSome then refuse codeBusy (s.showTable 3 0xFFFF)
    else if s.strandsEntry (entriesOf img) then refuse onlyCopy (s.showTable 2 0xFFFF)
    else (0, (s.showTable 0 0xFFFF).issueTable img)

/-- STAGE_TABLE_WRITE (OD 0x4110). -/
def execStageTableWrite (rq : Requester) (img : List Byte) (s : State) : Host.Outcome State Fault Refusal :=
  .next (s.access rq .write 0x4110 0 img (State.applyTableWrite img))

/-! ### A failed position (R374, R375) -/

/-- Copies kept for a failed position are kept for the one that serves in its place, or no longer (R365). -/
def State.rekeep (ep : Nat) (other : Option Nat) (s : State) : State :=
  let swap (l : List Nat) : List Nat := (l.flatMap fun x => if x = ep then other.toList else [x]).eraseDups
  { s with retained := (s.retained.map fun r => { r with left := swap r.left }).filter fun r => r.left != [] }

/-- A position has failed: it is neither routed to nor waited for. Where it was the primary of a MIRROR entry its twin is in service
at once, under the table in force with a new sequence, and every step kept for it is replayed there (R375); a divided pair gives no
failover (06 R144). -/
def State.markFailed (ep seq : Nat) (s : State) : State :=
  if s.declared.contains ep then s
  else
    let s := { s with declared := s.declared ++ [ep], syncing := s.syncing.filter (· != ep), suspects := s.suspects.filter (· != ep), probes := s.probes.filter fun p => p.1 != ep }
    match s.entryIndexOf ep with
    | none => s
    | some i =>
      match s.entryAt i with
      | none => s
      | some e =>
        -- a position whose copy is not complete gives no failover (06 R146)
        let other := e.members.find? fun m => m != ep && !s.declared.contains m && !s.syncing.contains m
        let steps := ((s.retained.filter fun r => r.left.contains ep).map (·.step)).eraseDups
        if e.mode = 1 ∧ e.serving.contains ep = true ∧ other.isSome = true ∧ s.dividedAt i e = false then
          let t := s.editTable i (if e.pos0 = ep then 2 else 1) none s.now
          let t := patch t 4 (leBytes 4 (max seq (leAt (s.blob 0x4110 0) 4 4 + 1)))
          let t := patch t 28 (leBytes 4 (crc32 (t.take 28)))
          let s := ((s.setBlob 0x4110 0 t).setOd 0x4111 0 0 (leAt t 4 4)).rekeep ep other
          steps.foldl (fun s x => s.resendFor x i) { s with heldResends := s.heldResends.filter fun h => h.2 != i }
        else s.rekeep ep none

/-- The standby takes the shard over: SERVING, its pair SOLO, a shadow run discarded, its kindle set kindled at once. -/
def State.takeOver (s : State) : State :=
  if s.od 0x4100 1 0 ≠ 2 then s
  else (s.dropShadow.setOd 0x4100 1 0 1).setPair 1 |>.bump 0x4107 0 3 1 |>.kindleSetNow

/-- What a part does when it hears that a position has failed. -/
def State.failPosition (ep seq : Nat) (s : State) : State :=
  let mine := s.twin == some ep
  let was := s.inService
  let s := s.markFailed ep seq
  let s := if mine then (if s.inService && !was then s.takeOver else s.setPair 1) else s
  s.flushHeld

/-! ### Commit (R364) -/

/-- STEP_COMMIT: a step past its boundary whose transfers and mirror records are acknowledged commits, and COMMIT goes to
every part whose input it took. A part that leaves service may now be DRAINED (R381). -/
def execStepCommit (step : BitVec 64) (s : State) : Host.Outcome State Fault Refusal :=
  .next (
    let id := step.toNat
    let r := s.stepRec id
    if r.phase ≠ .halted || !s.stepAcked id then s
    else
      let s := s.notice 0x0A 0 0 id (leBytes 1 ((s.ownEntry.map (·.stage)).getD 0)) r.sources
      let s := s.modStep id fun r => { r with phase := .committed, inputs := [], cfg := [], remaps := [], tids := [] }
      s.settleDrain.settlePorts.settleRole)

end Sys2Proof.Machine
end

