-- ==== Sys2Proof/Machine/Generations.lean ====
section
/-! DEFINITION. Machine/Generations.lean: the rack generation pointer, the generation map, the admission barrier and the retirement of a
generation (06 R140 to R151, R155, R156). -/

namespace Sys2Proof.Machine

/-! ### The pointer (R140, R142) -/

def State.applySwitch (target earliest : Nat) (s : State) : Nat × State :=
  if target = 0 ∨ target = s.currentGen ∨ s.rackHolds target = false then refuse codeState s
  else (0, { s with switchTo := some (target, earliest) })

/-- SWITCH_COMMAND (OD 0x5001); a second one replaces the pending switch. -/
def execSwitchCommand (rq : Requester) (target : BitVec 32) (earliest : BitVec 64) (s : State) : Host.Outcome State Fault Refusal :=
  .next (s.access rq .command 0x5001 0 (leBytes 4 target.toNat ++ leBytes 8 earliest.toNat) (State.applySwitch target.toNat earliest.toNat))

/-- The pointer changes: every part of the table is told. -/
def State.switchGen (target time : Nat) (s : State) : State :=
  let s := ((s.setOd 0x5000 2 0 s.currentGen).setOd 0x5000 1 0 target).setOd 0x5000 3 0 time
  let s := { s with switchTo := none, retiredGens := s.retiredGens.filter (· != target) }
  let s := s.notice 4 0 0 0 (leBytes 4 target ++ leBytes 8 time) (s.allParts.filter (· != s.endpoint))
  s.settleRetire.autoBarrier

/-- At an edge at or after its earliest time, an accepted switch takes effect. -/
def State.switchEdge (time : Nat) (s : State) : State :=
  match s.switchTo with
  | some (g, earliest) => if earliest ≤ time then s.switchGen g time else s
  | none => s

/-- GEN_POINTER: another part's copy of the pointer. -/
def execGenPointer (gen : BitVec 32) (edge : BitVec 64) (s : State) : Host.Outcome State Fault Refusal :=
  .next (if s.isAdmitting ∨ gen.toNat = s.currentGen then s
    else (({ s with retiredGens := s.retiredGens.filter (· != gen.toNat) }.setOd 0x5000 2 0 s.currentGen).setOd 0x5000 1 0 gen.toNat).setOd
      0x5000 3 0 edge.toNat)

/-! ### The map (R141, R143) -/

/-- The full endpoint that a 16-bit source number names: one of the table in force, else of this rack. -/
def State.sourceOf (s : State) (src : Nat) : Nat :=
  (s.allParts.find? fun e => e % 65536 == src).getD (65536 * (s.endpoint / 65536) + src)

/-- A row of the map changes. A MIRROR pair whose generations match again copies first, and its standby gives no cover until then (R146). -/
def State.putReport (i : Nat) (row : List Byte) (s : State) : State :=
  let k := mapRow i
  let was := (s.entryAt i).any (s.dividedAt i)
  let s := s.putValue k.1 0x5006 k.2 row
  match s.entryAt i with
  | some e =>
    if was && !s.dividedAt i e && e.mode == 1 then (e.members.filter fun m => !e.serving.contains m).foldl (fun s m => s.noteSyncing m) s else s
  | none => s

/-- The map takes a report. Every other part has its copy of the row by a forwarded OD 0x5006: entry number U16 and row (R156; the model's
own message, log 86). -/
def State.setReport (i pos gen pred : Nat) (s : State) : State :=
  let k := mapRow i
  let row := patch (s.fieldBytes k.1 0x5006 k.2) (8 * pos) (leBytes 4 gen ++ leBytes 4 pred)
  (s.putReport i row).forward 0x5006 0 (leBytes 2 i ++ row) (s.allParts.filter (· != s.endpoint))

/-- GEN_REPORT: the admitting part keeps it, and a twin compares it with its own. -/
def execGenReport (src : BitVec 16) (gen pred : BitVec 32) (s : State) : Host.Outcome State Fault Refusal :=
  .next (
    let ep := s.sourceOf src.toNat
    let s := if s.twin = some ep then ((s.setOd 0x5007 0 40 gen.toNat).setOd 0x5007 0 41 pred.toNat).settlePair else s
    match s.isAdmitting, s.entryIndexOf ep with
    | true, some i =>
      (s.setReport i (if (s.entryAt i).map (·.pos0) = some ep then 0 else 1) gen.toNat pred.toNat).autoBarrier
    | _, _ => s)

/-! ### Generation faults and retirement (R147, R150) -/

/-- A request's steps in flight are discarded, without a charge, and R148 is applied to it at once. -/
def State.discardSteps (n : Nat) (steps : List Nat) (s : State) : State :=
  let s := steps.foldl (fun s x => s.abandonEverywhere x) s
  match s.req n with
  | none => s
  | some r =>
    -- a deadline that passed during the step ends the request EXPIRED; no R148 action follows (R155)
    match r.ending.or (if steps ≠ [] ∧ pastDeadline r.entry s.now = true then some 3 else none) with
    | some o => s.finish n o [] (steps.headD 0) s.now
    | none => (s.modReq n fun r => { r with flights := r.flights.map fun f => if steps.contains f.step then { f with step := 0 } else f }).oldGeneration n

/-- GEN_FAULT: the admitting part discards the step, without a charge, and applies R148 to the request at once. -/
def execGenFault (step : BitVec 64) (ctx : BitVec 32) (s : State) : Host.Outcome State Fault Refusal :=
  .next (
    if !s.isAdmitting then s
    else match s.reqOfStep step.toNat with
      | none => s
      | some (n, r) => if r.ctx ≠ ctx.toNat then s else ((s.discardSteps n [step.toNat]).restartSpec n).settleDrain)

/-- DRAIN_LIMIT_EXPIRED: OD 0x5018.02 has passed since the switch. -/
def execDrainLimitExpired (s : State) : Host.Outcome State Fault Refusal :=
  .next (if s.isAdmitting && decide (s.od 0x5000 3 0 + 1000000 * s.od 0x5018 2 0 ≤ s.now) then s.retire (s.od 0x5000 2 0) else s)

/-! ### The barrier (R151) -/

def State.applyBarrier (v : Nat) (s : State) : Nat × State :=
  if v = 1 then
    let s := { s with barrierAuto := false }
    (0, if s.od 0x5005 0 0 = 0 then (s.setBarrier 1).settleDrain else s)
  else (0, { s with barrierAuto := false }.setBarrier 0 |>.autoBarrier)

/-- BARRIER_RAISE (OD 0x5004, 0x01). -/
def execBarrierRaise (rq : Requester) (s : State) : Host.Outcome State Fault Refusal :=
  .next (s.access rq .command 0x5004 0 [1] (State.applyBarrier 1))

/-- BARRIER_LOWER (OD 0x5004, 0x02): held requests launch in queue order, each after R148. -/
def execBarrierLower (rq : Requester) (s : State) : Host.Outcome State Fault Refusal :=
  .next (s.access rq .command 0x5004 0 [2] (State.applyBarrier 2))

/-! ### The copy ends (R146, R377) -/

/-- COPY_COMPLETE: the HOT copy is complete and the pair is PAIRED. -/
def execCopyComplete (s : State) : Host.Outcome State Fault Refusal :=
  .next (
    if s.od 0x4102 0 0 ≠ 2 then s
    else
      let s := { s with declared := s.declared.filter (fun d => s.twin != some d),
                        syncing := s.syncing.filter fun d => s.twin != some d && d != s.endpoint }
      let s := (s.setPair 0).setOd 0x4102 0 3 0
      -- the position that has its copy gives cover from now on; one of LOCKSTEP asks for its place in service (15 R377)
      if s.inService then s else s.sendJoined (s.ownIndex.getD 0xFFFF))

end Sys2Proof.Machine
end

