-- ==== Sys2Proof/Machine/Chimney.lean ====
section
/-! DEFINITION. Machine/Chimney.lean: how records leave the part: event rings, side-band datagrams and the soot ring, and the
error log's command (20_errors_test_chimney.md R469, R477 to R483). -/

namespace Sys2Proof.Machine

/-! ### Taking records from a queue (R478) -/

/-- The next record to leave: ALARMs first, else the oldest. -/
def nextRecord (q : List Record) : Option Record := (q.find? fun r => r.cls == 0).or q.head?

/-- Take one record off a queue in that order. -/
def popRecord (q : List Record) : Option (Record × List Record) := (nextRecord q).map fun r => (r, q.erase r)

/-- Up to `n` records in order of leaving. -/
def popRecords : Nat → List Record → List Record × List Record
  | 0, q => ([], q)
  | n + 1, q => match popRecord q with
    | none => ([], q)
    | some (r, q) => let (l, q) := popRecords n q; (r :: l, q)

def State.setQueue (p : Nat) (q : List Record) (s : State) : State := s.setPathQ p { s.pathQ p with queue := q }

/-- Count a record sent. -/
def State.countSent (p : Nat) (s : State) (r : Record) : State := s.bump 0x6403 0 (chimneyField p r.cls 0) 1

/-! ### Event rings (R480) -/

def State.eventRing (s : State) (p : Nat) : EventRing := if p = 0 then s.ringA else s.ringB
def State.setEventRing (p : Nat) (r : EventRing) (s : State) : State := if p = 0 then { s with ringA := r } else { s with ringB := r }

/-- Records of a ring of port `p`. -/
def State.ringSize (s : State) (p : Nat) : Nat := 2 ^ s.od 0x6401 (p + 1) 1

/-- The ring's vector leaves at most once per 10 µs. -/
def State.signalRing (p : Nat) (s : State) : State :=
  let r := s.eventRing p
  if r.unsignalled && decide (r.sentAt + 10000 ≤ s.elapsed) then
    (s.setEventRing p { r with sentAt := s.elapsed, unsignalled := false }).emit (.msix (hostOf p) (s.od 0x6401 (p + 1) 2))
  else s

/-- Write one record into the ring while it then holds at most N − 1. -/
def State.writeRing (p : Nat) (s : State) : State :=
  let r := s.eventRing p
  let n := s.ringSize p
  match popRecord (s.pathQ p).queue with
  | none => s
  | some (x, q) =>
    if n ≤ (r.index + n - r.head) % n + 1 then s
    else
      let s := ((s.setQueue p q).countSent p x).emit (.hostWrite (hostOf p) (s.od 0x6401 (p + 1) 0 + 32 * r.index) (x.bytes r.phase))
      let last := decide (n ≤ r.index + 1)
      let r := { r with index := if last then 0 else r.index + 1, phase := if last then !r.phase else r.phase, unsignalled := true }
      (s.setEventRing p r).bump 0x1200 (p + 1) 8 32

/-- EVENT_RING_WRITE: one record, and the vector where it is due. -/
def execEventRingWrite (p : HostPort) (s : State) : Host.Outcome State Fault Refusal :=
  .next (
    let n := hostNo p
    if s.pathOpen n && s.hostLink n then (s.writeRing n).signalRing n else s)

/-- A write of OD 0x6401: judged only with a base, and the ring starts again. -/
def State.applyEventRing (p : Nat) (data : List Byte) (s : State) : Nat × State :=
  let base := leAt data 0 8
  let size := leAt data 8 1
  let vector := leAt data 9 2
  if base ≠ 0 ∧ (base % 4096 ≠ 0 ∨ size < 6 ∨ 16 < size ∨ vector < 1 ∨ 511 < vector ∨ 7 < leAt data 11 1) then refuse codeRange s
  else (0, (s.putValue 0 0x6401 (p + 1) data).setEventRing p { index := 0, head := 0, phase := true, sentAt := (s.eventRing p).sentAt, unsignalled := false })

/-! ### Side-band (R481) -/

/-- Fill the bucket at OD 0x6400.01 per second, up to one second's worth; the part of a bit stays. -/
def State.fillSide (s : State) : State :=
  let rate := s.od 0x6400 1 0
  let gain := rate * (s.elapsed - s.sideAt)
  { s with sideBits := min rate (s.sideBits + gain / 1000000000), sideAt := if rate = 0 then s.elapsed else s.elapsed - gain % 1000000000 / rate }

/-- SIDE_BAND_DATAGRAM: up to 16 records, once 16 are queued or the oldest has waited 100 ms, and the bucket holds the charge. -/
def execSideBandDatagram (s : State) : Host.Outcome State Fault Refusal :=
  .next (
    let s := s.fillSide
    let q := s.path2.queue
    let (l, rest) := popRecords 16 q
    let charge := 8 * (142 + 32 * l.length)
    let due := decide (16 ≤ q.length) || q.any fun r => decide (r.time + 100000000 ≤ s.now)
    if l = [] ∨ due = false ∨ s.sideBits < charge ∨ s.islandRun ≠ 1 ∨ s.pathOpen 2 = false then s
    else
      let s := l.foldl (State.countSent 2) (s.setQueue 2 rest)
      { s with sideBits := s.sideBits - charge }.emit (.datagram l))

/-! ### Soot ring (R482, R483) -/

def sootSlots : Nat := 16777088

/-- Where the next record goes, from 4,096. -/
def State.sootOffset (s : State) : Nat := max 4096 (s.od 0x6402 0 2)

def State.sootHeader (s : State) : List Byte :=
  let b := leBytes 2 1 ++ List.replicate 6 0 ++ leBytes 8 (s.od 0x1000 0 0) ++ leBytes 8 s.sootStart ++ leBytes 4 s.sootOffset ++
    leBytes 4 (s.od 0x6402 0 3) ++ leBytes 1 (s.od 0x6402 0 4) ++ List.replicate 27 0
  b ++ leBytes 4 (crc32 b)

def State.rewriteHeader (s : State) : State := s.writeStack sootBase s.sootHeader

/-- SOOT_RING_WRITE: the next record, over the bulk channel; from the last slot the ring wraps to the first. -/
def execSootRingWrite (s : State) : Host.Outcome State Fault Refusal :=
  .next (
    match popRecord s.path3.queue with
    | none => s
    | some (r, q) =>
      if !s.pathOpen 3 || !s.mainUp then s
      else
        let at_ := s.sootOffset
        let s := if at_ = 4096 ∧ s.od 0x6402 0 3 = 0 then { s with sootStart := r.time } else s
        let s := ((s.setQueue 3 q).countSent 3 r).writeStack (sootBase + at_) (r.bytes false)
        if at_ + 32 < 4096 + 32 * sootSlots then s.setOd 0x6402 0 2 (at_ + 32) else (s.setOd 0x6402 0 2 4096).bump 0x6402 0 3 1)

/-- SOOT_HEADER_REWRITE: every 1 ms while the ring is written. -/
def execSootHeaderRewrite (s : State) : Host.Outcome State Fault Refusal :=
  .next (if s.pathOpen 3 && s.mainUp then s.rewriteHeader else s)

/-- Freeze or resume; hidden field 40 of OD 0x6402 tells that the freeze is that of a start-up. -/
def State.setFrozen (v : Bool) (s : State) : State := ((s.setOd 0x6402 0 4 (flagNat v)).setOd 0x6402 0 40 0).rewriteHeader

/-- SOOT_FREEZE (OD 0x6404, 0x01). -/
def execSootFreeze (rq : Requester) (s : State) : Host.Outcome State Fault Refusal :=
  .next (s.access rq .command 0x6404 0 [1] fun s => (0, s.setFrozen true))

/-- SOOT_RESUME (OD 0x6404, 0x02). -/
def execSootResume (rq : Requester) (s : State) : Host.Outcome State Fault Refusal :=
  .next (s.access rq .command 0x6404 0 [2] fun s => (0, s.setFrozen false))

/-- SOOT_AUTO_RESUME: 600 s after the part became ready, a ring frozen at start-up goes on. -/
def execSootAutoResume (s : State) : Host.Outcome State Fault Refusal :=
  .next (if s.ready && s.od 0x6402 0 40 == 1 && decide (s.readyAt + 600000000000 ≤ s.elapsed) then s.setFrozen false else s)

/-- The soot ring at the start of the main side (R483): frozen with the previous run where M1 kept a good header, else empty. -/
def State.startSoot (s : State) : State :=
  let (b, bad, s) := s.readStack sootBase 64 0
  let s := (s.setOd 0x6402 0 0 sootBase).setOd 0x6402 0 1 512
  if !bad && leAt b 0 2 == 1 && leAt b 60 4 == crc32 (b.take 60) then
    let s := ((s.setOd 0x6402 0 2 (leAt b 24 4)).setOd 0x6402 0 3 (leAt b 28 4)).setOd 0x6402 0 4 1
    { s with sootStart := leAt b 16 8 }.setOd 0x6402 0 40 1
  else { ((s.setOd 0x6402 0 2 4096).setOd 0x6402 0 3 0).setOd 0x6402 0 4 0 with sootStart := 0 }

/-! ### The error log (R469) -/

/-- OD 0x6001 to 0x6003 are cleared; OD 0x6000 and the chimney counters stay. -/
def State.clearLog (s : State) : State :=
  (List.range 64).foldl (fun s k => s.setOd 0x6003 0 k 0) ((s.setBlob 0x6001 0 []).setBlob 0x6002 0 [])

/-- ERROR_LOG_CLEAR (OD 0x6004, 0x01). -/
def execErrorLogClear (rq : Requester) (s : State) : Host.Outcome State Fault Refusal :=
  .next (s.access rq .command 0x6004 0 [1] fun s => (0, s.clearLog))

end Sys2Proof.Machine
end

