-- ==== Sys2Proof/Machine/Arrays.lean ====
section
/-! DEFINITION. Machine/Arrays.lean: array issues, re-issues, the bay accumulator, check and reference columns, fencing and
remap (03_cim_arrays.md R54 to R89, R195 to R197, R454, R523). -/

namespace Sys2Proof.Machine

/-! ### Column sums and conversions (R35, R36, R54, R64, R65, R81) -/

/-- An activation element in half steps: KIND 0 INT, 1 E2M1 (R30, R31). -/
def actHalves (kind : Bool) (c : BitVec 4) : Int := if kind then fp4Halves c.toNat else 2 * intElem c.toNat

/-- A stored weight in halves of G_u by the array's format: 0 W4I, 1 W4F, 2 W3I, 3 WT (Table 02-5). -/
def weightHalves (format : Nat) (c : BitVec 4) : Int :=
  if format = 0 then 2 * intElem c.toNat
  else if format = 1 then fp4Halves c.toNat
  else if format = 2 then 4 * toSigned 3 c.toNat
  else 12 * toSigned 2 c.toNat

/-- The programmed cells of an array. -/
def State.cellsOf (s : State) (a : Nat) : List (Nat × BitVec 4) := s.weights.filter fun e => e.1 / 2 ^ 20 == a

/-- Sum of `f` over rows `first` to `last`. -/
def sumRows (first last : Nat) (f : Nat → Int) : Int :=
  (List.range (last + 1 - first)).foldl (fun acc i => acc + f (first + i)) 0

/-- The column sum of a physical column in quarters of a unit product. The check column holds W4I weights (R78),
reference A 7 and reference B −2 in every row (R81). -/
def columnSum4 (cells : List (Nat × BitVec 4)) (format : Nat) (act : Nat → Int) (first last col : Nat) : Int :=
  if col = 529 then 14 * sumRows first last act
  else if col = 530 then -4 * sumRows first last act
  else cells.foldl (fun acc e =>
    let row := e.1 / 1024 % 1024
    if e.1 % 1024 = col ∧ first ≤ row ∧ row ≤ last then
      acc + act row * weightHalves (if col = 528 then 0 else format) e.2 else acc) 0

/-- One conversion of all 531 columns of an array (Table 03-2), with the analogue errors of 04 R90 to R93; converter and window comparator
see the same charge. The reference columns show the common drift that the trims remove from the others (R91, R108; log 184). A converter out
of service delivers invalid codes. Two draws for each column. -/
def State.convert (s : State) (a : Nat) (elems : List (BitVec 4)) (scale first last span : Nat) : List ColConv :=
  let cells := s.cellsOf a
  let act (r : Nat) : Int := actHalves (bit scale 15) (elems.getD r 0)
  let gain := s.gainError a
  let refGain := if s.calValid (a / 1024) then gain - s.driftGain a else gain
  let bound := s.errorBound a
  (List.range 531).map fun col =>
    let sum := columnSum4 cells (s.recFormat a) act first last col
    let charge := columnCharge sum span (if col < 529 then gain else refGain) (s.columnError a col (s.free + 2 * col) bound)
    { code := converterCode charge span, flag := overRange charge span (1000 * Config.comparatorError (s.free + 2 * col + 1)), span := span,
      invalid := s.convOut.get false (a / 2 * 128 + converterOf col) }

/-- Draws of one conversion of an array. -/
def convertDraws : Nat := 1062

/-- 531 invalid columns. -/
def invalidColumns (span : Nat) : List ColConv := List.replicate 531 { code := -128, flag := 0, span := span, invalid := true }

def colAt (cols : List ColConv) (p : Nat) : ColConv := cols.getD p { code := -128, flag := 0, span := 0, invalid := true }

/-! ### The logical columns of a site (R82) -/

/-- The remap table in force for a step: as it stood at its launch (R84, R210). -/
def State.stepRemap (s : State) (step a : Nat) : List Byte := (s.stepRec step).remaps.get [] (odKey a 0x3101 0 0)

/-- The physical columns of logical columns 0 to 511 for a step. -/
def State.physColumns (s : State) (step a : Nat) : List Nat := (List.range 512).map (physColumn (s.stepRemap step a))

/-- Whether a column is invalid in any conversion of an issue so far (R73). -/
def SiteConv.invalidAt (sc : SiteConv) (p : Nat) : Bool :=
  decide (sc.cause ≠ 0) || (colAt sc.initial p).invalid || (colAt sc.cols p).invalid || sc.parts.any fun t => (colAt t.cols p).invalid

/-- Whether logical column at `p` is flagged in its latest conversion and may be re-issued (R69, R73). -/
def SiteConv.flaggedAt (sc : SiteConv) (p : Nat) : Bool := !sc.invalidAt p && (colAt sc.cols p).flag != 0

/-- The logical columns of a conversion that are flagged, invalid ones left out (Table 03-10). -/
def countFlags (phys : List Nat) (cols : List ColConv) : Nat :=
  (phys.filter fun p => !(colAt cols p).invalid && (colAt cols p).flag != 0).length

/-- Count in the layer range counters of a slot (R89). -/
def State.range (slot fld n : Nat) (s : State) : State := if n = 0 then s else s.bump 0x3120 (slot + 1) fld n

/-! ### DRV L = 1: latch load (R58, R195) -/

/-- Whether a latch can take a load at cycle `t`. One that an earlier step loaded and never drove is free (DESIGN CHOICE, log 178). -/
def latchFree (step t : Nat) : Option Latch → Bool
  | none => true
  | some l => l.step != step || (match l.busyUntil with | none => false | some e => decide (e ≤ t))

/-- Put a new latch into the free one of a site. -/
def Site.load (step t : Nat) (l : Latch) (y : Site) : Option Site :=
  if latchFree step t y.latchA then some { y with latchA := some l }
  else if latchFree step t y.latchB then some { y with latchB := some l }
  else none

/-- Global site number of site `n` of a bay. -/
def siteNo (h bay n : Nat) : Nat := 512 * h + 64 * bay + n

/-- DRV with L = 1: each site's free latch takes segment (ordinal mod NSEG), segment j in cycle issue + j. A site with
no free latch is a SCHEDULE fault (DEDUCED, log 20). -/
def execDrvLatchLoad (i : IssueAt) (f : DrvFields) (s : State) : Host.Outcome State Fault Refusal :=
  .next (s.issue i (drvLow f) 1 fun t s =>
    let h := i.h.toNat
    let x := s.hearth h
    let d := s.groupDesc h f.desc.toNat
    let sites := d.sites.map (siteNo h f.bay.toNat)
    if sites.any fun n => !(latchFree x.step t (s.site n).latchA || latchFree x.step t (s.site n).latchB) then
      s.scheduleFault h t 1
    else
      let fresh : Latch := { step := x.step, elems := [], scale := 255, ready := t + d.nseg, busyUntil := none, seq := x.seq }
      let s := sites.foldl (fun s n => s.setSite n (((s.site n).load x.step t fresh).getD (s.site n))) s
      (List.range d.nseg).foldl (fun s j =>
        let mine := (sites.zipIdx.filter fun e => e.2 % d.nseg == j).map (·.1)
        s.schedule h (t + j) (.latch mine x.seq (f.vsrc.toNat + j / 2) (j % 2) d.scaleReg (d.seg0 + j))) s)

/-! ### DRV L = 0: issue (R56 to R73, R195, R197) -/

/-- The latch a site's next issue drives from: of those loaded and not yet driven, the one loaded first. -/
def Site.loaded (step : Nat) (y : Site) : Option Latch :=
  let waits (l : Option Latch) : Option Latch := l.filter fun l => l.step == step && l.busyUntil.isNone
  match waits y.latchA, waits y.latchB with
  | some a, some b => if a.seq ≤ b.seq then some a else some b
  | some a, none => some a
  | none, b => b

/-- Mark a site's latch as driven until a cycle. -/
def Site.drive (seq until_ : Nat) (y : Site) : Site :=
  let up (l : Latch) : Latch := if l.seq = seq then { l with busyUntil := some until_ } else l
  { y with latchA := y.latchA.map up, latchB := y.latchB.map up }

/-- Causes of invalid codes of a whole issue, Table 03-7: 0 none, 1 SCHEDULE, 2 SITE_BUSY, 3 FENCED, 4 FORMAT. -/
def State.issueCause (s : State) (step t a scale : Nat) : Nat :=
  let y := s.site (a / 2)
  if y.step = step ∧ y.lastIssue.isSome ∧ t < y.reservedUntil then 1
  else if s.arrayState a = 1 ∨ s.arrayState (a / 2 * 2) = 1 ∨ s.arrayState (a / 2 * 2 + 1) = 1 then 2
  else if s.arrayState a = 2 ∨ s.arrayState a = 3 then 3
  else if a4sInvalid scale then 4
  else 0

/-- Sites converting in a hearth at a cycle (R454). -/
def Hearth.converting (x : Hearth) (t : Nat) : Nat :=
  x.groups.foldl (fun n g => if t < g.cc + 82 + 64 * g.budget then n + (g.sites.filter fun sc => sc.cause != 1).length else n) 0

/-- Sites converting at once per hearth at a damper level (Table 19-7). -/
def damperCap (level : Nat) : Nat := [512, 256, 128, 64].getD level 32

/-- Whether a group of `n` sites fits at a cycle under the damper level in effect (R454). -/
def State.fits (s : State) (h n t : Nat) : Bool :=
  let c := (s.hearth h).converting t
  decide (c + n ≤ damperCap (s.od 0x2404 0 0)) || c == 0

/-- Before a site's DRV a trim update that arrived while a group held the site takes effect, once no group does (04 R99). -/
def State.settleTrim (h t site : Nat) (s : State) : State :=
  let held := (s.hearth h).groups.any fun g => decide (t < g.cc + 82 + 64 * g.budget) && g.sites.any fun c => c.site == site && c.cause != 1
  if held then s else { s with compAt := s.compAt.put 0 site (s.compWanted.get 0 h) }

/-- One site starts its part of an issue. A DRV that is not executed leaves the latch it would have driven loaded (DESIGN CHOICE, log 179). -/
def State.startSite (h t : Nat) (g : Group) (lower : Bool) (ord site : Nat) (s : State) : SiteConv × State :=
  let a := 2 * site + (if lower then 1 else 0)
  let step := (s.hearth h).step
  let l := ((s.site site).loaded step).getD { step := step, elems := [], scale := 255, ready := 0, busyUntil := none, seq := 0 }
  let cause := s.issueCause step t a l.scale
  let sc (cols : List ColConv) : SiteConv :=
    { site := site, array := a, seg := ord % g.nseg, blk := ord / g.nseg, elems := l.elems, scale := l.scale, cause := cause,
      initial := cols, cols := cols, parts := [], used := 0, reissues := 0 }
  if cause = 1 then (sc (invalidColumns g.span), s)
  else
    let s := s.settleTrim h t site
    let y := (s.site site).drive l.seq (t + 64 * g.budget + 15)
    let s := s.setSite site { y with step := step, lastIssue := some t, reservedUntil := t + 64 + 64 * g.budget }
    let s := s.range g.slot 0 1
    let log := s.checks.get CheckLog.fresh a
    let s := { s with checks := s.checks.put CheckLog.fresh a { log with issues := log.issues + 1 } }
    if cause = 0 then
      let cols := s.convert a l.elems l.scale g.first g.last g.span
      let s := s.range g.slot 1 (countFlags (s.physColumns step a) cols)
      (sc cols, s.spend convertDraws)
    else (sc (invalidColumns g.span), s)

def State.startSites (h t : Nat) (g : Group) (lower : Bool) : Nat → List Nat → State → List SiteConv × State
  | _, [], s => ([], s)
  | ord, site :: rest, s =>
    let (sc, s) := s.startSite h t g lower ord site
    let (scs, s) := s.startSites h t g lower (ord + 1) rest
    (sc :: scs, s)

/-- One record of a kind for the sites an issue finds with it (R469). -/
def State.raiseSites (h : Nat) (k : Kind) (detail : SiteConv → Nat) (found : List SiteConv) (s : State) : State :=
  match found with
  | [] => s
  | sc :: _ =>
    let x := s.hearth h
    s.raise { kind := k, path := pathSite sc.array, detail := detail sc, count := found.length, step := x.step, pc := x.pc, opcode := 1 }

/-- The columns of an array that a converter converts and whose codes the step uses: check and reference columns, and main and spare columns
as the remap table of its launch routes them. Once all its columns are remapped there are none (Table 03-7). -/
def State.columnsUsed (s : State) (step a conv : Nat) : Nat :=
  if conv = 66 then 3 else ((converterColumns conv).filter (s.physColumns step a).contains).length

/-- The converters out of service that an issue's sites meet for the first time in the step, with columns not remapped: site × 128 +
converter, and how many of the issue's conversions it makes invalid. -/
def State.newDropped (s : State) (step : Nat) (scs : List SiteConv) : List (Nat × Nat) :=
  let seen := (s.stepRec step).convSeen
  (scs.filter fun sc => sc.cause == 0).flatMap fun sc =>
    (((List.range 67).filter fun c => s.convOut.get false (sc.site * 128 + c) && !seen.contains (sc.site * 128 + c)).map
      fun c => (sc.site * 128 + c, s.columnsUsed step sc.array c)).filter fun e => e.2 != 0

/-- The records of an issue (Table 03-7). FENCED is written once per step per array, an out-of-service converter once per
step. -/
def State.issueRecords (h t : Nat) (lower : Bool) (scs : List SiteConv) (s : State) : State :=
  let step := (s.hearth h).step
  let of (c : Nat) : List SiteConv := scs.filter fun sc => sc.cause == c
  let seen := (s.stepRec step).fencedSeen
  let fresh := (of 3).filter fun sc => !seen.contains sc.array
  let conv := s.newDropped step scs
  let s := s.modStep step fun r => { r with fencedSeen := r.fencedSeen ++ fresh.map (·.array), convSeen := r.convSeen ++ conv.map (·.1) }
  let s := (((s.raiseSites h .schedule (fun _ => t) (of 1)).raiseSites h .siteBusy (fun _ => 0) (of 2)).raiseSites h .fenced (·.array) fresh).raiseSites h
    .format (·.seg) (of 4)
  match conv with
  | [] => s
  | (k, columns) :: _ =>
    let x := s.hearth h
    s.raise { kind := .converter, path := pathColumn (2 * (k / 128) + (if lower then 1 else 0)) (768 + k % 128), detail := columns,
              count := conv.length, step := step, pc := x.pc, opcode := 1 }

/-- The DRV of a group issues at cycle `t`: R195, R197, then the sites. -/
def State.driveGroup (h t : Nat) (f : DrvFields) (s : State) : State :=
  let x := s.hearth h
  let d := s.groupDesc h f.desc.toNat
  let bay := f.bay.toNat
  let mine (a : Armed) : Bool := a.bay == bay && a.desc == f.desc.toNat
  match x.armed.find? mine with
  | none => s.scheduleFault h t 1
  | some arm =>
    let cfg := (s.stepRec x.step).cfg
    let budget := s.slotBudget f.slot.toNat cfg
    -- the window counts with the budget of the slot the ACC names (R197; DEDUCED, log 21)
    let window := frameUp (t + 88 + 64 * s.slotBudget arm.slot cfg)
    let live := x.groups.filter fun g => decide (t < g.ends)
    let sites := d.sites.map (siteNo h bay)
    let g : Group :=
      { bay := bay, desc := f.desc.toNat, slot := f.slot.toNat, layer := s.slotLayer f.slot.toNat, span := f.span.toNat,
        first := f.first.toNat, last := f.last.toNat, cc := t, policy := s.slotPolicy f.slot.toNat cfg, budget := budget,
        window := window, nblk := d.nblk, nseg := d.nseg, outBase := d.outBase, sites := [], delivered := false }
    let badLatch (n : Nat) : Bool := match (s.site n).loaded x.step with
      | none => true
      | some l => decide (t < l.ready + 1)
    if t ≤ arm.cc ∨ arm.cc + 64 < t then s.scheduleFault h t 1
    else if 2 < (x.armed.filter fun a => a.bay == bay).length + (live.filter fun e => e.bay == bay).length then s.scheduleFault h t 1
    else if live.any fun e => decide (e.window < g.ends) && decide (g.window < e.ends) then s.scheduleFault h t 1
    else if sites.any badLatch then s.scheduleFault h t 1
    else
      let (scs, s) := s.startSites h t g f.lower 0 sites
      let s := s.issueRecords h t f.lower scs
      s.modHearth h fun x => { x with armed := x.armed.erase arm, groups := live ++ [{ g with sites := scs }] }

/-- DRV with L = 0. A group the damper's cap does not let start is held at its DRV (R454). -/
def execDrvIssue (i : IssueAt) (f : DrvFields) (s : State) : Host.Outcome State Fault Refusal :=
  .next (match s.begin i (drvLow f) 1 with
    | (none, s) => s
    | (some t, s) =>
      let h := i.h.toNat
      if s.fits h (s.groupDesc h f.desc.toNat).sites.length t then
        let s := s.driveGroup h t f
        if (s.hearth h).phase == .faulted then s else s.toNext h
      else s.modHearth h fun x => { x with held := some (i, f) })

/-- Count `cc` cycles of a hold as time damped (R454), kept in ns in field 40 and shown in whole ms. -/
def State.timeDamped (cc : Nat) (s : State) : State :=
  let ns := s.od 0x2411 0 40 + cc * 1000 / s.coreMhz
  (s.setOd 0x2411 0 40 ns).setOd 0x2411 0 2 (ns / 1000000)

/-- DAMPER_HOLD_RELEASE (R454): at the first frame boundary at which the group fits, the held DRV issues and every later
instruction moves by the hold. Hold cycles do not count toward the 1–64 cc of R197. -/
def execDamperHoldRelease (hh : HearthId) (s : State) : Host.Outcome State Fault Refusal :=
  .next (
    let h := hh.toNat
    let x := s.hearth h
    match x.held with
    | none => s
    | some (_, f) =>
      let n := (s.groupDesc h f.desc.toNat).sites.length
      let last := x.groups.foldl (fun m g => max m (g.cc + 82 + 64 * g.budget)) x.last
      let t := match ((List.range 256).map fun k => 8 * (x.last / 8 + 1 + k)).find? (s.fits h n) with
        | some t => t
        | none => frameUp last
      let go := x.phase == .running && (match x.freeze with | none => true | some z => decide (t < z.start))
      if !go then s
      else
        let hold := t - x.last
        let s := (s.advance h t).timeDamped hold
        let s := s.modHearth h fun x =>
          { x with held := none, last := t, armed := x.armed.map fun a => { a with cc := a.cc + hold } }
        let s := s.driveGroup h t f
        if (s.hearth h).phase == .faulted then s else s.toNext h)

/-! ### Re-issues (R69 to R72) -/

/-- Replace the columns that were flagged by those of a new conversion. A column invalid in any conversion stays so (R73). -/
def takeFlagged (old new : List ColConv) : List ColConv :=
  (List.range 531).map fun p => if (colAt old p).flag != 0 && !(colAt old p).invalid then colAt new p else colAt old p

/-- The step whose issue a site converts. -/
def State.siteStep (s : State) (site : Nat) : Nat := (s.hearth (site / 512)).step

def State.wantsWiden (s : State) (g : Group) (sc : SiteConv) : Bool :=
  g.policy == 1 && sc.cause == 0 && decide (sc.used < g.budget) &&
    (s.physColumns (s.siteStep sc.site) sc.array).any fun p => sc.flaggedAt p && decide ((colAt sc.cols p).span < 3)

/-- WIDEN: one re-issue at the next wider span, over the same rows and from the same latch (R69). -/
def State.widenSite (g : Group) (sc : SiteConv) (s : State) : SiteConv × State :=
  if !s.wantsWiden g sc then (sc, s)
  else
    let span := g.span + sc.used + 1
    let new := s.convert sc.array sc.elems sc.scale g.first g.last span
    let phys := s.physColumns (s.siteStep sc.site) sc.array
    let s := ((s.spend convertDraws).range g.slot 2 1).range g.slot 1 (countFlags phys new)
    ({ sc with cols := takeFlagged sc.cols new, used := sc.used + 1, reissues := sc.reissues + 1 }, s)

/-- The two halves of a row range (R70). -/
def halvesOf (first last : Nat) : List (Nat × Nat) :=
  let n := last + 1 - first
  let m := first + (n + 1) / 2
  [(first, m - 1), (m, last)]

/-- What a SPLIT site splits next: the full range where it flags a column, then the first half that itself flags a column and is not
split. Invalid columns count for neither (R70, R73). -/
def State.nextSplit (s : State) (g : Group) (sc : SiteConv) : Option (Nat × Nat × Nat) :=
  let cols := (s.physColumns (s.siteStep sc.site) sc.array).filter fun p => !sc.invalidAt p
  if g.policy ≠ 2 ∨ sc.cause ≠ 0 ∨ g.budget < sc.used + 2 then none
  else if sc.parts = [] then (if cols.any sc.flaggedAt then some (g.first, g.last, 1) else none)
  else ((sc.parts.filter fun t => t.level == 1).find? fun t =>
      cols.any (fun p => (colAt t.cols p).flag != 0) &&
        !(sc.parts.any fun q => q.level == 2 && decide (t.first ≤ q.first) && decide (q.last ≤ t.last))).map
    fun t => (t.first, t.last, 2)

/-- SPLIT: one level of one range, both parts at the DRV's span (R70). -/
def State.splitSite (g : Group) (sc : SiteConv) (s : State) : SiteConv × State :=
  match s.nextSplit g sc with
  | none => (sc, s)
  | some (first, last, level) =>
    let phys := s.physColumns (s.siteStep sc.site) sc.array
    let (parts, s) := (halvesOf first last).foldl (fun (acc : List SplitPart × State) r =>
      let s := acc.2
      let cols := s.convert sc.array sc.elems sc.scale r.1 r.2 g.span
      (acc.1 ++ [{ first := r.1, last := r.2, level := level, cols := cols }],
       ((s.spend convertDraws).range g.slot 2 1).range g.slot 1 (countFlags phys cols))) ([], s)
    ({ sc with parts := sc.parts ++ parts, used := sc.used + 2, reissues := sc.reissues + 2 }, s)

/-- Run `f` on the first site conversion for which `want` holds, oldest group first. -/
def reissueIn (want : State → Group → SiteConv → Bool) (f : Group → SiteConv → State → SiteConv × State) (site : Nat) (s : State) : State :=
  let h := site / 512
  let x := s.hearth h
  let has (g : Group) : Bool := !g.delivered && g.sites.any fun sc => sc.site == site && want s g sc
  match x.groups.find? has with
  | none => s
  | some g =>
    match g.sites.find? fun sc => sc.site == site && want s g sc with
    | none => s
    | some sc =>
      let (sc', s) := f g sc s
      let g' := { g with sites := g.sites.map fun c => if c.site = site then sc' else c }
      s.modHearth h fun x => { x with groups := x.groups.map fun e => if e.bay = g.bay ∧ e.cc = g.cc then g' else e }

/-- REISSUE_WIDEN (R69, R71). -/
def execReissueWiden (site : SiteId) (s : State) : Host.Outcome State Fault Refusal :=
  .next (reissueIn State.wantsWiden State.widenSite site.toNat s)

/-- REISSUE_SPLIT (R70, R71). -/
def execReissueSplit (site : SiteId) (s : State) : Host.Outcome State Fault Refusal :=
  .next (reissueIn (fun s g sc => (s.nextSplit g sc).isSome) State.splitSite site.toNat s)

/-- The re-issues of a site that its budget still holds (R68: the group's codes are complete at cc 82 + 64 × B). -/
def State.finishSite (g : Group) : Nat → SiteConv → State → SiteConv × State
  | 0, sc, s => (sc, s)
  | n + 1, sc, s =>
    let (sc, s) := s.widenSite g sc
    let (sc, s) := s.splitSite g sc
    s.finishSite g n sc

def State.finishSites (g : Group) : List SiteConv → State → List SiteConv × State
  | [], s => ([], s)
  | sc :: rest, s =>
    let (sc, s) := s.finishSite g g.budget sc
    let (scs, s) := s.finishSites g rest
    (sc :: scs, s)

/-! ### ACC (R74 to R77, R197) -/

/-- ACC arms the bay accumulator for the next DRV of its bay and descriptor. -/
def execAcc (i : IssueAt) (f : AccFields) (s : State) : Host.Outcome State Fault Refusal :=
  .next (s.issue i (accLow f) 2 fun t s =>
    s.modHearth i.h.toNat fun x =>
      { x with armed := x.armed ++ [{ bay := f.bay.toNat, desc := f.desc.toNat, slot := f.slot.toNat, cc := t }] })

/-- How a column resolves: its site sum in codes at the DRV's span (none: invalid), and the counts it adds: saturated,
exhausted (R67, R69 to R71, R73, R74). -/
structure Resolved where
  value : Option Int
  saturated : Nat
  exhausted : Nat
deriving DecidableEq, Repr

/-- A part of a SPLIT column: its code, or ±127 where it stays flagged. -/
def partValue (c : ColConv) : Int × Nat := if c.flag = 0 then (c.code, 0) else (127 * c.flag, 1)

def SiteConv.resolve (g : Group) (sc : SiteConv) (p : Nat) : Resolved :=
  let c := colAt sc.cols p
  if sc.invalidAt p then ⟨none, 0, 0⟩
  else if g.policy = 0 then
    if c.flag = 0 then ⟨some c.code, 0, 0⟩ else ⟨some (127 * c.flag), 1, 0⟩
  else if g.policy = 1 then
    let w : Int := 4 ^ (c.span - g.span)
    if c.flag = 0 then ⟨some (c.code * w), 0, 0⟩ else ⟨some (127 * c.flag * w), 0, 1⟩
  else if c.flag = 0 then ⟨some c.code, 0, 0⟩
  else
    match sc.parts.filter fun t => t.level == 1 with
    | [] => ⟨some (127 * c.flag), 0, 1⟩
    | halves =>
      let vals := halves.map fun t =>
        let quarters := sc.parts.filter fun q => q.level == 2 && decide (t.first ≤ q.first) && decide (q.last ≤ t.last)
        let hc := colAt t.cols p
        if hc.flag = 0 ∨ quarters = [] then partValue hc
        else quarters.foldl (fun acc q => let v := partValue (colAt q.cols p); (acc.1 + v.1, acc.2 + v.2)) ((0 : Int), 0)
      ⟨some (vals.foldl (fun n v => n + v.1) 0), 0, vals.foldl (fun n v => n + v.2) 0⟩

/-- The F16 value of one output column over its sites: (value v, scale word) of each, none invalid (R75). -/
def columnValue (parts : List (Option Int × Nat)) (colScale seed : Nat) : BitVec 16 :=
  if parts.any (fun e => e.1.isNone || a4sInvalid e.2) || s16Invalid colScale then f16Nan seed
  else
    let eg : Nat := parts.foldl (fun m e => max m (e.2 % 256)) 0
    let total := parts.foldl (fun acc e => acc + divRne (e.1.getD 0 * ((8 + field e.2 10 8) * 2 ^ 8 : Nat)) (2 ^ (eg - e.2 % 256))) (0 : Int)
    let p := pow2 ((eg : Int) - 138)
    let cs := s16Value colScale
    f16OfRat (decide (total < 0)) (total * p.1 * cs.1) (p.2 * cs.2)

/-- The 512 results of block `b` (R74, R75, R196). -/
def State.blockValues (s : State) (step : Nat) (g : Group) (b : Nat) : List VCell :=
  let sites := g.sites.filter fun sc => sc.blk == b
  let phys := sites.map fun sc => s.physColumns step sc.array
  (List.range 512).map fun l =>
    let parts := (sites.zip phys).map fun e =>
      (((e.1.resolve g (e.2.getD l l)).value.map fun c => c * 4 ^ g.span), e.1.scale)
    let scale := match sites with
      | [] => 0
      | sc :: _ => s.scales.get 0 (sc.array * 512 + l)
    { bits := columnValue parts scale (s.free + 512 * b + l), poison := false, bad := false }

/-- The counts of a site's columns at delivery: saturated, exhausted, invalid. -/
def State.countSite (s : State) (step : Nat) (g : Group) (sc : SiteConv) : Nat × Nat × Nat :=
  (s.physColumns step sc.array).foldl (fun acc p =>
    let r := sc.resolve g p
    (acc.1 + r.saturated, acc.2.1 + r.exhausted, acc.2.2 + (if r.value.isNone then 1 else 0))) (0, 0, 0)

/-- Whether the array's check weights are enabled (program record flags bit 0, Table 05-7). -/
def State.checkEnabled (s : State) (a : Nat) : Bool := bit (s.recFlags a) 0

/-- The check comparison of one site (R79): none skipped, some (check code, expected code). -/
def State.compared (s : State) (step : Nat) (sc : SiteConv) : Option (Int × Int) :=
  let phys := s.physColumns step sc.array
  let off (c : ColConv) : Bool := c.invalid || c.flag != 0
  if decide (sc.cause ≠ 0) || off (colAt sc.initial 528) || phys.any (fun p => off (colAt sc.initial p)) then none
  else some ((colAt sc.initial 528).code, divRne (phys.foldl (fun n p => n + (colAt sc.initial p).code) 0) 64)

/-- The check comparison of a site and what follows a mismatch (R79, R80). A mismatch carries the array's count of issues as it stands at the
delivery, and the fence window is measured back from the newest issue (DESIGN CHOICE, log 205). -/
def State.checkSite (step : Nat) (g : Group) (sc : SiteConv) (s : State) : State :=
  if !s.checkEnabled sc.array || sc.cause == 1 then s
  else match s.compared step sc with
    | none => s.range g.slot 6 1
    | some (got, want) =>
      if ((got - want).natAbs : Int) ≤ (cfgOf (s.stepRec step).cfg 0x3104 1 0 : Nat) then s
      else
        let log := s.checks.get CheckLog.fresh sc.array
        let s := { s with checks := s.checks.put CheckLog.fresh sc.array { log with mismatches := log.mismatches ++ [log.issues] } }
        s.range g.slot 7 1

/-- The sites of a group whose check comparison mismatches. -/
def State.mismatched (s : State) (step : Nat) (g : Group) : List SiteConv :=
  g.sites.filter fun sc => s.checkEnabled sc.array && sc.cause != 1 && (match s.compared step sc with
    | none => false
    | some (got, want) => decide ((cfgOf (s.stepRec step).cfg 0x3104 1 0 : Nat) < ((got - want).natAbs : Int)))

/-- The sample of a site's reference column A, from which the drift estimate is made (04 R108): code × 4 × full scale and the expected sum × 127 (R81); flagged or invalid ones and those
that expect 0 are discarded. -/
def SiteConv.samples (g : Group) (sc : SiteConv) : List (Nat × Int × Int) :=
  if sc.cause ≠ 0 then []
  else
    let act (r : Nat) : Int := actHalves (bit sc.scale 15) (sc.elems.getD r 0)
    [529].filterMap fun p =>
      let c := colAt sc.initial p
      let want := columnSum4 [] 0 act g.first g.last p
      if c.invalid || c.flag != 0 || want == 0 then none else some (sc.array, c.code * (4 * spanFull g.span : Nat), want * 127)

/-- The output rows of a group enter the accumulator write slots of its window, block by block (R77, R197). -/
def State.writeWindow (h step : Nat) (g : Group) (upset : Option Upset) (s : State) : State :=
  (List.range g.nblk).foldl (fun s b =>
    let vals := s.blockValues step g b
    let vals := match upset with
      | some u => if u.expected ≠ u.found ∧ b = 0 then poisonGroup 0 u.lane.toNat vals else vals
      | none => vals
    ((chunksOf 32 16 vals).zipIdx).foldl (fun s e => s.schedule h (g.window + 8 * b + 2) (.accRow (g.outBase + 16 * b + e.2) e.1 g.cc)) s) s

/-- ACC_DELIVERY (R74 to R81): the oldest group of the bay not yet delivered. Re-issues its budget holds are made first. -/
def execAccDelivery (hh : HearthId) (bay : BitVec 3) (upset : Option Upset) (s : State) : Host.Outcome State Fault Refusal :=
  .next (
    let h := hh.toNat
    let x := s.hearth h
    match x.groups.find? fun g => g.bay == bay.toNat && !g.delivered with
    | none => s
    | some g =>
      let (scs, s) := s.finishSites g g.sites
      let g := { g with sites := scs, delivered := true }
      let s := g.sites.foldl (fun s sc =>
        let n := s.countSite x.step g sc
        ((s.range g.slot 3 n.1).range g.slot 4 n.2.1).range g.slot 5 n.2.2) s
      let bad := s.mismatched x.step g
      let s := g.sites.foldl (fun s sc => s.checkSite x.step g sc) s
      let code (sc : SiteConv) : Nat := match s.compared x.step sc with
        | some (got, want) => ofSigned 8 got * 256 + ofSigned 8 want
        | none => 0
      let s := s.raiseSites h .check code bad
      let s := { s with refSamples := s.refSamples.put [] h (s.refSamples.get [] h ++ g.sites.flatMap (SiteConv.samples g)) }
      let s := match upset with
        | some u => if u.expected = u.found then s else s.raiseResidue (pathUnit 0 h 2 bay.toNat) x.step 0xFFFF 2 u
        | none => s
      let s := (s.writeWindow h x.step g upset).spend (512 * g.nblk)
      (s.modHearth h fun x => { x with groups := x.groups.map fun e => if e.bay = g.bay ∧ e.cc = g.cc then g else e }).toWorking h)

/-! ### Fencing, converters and remap (R80, R84, R85, R523) -/

/-- Mismatches of an array within the fence window of its issues. -/
def CheckLog.recent (window : Nat) (l : CheckLog) : Nat := (l.mismatches.filter fun n => decide (l.issues < n + window)).length

/-- ARRAY_FENCE (R80): the array has reached the check fence count and goes FENCED; the shard fails over at the step's boundary. -/
def execArrayFence (a : ArrayId) (s : State) : Host.Outcome State Fault Refusal :=
  .next (
    let n := a.toNat
    let cfg := (s.stepRec (s.hearth (n / 1024)).step).cfg
    if s.arrayState n = 0 ∧ cfgOf cfg 0x3104 2 0 ≤ (s.checks.get CheckLog.fresh n).recent (cfgOf cfg 0x3104 3 0) ∧
       (s.checks.get CheckLog.fresh n).mismatches ≠ [] then
      (((s.setArrayState n 2).raise { kind := .fence, path := pathSite n, detail := 0, step := (s.hearth (n / 1024)).step }).failOver
        (n / 1024)).settleOff
    else s)

/-- Mark one physical column of a site invalid in its newest conversion. -/
def SiteConv.unsettle (col : Nat) (sc : SiteConv) : SiteConv :=
  let hit (cols : List ColConv) : List ColConv := cols.set col { colAt cols col with code := -128, invalid := true }
  { sc with initial := if sc.reissues = 0 then hit sc.initial else sc.initial, cols := hit sc.cols }

/-- The column a converter converts in a slot (Table 03-2); none: idle. -/
def converterColumn (conv slot : Nat) : Option Nat :=
  if conv < 64 then some (conv + 64 * slot) else if conv = 64 then some (512 + slot) else if conv = 65 then some (520 + slot)
  else if conv = 66 ∧ slot < 3 then some (528 + slot) else none

/-- CONVERTER_SETTLE_FAIL (Table 03-7, R523): the column of that conversion is invalid. Failures in two distinct steps
within 10 s take the converter out of service at the next step boundary. Of the issues that overlap at a site the failure is laid to the
oldest one not delivered, in its newest conversion (DESIGN CHOICE, log 180). -/
def execConverterSettleFail (site : SiteId) (conv : BitVec 7) (slot : BitVec 3) (s : State) : Host.Outcome State Fault Refusal :=
  .next (
    let n := site.toNat
    let h := n / 512
    let x := s.hearth h
    match converterColumn conv.toNat slot.toNat, x.groups.find? (fun g => !g.delivered && g.sites.any fun sc => sc.site == n && sc.cause == 0) with
    | some col, some g =>
      let lower := g.sites.any fun sc => sc.site == n && sc.array % 2 == 1
      let g' := { g with sites := g.sites.map fun sc => if sc.site = n then sc.unsettle col else sc }
      let s := s.modHearth h fun x => { x with groups := x.groups.map fun e => if e.bay = g.bay ∧ e.cc = g.cc then g' else e }
      let s := s.raise { kind := .converter, path := pathColumn (2 * n + (if lower then 1 else 0)) (768 + conv.toNat), detail := 1,
                         step := x.step, pc := 0xFFFF, opcode := 1 }
      let key := n * 128 + conv.toNat
      let log := (s.settleFails.get [] key).filter fun e => decide (s.now ≤ e.2 + 10000000000)
      let again := log.any fun e => e.1 != x.step
      let s := { s with settleFails := s.settleFails.put [] key (log ++ [(x.step, s.now)]) }
      if again && !s.convOut.get false key && !s.convPending.contains key then { s with convPending := s.convPending ++ [key] } else s
    | _, _ => s)

/-- REMAP_WRITE (R82, R84, R85): the firmware remaps a logical column of an array; `inService` gives CAUSE. Steps already
launched keep the table of their launch (R210). For an array that is being steeped the remap waits for its end; for a fault in service of a
COMPLETE array it waits for a level read (05 Table 05-8). -/
def execRemapWrite (a : ArrayId) (col : BitVec 9) (inService : Bool) (s : State) : Host.Outcome State Fault Refusal :=
  .next (
    let n := a.toNat
    let p := physColumn (s.remapTable n) col.toNat
    (s.remapOrWait n p (if inService then 1 else 0)).settleOff)

end Sys2Proof.Machine
end

