-- ==== Sys2Proof/Machine/Calibrate.lean ====
section
/-! DEFINITION. Machine/Calibrate.lean: trims, compensation, calibration runs, the calibration image and the drift estimate
(04_analog_accuracy_calibration.md). -/

namespace Sys2Proof.Machine

/-! ### Trims (R96) -/

/-- Keys of a site's trims: converters 0 to 66, then REF_U and REF_L. -/
def trimKey (site k : Nat) : Nat := site * 72 + k
def refKey (site deck : Nat) : Nat := trimKey site (67 + deck)

def State.setTrim (k v : Nat) (s : State) : State := { s with trims := s.trims.put 0 k v }

/-- A deck reference trim as it stands: the value of the last run and the compensation in force (R98, R105). Past the 12-bit range the trim
saturates, and the codes carry the compensation in full (DESIGN CHOICE, log 207). -/
def State.refNow (s : State) (site deck : Nat) : Nat :=
  ofSigned 12 (clampInt (-2048) 2047 (toSigned 12 (s.trims.get 0 (refKey site deck)) + s.compAt.get 0 site))

/-! ### The status of a hearth (OD 0x2805) -/

/-- Set T_cal, shown in m°C. -/
def State.setTCal (h : Nat) (t : Int) (s : State) : State :=
  (s.setCal h 42 (ofSigned 16 t)).setCal h 0 (ofSigned 32 (divRne (t * 125) 2))

/-- A hearth's run falls due (R100); a trigger during its run is recorded (R104). -/
def State.calDue (h : Nat) (s : State) : State :=
  if s.calState h = 3 then s.setCal h 44 1
  else if s.calState h = 2 then s
  else ((s.setCal h 2 2).setCal h 41 (s.elapsed + 1)).setCal h 43 0

/-! ### Triggers (R100) -/

/-- Whether the temperature trigger holds. -/
def State.tooFar (s : State) (h : Nat) : Bool :=
  s.calValid h && decide (16 * s.od 0x2801 0 0 < (s.calTemp h - s.tCal h).natAbs)

/-- Whether the interval trigger holds. -/
def State.tooOld (s : State) (h : Nat) : Bool :=
  s.calValid h && s.od 0x2803 0 0 != 0 && decide (s.cal h 1 + 1000000000 * s.od 0x2803 0 0 < s.now)

/-- The triggers of Table 04-6 that a round tests, and UNCALIBRATED hearths. A hearth that is OFF falls due as any other, and its run waits for
its return to service. -/
def State.calTriggers (s : State) : State :=
  (List.range 128).foldl (fun s h => if s.tooFar h || s.tooOld h || (!s.calValid h && s.calState h == 0) then s.calDue h else s) s

/-- CALIBRATION_INTERVAL_EXPIRED. -/
def execCalibrationIntervalExpired (h : HearthId) (s : State) : Host.Outcome State Fault Refusal :=
  .next (if s.tooOld h.toNat then s.calDue h.toNat else s)

/-! ### Compensation (R98, R99) -/

/-- The compensation slope of a hearth in 0.0001 %/K (OD 0x1005). -/
def State.compSlope (s : State) (h : Nat) : Int := toSigned 32 (leAt (s.blob 0x1005 0) (4 * h) 4)

/-- Each round sets what the REF trims of HOT (or DAMPED) and KINDLING hearths are to be; none for a hearth whose run is in progress. -/
def State.compensate (s : State) : State :=
  (List.range 128).foldl (fun s h =>
    if 2 ≤ s.power h ∧ s.calState h ≠ 3 ∧ s.calValid h = true then
      let c := if s.od 0x2804 0 0 = 1 then divRne (s.compSlope h * (s.calTemp h - s.tCal h)) 1600 else 0
      { s with compWanted := s.compWanted.put 0 h c }
    else s) s

/-- A group converts or holds reserved intervals at a site. -/
def State.siteBusy (s : State) (site : Nat) : Bool :=
  (s.hearth (site / 512)).groups.any fun g => !g.delivered && g.sites.any fun c => c.site == site

/-- TRIM_UPDATE: between issue groups a site takes the compensation of its hearth. -/
def execTrimUpdate (site : SiteId) (s : State) : Host.Outcome State Fault Refusal :=
  .next (
    let n := site.toNat
    if s.siteBusy n then s else { s with compAt := s.compAt.put 0 n (s.compWanted.get 0 (n / 512)) })

/-! ### Drift (R108, R128) -/

/-- The mean of a list of integers, rounded. -/
def meanOf (l : List Int) : Int := if l.isEmpty then 0 else divRne (l.foldl (· + ·) 0) l.length

/-- The shortfall of the samples of reference column A, per array and then over the arrays, in 10⁻⁸. -/
def shortfall (l : List (Nat × Int × Int)) : Int :=
  let arrays := (l.map (·.1)).eraseDups
  meanOf (arrays.map fun a => meanOf ((l.filter fun e => e.1 == a).map fun e =>
    if e.2.2 < 0 then divRne ((e.2.1 - e.2.2) * 100000000) (-e.2.2).toNat else divRne ((e.2.2 - e.2.1) * 100000000) e.2.2.toNat))

/-- Show a drift since the run and since the last steep (hidden field 40 of OD 0x3110 holds what earlier runs found). -/
def State.setDrift (h : Nat) (d : Int) (s : State) : State :=
  (s.setOd 0x2810 (h + 1) 0 (ofSigned 32 d)).setOd 0x3110 (h + 1) 0 (ofSigned 32 (toSigned 32 (s.od 0x3110 (h + 1) 40) + d))

/-- Whether a drift lies past a limit of OD 0x3111 or 0x3112. -/
def State.driftPast (s : State) (h idx : Nat) : Bool := decide ((s.od idx 0 0 : Int) < toSigned 32 (s.od 0x3110 (h + 1) 0))

/-- The refresh advisory and alarm of a hearth (R128), each raised once; hidden field 41 keeps the alarm. -/
def State.adviseRefresh (h : Nat) (s : State) : State :=
  let s := if s.driftPast h 0x3111 && !s.mask 0x3113 0 h then
      (s.setMask 16 0x3113 0 h true).raise { kind := .refresh, path := pathUnit 0 h 7 0, detail := h } else s
  if s.driftPast h 0x3112 && s.od 0x3110 (h + 1) 41 == 0 then
    (s.setOd 0x3110 (h + 1) 41 1).raise { kind := .refresh, path := pathUnit 0 h 7 0, detail := h, alarm := true }
  else s

/-- The drift estimates follow the accepted samples. With compensation off, the gain error of R90 is the temperature term (DEDUCED). The mean
goes over the arrays that gave a sample since the last round (DESIGN CHOICE, log 209). -/
def State.updateDrift (s : State) : State :=
  let s := (List.range 128).foldl (fun s h =>
    match s.refSamples.get [] h with
    | [] => s
    | l =>
      let temp : Int := if s.od 0x2804 0 0 = 1 then 0 else divRne (150000 * (s.calTemp h - s.tCal h)) 16
      (s.setDrift h (divRne (shortfall l - temp) 1000)).adviseRefresh h) s
  { s with refSamples := [] }

/-- A hearth's drift since its last steep starts at zero again (R129). -/
def State.steepDrift (h : Nat) (s : State) : State :=
  let d := toSigned 32 (s.od 0x2810 (h + 1) 0)
  (((s.setOd 0x3110 (h + 1) 40 (ofSigned 32 (-d))).setOd 0x3110 (h + 1) 0 0).setOd 0x3110 (h + 1) 41 0).setMask 16 0x3113 0 h false

/-! ### Runs (R101 to R104) -/

/-- The part serves: ready, in service under the table, with role SERVING. -/
def State.serves (s : State) : Bool := s.ready && s.inService && s.od 0x4100 1 0 == 1

/-- A BANKED hearth that no step holds and that has not been kindled for the idle window (20 R472). -/
def State.idleHearth (s : State) (h : Nat) : Bool :=
  s.power h == 1 && decide ((s.hearth h).kindleAt * 10 + 1000 * s.od 0x6100 2 0 ≤ s.elapsed) && !s.wantedSoon h

/-- Work on a hearth outside steps may start: the part does not serve, or the hearth lies idle (20 R472). -/
def State.covered (s : State) (h : Nat) : Bool := !s.serves || s.idleHearth h

/-- Cover for a calibration run is in place (R101): the part does not serve, its twin having taken the shard over. Where nothing else can serve
the shard the cover is an admission hold, which shows here as a hearth that lies idle (log 112). -/
def State.calCovered (s : State) (h : Nat) : Bool := !s.serves || (s.onlyLive && s.idleHearth h)

/-- A steep or self-refresh still works on its arrays: the runs of all the hearths that it touches wait for its last array (05 R126, R104). -/
def State.steepBusy (s : State) (h : Nat) : Bool := match s.steep with
  | none => false
  | some j => !j.calFirst.contains h && j.named.any (fun a => a / 1024 == h) && j.named.any fun a => !j.ended a

/-- The hearths whose run may start now: none that a step uses (R101), none while an image waits to be applied (R106). -/
def State.runnable (s : State) : List Nat :=
  (List.range 128).filter fun h => s.calState h == 2 && s.power h != 0 && s.testing.get 0 h == 0 && !s.steepBusy h && s.calCovered h &&
    !s.heldByStep h && s.calImage == []

/-- Kindle the BANKED hearths of a list. -/
def State.kindleThese (l : List Nat) (s : State) : State :=
  (l.filter fun h => s.power h == 1).foldl (fun s h => s.kindleHearth h) s

/-- The next group of a run, up to 16 hearths, or the end of the run. -/
def State.nextGroup (r : CalRun) (s : State) : State :=
  match r.waiting with
  | [] => { s with calRun := none }
  | l => { s with calRun := some { r with group := l.take 16, waiting := l.drop 16, phase := 0 } }.kindleThese (l.take 16)

/-- CALIBRATION_RUN_START: every due hearth that has cover; with CALIB clear none starts (07 Table 07-8). -/
def execCalibrationRunStart (s : State) : Host.Outcome State Fault Refusal :=
  .next (
    let l := s.runnable
    if !s.enabled 13 || !s.mainUp || s.calRun.isSome || l.isEmpty then s
    else
      let s := l.foldl (fun s h => (s.setCal h 2 3).setCal h 44 0) s
      s.nextGroup { waiting := l, group := [], master := false, phase := 0 })

def State.calRecord (h : Nat) (alarm : Bool) (s : State) : State :=
  s.raise { kind := .calibration, path := pathUnit 0 h 7 0, detail := h, alarm := alarm }

/-- CALIBRATION_MASTER_DONE: the REXT measurement, the master trim and the reference trims of the run's hearths. More than 2 % off fails the
whole run: trims and states stay, and an alarm is raised (R103), which names the first hearth of the run (DESIGN CHOICE, log 208). -/
def execCalibrationMasterDone (rextPpm : Int) (masterTrim : BitVec 32) (hearthTrims : List (HearthId × BitVec 16)) (s : State) :
    Host.Outcome State Fault Refusal :=
  .next (
    match s.calRun with
    | none => s
    | some r =>
      if r.master then s
      else
        let l := r.group ++ r.waiting
        let s := s.setOd 0x2809 0 0 (ofSigned 32 rextPpm)
        if 20000 < rextPpm.natAbs then
          let s := l.foldl (fun s h => s.setCal h 2 2) { s with calRun := none }
          s.calRecord (l.headD 0) true
        else
          let mine := hearthTrims.filter fun e => l.contains e.1.toNat
          { s with calRun := some { r with master := true }, masterTrim := masterTrim.toNat,
                   hearthTrim := mine.foldl (fun m e => m.put 0 e.1.toNat e.2.toNat) s.hearthTrim })

/-- One trim value that a phase asks for: set where it lies in its range, else the converter goes out of service or the deck's array is
FENCED and the shard fails over, as in R80 (R103). -/
def State.takeTrim (phase : CalPhase) (f : TrimFound) (s : State) : State :=
  let site := f.site.toNat
  let k := trimKey site f.conv.toNat
  let deck := if f.lower then 1 else 0
  match phase with
  | .offset =>
    if f.conv.toNat < 67 then
      if -32 ≤ f.value ∧ f.value ≤ 31 then s.setTrim k (s.trims.get 0 k / 256 * 256 + ofSigned 6 f.value) else s.dropConverter site f.conv.toNat
    else s
  | .gain =>
    if f.conv.toNat < 67 then
      if -128 ≤ f.value ∧ f.value ≤ 127 then s.setTrim k (ofSigned 8 f.value * 256 + s.trims.get 0 k % 64) else s.dropConverter site f.conv.toNat
    else s
  | .deckRef =>
    if -2048 ≤ f.value ∧ f.value ≤ 2047 then s.setTrim (refKey site deck) (ofSigned 12 f.value)
    else
      let a := 2 * site + deck
      if s.arrayState a = 3 then s else (((s.setArrayState a 2).raise { kind := .fence, path := pathSite a, detail := 0 }).failOver (a / 1024)).settleOff

def calOrder : CalPhase → Nat
  | .offset => 0
  | .gain => 1
  | .deckRef => 2

/-- CALIBRATION_PHASE_DONE: a phase of the group ends with the trims it found; T_cal is recorded at the end of the last. -/
def execCalibrationPhaseDone (phase : CalPhase) (found : List TrimFound) (s : State) : Host.Outcome State Fault Refusal :=
  .next (
    match s.calRun with
    | none => s
    | some r =>
      if !r.master || r.phase != calOrder phase then s
      else
        let s := (found.filter fun f => r.group.contains (f.site.toNat / 512)).foldl (fun s f => s.takeTrim phase f) s
        let s := if phase = .deckRef then r.group.foldl (fun s h => s.setTCal h (s.calTemp h)) s else s
        { s with calRun := some { r with phase := r.phase + 1 } })

/-- The steep count of a site: the wear counts of its two decks (05 R127). -/
def State.steepSerial (s : State) (site : Nat) : Nat := (s.recWear (2 * site) + s.recWear (2 * site + 1)) % 65536

/-- A hearth is VALID: its trims belong to its cells as they are, compensation and drift estimate start at zero; after an image restore too,
with the reference samples dropped (DESIGN CHOICE, log 187: R108 names the end of a run only). -/
def State.calDone (h : Nat) (s : State) : State :=
  let sites := (List.range 512).map (512 * h + ·)
  let s := { s with compWanted := s.compWanted.put 0 h 0, compAt := sites.foldl (fun m n => m.put 0 n 0) s.compAt,
                    calSerial := sites.foldl (fun m n => m.put 0 n (s.steepSerial n)) s.calSerial,
                    refSamples := s.refSamples.put [] h [] }
  let total := toSigned 32 (s.od 0x3110 (h + 1) 0)
  let s := (s.setOd 0x3110 (h + 1) 40 (ofSigned 32 total)).setDrift h 0
  let again := s.cal h 44 == 1 && s.tooFar h
  let s := (((s.setCal h 40 1).setCal h 2 1).setCal h 41 0).setCal h 44 0
  if again then s.calDue h else s

/-- A part that left a LOCKSTEP entry under cover joins it again when its tests and runs are done (R101; 20 R473). -/
def State.endCover (s : State) : State :=
  if s.coveredAway && s.calRun.isNone && !(List.range 128).any s.workDue then
    { s with coveredAway := false }.sendJoin (s.ownIndex.getD 0xFFFF)
  else s

/-- A steep whose runs are all complete reports DONE (05 R126), with the first outcome that concerned one array only. -/
def State.settleSteep (s : State) : State :=
  match s.steep with
  | none => s
  | some j =>
    let touched := (j.arrays.map fun a => a.array / 1024).eraseDups
    let open_ (h : Nat) : Bool := s.power h != 0 && (s.calState h == 2 || s.calState h == 3)
    if s.od 0x5025 0 0 ≠ 4 ∨ touched.any open_ = true then s
    else
      let s := ((s.setOd 0x5025 0 0 5).setOd 0x5025 0 1 j.worst).setOd 0x5025 0 7 ((s.elapsed - j.startAt) / 1000)
      { s with steep := none, staging := (0, 0) }.endCommand 0x5020 0 0 |>.raise { kind := .steep, path := pathDie 0 0, detail := j.worst }

/-- CALIBRATION_GROUP_DONE: the group's hearths are VALID, and the next group starts. -/
def execCalibrationGroupDone (s : State) : Host.Outcome State Fault Refusal :=
  .next (
    match s.calRun with
    | none => s
    | some r =>
      if r.phase ≠ 3 then s
      else
        let s := r.group.foldl (fun s h => ((s.setCal h 1 s.now).bump 0x2805 (h + 1) 3 1).calDone h) s
        let s := (s.nextGroup r).endCover
        let first (j : SteepJob) : SteepJob := { j with calFirst := j.calFirst.filter fun h => !r.group.contains h }
        { s with steep := s.steep.map first }.settleSteep)

/-- CALIBRATION_COVER_GRACE_EXPIRED: no cover within OD 0x2802 of the run falling due (R104). -/
def execCalibrationCoverGraceExpired (h : HearthId) (s : State) : Host.Outcome State Fault Refusal :=
  .next (
    let n := h.toNat
    if s.calState n = 2 ∧ s.cal n 43 = 0 ∧ s.cal n 41 + 1000000 * s.od 0x2802 0 0 ≤ s.elapsed then (s.setCal n 43 1).calRecord n true else s)

/-! ### Commands (OD 0x2800.01) -/

def State.applyCalibrate (l : List Nat) (s : State) : Nat × State :=
  if s.calRun.isSome then refuse codeBusy s else (0, l.foldl (fun s h => s.calDue h) s)

/-- CALIBRATE_MASKED (0x01): the hearths of OD 0x2800.02. -/
def execCalibrateMasked (rq : Requester) (s : State) : Host.Outcome State Fault Refusal :=
  .next (s.access rq .command 0x2800 1 [1] (State.applyCalibrate ((List.range 128).filter (s.mask 0x2800 2))))

/-- CALIBRATE_ALL (0x02). -/
def execCalibrateAll (rq : Requester) (s : State) : Host.Outcome State Fault Refusal :=
  .next (s.access rq .command 0x2800 1 [2] (State.applyCalibrate (List.range 128)))

/-! ### The calibration image (R105 to R107) -/

def calImageSize : Nat := 9441344
def blockAt (h : Nat) : Nat := 64 + 73760 * h

/-- A part's serial (OD 0x1000). -/
def State.serial (s : State) : Nat := s.od 0x1000 0 0

/-- Bytes with their CRC-32 behind them. -/
def sealed (b : List Byte) : List Byte := b ++ leBytes 4 (crc32 b)

def isSealed (b : List Byte) : Bool := leAt b (b.length - 4) 4 == crc32 (b.take (b.length - 4))

/-- A site record (Table 04-11). -/
def State.siteRecord (s : State) (site : Nat) : List Byte :=
  sealed (leBytes 2 (s.refNow site 0) ++ leBytes 2 (s.refNow site 1) ++ ((List.range 67).flatMap fun c => leBytes 2 (s.trims.get 0 (trimKey site c))) ++
    leBytes 2 (s.calSerial.get 0 site))

/-- A hearth header (Table 04-10). -/
def State.calHearth (s : State) (h : Nat) : List Byte :=
  sealed (leBytes 2 (s.cal h 42) ++ leBytes 1 (flagNat (s.calValid h)) ++ leBytes 1 0 ++ leBytes 2 (s.hearthTrim.get 0 h) ++ leBytes 2 0 ++
    leBytes 8 (s.cal h 1) ++ List.replicate 12 0)

/-- What a read of OD 0x2808 returns. -/
def State.calBytes (s : State) : List Byte :=
  let head := sealed (leBytes 2 1 ++ leBytes 2 128 ++ leBytes 2 512 ++ leBytes 2 144 ++ leBytes 8 s.serial ++ leBytes 8 s.now ++
    leBytes 4 s.masterTrim ++ leBytes 4 (s.od 0x2809 0 0) ++ List.replicate 28 0)
  head ++ (List.range 128).flatMap fun h => s.calHearth h ++ (List.range 512).flatMap fun i => s.siteRecord (512 * h + i)

/-- R107, step 1. -/
def State.calHeaderGood (s : State) (img : List Byte) : Bool :=
  img.length == calImageSize && isSealed (img.take 64) && leAt img 0 2 == 1 && leAt img 2 2 == 128 && leAt img 4 2 == 512 && leAt img 6 2 == 144 &&
    leAt img 8 8 == s.serial

/-- A second image while one waits to be applied is refused BUSY (DESIGN CHOICE, log 188). -/
def State.applyCalImage (img : List Byte) (s : State) : Nat × State :=
  if s.ready && s.od 0x4100 1 0 != 3 then refuse codeState s
  else if s.calRun.isSome || s.steep.isSome || s.calImage != [] then refuse codeBusy s
  else if !s.calHeaderGood img then refuse codeFormat s
  else (0, { s with calImage := img })

/-- CALIBRATION_IMAGE_WRITE (OD 0x2808). -/
def execCalibrationImageWrite (rq : Requester) (img : List Byte) (s : State) : Host.Outcome State Fault Refusal :=
  .next (s.access rq .write 0x2808 0 img (State.applyCalImage img))

/-- One hearth of an image: its trims where every check passes and every steep serial is the site's own, else a run falls due. Reserved
bits are ignored (R12). The image's REF trims, which hold the compensation of the moment of the read, are taken as those of the last run: the
base from which later rounds compensate (DESIGN CHOICE, log 186). -/
def State.restoreHearth (img : List Byte) (h : Nat) (s : State) : State :=
  let b := slice (blockAt h) 73760 img
  let site (i : Nat) : List Byte := slice (32 + 144 * i) 144 b
  let good := isSealed (b.take 32) && leAt b 2 1 == 1 &&
    (List.range 512).all fun i => isSealed (site i) && leAt (site i) 138 2 == s.steepSerial (512 * h + i)
  if !good then s.calDue h
  else
    let s := (List.range 512).foldl (fun s i =>
      let n := 512 * h + i
      let s := (List.range 67).foldl (fun s c => s.setTrim (trimKey n c) (Nat.land (leAt (site i) (4 + 2 * c) 2) 0xFF3F)) s
      (s.setTrim (refKey n 0) (leAt (site i) 0 2 % 4096)).setTrim (refKey n 1) (leAt (site i) 2 2 % 4096)) s
    let s := { s with hearthTrim := s.hearthTrim.put 0 h (leAt b 4 2) }
    ((s.setTCal h (toSigned 16 (leAt b 0 2))).setCal h 1 (leAt b 8 8)).calDone h

/-- CALIBRATION_IMAGE_APPLIED: every hearth of the accepted image, then the triggers of Table 04-6. -/
def execCalibrationImageApplied (s : State) : Host.Outcome State Fault Refusal :=
  .next (
    let img := s.calImage
    if img = [] then s
    else
      let s := { s with calImage := [], masterTrim := leAt img 24 4 }
      ((List.range 128).foldl (fun s h => s.restoreHearth img h) s).calTriggers)

end Sys2Proof.Machine
end

