-- ==== Sys2Proof/Machine/Steep.lean ====
section
/-! DEFINITION. Machine/Steep.lean: steep images, loading, programming, self-refresh and the integrity check at start-up
(05_steeping.md). -/

namespace Sys2Proof.Machine

/-! ### The image (R110 to R112) -/

def imgFlags (b : List Byte) : Nat := leAt b 2 2
def imgEncrypted (b : List Byte) : Bool := bit (imgFlags b) 0
def imgId (b : List Byte) : Nat := leAt b 8 8
def imgChunks (b : List Byte) : Nat := leAt b 16 4
def imgLayers (b : List Byte) : Nat := leAt b 20 2
def imgRecipients (b : List Byte) : Nat := leAt b 22 2
def manifestAt (b : List Byte) : Nat := 256 + 48 * imgRecipients b
def signatureAt (b : List Byte) : Nat := manifestAt b + 16 * imgLayers b + 72 * imgChunks b
def firstChunkAt (b : List Byte) : Nat := ceilDiv (signatureAt b + 132) 4096 * 4096

/-- A layer entry: layer, generation, predecessor. -/
def layerEntries (b : List Byte) : List (Nat × Nat × Nat) :=
  (List.range (imgLayers b)).map fun i =>
    let o := manifestAt b + 16 * i
    (leAt b o 2, leAt b (o + 4) 4, leAt b (o + 8) 4)

/-- A chunk entry (Table 05-4). -/
structure ChunkEntry where
  array : Nat
  layer : Nat
  format : Nat
  flags : Nat
  digest : List Byte
deriving DecidableEq, Repr

def chunkEntry (b : List Byte) (i : Nat) : ChunkEntry :=
  let o := manifestAt b + 16 * imgLayers b + 72 * i
  { array := leAt b o 4, layer := leAt b (o + 4) 2, format := leAt b (o + 6) 1, flags := leAt b (o + 7) 1, digest := slice (o + 8) 64 b }

def chunkEntries (b : List Byte) : List ChunkEntry := (List.range (imgChunks b)).map (chunkEntry b)

/-- Step 1 of R112: version, counts and offsets. A layer entry's own chunk count and its generation are not checked (DESIGN CHOICE, log 211). -/
def headGood (b : List Byte) : Bool :=
  decide (256 ≤ b.length) && leAt b 0 2 == 1 && decide (1 ≤ imgChunks b) && decide (imgChunks b ≤ 131072) && decide (1 ≤ imgLayers b) &&
  decide (imgLayers b ≤ 1024) && decide (imgRecipients b ≤ 64) && (imgEncrypted b || imgRecipients b == 0) && leAt b 24 8 == manifestAt b &&
  leAt b 32 8 == signatureAt b - manifestAt b && leAt b 40 8 == signatureAt b && leAt b 48 8 == firstChunkAt b &&
  b.length == signatureAt b + 132

/-- The statement stored in a publisher slot (21 R488); slot n is subindex n + 1 (18 R432). -/
def State.publisher (s : State) (slot : Nat) : List Byte := leBytes 300 (s.od 0x5010 (slot + 1) 0)

/-- Steps 2 and 3 of R112, and the steep counter (21 R492). -/
def State.signatureGood (s : State) (b : List Byte) : Bool :=
  let slot := leAt b 4 1
  let key := s.publisher slot
  decide (slot < 16) && leAt key 0 1 == 1 && Config.ecdsaVerifies (slice 32 133 key) (b.take (signatureAt b)) (slice (signatureAt b) 132 b) &&
    (layerEntries b).all fun e => decide (s.od 0x7002 0 2 ≤ e.2.1)

/-- The wrapped key of this part's recipient entry (R114). -/
def State.recipient (s : State) (b : List Byte) : Option (List Byte) :=
  ((List.range (imgRecipients b)).find? fun i => leAt b (256 + 48 * i) 8 == s.serial).map fun i => slice (264 + 48 * i) 40 b

/-! ### Chunks (R111, R113, R114) -/

/-- Whether a weight code is legal for a format, pad bits included. -/
def codeLegal (format c : Nat) : Bool :=
  if format < 2 then c != 8 else if format = 2 then c != 4 && decide (c < 8) else c != 2 && decide (c < 4)

/-- Nibble `l` of a row record. -/
def rowCode (row : List Byte) (l : Nat) : Nat := leAt row (l / 2) 1 / 16 ^ (l % 2) % 16

def rowsOf (plane : List Byte) : List (List Byte) := (List.range 1024).map fun r => slice (257 * r) 257 plane

def rowLegal (format : Nat) (check : Bool) (row : List Byte) : Bool :=
  ((List.range 512).all fun l => codeLegal format (rowCode row l)) &&
    (let k := leAt row 256 1; decide (k < 16) && k != 8 && (check || k == 0))

/-- What a chunk's checks find (R113): its rows and scales, or outcome 4 (digest, tag) or 3 (header, content). -/
def chunkContents (head : List Byte) (key : Option (List Byte)) (i : Nat) (c : List Byte) : Except Nat (List (List Byte) × List Byte) :=
  let e := chunkEntry head i
  let gen := ((layerEntries head).find? fun l => l.1 == e.layer).map (·.2.1)
  if c.length ≠ chunkSize ∨ Config.sha512 c ≠ e.digest then .error 4
  else if leAt c 0 4 ≠ e.array ∨ leAt c 4 1 ≠ e.format ∨ bit (leAt c 5 1) 0 ≠ bit e.flags 0 ∨ bit (leAt c 5 1) 1 ≠ imgEncrypted head ∨
      leAt c 6 2 ≠ e.layer ∨ some (leAt c 8 4) ≠ gen ∨ leAt c 12 4 ≠ i ∨ leAt c 16 8 ≠ imgId head ∨ 3 < e.format then .error 3
  else
    let body := if imgEncrypted head then Config.aesGcmOpen (key.getD []) (imgId head * 2 ^ 32 + i) (c.take 64) (c.drop 64)
      else some (slice 64 264192 c)
    match body with
    | none => .error 4
    | some p =>
      let rows := rowsOf p
      if p.length = 264192 ∧ rows.all (rowLegal e.format (bit e.flags 0)) = true then .ok (rows, slice 263168 1024 p) else .error 3

/-! ### The job -/

def State.modSteep (f : SteepJob → SteepJob) (s : State) : State := { s with steep := s.steep.map f }

def State.modArray (a : Nat) (f : SteepArray → SteepArray) (s : State) : State :=
  s.modSteep fun j => { j with arrays := j.arrays.map fun x => if x.array = a then f x else x }

def State.steepArray (s : State) (a : Nat) : Option SteepArray := s.steep.bind fun j => j.arrays.find? fun x => x.array == a

/-- The bus address of an image offset, and how many bytes of its list entry follow it. -/
def busOf : List (Nat × Nat) → Nat → Option (Nat × Nat)
  | [], _ => none
  | (a, n) :: l, off => if off < n then some (a + off, n - off) else busOf l (off - n)

/-- Read on from host memory (R115, R117): one read of at most 4,096 bytes at a time, none while staging is full. -/
def State.readOn (s : State) : State :=
  match s.steep with
  | none => s
  | some j =>
    let waits := s.reads.any fun r => match r.why with
      | .image _ => true
      | _ => false
    match j.todo with
    | [] => s
    | (off, len) :: rest =>
      if j.kind ≠ 1 ∨ waits = true ∨ s.stagingFull j = true then s
      else match busOf j.scatter off with
        | none => s.modSteep fun j => { j with todo := rest }
        | some (addr, room) =>
          let n := min 4096 (min len room)
          (s.modSteep fun j => { j with todo := if n < len then (off + n, len - n) :: rest else rest }).hostRead j.port addr n (.image off)

/-- The result word of a command whose steep failed (18 R435). -/
def steepResult (outcome : Nat) : Nat := if outcome ≤ 4 then codeFormat else if outcome = 5 ∨ outcome = 8 then codeResource else codeState

/-- A steep ends with a failure (R131, R132): arrays that are programming stop and are FENCED, layers that are not complete hold no
valid generation, staging is returned and the content key forgotten. -/
def State.steepFails (outcome : Nat) (s : State) : State :=
  match s.steep with
  | none => s
  | some j =>
    let s := (j.arrays.filter fun a => 1 ≤ a.phase ∧ a.phase ≤ 4).foldl (fun s a => if s.arrayState a.array = 3 then s else s.setArrayState a.array 2) s
    let layers := if j.kind = 3 then (j.arrays.map (·.layer)).eraseDups else if j.verified then (layerEntries j.head).map (·.1) else []
    let s := layers.foldl (fun s l => if (s.layerNow l).2.2 = 1 then s else { s with layerImage := s.layerImage.put (0, 0, []) l (0, 0, []) }) s
    let s := ((s.setOd 0x5025 0 0 6).setOd 0x5025 0 1 outcome).setOd 0x5025 0 7 ((s.elapsed - j.startAt) / 1000)
    let keep (r : HostRead) : Bool := match r.why with
      | .image _ | .scatter => false
      | _ => true
    let s := ({ s with steep := none, staging := (0, 0), reads := s.reads.filter keep }.endCommand 0x5020 0 (steepResult outcome)).refreshStage
    s.raise { kind := .steep, path := pathDie 0 0, detail := outcome }

/-- The state field of OD 0x5025 and its counts follow the arrays; when all have ended the touched hearths calibrate (R126). -/
def State.steepProgress (s : State) : State :=
  match s.steep with
  | none => s
  | some j =>
    let loaded := j.kind == 3 || decide (j.got.length = imgChunks j.head)
    let at_ (p : Nat → Bool) : Bool := j.arrays.any fun a => p a.phase
    let s := ((s.setOd 0x5025 0 3 j.got.length).setOd 0x5025 0 7 ((s.elapsed - j.startAt) / 1000))
    if !j.verified || !loaded || at_ (fun p => p == 0 || p == 1 || p == 6) then s
    else if at_ (· != 5) then s.setOd 0x5025 0 0 3
    else (((j.arrays.map fun a => a.array / 1024).eraseDups).foldl (fun s h => s.calDue h) (s.setOd 0x5025 0 0 4)).settleSteep

/-- The outcome of one array: counted, and the steep goes on (R132). The failing array of OD 0x5025 is the last of these; a failure that ends
the steep names none (DESIGN CHOICE, log 210). -/
def State.arrayOutcome (a outcome : Nat) (s : State) : State :=
  (s.modSteep fun j => { j with worst := if j.worst = 0 then outcome else j.worst }).setOd 0x5025 0 8 a

/-! ### Commands (OD 0x5020) -/

/-- Frames for staging: M0 first (the split is the model's choice). -/
def State.reserveStaging (s : State) : Option (Nat × Nat) :=
  let n := s.od 0x5026 0 0 * 128
  let a := min n (s.freeIn 0)
  if n - a ≤ s.freeIn 1 then some (a, n - a) else none

/-- A steep begins: its status and the command that runs. -/
def State.beginSteep (kind : Nat) (port : HostPort) (s : State) : State :=
  let j : SteepJob := { kind := kind, startAt := s.elapsed, verified := false, port := port, scatter := [], todo := [], source := s.od 0x5023 0 0,
                        image := s.od 0x5023 0 1, head := [], key := none, got := [], again := [], arrays := [], named := [], held := [], lastAt := s.elapsed,
                        calFirst := [], worst := 0 }
  let s := (List.range 9).foldl (fun s f => s.setOd 0x5025 0 f 0) s
  { (s.setOd 0x5025 0 0 1).setOd 0x5020 0 cmdState 1 with steep := some j }

def State.applySteep (kind : Nat) (port : HostPort) (s : State) : Nat × State :=
  if s.islandLost then refuse islandLostReason s
  else if s.steep.isSome then refuse codeBusy s
  else match s.reserveStaging with
    | none => refuse codeResource s
    | some f => (0, { s.beginSteep kind port with staging := f }.relieve)

def State.applyHostSteep (rq : Requester) (s : State) : Nat × State :=
  let n := s.od 0x5022 0 0
  let port := if rq = .hostB then HostPort.b else HostPort.a
  if rq = .sideBand then refuse codeAccess s
  else if n = 0 ∨ 4096 < n then refuse codeFormat s
  else
    let (c, s) := s.applySteep 1 port
    if c ≠ 0 then (c, s) else (0, s.hostRead port (s.od 0x5021 0 0) (16 * n) .scatter)

/-- STEEP_HOST_DMA (0x01). -/
def execSteepHostDma (rq : Requester) (s : State) : Host.Outcome State Fault Refusal :=
  .next (s.access rq .command 0x5020 0 [1] (State.applyHostSteep rq))

/-- STEEP_FABRIC (0x02). -/
def execSteepFabric (rq : Requester) (s : State) : Host.Outcome State Fault Refusal :=
  .next (s.access rq .command 0x5020 0 [2] (State.applySteep 2 .a))

/-- The scatter list has been read (R115): addresses, and lengths of which every one but the last is a multiple of 4,096. -/
def State.takeScatter (data : List Byte) (s : State) : State :=
  let l := (List.range (data.length / 16)).map fun i => (leAt data (16 * i) 8, leAt data (16 * i + 8) 8)
  if l.dropLast.any fun e => e.2 % 4096 != 0 then s.steepFails 3
  else (s.modSteep fun j => { j with scatter := l, todo := [(0, (l.map (·.2)).sum)] }).readOn

/-- The stage generation is that of the pointer, and the twin holds another: every step of new requests runs here (06 R145, Table 06-4). -/
def State.onlyHolder (s : State) : Bool :=
  s.twin.isSome && s.od 0x5003 0 0 != 0 && s.od 0x5003 0 0 == s.currentGen && s.twinGen.1 != s.od 0x5003 0 0

/-- The stage generation is retired and its last step here is over: the part counts as drained (06 R150). -/
def State.retiredHere (s : State) : Bool :=
  s.retiredGens.contains (s.od 0x5003 0 0) && !s.steps.any fun e => match e.2 with
    | some r => (r.phase == .waiting || r.phase == .running || r.phase == .halted || r.phase == .failed) && r.gen == s.od 0x5003 0 0
    | none => false

/-- A steep is allowed (R118): the part is not ready to serve, or its role is drained or standby, or the barrier is HELD, or its generation is
retired. A standby that alone holds the pointer's generation serves its steps (06 R155). A spare assigned to an entry is steeped too
(15 R380). -/
def State.steepState (s : State) : Bool :=
  !s.ready || s.assigned.isSome || s.od 0x4100 1 0 == 3 || s.od 0x4100 1 0 == 2 && !s.onlyHolder || s.od 0x5005 0 0 == 2 || s.retiredHere

/-- The arrays named are in use, RETIRED or named twice (R118): the outcome, 0 where the steep may go on. -/
def State.steepRefusal (s : State) (arrays : List Nat) : Nat :=
  if !s.steepState then 6
  else if arrays.any fun a => s.arrayState a == 3 then 7
  else if arrays.eraseDups.length ≠ arrays.length ∨ arrays.any (fun a => decide (131072 ≤ a)) = true then 3
  else 0

/-- The hearths of some arrays are kindled and kept HOT (R119). -/
def State.heat (arrays : List Nat) (s : State) : State :=
  let l := (arrays.map (· / 1024)).eraseDups
  let first := l.filter fun h => s.calState h == 2 || s.calState h == 3
  (s.modSteep fun j => { j with verified := true, named := arrays, calFirst := first, lastAt := s.elapsed }).kindleThese l

/-- Every layer of an accepted image holds no valid generation until each array that the image names for it holds a COMPLETE record of the
image's generation (R126). -/
def State.nameLayers (head : List Byte) (s : State) : State :=
  let named (l : Nat) : List Nat := ((chunkEntries head).filter fun e => e.layer == l).map (·.array)
  { s with layerImage := (layerEntries head).foldl (fun m (e : Nat × Nat × Nat) => m.put (0, 0, []) e.1 (e.2.1, e.2.2, named e.1)) s.layerImage }.refreshStage

/-- The checks of an image's head have passed and its key is at hand: chunks are accepted. -/
def State.openLoading (s : State) : State :=
  match s.steep with
  | none => s
  | some j =>
    let arrays := (chunkEntries j.head).map (·.array)
    let bad := s.steepRefusal arrays
    if bad ≠ 0 then s.steepFails bad
    else ((((s.setOd 0x5025 0 0 2).setOd 0x5025 0 2 arrays.length).nameLayers j.head).heat arrays).readOn

/-- STEEP_SIGNATURE_VERIFY: the image's head, up to its signature, has arrived. -/
def execSteepSignatureVerify (head : List Byte) (s : State) : Host.Outcome State Fault Refusal :=
  .next (
    match s.steep with
    | none => s
    | some j =>
      if j.kind = 3 ∨ j.verified = true ∨ j.head ≠ [] then s
      else if !headGood head || (j.kind == 2 && imgId head != j.image) then s.steepFails 3
      else if !s.signatureGood head then s.steepFails 1
      else
        let s := s.modSteep fun j => { j with head := head, lastAt := s.elapsed }
        if !imgEncrypted head then s.openLoading
        else match s.recipient head with
          | none => s.steepFails 2
          | some w => s.sendToIsland false 8 0 (slice 56 133 head ++ leBytes 8 (imgId head) ++ leBytes 8 s.serial ++ w))

/-- The island's answer to KEY_OP (21 R487): the content key, or none. -/
def State.takeKey (key : Option (List Byte)) (s : State) : State :=
  match s.steep with
  | none => s
  | some j =>
    if j.head = [] ∨ j.verified = true ∨ imgEncrypted j.head = false then s
    else match key with
      | none => s.steepFails 2
      | some k => (s.modSteep fun j => { j with key := some k }).openLoading

/-- A chunk that failed is asked for once more (R116, R115): by REPAIR to the source, or read again. -/
def State.askAgain (i : Nat) (j : SteepJob) (s : State) : State :=
  let s := s.modSteep fun j => { j with again := j.again ++ [i] }
  if j.kind = 2 then (s.send { kind := 6, cls := 0, targets := [j.source], payload := leBytes 8 j.image ++ leBytes 4 i ++ leBytes 4 0 }).2
  else (s.modSteep fun j => { j with todo := (firstChunkAt j.head + chunkSize * i, chunkSize) :: j.todo }).readOn

/-- A chunk is digested, compared, decrypted and checked; a duplicate is discarded. The second failure of a chunk ends the steep: DIGEST, but
FORMAT over host DMA where the header or content of a chunk as published is wrong. One that finds staging full, sent on credit already given,
is held until there is room (R117). -/
def State.takeChunk (i : Nat) (bytes : List Byte) (s : State) : State :=
  match s.steep with
  | none => s
  | some j =>
    if j.kind = 3 ∨ j.verified = false ∨ imgChunks j.head ≤ i ∨ j.got.contains i = true then s
    else if s.stagingFull j then
      (if j.held.any (fun e => e.1 == i) then s else s.modSteep fun j => { j with held := j.held ++ [(i, bytes)] })
    else
      let s := s.modSteep fun j => { j with lastAt := s.elapsed, held := j.held.filter fun e => e.1 != i }
      match chunkContents j.head j.key i bytes with
      | .error e =>
        if j.kind = 1 ∧ e = 3 then s.steepFails 3
        else if j.again.contains i then s.steepFails 4
        else s.askAgain i j
      | .ok (rows, scales) =>
        let e := chunkEntry j.head i
        let gen := (((layerEntries j.head).find? fun l => l.1 == e.layer).map (·.2.1)).getD 0
        let x : SteepArray := { array := e.array, chunk := i, layer := e.layer, gen := gen, format := e.format, flags := e.flags % 2,
                                rows := rows, scales := scales, phase := 0, row := 0, iter := 0, failed := [] }
        (s.modSteep fun j => { j with got := j.got ++ [i], arrays := j.arrays ++ [x] }).steepProgress.readOn

/-- STEEP_CHUNK_ARRIVAL. -/
def execSteepChunkArrival (index : BitVec 32) (bytes : List Byte) (s : State) : Host.Outcome State Fault Refusal :=
  .next (s.takeChunk index.toNat bytes)

/-- Staging that was full has room: the 100 ms of R117 count from now, the chunk held longest is taken, and reading goes on. -/
def State.stagingRoom (was : Bool) (s : State) : State :=
  match s.steep with
  | none => s
  | some j =>
    let s := if was && !s.stagingFull j then s.modSteep fun j => { j with lastAt := s.elapsed } else s
    match j.held with
    | [] => s.readOn
    | (i, bytes) :: _ => (s.takeChunk i bytes).readOn

/-- STEEP_SOURCE_TIMEOUT: 100 ms with staging not full and no chunk, or no head of an image (R117). -/
def execSteepSourceTimeout (s : State) : Host.Outcome State Fault Refusal :=
  .next (
    match s.steep with
    | none => s
    | some j =>
      let loading := j.kind != 3 && (!j.verified || decide (j.got.length < imgChunks j.head))
      if loading && !s.stagingFull j && decide (j.lastAt + 100000000 ≤ s.elapsed) then s.steepFails 5 else s)

/-- REPAIR: a part asks for a chunk again; this part can send it where it holds the chunk in staging (DEDUCED). -/
def execRepair (src : BitVec 16) (image : BitVec 64) (chunk : BitVec 32) (s : State) : Host.Outcome State Fault Refusal :=
  .next (
    match s.steep with
    | none => s
    | some j =>
      if imgId j.head ≠ image.toNat ∨ imgEncrypted j.head = true then s
      else match j.arrays.find? fun a => a.chunk == chunk.toNat && a.phase ≤ 1 with
        | none => s
        | some a =>
          let head := leBytes 4 a.array ++ leBytes 1 a.format ++ leBytes 1 a.flags ++ leBytes 2 a.layer ++ leBytes 4 a.gen ++ leBytes 4 a.chunk ++
            leBytes 8 image.toNat ++ List.replicate 40 0
          (s.send { kind := 5, cls := 2, targets := [65536 * (s.endpoint / 65536) + src.toNat],
                    payload := head ++ a.rows.flatten ++ a.scales ++ List.replicate 16 0 }).2)

/-! ### Programming (R119 to R125) -/

/-- The steep concurrency in force: OD 0x5027 under the damper's ceiling (19 Table 19-7). -/
def State.steepLimit (s : State) : Nat :=
  min (s.od 0x5027 0 0) ([8192, 6144, 4096, 2048, 1024, 512, 256].getD (s.od 0x2404 0 0) 256)

/-- Whether the next array may start: its hearth is HOT and free of a run or test, the other deck rests, the limit holds, and the
island can store its record (R119, R104, 17 R413). -/
def State.mayStart (s : State) (j : SteepJob) (a : Nat) : Bool :=
  let h := a / 1024
  let busy (x : SteepArray) : Bool := x.phase == 1 || x.phase == 6
  !s.islandLost && s.hot h && s.calState h != 3 && !(j.calFirst.contains h && s.calState h == 2) && s.testing.get 0 h == 0 &&
    !(j.arrays.any fun x => busy x && x.array / 2 == a / 2) && decide ((j.arrays.filter busy).length < s.steepLimit)

/-- An array starts: record STEEPING, its wear count up (Table 05-6). -/
def State.startProgram (x : SteepArray) (s : State) : State :=
  let a := x.array
  let s := (((((s.setOdAt a 0x3107 0 0 a).setOdAt a 0x3107 0 1 1).setOdAt a 0x3107 0 2 x.format).setOdAt a 0x3107 0 3 x.flags).setOdAt a 0x3107 0 5
    x.layer).setOdAt a 0x3107 0 7 x.gen
  ((s.modArray a fun x => { x with phase := 1, row := 0, iter := 0, failed := [] }).sealRecord a).setArrayState a 1

/-- STEEP_ARRAY_START: the next array starts; under self-refresh its level read. -/
def execSteepArrayStart (a : ArrayId) (s : State) : Host.Outcome State Fault Refusal :=
  .next (
    let n := a.toNat
    match s.steep, s.steepArray n with
    | some j, some x =>
      if x.phase ≠ 0 ∨ j.verified = false ∨ s.mayStart j n = false then s
      else
        let s := s.wear n
        if j.kind = 3 then s.modArray n fun x => { x with phase := 6 } else s.startProgram x
    | _, _ => s)

/-- WEAR_LIMIT: the count has reached a limit (R127). -/
def execWearLimit (a : ArrayId) (s : State) : Host.Outcome State Fault Refusal := .next (s.noteWear a.toNat)

/-- The code that a physical column takes of a row record (R82). -/
def cellCode (t row : List Byte) (p : Nat) : BitVec 4 :=
  if p = 528 then BitVec.ofNat 4 (leAt row 256 1)
  else if p < 512 then (if (spareOf t p).isSome then 0 else BitVec.ofNat 4 (rowCode row p))
  else if bit (remapEntry t (p - 512)) 15 then BitVec.ofNat 4 (rowCode row (remapEntry t (p - 512) % 512)) else 0

/-- A row has its targets. -/
def State.writeCells (a row : Nat) (rec' : List Byte) (s : State) : State :=
  let t := s.remapTable a
  { s with weights := (List.range 529).foldl (fun w p => w.put 0 (cellKey a row p) (cellCode t rec' p)) s.weights }

/-- A column of an array being steeped has failed (R122, R123). -/
def State.failColumn (a col : Nat) (s : State) : State :=
  let retired (s : State) : State := (s.arrayOutcome a 8).bump 0x5025 0 6 1
  if s.arrayState a = 3 then s
  else if col = 529 ∨ col = 530 then retired (s.retireArray a)
  else if col = 528 then
    ((s.setOdAt a 0x3107 0 3 0).modArray a fun x => { x with flags := 0 }).raise { kind := .steep, path := pathColumn a 528, detail := 0 }
  else
    let t := s.remapTable a
    let s := s.remapColumn a col 0
    if s.arrayState a = 3 then retired s else if s.remapTable a ≠ t then s.bump 0x5025 0 5 1 else s

/-- The drift of a hearth since its last steep is zero again when all its arrays that are not RETIRED are COMPLETE and none of the image's is
still to come (R129). -/
def State.settleDrift (h : Nat) (s : State) : State :=
  match s.steep with
  | none => s
  | some j =>
    let mine := ((j.named ++ s.programmed).filter fun a => a / 1024 == h && (j.named.contains a || s.recState a != 0)).eraseDups
    let whole (a : Nat) : Bool := s.arrayState a == 3 || (s.recState a == 2 && s.arrayState a == 0)
    if mine.all (fun a => (j.ended a || !j.named.contains a) && whole a) && mine.any fun a => s.arrayState a != 3 then s.steepDrift h else s

/-- An array has ended, COMPLETE or not. -/
def State.endArray (a : Nat) (s : State) : State :=
  ((s.modArray a fun x => { x with phase := 5 }).settleDrift (a / 1024)).steepProgress

/-- After the failed columns of an array: kiln again, or the end of a RETIRED array. -/
def State.afterSpares (a next : Nat) (s : State) : State :=
  if s.arrayState a = 3 then s.endArray a
  else (s.modArray a fun x => { x with phase := next, failed := [] }).steepProgress

/-- PROGRAM_ITERATION: one pulse and window read of a row; `outside` are the columns still outside. A row ends when there are none or after
24 iterations, and its columns still outside fail; after the last row the failed columns are copied into spares. -/
def execProgramIteration (a : ArrayId) (row : BitVec 10) (outside : List (BitVec 10)) (s : State) : Host.Outcome State Fault Refusal :=
  .next (
    let n := a.toNat
    match s.steepArray n with
    | none => s
    | some x =>
      if x.phase ≠ 1 ∨ x.row ≠ row.toNat then s
      else if outside ≠ [] ∧ x.iter + 1 < 24 then s.modArray n fun x => { x with iter := x.iter + 1 }
      else
        let failed := (x.failed ++ (outside.map (·.toNat)).filter (· < 531)).eraseDups
        let s := (s.writeCells n x.row (x.rows.getD x.row [])).modArray n fun x => { x with row := x.row + 1, iter := 0, failed := failed }
        if x.row + 1 < 1024 then s
        else ((failed.foldl (fun s c => s.failColumn n c) s).afterSpares n 2).stagingRoom (s.steep.any fun j => s.stagingFull j))

/-- KILN_END: the cells have settled; a run of the hearth falls due (04 Table 04-6). -/
def execKilnEnd (a : ArrayId) (s : State) : Host.Outcome State Fault Refusal :=
  .next (
    match s.steepArray a.toNat with
    | none => s
    | some x => if x.phase ≠ 2 then s
      else ({ s with kilnAt := s.kilnAt.put 0 a.toNat (s.elapsed + 1) }.modArray a.toNat fun x => { x with phase := 3 }).calDue (a.toNat / 1024))

/-- FINAL_VERIFY_DONE: columns with a cell outside the final window are replaced and the kiln starts again (R122); else the scales are
stored next. -/
def execFinalVerifyDone (a : ArrayId) (outside : List (BitVec 10)) (s : State) : Host.Outcome State Fault Refusal :=
  .next (
    let n := a.toNat
    match s.steepArray n with
    | none => s
    | some x =>
      let bad := ((outside.map (·.toNat)).filter (· < 531)).eraseDups
      if x.phase ≠ 3 then s
      else if bad.any fun c => c != 528 then (bad.foldl (fun s c => s.failColumn n c) s).afterSpares n 2
      else (bad.foldl (fun s c => s.failColumn n c) s).afterSpares n 4)

/-- The sample rows of a seed, and the CRC over their records (R125). -/
def sampleRows (seed : Nat) : List Nat := (List.range 10).map fun i => (seed + 103 * i) % 1024

def sampleCrc (rows : List (List Byte)) (seed : Nat) : Nat := crc32 ((sampleRows seed).flatMap fun r => rows.getD r [])

/-- The payload digest of a program record: the first 32 bytes of SHA-512 over the row and scale planes. -/
def payloadDigest (rows : List (List Byte)) (scales : List Byte) : Nat := leNat ((Config.sha512 (rows.flatten ++ scales)).take 32)

/-- The scale plane of an array as its scale memory holds it. -/
def State.scalePlane (s : State) (a : Nat) : List Byte := (List.range 512).flatMap fun l => leBytes 2 (s.scales.get 0 (a * 512 + l))

/-- The remaps that waited for an array are made (Table 05-8). -/
def State.runRemaps (a : Nat) (s : State) : State :=
  let mine := s.remapWaits.filter fun e => e.1 == a
  mine.foldl (fun s e => s.remapColumn a e.2.1 e.2.2) { s with remapWaits := s.remapWaits.filter fun e => e.1 != a }

/-- ARRAY_STEEP_COMPLETE: the scale store is written, the record is COMPLETE with a new seed, a fence is cleared, and layer and stage
follow (R124 to R126, R134, R135). -/
def execArraySteepComplete (a : ArrayId) (s : State) : Host.Outcome State Fault Refusal :=
  .next (
    let n := a.toNat
    match s.steepArray n with
    | none => s
    | some x =>
      if x.phase ≠ 4 then s
      else
        let seed := Config.freeWord s.free % 65536
        let s := { s with scales := (List.range 512).foldl (fun m l => m.put 0 (n * 512 + l) (leAt x.scales (2 * l) 2)) s.scales }.spend 1
        let s := ((((s.setOdAt n 0x3107 0 1 2).setOdAt n 0x3107 0 3 x.flags).setOdAt n 0x3107 0 9 seed).setOdAt n 0x3107 0 11 s.now).setOdAt n 0x3107 0 12
          (payloadDigest x.rows x.scales)
        let s := (s.setOdAt n 0x3107 0 13 (sampleCrc x.rows seed)).sealRecord n
        let s := (s.setArrayState n 0).bump 0x5025 0 4 1
        (s.endArray n).runRemaps n)

/-! ### Self-refresh and abort (R129, R131) -/

/-- The arrays of a hearth that a self-refresh takes: those whose record is COMPLETE. One that is EMPTY, or FENCED with a record left STEEPING,
holds no targets to program again (DESIGN CHOICE, log 193: R129 says "each array"). -/
def State.completeArrays (s : State) (h : Nat) : List Nat :=
  s.programmed.filter fun a => a / 1024 == h && s.recState a == 2

def State.applyRefresh (s : State) : Nat × State :=
  let hearths := (List.range 128).filter (s.mask 0x5024 0)
  if s.islandLost then refuse islandLostReason s
  else if s.steep.isSome then refuse codeBusy s
  else if hearths.any fun h => s.driftPast h 0x3112 then refuse codeState s
  else
    let arrays := hearths.flatMap s.completeArrays
    let s := s.beginSteep 3 .a
    let bad := s.steepRefusal arrays
    if bad ≠ 0 then (0, s.steepFails bad)
    else
      let of (a : Nat) : SteepArray :=
        { array := a, chunk := 0, layer := s.recLayer a, gen := s.recGen a, format := s.recFormat a, flags := s.recFlags a, rows := [], scales := [],
          phase := 0, row := 0, iter := 0, failed := [] }
      let s := s.modSteep fun j => { j with arrays := arrays.map of }
      (0, ((((s.setOd 0x5025 0 0 2).setOd 0x5025 0 2 arrays.length).heat arrays).steepProgress))

/-- SELF_REFRESH (0x03): the hearths of OD 0x5024; past the self-refresh limit only an image refreshes (R128). -/
def execSelfRefresh (rq : Requester) (s : State) : Host.Outcome State Fault Refusal :=
  .next (s.access rq .command 0x5020 0 [3] State.applyRefresh)

/-- STEEP_ABORT (0x04). -/
def execSteepAbort (rq : Requester) (s : State) : Host.Outcome State Fault Refusal :=
  .next (s.access rq .command 0x5020 0 [4] fun s => (0, s.steepFails 9))

/-- A level read of a self-refresh: on a match the same targets are programmed, else the array is FENCED and counted (R129). -/
def State.refreshRead (x : SteepArray) (rows : List (List Byte)) (s : State) : State :=
  let a := x.array
  let scales := s.scalePlane a
  if s.odAt a 0x3107 0 12 = payloadDigest rows scales then
    let x := { x with rows := rows, scales := scales, flags := s.recFlags a }
    (s.modArray a fun _ => x).startProgram x
  else (((s.setArrayState a 2).arrayOutcome a 4).raise { kind := .steep, path := pathSite a, detail := 4 }).endArray a

/-- A level read for a fault in service (Table 05-8): on a match the spares are programmed from the values read, else the array is FENCED and
a repair event names it. -/
def State.repairRead (a : Nat) (rows : List (List Byte)) (s : State) : State :=
  if s.odAt a 0x3107 0 12 = payloadDigest rows (s.scalePlane a) then
    let s := rows.zipIdx.foldl (fun s e => s.writeCells a e.2 e.1) s
    s.runRemaps a
  else
    ({ s with remapWaits := s.remapWaits.filter fun e => e.1 != a }.setArrayState a 2).raise { kind := .steep, path := pathSite a, detail := 4 }

/-- LEVEL_READ_COMPLETE: all rows of an array have been read, given as row records built through the remap table. -/
def execLevelReadComplete (a : ArrayId) (rows : List (List Byte)) (s : State) : Host.Outcome State Fault Refusal :=
  .next (
    let n := a.toNat
    match s.steep, s.steepArray n with
    | some _, some x =>
      if x.phase = 6 then s.refreshRead x rows
      else if x.phase = 5 ∧ s.remapWaits.any (fun e => e.1 == n) = true then s.repairRead n rows
      else s
    | _, _ => if s.remapWaits.any fun e => e.1 == n then s.repairRead n rows else s)

/-! ### Resident weights at start-up (R130) -/

/-- PROGRAM_RECORD_ARRIVAL: a record of the start-up stream, with what the loading of the scale store and the level read found: the sample
rows, or every row where OD 0x5028 is 1. -/
def execProgramRecordArrival (a : ArrayId) (record : List Byte) (scalesGood : Bool) (rows : List (List Byte)) (marginCells : BitVec 32) (s : State) :
    Host.Outcome State Fault Refusal :=
  .next (
    let n := a.toNat
    if s.ready || !s.mainUp then s
    else
      let good := record.length == 96 && isSealed record
      let state := leAt record 4 1
      let s := if good then s.putValue n 0x3107 0 record else s
      let s := s.bump 0x5029 0 0 1
      let match_ := if s.od 0x5028 0 0 = 1 then s.odAt n 0x3107 0 12 == payloadDigest rows (s.scalePlane n) else s.odAt n 0x3107 0 13 == crc32 rows.flatten
      let fence := !good || !scalesGood || state == 1 || (state == 2 && !match_)
      let s := if state = 1 ∧ good = true then s.setOd 0x5025 0 1 10 else s
      let s := if fence && s.arrayState n != 3 then (s.setArrayState n 2).bump 0x5029 0 1 1 else s
      let m := marginCells.toNat
      if good && state == 2 && m != 0 then
        let h := n / 1024
        let s := s.bump 0x5029 0 2 m
        if s.mask 0x3113 0 h then s
        else (s.setMask 16 0x3113 0 h true).raise { kind := .refresh, path := pathUnit 0 h 7 0, detail := h }
      else s)

/-- INTEGRITY_CHECK_COMPLETE: the last record is checked; UNCALIBRATED hearths fall due for a run (04 Table 04-6). -/
def execIntegrityCheckComplete (durationUs : BitVec 32) (s : State) : Host.Outcome State Fault Refusal :=
  .next (
    if s.ready || !s.mainUp then s
    else ({ s with integrity := true, streamed := true }.setOd 0x5029 0 3 durationUs.toNat).refreshStage.calTriggers)

end Sys2Proof.Machine
end

