-- ==== Sys2Proof/Machine/HostPorts.lean ====
section
/-! DEFINITION. Machine/HostPorts.lean: the host ports: links and their resets, queue pairs, doorbells and interrupts, BAR2, the
controlling host, and reads of host memory (16_host_ports.md R386 to R403). -/

namespace Sys2Proof.Machine

/-! ### A port is reset (R399, R400) -/

/-- A request of a queue pair that is reset: it writes nothing more; with a step in flight it ends at that step's boundary. -/
def State.cutRequest (n : Nat) (s : State) : State :=
  match s.req n with
  | none => s
  | some r =>
    if r.phase = .ended then s.dropReq n r.key
    else (s.modReq n fun r => { r with silent := true, holds := false }).endAtBoundary n 0

/-- A queue pair is left in a state: its requests are cut, its slots and waiting entries go. Answers how many requests that were. -/
def State.cutQueue (k state : Nat) (s : State) : Nat × State :=
  let l := (s.reqList.filter fun e => e.2.key == k && !e.2.silent).map (·.1)
  let s := (s.setQpStat k 0 state).modQp k fun q => { q with unsignalled := 0, finals := [] }
  (l.length, (l.foldl (fun s n => s.cutRequest n) s).setQpStat k 3 0)

/-- A read of a slot of CELLAR fails: its context is LOST (11 R285). -/
def State.lostRead (c : Nat) (s : State) : State := (s.loseCtx c).tierReport c 1

/-- The queue pairs of a port that are not DISABLED. -/
def State.openQueues (s : State) (p : Nat) : List Nat := ((List.range 256).map (qpKey p)).filter fun k => s.qpState k != 0

/-- What every reset of a port does (Table 16-9). -/
def State.resetPort (p : Nat) (s : State) : State :=
  let s := (s.openQueues p).foldl (fun s k => let (n, s) := s.cutQueue k 0; s.bump 0x1200 (p + 1) 6 n) s
  let s := match s.steep with
    | some j => if j.kind = 1 ∧ hostNo j.port = p then s.steepFails 5 else s
    | none => s
  let gone := s.reads.filter fun r => hostNo r.port == p
  let s := { s with reads := s.reads.filter fun r => hostNo r.port != p }
  gone.foldl (fun s r => match r.why with
    | .slot c _ => s.lostRead c
    | _ => s) s

/-- Hidden field 40 of a port's status: since when its link has been down, ns plus 1; 0 while it is up, or never was. -/
def State.linkDown (p : Nat) (s : State) : State :=
  (s.setOd 0x1200 (p + 1) 0 (s.od 0x1200 (p + 1) 0 % 2 ^ 15)).setOd 0x1200 (p + 1) 40 (s.elapsed + 1)

/-- PORT_RESET: PERST_N, hot reset or link down. -/
def execPortReset (p : HostPort) (s : State) : Host.Outcome State Fault Refusal :=
  .next (if !s.hostLink (hostNo p) then s else (s.linkDown (hostNo p)).resetPort (hostNo p))

/-- FUNCTION_LEVEL_RESET: the link stays up. -/
def execFunctionLevelReset (p : HostPort) (s : State) : Host.Outcome State Fault Refusal :=
  .next (if !s.hostLink (hostNo p) then s else s.resetPort (hostNo p))

/-- D3HOT_ENTRY: configuration space and BARs are kept. -/
def execD3hotEntry (p : HostPort) (s : State) : Host.Outcome State Fault Refusal :=
  .next (if !s.hostLink (hostNo p) then s else s.resetPort (hostNo p))

/-- PCIE_LINK_UP: the link trains at a rate and width (Table 16-4). -/
def execPcieLinkUp (p : HostPort) (rate width : BitVec 4) (flit : Bool) (s : State) : Host.Outcome State Fault Refusal :=
  .next (
    let r := rate.toNat
    let w := width.toNat
    if !s.mainUp || s.thermalHold || r = 0 || 6 < r || !(w == 1 || w == 2 || w == 4 || w == 8) then s
    else
      let n := hostNo p + 1
      (s.setOd 0x1200 n 0 (s.od 0x1200 n 0 % 2 ^ 15 + flagNat flit * 2 ^ 15 + w * 2 ^ 16 + r * 2 ^ 20)).setOd 0x1200 n 40 0)

/-! ### Queue pairs (R392, R393) -/

/-- A record of Table 16-8 by its bytes; its reserved byte is ignored (R12). -/
def qpRecordGood (b : List Byte) : Bool :=
  leAt b 0 8 % 4096 == 0 && leAt b 8 8 % 4096 == 0 && leAt b 16 8 % 64 == 0 && decide (4 ≤ leAt b 24 1) && decide (leAt b 24 1 ≤ 16) &&
  decide (4 ≤ leAt b 25 1) && decide (leAt b 25 1 ≤ 16) && decide (1 ≤ leAt b 26 2) && decide (leAt b 26 2 ≤ 511) &&
  decide (leAt b 30 2 ≤ 1000)

/-- The queue pair a requester selects, if it may configure it: a host only its own port's. -/
def State.selectedQp (s : State) (rq : Requester) : Option Nat :=
  let port := s.odAt (rqNo rq) 0x1210 1 0
  let own := match rq with
    | .hostA => port == 0
    | .hostB => port == 1
    | _ => true
  if own then some (qpKey port (s.odAt (rqNo rq) 0x1210 1 1)) else none

/-- The record that a queue pair holds, as bytes. -/
def State.qpRecord (s : State) (k : Nat) : List Byte := s.fieldBytes k 0x1210 2

/-- An enable refused for the link's rate or width raises an event (R387); its detail is the port status (DESIGN CHOICE). -/
def State.linkTooSlow (p : Nat) (s : State) : State :=
  s.raise { kind := .port, path := pathUnit (3 + p) 8 0 0, detail := s.portStatus p }

def State.applyQpEnable (rq : Requester) (s : State) : Nat × State :=
  match s.selectedQp rq with
  | none => refuse codeAccess s
  | some k =>
    if s.qpState k ≠ 0 then refuse codeState s
    else if !s.queuesServe (qpPort k) then refuse linkReason (s.linkTooSlow (qpPort k))
    else if !qpRecordGood (s.qpRecord k) then refuse codeRange s
    else
      let s := { s with qps := s.qps.put QPair.fresh k QPair.fresh }
      (0, ((((s.setQpStat k 0 1).setQpStat k 1 0).setQpStat k 2 0).setQpStat k 3 0))

/-- QUEUE_PAIR_ENABLE (OD 0x1210.03, 0x01). -/
def execQueuePairEnable (rq : Requester) (s : State) : Host.Outcome State Fault Refusal :=
  .next (s.access rq .command 0x1210 3 [1] (State.applyQpEnable rq))

def State.applyQpDisable (rq : Requester) (s : State) : Nat × State :=
  match s.selectedQp rq with
  | none => refuse codeAccess s
  | some k =>
    if s.qpState k = 3 then (0, s.setQpStat k 0 0)
    else if s.qpState k = 1 then (0, ((s.setQpStat k 0 2).writeBlock k).drained k)
    else (0, s)

/-- QUEUE_PAIR_DISABLE (0x02): DRAINING until the last request has written its final entry. -/
def execQueuePairDisable (rq : Requester) (s : State) : Host.Outcome State Fault Refusal :=
  .next (s.access rq .command 0x1210 3 [2] (State.applyQpDisable rq))

/-- The queue pair goes to ERROR: QPERR is set and its requests end. -/
def State.qpError (k : Nat) (s : State) : State := (s.cutQueue k 3).2.setCause (qpPort k) 3

/-- SUBMISSION_DOORBELL: the tail; one beyond the ring, or past the part's head, is an error. -/
def execSubmissionDoorbell (p : HostPort) (n : Byte) (tail : BitVec 32) (s : State) : Host.Outcome State Fault Refusal :=
  .next (
    let k := qpKey (hostNo p) n.toNat
    if !s.hostLink (hostNo p) then s
    else
      let old := (s.qp k).tail
      let t := tail.toNat
      let size := s.subSize k
      let waiting := (old + size - s.qpStat k 1) % size
      let bad := decide (size ≤ t) || decide (size ≤ waiting + (t + size - old) % size)
      let s := s.modQp k fun q => { q with tail := t }
      if s.qpLives k && bad then s.qpError k else s)

/-- COMPLETION_HEAD_DOORBELL: the head; one beyond the ring, or past the part's tail, is an error. Slots that free go to requests that
wait. -/
def execCompletionHeadDoorbell (p : HostPort) (n : Byte) (head : BitVec 32) (s : State) : Host.Outcome State Fault Refusal :=
  .next (
    let k := qpKey (hostNo p) n.toNat
    if !s.hostLink (hostNo p) then s
    else
      let old := (s.qp k).head
      let t := head.toNat
      let size := s.compSize k
      let bad := decide (size ≤ t) || decide (s.unread k < (t + size - old) % size)
      let s := s.modQp k fun q => { q with head := t }
      if !s.qpLives k then s else if bad then s.qpError k else s.serveSlots k)

/-- INTERRUPT_COALESCE_TIMEOUT (R396). -/
def execInterruptCoalesceTimeout (p : HostPort) (n : Byte) (s : State) : Host.Outcome State Fault Refusal :=
  .next (
    let k := qpKey (hostNo p) n.toNat
    let q := s.qp k
    if q.unsignalled ≠ 0 ∧ s.qpCfg k 8 ≠ 0 ∧ q.since + 1000 * s.qpCfg k 8 ≤ s.elapsed ∧ s.qpLives k = true then s.signalQp k else s)

/-! ### BAR0 registers -/

/-- EVENT_CAUSE_CLEAR: a write of the event cause register (RW1C). -/
def execEventCauseClear (p : HostPort) (v : BitVec 32) (s : State) : Host.Outcome State Fault Refusal :=
  .next (
    let n := hostNo p
    let w := (List.range 4).foldl (fun w i => if bit v.toNat i then setBit w i false else w) (s.eventCause.get 0 n)
    { s with eventCause := s.eventCause.put 0 n w })

/-- A BAR access that the part does not serve: a read gets a Completer Abort, a write is discarded; both are logged (R168, R401). -/
def State.aborted (p : Nat) (read : Bool) (s : State) : State :=
  let s := s.bump 0x1200 (p + 1) 3 1
  if read then s.emit (.completerAbort (hostOf p)) else s

/-- EVENT_RING_DOORBELL (20 R480): the host's head of its event ring. -/
def execEventRingDoorbell (p : HostPort) (head : BitVec 32) (s : State) : Host.Outcome State Fault Refusal :=
  .next (
    let n := hostNo p
    if !s.hostLink n then s
    else if !s.enabled (6 + n) then s.aborted n false
    else if s.ringSize n ≤ head.toNat then s.bump 0x1200 (n + 1) 4 1
    else s.setEventRing n { s.eventRing n with head := head.toNat })

/-! ### BAR2 (R391, Table 16-7) -/

/-- The stack address of an access within one open aperture; only the data areas and the soot ring are reached (11 R269), whatever OD 0x5401
was when the aperture was opened. -/
def State.apertureAddr (s : State) (p addr len : Nat) : Option Nat :=
  let base := s.od 0x1201 (p + 1) (addr / 2 ^ 28)
  let a := base + addr % 2 ^ 28
  if base = 0 ∨ 2 ^ 28 < addr % 2 ^ 28 + len ∨ !(s.inDataArea (a % 2 ^ 37) len || decide (sootBase ≤ a)) then none else some a

/-- BAR2_READ. -/
def execBar2Read (p : HostPort) (addr : BitVec 30) (len : Nat) (s : State) : Host.Outcome State Fault Refusal :=
  .next (
    let n := hostNo p
    if !s.hostLink n then s
    else match s.apertureAddr n addr.toNat len with
      | none => s.aborted n true
      | some a =>
        if sootBase ≤ a ∧ s.enabled 5 = false then s.aborted n true
        else
          let (b, _, s) := s.readStack a len 0
          s.relieve.emit (.completion p b))

/-- BAR2_WRITE: performed in a data area for the controlling host. -/
def execBar2Write (p : HostPort) (addr : BitVec 30) (data : List Byte) (s : State) : Host.Outcome State Fault Refusal :=
  .next (
    let n := hostNo p
    if !s.hostLink n then s
    else match s.apertureAddr n addr.toNat data.length with
      | none => s.aborted n false
      | some a => if sootBase ≤ a ∨ s.od 0x1100 1 0 ≠ n then s.aborted n false else s.writeStack a data)

/-! ### The controlling host (R397, R398) -/

/-- The controlling host changes: OWNER on both ports; the island keeps the value. -/
def State.setOwner (v : Nat) (s : State) : State :=
  if s.od 0x1100 1 0 = v then s
  else (((s.setOd 0x1100 1 0 v).journaled (odKey 0 0x1100 1 0) 1).setCause 0 1).setCause 1 1

/-- The controlling port has been in link-down for the claim grace. -/
def State.claimOpen (s : State) : Bool :=
  let v := s.od 0x1100 1 0
  v == 0xFF || (!s.hostLink v && decide (s.od 0x1200 (v + 1) 40 - 1 + 1000000 * s.od 0x1100 4 0 ≤ s.elapsed))

def State.applyClaim (rq : Requester) (s : State) : Nat × State :=
  if s.controls rq then (0, s) else if s.claimOpen then (0, s.setOwner (rqNo rq)) else refuse codeState s

/-- OWNERSHIP_CLAIM (OD 0x1100.02, 0x01). -/
def execOwnershipClaim (rq : Requester) (s : State) : Host.Outcome State Fault Refusal :=
  .next (s.access rq .command 0x1100 2 [1] (State.applyClaim rq))

def State.applyRelease (rq : Requester) (s : State) : Nat × State :=
  if s.controls rq then (0, s.setOwner 0xFF) else refuse codeAccess s

/-- OWNERSHIP_RELEASE (0x02). -/
def execOwnershipRelease (rq : Requester) (s : State) : Host.Outcome State Fault Refusal :=
  .next (s.access rq .command 0x1100 2 [2] (State.applyRelease rq))

def State.applyTakeOver (v : Nat) (s : State) : Nat × State :=
  if v < 2 ∨ v = 0xFF then (0, s.setOwner v) else refuse codeRange s

/-- FORCED_TAKE_OVER (OD 0x1100.03). -/
def execForcedTakeOver (rq : Requester) (v : Byte) (s : State) : Host.Outcome State Fault Refusal :=
  .next (s.access rq .command 0x1100 3 [v] (State.applyTakeOver v.toNat))

/-! ### Reads of host memory complete (12 R290, 05 R115, 11 R285) -/

/-- The little-endian words of a list. -/
def wordsOf (b : List Byte) : List Nat := (List.range (b.length / 4)).map fun i => leAt b (4 * i) 4

/-- One of the lists of a request has come; with the last it joins the pending table. A token outside 18 bits ends it FORMAT. -/
def State.takeList (n : Nat) (good : Bool) (f : Request → Request) (s : State) : State :=
  match s.req n with
  | none => s
  | some r =>
    if r.phase ≠ .reading then s
    else if !good then s.finish n 7 [] 0 s.now
    else
      let s := s.modReq n fun r => { f r with awaiting := r.awaiting - 1 }
      if r.awaiting ≤ 1 then s.joinPending n else s

/-- A bias list of 8-byte entries: token, F16 bias, reserved bytes, which are ignored (R12). -/
def biasList (b : List Byte) : List (Nat × Nat) := (List.range (b.length / 8)).map fun i => (leAt b (8 * i) 4, leAt b (8 * i + 4) 2)

def biasGood (b : List Byte) : Bool :=
  (List.range (b.length / 8)).all fun i => decide (leAt b (8 * i) 4 < 262144)

/-- What a completed read brings. -/
def State.takeRead (r : HostRead) (b : List Byte) (s : State) : State :=
  match r.why with
  | .prompt n => s.takeList n ((wordsOf b).all fun w => decide (w < 262144)) fun q => { q with prompt := wordsOf b }
  | .bias n => s.takeList n (biasGood b) fun q => { q with bias := biasList b }
  | .scatter => s.takeScatter b
  | .image _ => s.readOn
  | .slot _ _ => s

/-- What a read that failed twice does. -/
def State.readFailed (r : HostRead) (s : State) : State :=
  match r.why with
  | .prompt n | .bias n => s.finish n 13 [] 0 s.now
  | .scatter | .image _ => s.steepFails 5
  | .slot c _ => s.lostRead c

/-- HOST_READ_COMPLETION: the read of a port with a tag; a failed one is made once more. -/
def execHostReadCompletion (p : HostPort) (tag : BitVec 10) (data : List Byte) (ok : Bool) (s : State) : Host.Outcome State Fault Refusal :=
  .next (
    match s.reads.find? fun r => r.port == p && r.tag == tag.toNat with
    | none => s
    | some r =>
      let s := { s with reads := s.reads.filter fun x => !(x.port == p && x.tag == tag.toNat) }
      if ok && data.length == r.len then (s.bump 0x1200 (hostNo p + 1) 7 r.len).takeRead r data
      else if r.retried then s.readFailed r
      else { s with reads := s.reads ++ [{ r with retried := true }] }.emit (.hostRead p r.tag r.addr r.len))

end Sys2Proof.Machine
end

