-- ==== Sys2Proof/Machine/Security.lean ====
section
/-! DEFINITION. Machine/Security.lean: owner and publisher keys, rollback counters, firmware slots, and the SPDM responder of the
island (21_security_startup.md R485 to R498). -/

namespace Sys2Proof.Machine

/-! ### Owner statements (R488 to R492) -/

/-- The statement in an owner slot, by subindex. -/
def State.ownerStmt (s : State) (sub : Nat) : List Byte := leBytes 300 (s.od 0x7001 sub 0)

/-- Whether an owner slot is REGISTERED. -/
def State.ownerRegistered (s : State) (sub : Nat) : Bool := decide (1 ≤ sub) && decide (sub ≤ 4) && leAt (s.ownerStmt sub) 0 1 == 1

/-- All four owner slots are EMPTY (R490). -/
def State.unowned (s : State) : Bool := [1, 2, 3, 4].all fun n => leAt (s.ownerStmt n) 0 1 == 0

/-- Some publisher slot is REGISTERED. -/
def State.publishes (s : State) : Bool := (List.range 16).any fun n => leAt (leBytes 300 (s.od 0x5010 (n + 1) 0)) 0 1 == 1

/-- The reserved bytes of Table 21-2. -/
def stmtReserved (b : List Byte) : Bool := zeroAt b 2 2 && zeroAt b 23 9 && zeroAt b 165 3

/-- The signature of a statement: that of a REGISTERED signer, or a zero one for the first owner key (R489, R490). -/
def State.stmtSigned (s : State) (idx : Nat) (b : List Byte) : Bool :=
  let signer := leAt b 1 1
  if s.unowned && idx == 0x7001 && leAt b 0 1 == 1 && signer == 0 then zeroAt b 168 132
  else s.ownerRegistered signer && Config.ecdsaVerifies (slice 32 133 (s.ownerStmt signer)) (b.take 168) (slice 168 132 b)

/-- R489. -/
def State.stmtGood (s : State) (idx sub : Nat) (b : List Byte) : Bool :=
  leAt b 20 2 == idx && leAt b 22 1 == sub && (leAt b 8 8 == 0 || leAt b 8 8 == s.od 0x1000 0 0) && decide (s.od 0x7002 0 3 < leAt b 4 4) &&
    stmtReserved b && decide (leAt b 0 1 ≤ 2) && s.stmtSigned idx b

/-- R491: what the last REGISTERED owner key does not take. -/
def State.lastOwnerBars (s : State) (idx sub : Nat) (b : List Byte) : Bool :=
  let last := idx == 0x7001 && s.ownerRegistered sub && ([1, 2, 3, 4].filter s.ownerRegistered).length == 1
  last && (leAt b 0 1 == 2 || (leAt b 0 1 == 0 && s.publishes))

/-- Sessions that an owner key opened end when its slot is no longer REGISTERED (Table 21-8). -/
def State.endOwnerSessions (sub : Nat) (s : State) : State :=
  if s.ownerRegistered sub then s
  else
    let off (c : Conn) : Conn := match c.session with
      | some x => if x.slot = some sub then { c with session := none } else c
      | none => c
    { s with conns := s.conns.map fun e => (e.1, off e.2) }

/-- The part takes a statement: stored, the owner counter and, for a publisher slot, the steep counter raised. -/
def State.takeStmt (idx sub : Nat) (b : List Byte) (s : State) : State :=
  let s := (s.setOd idx sub 0 (leNat b)).setOd 0x7002 0 3 (leAt b 4 4)
  if idx = 0x5010 then s.setOd 0x7002 0 2 (max (s.od 0x7002 0 2) (leAt b 16 4)) else s.endOwnerSessions sub

def State.applyStmt (idx sub : Nat) (b : List Byte) (s : State) : Nat × State :=
  if s.lastOwnerBars idx sub b then refuse codeState s
  else if !s.stmtGood idx sub b then refuse codeFormat s
  else (0, s.takeStmt idx sub b)

/-- OWNER_KEY_WRITE (OD 0x7001). -/
def execOwnerKeyWrite (rq : Requester) (slot : BitVec 2) (stmt : List Byte) (s : State) : Host.Outcome State Fault Refusal :=
  .next (s.access rq .write 0x7001 (slot.toNat + 1) stmt (State.applyStmt 0x7001 (slot.toNat + 1) stmt))

/-- PUBLISHER_KEY_WRITE (OD 0x5010). -/
def execPublisherKeyWrite (rq : Requester) (slot : BitVec 4) (stmt : List Byte) (s : State) : Host.Outcome State Fault Refusal :=
  .next (s.access rq .write 0x5010 (slot.toNat + 1) stmt (State.applyStmt 0x5010 (slot.toNat + 1) stmt))

/-! ### Firmware slots (R493, R494) -/

/-- States of OD 0x7003: 0 EMPTY, 1 VALID, 2 ACTIVE, 3 FAILED. -/
def State.slotState (s : State) (n : Nat) : Nat := s.od 0x7003 0 (4 * n + 3)
def State.setSlotState (n v : Nat) (s : State) : State := s.setOd 0x7003 0 (4 * n + 3) v

def State.activeSlot (s : State) : Nat := if s.slotState 1 = 2 then 1 else 0

def islandCode (img : List Byte) : List Byte := slice (256 + leAt img 32 4 + 132) (leAt img 24 4) img

/-- The checks of R493 on an image. -/
def State.firmwareGood (s : State) (img : List Byte) : Bool :=
  let il := leAt img 24 4
  let ml := leAt img 28 4
  let cl := leAt img 32 4
  img.length == 256 + cl + 132 + il + ml && decide (img.length ≤ 12582912) && decide (il ≤ 3145728) && decide (ml ≤ 8388608) && leAt img 0 2 == 1 &&
    ((Config.chainLeaf (slice 256 cl img) (s.blob 0x7000 0)).map fun leaf =>
      Config.ecdsaVerifies leaf (img.take (256 + cl)) (slice (256 + cl) 132 img)).getD false &&
    slice 64 64 img == Config.sha512 (islandCode img) && mainDigest img == Config.sha512 (mainCode img) &&
    decide (s.od 0x7002 0 0 ≤ leAt img 4 4) && decide (s.od 0x7002 0 1 ≤ leAt img 8 4)

def State.applyInstall (s : State) : Nat × State :=
  let img := s.blob 0x7005 0
  if s.trial ≠ 0 then refuse codeBusy s
  else if !s.firmwareGood img then refuse codeFormat s
  else
    let n := 1 - s.activeSlot
    (0, ((((s.setBlobAt (n + 1) 0x7005 0 img).setOd 0x7003 0 (4 * n) (leAt img 12 2)).setOd 0x7003 0 (4 * n + 1) (leAt img 14 2)).setOd 0x7003 0
      (4 * n + 2) (leAt img 16 2)).setSlotState n 1)

/-- FIRMWARE_INSTALL (OD 0x7004, 0x01): into the slot that is not ACTIVE. -/
def execFirmwareInstall (rq : Requester) (s : State) : Host.Outcome State Fault Refusal :=
  .next (s.access rq .command 0x7004 0 [1] State.applyInstall)

def State.applyActivate (s : State) : Nat × State :=
  if s.trial ≠ 0 then refuse codeBusy s
  else if s.slotState (1 - s.activeSlot) ≠ 1 then refuse codeState s
  else (0, { s with trial := 1 })

/-- FIRMWARE_ACTIVATE (0x02): the VALID slot is on trial from the next island start. -/
def execFirmwareActivate (rq : Requester) (s : State) : Host.Outcome State Fault Refusal :=
  .next (s.access rq .command 0x7004 0 [2] State.applyActivate)

/-- TRIAL_COMMIT: 60 s without a reset and a main side that is ready; the counters rise to the slot's security versions. -/
def execTrialCommit (s : State) : Host.Outcome State Fault Refusal :=
  .next (
    if s.trial ≠ 2 || !s.ready || decide (s.elapsed < s.islandAt + 60000000000) then s
    else
      let img := s.slotImage s.runSlot
      let s := ({ s with trial := 0 }.setSlotState s.runSlot 2).setSlotState (1 - s.runSlot) 1
      (s.setOd 0x7002 0 0 (max (s.od 0x7002 0 0) (leAt img 4 4))).setOd 0x7002 0 1 (max (s.od 0x7002 0 1) (leAt img 8 4)))

/-! ### Measurements (R498, Table 21-5) -/

/-- The source of a measurement block, of which the part gives the SHA-512 digest. -/
def State.measured (s : State) (block : Nat) : List Byte :=
  let img := s.slotImage s.runSlot
  match block with
  | 1 => islandCode img ++ slice 12 6 img
  | 2 => if s.mainState = 0 then [] else mainCode img ++ slice 12 6 img
  | 3 => s.fieldBytes 0 0x7002 0
  | 4 => ([1, 2, 3, 4].flatMap s.ownerStmt) ++ (List.range 16).flatMap fun n => leBytes 300 (s.od 0x5010 (n + 1) 0)
  | 5 => s.blob 0x3401 0
  | 6 => s.blob 0x3408 0 ++ s.blob 0x4208 0 ++ s.blob 0x3407 0
  | 7 => s.blob 0x4110 0
  | _ => (s.programmed.filter fun a => s.recState a == 2).flatMap fun a => leBytes 64 (s.odAt a 0x3107 0 12) ++ leBytes 4 (s.recGen a)

/-- A measurement block; the program image's is all zero where there is none. -/
def State.measurement (s : State) (block : Nat) : List Byte :=
  if block = 5 ∧ s.blob 0x3401 0 = [] then List.replicate 64 0 else Config.sha512 (s.measured block)

/-! ### SPDM (R496, R497) -/

def State.conn (s : State) (c : BitVec 2) : Conn := s.conns.get Conn.fresh c.toNat
def State.setConn (c : BitVec 2) (x : Conn) (s : State) : State := { s with conns := s.conns.put Conn.fresh c.toNat x }

/-- Response codes and error codes of DSP0274 (PRESUMED from that specification). -/
def spdmError (code : Nat) : List Byte := leBytes 1 code
def unexpectedRequest : Nat := 4

/-- An SPDM response leaves the island, over NOA kind 4. -/
def State.spdmOut (c : BitVec 2) (code : Nat) (body : List Byte) (s : State) : State := s.emit (.spdm c code body)

def State.spdmFails (c : BitVec 2) (why : Nat) (s : State) : State := s.spdmOut c 0x7F (spdmError why)

/-- A request is answered while the island runs and the negotiation has come to `phase`. -/
def State.spdmAt (c : BitVec 2) (phase : Nat) (f : State → State) (s : State) : State :=
  if s.islandRun = 0 then s
  else if s.islandRun = 2 ∧ 2 ≤ phase then s
  else if (s.conn c).phase < phase then s.spdmFails c unexpectedRequest
  else f s

/-- GET_VERSION: versions 1.2 and 1.3; the connection starts anew. -/
def execGetVersion (conn : BitVec 2) (s : State) : Host.Outcome State Fault Refusal :=
  .next (s.spdmAt conn 0 fun s => (s.setConn conn { Conn.fresh with phase := 1 }).spdmOut conn 0x04 [0x12, 0x13])

/-- GET_CAPABILITIES. -/
def execGetCapabilities (conn : BitVec 2) (s : State) : Host.Outcome State Fault Refusal :=
  .next (s.spdmAt conn 1 fun s => (s.setConn conn { s.conn conn with phase := max 2 (s.conn conn).phase }).spdmOut conn 0x61 [])

/-- NEGOTIATE_ALGORITHMS: one suite (Table 21-4). -/
def execNegotiateAlgorithms (conn : BitVec 2) (offersSupported : Bool) (s : State) : Host.Outcome State Fault Refusal :=
  .next (s.spdmAt conn 2 fun s =>
    if offersSupported then (s.setConn conn { s.conn conn with phase := 3 }).spdmOut conn 0x63 [] else s.spdmFails conn 1)

/-- The chain of certificate slot 0: certificates 1 to 3 of OD 0x1004 (R486); each is a DER sequence with a two-byte length. -/
def derLength (b : List Byte) : Nat := if leAt b 1 1 = 0x82 then 4 + beNat (slice 2 2 b) else if leAt b 1 1 = 0x81 then 3 + leAt b 2 1 else 2 + leAt b 1 1

def State.certChain (s : State) : List Byte :=
  let b := s.blob 0x1004 0
  let n1 := derLength b
  let n2 := n1 + derLength (b.drop n1)
  b.take (n2 + derLength (b.drop n2))

/-- GET_DIGESTS: slot 0. -/
def execGetDigests (conn : BitVec 2) (s : State) : Host.Outcome State Fault Refusal :=
  .next (s.spdmAt conn 3 fun s => s.spdmOut conn 0x01 (leBytes 1 1 ++ Config.sha512 s.certChain))

/-- GET_CERTIFICATE: part of the chain of slot 0. -/
def execGetCertificate (conn : BitVec 2) (slot : Byte) (offset len : BitVec 16) (s : State) : Host.Outcome State Fault Refusal :=
  .next (s.spdmAt conn 3 fun s =>
    let chain := s.certChain
    if slot ≠ 0 ∨ chain.length < offset.toNat then s.spdmFails conn 1
    else
      let part := slice offset.toNat len.toNat chain
      s.spdmOut conn 0x02 (leBytes 2 part.length ++ leBytes 2 (chain.length - offset.toNat - part.length) ++ part))

/-- CHALLENGE: signed by the identity key. -/
def execChallenge (conn : BitVec 2) (slot : Byte) (nonce : List Byte) (s : State) : Host.Outcome State Fault Refusal :=
  .next (s.spdmAt conn 3 fun s =>
    if slot ≠ 0 then s.spdmFails conn 1
    else
      let body := Config.sha512 s.certChain ++ nonce
      s.spdmOut conn 0x03 (body ++ Config.identitySign body))

/-- GET_MEASUREMENTS: one block, the number of blocks (index 0) or all of them (0xFF), signed where asked for. -/
def execGetMeasurements (conn : BitVec 2) (index : Byte) (signed : Bool) (nonce : List Byte) (s : State) : Host.Outcome State Fault Refusal :=
  .next (s.spdmAt conn 3 fun s =>
    let n := index.toNat
    if 8 < n ∧ n ≠ 255 then s.spdmFails conn 1
    else
      let blocks := if n = 0 then [] else if n = 255 then [1, 2, 3, 4, 5, 6, 7, 8] else [n]
      let body := leBytes 1 (if n = 0 then 8 else blocks.length) ++ blocks.flatMap fun k => leBytes 1 k ++ s.measurement k
      s.spdmOut conn 0x60 (body ++ if signed then Config.identitySign (body ++ nonce) else []))

/-- A serial belongs to a part named in the neighbour table, or is that of a port's peer whose endpoint the stage table in force names. -/
def State.partNamed (s : State) (serial : Nat) : Bool :=
  serial != 0 && (List.range 8).any fun p =>
    s.od 0x4010 (p + 1) 6 == serial ||
    (match (s.port p).ident with
      | some i => i.serial.toNat == serial && s.allParts.contains (65536 * i.rack.toNat + i.endpoint.toNat)
      | none => false)

/-- Who may open a session (R497): anyone while the part is UNOWNED. -/
def State.mayOpen (s : State) (r : SpdmRequester) : Bool :=
  s.unowned ||
  match r with
  | .ownerKey slot => s.ownerRegistered (slot.toNat + 1)
  | .vendorPeer serial => s.partNamed serial.toNat
  | _ => false

/-- KEY_EXCHANGE. -/
def execKeyExchange (conn : BitVec 2) (requester : SpdmRequester) (s : State) : Host.Outcome State Fault Refusal :=
  .next (s.spdmAt conn 3 fun s =>
    if !s.mayOpen requester then s.spdmFails conn 1
    else (s.setConn conn { s.conn conn with exchange := some requester }).spdmOut conn 0x64 (leBytes 1 (flagNat !s.unowned)))

/-- The session that a requester opens: a peer session reads only. -/
def newSession (r : SpdmRequester) (owned : Bool) : Session :=
  match r with
  | .ownerKey slot => { peer := false, slot := if owned then some (slot.toNat + 1) else none, kept := [], segments := [] }
  | .vendorPeer _ => { peer := owned, slot := none, kept := [], segments := [] }
  | _ => { peer := false, slot := none, kept := [], segments := [] }

/-- FINISH: the session is open where the requester's message verifies. -/
def execFinish (conn : BitVec 2) (verifies : Bool) (s : State) : Host.Outcome State Fault Refusal :=
  .next (s.spdmAt conn 3 fun s =>
    match (s.conn conn).exchange with
    | none => s.spdmFails conn unexpectedRequest
    | some r =>
      let s := s.setConn conn { s.conn conn with exchange := none }
      if !verifies || !s.mayOpen r then s.spdmFails conn 6
      else ((s.setConn conn { s.conn conn with session := some (newSession r (!s.unowned)) }).bump 0x1314 0 3 1).spdmOut conn 0x65 [])

/-- A request inside a session. -/
def State.spdmInside (conn : BitVec 2) (f : State → State) (s : State) : State :=
  s.spdmAt conn 3 fun s => if (s.conn conn).session.isSome then f s else s.spdmFails conn unexpectedRequest

/-- KEY_UPDATE. -/
def execKeyUpdate (conn : BitVec 2) (s : State) : Host.Outcome State Fault Refusal :=
  .next (s.spdmInside conn fun s => s.spdmOut conn 0x69 [])

/-- SPDM_HEARTBEAT. -/
def execSpdmHeartbeat (conn : BitVec 2) (s : State) : Host.Outcome State Fault Refusal :=
  .next (s.spdmInside conn fun s => s.spdmOut conn 0x68 [])

/-- END_SESSION. -/
def execEndSession (conn : BitVec 2) (s : State) : Host.Outcome State Fault Refusal :=
  .next (s.spdmInside conn fun s => (s.setConn conn { s.conn conn with session := none }).spdmOut conn 0x6C [])

end Sys2Proof.Machine
end

