-- ==== Sys2Proof/Machine/Thermal.lean ====
section
/-! DEFINITION. Machine/Thermal.lean: sensors, housekeeping converters, the slow-down request, the damper and the critical
temperature (19_thermal_housekeeping.md R441 to R461). -/

namespace Sys2Proof.Machine

/-! ### Sensors (R441, R442, R458 to R460) -/

/-- The unit that an alarm of a sensor names: its die, or its hearth (Table 19-1). -/
def sensorPath (n : Nat) : Nat :=
  if n < 128 then pathUnit 0 n 7 0 else if n < 136 then pathDie 0 0 else if n < 138 then pathDie 3 0 else if n < 140 then pathDie 4 0
  else pathDie 5 0

/-- The neighbours of a sensor in Table 19-1. -/
def sensorNeighbours (n : Nat) : List Nat :=
  if n < 128 then gridNeighbours n
  else
    let g := if n < 140 then (List.range 4).map (n / 4 * 4 + ·) else [140, 141]
    g.filter (· != n)

/-- T_req in 1/16 °C. -/
def State.treq (s : State) : Int := (16 * s.od 0x2401 0 0 : Nat)

/-- A broken hearth sensor takes its hearth out of service as a fault, but in the cross-check mode with a neighbour that is not
broken, and on a part that holds the only live copy (R459, R460). -/
def State.crossChecks (s : State) (n : Nat) : Bool := s.od 0x2406 0 0 == 1 && (sensorNeighbours n).any fun m => !s.broken m

def State.brokenHearth (n : Nat) (s : State) : State :=
  if n < 128 ∧ s.power n ≠ 0 ∧ s.crossChecks n = false ∧ s.onlyLive = false then s.takeOff n true else s

/-- Mark a sensor broken (R458). -/
def State.markBroken (n : Nat) (s : State) : State :=
  if s.broken n then s
  else
    let s := (s.setMask 18 0x2408 0 n true).bump 0x2411 0 3 1
    (s.raise { kind := .sensor, path := sensorPath n, detail := n }).brokenHearth n

/-- The value in use of a broken sensor. A hearth that it has taken out of service holds no value in use: it is never the hottest. -/
def State.brokenValue (s : State) (n : Nat) : Int :=
  if s.crossChecks n then
    let l := (sensorNeighbours n).filter fun m => !s.broken m
    l.foldl (fun a m => max a (s.sensor m)) (s.sensor (l.headD 0)) + (16 * s.od 0x2407 0 0 : Nat)
  else if n < 128 ∧ (s.power n = 0 ∨ s.offPending.any (fun e => e.1 == n) = true) then -1024
  else s.treq

/-- Values in use of the broken sensors, from this round on. -/
def State.brokenValues (s : State) : State :=
  (List.range 142).foldl (fun s n =>
    if s.broken n then
      let s := s.brokenHearth n
      { s with sensorUse := s.sensorUse.put 0 n (s.brokenValue n) }
    else s) s

/-- The sensor with the largest value in use, the lowest number on a tie, and that value. -/
def State.hottest (s : State) : Nat × Int :=
  (List.range 141).foldl (fun m i => if m.2 < s.sensor (i + 1) then (i + 1, s.sensor (i + 1)) else m) (0, s.sensor 0)

/-- 1/16 °C as m°C. -/
def milli (t : Int) : Nat := ofSigned 32 (divRne (t * 125) 2)

/-- The main side acts alone on a trip while the island is LOST (R457): a main-side reset, held, with TEMP_TRIP sent on. -/
def State.thermalStop (n : Nat) (s : State) : State :=
  { s.mainSideReset false 4 with thermalHold := true, islandLost := true }.sendToIsland true 0xD 0 (leBytes 2 n)

/-- A critical reading of a sensor that is not broken (R456, R457). -/
def State.critical (n : Nat) (s : State) : State :=
  let s := s.bump 0x2411 0 4 1
  if s.islandLost then s.thermalStop n else s.sendToIsland true 0xD 0 (leBytes 2 n)

/-- A reading of a sensor that a round takes: shown and in use where the sensor is not broken, a second bad round marks it broken,
and a critical one trips. -/
def State.takeReading (n : Nat) (t : Int) (ovr : Bool) (s : State) : State :=
  if s.broken n then s
  else
    let s := { s with sensorUse := s.sensorUse.put 0 n t, roundSeen := s.roundSeen ++ [(n, !badReading t ovr)] }.setOd 0x2410 (n + 1) 0 (milli t)
    let s := if badReading t ovr ∧ 1 ≤ s.badRounds.get 0 n then s.markBroken n else s
    if s.broken n = false ∧ (16 * s.od 0x2403 0 0 : Nat) ≤ t then s.critical n else s

/-- The end of a round for R458: a sensor without a good result, or with a bad one, has failed once more. -/
def State.settleRound (s : State) : State :=
  let s := (List.range 140).foldl (fun s n =>
    let mine := s.roundSeen.filter fun e => e.1 == n
    if !mine.isEmpty && mine.all (·.2) then { s with badRounds := s.badRounds.put 0 n 0 }
    else
      let k := s.badRounds.get 0 n + 1
      let s := { s with badRounds := s.badRounds.put 0 n k }
      if 2 ≤ k then s.markBroken n else s) s
  { s with roundSeen := [] }

/-! ### Sequences and triggers (R445 to R448) -/

/-- The U16 entries of one converter in a sequence object, up to the first with count 0; what stands while nothing has been written is
Table 19-5. -/
def seqEntries (blob : List Byte) (n c : Nat) : List Nat :=
  ((List.range n).map fun i => leAt blob (2 * (n * c + i)) 2).takeWhile fun e => 256 ≤ e

def defaultRegular : List Byte :=
  leBytes 64 0x8C00 ++ leBytes 64 0x12A0 ++ leBytes 64 (0x05B2 + 65536 * 0x02C0) ++ leBytes 64 0

def defaultInjected : List Byte := leBytes 16 0x01A0 ++ leBytes 16 0x01A8 ++ leBytes 16 0x01B2 ++ leBytes 16 0x01B3

def State.regularSeq (s : State) : List Byte := if s.blob 0x2500 0 = [] then defaultRegular else s.blob 0x2500 0
def State.injectedSeq (s : State) : List Byte := if s.blob 0x2501 0 = [] then defaultInjected else s.blob 0x2501 0

/-- The injected sequence in force (R210). -/
def State.injectedNow (s : State) : List Byte := if s.blobInForce 0x2501 0 = [] then defaultInjected else s.blobInForce 0x2501 0

/-- The channels of a list in order. -/
def channelsOf (entries : List Nat) : List Nat := entries.flatMap fun e => (List.range (e / 256)).map (e % 256 + ·)

/-- Whether a channel is in Table 19-2. -/
def channelKnown (c : Nat) : Bool :=
  decide (c ≤ 0x8B) || (decide (0xA0 ≤ c) && decide (c ≤ 0xB6)) || c == 0xC0 || c == 0xC1

/-- R446 for a regular sequence. -/
def regularGood (blob : List Byte) : Bool :=
  ((List.range 4).all fun c =>
    let l := channelsOf (seqEntries blob 32 c)
    decide (l.length ≤ 200) && l.all channelKnown) &&
  (List.range 140).all fun n => (channelsOf (seqEntries blob 32 0)).contains n

/-- R446 for an injected sequence. -/
def injectedGood (blob : List Byte) : Bool :=
  (List.range 4).all fun c =>
    let l := channelsOf (seqEntries blob 8 c)
    decide (l.length ≤ 16) && l.all channelKnown

/-- Converters 1 to 3 run while their bit of OD 0x2120 is set. -/
def State.converterRuns (s : State) (c : Nat) : Bool := c == 0 || s.enabled c

/-- A trigger starts an injected sequence; one that arrives while another runs is discarded. -/
def State.inject (kind : Nat) (s : State) : State :=
  if s.injected.isSome || s.mainState = 0 then s else { s with injected := some { kind := kind, left := [] } }.bump 0x2506 0 1 1

/-- DROOP_TRIGGER. -/
def execDroopTrigger (s : State) : Host.Outcome State Fault Refusal := .next (if s.inForce 0x2502 0 0 = 1 then s.inject 1 else s)

/-- DRIVE_EVENT_TRIGGER: the first DRV with L = 0 after a launch. -/
def execDriveEventTrigger (s : State) : Host.Outcome State Fault Refusal :=
  .next (
    if !s.driveArmed then s
    else
      let s := { s with driveArmed := false }
      if s.inForce 0x2502 0 1 = 1 then s.inject 2 else s)

/-! ### Results (R443, R444, R449) -/

/-- The result word of a conversion (Table 19-3). -/
def resultWord (code : Nat) (ovr : Bool) : Nat := flagNat ovr * 32768 + 16384 + code

/-- A record enters the result buffer, in ring order (Table 19-6). -/
def State.bufferRecord (conv kind chan word : Nat) (s : State) : State :=
  if s.hkBuffer.2 = 0 then s
  else
    let r := leBytes 8 s.now ++ leBytes 1 conv ++ leBytes 1 kind ++ leBytes 1 chan ++ leBytes 1 0 ++ leBytes 2 word ++ leBytes 2 s.hkSeq
    let s := s.writeStack (s.hkBuffer.1 + s.hkOffset) r
    let s := { s with hkSeq := (s.hkSeq + 1) % 65536 }
    if s.hkOffset + 16 < s.hkBuffer.2 then { s with hkOffset := s.hkOffset + 16 } else { s with hkOffset := 0 }.bump 0x2506 0 3 1

/-- A result is stored: the latest of its channel, the last 16 of its converter, the buffer; then what a sensor's reading does. -/
def State.storeResult (conv kind chan code : Nat) (ovr : Bool) (s : State) : State :=
  let w := resultWord code ovr
  let s := { s with hkLatest := s.hkLatest.put 0 chan w }
  let old := s.blob 0x2505 0 ++ List.replicate (128 - (s.blob 0x2505 0).length) 0
  let s := s.setBlob 0x2505 0 (patch old (32 * conv) (slice (32 * conv + 2) 30 old ++ leBytes 2 w))
  let s := (if ovr then s.bump 0x2506 0 2 1 else s).bufferRecord conv kind chan w
  if chan ≤ 139 then s.takeReading chan ((code : Int) - 1024) ovr else s

/-- HOUSEKEEPING_CONVERSION: one conversion, of the injected sequence while it runs. -/
def execHousekeepingConversion (conv : BitVec 2) (chan : Byte) (code : BitVec 12) (ovr : Bool) (s : State) : Host.Outcome State Fault Refusal :=
  .next (
    let c := conv.toNat
    if !s.converterRuns c || !channelKnown chan.toNat || s.mainState = 0 then s
    else match s.injected with
      | none => s.storeResult c 0 chan.toNat code.toNat ovr
      | some j =>
        let n := j.left.getD c 0
        if n = 0 then s.storeResult c 0 chan.toNat code.toNat ovr
        else
          let left := j.left.set c (n - 1)
          { s with injected := if left.all (· == 0) then none else some { j with left := left } }.storeResult c j.kind chan.toNat code.toNat ovr)

/-- INJECTED_SAMPLE: the four converters sample the first channels of their injected lists at one instant. -/
def execInjectedSample (codes : List (BitVec 12 × Bool)) (s : State) : Host.Outcome State Fault Refusal :=
  .next (
    match s.injected with
    | none => s
    | some j =>
      if j.left ≠ [] then s
      else
        let chans (c : Nat) : List Nat := if s.converterRuns c then channelsOf (seqEntries s.injectedNow 8 c) else []
        let left := (List.range 4).map fun c => (chans c).length - 1
        let firsts := (List.range 4).map fun c => (chans c).head?
        let s := { s with injected := if left.all (· == 0) then none else some { j with left := left } }
        (codes.zip firsts).zipIdx.foldl (fun s e => match e.1.2 with
          | some ch => s.storeResult e.2 j.kind ch e.1.1.1.toNat e.1.1.2
          | none => s) s)

/-! ### Damper (R451 to R455) -/

/-- Power is known while converters 1 and 2 run (R447). -/
def State.powerKnown (s : State) : Bool := s.enabled 1 && s.enabled 2

/-- The part power of a round, and those of the last second. -/
def State.takePower (s : State) : State :=
  let w := if s.powerKnown then Config.partPower ((List.range 23).map fun i => s.hkLatest.get 0 (0xA0 + i)) % 65536 else 0
  { s.setOd 0x2000 1 0 w with powerLog := (s.powerLog.filter fun e => decide (s.elapsed ≤ e.1 + 1000000000)) ++ [(s.elapsed, w)] }

/-- p_avg > p_sus or p_round > p_short; never while power is not known. -/
def State.overPower (s : State) : Bool :=
  s.powerKnown && (decide (s.od 0x2000 2 0 * s.powerLog.length < (s.powerLog.map (·.2)).sum) || decide (s.od 0x2000 3 0 < s.od 0x2000 1 0))

/-- p_avg ≤ 0.95 × p_sus. -/
def State.powerFell (s : State) : Bool :=
  !s.powerKnown || decide (100 * (s.powerLog.map (·.2)).sum ≤ 95 * s.od 0x2000 2 0 * s.powerLog.length)

/-- The request is withdrawn at C = 0 and hottest ≤ T_req − 3 K (R451). -/
def State.withdraw (s : State) : State :=
  if s.slowDown.isSome ∧ s.damperLevel = 0 ∧ s.hottest.2 ≤ s.treq - 48 then
    { s with slowDown := none }.raise { kind := .thermal, path := sensorPath s.hottest.1, detail := s.hottest.1 }
  else s

/-- The slow-down request (R451). -/
def State.slowDownRequest (s : State) : State :=
  if s.slowDown.isNone ∧ s.treq ≤ s.hottest.2 then
    ({ s with slowDown := some s.elapsed }.bump 0x2411 0 0 1).raise
      { kind := .thermal, path := sensorPath s.hottest.1, detail := s.hottest.1, alarm := true }
  else s.withdraw

/-- When the grace of the standing request ends. -/
def State.graceEnd (s : State) : Option Nat := s.slowDown.map fun t => t + 1000000 * s.od 0x2402 0 0

/-- The test that may raise C (R453). Before the grace has ended the power rule alone acts (DEDUCED). -/
def State.testUp (s : State) : State :=
  let ended := match s.graceEnd with
    | some t => decide (t ≤ s.elapsed) && decide (s.treq ≤ s.hottest.2)
    | none => false
  let s := { s with damperTest := s.elapsed }
  if ended || s.overPower then { s with damperLevel := min 7 (s.damperLevel + 1), damperAt := s.elapsed }.settleDamper else s

/-- DAMPER_GRACE_END: the first test after the grace. -/
def execDamperGraceEnd (s : State) : Host.Outcome State Fault Refusal :=
  .next (match s.graceEnd with
    | some t => if t ≤ s.elapsed ∧ s.damperTest < t then s.testUp else s
    | none => s)

/-- DAMPER_STEP_UP: the test every 5 ms. -/
def execDamperStepUp (s : State) : Host.Outcome State Fault Refusal :=
  .next (if s.damperTest + 5000000 ≤ s.elapsed ∧ s.mainUp = true then s.testUp else s)

/-- DAMPER_STEP_DOWN: the test every 50 ms after the last change of C. -/
def execDamperStepDown (s : State) : Host.Outcome State Fault Refusal :=
  .next (
    if s.elapsed < s.damperAt + 50000000 ∨ s.mainUp = false then s
    else
      let s := { s with damperAt := s.elapsed }
      if s.hottest.2 ≤ s.treq - 48 ∧ s.powerFell = true then { s with damperLevel := s.damperLevel - 1 }.settleDamper.withdraw else s)

/-! ### Rounds (R442, R447) -/

/-- What the end of a round does: broken sensors, the hottest value, power, the request, compensation, the calibration triggers and the
drift estimate (04 R98, R100, R108; 05 R128). -/
def State.endRound (s : State) : State :=
  let s := s.settleRound.brokenValues
  let s := ((s.setOd 0x2400 1 0 (milli s.hottest.2)).setOd 0x2400 2 0 s.hottest.1).takePower.slowDownRequest
  s.compensate.calTriggers.updateDrift

/-- Every hearth is BANKED or OFF, and OD 0x2504 asks for the low rate then (R450). -/
def State.wantsSlow (s : State) : Bool := s.od 0x2504 0 0 == 1 && (List.range 128).all fun h => decide (s.power h ≤ 1)

/-- When the next round is due: 250 µs after the one before, 1 ms at the low rate; the first at once (R447, R450). -/
def State.roundDue (s : State) : Bool :=
  s.od 0x2506 0 0 == 0 || decide (s.roundAt + (if s.hkSlow then 1000000 else 250000) ≤ s.elapsed)

/-- HOUSEKEEPING_ROUND: the round before it has ended, and the next starts on the buffer then named (R449), at the rate that holds from its
start (R450). A round commanded before it is due does not start. -/
def execHousekeepingRound (s : State) : Host.Outcome State Fault Refusal :=
  .next (
    if s.mainState = 0 ∨ s.roundDue = false then s
    else
      let s := if s.od 0x2506 0 0 = 0 then s else s.endRound
      let b := (s.od 0x2503 0 0, s.od 0x2503 0 1)
      let s := if s.hkBuffer = b then s else { s with hkBuffer := b, hkOffset := 0 }
      { s with roundAt := s.elapsed, hkSlow := s.wantsSlow }.bump 0x2506 0 0 1)

end Sys2Proof.Machine
end

