-- ==== Sys2Proof/Machine/Head.lean ====
section
/-! DEFINITION. Machine/Head.lean: the CADENCE edges (07 R172, R173) and what the head and the admitting part do at one: the switch edge,
a table's edge, admission holds, and the launch of at most one step (06 R142, R145, R148; 07 R174; 12 R298 to R300; 13 R309 to
R319; 20 R473). -/

namespace Sys2Proof.Machine

/-! ### Trees of a step (R309, R311, R318) -/

/-- Nodes at each depth are at most 8. -/
def widthsGood (nodes : List NodeWord) : Bool :=
  (List.range 8).all fun d => decide ((nodes.filter fun n => n.depth.toNat == d).length ≤ 8)

/-- Whether a tree record is valid. -/
def treeGood (t : TreeRec) : Bool :=
  let n := t.nodes.length
  !t.reserved && t.count.toNat == n && decide (1 ≤ n) && decide (n ≤ 32) && t.levels.toNat == levelsOf t.nodes && widthsGood t.nodes &&
  t.nodes.zipIdx.all fun e => !e.1.reserved &&
    (if e.2 = 0 then e.1.depth == 0 && e.1.parent == 0
     else match t.nodes[e.1.parent.toNat]? with
       | some p => decide (e.1.parent.toNat < e.2) && e.1.depth.toNat == p.depth.toNat + 1
       | none => false)

/-- Class H templates (Table 13-2): parent, head and guess of each node after the root. Guess 2 of head 1 is its rank 2; guess 2 of a later head is
its rank 1 below that (`State.guesses`). -/
def templateNodes : Nat → List (Nat × Nat × Nat)
  | 0 => [(0, 1, 1)]
  | 1 => [(0, 1, 1), (1, 2, 1), (2, 3, 1)]
  | 2 => [(0, 1, 1), (1, 2, 1), (2, 3, 1), (3, 4, 1)]
  | _ => [(0, 1, 1), (0, 1, 2), (1, 2, 1), (2, 2, 2), (3, 3, 1), (4, 3, 2), (5, 4, 1)]

/-- Build a template's tree; a guess with no candidate leaves out its node and subtree. `place` tells where each template node stands. -/
def growTemplate (guesses : List Nat) : List (Nat × Nat × Nat) → List (Option Nat) → List NodeWord → List NodeWord
  | [], _, nodes => nodes
  | (parent, head, rank) :: rest, place, nodes =>
    let tok := guesses.getD (2 * (head - 1) + (rank - 1)) 0xFFFFFFFF
    match place.getD parent none with
    | none => growTemplate guesses rest (place ++ [none]) nodes
    | some p =>
      if tok = 0xFFFFFFFF then growTemplate guesses rest (place ++ [none]) nodes
      else
        let depth := ((nodes[p]?).map fun n => n.depth.toNat + 1).getD 1
        growTemplate guesses rest (place ++ [some nodes.length]) (nodes ++ [nodeWord depth p tok])

/-- The tree of a class H step. -/
def templateTree (code root : Nat) (guesses : List Nat) : TreeRec :=
  treeRec 1 code (growTemplate guesses (templateNodes code) [some 0] [nodeWord 0 0 root])

/-- The tree of a prefill chunk: a chain. -/
def chunkTree (tokens : List Nat) : TreeRec :=
  treeRec 0 0 (tokens.zipIdx.map fun e => nodeWord (min e.2 7) (e.2 - 1) e.1)

/-! ### Which steps are ready (R300) -/

/-- A step that waits for an edge: its request, whether it is a chunk, its deadline and the order of its admission. -/
structure Ready where
  req : Nat
  chunk : Bool
  deadline : Nat
  order : Nat
deriving DecidableEq, Repr

/-- The draft condition of a class T step (R323). -/
def Request.draftReady (r : Request) : Bool := r.entry.cls != 2 || r.mode == 1 || r.mode == 3 || r.tree.isSome

/-- What a request has ready: a step to be restarted, its next chunk, or its next generating step. -/
def State.readyOf (s : State) (n : Nat) (r : Request) : Option Ready :=
  let ready (chunk : Bool) : Option Ready := some { req := n, chunk := chunk, deadline := r.entry.deadline.toNat, order := r.order }
  if !r.isActive || r.resuming || r.ending.isSome then none
  else match r.flights.find? fun f => f.step == 0 with
    | some f => if s.level r.tenant ≤ 0 then none else ready f.chunk
    | none =>
      if !r.holds || s.level r.tenant ≤ 0 || r.rest == [] then none
      else if !r.generating then ready true
      else if r.flights == [] && r.draftReady then ready false
      else none

/-- Earliest deadline, then earliest admission. -/
def Ready.before (a b : Ready) : Bool := decide (a.deadline < b.deadline) || (a.deadline == b.deadline && decide (a.order < b.order))

def firstReady (l : List Ready) : Option Ready :=
  l.foldl (fun best r => match best with
    | none => some r
    | some b => if r.before b then some r else best) none

/-- The step that launches at this edge. -/
def State.chooseStep (s : State) : Option Ready :=
  let l := s.reqList.filterMap fun e => s.readyOf e.1 e.2
  let chunk := firstReady (l.filter (·.chunk))
  let n := s.od 0x5804 2 0
  if n ≠ 0 ∧ n ≤ s.prefillEdges ∧ chunk.isSome = true then chunk
  else (firstReady (l.filter fun r => !r.chunk)).or chunk

/-! ### Launch (R174, R145) -/

/-- The flight of a request's next step, and the request once it has launched. -/
def State.nextFlight (s : State) (r : Request) (id edge : Nat) : Flight × Request :=
  match r.flights.find? fun f => f.step == 0 with
  | some f =>
    let g := { f with step := id, edge := edge }
    (g, { r with flights := r.flights.map fun x => if x = f then g else x })
  | none =>
    let f : Flight := { step := id, chunk := false, samples := true, free := false, first := r.first, tree := plainTree (r.rest.headD 0), m := r.m,
                        nodes := r.nodes, mode := r.mode, replays := 0, edge := edge }
    if !r.generating then
      let c := min (s.od 0x5804 1 0) (if r.refill = 0 then r.rest.length else r.refill)
      let toks := r.rest.take c
      let f := { f with chunk := true, samples := decide (r.rest.length ≤ c), free := r.refill != 0, tree := chunkTree toks }
      (f, { r with rest := r.rest.drop c, refill := r.refill - c, history := r.history ++ toks, first := r.first + toks.length, m := 0, nodes := [],
                   flights := r.flights ++ [f] })
    else
      let plain := r.entry.cls == 0 || r.mode == 1 || r.mode == 3
      let t := if plain then plainTree (r.rest.headD 0)
        else if r.entry.cls = 1 then templateTree (s.od 0x5C20 1 0) (r.rest.headD 0) r.guesses
        else r.tree.getD (plainTree (r.rest.headD 0))
      let f := { f with tree := t }
      (f, { r with flights := [f], m := 0, nodes := [], tree := none })

/-- Stage 0 checks the tree record of a step; an invalid one is launched as a plain step and counted (R311). -/
def State.checkTree (f : Flight) (r : Request) (s : State) : Flight × Request × State :=
  if treeGood f.tree || f.chunk then (f, r, s)
  else
    let g := { f with tree := plainTree (r.rest.headD 0) }
    (g, { r with flights := r.flights.map fun x => if x = f then g else x }, s.bump 0x5C22 0 8 1)

/-- The step header block of a flight (Table 14-7). -/
def flightHdr (r : Request) (f : Flight) : StepHdr :=
  { headEdge := BitVec.ofNat 64 f.edge, ctx := BitVec.ofNat 32 r.ctx, tenant := r.entry.tenant, positions := f.tree.count, variant := r.entry.variant,
    k := 0, cls := r.entry.cls, ctxLen := BitVec.ofNat 32 f.first, m := BitVec.ofNat 8 f.m,
    nodes := (f.nodes ++ List.replicate 8 0).take 8 |>.map (BitVec.ofNat 8), tree := f.tree }

/-- The head's input reaches a part as an ACT transfer that carries the step header block and eight zero bytes (the model's own: no
rule gives the head's input a transfer). It is kept until the head commits (R365). -/
def State.sendHead (f : Flight) (r : Request) (t : Nat) (s : State) : State :=
  let (tid, s) := s.send { kind := 1, cls := 1, targets := [t], step := f.step, gen := r.gen, kvGen := r.kvGen, stepHdr := some (flightHdr r f),
                           payload := List.replicate 8 0 }
  match tid.bind fun t => s.sending.find? fun o => o.hdr.tid.toNat == t with
  | some o => { s with retained := s.retained ++ [{ step := f.step, left := [t], send := o }] }
  | none => if tid.isSome then s else s.deliveryFailed f.step t 4

/-- Launch a flight: here where this part serves the HEAD entry, on the twin where only it holds the generation, and on both positions of
a LOCKSTEP entry that is not divided (R144); a MANAGER that is not the HEAD sends it there. -/
def State.launchFlight (f : Flight) (r : Request) (tick : Nat) (s : State) : State :=
  let id := f.step
  let here := s.isHead && s.inService
  if !here then ((s.entries.zipIdx.find? (·.1.head)).map fun e => s.entryTargets r.gen e.2 e.1).getD [] |>.foldl (fun s t => s.sendHead f r t) s
  else
    let s := s.setStep id { StepRec.fresh with
      hdr := some (flightHdr r f), gen := r.gen, kvGen := r.kvGen, headEdge := f.edge, edgeTick := tick, known := true, variant := r.entry.variant.toNat,
      sources := [s.endpoint] }
    -- the primary of a MIRROR HEAD entry tells its twin the input of a step to be shadow-checked (15 R370)
    let s := if s.shadowed id then s.mirrorToTwin id 7 (StepHdr.bytes (flightHdr r f) ++ leBytes 2 0 ++ List.replicate 6 0 ++ List.replicate 8 0) else s
    match s.twin with
    | none => s
    | some t =>
      let mode := (s.ownEntry.map (·.mode)).getD 0
      let mine := passes r.gen r.kvGen (s.od 0x5003 0 0) (s.od 0x5003 0 1)
      let twin := passes r.gen r.kvGen s.twinGen.1 s.twinGen.2
      if mode = 2 ∧ mine = true ∧ s.od 0x5007 0 0 = 0 ∧ (s.ownEntry.map fun e => e.serving.contains t) = some true then s.sendHead f r t
      else if (mode = 1 ∨ mode = 2) ∧ mine = false ∧ twin = true then s.handToTwin id t
      else s

/-- A step that samples launches: the parts that serve the token stage and, for classes H and T, the draft model hear of its request by a REQUEST
record, which Table 15-5 lets pass between the admitting part and any part (DESIGN CHOICE, log 90: no rule says how a request's parameters reach
stage 30). -/
def State.tellStages (n : Nat) (s : State) : State :=
  match s.req n with
  | none => s
  | some r =>
    let dests := s.tokenParts ++ if r.entry.cls = 0 then [] else s.draftParts
    (dests.eraseDups.filter (· != s.endpoint)).foldl (fun s d => s.mirrorTo 4 (requestBody n r (s.odAt r.tenant 0x5802 0 0)) d) s

/-- The step chosen at an edge launches; what keeps it from launching (a deadline, a generation no longer held) acts instead, and the
choice is made again. -/
def State.headLaunch (tick time : Nat) : Nat → State → State
  | 0, s => s
  | fuel + 1, s =>
    match s.chooseStep with
    | none => s
    | some x =>
      match s.req x.req with
      | none => s
      | some r =>
        if pastDeadline r.entry time then (s.endAtBoundary x.req 3).headLaunch tick time fuel
        else if s.retiredGens.contains r.gen || !s.rackHolds r.gen then (s.oldGeneration x.req).headLaunch tick time fuel
        else
          let id := s.nextStep
          let (f, r') := s.nextFlight r id time
          let (f, r', s) := s.checkTree f r'
          let s := { s with nextStep := id + 1, prefillEdges := if f.chunk then 0 else s.prefillEdges }.setReq x.req (some r')
          ((if f.samples then s.tellStages x.req else s).launchFlight f r' tick)

/-- The admitting part at an edge: an edge of a hold stays unused; while the barrier is not OPEN or cadence is LOST nothing launches. -/
def State.admitEdge (tick time : Nat) (s : State) : State :=
  let s := { s with prefillEdges := s.prefillEdges + 1 }
  match s.holdFor with
  | some n => { s with holdFor := if n ≤ 1 then none else some (n - 1) }
  | none => if s.od 0x5005 0 0 ≠ 0 ∨ s.cadenceLost = true then s else (s.headLaunch tick time (2 * s.requests.length + 1)).settleDrain

/-! ### Edges (R172, R173) -/

/-- What happens at an edge, received or generated. -/
def State.atEdge (tick : Nat) (s : State) : State :=
  let time := s.now
  let s := { s with edges := (s.edges ++ [(tick, time)]).drop (s.edges.length + 1 - 1024) }
  let s := (s.tableEdge time).switchEdge time
  if s.ready && s.isAdmitting then s.admitEdge tick time else s

/-- The tick of the latest edge. -/
def State.lastEdge (s : State) : Option Nat := s.edges.getLast?.map (·.1)

/-- One more correct edge while cadence is LOST; the fourth restores it. -/
def State.goodEdge (s : State) : State :=
  if !s.cadenceLost then s
  else if s.goodEdges + 1 < 4 then { s with goodEdges := s.goodEdges + 1 }
  else { s with cadenceLost := false, goodEdges := 0 }

/-- An edge off the grid in force: ignored and counted; four in a row on one grid are adopted at the next step boundary, at once where no
step is at work. -/
def State.offGrid (s : State) : State :=
  let g := s.grid ++ [(s.tick, s.now)]
  let s := { s.bump 0x2204 0 2 1 with grid := g.drop (g.length - 4), goodEdges := 0 }
  if s.stepRunning then s else s.adoptGrid

/-- CADENCE_EDGE: CADENCE is first sampled high. The first edge starts the grid and the second gives its period. A part in LOCAL makes its
own edges and takes none (R158). -/
def execCadenceEdge (s : State) : Host.Outcome State Fault Refusal :=
  .next (
    if s.mainState = 0 ∨ s.isLocal = true then s
    else
      let p := s.period
      match s.lastEdge with
      | none => (s.bump 0x2204 0 0 1).atEdge s.tick
      | some t =>
        if p = 0 then
          let d := s.tick - t
          if d < 100 ∨ 65535 < d then s.bump 0x2204 0 2 1 else ((s.setOd 0x2200 1 0 d).bump 0x2204 0 0 1).atEdge s.tick
        else if s.tick = t + p then ({ s with grid := [], missed := 0 }.goodEdge.bump 0x2204 0 0 1).atEdge s.tick
        else s.offGrid)

/-- CADENCE_EDGE_MISSING: no edge at the predicted tick; the part generates it. Without a reference part (LOCAL) every edge is made so,
and none is missed. -/
def execCadenceEdgeMissing (s : State) : Host.Outcome State Fault Refusal :=
  .next (
    if s.mainState = 0 then s
    else
      let p := if s.isLocal then s.od 0x2200 2 0 else s.period
      let due := match s.lastEdge with
        | some t => p != 0 && decide (t + p ≤ s.tick)
        | none => s.isLocal
      if !due then s
      else
        let s := if s.isLocal then (s.setOd 0x2200 1 0 p).bump 0x2204 0 0 1
          else { s with missed := s.missed + 1, goodEdges := 0 }.bump 0x2204 0 1 1
        s.atEdge ((s.lastEdge.map (· + p)).getD s.tick))

end Sys2Proof.Machine
end

