-- ==== Sys2Proof/Machine/FieldTest.lean ====
section
/-! DEFINITION. Machine/FieldTest.lean: fencing of digital units, in-field tests and the cover that the admitting part gives
(20_errors_test_chimney.md R465, R470 to R476). -/

namespace Sys2Proof.Machine

/-! ### Fencing a digital unit (R465) -/

/-- A digital unit is fenced at the next step boundary, at once where no step runs. -/
def State.fenceSoon (path : Nat) (s : State) : State :=
  if s.fencePending.contains path then s
  else
    let s := { s with fencePending := s.fencePending ++ [path] }
    if s.stepRunning then s else s.applyBoundary

/-- Two RESIDUE or PARITY records of a unit in distinct steps within 10 s. -/
def State.unitFails (s : State) (path : Nat) : Bool :=
  let l := s.residueLog.get [] path
  l.any fun a => l.any fun b => a.1 != b.1 && decide (a.2 ≤ b.2) && decide (b.2 ≤ a.2 + 10000000000)

/-- UNIT_FENCE. -/
def execUnitFence (unit : BitVec 32) (s : State) : Host.Outcome State Fault Refusal :=
  .next (
    let p := unit.toNat
    if s.unitFails p then { s with residueLog := s.residueLog.put [] p [] }.fenceSoon p else s)

/-! ### The status of a hearth's test (OD 0x6102): 0 IDLE, 1 DUE, 2 OVERDUE, 3 RUNNING, 4 FAILED -/

def State.testState (s : State) (h : Nat) : Nat := s.od 0x6102 (h + 1) 1
def State.setTestState (h v : Nat) (s : State) : State := s.setOd 0x6102 (h + 1) 1 v

/-- `extra` s after the interval that follows a hearth's last pass. -/
def State.testPast (s : State) (h extra : Nat) : Bool :=
  decide (s.od 0x6102 (h + 1) 0 + (s.od 0x6100 1 0 + extra) * 1000000000 ≤ s.now)

/-- TEST_DUE: the interval has passed since the last pass. -/
def execTestDue (h : HearthId) (s : State) : Host.Outcome State Fault Refusal :=
  .next (
    let n := h.toNat
    if (s.testState n = 0 ∨ s.testState n = 4) ∧ s.testPast n 0 = true then s.setTestState n 1 else s)

/-- TEST_OVERDUE: interval and grace have passed; an OVERDUE alarm. -/
def execTestOverdue (h : HearthId) (s : State) : Host.Outcome State Fault Refusal :=
  .next (
    let n := h.toNat
    if (s.testState n = 1 ∨ s.testState n = 4) ∧ s.testPast n (s.od 0x6100 3 0) = true then
      (s.setTestState n 2).raise { kind := .overdue, path := pathUnit 0 n 0 0, detail := n }
    else s)

/-- Whether the test engine may start a test of a hearth (R472, R476; 04 R104). While a steep or its calibration runs last, a test waits
(05 Table 05-8). -/
def State.mayTest (s : State) (h : Nat) : Bool :=
  s.enabled 12 && s.mainUp && decide ((s.testing.filter fun e => e.2 != 0).length < 8) && s.steep.isNone && !s.workHolds h && s.calState h != 3 && s.calImage == [] &&
    s.power h != 0 && s.covered h && !(s.stepRunning && bit s.kindleSet h)

/-- A test starts: 1 routine, 2 deep. -/
def State.startTest (h kind : Nat) (s : State) : State :=
  ({ s with testing := s.testing.put 0 h kind }.setTestState h 3).kindleThese [h]

/-- Deep tests that are asked for start as soon as they may. -/
def State.startDeeps (s : State) : State :=
  s.deepWanted.foldl (fun s h =>
    if s.mayTest h then { s with deepWanted := s.deepWanted.filter (· != h) }.startTest h 2 else s) s

/-- ROUTINE_TEST_START: a due test of a hearth, the deep one where that is asked for. -/
def execRoutineTestStart (h : HearthId) (s : State) : Host.Outcome State Fault Refusal :=
  .next (
    let s := s.startDeeps
    let n := h.toNat
    if (s.testState n = 1 ∨ s.testState n = 2) ∧ s.mayTest n = true ∧ s.deepWanted.contains n = false then s.startTest n 1 else s)

/-- Ask for a deep test of hearths. -/
def State.wantDeep (l : List Nat) (s : State) : State :=
  { s with deepWanted := s.deepWanted ++ l.filter fun h => !s.deepWanted.contains h }.startDeeps

def State.applyDeepTest (l : List Nat) (s : State) : Nat × State :=
  if l.any (fun h => s.testing.get 0 h != 0) then refuse codeBusy s
  else if l = [] then (0, s)
  else (0, (s.setOd 0x6101 0 cmdState 1).wantDeep l)

/-- DEEP_TEST (OD 0x6101). -/
def execDeepTest (rq : Requester) (mask : BitVec 128) (s : State) : Host.Outcome State Fault Refusal :=
  .next (s.access rq .command 0x6101 0 (leBytes 16 mask.toNat) (State.applyDeepTest ((List.range 128).filter (bit mask.toNat))))

/-- A TEST alarm: phase and element; the element is the array, site or 0 (DESIGN CHOICE). -/
def State.testAlarm (path phase element step : Nat) (s : State) : State :=
  s.raise { kind := .test, path := path, detail := phase * 2 ^ 24 + element % 2 ^ 24, step := step }

/-- The unit that a failure of phases 1 to 5 fences. -/
def phaseUnit (h phase : Nat) : Nat := pathUnit 0 h ([0, 0, 3, 1, 2, 5].getD phase 0) 0

/-- An array goes FENCED after a test finding, with a FENCE alarm. -/
def State.fenceArray (a : Nat) (s : State) : State :=
  if s.arrayState a = 3 then s else (s.setArrayState a 2).raise { kind := .fence, path := pathSite a, detail := 0 }

/-- One finding of Table 20-8. -/
def State.takeFinding (h : Nat) (s : State) : TestFinding → State
  | .phase n => if n = 0 then s else (s.testAlarm (phaseUnit h n.toNat) n.toNat 0 0).fenceSoon (phaseUnit h n.toNat)
  | .converter site conv =>
    (s.testAlarm (pathColumn (2 * site.toNat) (768 + conv.toNat)) 6 site.toNat 0).dropConverter site.toNat conv.toNat
  | .column a col =>
    let n := a.toNat
    let p := physColumn (s.remapTable n) col.toNat
    let s := s.testAlarm (pathColumn n p) 6 n 0
    if s.arrayState n = 3 then s else (s.raise { kind := .fence, path := pathColumn n p, detail := 2 }).remapOrWait n p 1
  | .digestMismatch a =>
    ((s.testAlarm (pathSite a.toNat) 6 a.toNat 0).fenceArray a.toNat).raise { kind := .steep, path := pathSite a.toNat, detail := 4 }
  | .rowsSilent a => (s.testAlarm (pathSite a.toNat) 6 a.toNat 0).fenceArray a.toNat
  | .fencedPasses a =>
    if s.arrayState a.toNat = 2 then { s with checks := s.checks.put CheckLog.fresh a.toNat CheckLog.fresh }.setArrayState a.toNat 0 else s

/-- Whether a finding is a failure. -/
def findingFails : TestFinding → Bool
  | .fencedPasses _ => false
  | .phase n => n != 0
  | _ => true

/-- The array a finding is about lies in the hearth under test. -/
def findingAt (h : Nat) : TestFinding → Bool
  | .phase _ => true
  | .converter site _ => site.toNat / 512 == h
  | .column a _ | .digestMismatch a | .rowsSilent a | .fencedPasses a => a.toNat / 1024 == h

/-- TEST_COMPLETE: the outcome is applied; the hearth is IDLE with a new pass, or FAILED. -/
def execTestComplete (h : HearthId) (findings : List TestFinding) (s : State) : Host.Outcome State Fault Refusal :=
  .next (
    let n := h.toNat
    if s.testing.get 0 n = 0 then s
    else
      let l := findings.filter (findingAt n)
      let bad := l.any findingFails
      let s := l.foldl (State.takeFinding n) { s with testing := s.testing.put 0 n 0 }
      let s := (s.bump 0x6102 (n + 1) 2 1).bump 0x6103 0 0 1
      let s := if bad then ((s.setTestState n 4).bump 0x6102 (n + 1) 3 1).bump 0x6103 0 1 1
        else (s.setTestState n 0).setOd 0x6102 (n + 1) 0 s.now
      let s := s.startDeeps.endCover
      -- a position that fails the test of its entry goes out of service as failed (15 R372)
      let s := if bad && s.entryTested then s.reportFailed else s
      let s := if s.deepWanted = [] ∧ s.testing.any (fun e => e.2 == 2) = false then { s with entryTested := false } else s
      if s.od 0x6101 0 cmdState = 1 ∧ s.deepWanted = [] ∧ s.testing.any (fun e => e.2 == 2) = false then s.endCommand 0x6101 0 0 else s)

/-! ### Cover (R473) -/

/-- The edges that a hold leaves unused, for work of `need` µs: idle window, need and two periods, in periods. -/
def State.holdEdges (s : State) (need : Nat) : Nat :=
  let p := max 1 (s.od 0x2200 1 0)
  ceilDiv ((s.od 0x6100 2 0 + need) * 1000 + 20 * p) (10 * p)

/-- What a part's due work needs, µs: a test, or the run of its hearths (04 R102). -/
def coverNeed (d : CoverDue) : Nat :=
  max (if d.overdue then 1600 else 0) (if d.calHearths = 0 then 0 else 10000 + ceilDiv d.calHearths.toNat 16 * 30000)

/-- The entry and position whose twin can cover a part in service: its twin is neither declared failed nor out of step with it. -/
def State.coverBy (s : State) (ep : Nat) : Option (Nat × Nat) :=
  (s.entryIndexOf ep).bind fun i => (s.entryAt i).bind fun e =>
    let twin := e.members.find? (· != ep)
    if (e.mode = 1 ∨ e.mode = 2) ∧ e.serving.contains ep = true ∧ twin.any (fun t => !s.declared.contains t && !s.syncing.contains t && s.genOf t == s.genOf ep) = true then
      some (i, if e.pos0 = ep then 2 else 1)
    else none

/-- COVER_POLL: what the admitting part has read of every part. A pair's twin takes its part's place at the next edge; parts without one
share one hold, at most one in 10 s. -/
def execCoverPoll (due : List CoverDue) (s : State) : Host.Outcome State Fault Refusal :=
  .next (
    if !s.isAdmitting || !s.ready then s
    else
      let l := due.filter fun d => (d.overdue || d.calHearths != 0) && ((s.entryIndexOf d.endpoint.toNat).bind s.entryAt).any fun e =>
        e.serving.contains d.endpoint.toNat
      let byTwin := l.filterMap fun d => s.coverBy d.endpoint.toNat
      let s := byTwin.foldl (fun s c =>
        let t := if s.tableNext = [] then s.blob 0x4110 0 else s.tableNext
        (s.issueTable (editFrom t c.1 c.2 none s.now)).bump 0x6103 0 2 1) s
      let alone := l.filter fun d => (s.coverBy d.endpoint.toNat).isNone
      let free := s.holdFor.isNone && (match s.heldAt with
        | some t => decide (t + 10000000000 ≤ s.elapsed)
        | none => true)
      if alone = [] ∨ free = false then s
      else { s with holdFor := some (s.holdEdges ((alone.map coverNeed).foldl max 0)), heldAt := some s.elapsed }.bump 0x6103 0 3 1)

end Sys2Proof.Machine
end

