-- ==== Sys2Proof/Machine/Twins.lean ====
section
/-! DEFINITION. Machine/Twins.lean: mirror records at the receiving side, shadow checks, declared failures and take-over, the tests of an
entry, spares and recovery, and the role commands (15_twins_topology.md R364 to R381). -/

namespace Sys2Proof.Machine

/-! ### Mirror records at a standby (R369, R377) -/

/-- A position that keeps a mirrored copy: it has a twin and is not in service. -/
def State.takesMirror (s : State) : Bool := s.twin.isSome && !s.inService

/-- A context record, made where it is missing. -/
def State.haveCtx (c tenant kvGen : Nat) (s : State) : State := if (s.ctx c).isNone then s.newCtx c tenant kvGen else s

/-- The frame of a page of a list; a free one of the stack where it has none. -/
def State.pageFrame (s : State) (l : PageList) (die n : Nat) : Option Nat := (l.frames.get none n).or (s.takeFrame die)

/-- Token slots of a page are written as another part has written them. Without a free frame the context is LOST here. -/
def State.mirrorSlots (die : Nat) (h : PageHdr) (entries : List KvSlot) (s : State) : State :=
  let c := h.ctx.toNat
  let s := s.haveCtx c h.tenant.toNat h.kvGen.toNat
  match s.ctx c with
  | none => s
  | some x =>
    let l := x.list h.layer.toNat h.head.toNat
    let n := h.first.toNat / 64
    match s.pageFrame l die n with
    | none => s.loseCtx c
    | some f =>
      let old : Page := (s.page f).getD { ctx := c, tenant := 0, layer := h.layer.toNat, head := h.head.toNat, first := 64 * n, kScale := 0,
                                          vScale := 0, kvGen := 0, state := 1, written := 0, slots := [] }
      let p := { old with tenant := h.tenant.toNat, kScale := h.kScale.toNat, vScale := h.vScale.toNat, kvGen := h.kvGen.toNat, state := h.state.toNat }
      let p := entries.foldl (fun p (e : KvSlot) => p.putSlot e.slot.toNat (e.k, e.v)) p
      let s := (s.setPage f p).modCtx c fun x => x.setList { l with die := die, frames := l.frames.put none n (some f) }
      entries.foldl (fun s e => if e.poison then s.poisonSlot f e.slot.toNat else s.cleanSlot f e.slot.toNat) s

/-- KV_ENTRY. -/
def execKvEntry (die : BitVec 1) (hdr : PageHdr) (entries : List KvSlot) (s : State) : Host.Outcome State Fault Refusal :=
  .next (if s.takesMirror then (s.mirrorSlots die.toNat hdr entries).relieve else s)

/-- KV_COMMIT; with a count of 0 the committed length is f (11 R272). -/
def execKvCommit (ctx : BitVec 32) (layer : BitVec 6) (head : BitVec 4) (f : BitVec 32) (m : BitVec 4) (nodes : List (BitVec 5)) (s : State) :
    Host.Outcome State Fault Refusal :=
  .next (
    let c := ctx.toNat
    if !s.takesMirror then s
    else if m = 0 then
      s.modCtx c fun x => { (x.setList { x.list layer.toNat head.toNat with committed := f.toNat }) with committed := f.toNat }
    else s.commitList c layer.toNat head.toNat f.toNat m.toNat (nodes.map (·.toNat)))

/-- A page list as another part holds it: pages it has dropped go, and it is committed as there (R369); a page that this part lacks comes
with its KV_ENTRY. -/
def State.editList (c : Nat) (e : ListEdit) (s : State) : State :=
  match s.ctx c with
  | none => s
  | some x =>
    let l := x.list e.layer.toNat e.head.toNat
    let keep := e.pages.map (·.toNat)
    let gone := l.frames.filterMap fun f => if keep.contains f.1 then none else f.2
    let s := gone.foldl (fun s f => { s with pages := s.pages.put none f none }) s
    s.modCtx c fun x => x.setList { l with die := e.die.toNat, committed := e.committed.toNat, frames := l.frames.filter fun f => keep.contains f.1 }

/-- A context record as another part holds it. A move to or from CELLAR each part makes for itself, and a context that this part has lost
stays LOST until its pages come (R285). -/
def State.editCtx (c : Nat) (e : ContextEdit) (s : State) : State :=
  let s := s.haveCtx c e.tenant.toNat e.kvGen.toNat
  let t := e.tier.toNat
  let stays := (s.ctx c).any fun x => x.tier == .cellar || x.tier == .lost
  let s := s.modCtx c fun x => { x with
    tenant := e.tenant.toNat, kvGen := e.kvGen.toNat, committed := e.committed.toNat,
    tier := if stays then x.tier else if t = 0 then .hot else if t = 1 then .warm else x.tier, since := s.elapsed }
  let s := e.lists.foldl (fun s l => s.editList c l) s
  if t < 2 && !stays then s.markPages c (t + 1) else s

/-- The answer of a part that cannot give its twin the copy of a context: a serving position, which has asked for it in vain, reports it LOST;
a standby says so to the serving position, and reports it LOST too where it holds nothing of it (11 R285). -/
def State.noCopy (c t tenant kvGen : Nat) (s : State) : State :=
  if s.inService then s.tierReport c 1
  else
    let s := s.mirrorTo 3 (lostBody c tenant kvGen) t
    if (s.ctx c).all fun x => x.tier == .lost then s.tierReport c 1 else s

/-- CONTEXT. A position whose context is LOST asks its twin for the copy so; a twin that has none answers with LOST (R377, 11 R285). -/
def execContext (ctx : BitVec 32) (c : ContextEdit) (s : State) : Host.Outcome State Fault Refusal :=
  .next (
    let n := ctx.toNat
    if c.tier = 3 then
      match s.twin, s.ctx n with
      | some t, some x =>
        let s := if x.tier = .hot ∨ x.tier = .warm then s.readCtx x else s
        match s.ctx n with
        | some y => if y.tier = .hot ∨ y.tier = .warm then s.mirrorTo 6 (s.copyBody n y) t else s.noCopy n t x.tenant x.kvGen
        | none => s
      | some t, none => s.noCopy n t c.tenant.toNat c.kvGen.toNat
      | none, _ => s
    else if s.takesMirror then s.editCtx n c else s)

/-- A sampler as a REQUEST record of the draft model's primary gives it. -/
def samplerOf (r : ReqMirror) : Sampler :=
  { mode := r.mode.toNat, miss := r.miss.toNat, left := r.fallback.toNat, steps := r.steps.toNat, accepted := r.accepted.toNat,
    classT := r.entry.cls == 2, root := (r.rest.head?).map (·.toNat), step := r.lastStep.toNat, m := r.m.toNat, nodes := r.nodes.map (·.toNat),
    gram := r.grammar.toNat }

/-- A REQUEST record: of request 0, a sampler's state, which the draft model's primary sends its twin and the admitting part (13 R328);
else a request of the admitting part, as its twin keeps it for a takeover, and as a serving part keeps it for its parameters: one record for
a context. -/
def State.mirrorRequest (r : ReqMirror) (s : State) : State :=
  if r.req = 0 then { s with samplers := s.samplers.put none r.ctx.toNat (some (samplerOf r)) }
  else if s.takesMirror then { s with mirrored := s.mirrored.put none r.req.toNat (some r) }
  else
    let l : Tab (Option ReqMirror) := s.mirrored.filter fun e => (e.2.map (·.ctx)) != some r.ctx
    { s with mirrored := l.put none r.req.toNat (some r) }

/-- REQUEST. -/
def execRequest (r : ReqMirror) (s : State) : Host.Outcome State Fault Refusal :=
  .next (if s.takesMirror || s.isAdmitting == (r.req == 0) then s.mirrorRequest r else s)

/-- STEP_DONE: every record of the step has been applied. -/
def execStepDone (step : BitVec 64) (s : State) : Host.Outcome State Fault Refusal :=
  .next (if s.takesMirror then s.modStep step.toNat fun r => { r with stepDone := true } else s)

/-- A context that this part has lost, or moved to CELLAR, makes room for the copy that comes whole. -/
def State.clearCopy (c : Nat) (s : State) : State :=
  match s.ctx c with
  | some x =>
    if x.tier = .hot ∨ x.tier = .warm then s
    else (s.freeFrames c).setCtx c { x with tier := .hot, lists := [], move := none, cellar := 0, cellarAt := 0, slotLen := 0 }
  | none => s

/-- COPY: a request, or a whole context with pages. Where it replaces a LOST context, that is then HOT, and is reported so. -/
def execCopy (c : CopyRec) (s : State) : Host.Outcome State Fault Refusal :=
  .next (
    match c with
    | .request r => if s.takesMirror then s.mirrorRequest r else s
    | .context ctx e die pages =>
      let n := ctx.toNat
      let lost := (s.ctx n).all fun x => x.tier == .lost
      let put (s : State) : State := pages.foldl (fun s p => s.mirrorSlots die.toNat p.1 p.2) ((s.clearCopy n).editCtx n e)
      if lost && e.tier == 0 && s.twin.isSome && s.od 0x4102 0 0 == 0 then (((put s).setTier n .hot 1).tierReport n 0).relieve
      else if s.takesMirror then (put s).relieve
      else s)

/-! ### Shadow checks (R370, R371) -/

/-- The inputs of a shadow check are complete: every REQUIRED slot has come; the HEAD has one. -/
def State.shadowComplete (s : State) (x : Shadow) : Bool :=
  if s.isHead then !x.inputs.isEmpty else s.requiredSlots.all fun n => x.inputs.any fun i => i.1 == n

/-- SHADOW_IN: an input of a step to be checked; skipped while an earlier shadow run lasts. The accepted input is its slot number U16, 6
reserved bytes and its data (the layout is the model's own). -/
def execShadowIn (step : BitVec 64) (hdr : StepHdr) (slot : BitVec 16) (input : List Byte) (s : State) : Host.Outcome State Fault Refusal :=
  .next (
    if !s.takesMirror || s.od 0x4100 1 0 != 2 then s
    else
      let add (x : Shadow) : Shadow := { x with inputs := x.inputs ++ [(slot.toNat, input)] }
      let new := add (Shadow.fresh step.toNat hdr)
      match s.shadow with
      | none => { s with shadow := some new }
      | some x =>
        if x.running && !x.ended then (if x.step = step.toNat then s else s.bump 0x4107 0 1 1)
        else { s with shadow := some (if x.step = step.toNat ∧ x.running = false then add x else new) })

/-- A step as its shadow run knows it: the fields of its header, this stage's generation, and the context's KV generation. -/
def State.shadowStep (s : State) (x : Shadow) : StepRec :=
  let gen := s.od 0x5003 0 0
  { StepRec.fresh with
    phase := .running, k := x.hdr.k.toNat, gen := gen, kvGen := ((s.ctx x.hdr.ctx.toNat).map (·.kvGen)).getD gen, hdr := some x.hdr,
    headEdge := x.hdr.headEdge.toNat, variant := x.hdr.variant.toNat, stepDone := (s.stepRec x.step).stepDone,
    inputs := x.inputs.map fun i => { slot := i.1, src := s.endpoint, tid := 0, data := i.2, poisoned := false, port := 0, reserve := 0, shared := 0,
                                      forwarded := false, waiting := [] } }

/-- SHADOW_RUN: once the input is complete the hearths are kindled, and when all are HOT and free their stokers start the step,
outside the cadence. A step that is at work here in its own right is not checked. -/
def execShadowRun (step : BitVec 64) (s : State) : Host.Outcome State Fault Refusal :=
  .next (
    match s.shadow with
    | none => s
    | some x =>
      if x.step ≠ step.toNat || x.running || !s.shadowComplete x || !s.programLoaded || (s.stepRec x.step).hdr.isSome then s
      else if !s.hearthsFree then s.kindleSetNow
      else
        ({ s with shadow := some { x with running := true, pages := s.pages, ctxs := s.ctxs, lines := s.stackLine } }.setStep x.step
          (s.shadowStep x)).startRun x.step)

/-- SHADOW_OUT: the primary's compare data; they are compared once the run has ended (R371). -/
def execShadowOut (step : BitVec 64) (theirs ours : List Byte) (s : State) : Host.Outcome State Fault Refusal :=
  .next (
    match s.shadow with
    | none => s
    | some x => if x.step ≠ step.toNat then s else { s with shadow := some { x with theirs := some (theirs, ours) } }.settleShadow)

/-! ### Spares and recovery (R379, R380) -/

def State.roleAlarm (action : Nat) (s : State) : State := s.raise { kind := .role, path := pathDie 0 0, detail := action }

def State.spares (s : State) : List Nat := (List.range (s.od 0x4115 0 0)).map fun i => s.od 0x4115 0 (i + 1)

def State.setSpares (l : List Nat) (s : State) : State :=
  let l := l.take 16
  (List.range 16).foldl (fun s i => s.setOd 0x4115 0 (i + 1) (l.getD i 0)) (s.setOd 0x4115 0 0 l.length)

/-- An entry of the main model that cannot serve for want of parts, and the position to fill: a SPLIT entry with a failed half, any other with
every position failed. -/
def State.lostPlace (s : State) : Option (Nat × Nat) :=
  (s.mainEntries.filterMap fun e =>
    let dead := e.2.members.filter s.declared.contains
    let lost := if e.2.mode = 3 then !dead.isEmpty else !dead.isEmpty && e.2.members.all fun m => s.declared.contains m || s.syncing.contains m
    if lost then some (e.1, if dead.head? = some e.2.pos0 then 0 else 1) else none).head?

/-- Assign the first listed spare to a place. -/
def State.assignSpare (entry pos : Nat) (replace : Bool) (s : State) : State :=
  match s.spares with
  | [] => { s with recovery := none }
  | x :: _ => ({ s with recovery := some { entry := entry, pos := pos, spare := x, replace := replace } }.roleAlarm 4).mirrorTo 0x0A
      (roleBody 4 entry x (s.od 0x4111 0 0)) x

/-- The MANAGER recovers a lost place where recovery is enabled and a spare is listed. -/
def State.recover (s : State) : State :=
  match s.recovery, s.lostPlace with
  | none, some (i, p) => if s.od 0x4116 0 0 = 1 ∧ s.spares ≠ [] then s.assignSpare i p false else s
  | _, _ => s

/-- ROLE_ASSIGN: a spare fetches the images of its entry and steeps. At the admitting part it asks for the replacement of a part in
service (R381; the model's own use of the record). -/
def execRoleAssign (endpoint : BitVec 64) (entry : BitVec 16) (seq : BitVec 32) (s : State) : Host.Outcome State Fault Refusal :=
  .next (
    let i := entry.toNat
    let ep := endpoint.toNat
    if ep = s.endpoint ∧ s.od 0x4100 1 0 = 0 then
      let src := leAt (s.blob 0x4113 0) (24 * i) 8
      let img := leAt (s.blob 0x4113 0) (24 * i + 8) 8
      let s := { s with assigned := some i }.setOd 0x4111 0 0 (max (s.od 0x4111 0 0) (if s.od 0x4111 0 0 = 0 then 0 else seq.toNat - 1))
      let (c, t) := ((s.setOd 0x5023 0 0 src).setOd 0x5023 0 1 img).applySteep 2 .a
      if c ≠ 0 then s else (t.send { kind := 6, cls := 0, targets := [src], payload := leBytes 8 img ++ leBytes 4 0xFFFFFFFF ++ leBytes 4 0 }).2
    else if s.isAdmitting && s.recovery.isNone then
      match s.entryIndexOf ep with
      | some k => s.assignSpare k (if (s.entryAt k).map (·.pos0) = some ep then 0 else 1) true
      | none => s
    else s)

/-- RECOVERY_COMPLETE: the MANAGER applies a table with the spare in the entry. -/
def execRecoveryComplete (entry : BitVec 16) (s : State) : Host.Outcome State Fault Refusal :=
  .next (
    match s.recovery with
    | none => s
    | some r =>
      if !s.isAdmitting || r.entry ≠ entry.toNat then s
      else match s.entryAt r.entry with
        | none => s
        | some e =>
          let service := if e.mode = 3 then 3 else if e.mode = 2 ∧ r.replace = true then 3 else 2 ^ r.pos
          let s := { s with recovery := none }.setSpares (s.spares.filter (· != r.spare))
          s.issueTable (s.editTable r.entry service (some (r.pos, r.spare)) s.now))

/-! ### Declaring a failure (R374 to R376) -/

/-- A request goes on from its last REQUEST record at the new admitting part. -/
def requestOf (r : ReqMirror) (now : Nat) : Request :=
  let words (l : List (BitVec 32)) : List Nat := l.map (·.toNat)
  { port := r.port, qp := r.qp.toNat, entry := r.entry, phase := if r.stage = 1 then .pending else .active, arrival := r.arrival.toNat,
    order := r.order.toNat, ctx := r.ctx.toNat, gen := r.gen.toNat, kvGen := r.kvGen.toNat, prompt := words r.prompt,
    bias := r.bias.map fun b => (b.1.toNat, b.2.toNat), awaiting := 0, rest := words r.rest, refill := r.refill.toNat,
    generating := r.generating, history := words r.history, first := r.history.length, m := r.m.toNat, nodes := r.nodes.map (·.toNat),
    guesses := words r.guesses, tree := none, tokensAt := now, mode := r.mode.toNat, flights := [], returned := r.returned.toNat,
    grammar := r.grammar.toNat, holds := false, ending := none, final := none, silent := false, resuming := false, lastStep := 0 }

/-- Take one mirrored request over; one that had ended leaves its kept context. -/
def State.adoptRequest (r : ReqMirror) (s : State) : State :=
  let q := requestOf r s.elapsed
  let t := q.tenant
  let s := s.setLevel t (toSigned 64 r.level.toNat)
  let s := { s with nextReq := max s.nextReq (r.req.toNat + 1), nextCtx := max s.nextCtx (r.ctx.toNat + 1),
                    nextOrder := max s.nextOrder (max r.arrival.toNat r.order.toNat + 1) }
  let s := if r.ctx = 0 then s else s.setTimer r.ctx.toNat (some { tier := if r.stage = 0 then .warm else .hot, since := s.elapsed, awaiting := [], lost := false })
  if r.stage = 0 then
    if q.keep ∧ r.ctx ≠ 0 then
      { s with kept := s.kept.put none q.ctx (some { tenant := t, gen := q.gen, kvGen := q.kvGen, history := q.history, m := q.m, nodes := q.nodes }) }
    else s
  else
    let f := if r.stage = 1 then 1 else 2
    let s := (s.setReq r.req.toNat (some q)).setOdAt t 0x5802 0 f (s.odAt t 0x5802 0 f + 1)
    (s.setQpStat q.key 4 (s.qpStat q.key 4 + 1)).serveSlots q.key

/-- The twin of pair 0 is the admitting part from now on (R376). -/
def State.becomeAdmitting (s : State) : State :=
  let l := s.mirrored.filterMap (·.2)
  l.foldl (fun s r => s.adoptRequest r) { s with mirrored := [] }

/-- The admitting endpoint changes, as the island stores it. -/
def State.setAdmitting (ep : Nat) (s : State) : State := (s.setOd 0x4100 2 0 ep).journaled (odKey 0 0x4100 2 0) 8

/-- What a part does when a position is declared failed: it routes around it, a standby takes over; when it was the admitting part, its twin
follows, and every part reports its generation to it. -/
def State.positionFails (ep seq : Nat) (s : State) : State :=
  if s.declared.contains ep then s
  else
    let heir := if ep = s.admitting then ((s.entryIndexOf ep).bind s.entryAt).bind fun e => e.members.find? fun m => m != ep && !s.declared.contains m else none
    let was := s.od 0x4100 1 0
    let s := s.failPosition ep seq
    let s := if was = 2 ∧ s.od 0x4100 1 0 = 1 then s.roleAlarm 2 else s
    match heir with
    | none => s
    | some h =>
      -- tables edited from the one in force name the heir (header offset 16)
      let t := patch (s.blob 0x4110 0) 16 (leBytes 8 h)
      let s := (s.setAdmitting h).setBlob 0x4110 0 (if s.blob 0x4110 0 = [] then [] else patch t 28 (leBytes 4 (crc32 (t.take 28))))
      (if h = s.endpoint then s.becomeAdmitting else s).reportGeneration

/-- The admitting part's report of a position is void. -/
def State.voidReport (ep : Nat) (s : State) : State :=
  match s.entryIndexOf ep with
  | none => s
  | some i =>
    let pos := if (s.entryAt i).map (·.pos0) = some ep then 0 else 1
    (s.setReport i pos 0 0).autoBarrier

/-- A spare that fails is listed no more; the next one is assigned in its place (R384). -/
def State.spareFails (ep : Nat) (s : State) : State :=
  let s := s.setSpares (s.spares.filter (· != ep))
  match s.recovery with
  | some r => if r.spare = ep then s.assignSpare r.entry r.pos r.replace else s
  | none => s

/-- The last position of a stage that held a generation other than the current one has failed: its requests are handled under R148 at once
(06 Table 06-4). -/
def State.endGeneration (g : Nat) (s : State) : State :=
  if g = 0 ∨ g = s.currentGen ∨ s.rackHolds g = true then s
  else (s.reqList.filter fun e => e.2.isActive && e.2.gen == g && !e.2.resuming).foldl (fun s (e : Nat × Request) =>
    s.discardSteps e.1 ((e.2.flights.map (·.step)).filter (· != 0))) s

/-- A position is declared failed (R374). The admitting part tells every part, and recovers what no twin covers. -/
def State.declareFailed (ep seq : Nat) (s : State) : State :=
  if s.declared.contains ep then s
  else
    let entry := (s.entryIndexOf ep).getD 0xFFFF
    let s := s.positionFails ep seq
    if !s.isAdmitting then s
    else
      let g := (s.genOf ep).getD 0
      let s := (((s.roleAlarm 1).voidReport ep).spareFails ep).endGeneration g
      let body := roleBody 2 entry ep (s.od 0x4111 0 0)
      let s := ((s.allParts ++ s.spares).eraseDups.filter (· != s.endpoint)).foldl (fun s p => s.mirrorTo 0x0A body p) s
      s.settleDrain.recover

/-- ROLE_FAILED: a position reports itself failed. -/
def execRoleFailed (endpoint : BitVec 64) (_entry : BitVec 16) (seq : BitVec 32) (s : State) : Host.Outcome State Fault Refusal :=
  .next (if endpoint.toNat = s.endpoint then s else s.declareFailed endpoint.toNat seq.toNat)

/-- ROLE_TAKEOVER: the admitting part has declared a position failed. The position itself stops launching when it hears of it (R375). -/
def execRoleTakeover (endpoint : BitVec 64) (_entry : BitVec 16) (seq : BitVec 32) (s : State) : Host.Outcome State Fault Refusal :=
  .next (s.positionFails endpoint.toNat seq.toNat)

/-- The admitting part hears that an entry has disagreed as often as R372 takes; during a test of an entry it takes no other (Table 15-6). -/
def State.doubt (i : Nat) (s : State) : State :=
  if s.entryTest.isSome ∨ s.doubtful.contains i = true then s else { s with doubtful := s.doubtful ++ [i] }

/-- ROLE_REPORT: a report about a position is probed by the admitting part. Without an endpoint it reports the disagreements of an entry; to a
position of a pair it says that one of the pair is under test, and the pair is SOLO (R372; the model's own uses of the record). -/
def execRoleReport (endpoint : BitVec 64) (entry : BitVec 16) (_seq : BitVec 32) (s : State) : Host.Outcome State Fault Refusal :=
  .next (
    let ep := endpoint.toNat
    if s.isAdmitting then (if ep = 0 then s.doubt entry.toNat else if ep = s.endpoint then s else s.probe ep)
    else if ep = s.endpoint ∨ s.twin = some ep then s.dropShadow.setPair 1
    else s)

/-- FAILURE_PROBE_TIMEOUT: no HEARTBEAT has answered the probe in OD 0x4106. -/
def execFailureProbeTimeout (endpoint : BitVec 64) (s : State) : Host.Outcome State Fault Refusal :=
  .next (
    match s.probes.find? fun p => p.1 == endpoint.toNat with
    | none => s
    | some p => if s.elapsed < p.2 + 1000 * s.od 0x4106 0 0 then s else s.declareFailed p.1 (s.od 0x4111 0 0 + 1))

/-! ### Heartbeats between parts -/

/-- The admitting part puts the twin of a part that is to drain in service at the next edge (R381). -/
def State.drainPart (ep : Nat) (s : State) : State :=
  match s.coverBy ep with
  | some c => s.issueTable (editFrom (if s.tableNext = [] then s.blob 0x4110 0 else s.tableNext) c.1 c.2 none s.now)
  | none => s

/-- With P0 lost and both positions answering, the pair is SOLO, with an alarm (R374). -/
def State.loseCover (ep : Nat) (s : State) : State :=
  if (s.twin = some ep ∨ ep = s.admitting) ∧ s.twin.isSome = true ∧ s.portUp 0 = false ∧ (s.od 0x4102 0 0 = 0 ∨ s.od 0x4102 0 0 = 2) then
    (s.setPair 1).roleAlarm 5
  else s

/-- MIRROR_HEARTBEAT: the answer to a probe, or a HEARTBEAT to answer. A twin that shows role DRAINED leaves the pair SOLO; a part in service
that shows it asks to drain (R381; the model's own use of the record). -/
def execMirrorHeartbeat (src : BitVec 16) (_serial : BitVec 64) (role : Byte) (_seq : BitVec 32) (s : State) : Host.Outcome State Fault Refusal :=
  .next (
    let ep := s.sourceOf src.toNat
    let asked := s.probes.any fun p => p.1 == ep
    let s := if asked then { s with probes := s.probes.filter fun p => p.1 != ep } else s.sendHeartbeat ep
    let s := s.loseCover ep
    if role ≠ 3 then s
    else
      let serves := ((s.entryIndexOf ep).bind s.entryAt).any fun e => e.serving.contains ep
      let s := if s.twin = some ep ∧ serves = false then s.setPair 1 else s
      if s.isAdmitting && serves then s.drainPart ep else s)

/-! ### Joining (R377, R379) -/

/-- The in-service bits of an entry once a position has joined it: for LOCKSTEP the position serves only once its copy is complete; for
other modes the bits stay. -/
def Entry.joinService (e : Entry) (ep : Nat) (copied : Bool) : Nat :=
  if e.mode ≠ 2 then e.service else if copied then 3 else if e.pos0 = ep then 2 else 1

/-- What every part notes when a position joins a pair: it has failed no longer, and gives cover once its copy is complete. -/
def State.noteJoin (ep : Nat) (copied : Bool) (s : State) : State :=
  let s := { s with declared := s.declared.filter (· != ep) }
  if copied then { s with syncing := s.syncing.filter (· != ep) }
  else if ((s.entryIndexOf ep).bind s.entryAt).any (fun e => e.mode == 1 || e.mode == 2) then s.noteSyncing ep else s

/-- The admitting part notes a JOIN and passes it on to every part. -/
def State.passJoin (i ep seq : Nat) (s : State) : State :=
  let s := s.noteJoin ep (decide (seq = joinDone))
  (s.allParts.filter fun m => m != ep && m != s.endpoint).foldl (fun s m => s.mirrorTo 0x0A (roleBody 3 i ep seq) m) s

/-- ROLE_JOIN: the admitting part lists a spare, or applies a table that names a returned position, and passes the record on. With the copy
complete the position gives cover, and for LOCKSTEP a table puts it in service (R377). -/
def execRoleJoin (endpoint : BitVec 64) (_entry : BitVec 16) (seq : BitVec 32) (s : State) : Host.Outcome State Fault Refusal :=
  .next (
    let ep := endpoint.toNat
    let copied := decide (seq.toNat = joinDone)
    if s.isAdmitting then
      match s.entryIndexOf ep with
      | none => (if s.spares.contains ep ∨ 16 ≤ s.spares.length then s else s.setSpares (s.spares ++ [ep])).recover
      | some i =>
        match s.entryAt i with
        | none => s
        | some e =>
          let s := s.passJoin i ep seq.toNat
          if copied ∧ e.mode ≠ 2 then s else s.issueTable (s.editTable i (e.joinService ep copied) none s.now)
    else if (s.entryIndexOf ep).isSome then s.noteJoin ep copied
    else s)

/-! ### The test of an entry (R372) -/

/-- A part runs the deep test of its kindle set: by itself, or as a forwarded command of OD 0x6101 with every hearth in its mask. The spec
names no message for it; this one is the model's own. -/
def State.orderTest (ep : Nat) (s : State) : State :=
  if ep = s.endpoint then { s with entryTested := true }.wantDeep s.kindleHearths
  else
    let req := noaWrite 0 0x6101 0 0 16 false (List.replicate 16 0xFF)
    s.sendEach { kind := 8, cls := 0, targets := [], payload := patch req 2 [3] } [ep]

/-- Put one position of an entry alone in service at the next edge. -/
def State.serveAlone (i service : Nat) (s : State) : State := s.issueTable (s.editTable i service none s.now)

/-- Both positions of a MIRROR entry hear that the pair is SOLO; a LOCKSTEP pair is so by the table. -/
def State.soloPair (i : Nat) (e : Entry) (s : State) : State :=
  if e.mode ≠ 1 then s
  else e.members.foldl (fun s m =>
    if m = s.endpoint then s.dropShadow.setPair 1 else s.mirrorTo 0x0A (roleBody 5 i m (s.od 0x4111 0 0)) m) s

/-- ENTRY_TEST, three events of an entry that has disagreed often enough: the position not in service (position 1 of a LOCKSTEP entry) is
tested while the other serves alone, then the other in its place; then the pair returns to its mode, with an alarm, the position tested last
joining it again (R377). `entryTest` holds the position under test, plus 2 in the second round. -/
def execEntryTest (entry : BitVec 16) (s : State) : Host.Outcome State Fault Refusal :=
  .next (
    let i := entry.toNat
    match s.entryAt i with
    | none => s
    | some e =>
      let pos (q : Nat) : Nat := if q = 0 then e.pos0 else e.pos1
      if !s.isAdmitting || (e.mode ≠ 1 ∧ e.mode ≠ 2) || e.members.any s.declared.contains then
        (if s.entryTest.map (·.1) = some i then { s with entryTest := none } else s)
      else match s.entryTest with
        | none =>
          if !s.doubtful.contains i then s
          else
            let q := if e.mode = 1 ∧ bit e.service 1 = true then 0 else 1
            (({ s with entryTest := some (i, q), doubtful := s.doubtful.filter (· != i) }.serveAlone i (2 ^ (1 - q))).soloPair i e).orderTest (pos q)
        | some (j, q) =>
          if j ≠ i then s
          else if q < 2 then ({ s with entryTest := some (i, 3 - q) }.serveAlone i (2 ^ q)).orderTest (pos (1 - q))
          else
            let s := { s with entryTest := none }.passJoin i (pos (q - 2)) (s.od 0x4111 0 0)
            (s.serveAlone i (2 ^ (3 - q))).roleAlarm 0)

/-! ### Role commands (R381) -/

/-- A standby stops mirroring at once; a part in service drains behind its twin. -/
def State.applyDrain (s : State) : Nat × State :=
  let role := s.od 0x4100 1 0
  if role = 2 then
    let s := (s.setOd 0x4100 1 0 3).setPair 1
    (0, match s.twin with
      | some t => s.dropShadow.sendHeartbeat t
      | none => s)
  else if role = 1 then
    if s.onlyLive then refuse onlyCopy s
    else
      let run (s : State) : State := s.setOd 0x4101 0 cmdState 1
      if s.isAdmitting then (0, (run s).drainPart s.endpoint)
      else
        let body := leBytes 8 (s.od 0x1000 0 0) ++ leBytes 1 3 ++ leBytes 4 (s.od 0x4111 0 0)
        (0, (run s).mirrorTo 9 body s.admitting)
  else refuse codeState s

/-- ROLE_DRAIN (OD 0x4101, 0x01). -/
def execRoleDrain (rq : Requester) (s : State) : Host.Outcome State Fault Refusal := .next (s.access rq .command 0x4101 0 [1] State.applyDrain)

/-- A DRAINED part rejoins where a table names it, else as a spare. -/
def State.applyRejoin (s : State) : Nat × State :=
  if s.od 0x4100 1 0 ≠ 3 ∨ s.calImage ≠ [] then refuse codeState s else (0, s.sendJoin (s.ownIndex.getD 0xFFFF))

/-- ROLE_RETURN (0x02). -/
def execRoleReturn (rq : Requester) (s : State) : Host.Outcome State Fault Refusal := .next (s.access rq .command 0x4101 0 [2] State.applyRejoin)

/-- A DRAINED part becomes SPARE, and joins as one. -/
def State.applyRelease3 (s : State) : Nat × State :=
  if s.od 0x4100 1 0 ≠ 3 then refuse codeState s
  else
    let s := s.setOd 0x4100 1 0 0
    (0, if s.admitting = 0 then s else s.sendJoin 0xFFFF)

/-- ROLE_RELEASE (0x03). -/
def execRoleRelease (rq : Requester) (s : State) : Host.Outcome State Fault Refusal := .next (s.access rq .command 0x4101 0 [3] State.applyRelease3)

/-- The MANAGER recovers a spare into this part's position; a worker asks it to. -/
def State.applyReplace (s : State) : Nat × State :=
  if !s.inService then refuse codeState s
  else if s.isAdmitting then
    if s.recovery.isSome then refuse codeBusy s
    else if s.spares = [] then refuse codeState s
    else match s.ownIndex, s.ownEntry with
      | some i, some e => (0, s.assignSpare i (if e.pos0 = s.endpoint then 0 else 1) true)
      | _, _ => refuse codeState s
  else (0, s.mirrorTo 0x0A (roleBody 4 (s.ownIndex.getD 0xFFFF) s.endpoint (s.od 0x4111 0 0)) s.admitting)

/-- ROLE_REPLACE (0x04). -/
def execRoleReplace (rq : Requester) (s : State) : Host.Outcome State Fault Refusal := .next (s.access rq .command 0x4101 0 [4] State.applyReplace)

end Sys2Proof.Machine
end

