-- ==== Sys2Proof/Machine/Power.lean ====
section
/-! DEFINITION. Machine/Power.lean: the main side's power and reset under the island: the rail sequencer, power commands, MAIN_RESET,
MAIN_OFF and TEMP_TRIP, the supervision of the main side, and resets of the island (17 R406 to R415; 22 R510 to R513). -/

namespace Sys2Proof.Machine

/-! ### Who runs -/

/-- The main-side code runs: its state is UP, UNRESPONSIVE or DRAINING. -/
def State.mainRuns (s : State) : Bool := s.mainState == 2 || s.mainState == 3 || s.mainState == 5

/-- The island's firmware runs. -/
def State.islandUp (s : State) : Bool := s.islandRun == 1

/-- An ISLAND record of the island: the main-side state. No heartbeat for 10 ms: the island stamps it with its own count (R409). -/
def State.islandRecord (event : Bool) (s : State) : State :=
  s.raiseIsland (decide (s.islandHeard + 10000000 ≤ s.elapsed)) { kind := .island, path := pathDie 5 0, detail := s.mainState, event := event }

/-- The main side holds the island LOST: an alarm on the PCIe event rings (R412). -/
def State.loseIsland (s : State) : State :=
  if s.islandLost || !s.mainRuns then s
  else ({ s with islandLost := true }.bump 0x1301 0 6 1).raise { kind := .island, path := pathDie 5 0, detail := s.mainState }

/-! ### Rails (R510 to R512) -/

/-- The enable that power-up waits for: the highest that is set. -/
def topEnable (w : Nat) : Option Nat := ([5, 4, 3, 2, 1, 0].filter (bit w)).head?

/-- Whether the sequencer brings the rails up. -/
def State.sequencing (s : State) : Bool := s.mainState == 1 && s.seq.down.isNone && !s.seq.released

/-- An alarm that names a rail by its SEQ number. -/
def State.railAlarm (n : Nat) (s : State) : State :=
  s.raiseIsland (decide (s.islandHeard + 10000000 ≤ s.elapsed))
    { kind := .island, path := pathDie 5 n, detail := s.mainState }

/-- POWER_GOOD: the next enable follows. -/
def execPowerGood (n : BitVec 3) (s : State) : Host.Outcome State Fault Refusal :=
  .next (
    let k := n.toNat
    if !s.islandUp || !s.sequencing || 5 < k || bit s.seq.enables k == false || bit s.seq.goods k then s
    else
      let q := { s.seq with goods := setBit s.seq.goods k true, stepAt := s.elapsed }
      if k = 5 then { s with seq := q } else { s with seq := { q with enables := setBit q.enables (k + 1) true } }.emit (.rail (k + 1) true))

/-- POWER_GOOD_TIMEOUT: 3 ms after its enable a power-good has not come; every enable falls, and after 1 s the island tries again, three
times in all. -/
def execPowerGoodTimeout (n : BitVec 3) (s : State) : Host.Outcome State Fault Refusal :=
  .next (
    let k := n.toNat
    if !s.islandUp || !s.sequencing || topEnable s.seq.enables != some k || bit s.seq.goods k || decide (s.elapsed < s.seq.stepAt + 3000000) then s
    else
      let fails := s.seq.fails + 1
      { s.railAlarm k with seq := { s.seq with fails := fails } }.startPowerDown true (decide (fails < 3)))

/-- POWER_GOOD_LOST: a forced MAIN_OFF; the island starts the main side once more, but not after a second loss within 60 s. -/
def execPowerGoodLost (n : BitVec 3) (s : State) : Host.Outcome State Fault Refusal :=
  .next (
    let k := n.toNat
    if !s.islandUp || s.mainState == 0 || s.seq.down.isSome || bit s.seq.goods k == false then s
    else
      let twice := match s.seq.lostAt with
        | some t => decide (s.elapsed ≤ t + 60000000000)
        | none => false
      let s := (s.railAlarm k).sendOff true
      { s with seq := { s.seq with goods := setBit s.seq.goods k false, lostAt := some s.elapsed } }.startPowerDown true (!twice))

/-- POWER_UP_RETRY: 1 s after the rails have fallen. -/
def execPowerUpRetry (s : State) : Host.Outcome State Fault Refusal :=
  .next (
    if s.islandUp && s.mainState == 0 && s.seq.enables == 0 && s.seq.down.isNone && s.seq.again && decide (s.seq.stepAt + 1000000000 ≤ s.elapsed) then s.startSequence
    else s)

/-- POWER_DOWN_STEP: the last enable falls; with none left the main side is OFF and has lost all that its rails held. -/
def execPowerDownStep (s : State) : Host.Outcome State Fault Refusal :=
  .next (
    match s.seq.down, topEnable s.seq.enables with
    | some _, some k =>
      let q := { s.seq with enables := setBit s.seq.enables k false, goods := setBit s.seq.goods k false, stepAt := s.elapsed }
      let s := { s with seq := q }.emit (.rail k false)
      if q.enables = 0 then { s.mainSideReset true 0 with seq := { q with down := none } } else s
    | some _, none => { s.mainSideReset true 0 with seq := { s.seq with down := none } }
    | none, _ => s)

/-- MAIN_SIDE_RESET_RELEASED: 22 ms after the start of sequencing and 4 ms after SEQ_PG5 at the least; the reference is acquired. The time
of the start is that of SEQ_PG5 less the 18 ms of Table 22-5 where every step took its full time: the 4 ms are what holds in every case. -/
def execMainSideResetReleased (s : State) : Host.Outcome State Fault Refusal :=
  .next (
    if !s.islandUp || !s.sequencing || s.seq.goods != 63 || decide (s.elapsed < s.seq.stepAt + 4000000) then s
    else { s with seq := { s.seq with released := true, fails := 0 }, refSince := s.elapsed }.setOd 0x2100 2 0 1)

/-! ### Off and reset (R406, R411, R414) -/

/-- The island powers the main side off. -/
def State.powerOff (forced : Bool) (s : State) : State :=
  let s := if s.od 0x1300 1 cmdState = 1 then s.endCommand 0x1300 1 0 else s
  (s.sendOff forced).startPowerDown forced false

/-- MAIN_OFF at the main side's end of the barrier. -/
def execMainOff (forced : Bool) (s : State) : Host.Outcome State Fault Refusal :=
  .next (if s.mainState = 0 then s else s.mainSideReset true (if forced then 4 else 5))

/-- MAIN_RESET at the main side's end of the barrier; the reference is acquired anew. -/
def execMainReset (s : State) : Host.Outcome State Fault Refusal :=
  .next (if s.mainState = 0 then s else s.mainSideReset false 4)

/-- TEMP_TRIP at the island (R411). -/
def execTempTrip (sensor : BitVec 16) (s : State) : Host.Outcome State Fault Refusal :=
  .next (if !s.islandUp || s.mainState == 0 || decide (141 < sensor.toNat) then s else s.powerOff true)

def State.applyPowerOn (s : State) : Nat × State :=
  if s.mainState ≠ 0 then refuse codeState s
  else (0, { s with seq := { s.seq with fails := 0, lostAt := none } }.startSequence)

/-- POWER_ON (OD 0x1300.01, 0x01). -/
def execPowerOn (rq : Requester) (s : State) : Host.Outcome State Fault Refusal :=
  .next (s.access rq .command 0x1300 1 [1] State.applyPowerOn)

/-- The role is drained first, where the part has one. -/
def State.applyOrderlyOff (s : State) : Nat × State :=
  if s.onlyLive then refuse onlyCopy s
  else if s.mainState = 0 then refuse codeState s
  else
    let s := if s.ready && (s.od 0x4100 1 0 == 1 || s.od 0x4100 1 0 == 2) then s.applyDrain.2 else s
    (0, (s.setOd 0x1300 3 0 5).setOd 0x1300 1 cmdState 1)

/-- ORDERLY_OFF (0x02). -/
def execOrderlyOff (rq : Requester) (s : State) : Host.Outcome State Fault Refusal :=
  .next (s.access rq .command 0x1300 1 [2] State.applyOrderlyOff)

/-- ORDERLY_OFF_DRAINED: the role is drained and no steep runs (R425). -/
def execOrderlyOffDrained (s : State) : Host.Outcome State Fault Refusal :=
  .next (
    if s.mainState ≠ 5 ∨ s.seq.down.isSome = true ∨ s.steep.isSome = true ∨ s.od 0x4100 1 0 = 1 ∨ s.od 0x4100 1 0 = 2 then s
    else s.powerOff false)

def State.applyMainReset (s : State) : Nat × State := if s.mainState = 0 then refuse codeState s else (0, s.sendReset)

/-- MAIN_SIDE_RESET_COMMAND (0x03). -/
def execMainSideResetCommand (rq : Requester) (s : State) : Host.Outcome State Fault Refusal :=
  .next (s.access rq .command 0x1300 1 [3] State.applyMainReset)

def State.applyForcedOff (s : State) : Nat × State := if s.mainState = 0 then refuse codeState s else (0, s.powerOff true)

/-- FORCED_POWER_OFF (OD 0x1300.02). -/
def execForcedPowerOff (rq : Requester) (s : State) : Host.Outcome State Fault Refusal :=
  .next (s.access rq .command 0x1300 2 [1] State.applyForcedOff)

/-! ### Supervision (R410, R412) -/

/-- HEARTBEAT_MISSING: 10 consecutive heartbeats of the main side are missing. -/
def execHeartbeatMissing (s : State) : Host.Outcome State Fault Refusal :=
  .next (
    if s.islandUp && s.mainUp && decide (s.islandHeard + 10000000 ≤ s.elapsed) then (s.setOd 0x1300 3 0 3).islandRecord false else s)

/-- ISLAND_LOST: 10 heartbeats of the island are missing. -/
def execIslandLost (s : State) : Host.Outcome State Fault Refusal :=
  .next (if decide (s.mainHeard + 10000000 ≤ s.elapsed) then s.loseIsland else s)

/-- HANG_TIMEOUT: the main side is reset, or the hang is only reported. -/
def execHangTimeout (s : State) : Host.Outcome State Fault Refusal :=
  .next (
    if !s.islandUp || s.mainState != 3 || s.hangAlarmed || decide (s.elapsed < s.islandHeard + 1000000 * s.od 0x1302 1 0) then s
    else if s.od 0x1302 2 0 = 1 then { s with hangAlarmed := true }.sendReset
    else { s with hangAlarmed := true }.islandRecord false)

/-! ### Resets of the island (R415, R494, R513) -/

/-- An object of the island that is not stored: it returns to its default. The main-side state is learnt from the main side, which stays as
it is. -/
def islandVolatile (idx sub : Nat) : Bool :=
  islandServes idx sub && ((odRow? idx sub).map fun r => !r.stored).getD false && !(idx == 0x1300 && sub == 3)

/-- The island restarts in its ROM: sessions end, its V objects return to their defaults, the barrier starts anew; the main side is
unchanged, and holds the island LOST. -/
def State.islandReset (s : State) : State :=
  let s := s.loseIsland
  { s with islandRun := 0, islandAt := s.elapsed, conns := [], noaWaits := [], path2 := { queue := [], alarmAt := none },
           laneMainNormal := Lane.fresh, laneMainUrgent := Lane.fresh, laneIslandNormal := Lane.fresh, laneIslandUrgent := Lane.fresh,
           sideBits := s.od 0x6400 1 0, sideAt := s.elapsed,
           dict := s.dict.filter fun e => !islandVolatile (keyIndex e.1) (keySub e.1), hangAlarmed := false,
           blobs := s.blobs.filter fun e => !(keyIndex e.1 == 0x7005 && keyInst e.1 == 0) }

/-- The trial fails: the slot is FAILED, an alarm; the island resets itself into the other slot. -/
def State.failTrial (s : State) : State := ({ s.setSlotState s.runSlot 3 with trial := 0 }.islandRecord false).islandReset

/-- TRIAL_FAIL: the main side is not ready within 10 s of its start. -/
def execTrialFail (s : State) : Host.Outcome State Fault Refusal :=
  .next (if s.trial = 2 && s.islandUp && !s.ready && decide (s.boot.startAt + 10000000000 ≤ s.elapsed) then s.failTrial else s)

/-- ISLAND_RESET (OD 0x1300.04). -/
def execIslandReset (rq : Requester) (s : State) : Host.Outcome State Fault Refusal :=
  .next (s.access rq .command 0x1300 4 [1] fun s => (0, s.islandReset))

/-- ISLAND_WATCHDOG: 500 ms without service; a trial fails. -/
def execIslandWatchdog (s : State) : Host.Outcome State Fault Refusal :=
  .next (if s.islandRun = 0 then s else if s.trial = 2 then s.failTrial else s.islandReset)

/-- VISO_BROWN_OUT: between 3.0 V and 2.0 V the island is in reset and the enables keep their levels; below 2.0 V they fall. A trial starts
again at the next start. -/
def execVisoBrownOut (below2V : Bool) (s : State) : Host.Outcome State Fault Refusal :=
  .next (
    let s := { s with trial := if s.trial = 2 then 1 else s.trial }.islandReset
    if !below2V then s
    else
      let s := [5, 4, 3, 2, 1, 0].foldl (fun s k => if bit s.seq.enables k then s.emit (.rail k false) else s) s
      { s.mainSideReset true 0 with seq := Sequencer.fresh })

/-- VISO_POWER_ON: VISO enters its range; nothing volatile is left, and the island is to sequence the main side up once it runs. -/
def execVisoPowerOn (s : State) : Host.Outcome State Fault Refusal :=
  .next (
    if s.islandRun ≠ 0 ∨ s.seq.enables ≠ 0 then s
    else { s.mainSideReset true 0 with seq := { Sequencer.fresh with again := true }, islandAt := s.elapsed })

/-- The island runs a slot (Table 18-5: OD 0x1003). -/
def State.runIsland (n : Nat) (s : State) : State :=
  let img := s.slotImage n
  let s := (((s.setOd 0x1003 0 0 n).setOd 0x1003 0 1 (leAt img 12 2)).setOd 0x1003 0 2 (leAt img 14 2)).setOd 0x1003 0 3 (leAt img 16 2)
  { s with islandRun := 1, runSlot := n, islandAt := s.elapsed, islandHeard := s.elapsed }

/-- The ROM boots the ACTIVE slot, else the VALID one that passes; with neither it stays in ROM and keeps the main side off. -/
def State.romBoot (s : State) : State :=
  let a := s.activeSlot
  if s.slotState a = 2 && s.firmwareGood (s.slotImage a) then s.runIsland a
  else if s.slotState (1 - a) = 1 && s.firmwareGood (s.slotImage (1 - a)) then s.runIsland (1 - a)
  else { s with islandRun := 2 }

/-- ISLAND_BOOT: a trial that is pending boots its slot first; a slot other than the one before takes the main side along. -/
def execIslandBoot (s : State) : Host.Outcome State Fault Refusal :=
  .next (
    if s.islandRun ≠ 0 then s
    else
      let before := s.runSlot
      let n := 1 - s.activeSlot
      let tried := s.trial == 1
      let passes := s.firmwareGood (s.slotImage n)
      let s := if tried && passes then { s.runIsland n with trial := 2 }
        else if tried then ({ s.setSlotState n 3 with trial := 0 }.islandRecord false).romBoot
        else s.romBoot
      if !s.islandUp then (if s.mainState = 0 then s else s.powerOff true)
      else if s.mainState = 0 then (if s.seq.again && s.seq.enables == 0 then s.startSequence else s)
      else if s.runSlot ≠ before || (tried && !passes) then s.sendReset
      else s)

end Sys2Proof.Machine
end

