-- ==== Sys2Proof/Machine/Program.lean ====
section
/-! DEFINITION. Machine/Program.lean: program images (08 R188, R189, R524; Tables 08-3 to 08-9): the words a load checks, the
checks in their order, applying and unloading. -/

namespace Sys2Proof.Machine

/-! ### Instruction words (Table 08-6 to Table 08-13) -/

def opOf (w : Nat) : Nat := field w 63 60
def deltaOf (w : Nat) : Nat := field w 59 48
def isHlt (w : Nat) : Bool := opOf w == 10
def isBra (w : Nat) : Bool := opOf w == 9
def braCond (w : Nat) : Nat := field w 47 44
def braTarget (w : Nat) : Nat := field w 30 18
def isAlways (w : Nat) : Bool := isBra w && braCond w == 0
def waiTarget (w : Nat) : Nat := field w 22 10

/-- The words that can follow an instruction word at `p` (R189). -/
def nextWords (p w : Nat) : List Nat :=
  (if isHlt w || isAlways w then [] else [p + 1]) ++
  (if isBra w && braCond w != 1 then [braTarget w] else []) ++
  (if opOf w == 6 && bit w 23 then [waiTarget w] else [])

def wordInside (p : Nat) : Bool := decide (64 ≤ p) && decide (p ≤ 8191)

/-- Widths of an operation (Table 08-11): F16 alone, I4 and I8, or any. -/
def widthListed (vop w : Nat) : Bool :=
  if vop = 0x12 then decide (w < 2)
  else if vop = 0x05 ∨ (0x0D ≤ vop ∧ vop ≤ 0x11) ∨ (0x13 ≤ vop ∧ vop ≤ 0x18) then w == 3
  else true

/-- What ILLEGAL refuses of a VEC word (R198). -/
def vecIllegal (w : Nat) : Bool :=
  let vop := field w 47 42
  decide (0x1E < vop) || !widthListed vop (field w 41 40) || (vop == 0x15 && field w 34 30 == 31) ||
  ((vop == 0x16 || vop == 0x17) && field w 39 35 == 31) || (decide (vop < 2) && decide (15 < field w 19 15))

/-- What Table 08-5 calls ILLEGAL. -/
def wordIllegal (w : Nat) : Bool :=
  let op := opOf w
  op == 0 || decide (11 ≤ op) || deltaOf w == 0 ||
  (op == 1 && decide (field w 14 5 < field w 24 15)) ||
  (op == 3 && decide (32768 < field w 23 9 + 16 * field w 8 3)) ||
  (op == 4 && vecIllegal w) ||
  (op == 6 && field w 39 24 == 0) ||
  (op == 7 && decide (4 < field w 47 45)) ||
  (op == 8 && (field w 47 46 == 3 || field w 44 29 == 0)) ||
  (op == 9 && decide (8 < braCond w))

/-- The words reached from those of a list, at most `fuel` of them. -/
def reached (code : Nat → Nat) : Nat → List Nat → List Nat → List Nat
  | 0, _, seen => seen
  | _ + 1, [], seen => seen
  | fuel + 1, p :: todo, seen =>
    if seen.contains p || !wordInside p then reached code fuel todo seen
    else reached code fuel (nextWords p (code p) ++ todo) (p :: seen)

/-! ### A hearth's block of an image -/

/-- One hearth block of an image. -/
structure Block where
  h : Nat
  bytes : List Byte
deriving DecidableEq, Repr

def blockOf (img : List Byte) (h : Nat) : Block := { h := h, bytes := slice (blockOffset h) 98304 img }

def Block.at (b : Block) (off len : Nat) : Nat := leAt b.bytes off len
def Block.word (b : Block) (p : Nat) : Nat := b.at (8 * p) 8
def Block.entry (b : Block) (v : Nat) : Nat := b.at (40 + 2 * v) 2
def Block.count (b : Block) : Nat := b.at 56 2

/-- The checked words in ascending order (R189). A word has at most two that follow it. -/
def Block.checked (b : Block) : List Nat :=
  let from_ := (List.range 8).map b.entry
  let seen := reached b.word (8 + 3 * 8192) from_ []
  (List.range 8192).filter seen.contains

/-- A failure: result, hearth, word. -/
structure LoadFail where
  result : Nat
  hearth : Nat
  word : Nat
deriving DecidableEq, Repr

/-- The first failure of a list of checks. -/
def firstFail (h : Nat) (l : List (Bool × Nat × Nat)) : Option LoadFail :=
  (l.find? fun c => c.1).map fun c => { result := c.2.1, hearth := h, word := c.2.2 }

/-- Step 3.1 of R524: header check; FORMAT, SLOT and SPREAD fields. -/
def Block.headerFail (b : Block) (depth : Nat) : Option LoadFail :=
  let mhz := b.at 4 2
  let slot (n : Nat) : Bool :=
    (decide (2 < b.at (66 + 4 * n) 1) && b.at (66 + 4 * n) 1 != 0xFF) || (decide (6 < b.at (67 + 4 * n) 1) && b.at (67 + 4 * n) 1 != 0xFF)
  firstFail b.h ([(b.at 508 4 != crc32 (b.bytes.take 508), 2, 63),
    (b.at 0 2 != 1 || b.at 2 1 != b.h || !bit (b.at 7 1) 0 || decide (10 < b.at 6 1) || decide (mhz < 1500) || decide (3000 < mhz) || mhz % 125 != 0, 2, 0)] ++
    ((List.range 64).map fun n => (slot n, 8, (64 + 4 * n) / 8)) ++
    [(decide (b.at 6 1 < depth), 7, 0)])

/-- Step 3.2: KINDLE and VOCABULARY, against the lowest program's header. -/
def Block.agreeFail (b first : Block) : Option LoadFail :=
  let differs (off len : Nat) : Bool := b.at off len != first.at off len
  firstFail b.h ([(differs 3 1, 6, 0), (differs 8 8, 6, 1), (differs 16 16 || !bit (b.at 16 16) b.h, 6, 2),
    (differs 4 2 || differs 6 1, 6, 0), (differs 32 4 || differs 36 4, 6, 4)] ++
    ((List.range 8).map fun v => (differs (40 + 2 * v) 2, 6, (40 + 2 * v) / 8)) ++
    ((List.range 64).map fun n => (differs (64 + 4 * n) 4, 6, (64 + 4 * n) / 8)) ++
    ((List.range 8).map fun n => (differs (320 + 16 * n) 16, 6, (320 + 16 * n) / 8)) ++
    [(decide (262144 < b.at 448 4) || differs 448 4, 9, 56)])

/-- Step 3.3: entry points, then the checked words, ILLEGAL before TARGET at each. The TARGET field of a BRA NEVER or of a WAI without the
action BRANCH, which is never followed, is not checked (DESIGN CHOICE, log 215). -/
def Block.wordFail (b : Block) (checked : List Nat) : Option LoadFail :=
  firstFail b.h (((List.range 8).map fun v => (b.entry v != 0 && !wordInside (b.entry v), 4, (40 + 2 * v) / 8)) ++
    checked.flatMap fun p =>
      [(wordIllegal (b.word p), 3, p), (!(nextWords p (b.word p)).all wordInside, 4, p)])

/-- Descriptor `d` of the block breaks Table 08-5, or a checked word names it wrongly: at or above the count, or with
source registers of a latch load past v31. -/
def Block.badDesc (b : Block) (checked : List Nat) (d : Nat) : Bool :=
  let o := 65536 + 32 * d
  let nseg := b.at (o + 8) 1
  let nblk := b.at (o + 16) 1
  let names (p : Nat) : Bool :=
    let w := b.word p
    (opOf w == 1 && field w 43 34 == d) || (opOf w == 2 && field w 44 35 == d)
  let past (p : Nat) : Bool :=
    let w := b.word p
    opOf w == 1 && bit w 47 && field w 43 34 == d && decide (32 < field w 4 0 + ceilDiv nseg 2)
  if b.count ≤ d then checked.any names
  else nseg == 0 || decide (64 < nseg) || nblk == 0 || decide (31 < b.at (o + 10) 1) || popCount 64 (b.at o 8) != nblk * nseg ||
    decide (32768 < b.at (o + 12) 4 + 16 * nblk) || checked.any past

/-- Step 3.4: descriptors in ascending index. -/
def Block.descFail (b : Block) (checked : List Nat) : Option LoadFail :=
  if 1024 < b.count then some { result := 5, hearth := b.h, word := 7 }
  else firstFail b.h ((List.range 1024).map fun d => (b.badDesc checked d, 5, 65536 + d))

/-- Step 3 for hearth `h`. -/
def hearthFail (img : List Byte) (depth first h : Nat) : Option LoadFail :=
  let b := blockOf img h
  if !bit (leAt img 16 16) h then (if bit (b.at 7 1) 0 then some { result := 2, hearth := h, word := 0 } else none)
  else
    let checked := b.checked
    (b.headerFail depth).or ((b.agreeFail (blockOf img first)).or
      ((b.wordFail checked).or (b.descFail checked)))

/-- Judge an image from step 2 of R524 onward. -/
def judgeProgram (img : List Byte) (depth : Nat) : Option LoadFail :=
  let bad := img.length != 12582976 || leAt img 60 4 != crc32 (img.take 60) || leAt img 0 2 != 1 || leAt img 56 4 != crc32 (img.drop 64)
  if bad then some { result := 2, hearth := 0xFF, word := 0xFFFFFFFF }
  else
    let first := ((List.range 128).find? fun h => bit (leAt img 16 16) h).getD 0
    (List.range 128).findSome? (hearthFail img depth first)

/-- The layer slots that the checked DRV and ACC words name (R135). -/
def slotsNamed (img : List Byte) : List Nat :=
  let named := (List.range 128).flatMap fun h =>
    if bit (leAt img 16 16) h then
      let b := blockOf img h
      b.checked.filterMap fun p =>
        let w := b.word p
        if opOf w = 1 ∧ bit w 47 = false then some (field w 30 25) else if opOf w = 2 then some (field w 34 29) else none
    else []
  (List.range 64).filter named.contains

/-! ### The image as it reads back (R12) -/

/-- Low bits of an instruction word that are reserved in its class (R197, R199 to R205). -/
def lowReserved (op : Nat) : Nat :=
  if op = 2 ∨ op = 8 then 29 else if op = 3 then 2 else if op = 5 then 26 else if op = 6 then 10 else if op = 7 then 16
  else if op = 9 then 18 else if op = 10 then 48 else 0

/-- Bytes `lo` to `hi` of a string as 0. -/
def zeroRange (lo hi : Nat) (b : List Byte) : List Byte := b.zipIdx.map fun e => if lo ≤ e.2 ∧ e.2 ≤ hi then 0 else e.1

/-- A block with the reserved fields of its header (Table 08-4), of its checked words and of its descriptors (Table 08-9) reading 0. -/
def Block.shown (b : Block) : List Byte :=
  let checked := b.checked
  let word (p : Nat) : List Byte :=
    let w := b.word p
    let k := lowReserved (opOf w)
    leBytes 8 (if checked.contains p then w / 2 ^ k * 2 ^ k else w)
  let desc (d : Nat) : List Byte := zeroRange 17 31 (zeroRange 11 11 (slice (65536 + 32 * d) 32 b.bytes))
  zeroRange 452 507 (zeroRange 58 63 (b.bytes.take 512)) ++ (List.range 8128).flatMap (fun i => word (64 + i)) ++
    (List.range 1024).flatMap desc

/-- OD 0x3401 as it reads: the image last applied, with reserved fields 0. -/
def programShown (img : List Byte) : List Byte :=
  if img = [] then []
  else zeroRange 32 55 (zeroRange 3 7 (img.take 64)) ++ (List.range 128).flatMap fun h =>
    let b := blockOf img h
    if bit (leAt img 16 16) h then b.shown else b.bytes

/-- Show a load result (OD 0x3402). -/
def State.showLoad (result hearth word : Nat) (s : State) : State :=
  ((s.setOd 0x3402 0 1 result).setOd 0x3402 0 2 hearth).setOd 0x3402 0 3 word

/-- Apply an accepted image (R189). -/
def State.loadProgram (img : List Byte) (s : State) : State :=
  let s := ((s.setBlob 0x3401 0 img).showLoad 0 0 0).setOd 0x3402 0 0 1
  let s := s.setOd 0x3402 0 4 (leAt img 8 8)
  let s := { s with usedSlots := slotsNamed img }
  let variants := (List.range 8).foldl (fun n v => if s.headerAt (40 + 2 * v) 2 = 0 then n else n + 2 ^ v) 0
  let s := (s.setOd 0x3402 0 5 variants).setOd 0x2103 0 0 (if s.firstProgram.isSome then s.headerAt 6 1 else 10)
  s.refreshStage

def State.applyProgram (img : List Byte) (s : State) : Nat × State :=
  if !s.imageState then (codeState, s.showLoad 1 0xFF 0xFFFFFFFF)
  else match judgeProgram img (s.od 0x2102 1 0) with
    | some f => (codeFormat, s.showLoad f.result f.hearth f.word)
    | none => (0, s.loadProgram img)

/-- PROGRAM_IMAGE_WRITE (OD 0x3401). -/
def execProgramImageWrite (rq : Requester) (img : List Byte) (s : State) : Host.Outcome State Fault Refusal :=
  .next (s.access rq .write 0x3401 0 img (State.applyProgram img))

def State.applyUnload (s : State) : Nat × State :=
  if !s.imageState then refuse codeState s
  else
    let s := (((s.setBlob 0x3401 0 []).setOd 0x3402 0 0 0).setOd 0x3402 0 4 0).setOd 0x3402 0 5 0
    let s := { s with usedSlots := [] }.setOd 0x2103 0 0 10
    (0, s.refreshStage)

/-- PROGRAM_UNLOAD (OD 0x3400, 0x01). -/
def execProgramUnload (rq : Requester) (s : State) : Host.Outcome State Fault Refusal :=
  .next (s.access rq .command 0x3400 0 [1] State.applyUnload)

end Sys2Proof.Machine
end

