-- ==== Sys2Proof/Machine/Access.lean ====
section
/-! DEFINITION. Machine/Access.lean: every access to the object dictionary (18_object_dictionary.md): what a read returns, what a write
or command of each object does, and the two ways in which a host reaches it: OBJECT_WRITE and the mailbox (16 R389, R390). -/

namespace Sys2Proof.Machine

/-! ### Selections (R437) -/

/-- The unit that a requester's access of an object concerns: the requester's own selection, or the requester for a select object. -/
def State.instOf (s : State) (rq : Requester) (idx sub : Nat) : Nat :=
  let me := rqNo rq
  if (idx == 0x1210 || idx == 0x3100 || idx == 0x5406 || idx == 0x5800 || idx == 0x5806) && sub == 1 then me
  else if idx = 0x5C10 then me
  else if idx = 0x1210 ∧ (sub = 2 ∨ sub = 4) then qpKey (s.odAt me 0x1210 1 0) (s.odAt me 0x1210 1 1)
  else if idx = 0x3101 ∨ idx = 0x3105 ∨ idx = 0x3107 then s.odAt me 0x3100 1 0
  else if idx = 0x5801 ∨ idx = 0x5802 then s.odAt me 0x5800 1 0
  else if idx = 0x5C11 ∨ idx = 0x5C12 then s.odAt me 0x5C10 0 0
  else 0

/-! ### Reads -/

/-- OD 0x4200.02 and .03: granules of a die. -/
def State.poolStatus (s : State) (die : Nat) : List Byte :=
  let mine := s.holdings.filter fun h => h.port / 4 == die
  let used (l : List Holding) : Nat := (l.map fun h => h.reserve + h.shared).sum
  leBytes 2 (16384 - used mine) ++ leBytes 2 (mine.map (·.shared)).sum ++ leBytes 2 (used (mine.filter fun h => h.cls == 1)) ++
    leBytes 2 (used (mine.filter fun h => h.cls == 2)) ++ leBytes 4 (s.od 0x4200 (2 + die) 4)

/-- OD 0x5406.02: tenant, tier, KV generation, committed length, frames, time to live left in seconds. -/
def State.contextStatus (s : State) (c : Nat) : List Byte :=
  match s.ctx c with
  | none => List.replicate 19 0
  | some x =>
    let left := (x.since + s.ttl x.tier - s.elapsed) / 1000000000
    leBytes 2 x.tenant ++ leBytes 1 x.tier.rank ++ leBytes 4 x.kvGen ++ leBytes 4 x.committed ++ leBytes 4 x.frameList.length ++ leBytes 4 left

/-- The request of a context handle. -/
def State.requestOf (s : State) (c : Nat) : Option Request :=
  if c = 0 then none else (s.reqList.find? fun e => e.2.ctx == c).map (·.2)

/-- OD 0x5806.02: tag, tenant, state, tokens returned, chunks left, deadline, grammar state. -/
def State.requestStatus (s : State) (c : Nat) : List Byte :=
  match s.requestOf c with
  | none => List.replicate 31 0
  | some r =>
    let state := match r.phase with
      | .reading | .pending => 1
      | .active => if r.generating then 3 else 2
      | .ended => 4
    let chunks := if state = 2 then ceilDiv r.rest.length (max 1 (s.od 0x5804 1 0)) else 0
    leBytes 8 r.entry.tag.toNat ++ leBytes 2 r.tenant ++ leBytes 1 state ++ leBytes 4 r.returned ++ leBytes 4 chunks ++
      leBytes 8 r.entry.deadline.toNat ++ leBytes 4 r.grammar

/-- OD 0x5C23: what the sampler role keeps of a request. -/
def State.specStatus (s : State) (c : Nat) : List Byte :=
  match s.samplers.get none c with
  | none => patch (List.replicate 20 0) 0 (leBytes 1 (((s.reqOfCtx c).map fun e => e.2.mode).getD 0))
  | some x => leBytes 1 x.mode ++ leBytes 1 x.miss ++ leBytes 2 x.left ++ leBytes 8 x.steps ++ leBytes 8 x.accepted

/-- The results of a converter whose bit of OD 0x2120 is clear read VALID = 0 (R447). -/
def State.latestResults (s : State) : List Byte :=
  let b := s.blob 0x2505 0
  (List.range 64).flatMap fun i =>
    let w := leAt b (2 * i) 2
    leBytes 2 (if s.converterRuns (i / 16) then w else setBit w 14 false)

/-- OD 0x1001. -/
def orderingCode : List Byte := [0x53, 0x51, 0x34, 0x38, 0x31, 0x30, 0x2D, if Config.vaporChamber then 0x56 else 0x43]

/-- Objects whose value the part computes when it is read. -/
def State.computed (s : State) (rq : Requester) (idx sub : Nat) : Option (List Byte) :=
  if idx = 0x1001 then some orderingCode
  else if idx = 0x1200 ∧ (sub = 1 ∨ sub = 2) then some (patch (s.fieldBytes 0 0x1200 sub) 0 (leBytes 4 (s.portStatus (sub - 1))))
  else if idx = 0x2101 ∧ sub = 2 then some (leBytes 2 s.coreMhz)
  else if idx = 0x2110 ∧ sub = 1 then some (leBytes 8 s.now)
  else if idx = 0x2500 then some s.regularSeq
  else if idx = 0x2501 then some s.injectedSeq
  else if idx = 0x2505 then some s.latestResults
  else if idx = 0x2808 then some s.calBytes
  else if idx = 0x3405 ∧ 1 ≤ sub ∧ (s.hearth (sub - 1)).works = true then
    some (patch (s.fieldBytes 0 0x3405 sub) 1 (leBytes 2 (s.hearth (sub - 1)).pc))
  else if idx = 0x3401 then some (programShown (s.blob 0x3401 0))
  else if idx = 0x4200 ∧ (sub = 2 ∨ sub = 3) then some (s.poolStatus (sub - 2))
  else if idx = 0x5400 ∧ sub = 1 then some (leBytes 4 (s.frames0 + s.frames1))
  else if idx = 0x5400 ∧ sub = 2 then some (leBytes 4 (s.freeIn 0 + s.freeIn 1))
  else if idx = 0x5406 ∧ sub = 2 then some (s.contextStatus (s.odAt (rqNo rq) 0x5406 1 0))
  else if idx = 0x5407 then some (patch (s.fieldBytes 0 0x5407 0) 0 (leBytes 4 s.ctxCount))
  else if idx = 0x5806 ∧ sub = 2 then some (s.requestStatus (s.odAt (rqNo rq) 0x5806 1 0))
  else if idx = 0x5C11 then some (gramShown (s.grammar (s.odAt (rqNo rq) 0x5C10 0 0)))
  else if idx = 0x5C12 then
    let slot := s.odAt (rqNo rq) 0x5C10 0 0
    some (patch (s.fieldBytes slot 0x5C12 0) 7 (leBytes 4 (s.slotUsers slot)))
  else if idx = 0x5C23 then some (s.specStatus (s.odAt (rqNo rq) 0x5806 1 0))
  else if idx = 0x6003 then some ((List.range 64).flatMap fun k => leBytes 4 (s.od 0x6003 0 k))
  else none

/-- What OD 0x2808 holds in length; other byte strings have their fixed size or the length last accepted (R431). -/
def State.presentLength (s : State) (rq : Requester) (idx sub : Nat) (size : Nat) (fixed : Bool) : Nat :=
  if fixed then size else if idx = 0x2808 then calImageSize else if idx = 0x1001 then 8 else (s.blobAt (s.instOf rq idx sub) idx sub).length

/-- The bytes of a byte string. -/
def State.stringBytes (s : State) (rq : Requester) (idx sub size : Nat) (fixed : Bool) : List Byte :=
  match s.computed rq idx sub with
  | some b => b
  | none =>
    let b := s.blobAt (s.instOf rq idx sub) idx sub
    if fixed then b ++ List.replicate (size - b.length) 0 else b

/-- The value of an object as a read returns it (R429 to R435). -/
def State.valueOf (s : State) (rq : Requester) (idx sub : Nat) : List Byte :=
  match odRow? idx sub with
  | none => [BitVec.ofNat 8 (odHighest idx)]
  | some r =>
    if r.code = .cmd then leBytes 1 (s.od idx sub cmdState) ++ leBytes 1 (s.od idx sub cmdValue) ++ leBytes 2 (s.od idx sub cmdResult)
    else match r.type with
      | .num _ _ => (s.computed rq idx sub).getD (s.fieldBytes (s.instOf rq idx sub) idx sub)
      | .bytes n fixed => s.stringBytes rq idx sub n fixed

/-- The length that row 4 of Table 18-1 judges a read of a byte string by. -/
def State.lengthOf (s : State) (rq : Requester) (idx sub : Nat) : Nat :=
  match odRow? idx sub with
  | some r =>
    match r.type with
    | .bytes n fixed => s.presentLength rq idx sub n fixed
    | _ => 0
  | none => 0

/-- What a read is refused for beyond Table 18-1's common rows: the calibration image during a run (04 Table 04-7), and a queue pair of the
other port (16 R392). -/
def State.readBar (s : State) (rq : Requester) (idx sub : Nat) : Nat :=
  if idx = 0x2808 ∧ (s.calRun.isSome = true) then codeBusy
  else if idx = 0x1210 ∧ (sub = 2 ∨ sub = 4) ∧ (s.selectedQp rq).isNone = true then codeAccess
  else 0

/-! ### Ranges of numbers (R88, R109, R133, R156, R185, R287, R308, R358, R385, R403, R426, R440) -/

/-- Index, subindex, lowest and highest value of the numbers that a rule bounds. -/
def numberRanges : List (Nat × Nat × Nat × Nat) :=
  [(0x1100, 4, 100, 60000), (0x1302, 1, 10, 10000), (0x1302, 2, 0, 1), (0x1310, 2, 2, 16), (0x1310, 3, 20, 255), (0x1310, 4, 0, 7),
   (0x1313, 0, 1, 65535), (0x2000, 2, 300, 850), (0x2001, 0, 240, 1000), (0x2100, 3, 1, 1000), (0x2110, 3, 0, 7), (0x2200, 2, 100, 65535),
   (0x2202, 0, 1, 64), (0x2203, 0, 1, 64), (0x2401, 0, 70, 105), (0x2402, 0, 1, 1000), (0x2405, 0, 0, 7), (0x2406, 0, 0, 1),
   (0x2407, 0, 0, 20), (0x2801, 0, 1, 20), (0x3100, 1, 0, 131071)] ++
  [(0x4103, 0, 0, 4096), (0x4104, 1, 1, 7), (0x4104, 2, 1, 1000000), (0x4104, 3, 1, 16), (0x4104, 4, 16, 65536), (0x4105, 0, 1, 8),
   (0x4106, 0, 5, 1000), (0x5018, 1, 0, 3), (0x5018, 2, 100, 600000), (0x5026, 0, 1024, 16384), (0x5027, 0, 256, 8192), (0x5028, 0, 0, 1),
   (0x5402, 1, 1, 86400), (0x5402, 2, 60, 604800), (0x5800, 1, 0, 4095), (0x5804, 1, 1, 32), (0x5804, 2, 0, 64), (0x5805, 0, 1, 16384),
   (0x5C10, 0, 0, 15), (0x6008, 1, 0, 2), (0x6008, 2, 0, 6), (0x6100, 1, 600, 86400), (0x6100, 2, 500, 100000), (0x6100, 3, 60, 86400),
   (0x6400, 1, 8000, 1000000)]

/-- A number outside its range, or a BOOL that is neither 0 nor 1. -/
def numberBad (idx sub v : Nat) : Bool :=
  ((odRow? idx sub).any fun r => r.isBool && decide (1 < v)) ||
  numberRanges.any fun r => r.1 == idx && r.2.1 == sub && (decide (v < r.2.2.1) || decide (r.2.2.2 < v))

/-- Store a value with no more effect than that. -/
def State.plainWrite (rq : Requester) (idx sub : Nat) (data : List Byte) (s : State) : Nat × State :=
  let s := s.keepForStep idx sub
  if ((odRow? idx sub).any fun r => r.type.isBytes) then (0, s.setBlobAt (s.instOf rq idx sub) idx sub data)
  else if numberBad idx sub (leNat data) then refuse codeRange s else (0, s.putValue (s.instOf rq idx sub) idx sub data)

/-! ### Writes by chapter -/

/-- An aperture of BAR2 (R391): closed, or a multiple of 256 MiB wholly in a data area or in the soot ring. -/
def State.apertureGood (s : State) (a : Nat) : Bool :=
  a == 0 || (a % 2 ^ 28 == 0 && decide (a < 2 ^ 38) && (s.inDataArea (a % 2 ^ 37) (2 ^ 28) || (decide (sootBase ≤ a) && decide (a + 2 ^ 28 ≤ 2 ^ 38))))

/-- Objects of the host ports and of the island (16, 17). -/
def State.hostWriteObj (rq : Requester) (idx sub : Nat) (data : List Byte) (s : State) : Nat × State :=
  if idx = 0x1201 then
    if ([0, 1, 2, 3].all fun i => s.apertureGood (leAt data (8 * i) 8)) then s.plainWrite rq idx sub data else refuse codeRange s
  else if idx = 0x1210 ∧ sub = 1 then
    let port := leAt data 0 1
    if rqNo rq < 2 ∧ port < 2 ∧ port ≠ rqNo rq then refuse codeAccess s
    else if 1 < port ∨ 255 < leAt data 1 2 then refuse codeRange s
    else s.plainWrite rq idx sub data
  else if idx = 0x1210 ∧ sub = 2 then
    match s.selectedQp rq with
    | none => refuse codeAccess s
    | some k => if s.qpState k ≠ 0 then refuse codeState s else if !qpRecordGood data then refuse codeRange s else (0, s.putValue k 0x1210 2 (patch data 29 [0]))
  else if idx = 0x1310 ∧ sub = 1 then
    let v := leNat data
    if 15 < v ∧ v ≠ 0xFF then refuse codeRange s else s.plainWrite rq idx sub data
  else if idx = 0x1312 then
    if zeroAt data 0 16 == false && leAt data 16 2 == 0 then refuse codeRange s else s.plainWrite rq idx sub data
  else s.plainWrite rq idx sub data

/-- Objects of clocks, housekeeping and calibration (04, 07, 19). -/
def State.clockWriteObj (rq : Requester) (idx sub : Nat) (data : List Byte) (s : State) : Nat × State :=
  let v := leNat data
  if idx = 0x2100 ∧ sub = 1 then s.applyReferenceSelect v
  else if idx = 0x2101 then s.applyCeiling v
  else if idx = 0x2102 then if sub = 1 then s.applySpreadDepth v else s.applySpreadRate v
  else if idx = 0x2120 then s.applyClockEnable v
  else if idx = 0x2405 then
    let (c, s) := s.plainWrite rq idx sub data
    (c, if c = 0 then s.settleDamper else s)
  else if idx = 0x2500 then if regularGood data then s.plainWrite rq idx sub data else refuse codeFormat s
  else if idx = 0x2501 then if injectedGood data then s.plainWrite rq idx sub data else refuse codeFormat s
  else if idx = 0x2502 then
    if 1 < leAt data 0 1 ∨ 1 < leAt data 1 1 ∨ 100000 < leAt data 2 4 then refuse codeRange s else s.plainWrite rq idx sub data
  else if idx = 0x2503 then
    let base := leAt data 0 8
    let size := leAt data 8 4
    if size ≠ 0 ∧ (base % 64 ≠ 0 ∨ size % 4096 ≠ 0 ∨ 2 ^ 38 ≤ base ∨ s.inDataArea (base % 2 ^ 37) size = false) then refuse codeRange s
    else s.plainWrite rq idx sub data
  else if idx = 0x2808 then s.applyCalImage data
  else s.plainWrite rq idx sub data

/-- Remap entries with the reserved bits of Table 03-5, bits 9 to 13, left 0 (R12). -/
def remapShown (data : List Byte) : List Byte := data.zipIdx.map fun e => if e.2 % 2 = 1 then e.1 &&& 0xC1 else e.1

/-- Objects of hearths, arrays and programs (03, 05, 08, 09, 10). -/
def State.hearthWriteObj (rq : Requester) (idx sub : Nat) (data : List Byte) (s : State) : Nat × State :=
  if idx < 0x3080 then s.applyRegion (idx - 0x3000) (sub - 0x10) (leNat data)
  else if idx = 0x3112 then if leNat data < s.od 0x3111 0 0 then refuse codeRange s else s.plainWrite rq idx sub data
  else if idx = 0x3101 then s.plainWrite rq idx sub (remapShown data)
  else if idx = 0x3401 then s.applyProgram data
  else if idx = 0x3407 then s.applyResidentImage data
  else if idx = 0x3408 then s.applyFlueTree data
  else s.plainWrite rq idx sub data

/-- The input slot map with the reserved bits and byte of every entry 0 (R12, R347). -/
def slotMapBytes (data : List Byte) : List Byte :=
  data.zipIdx.map fun e => if e.2 % 8 = 0 then e.1 % 8 else if e.2 % 8 = 3 then 0 else e.1

/-- Objects of the fabric and of topology (14, 15). -/
def State.fabricWriteObj (rq : Requester) (idx sub : Nat) (data : List Byte) (s : State) : Nat × State :=
  if idx = 0x4010 then s.applyNeighbour (sub - 1) data
  else if idx = 0x4011 then if s.imageState then s.plainWrite rq idx sub data else refuse codeState s
  else if idx = 0x4208 then if s.imageState then s.plainWrite rq idx sub (slotMapBytes data) else refuse codeState s
  else if idx = 0x4110 then s.applyTableWrite data
  else if idx = 0x4113 then if data.length % 24 = 0 then s.plainWrite rq idx sub data else refuse codeFormat s
  else if idx = 0x4200 then
    let reserves := 4 * (16 + leAt data 0 2 + leAt data 2 2)
    if 8192 < reserves ∨ 16384 - reserves < leAt data 4 2 then refuse codeRange s else s.plainWrite rq idx sub data
  else if idx = 0x4201 then if (fieldsOf (odWidths 0x4201 0) data).contains 0 then refuse codeRange s else s.plainWrite rq idx sub data
  else s.plainWrite rq idx sub data

/-- Objects of generations, steeping, stacks, requests and speculation (05, 06, 11, 12, 13, 21). -/
def State.servingWriteObj (rq : Requester) (idx sub : Nat) (data : List Byte) (s : State) : Nat × State :=
  let v := leNat data
  if idx = 0x5010 then s.applyStmt 0x5010 sub data
  else if idx = 0x5400 then if s.frames1 < v then refuse codeRange s else (s.plainWrite rq idx sub data).map id State.relieve
  else if idx = 0x5401 then s.applyDataArea v
  else if idx = 0x5403 then
    if s.ctxs.any fun e => e.2.any fun x => x.cellar != 0 then refuse codeState s
    else if 1 < leAt data 0 1 then refuse codeRange s
    else s.plainWrite rq idx sub data
  else if idx = 0x5801 then s.applyTenant (s.instOf rq idx sub) data
  else if idx = 0x5C11 then s.applyGrammar (s.instOf rq idx sub) data
  else if idx = 0x5C20 then s.applySpec false sub v
  else if idx = 0x5C21 then s.applySpec true sub v
  else s.plainWrite rq idx sub data

/-- A host configures the event ring of its own port only (Table 18-7). -/
def State.ringWriteObj (rq : Requester) (sub : Nat) (data : List Byte) (s : State) : Nat × State :=
  if rqNo rq < 2 ∧ rqNo rq + 1 ≠ sub then refuse codeAccess s else s.applyEventRing (sub - 1) data

/-- A write of an object, once rows 1 to 7 of Table 18-1 have passed. -/
def State.applyWrite (rq : Requester) (idx sub : Nat) (data : List Byte) (s : State) : Nat × State :=
  if idx < 0x2000 then s.hostWriteObj rq idx sub data
  else if idx < 0x3000 then s.clockWriteObj rq idx sub data
  else if idx < 0x4000 then s.hearthWriteObj rq idx sub data
  else if idx < 0x5000 then s.fabricWriteObj rq idx sub data
  else if idx < 0x6000 then s.servingWriteObj rq idx sub data
  else if idx = 0x6401 then s.ringWriteObj rq sub data
  else if idx = 0x7001 then s.applyStmt 0x7001 sub data
  else if idx = 0x7005 ∧ s.trial ≠ 0 then refuse codeBusy s
  else s.plainWrite rq idx sub data

/-! ### Commands -/

/-- A value that is not listed with its object. -/
def State.unlisted (s : State) : Nat × State := refuse codeRange s

/-- Commands of the host ports and of the island (16, 17). -/
def State.hostCommand (rq : Requester) (idx sub v : Nat) (s : State) : Nat × State :=
  if idx = 0x1100 ∧ sub = 2 then if v = 1 then s.applyClaim rq else if v = 2 then s.applyRelease rq else s.unlisted
  else if idx = 0x1100 then s.applyTakeOver v
  else if idx = 0x1210 then if v = 1 then s.applyQpEnable rq else if v = 2 then s.applyQpDisable rq else s.unlisted
  else if idx = 0x1300 ∧ sub = 1 then
    if v = 1 then s.applyPowerOn else if v = 2 then s.applyOrderlyOff else if v = 3 then s.applyMainReset else s.unlisted
  else if v ≠ 1 then s.unlisted
  else if sub = 2 then s.applyForcedOff
  else (0, s.islandReset)

/-- Commands of hearths, programs, calibration and ports (04, 07, 08, 14). -/
def State.dieCommand (idx v : Nat) (s : State) : Nat × State :=
  if idx = 0x2800 then
    if v = 1 then s.applyCalibrate ((List.range 128).filter (s.mask 0x2800 2)) else if v = 2 then s.applyCalibrate (List.range 128) else s.unlisted
  else if idx < 0x3080 then
    if v = 1 then s.applyOutOfService (idx - 0x3000) else if v = 2 then s.applyReturn (idx - 0x3000) else s.unlisted
  else if idx = 0x3400 then if v = 1 then s.applyUnload else s.unlisted
  else if v = 1 then s.applyRetrain (idx - 0x4000)
  else if v = 2 then s.applyDisable (idx - 0x4000)
  else if v = 3 then s.applyEnable (idx - 0x4000)
  else s.unlisted

/-- Commands of roles, generations, steeping and tiers (05, 06, 11, 15). -/
def State.servingCommand (rq : Requester) (idx : Nat) (data : List Byte) (s : State) : Nat × State :=
  let v := leAt data 0 1
  if idx = 0x4101 then
    if v = 1 then s.applyDrain else if v = 2 then s.applyRejoin else if v = 3 then s.applyRelease3 else if v = 4 then s.applyReplace else s.unlisted
  else if idx = 0x5001 then s.applySwitch (leAt data 0 4) (leAt data 4 8)
  else if idx = 0x5004 then if v = 1 ∨ v = 2 then s.applyBarrier v else s.unlisted
  else if idx = 0x5020 then
    if v = 1 then s.applyHostSteep rq else if v = 2 then s.applySteep 2 .a else if v = 3 then s.applyRefresh
    else if v = 4 then (0, s.steepFails 9) else s.unlisted
  else
    let action := leAt data 4 1
    let c := leAt data 0 4
    if action < 1 ∨ 5 < action then s.unlisted
    else if action = 5 ∧ s.renewLate c = true then refuse codeState s
    else (0, s.tierAction action c)

/-- A command of an object, once rows 1 to 7 have passed. -/
def State.applyCommand (rq : Requester) (idx sub : Nat) (data : List Byte) (s : State) : Nat × State :=
  let v := leAt data 0 1
  if idx < 0x2000 then s.hostCommand rq idx sub v
  else if idx < 0x4100 then s.dieCommand idx v
  else if idx < 0x6000 then s.servingCommand rq idx data
  else if idx = 0x6004 then if v = 1 then (0, s.clearLog) else s.unlisted
  else if idx = 0x6101 then s.applyDeepTest ((List.range 128).filter (bit (leNat data)))
  else if idx = 0x6404 then if v = 1 then (0, s.setFrozen true) else if v = 2 then (0, s.setFrozen false) else s.unlisted
  else if v = 1 then s.applyInstall
  else if v = 2 then s.applyActivate
  else s.unlisted

/-! ### One access (R427, R428) -/

/-- What an access answers: result word, full length of the object read or length accepted, bytes read. -/
structure Answer where
  code : Nat
  total : Nat
  data : List Byte
deriving DecidableEq, Repr

/-- A read: the bytes from its offset, as many as the requester has room for (R429 to R431, R390). -/
def State.performRead (q : Req) (s : State) : Answer × State :=
  let c := s.readBar q.rq q.idx q.sub
  if c ≠ 0 then (⟨c, 0, []⟩, s)
  else
    let b := s.valueOf q.rq q.idx q.sub
    (⟨0, b.length, slice q.offset q.room b⟩, s)

/-- A write or command. -/
def State.performChange (q : Req) (s : State) : Answer × State :=
  let (c, s) := if q.op = .command then s.applyCommand q.rq q.idx q.sub q.data else s.applyWrite q.rq q.idx q.sub q.data
  if c ≠ 0 then (⟨c, 0, []⟩, s)
  else (⟨0, q.data.length, []⟩, if q.op = .command then s.noteCommand q.idx q.sub q.data else s)

/-- Rows 1 to 7 of Table 18-1 as they are the same for every object. -/
def State.judgeReq (s : State) (q : Req) : Nat := s.judge q (s.lengthOf q.rq q.idx q.sub)

/-- One access. -/
def State.perform (q : Req) (s : State) : Answer × State :=
  let c := s.judgeReq q
  if c ≠ 0 then (⟨c, 0, []⟩, s) else if q.op = .read then s.performRead q else s.performChange q

/-- OBJECT_WRITE: an access by a requester; the model keeps its result word. -/
def execObjectWrite (rq : Requester) (op : AccessOp) (idx : BitVec 16) (sub : BitVec 8) (offset : Nat) (data : List Byte) (s : State) :
    Host.Outcome State Fault Refusal :=
  .next (
    let (a, s) := s.perform { rq := rq, op := op, idx := idx.toNat, sub := sub.toNat, offset := offset, room := 2 ^ 32, data := data }
    s.answer rq a.code)

/-! ### The mailbox (16 R389, R390) -/

def hostRequester (p : HostPort) : Requester := if p = .a then .hostA else .hostB

/-- What the mailbox shows after an access; a bulk read goes to host memory. -/
def State.showMailbox (p : HostPort) (m : MailboxReq) (a : Answer) (s : State) : State :=
  let n := hostNo p
  let bulk := m.bulk != 0
  let box : Mailbox := { result := a.code, tag := m.tag.toNat, length := a.total, data := if bulk then [] else a.data }
  let s := { s with mailboxes := s.mailboxes.put Mailbox.fresh n box }
  let s := if bulk && a.data != [] then s.emit (.hostWrite p m.bulk.toNat a.data) else s
  s.setCause n 0

/-- MAILBOX_GO: BUSY, one access with the rights of the port's host, MBXDONE. A write gives the bytes that its length names. -/
def execMailboxGo (p : HostPort) (m : MailboxReq) (s : State) : Host.Outcome State Fault Refusal :=
  .next (
    if !s.hostLink (hostNo p) then s
    else
      let n := m.length.toNat
      let data := if m.op = .read then [] else m.data.take n
      let rq := hostRequester p
      let (a, s) := s.perform { rq := rq, op := m.op, idx := m.index.toNat, sub := m.sub.toNat, offset := 0, room := n, data := data }
      (s.answer rq a.code).showMailbox p m a)

end Sys2Proof.Machine
end

