-- ==== Sys2Proof/Machine/Dma.lean ====
section
/-! DEFINITION. Machine/Dma.lean: the commands of a hearth's DMA engines (08 R200; 09 R230 to R234): queueing a descriptor, starting
each kind, and completion. -/

namespace Sys2Proof.Machine

/-- DMA (R200): the descriptor joins its engine's queue of 16, and the stoker is to fetch it (R230). -/
def execDma (i : IssueAt) (f : DmaFields) (s : State) : Host.Outcome State Fault Refusal :=
  .next (s.issue i (dmaLow f) 5 fun t s =>
    let h := i.h.toNat
    let x := s.hearth h
    if 16 ≤ (x.engine f.eng).length then s.scheduleFault h t 5
    else
      let e : Transfer := { row := f.desc.toNat, event := f.event.toNat, seq := x.seq, desc := none, running := false, pos := 0, data := [],
                            parity := [], ran := [], moved := false, wrote := 0, tids := [] }
      (s.modHearth h fun x => { x.setEngine f.eng (x.engine f.eng ++ [e]) with seq := x.seq + 1 }).fetchSoon h e.row e.seq t)

/-- Whether the rows of one descriptor of a transfer have reached its completion point (Table 09-6). -/
def State.descDone (s : State) (h : Nat) (t : Transfer) (d : Descriptor) : Bool :=
  if d.kind = 0 then !((s.hearth h).calendar.any fun n => match n.due with
    | .copyRow _ _ xfer => xfer == t.seq
    | _ => false)
  else if d.kind = 1 ∨ d.kind = 2 then (s.dmaDests h d).all fun g => (s.hearth g).acceptedOf (h + 1) t.seq
  else if d.kind = 3 then (s.hearth h).acceptedOf (129 + d.target) t.seq
  else true

/-- Whether a moved transfer has reached its completion point (Table 09-6). -/
def State.dmaDone (s : State) (h : Nat) (t : Transfer) : Bool := t.moved && t.ran.all (s.descDone h t)

/-- The fetch of an engine's front descriptor comes first: the hearth runs to its slot. -/
def State.reachFetch (h : Nat) (eng : Bool) (s : State) : State :=
  match (s.hearth h).engine eng with
  | [] => s
  | t :: _ =>
    match (s.hearth h).calendar.find? fun n => n.due == .fetch t.row t.seq with
    | some n => s.advance h n.cc
    | none => s

/-- STACK_RD: the lines of a stack come to the own inbound queue. -/
def State.readStackRows (h : Nat) (t : Transfer) (d : Descriptor) (s : State) : State :=
  let x := s.hearth h
  let (rows, s) := (List.range d.rows).foldl (fun (acc : List InRow × State) i =>
    let (cells, s) := acc.2.readStackRow (d.target * 2 ^ 37 + d.stackRow i) x.step
    (acc.1 ++ [{ row := d.dst + i, cells := cells, src := 129 + d.target, xfer := t.seq, bulk := d.bulk,
                 event := if d.remote && i + 1 == d.rows then some (d.event % 64) else none, step := x.step, serial := 0, start := stackEdge d.target, flit := i / 2 }], s)) ([], s)
  s.sendRows h x.now rows

/-- The copies that a FABRIC descriptor's transfer will put into the retention store. -/
def State.copySize (s : State) (h : Nat) (d : Descriptor) : Nat :=
  if s.isShadow (s.hearth h).step then 0 else 64 * d.rows * (s.actGroups (s.hearth h).step d.stage).length

/-- The room in the retention store that the FABRIC transfers now being read have taken: each keeps its copies when its last row is read. -/
def State.roomTaken (s : State) : Nat :=
  ((List.range 128).flatMap fun h => [false, true].map fun eng => match (s.hearth h).reading eng with
    | some (_, d) => if d.kind = 5 then s.copySize h d else 0
    | none => 0).sum

/-- An engine starts the fetched descriptor of its front transfer where it is of the command's kind; earlier descriptors of a chain have
completed (R230). A FABRIC transfer that finds the retention store full waits and is counted (R365). -/
def State.startDma (kind h : Nat) (eng : Bool) (parity : List (Nat × FlitFault)) (s : State) : State :=
  let s := s.reachFetch h eng
  match (s.hearth h).engine eng with
  | [] => s
  | t :: _ =>
    match t.desc with
    | none => s
    | some d =>
      if t.running || t.moved || d.kind != kind || !t.ran.all (s.descDone h t) then s
      else if kind = 3 then (s.readStackRows h t d).dmaMoved h (s.hearth h).now eng t.seq d
      else if kind = 5 ∧ s.retentionRoom (s.roomTaken + s.copySize h d) = false then s.bump 0x4107 0 6 1
      else (s.modTransfer h t.seq fun t => { t with running := true, parity := parity }).wakeDma h (s.hearth h).now

def execDmaCopy (h : HearthId) (eng : Bool) (s : State) : Host.Outcome State Fault Refusal := .next (s.startDma 0 h.toNat eng [])
def execDmaHearth (h : HearthId) (eng : Bool) (s : State) : Host.Outcome State Fault Refusal := .next (s.startDma 1 h.toNat eng [])
def execDmaSet (h : HearthId) (eng : Bool) (s : State) : Host.Outcome State Fault Refusal := .next (s.startDma 2 h.toNat eng [])
def execDmaStackRd (h : HearthId) (eng : Bool) (s : State) : Host.Outcome State Fault Refusal := .next (s.startDma 3 h.toNat eng [])

/-- The flits of a transfer to the edge that meet a parity error. -/
def edgeFlits (w : EdgeWrite) : List (Nat × FlitFault) := w.parity.map fun e => (e.1.toNat, e.2)

def execDmaStackWr (h : HearthId) (write : EdgeWrite) (s : State) : Host.Outcome State Fault Refusal :=
  .next (s.startDma 4 h.toNat write.eng (edgeFlits write))

def execDmaFabric (h : HearthId) (write : EdgeWrite) (s : State) : Host.Outcome State Fault Refusal :=
  .next (s.startDma 5 h.toNat write.eng (edgeFlits write))

/-- The cycle at which a transfer that has completed by `cc` did: a COPY when its last row was written, another when `cc` says (R232). -/
def Transfer.doneAt (t : Transfer) (cc : Nat) : Nat := if t.ran.all fun d => d.kind == 0 then t.wrote else cc

/-- DMA_COMPLETE: at cycle `cc` the engine's front transfer has completed and sets its EVENT. -/
def execDmaComplete (hh : HearthId) (eng : Bool) (cc : Nat) (s : State) : Host.Outcome State Fault Refusal :=
  .next (
    let h := hh.toNat
    let s := s.advance h cc
    match (s.hearth h).engine eng with
    | [] => s
    | t :: q =>
      if !s.dmaDone h t then s
      else
        let s := s.modHearth h fun x =>
          { x.setEngine eng q with finished := if t.ran.any (fun d => d.kind == 5) then x.finished ++ [t] else x.finished,
                                   busy := max x.busy (t.doneAt cc) }
        s.setFlag h t.event (t.doneAt cc))

end Sys2Proof.Machine
end

