-- ==== Sys2Proof/Machine/Startup.lean ====
section
/-! DEFINITION. Machine/Startup.lean: the main side's start: its code over the barrier, what the code does first, readiness (21 R495, R500,
R501); the heartbeats of both ends and the island's return (17 R409 to R413). -/

namespace Sys2Proof.Machine

/-! ### Frames of the barrier (17 R407, R408) -/

/-- A frame has been taken at an end, and is acknowledged: `toMain` tells a frame of the island. The commands give each frame once, in order,
so its sequence number follows that of the frame before. -/
def State.arrived (toMain urgent : Bool) (s : State) : State :=
  let next (l : Lane) : Nat := match l.taken with
    | some k => (k + 1) % 65536
    | none => 0
  let ack (n : Nat) (s : State) : State := (s.bump 0x1301 0 1 1).emit (.barrier (!toMain) 0xE n 0 (leBytes 2 n))
  match toMain, urgent with
  | true, true => let n := next s.laneIslandUrgent; ack n { s with laneIslandUrgent := { s.laneIslandUrgent with taken := some n } }
  | true, false => let n := next s.laneIslandNormal; ack n { s with laneIslandNormal := { s.laneIslandNormal with taken := some n } }
  | false, true => let n := next s.laneMainUrgent; ack n { s with laneMainUrgent := { s.laneMainUrgent with taken := some n } }
  | false, false => let n := next s.laneMainNormal; ack n { s with laneMainNormal := { s.laneMainNormal with taken := some n } }

/-- A frame longer than its type allows is discarded and counted (R407). -/
def State.offCatalogue (s : State) : State := s.bump 0x1301 0 3 1

/-! ### The main side starts (21 R500) -/

/-- An object has its default again. -/
def State.toDefault (inst idx sub : Nat) (s : State) : State :=
  let other (k : Nat) : Bool := !(keyInst k == inst && keyIndex k == idx && keySub k == sub)
  { s with dict := s.dict.filter fun e => other e.1, blobs := s.blobs.filter fun e => other e.1 }

/-- A value that the island stored while the main side was not UP is applied; one that its rule refuses is reported, and the default
stands (17 R424, 18 R436). -/
def State.applyStored (e : Nat × Nat × Nat × List Byte) (s : State) : State :=
  let (inst, idx, sub, data) := e
  let v := leNat data
  let (c, s) :=
    if idx = 0x5801 then s.applyTenant inst data
    else if idx = 0x2100 ∧ sub = 1 then (if 1 < v then refuse codeRange s else (0, s.setOd 0x2100 1 0 v))
    else s.applyWrite .sideBand idx sub data
  if c = 0 then s else (s.toDefault inst idx sub).islandRecord true

/-- Send the journal over the normal lane, in order (17 R413). -/
def State.sendJournal (s : State) : State :=
  { s.journal.foldl (fun s e => s.sendToIsland false 2 0 (leBytes 8 e.1 ++ leBytes 4 e.2)) s with journal := [], journalFull := false }

/-- What the program, stage table and pair show is in force again from the stored images. -/
def State.showStored (s : State) : State :=
  let s := s.setOd 0x2103 0 0 (if s.firstProgram.isSome then s.headerAt 6 1 else 10)
  let s := s.setOd 0x4111 0 0 (leAt (s.blob 0x4110 0) 4 4)
  (s.setOd 0x4102 0 1 ((s.ownEntry.map (·.mode)).getD 0)).setOd 0x4102 0 2 (s.twin.getD (if s.ownEntry.isSome then noEndpoint else 0))

/-- Every port trains, but those that their entry leaves unused. -/
def State.trainPorts (s : State) : State := (List.range 8).foldl (fun s p => s.lowerPort p (if s.unusedPort p then 0 else 2)) s

/-- Every hearth's LOAD regions are written and its routine test is due (09 R228, 20 R472). -/
def State.wakeHearths (s : State) : State := (List.range 128).foldl (fun s h => (s.loadResident h).setTestState h 1) s

/-- The clock-enable bits that the firmware sets at start-up: housekeeping converters 1 and 2 in every role (19 R447), the test engine and the
calibration sequencer, which every start needs, and with the reference RACK the timestamp unit, whose LOCKED readiness asks for (21 R501)
(DEDUCED, log 190); and the block-use mask of the loaded program (08 R211). -/
def State.startBlocks (s : State) : State :=
  s.setOd 0x2120 0 0 (Nat.lor (if s.isLocal then 0x3006 else 0x3016) (if s.firstProgram.isSome then Nat.land (s.headerAt 32 4) 0x3FFE else 0))

/-- The main-side code runs: state UP. -/
def State.mainStarts (s : State) : State :=
  let img := s.slotImage s.runSlot
  let s := { s with islandHeard := s.elapsed, mainHeard := s.elapsed, hangAlarmed := false }.setOd 0x1300 3 0 2
  let s := ((s.setOd 0x1003 0 4 (leAt img 12 2)).setOd 0x1003 0 5 (leAt img 14 2)).setOd 0x1003 0 6 (leAt img 16 2)
  let stored := s.storedNext
  let s := stored.foldl (fun s e => s.applyStored e) { s with storedNext := [] }
  ((((s.writeSetPoint 3000).retarget.showStored.startBlocks).trainPorts.wakeHearths).startSoot).sendJournal

/-- BOOT_IMAGE: the code as it arrives, the digest ahead of it in the first frame. A mismatch makes the island send the code once more; a
second one is a failed start, with an alarm. -/
def execBootImage (offset : BitVec 32) (data : List Byte) (last : Bool) (s : State) : Host.Outcome State Fault Refusal :=
  .next (
    if !s.seq.released || s.thermalHold || s.od 0x2100 2 0 != 0 || !(s.mainState == 1 || s.mainState == 4) then s
    else if 4096 < data.length then s.offCatalogue
    else
      let s := s.arrived true false
      let first := offset == 0
      let b : Boot := if first then { s.boot with digest := data.take 64, code := data.drop 64 } else { s.boot with code := s.boot.code ++ data }
      let s := { s with boot := b }
      if !last then s
      else if Config.sha512 b.code = b.digest then { s with boot := { b with code := [] } }.mainStarts
      else
        let s := { s with boot := { b with digest := [], code := [], fails := b.fails + 1 } }
        if b.fails = 0 then s.sendBoot else s.islandRecord false)

/-! ### Readiness (21 R501) -/

/-- A hearth in service is VALID and has passed its routine test. -/
def State.hearthReady (s : State) (h : Nat) : Bool := s.power h == 0 || (s.calState h == 1 && s.testState h == 0)

/-- The conditions of R501; a calibration image that has been accepted is applied first (04 R106). -/
def State.mayServe (s : State) : Bool :=
  s.mainUp && s.streamed && s.integrity && s.calImage == [] && s.calRun.isNone && (List.range 128).all s.hearthReady && s.od 0x2100 2 0 == 0 &&
    decide (4 ≤ s.edges.length) && !s.cadenceLost && (s.isLocal || s.od 0x2110 2 0 == 1)

/-- The part joins its role: a spare, or a position that is out of service and holds its program and generation (15 R377, R379). -/
def State.joinRole (s : State) : State :=
  let role := s.od 0x4100 1 0
  if s.admitting = 0 ∨ s.calImage ≠ [] then s
  else if role = 0 ∧ s.ownIndex.isNone = true then s.sendJoin 0xFFFF
  else if role = 3 ∧ s.programLoaded = true ∧ s.od 0x5003 0 0 ≠ 0 then
    match s.ownIndex with
    | some i => s.sendJoin i
    | none => s
  else s

/-- MAIN_SIDE_READY. -/
def execMainSideReady (s : State) : Host.Outcome State Fault Refusal :=
  .next (
    if s.ready || !s.mayServe then s
    else
      let s := { s with ready := true, readyAt := s.elapsed }
      let s := ((s.setCause 0 2).setCause 1 2).raise { kind := .island, path := pathDie 0 0, detail := s.mainState, event := true }
      let s := s.reportGeneration.joinRole
      if s.isAdmitting then s.autoBarrier else s)

/-! ### Heartbeats (17 R409 to R413) -/

/-- Critical temperature in 1/16 °C (OD 0x2403). -/
def State.criticalTemp (s : State) : Int := (16 * s.od 0x2403 0 0 : Nat)

/-- The island finds its own sensors critical (19 R456). -/
def State.islandTrip (t : Int) (s : State) : State :=
  if s.mainState = 0 ∨ t < s.criticalTemp ∨ s.seq.down = some true then s else (s.bump 0x2411 0 4 1).powerOff true

/-- HEARTBEAT_TIMER: an end sends its heartbeat; one of the other end that is overdue is counted. The island gives its own readings. -/
def execHeartbeatTimer (toMain : Bool) (t140 t141 : BitVec 16) (s : State) : Host.Outcome State Fault Refusal :=
  .next (
    if toMain then
      if !s.islandUp then s
      else
        let s := if s.mainRuns && decide (s.islandHeard + 1000000 < s.elapsed) then s.bump 0x1301 0 5 1 else s
        let t := if s.laneIslandUrgent.next % 2 = 0 then t140 else t141
        let s := s.sendToMain true 0xA 0 (leBytes 4 0 ++ leBytes 2 t.toNat ++ leBytes 2 0 ++ leBytes 8 0)
        (s.islandTrip t140.toInt).islandTrip t141.toInt
    else if !s.mainRuns then s
    else
      let s := if decide (s.mainHeard + 1000000 < s.elapsed) then s.bump 0x1301 0 5 1 else s
      s.sendToIsland true 0xA 0 (leBytes 1 2 ++ leBytes 3 0 ++ leBytes 2 (ofSigned 16 (s.hottestOf 0 139)) ++ leBytes 2 0 ++ leBytes 8 s.now))

/-- The island takes a heartbeat of the main side: a critical one powers it off; one that comes before the hang timeout has acted returns
UNRESPONSIVE to UP. -/
def State.islandTakes (hottest : Int) (s : State) : State :=
  let s := { s with islandHeard := s.elapsed }
  if s.criticalTemp ≤ hottest then (if s.seq.down = some true then s else s.powerOff true)
  else if s.mainState = 3 ∧ (s.hangAlarmed = false ∨ s.od 0x1302 2 0 = 0) then ({ s with hangAlarmed := false }.setOd 0x1300 3 0 2).islandRecord true
  else s

/-- Records held while the island was LOST leave at the side-band budget (R412, 20 R481): as many as 256 bits each let through between two
times. -/
def State.drainLost (since : Nat) (s : State) : State :=
  let per (t : Nat) : Nat := s.od 0x6400 1 0 * t / 256000000000
  let (l, rest) := popRecords (per s.elapsed - per since) s.lostQueue
  l.foldl (fun s r => s.sendToIsland false 4 0 (r.bytes false)) { s with lostQueue := rest }

/-- The island is back: the journal goes first (R413); a main side in thermal hold is answered with MAIN_OFF (19 R457). -/
def State.islandReturns (s : State) : State :=
  let s := { s with islandLost := false }
  if s.thermalHold then s.powerOff true else s.sendJournal

/-- The main side takes a heartbeat of the island: the reading of sensor 140 in an even frame, of 141 in an odd one. -/
def State.mainTakes (seq : Nat) (t : Int) (s : State) : State :=
  let since := s.mainHeard
  let s := { s with mainHeard := s.elapsed }
  let s := if s.islandLost then s.islandReturns.steepProgress else s
  if s.thermalHold then s else (s.drainLost since).takeReading (140 + seq % 2) t false

/-- HEARTBEAT: one arrives at the main side (`toMain`) or at the island. -/
def execHeartbeat (toMain : Bool) (seq : BitVec 16) (_state : Byte) (hottest : BitVec 16) (_rackTime : BitVec 64) (s : State) :
    Host.Outcome State Fault Refusal :=
  .next (
    let ack (s : State) : State := (s.bump 0x1301 0 1 1).emit (.barrier (!toMain) 0xE seq.toNat 0 (leBytes 2 seq.toNat))
    if toMain then
      if !(s.mainRuns || s.thermalHold) then s
      else (ack { s with laneIslandUrgent := { s.laneIslandUrgent with taken := some seq.toNat } }).mainTakes seq.toNat hottest.toInt
    else if !s.islandUp then s
    else (ack { s with laneMainUrgent := { s.laneMainUrgent with taken := some seq.toNat } }).islandTakes hottest.toInt)

/-! ### Acknowledgement and repetition (17 R408) -/

/-- An acknowledged frame goes, and the frames that waited take its place. -/
def Lane.acked (seq : Nat) (l : Lane) : Lane :=
  let u := l.unacked.filter fun f => f.seq != seq
  let n := 32 - u.length
  { l with unacked := u ++ l.queued.take n, queued := l.queued.drop n }

/-- BARRIER_ACK: an ACK arrives at the main side (`toMain`), for a frame of its own, or at the island. -/
def execBarrierAck (toMain urgent : Bool) (seq : BitVec 16) (s : State) : Host.Outcome State Fault Refusal :=
  .next (
    match toMain, urgent with
    | true, true => { s with laneMainUrgent := s.laneMainUrgent.acked seq.toNat }
    | true, false => { s with laneMainNormal := s.laneMainNormal.acked seq.toNat }
    | false, true => { s with laneIslandUrgent := s.laneIslandUrgent.acked seq.toNat }
    | false, false => { s with laneIslandNormal := s.laneIslandNormal.acked seq.toNat })

/-- Send frames again, counted as resends. -/
def State.resendLane (toMain : Bool) (l : Lane) (s : State) : State :=
  l.unacked.foldl (fun s f => (s.bump 0x1301 0 4 1).emit (.barrier toMain f.kind f.seq f.corr f.body)) s

/-- BARRIER_RESEND_TIMEOUT: 200 µs without an ACK, all from the oldest frame of a normal lane. -/
def execBarrierResendTimeout (toMain : Bool) (s : State) : Host.Outcome State Fault Refusal :=
  .next (s.resendLane toMain (if toMain then s.laneIslandNormal else s.laneMainNormal))

/-- URGENT_REPEAT: every 10 µs. -/
def execUrgentRepeat (toMain : Bool) (s : State) : Host.Outcome State Fault Refusal :=
  .next (s.resendLane toMain (if toMain then s.laneIslandUrgent else s.laneMainUrgent))

end Sys2Proof.Machine
end

