-- ==== Sys2Proof/Machine/Island.lean ====
section
/-! DEFINITION. Machine/Island.lean: NOA over the side-band and the fabric (17 R417 to R424), the messages of the crossing catalogue that
carry object accesses (17 R407), peer sessions (21 R499), key operations (21 R487) and the test port (22 R519). -/

namespace Sys2Proof.Machine

/-! ### Session rules (R420, R421, R494) -/

def isIdentity (idx : Nat) : Bool := decide (0x1000 ≤ idx) && decide (idx < 0x1100)

/-- Whether the session rules let a request through. Without a session only the identity objects are read; an island kept in its ROM
serves its firmware objects too; a peer session reads only. -/
def State.noaMay (s : State) (m : NoaMsg) : Bool :=
  let idx := m.index.toNat
  let identity := m.op == .read && isIdentity idx
  if s.islandRun = 2 then identity || idx == 0x7004 || idx == 0x7005
  else match m.session.map s.conn |>.bind (·.session) with
    | none => identity
    | some x => !x.peer || m.op == .read

/-- A secured message of a session that is not open cannot be read. -/
def State.noaUnreadable (s : State) (m : NoaMsg) : Bool :=
  decide (1024 < m.data.length) || (m.session.isSome && (m.session.map s.conn |>.bind (·.session)).isNone)

/-- The response kept for a sequence number of the message's session. -/
def State.keptResponse (s : State) (m : NoaMsg) : Option (Nat × Nat × List Byte) :=
  match (s.conns.get Conn.fresh (connOf m)).session with
  | none => none
  | some x => (x.kept.find? fun e => e.1 == m.seq.toNat).map (·.2)

/-! ### Passing an access to the main side (R407) -/

/-- The request of a NOA message, with the bytes of its whole value. -/
def noaReq (m : NoaMsg) : Req :=
  { rq := .sideBand, op := m.op, idx := m.index.toNat, sub := m.sub.toNat, offset := m.offset.toNat, room := 1024,
    data := if m.op = .read then [] else m.data }

def isBlob (idx sub : Nat) : Bool := ((odRow? idx sub).map fun r => match r.type with
  | .bytes _ fixed => !fixed
  | .num _ _ => false).getD false

/-- A byte string crosses the barrier in frames of at most 4,096 bytes: CAL_IMAGE, or BLOB_SEGMENT with the object and its length. -/
def blobFrames (idx sub : Nat) (data : List Byte) : List (Nat × List Byte) :=
  (List.range (max 1 (ceilDiv data.length 4096))).map fun i =>
    let part := slice (4096 * i) 4096 data
    if idx = 0x2808 then (5, leBytes 4 (4096 * i) ++ part)
    else (6, leBytes 2 idx ++ leBytes 1 sub ++ leBytes 4 (4096 * i) ++ leBytes 4 data.length ++ part)

/-- The island passes a request on; its answer is awaited. -/
def State.passOn (m : NoaMsg) (s : State) : State :=
  let corr := s.nextCorr
  let idx := m.index.toNat
  let sub := m.sub.toNat
  let s := { s with nextCorr := (corr + 1) % 2 ^ 32, noaWaits := s.noaWaits ++ [{ corr := corr, msg := m }] }
  if m.op = .read then s.sendToMain false 1 corr (leBytes 2 idx ++ leBytes 1 sub ++ leBytes 4 m.offset.toNat ++ leBytes 4 1024)
  else if m.op = .write ∧ (isBlob idx sub = true ∨ 1024 < m.data.length) then
    (blobFrames idx sub m.data).foldl (fun s f => s.sendToMain false f.1 corr f.2) s
  else s.sendToMain false 2 corr (leBytes 2 idx ++ leBytes 1 sub ++ leBytes 1 (AccessOp.number m.op) ++ leBytes 4 m.offset.toNat ++ m.data)

/-- The full length of an object as a response tells it. -/
def State.totalOf (s : State) (idx sub : Nat) : Nat :=
  match odRow? idx sub with
  | none => 1
  | some r => if r.code = .cmd then 4 else if r.type.isBytes then s.lengthOf .sideBand idx sub else r.type.size

/-- The value that the island's store holds for the next start of the main side (R424). -/
def State.storedFor (s : State) (idx sub : Nat) : Option (List Byte) :=
  let i := s.instOf .sideBand idx sub
  (s.storedNext.reverse.find? fun e => e.1 == i && e.2.1 == idx && e.2.2.1 == sub).map (·.2.2.2)

/-- A request for an object of the main side while it is not UP: N values are read and written in the island's store. -/
def State.storeAccess (q : Req) (s : State) : Answer × State :=
  let c := s.judgeReq q
  if c ≠ 0 then (⟨c, 0, []⟩, s)
  else if q.op = .read then
    match s.storedFor q.idx q.sub with
    | some b => (⟨0, b.length, slice q.offset q.room b⟩, s)
    | none => s.performRead q
  else (⟨0, q.data.length, []⟩, { s with storedNext := s.storedNext ++ [(s.instOf q.rq q.idx q.sub, q.idx, q.sub, q.data)] })

/-- One whole access: by the island, by the main side, or in the island's store. -/
def State.noaAccess (m : NoaMsg) (s : State) : State :=
  let q := noaReq m
  if !islandServes q.idx q.sub && s.mainUp then s.passOn m
  else
    let (a, s) := if islandServes q.idx q.sub then s.perform q else s.storeAccess q
    s.respond m a.code a.total a.data

/-! ### Segmented writes (R419, R421, R427) -/

/-- The segmented writes of a message's session. -/
def State.segmentsOf (s : State) (n : Nat) : List Segmented := ((s.conns.get Conn.fresh n).session.map (·.segments)).getD []

/-- Set them; an island kept in its ROM has a place for them without a session. -/
def State.setSegments (n : Nat) (l : List Segmented) (s : State) : State :=
  let x := s.conns.get Conn.fresh n
  let y : Session := x.session.getD { peer := false, slot := none, kept := [], segments := [] }
  if x.session.isNone && n < 4 then s else { s with conns := s.conns.put Conn.fresh n { x with session := some { y with segments := l } } }

/-- A segment of a write: the first is judged with the length of the whole value; one that does not go on where the last ended is refused;
the last applies the value. -/
def State.noaSegment (m : NoaMsg) (s : State) : State :=
  let n := connOf m
  let idx := m.index.toNat
  let sub := m.sub.toNat
  let l := s.segmentsOf n
  let rest := l.filter fun g => !(g.idx == idx && g.sub == sub)
  if m.offset = 0 then
    let c := s.judgeReq { noaReq m with size := m.total.toNat }
    if c ≠ 0 then s.respond m c 0 []
    else
      let g : Segmented := { idx := idx, sub := sub, op := .write, data := m.data, total := m.total.toNat, at_ := s.elapsed }
      (s.setSegments n (l ++ [g])).respond m 0 m.total.toNat []
  else match l.find? fun g => g.idx == idx && g.sub == sub with
    | none =>
      let c := s.judgeReq (noaReq m)
      s.respond m (if c = 0 then codeLength else c) 0 []
    | some g =>
      let data := g.data ++ m.data
      if m.offset.toNat ≠ g.data.length ∨ g.total < data.length then s.respond m codeLength 0 []
      else if m.more then (s.setSegments n (rest ++ [{ g with data := data, at_ := s.elapsed }])).respond m 0 g.total []
      else
        let s := s.setSegments n rest
        if data.length = g.total then s.noaAccess { m with offset := 0, data := data } else s.respond m codeLength 0 []

/-- The island takes a NOA request. -/
def State.noaTakes (m : NoaMsg) (s : State) : State :=
  if s.islandRun = 0 then s
  else if s.noaUnreadable m then s.bump 0x1314 0 4 1
  else match s.keptResponse m with
    | some r => ((s.bump 0x1314 0 0 1).bump 0x1314 0 1 1).respondOnce m r.1 r.2.1 r.2.2
    | none =>
      if s.noaWaits.any fun w => w.msg.session == m.session && w.msg.seq == m.seq then (s.bump 0x1314 0 0 1).bump 0x1314 0 1 1
      else if !s.noaMay m then (s.bump 0x1314 0 0 1).respond m codeAccess 0 []
      else if 8 ≤ (s.noaWaits.filter fun w => w.msg.session == m.session).length then s.bump 0x1314 0 4 1
      else if m.op = .write ∧ (m.more = true ∨ m.offset ≠ 0) then (s.bump 0x1314 0 0 1).noaSegment m
      else (s.bump 0x1314 0 0 1).noaAccess m

/-- NOA_REQUEST: from the side-band port, while its link is up, or as the island takes it from the fabric. -/
def execNoaRequest (m : NoaMsg) (s : State) : Host.Outcome State Fault Refusal :=
  .next (if m.fabric || s.od 0x1310 5 0 != 0 then s.noaTakes m else s)

/-- SEGMENTED_WRITE_TIMEOUT: 2 s without a segment. -/
def execSegmentedWriteTimeout (session : BitVec 2) (s : State) : Host.Outcome State Fault Refusal :=
  .next (
    let drop (n : Nat) (s : State) : State :=
      if s.segmentsOf n = [] then s else s.setSegments n ((s.segmentsOf n).filter fun g => decide (s.elapsed < g.at_ + 2000000000))
    drop 4 (drop session.toNat s))

/-! ### The crossing catalogue (R407) -/

/-- The main side answers a NOA request by OBJ_RESULT. -/
def State.sendResult (corr : Nat) (a : Answer) (s : State) : State := s.sendToIsland false 3 corr (leBytes 2 a.code ++ a.data)

/-- OBJ_READ at the main side; the bytes of a BLOB go back in the frames of their kind. -/
def execObjRead (corr : BitVec 32) (idx : BitVec 16) (sub : Byte) (offset len : BitVec 32) (s : State) : Host.Outcome State Fault Refusal :=
  .next (
    if !s.mainRuns then s
    else
      let i := idx.toNat
      let k := sub.toNat
      let (a, s) := (s.arrived true false).perform
        { rq := .sideBand, op := .read, idx := i, sub := k, offset := offset.toNat, room := min len.toNat 1024, data := [] }
      if a.code = 0 ∧ isBlob i k = true then
        if i = 0x2808 then s.sendToIsland false 5 corr.toNat (leBytes 4 offset.toNat ++ a.data)
        else s.sendToIsland false 6 corr.toNat (leBytes 2 i ++ leBytes 1 k ++ leBytes 4 offset.toNat ++ leBytes 4 a.total ++ a.data)
      else s.sendResult corr.toNat a)

/-- OBJ_WRITE at the main side. -/
def execObjWrite (corr : BitVec 32) (idx : BitVec 16) (sub : Byte) (op : AccessOp) (offset : BitVec 32) (data : List Byte) (s : State) :
    Host.Outcome State Fault Refusal :=
  .next (
    if !s.mainRuns || op == .read then s
    else if 1024 < data.length then s.offCatalogue
    else
      let (a, s) := (s.arrived true false).perform
        { rq := .sideBand, op := op, idx := idx.toNat, sub := sub.toNat, offset := offset.toNat, room := 0, data := data }
      s.sendResult corr.toNat a)

/-- The island answers a waiting request. -/
def State.endWait (w : NoaWait) (code total : Nat) (data : List Byte) (s : State) : State :=
  { s with noaWaits := s.noaWaits.filter fun x => x.corr != w.corr }.respond w.msg code total data

/-- OBJ_RESULT at the island. -/
def execObjResult (corr : BitVec 32) (result : BitVec 16) (data : List Byte) (s : State) : Host.Outcome State Fault Refusal :=
  .next (
    if !s.islandUp then s
    else if 1024 < data.length then s.offCatalogue
    else
      let s := s.arrived false false
      match s.noaWaits.find? fun w => w.corr == corr.toNat with
      | none => s
      | some w =>
        let total := if result ≠ 0 then 0 else if w.msg.op = .read then s.totalOf w.msg.index.toNat w.msg.sub.toNat else w.msg.data.length
        s.endWait w result.toNat total data)

/-- EVENT at the island: the record joins the side-band queue (20 R481). -/
def execEvent (rec : List Byte) (s : State) : Host.Outcome State Fault Refusal :=
  .next (
    if !s.islandUp then s
    else if 32 < rec.length then s.offCatalogue
    else
      let (s, full) := (s.arrived false false).offer 2 (Record.ofBytes rec)
      if full then s.chimneyDrop 2 else s)

/-- The NOA request, read or write, that waits on an object. -/
def State.waitOn (s : State) (op : AccessOp) (idx sub : Nat) : Option NoaWait :=
  s.noaWaits.find? fun w => w.msg.op == op && w.msg.index.toNat == idx && w.msg.sub.toNat == sub

/-- A whole byte string is at the main side: it is written, and its request answered. -/
def State.blobArrived (idx sub : Nat) (data : List Byte) (s : State) : State :=
  let w := s.waitOn .write idx sub
  let (a, s) := s.perform { rq := .sideBand, op := .write, idx := idx, sub := sub, offset := 0, room := 0, data := data }
  match w with
  | some w => s.sendResult w.corr a
  | none => s

/-- Bytes of a byte string read arrive at the island. -/
def State.blobRead (idx sub total : Nat) (data : List Byte) (s : State) : State :=
  match s.waitOn .read idx sub with
  | some w => s.endWait w 0 total (data.take 1024)
  | none => s

/-- CAL_IMAGE. -/
def execCalImage (toMain : Bool) (offset : BitVec 32) (data : List Byte) (s : State) : Host.Outcome State Fault Refusal :=
  .next (
    if !(if toMain then s.mainRuns else s.islandUp) then s
    else if 4096 < data.length then s.offCatalogue
    else if toMain then
      let s := s.arrived true false
      let b := if offset = 0 then data else if offset.toNat = s.calBuffer.length then s.calBuffer ++ data else s.calBuffer
      let whole := ((s.waitOn .write 0x2808 0).map fun w => w.msg.data.length).getD calImageSize
      if b.length < whole then { s with calBuffer := b } else { s with calBuffer := [] }.blobArrived 0x2808 0 b
    else (s.arrived false false).blobRead 0x2808 0 calImageSize data)

/-- BLOB_SEGMENT. -/
def execBlobSegment (toMain : Bool) (idx : BitVec 16) (sub : Byte) (offset total : BitVec 32) (data : List Byte) (s : State) :
    Host.Outcome State Fault Refusal :=
  .next (
    let i := idx.toNat
    let k := sub.toNat
    if !(if toMain then s.mainRuns else s.islandUp) then s
    else if 4096 < data.length then s.offCatalogue
    else if toMain then
      let s := s.arrived true false
      let old := ((s.blobSoFar.find? fun e => e.1 == i && e.2.1 == k).map (·.2.2)).getD []
      let rest := s.blobSoFar.filter fun e => !(e.1 == i && e.2.1 == k)
      let b := if offset = 0 then data else if offset.toNat = old.length then old ++ data else old
      if b.length < total.toNat then { s with blobSoFar := rest ++ [(i, k, b)] } else { s with blobSoFar := rest }.blobArrived i k b
    else (s.arrived false false).blobRead i k total.toNat data)

/-- KEY_OP: the island unwraps a content key and answers; it keeps no copy. -/
def execKeyOp (ephemeral : List Byte) (image serial : BitVec 64) (wrapped : List Byte) (s : State) : Host.Outcome State Fault Refusal :=
  .next (
    if !s.islandUp || !s.mainRuns then s
    else
      let key := Config.unwrapKey ephemeral image.toNat serial.toNat wrapped
      ((s.arrived false false).sendToMain false 8 0 (key.getD [])).takeKey key)

/-! ### NOA over the fabric (R422) -/

/-- The NOA datagram of a message, as MGMT_FRAME carries it. -/
def noaBytes (m : NoaMsg) : List Byte :=
  leBytes 1 1 ++ leBytes 1 1 ++ leBytes 1 (AccessOp.number m.op) ++ leBytes 1 (flagNat m.more) ++ beBytes 4 m.seq.toNat ++ beBytes 2 m.index.toNat ++
    [m.sub] ++ leBytes 1 0 ++ beBytes 4 m.offset.toNat ++ beBytes 4 m.data.length ++ beBytes 4 m.total.toNat ++ beBytes 2 0 ++ leBytes 6 0 ++ m.data

/-- An object that the admitting part forwards, whole: no rule names the message that carries it, and this one is the model's own. -/
def State.takeForwarded (src idx sub : Nat) (data : List Byte) (s : State) : State :=
  if idx = 0x4110 then s.receiveTable data
  else if idx = 0x5C11 then s.takeGrammar sub data
  else if idx = 0x5C12 then s.grammarApplied sub (leNat data) src
  else if idx = 0x5408 then s.kvFails (leNat data)
  else if idx = 0x6101 then { s with entryTested := true }.wantDeep (s.kindleHearths.filter (bit (leNat data)))
  else if idx = 0x5000 then s.noteRetired (leNat data)
  else if idx = 0x5006 then s.putReport (leAt data 0 2) (data.drop 2)
  else s.setOd idx sub 0 (leNat data)

/-- Whether a MGMT transfer carries an object that its source may forward to this part: the admitting part, for a grammar image the token
stage, and for a grammar's result or a full KV pool any part of the table. -/
def State.isForwarded (s : State) (src : Nat) (m : NoaMsg) : Bool :=
  let i := m.index.toNat
  let from_ (l : List Nat) : Bool := l.any fun e => e % 65536 == src
  m.session.isNone && m.op == .write &&
    (((src == s.admitting % 65536 || s.ownIndex.isNone) && [0x4110, 0x5000, 0x5005, 0x5006, 0x5C11, 0x5C20, 0x5C21, 0x6101].contains i) ||
      (i == 0x5C11 && from_ s.tokenPair) || (s.isAdmitting && (i == 0x5C12 || i == 0x5408) && from_ s.allParts))

/-- MGMT: an object that the admitting part forwards, or a request for the island. -/
def execMgmt (src : BitVec 16) (m : NoaMsg) (s : State) : Host.Outcome State Fault Refusal :=
  .next (
    if !s.mainRuns then s
    else if s.isForwarded src.toNat m then
      let b := if m.offset = 0 then m.data else if m.offset.toNat = s.forwarding.length then s.forwarding ++ m.data else s.forwarding
      if b.length < m.total.toNat then { s with forwarding := b } else { s with forwarding := [] }.takeForwarded src.toNat m.index.toNat m.sub.toNat b
    else { s with mgmtFrom := s.mgmtFrom ++ [(m.session, m.seq.toNat, src.toNat)] }.sendToIsland false 7 0 (noaBytes m))

/-- MGMT_FRAME: a request at the island, or a response at the main side, which goes back to where the request came from. -/
def execMgmtFrame (toMain : Bool) (m : NoaMsg) (s : State) : Host.Outcome State Fault Refusal :=
  .next (
    if !(if toMain then s.mainRuns else s.islandUp) then s
    else if 1024 < m.data.length then s.offCatalogue
    else if !toMain then (s.arrived false false).noaTakes { m with fabric := true }
    else
      let s := s.arrived true false
      let mine (e : Option (BitVec 2) × Nat × Nat) : Bool := e.1 == m.session && e.2.1 == m.seq.toNat
      match s.mgmtFrom.find? mine with
      | none => s
      | some e =>
        let dest := e.2.2 + 65536 * s.od 0x4011 0 0
        ({ s with mgmtFrom := s.mgmtFrom.erase e }.send { kind := 8, cls := 0, targets := [dest], payload := noaResponse m 0 m.total.toNat m.data }).2)

/-- PEER_SESSION: the island of this end has opened a session to the island of the other; a failing chain, or a serial other than that of
the peer's IDENT, quarantines the port. -/
def execPeerSession (p : PortId) (chainGood : Bool) (serial : BitVec 64) (s : State) : Host.Outcome State Fault Refusal :=
  .next (
    let n := p.toNat
    match (s.port n).ident with
    | some i =>
      if !s.islandUp || !s.portUp n || i.kind != 1 then s
      else if chainGood && serial == i.serial then s.modPort n fun x => { x with peerSerial := some serial.toNat }
      else s.quarantine n i
    | none => s)

/-! ### The side-band port (R417, R418) -/

/-- SIDE_BAND_LINK_CHANGE: 0 down, 1 CSMA/CD, 2 PLCA; with PLCA node ID 0xFF the port uses CSMA/CD only. -/
def execSideBandLinkChange (link : Byte) (s : State) : Host.Outcome State Fault Refusal :=
  .next (
    if s.islandRun = 0 ∨ 2 < link.toNat ∨ (link = 2 ∧ s.od 0x1310 1 0 = 0xFF) then s else s.setOd 0x1310 5 0 link.toNat)

/-- ICMPV6_REQUEST: an echo is answered with its identifier and data, a neighbour solicitation for the target `id` with an advertisement. -/
def execIcmpv6Request (echo : Bool) (id : BitVec 32) (data : List Byte) (s : State) : Host.Outcome State Fault Refusal :=
  .next (
    if s.islandRun = 0 ∨ s.od 0x1310 5 0 = 0 then s
    else s.emit (.echo ((if echo then leBytes 1 129 else leBytes 1 136) ++ beBytes 4 id.toNat ++ data)))

/-! ### The test port (22 R519) -/

def idcodeWord : Nat := 0x14810BA7

/-- The instruction that a loaded one stands for: while the part is ready to serve, all but BYPASS, IDCODE and SAMPLE/PRELOAD act as
BYPASS. -/
def State.tapActs (s : State) (i : Nat) : Nat := if s.ready && decide (2 < i) then 0 else i

/-- What the selected data register captures: the bypass bit, the IDCODE from bit 0; the boundary register is not described. -/
def tapCaptured (i : Nat) : List Bool := if i = 0 ∨ i = 6 ∨ i = 7 then [false] else if i = 1 then (List.range 32).map (bit idcodeWord) else []

/-- Load an instruction, by its place in the list of R519. The TAP lies on the main side. -/
def State.tapLoads (i : Nat) (s : State) : State :=
  if s.mainState = 0 then s
  else
    let k := s.tapActs i
    { s with tapInstr := k }.emit (.tap k (tapCaptured k))

/-- BYPASS. -/
def execBypass (s : State) : Host.Outcome State Fault Refusal := .next (s.tapLoads 0)
/-- IDCODE. -/
def execIdcode (s : State) : Host.Outcome State Fault Refusal := .next (s.tapLoads 1)
/-- SAMPLE/PRELOAD. -/
def execSamplePreload (s : State) : Host.Outcome State Fault Refusal := .next (s.tapLoads 2)
/-- EXTEST. -/
def execExtest (s : State) : Host.Outcome State Fault Refusal := .next (s.tapLoads 3)
/-- EXTEST_PULSE. -/
def execExtestPulse (s : State) : Host.Outcome State Fault Refusal := .next (s.tapLoads 4)
/-- EXTEST_TRAIN. -/
def execExtestTrain (s : State) : Host.Outcome State Fault Refusal := .next (s.tapLoads 5)
/-- CLAMP. -/
def execClamp (s : State) : Host.Outcome State Fault Refusal := .next (s.tapLoads 6)
/-- HIGHZ. -/
def execHighz (s : State) : Host.Outcome State Fault Refusal := .next (s.tapLoads 7)

/-- TAP_RESET: TRST_N low resets the TAP and nothing else. -/
def execTapReset (s : State) : Host.Outcome State Fault Refusal := .next { s with tapInstr := 1 }

end Sys2Proof.Machine
end

