-- ==== Sys2Proof/Machine/VecOps.lean ====
section
/-! DEFINITION. Machine/VecOps.lean: what each VE operation computes from its operand lanes (R198, Table 08-11; formats
and narrowings of 02_number_formats.md). No function here touches the state. -/

namespace Sys2Proof.Machine

/-- A result lane. -/
def cell (b : BitVec 16) (p : Bool) : VCell := { bits := b, poison := p, bad := false }

def f16Seed (a b : BitVec 16) : Nat := a.toNat * 65536 + b.toNat

/-! ### Lane-wise F16 (R51: a NaN operand gives NaN) -/

def f16Add (a b : BitVec 16) : BitVec 16 :=
  if f16IsNan a || f16IsNan b then f16Nan (f16Seed a b)
  else f16OfRat (f16Neg a && f16Neg b) (f16Units a + f16Units b) (2 ^ 24)

def f16Sub (a b : BitVec 16) : BitVec 16 :=
  if f16IsNan a || f16IsNan b then f16Nan (f16Seed a b)
  else f16OfRat (f16Neg a && !f16Neg b) (f16Units a - f16Units b) (2 ^ 24)

def f16Mul (a b : BitVec 16) : BitVec 16 :=
  if f16IsNan a || f16IsNan b then f16Nan (f16Seed a b)
  else f16OfRat (f16Neg a != f16Neg b) (f16Units a * f16Units b) (2 ^ 48)

def f16Fma (a b c : BitVec 16) : BitVec 16 :=
  if f16IsNan a || f16IsNan b || f16IsNan c then f16Nan (f16Seed a b + c.toNat)
  else f16OfRat ((f16Neg a != f16Neg b) && f16Neg c) (f16Units a * f16Units b + f16Units c * 2 ^ 24) (2 ^ 48)

def f16Max (a b : BitVec 16) : BitVec 16 :=
  if f16IsNan a || f16IsNan b then f16Nan (f16Seed a b) else if f16Units a < f16Units b then b else a

def f16Min (a b : BitVec 16) : BitVec 16 :=
  if f16IsNan a || f16IsNan b then f16Nan (f16Seed a b) else if f16Units b < f16Units a then b else a

def f16Sel (a b c : BitVec 16) : BitVec 16 :=
  if f16IsNan a || f16IsNan b || f16IsNan c then f16Nan (f16Seed a b + c.toNat) else if f16Units c ≠ 0 then a else b

def f16Cmp (a b : BitVec 16) : BitVec 16 :=
  if f16IsNan a || f16IsNan b then f16Nan (f16Seed a b) else if f16Units b < f16Units a then 0x3C00 else 0

/-! ### Lane-wise at any width -/

def intOp2 (w : Nat) (f : Int → Int → Int) (a b : BitVec 16) : BitVec 16 :=
  packInts w (List.zipWith f (laneInts w a) (laneInts w b))

def intSel (w : Nat) (a b c : BitVec 16) : BitVec 16 :=
  packInts w ((List.zip (laneInts w a) (laneInts w b)).zip (laneInts w c) |>.map fun t => if t.2 ≠ 0 then t.1.1 else t.1.2)

/-- The two-operand lane-wise operations. -/
inductive Lane2 where
  | add | sub | mul | max | min | cmp
deriving DecidableEq, Repr

def Lane2.run (o : Lane2) (w : Nat) (a b : BitVec 16) : BitVec 16 :=
  if w = 3 then
    match o with
    | .add => f16Add a b | .sub => f16Sub a b | .mul => f16Mul a b | .max => f16Max a b | .min => f16Min a b
    | .cmp => f16Cmp a b
  else
    match o with
    | .add => intOp2 w (· + ·) a b | .sub => intOp2 w (· - ·) a b | .mul => intOp2 w (· * ·) a b
    | .max => intOp2 w (fun x y => if x < y then y else x) a b
    | .min => intOp2 w (fun x y => if y < x then y else x) a b
    | .cmp => intOp2 w (fun x y => if y < x then 1 else 0) a b

/-- Latency (Table 08-11): ADD, SUB and MUL take 4 at F16, every other lane-wise operation 2. -/
def Lane2.latency (o : Lane2) (w : Nat) : Nat :=
  match o with
  | .add | .sub | .mul => if w = 3 then 4 else 2
  | .max | .min | .cmp => 2

def lanes2 (f : BitVec 16 → BitVec 16 → BitVec 16) (as bs : List VCell) : List VCell :=
  List.zipWith (fun a b => cell (f a.bits b.bits) (a.poison || b.poison)) as bs

def lanes3 (f : BitVec 16 → BitVec 16 → BitVec 16 → BitVec 16) (as bs cs : List VCell) : List VCell :=
  List.zipWith (fun ab c => cell (f ab.1.bits ab.2.bits c.bits) (ab.1.poison || ab.2.poison || c.poison)) (as.zip bs) cs

def lanes1 (f : BitVec 16 → BitVec 16) (as : List VCell) : List VCell := as.map fun a => cell (f a.bits) a.poison

/-! ### Cross-lane reductions (Table 02-6) -/

def sat32 (i : Int) : Int := clampInt (-(2 ^ 31 - 1)) (2 ^ 31 - 1) i

/-- Element 0 of lane 0 holds an integer result, the other elements 0 (Table 08-11). -/
def intResult (w : Nat) (i : Int) : BitVec 16 := packInts w [i]

def allInts (w : Nat) (as : List VCell) : List Int := as.flatMap fun a => laneInts w a.bits

/-- Twice rounded: exact to F32, then to F16, both rne (Table 02-6). -/
def f16ViaF32 (n : Int) (d : Nat) : BitVec 16 := let v := f32Units n d; f16OfRat false v (2 ^ 149)

/-- A reduction over every element: 0 sum, 1 maximum, 2 sum of squares. -/
def reduce (k w : Nat) (as : List VCell) : VCell :=
  let p := as.any (·.poison)
  if w = 3 then
    if as.any fun a => f16IsNan a.bits then cell (f16Nan k) p
    else
      let us := as.map fun a => f16Units a.bits
      if k = 0 then cell (f16ViaF32 (us.foldl (· + ·) 0) (2 ^ 24)) p
      else if k = 1 then cell ((as.tail.foldl (fun m a => f16Max m a.bits) (as.headD (cell 0 false)).bits)) p
      else cell (f16ViaF32 (us.foldl (fun t u => t + u * u) 0) (2 ^ 48)) p
  else
    let is := allInts w as
    if k = 0 then cell (intResult w (sat32 (is.foldl (· + ·) 0))) p
    else if k = 1 then cell (intResult w (is.tail.foldl max (is.headD 0))) p
    else cell (intResult w (sat32 (is.foldl (fun t u => t + u * u) 0))) p

/-! ### F16 functions -/

def f16Rsqrt (a : BitVec 16) : BitVec 16 :=
  let x := f16Units a
  if f16IsNan a then f16Nan a.toNat
  else if x ≤ 0 then freeF16 (Config.poleValue 0 a.toNat)
  else
    let n := 2 ^ 144
    let q := n / x.toNat
    let r := isqrt q
    f16OfRat false (sticky r (decide (q * x.toNat = n) && decide (r * r = q)) : Nat) (2 ^ 61)

def f16Rcp (a : BitVec 16) : BitVec 16 :=
  let x := f16Units a
  if f16IsNan a then f16Nan a.toNat
  else if x = 0 then freeF16 (Config.poleValue 1 a.toNat)
  else f16OfRat false (if x < 0 then -(2 ^ 24 : Int) else 2 ^ 24) x.natAbs

/-- `u` counts of 2^−24 held within ±m. -/
def within (m : Nat) (u : Int) : Int := clampInt (-(m * 2 ^ 24 : Nat)) (m * 2 ^ 24 : Nat) u

def f16Exp2 (a : BitVec 16) : BitVec 16 :=
  if f16IsNan a then f16Nan a.toNat
  else let r := exp2Ratio (within 40 (f16Units a)) (2 ^ 24); f16OfRat false r.1 r.2

/-- act(x) as a ratio: 0 SiLU, 1 GELU, 2 sigmoid, 3 tanh. -/
def actRatio (k : Nat) (x : Int) : Int × Nat :=
  let sg := expRatio (-(within 64 x)) (2 ^ 24)            -- sigmoid = 1 / (1 + e^−x)
  if k = 0 then (x * (sg.2 : Int), 2 ^ 24 * (sg.1 + sg.2))
  else if k = 1 then
    -- past ±8 the factor is as near 1, or the value as near 0, as no F16 product can tell
    if 8 * 2 ^ 24 ≤ x then (x * (2 ^ 60 - 1), 2 ^ 84) else if x ≤ -(8 * 2 ^ 24) then (-1, 2 ^ 60)
    else (x * phiTwice x, 2 ^ 24 * 2 ^ 129)
  else if k = 2 then (sg.2, sg.1 + sg.2)
  else
    let t := expRatio (-(2 * (within 32 x).natAbs : Nat)) (2 ^ 24)
    let n : Int := (t.2 : Int) - t.1
    (if x < 0 then -n else n, t.2 + t.1)

def f16Act (k : Nat) (a : BitVec 16) : BitVec 16 :=
  if f16IsNan a then f16Nan a.toNat
  else let r := actRatio k (f16Units a); f16OfRat (f16Neg a && k != 2) r.1 r.2

/-- act(a) × b, rounded once. -/
def f16Glu (k : Nat) (a b : BitVec 16) : BitVec 16 :=
  if f16IsNan a || f16IsNan b then f16Nan (f16Seed a b)
  else let r := actRatio k (f16Units a); f16OfRat ((f16Neg a && k != 2) != f16Neg b) (r.1 * f16Units b) (r.2 * 2 ^ 24)

def glu (k : Nat) (as : List VCell) : List VCell :=
  (List.range 256).map fun i =>
    let a := as.getD (i / 16 * 32 + i % 16) (cell 0 false)
    let b := as.getD (i / 16 * 32 + 16 + i % 16) (cell 0 false)
    cell (f16Glu k a.bits b.bits) (a.poison || b.poison)

/-! ### Format changes -/

/-- A decoded block element × E8 scale as F16; scale 0xFF yields NaN (R51). -/
def scaledF16 (n : Int) (d e : Nat) : BitVec 16 :=
  if e = 255 then f16Nan e else let s := e8Value e; f16OfRat false (n * s.1) (d * s.2)

/-- WIDEN (R39, R40): elements from half `half` of va, scale bytes from the same half of vb. -/
def widen (b8 : Bool) (half : Nat) (as bs : List VCell) : List VCell :=
  let el := laneBytes as (256 * half) 256
  let sc := laneBytes bs (256 * half) 16
  (List.range 512).map fun i =>
    let e := sc.getD (if b8 then i / 32 else i / 16) (0, false)
    let x := el.getD (if b8 then i else i / 2) (0, false)
    let v : Int := if b8 then toSigned 8 x.1 else intElem (if i % 2 = 0 then x.1 % 16 else x.1 / 16)
    cell (scaledF16 v (if b8 then 64 else 1) e.1) (x.2 || e.2)

/-- A lane a narrowing takes as NaN (R51, R222). -/
def narrowNan (c : VCell) : Bool := c.poison || f16IsNan c.bits

/-- The largest magnitude of a block, in counts of 2^−24. -/
def blockMax (b : List VCell) : Nat := b.foldl (fun m c => max m (f16Units c.bits).natAbs) 0

/-- One block narrowed to B4 (`top` 7, `sub` 1) or B8 (`top` 127, `sub` 64): its E8 scale and elements (R49, R50, R51). -/
def narrowBlock (top sub : Nat) (b : List VCell) : Nat × List Int :=
  if b.any narrowNan then (255, b.map fun _ => 0)
  else
    let m := blockMax b
    if m = 0 then (127, b.map fun _ => 0)
    else
      let e := fitE top sub m (2 ^ 24)
      let s := e8Value e
      (e, b.map fun c => clampInt (-(top : Int)) top (divRne (f16Units c.bits * (s.2 * sub : Nat)) (2 ^ 24 * s.1)))

/-- NARROW.B4 and NARROW.B8: element lanes and scale lanes, each from the start of its half. -/
def narrowB (b8 : Bool) (as : List VCell) : List VCell × List VCell :=
  let size := if b8 then 32 else 16
  let blocks := (chunksOf size (512 / size) as).map (narrowBlock (if b8 then 127 else 7) (if b8 then 64 else 1))
  let bad := blocks.map fun b => b.1 == 255
  let els := blocks.flatMap (·.2)
  (if b8 then packBytes (els.map (ofSigned 8)) bad 32 else packNibbles (els.map intCode) bad 16,
   packBytes (blocks.map (·.1)) bad 1)

/-- NARROW.A4S (Table 08-11, R49): element lanes and the scale word; only the first `count` elements take part. -/
def narrowA4s (fp4 : Bool) (count : Nat) (as : List VCell) : List VCell × BitVec 16 :=
  let used := as.take count
  let kind := if fp4 then 0x8000 else 0
  let zeros (n : Nat) : List Nat := List.replicate n 0
  if used.any narrowNan then (packNibbles (zeros 1024) [] 1024, BitVec.ofNat 16 (kind + 0xFF))
  else
    let m := blockMax used
    if m = 0 then (packNibbles (zeros 1024) [] 1024, BitVec.ofNat 16 (kind + 0x7F))
    else
      let w := fitA4s fp4 m (2 ^ 24)
      let s := a4sValue w
      let code (c : VCell) : Nat :=
        if fp4 then fp4Code (f16Units c.bits * s.2) (2 ^ 24 * s.1)
        else intCode (divRne (f16Units c.bits * s.2) (2 ^ 24 * s.1))
      (packNibbles (used.map code ++ zeros (1024 - count)) [] 1024, BitVec.ofNat 16 (kind + w))

/-- FIX: sat32(rne(x × 2^s)) of each lane as two lanes; a NaN has no I32 and poisons its result. -/
def fixLanes (shift : Int) (as : List VCell) : List VCell :=
  as.flatMap fun a =>
    let r := flueFix shift a
    let n := ofSigned 32 r.1
    [cell (BitVec.ofNat 16 n) (r.2.1 || a.poison), cell (BitVec.ofNat 16 (n / 65536)) (r.2.1 || a.poison)]

/-- FLT: rne16(i × 2^s) of each I32 of the pair. -/
def fltLanes (shift : Int) (pair : List VCell) : List VCell :=
  (pairUp pair).map fun v => let p := pow2 shift; cell (f16OfRat false (v.1 * p.1) p.2) v.2

/-! ### TOPK -/

/-- Whether lane `a` (index, bits) ranks before lane `b`: larger first; equal ones in an order that is not stated. -/
def ranksBefore (seed : Nat) (a b : Nat × BitVec 16) : Bool :=
  let u := f16Units a.2
  let v := f16Units b.2
  if v < u then true else if u < v then false
  else
    let x := Config.tieRank seed a.1
    let y := Config.tieRank seed b.1
    decide (x < y) || (x == y && decide (a.1 < b.1))

def insertRanked (seed : Nat) (a : Nat × BitVec 16) : List (Nat × BitVec 16) → List (Nat × BitVec 16)
  | [] => [a]
  | b :: l => if ranksBefore seed a b then a :: b :: l else b :: insertRanked seed a l

/-- The `k` largest lanes with their indices, in descending order; with a NaN lane every value is NaN and the indices
are not stated. -/
def topk (seed k : Nat) (as : List VCell) : List VCell × List VCell :=
  let p := as.any (·.poison)
  if as.any fun a => f16IsNan a.bits then
    ((List.range k).map fun i => cell (BitVec.ofNat 16 (Config.freeWord (seed + i) % 512)) p,
     (List.range k).map fun i => cell (f16Nan i) p)
  else
    let l := ((as.zipIdx.map fun a => (a.2, a.1.bits)).foldr (insertRanked seed) []).take k
    (l.map fun a => cell (BitVec.ofNat 16 a.1) p, l.map fun a => cell a.2 p)

/-- Signed six-bit shift IMM[5:0]. -/
def immShift (imm : Nat) : Int := toSigned 6 imm

end Sys2Proof.Machine
end

