-- ==== Sys2Proof/Machine/Vec.lean ====
section
/-! DEFINITION. Machine/Vec.lean: the VEC instructions (R198, Table 08-10, Table 08-11). Operands are read at issue; a
result is written at issue + latency and is seen by reads from that cycle on (R193). -/

namespace Sys2Proof.Machine

/-- A lane-wise operation of two operands. -/
def State.vecLane2 (o : Lane2) (vop : Nat) (i : IssueAt) (f : VecFields) (s : State) : State :=
  s.issueVec i f vop .any fun t s =>
    let x := s.hearth i.h.toNat
    let w := f.w.toNat
    s.result i f vop t (o.latency w)
      (vw f.vd.toNat 0 (lanes2 (o.run w) (x.lanes f.va.toNat) (x.lanes f.vb.toNat)))

/-- A lane-wise F16 function of one operand, latency 6. -/
def State.vecLane1 (g : BitVec 16 → BitVec 16) (vop : Nat) (i : IssueAt) (f : VecFields) (s : State) : State :=
  s.issueVec i f vop .f16 fun t s =>
    s.result i f vop t 6 (vw f.vd.toNat 0 (lanes1 g ((s.hearth i.h.toNat).lanes f.va.toNat)))

/-- A cross-lane reduction into lane 0, latency 8. -/
def State.vecReduce (k vop : Nat) (i : IssueAt) (f : VecFields) (s : State) : State :=
  s.issueVec i f vop .any fun t s =>
    s.result i f vop t 8 (vw f.vd.toNat 0 [reduce k f.w.toNat ((s.hearth i.h.toNat).lanes f.va.toNat)])

/-- A scalar result falls due at issue + latency. -/
def State.scalarResult (h t lat g v : Nat) (s : State) : State := s.schedule h (t + lat) (.greg (g % 16) (v % 2 ^ 32))

/-- Lane IMM of a register; a lane past 511 does not exist and its value is not stated. -/
def State.laneImm (s : State) (h r imm : Nat) : VCell :=
  if imm < 512 then (s.hearth h).lane r imm else cell (BitVec.ofNat 16 (Config.freeWord s.free)) false

/-- The rows of an LD or ST (R198). -/
def loadRows (f : VecFields) : Nat := f.imm.toNat / 2 ^ 15 + 1

/-- The first row of an LD or ST (R198): ADDR plus the scalar register as an unsigned number, without wrap (DESIGN CHOICE, log 217). -/
def loadAddr (f : VecFields) (x : Hearth) : Nat := f.imm.toNat % 2 ^ 15 + x.gReg f.vb.toNat

/-- VEC LD (R198, R215): 1–16 rows in the VE read slot of frame ⌊t/8⌋ + 1, into the first lanes of vd at issue + 12. -/
def execVecLd (i : IssueAt) (f : VecFields) (s : State) : Host.Outcome State Fault Refusal :=
  .next (s.issueVec i f 0 .ignored fun t s =>
    let h := i.h.toNat
    let x := s.hearth h
    let frame := t / 8 + 1
    let rows := loadRows f
    let addr := loadAddr f x
    if 16 < rows then s.stokerFault h .illegal (vecLow f) 128
    else if 32768 < addr + rows ∨ x.loadFrame = some frame then s.scheduleFault h t 128
    else (s.modHearth h fun x => { x with loadFrame := some frame }).schedule h (8 * frame) (.load f.vd.toNat addr rows (t + 12)))

/-- VEC ST (R198, R215): the register's first lanes into 1–16 rows in the VE write slot of frame ⌊t/8⌋ + 1. -/
def execVecSt (i : IssueAt) (f : VecFields) (s : State) : Host.Outcome State Fault Refusal :=
  .next (s.issueVec i f 1 .ignored fun t s =>
    let h := i.h.toNat
    let x := s.hearth h
    let frame := t / 8 + 1
    let rows := loadRows f
    let addr := loadAddr f x
    if 16 < rows then s.stokerFault h .illegal (vecLow f) 129
    else if 32768 < addr + rows ∨ x.storeFrame = some frame then s.scheduleFault h t 129
    else (s.modHearth h fun x => { x with storeFrame := some frame }).schedule h (8 * frame + 1)
      (.store addr (chunksOf 32 rows (x.lanes f.va.toNat))))

def execVecAdd (i : IssueAt) (f : VecFields) (s : State) : Host.Outcome State Fault Refusal := .next (s.vecLane2 .add 2 i f)
def execVecSub (i : IssueAt) (f : VecFields) (s : State) : Host.Outcome State Fault Refusal := .next (s.vecLane2 .sub 3 i f)
def execVecMul (i : IssueAt) (f : VecFields) (s : State) : Host.Outcome State Fault Refusal := .next (s.vecLane2 .mul 4 i f)
def execVecMax (i : IssueAt) (f : VecFields) (s : State) : Host.Outcome State Fault Refusal := .next (s.vecLane2 .max 6 i f)
def execVecMin (i : IssueAt) (f : VecFields) (s : State) : Host.Outcome State Fault Refusal := .next (s.vecLane2 .min 7 i f)
def execVecCmp (i : IssueAt) (f : VecFields) (s : State) : Host.Outcome State Fault Refusal := .next (s.vecLane2 .cmp 9 i f)

/-- FMA: va × vb + vc, rounded once. -/
def execVecFma (i : IssueAt) (f : VecFields) (s : State) : Host.Outcome State Fault Refusal :=
  .next (s.issueVec i f 5 .f16 fun t s =>
    let x := s.hearth i.h.toNat
    s.result i f 5 t 4 (vw f.vd.toNat 0 (lanes3 f16Fma (x.lanes f.va.toNat) (x.lanes f.vb.toNat) (x.lanes f.vc.toNat))))

/-- SEL: vc ≠ 0 ? va : vb. -/
def execVecSel (i : IssueAt) (f : VecFields) (s : State) : Host.Outcome State Fault Refusal :=
  .next (s.issueVec i f 8 .any fun t s =>
    let x := s.hearth i.h.toNat
    s.result i f 8 t 2 (vw f.vd.toNat 0 (lanes3 (if f.w = 3 then f16Sel else intSel f.w.toNat) (x.lanes f.va.toNat) (x.lanes f.vb.toNat) (x.lanes f.vc.toNat))))

def execVecRsum (i : IssueAt) (f : VecFields) (s : State) : Host.Outcome State Fault Refusal := .next (s.vecReduce 0 10 i f)
def execVecRmax (i : IssueAt) (f : VecFields) (s : State) : Host.Outcome State Fault Refusal := .next (s.vecReduce 1 11 i f)
def execVecRsqs (i : IssueAt) (f : VecFields) (s : State) : Host.Outcome State Fault Refusal := .next (s.vecReduce 2 12 i f)
def execVecRsqrt (i : IssueAt) (f : VecFields) (s : State) : Host.Outcome State Fault Refusal := .next (s.vecLane1 f16Rsqrt 13 i f)
def execVecRcp (i : IssueAt) (f : VecFields) (s : State) : Host.Outcome State Fault Refusal := .next (s.vecLane1 f16Rcp 14 i f)
def execVecExp2 (i : IssueAt) (f : VecFields) (s : State) : Host.Outcome State Fault Refusal := .next (s.vecLane1 f16Exp2 15 i f)

/-- ACT: SiLU, GELU, sigmoid or tanh by IMM[1:0]. -/
def execVecAct (i : IssueAt) (f : VecFields) (s : State) : Host.Outcome State Fault Refusal :=
  .next (s.vecLane1 (f16Act (f.imm.toNat % 4)) 16 i f)

/-- GLU: 256 results into half IMM[2] of vd. -/
def execVecGlu (i : IssueAt) (f : VecFields) (s : State) : Host.Outcome State Fault Refusal :=
  .next (s.issueVec i f 17 .f16 fun t s =>
    s.result i f 17 t 8 (vw f.vd.toNat (256 * (f.imm.toNat / 4 % 2)) (glu (f.imm.toNat % 4) ((s.hearth i.h.toNat).lanes f.va.toNat))))

/-- WIDEN: 512 B4 (W I4) or B8 (W I8) elements and their scales into F16. -/
def execVecWiden (i : IssueAt) (f : VecFields) (s : State) : Host.Outcome State Fault Refusal :=
  .next (s.issueVec i f 18 .narrow fun t s =>
    let x := s.hearth i.h.toNat
    s.result i f 18 t 4 (vw f.vd.toNat 0 (widen (f.w == 1) (f.imm.toNat % 2) (x.lanes f.va.toNat) (x.lanes f.vb.toNat))))

/-- NARROW.B4 and NARROW.B8: elements into half IMM[0] of vd, scales into vc. -/
def State.vecNarrow (b8 : Bool) (vop : Nat) (i : IssueAt) (f : VecFields) (s : State) : State :=
  s.issueVec i f vop .f16 fun t s =>
    let r := narrowB b8 ((s.hearth i.h.toNat).lanes f.va.toNat)
    let first := 256 * (f.imm.toNat % 2)
    (s.result i f vop t 6 (vw f.vd.toNat first r.1)).schedule i.h.toNat (t + 6)
      (.vreg (vw f.vc.toNat first r.2))

def execVecNarrowB4 (i : IssueAt) (f : VecFields) (s : State) : Host.Outcome State Fault Refusal := .next (s.vecNarrow false 19 i f)
def execVecNarrowB8 (i : IssueAt) (f : VecFields) (s : State) : Host.Outcome State Fault Refusal := .next (s.vecNarrow true 20 i f)

/-- NARROW.A4S: 1,024 elements of va and va + 1 into half IMM[0] of vd, the scale word into lane IMM[11:6] of vc. -/
def execVecNarrowA4s (i : IssueAt) (f : VecFields) (s : State) : Host.Outcome State Fault Refusal :=
  .next (s.issueVec i f 21 .f16 fun t s =>
    let x := s.hearth i.h.toNat
    let imm := f.imm.toNat
    if f.va.toNat = 31 then s.stokerFault i.h.toNat .illegal (vecLow f) 149
    else
      let n := if imm / 4096 = 0 then 1024 else 8 * (imm / 4096)
      let r := narrowA4s (bit imm 1) n (x.lanes f.va.toNat ++ x.lanes (f.va.toNat + 1))
      (s.result i f 21 t 10 (vw f.vd.toNat (256 * (imm % 2)) r.1)).schedule i.h.toNat (t + 10)
        (.vreg (vw f.vc.toNat (imm / 64 % 64) [cell r.2 false])))

/-- FIX: each F16 of va into the I32 pair vd, vd + 1, shifted by IMM[5:0]. -/
def execVecFix (i : IssueAt) (f : VecFields) (s : State) : Host.Outcome State Fault Refusal :=
  .next (s.issueVec i f 22 .f16 fun t s =>
    if f.vd.toNat = 31 then s.stokerFault i.h.toNat .illegal (vecLow f) 150
    else
      let l := fixLanes (immShift f.imm.toNat) ((s.hearth i.h.toNat).lanes f.va.toNat)
      (s.result i f 22 t 4 (vw f.vd.toNat 0 (l.take 512))).schedule i.h.toNat (t + 4)
        (.vreg (vw (f.vd.toNat + 1) 0 (l.drop 512))))

/-- FLT: the I32 pair vd, vd + 1 into F16 in vd, shifted by IMM[5:0]. -/
def execVecFlt (i : IssueAt) (f : VecFields) (s : State) : Host.Outcome State Fault Refusal :=
  .next (s.issueVec i f 23 .f16 fun t s =>
    let x := s.hearth i.h.toNat
    if f.vd.toNat = 31 then s.stokerFault i.h.toNat .illegal (vecLow f) 151
    else s.result i f 23 t 4 (vw f.vd.toNat 0 (fltLanes (immShift f.imm.toNat) (x.lanes f.vd.toNat ++ x.lanes (f.vd.toNat + 1)))))

/-- TOPK: the k = IMM[8:0] largest lanes, indices from lane 0 and values from lane 256; one issue per 16 cc. -/
def execVecTopk (i : IssueAt) (f : VecFields) (s : State) : Host.Outcome State Fault Refusal :=
  .next (s.issueVec i f 24 .f16 fun t s =>
    let h := i.h.toNat
    let x := s.hearth h
    if (match x.topk with | some p => decide (t < p + 16) | none => false) then s.scheduleFault h t 152
    else
      let imm := f.imm.toNat % 512
      -- k outside 1–256 is not stated: some number of lanes within them
      let k := if 1 ≤ imm ∧ imm ≤ 256 then imm else Config.freeWord s.free % 256 + 1
      let r := topk (s.free + 1) k (x.lanes f.va.toNat)
      (((s.spend 1024).modHearth h fun x => { x with topk := some t }).result i f 24 t 16
        (vw f.vd.toNat 0 r.1)).schedule h (t + 16) (.vreg (vw f.vd.toNat 256 r.2)))

/-- BCAST: every lane of vd := lane IMM of va; at F16 an infinity pattern is taken as NaN (R51). -/
def execVecBcast (i : IssueAt) (f : VecFields) (s : State) : Host.Outcome State Fault Refusal :=
  .next (s.issueVec i f 25 .any fun t s =>
    let c := s.laneImm i.h.toNat f.va.toNat f.imm.toNat
    (s.spend 1).result i f 25 t 2 (vw f.vd.toNat 0 (List.replicate 512 (cell (if f.w.toNat = 3 then f16Taken c.bits else c.bits) c.poison))))

/-- GSET: gVD := IMM, zero-extended. -/
def execVecGset (i : IssueAt) (f : VecFields) (s : State) : Host.Outcome State Fault Refusal :=
  .next (s.issueVec i f 26 .ignored fun t s => s.scalarResult i.h.toNat t 1 f.vd.toNat f.imm.toNat)

/-- gVA + IMM sign-extended, as a signed sum of 32 bits; outside them the result is not stated. -/
def gaddValue (a imm : Nat) : Nat :=
  let r := toSigned 32 a + toSigned 20 imm
  if -(2 ^ 31) ≤ r ∧ r < 2 ^ 31 then ofSigned 32 r else Config.gaddOverflow a imm % 2 ^ 32

/-- GADD: gVD := gVA + IMM, sign-extended. -/
def execVecGadd (i : IssueAt) (f : VecFields) (s : State) : Host.Outcome State Fault Refusal :=
  .next (s.issueVec i f 27 .ignored fun t s =>
    s.scalarResult i.h.toNat t 1 f.vd.toNat (gaddValue ((s.hearth i.h.toNat).gReg f.va.toNat) f.imm.toNat))

/-- GCTX: gVD := context register IMM[2:0] (Table 08-2). -/
def execVecGctx (i : IssueAt) (f : VecFields) (s : State) : Host.Outcome State Fault Refusal :=
  .next (s.issueVec i f 28 .ignored fun t s =>
    s.scalarResult i.h.toNat t 1 f.vd.toNat ((s.hearth i.h.toNat).ctx.getD (f.imm.toNat % 8) 0))

/-- GLANE: gVD := lane IMM of va, zero-extended. -/
def execVecGlane (i : IssueAt) (f : VecFields) (s : State) : Host.Outcome State Fault Refusal :=
  .next (s.issueVec i f 29 .ignored fun t s =>
    (s.spend 1).scalarResult i.h.toNat t 2 f.vd.toNat (s.laneImm i.h.toNat f.va.toNat f.imm.toNat).bits.toNat)

/-- LANEG: lane IMM of vd := low 16 bits of gVA. -/
def execVecLaneg (i : IssueAt) (f : VecFields) (s : State) : Host.Outcome State Fault Refusal :=
  .next (s.issueVec i f 30 .ignored fun t s =>
    let l := if f.imm.toNat < 512 then f.imm.toNat else Config.freeWord s.free % 512
    (s.spend 1).result i f 30 t 2 (vw f.vd.toNat l [cell (BitVec.ofNat 16 ((s.hearth i.h.toNat).gReg f.va.toNat)) false]))

end Sys2Proof.Machine
end

