-- ==== Sys2Proof/Machine/Dispatch.lean ====
section
/-! DEFINITION. Machine/Dispatch.lean: one arm per command, each one call of its meaning. -/

namespace Sys2Proof.Machine

open Sys2Proof

def exec (i : Instr) (s : State) : Host.Outcome State Fault Refusal :=
  match i with
  | .objectWrite rq op idx sub offset data => Sys2Proof.Machine.execObjectWrite rq op idx sub offset data s
  | .mailboxGo p m => Sys2Proof.Machine.execMailboxGo p m s
  | .noaRequest m => Sys2Proof.Machine.execNoaRequest m s
  | .segmentedWriteTimeout session => Sys2Proof.Machine.execSegmentedWriteTimeout session s
  | .drvIssue w f => Sys2Proof.Machine.execDrvIssue w f s
  | .drvLatchLoad w f => Sys2Proof.Machine.execDrvLatchLoad w f s
  | .damperHoldRelease h => Sys2Proof.Machine.execDamperHoldRelease h s
  | .reissueWiden site => Sys2Proof.Machine.execReissueWiden site s
  | .reissueSplit site => Sys2Proof.Machine.execReissueSplit site s
  | .acc w f => Sys2Proof.Machine.execAcc w f s
  | .accDelivery h bay upset => Sys2Proof.Machine.execAccDelivery h bay upset s
  | .arrayFence a => Sys2Proof.Machine.execArrayFence a s
  | .converterSettleFail site conv slot => Sys2Proof.Machine.execConverterSettleFail site conv slot s
  | .remapWrite a col inService => Sys2Proof.Machine.execRemapWrite a col inService s
  | .housekeepingRound => Sys2Proof.Machine.execHousekeepingRound s
  | .housekeepingConversion conv chan code ovr => Sys2Proof.Machine.execHousekeepingConversion conv chan code ovr s
  | .calibrationIntervalExpired h => Sys2Proof.Machine.execCalibrationIntervalExpired h s
  | .calibrateMasked rq => Sys2Proof.Machine.execCalibrateMasked rq s
  | .calibrateAll rq => Sys2Proof.Machine.execCalibrateAll rq s
  | .calibrationRunStart => Sys2Proof.Machine.execCalibrationRunStart s
  | .calibrationMasterDone rextPpm masterTrim hearthTrims => Sys2Proof.Machine.execCalibrationMasterDone rextPpm masterTrim hearthTrims s
  | .calibrationPhaseDone phase found => Sys2Proof.Machine.execCalibrationPhaseDone phase found s
  | .calibrationGroupDone => Sys2Proof.Machine.execCalibrationGroupDone s
  | .calibrationCoverGraceExpired h => Sys2Proof.Machine.execCalibrationCoverGraceExpired h s
  | .trimUpdate site => Sys2Proof.Machine.execTrimUpdate site s
  | .calibrationImageWrite rq img => Sys2Proof.Machine.execCalibrationImageWrite rq img s
  | .calibrationImageApplied => Sys2Proof.Machine.execCalibrationImageApplied s
  | .steepHostDma rq => Sys2Proof.Machine.execSteepHostDma rq s
  | .steepFabric rq => Sys2Proof.Machine.execSteepFabric rq s
  | .selfRefresh rq => Sys2Proof.Machine.execSelfRefresh rq s
  | .steepAbort rq => Sys2Proof.Machine.execSteepAbort rq s
  | .steepSignatureVerify head => Sys2Proof.Machine.execSteepSignatureVerify head s
  | .steepChunkArrival index bytes => Sys2Proof.Machine.execSteepChunkArrival index bytes s
  | .steepSourceTimeout => Sys2Proof.Machine.execSteepSourceTimeout s
  | .steepArrayStart a => Sys2Proof.Machine.execSteepArrayStart a s
  | .wearLimit a => Sys2Proof.Machine.execWearLimit a s
  | .programIteration a row outside => Sys2Proof.Machine.execProgramIteration a row outside s
  | .kilnEnd a => Sys2Proof.Machine.execKilnEnd a s
  | .finalVerifyDone a outside => Sys2Proof.Machine.execFinalVerifyDone a outside s
  | .arraySteepComplete a => Sys2Proof.Machine.execArraySteepComplete a s
  | .programRecordArrival a record scalesGood rows marginCells => Sys2Proof.Machine.execProgramRecordArrival a record scalesGood rows marginCells s
  | .integrityCheckComplete durationUs => Sys2Proof.Machine.execIntegrityCheckComplete durationUs s
  | .switchCommand rq target earliest => Sys2Proof.Machine.execSwitchCommand rq target earliest s
  | .barrierRaise rq => Sys2Proof.Machine.execBarrierRaise rq s
  | .barrierLower rq => Sys2Proof.Machine.execBarrierLower rq s
  | .drainLimitExpired => Sys2Proof.Machine.execDrainLimitExpired s
  | .copyComplete => Sys2Proof.Machine.execCopyComplete s
  | .referenceLost => Sys2Proof.Machine.execReferenceLost s
  | .referenceStable => Sys2Proof.Machine.execReferenceStable s
  | .referenceSelectWrite rq v => Sys2Proof.Machine.execReferenceSelectWrite rq v s
  | .coreFrequencyCeilingWrite rq mhz => Sys2Proof.Machine.execCoreFrequencyCeilingWrite rq mhz s
  | .spreadWrite rq rate v => Sys2Proof.Machine.execSpreadWrite rq rate v s
  | .clockEnableWrite rq v => Sys2Proof.Machine.execClockEnableWrite rq v s
  | .ptp offsetNs => Sys2Proof.Machine.execPtp offsetNs s
  | .ptpHoldover => Sys2Proof.Machine.execPtpHoldover s
  | .cadenceEdge => Sys2Proof.Machine.execCadenceEdge s
  | .cadenceEdgeMissing => Sys2Proof.Machine.execCadenceEdgeMissing s
  | .cadenceLost => Sys2Proof.Machine.execCadenceLost s
  | .stageLaunch step => Sys2Proof.Machine.execStageLaunch step s
  | .stepAbandon step => Sys2Proof.Machine.execStepAbandon step s
  | .holdNPulse => Sys2Proof.Machine.execHoldNPulse s
  | .holdNStuck => Sys2Proof.Machine.execHoldNStuck s
  | .kindle step => Sys2Proof.Machine.execKindle step s
  | .kindleComplete h => Sys2Proof.Machine.execKindleComplete h s
  | .hearthBank h => Sys2Proof.Machine.execHearthBank h s
  | .outOfService rq h => Sys2Proof.Machine.execOutOfService rq h s
  | .returnToService rq h => Sys2Proof.Machine.execReturnToService rq h s
  | .programImageWrite rq img => Sys2Proof.Machine.execProgramImageWrite rq img s
  | .programUnload rq => Sys2Proof.Machine.execProgramUnload rq s
  | .fluSend w f => Sys2Proof.Machine.execFluSend w f s
  | .fluReceive w f => Sys2Proof.Machine.execFluReceive w f s
  | .vecLd w f => Sys2Proof.Machine.execVecLd w f s
  | .vecSt w f => Sys2Proof.Machine.execVecSt w f s
  | .vecAdd w f => Sys2Proof.Machine.execVecAdd w f s
  | .vecSub w f => Sys2Proof.Machine.execVecSub w f s
  | .vecMul w f => Sys2Proof.Machine.execVecMul w f s
  | .vecFma w f => Sys2Proof.Machine.execVecFma w f s
  | .vecMax w f => Sys2Proof.Machine.execVecMax w f s
  | .vecMin w f => Sys2Proof.Machine.execVecMin w f s
  | .vecSel w f => Sys2Proof.Machine.execVecSel w f s
  | .vecCmp w f => Sys2Proof.Machine.execVecCmp w f s
  | .vecRsum w f => Sys2Proof.Machine.execVecRsum w f s
  | .vecRmax w f => Sys2Proof.Machine.execVecRmax w f s
  | .vecRsqs w f => Sys2Proof.Machine.execVecRsqs w f s
  | .vecRsqrt w f => Sys2Proof.Machine.execVecRsqrt w f s
  | .vecRcp w f => Sys2Proof.Machine.execVecRcp w f s
  | .vecExp2 w f => Sys2Proof.Machine.execVecExp2 w f s
  | .vecAct w f => Sys2Proof.Machine.execVecAct w f s
  | .vecGlu w f => Sys2Proof.Machine.execVecGlu w f s
  | .vecWiden w f => Sys2Proof.Machine.execVecWiden w f s
  | .vecNarrowB4 w f => Sys2Proof.Machine.execVecNarrowB4 w f s
  | .vecNarrowB8 w f => Sys2Proof.Machine.execVecNarrowB8 w f s
  | .vecNarrowA4s w f => Sys2Proof.Machine.execVecNarrowA4s w f s
  | .vecFix w f => Sys2Proof.Machine.execVecFix w f s
  | .vecFlt w f => Sys2Proof.Machine.execVecFlt w f s
  | .vecTopk w f => Sys2Proof.Machine.execVecTopk w f s
  | .vecBcast w f => Sys2Proof.Machine.execVecBcast w f s
  | .vecGset w f => Sys2Proof.Machine.execVecGset w f s
  | .vecGadd w f => Sys2Proof.Machine.execVecGadd w f s
  | .vecGctx w f => Sys2Proof.Machine.execVecGctx w f s
  | .vecGlane w f => Sys2Proof.Machine.execVecGlane w f s
  | .vecLaneg w f => Sys2Proof.Machine.execVecLaneg w f s
  | .dma w f => Sys2Proof.Machine.execDma w f s
  | .dmaCopy h eng => Sys2Proof.Machine.execDmaCopy h eng s
  | .dmaHearth h eng => Sys2Proof.Machine.execDmaHearth h eng s
  | .dmaSet h eng => Sys2Proof.Machine.execDmaSet h eng s
  | .dmaStackRd h eng => Sys2Proof.Machine.execDmaStackRd h eng s
  | .dmaStackWr h write => Sys2Proof.Machine.execDmaStackWr h write s
  | .dmaFabric h write => Sys2Proof.Machine.execDmaFabric h write s
  | .dmaComplete h eng cc => Sys2Proof.Machine.execDmaComplete h eng cc s
  | .wai w f => Sys2Proof.Machine.execWai w f s
  | .waiRelease h => Sys2Proof.Machine.execWaiRelease h s
  | .waiTimeout h => Sys2Proof.Machine.execWaiTimeout h s
  | .sigLocal w f => Sys2Proof.Machine.execSigLocal w f s
  | .sigHearth w f => Sys2Proof.Machine.execSigHearth w f s
  | .sigSet w f => Sys2Proof.Machine.execSigSet w f s
  | .sigAttn w f => Sys2Proof.Machine.execSigAttn w f s
  | .sigPart w f => Sys2Proof.Machine.execSigPart w f s
  | .signalDepart h signal => Sys2Proof.Machine.execSignalDepart h signal s
  | .signalArrival h signal cc => Sys2Proof.Machine.execSignalArrival h signal cc s
  | .fenL w f => Sys2Proof.Machine.execFenL w f s
  | .fenD w f => Sys2Proof.Machine.execFenD w f s
  | .fenS w f => Sys2Proof.Machine.execFenS w f s
  | .fenRelease h cc => Sys2Proof.Machine.execFenRelease h cc s
  | .fenTimeout h => Sys2Proof.Machine.execFenTimeout h s
  | .braAlways w f => Sys2Proof.Machine.execBraAlways w f s
  | .braNever w f => Sys2Proof.Machine.execBraNever w f s
  | .braEq w f => Sys2Proof.Machine.execBraEq w f s
  | .braNe w f => Sys2Proof.Machine.execBraNe w f s
  | .braLt w f => Sys2Proof.Machine.execBraLt w f s
  | .braGe w f => Sys2Proof.Machine.execBraGe w f s
  | .braDec w f => Sys2Proof.Machine.execBraDec w f s
  | .braBitset w f => Sys2Proof.Machine.execBraBitset w f s
  | .braBitclr w f => Sys2Proof.Machine.execBraBitclr w f s
  | .hlt w => Sys2Proof.Machine.execHlt w s
  | .hearthHalt h => Sys2Proof.Machine.execHearthHalt h s
  | .freezeEnd h => Sys2Proof.Machine.execFreezeEnd h s
  | .scrubPatrol h cells => Sys2Proof.Machine.execScrubPatrol h cells s
  | .inboundWrite h cc parity => Sys2Proof.Machine.execInboundWrite h cc parity s
  | .residentRegionWrite rq h entry v => Sys2Proof.Machine.execResidentRegionWrite rq h entry v s
  | .residentImageWrite rq img => Sys2Proof.Machine.execResidentImageWrite rq img s
  | .flueMerge router tag unit flit upset => Sys2Proof.Machine.execFlueMerge router tag unit flit upset s
  | .flueUnitComplete h tag unit cc => Sys2Proof.Machine.execFlueUnitComplete h tag unit cc s
  | .flueTreeWrite rq img => Sys2Proof.Machine.execFlueTreeWrite rq img s
  | .attentionStart die gang found => Sys2Proof.Machine.execAttentionStart die gang found s
  | .attentionComplete die gang latencyNs cc => Sys2Proof.Machine.execAttentionComplete die gang latencyNs cc s
  | .stackScrub line found => Sys2Proof.Machine.execStackScrub line found s
  | .tierPause ctx => Sys2Proof.Machine.execTierPause ctx s
  | .tierResume ctx => Sys2Proof.Machine.execTierResume ctx s
  | .tierDemote ctx => Sys2Proof.Machine.execTierDemote ctx s
  | .tierDiscard ctx => Sys2Proof.Machine.execTierDiscard ctx s
  | .tierRenew ctx => Sys2Proof.Machine.execTierRenew ctx s
  | .warmExpiry expiry => Sys2Proof.Machine.execWarmExpiry expiry s
  | .cellarExpiry ctx => Sys2Proof.Machine.execCellarExpiry ctx s
  | .tierMoveComplete ctx slots => Sys2Proof.Machine.execTierMoveComplete ctx slots s
  | .dataAreaSizeWrite rq mib => Sys2Proof.Machine.execDataAreaSizeWrite rq mib s
  | .submissionDoorbell p n tail => Sys2Proof.Machine.execSubmissionDoorbell p n tail s
  | .completionHeadDoorbell p n head => Sys2Proof.Machine.execCompletionHeadDoorbell p n head s
  | .submit p n e => Sys2Proof.Machine.execSubmit p n e s
  | .cancel p n tag => Sys2Proof.Machine.execCancel p n tag s
  | .pause p n tag ctx => Sys2Proof.Machine.execPause p n tag ctx s
  | .renew p n tag ctx => Sys2Proof.Machine.execRenew p n tag ctx s
  | .discard p n tag ctx => Sys2Proof.Machine.execDiscard p n tag ctx s
  | .admission req => Sys2Proof.Machine.execAdmission req s
  | .pendingDeadlineExpired req => Sys2Proof.Machine.execPendingDeadlineExpired req s
  | .bucketRefill => Sys2Proof.Machine.execBucketRefill s
  | .tenantConfigWrite rq cfg => Sys2Proof.Machine.execTenantConfigWrite rq cfg s
  | .tokenSelection step logits heads upset => Sys2Proof.Machine.execTokenSelection step logits heads upset s
  | .token m => Sys2Proof.Machine.execToken m s
  | .grammarImageWrite rq img => Sys2Proof.Machine.execGrammarImageWrite rq img s
  | .draft ctx cands => Sys2Proof.Machine.execDraft ctx cands s
  | .tree step ctx tree => Sys2Proof.Machine.execTree step ctx tree s
  | .draftWaitExpired ctx => Sys2Proof.Machine.execDraftWaitExpired ctx s
  | .specReport ctx m ranIn => Sys2Proof.Machine.execSpecReport ctx m ranIn s
  | .missLimit ctx => Sys2Proof.Machine.execMissLimit ctx s
  | .fallbackEnd ctx => Sys2Proof.Machine.execFallbackEnd ctx s
  | .mode ctx mode => Sys2Proof.Machine.execMode ctx mode s
  | .rebuildComplete ctx cands => Sys2Proof.Machine.execRebuildComplete ctx cands s
  | .speculationConfigWrite rq limits sub v => Sys2Proof.Machine.execSpeculationConfigWrite rq limits sub v s
  | .trainingComplete p lanesGood peerDegrade => Sys2Proof.Machine.execTrainingComplete p lanesGood peerDegrade s
  | .trainingRetry p => Sys2Proof.Machine.execTrainingRetry p s
  | .ident p id => Sys2Proof.Machine.execIdent p id s
  | .identTimeout p => Sys2Proof.Machine.execIdentTimeout p s
  | .peerSession p chainGood serial => Sys2Proof.Machine.execPeerSession p chainGood serial s
  | .portDown p => Sys2Proof.Machine.execPortDown p s
  | .data p seq hdr stepHdr payload faults => Sys2Proof.Machine.execData p seq hdr stepHdr payload faults s
  | .lack p acked cls granules => Sys2Proof.Machine.execLack p acked cls granules s
  | .lnak p acked => Sys2Proof.Machine.execLnak p acked s
  | .idle f => Sys2Proof.Machine.execIdle f s
  | .linkReplayTimeout p => Sys2Proof.Machine.execLinkReplayTimeout p s
  | .act src tid => Sys2Proof.Machine.execAct src tid s
  | .repair src image chunk => Sys2Proof.Machine.execRepair src image chunk s
  | .mgmt src m => Sys2Proof.Machine.execMgmt src m s
  | .ack src tid => Sys2Proof.Machine.execAck src tid s
  | .nack src tid reason => Sys2Proof.Machine.execNack src tid reason s
  | .transferIncompleteTimeout src tid => Sys2Proof.Machine.execTransferIncompleteTimeout src tid s
  | .nobufRetry tid => Sys2Proof.Machine.execNobufRetry tid s
  | .deliveryTimeout tid => Sys2Proof.Machine.execDeliveryTimeout tid s
  | .retryLimit tid => Sys2Proof.Machine.execRetryLimit tid s
  | .portRetrain rq p => Sys2Proof.Machine.execPortRetrain rq p s
  | .portDisable rq p => Sys2Proof.Machine.execPortDisable rq p s
  | .portEnable rq p => Sys2Proof.Machine.execPortEnable rq p s
  | .neighbourEntryWrite rq p entry => Sys2Proof.Machine.execNeighbourEntryWrite rq p entry s
  | .slip step k => Sys2Proof.Machine.execSlip step k s
  | .abandon src step stage => Sys2Proof.Machine.execAbandon src step stage s
  | .replayLimit step => Sys2Proof.Machine.execReplayLimit step s
  | .genFault step ctx => Sys2Proof.Machine.execGenFault step ctx s
  | .genPointer gen edge => Sys2Proof.Machine.execGenPointer gen edge s
  | .genReport src gen pred => Sys2Proof.Machine.execGenReport src gen pred s
  | .tier ctx action => Sys2Proof.Machine.execTier ctx action s
  | .tierReport src ctx report => Sys2Proof.Machine.execTierReport src ctx report s
  | .commit src step => Sys2Proof.Machine.execCommit src step s
  | .stageTableWrite rq img => Sys2Proof.Machine.execStageTableWrite rq img s
  | .stepCommit step => Sys2Proof.Machine.execStepCommit step s
  | .kvEntry die hdr entries => Sys2Proof.Machine.execKvEntry die hdr entries s
  | .kvCommit ctx layer head f m nodes => Sys2Proof.Machine.execKvCommit ctx layer head f m nodes s
  | .context ctx c => Sys2Proof.Machine.execContext ctx c s
  | .request r => Sys2Proof.Machine.execRequest r s
  | .stepDone step => Sys2Proof.Machine.execStepDone step s
  | .copy c => Sys2Proof.Machine.execCopy c s
  | .shadowIn step hdr slot input => Sys2Proof.Machine.execShadowIn step hdr slot input s
  | .shadowRun step => Sys2Proof.Machine.execShadowRun step s
  | .shadowOut step theirs ours => Sys2Proof.Machine.execShadowOut step theirs ours s
  | .entryTest entry => Sys2Proof.Machine.execEntryTest entry s
  | .mirrorHeartbeat src serial role seq => Sys2Proof.Machine.execMirrorHeartbeat src serial role seq s
  | .roleFailed endpoint entry seq => Sys2Proof.Machine.execRoleFailed endpoint entry seq s
  | .roleTakeover endpoint entry seq => Sys2Proof.Machine.execRoleTakeover endpoint entry seq s
  | .roleJoin endpoint entry seq => Sys2Proof.Machine.execRoleJoin endpoint entry seq s
  | .roleAssign endpoint entry seq => Sys2Proof.Machine.execRoleAssign endpoint entry seq s
  | .recoveryComplete entry => Sys2Proof.Machine.execRecoveryComplete entry s
  | .roleReport endpoint entry seq => Sys2Proof.Machine.execRoleReport endpoint entry seq s
  | .failureProbeTimeout endpoint => Sys2Proof.Machine.execFailureProbeTimeout endpoint s
  | .roleDrain rq => Sys2Proof.Machine.execRoleDrain rq s
  | .roleReturn rq => Sys2Proof.Machine.execRoleReturn rq s
  | .roleRelease rq => Sys2Proof.Machine.execRoleRelease rq s
  | .roleReplace rq => Sys2Proof.Machine.execRoleReplace rq s
  | .pcieLinkUp p rate width flit => Sys2Proof.Machine.execPcieLinkUp p rate width flit s
  | .portReset p => Sys2Proof.Machine.execPortReset p s
  | .functionLevelReset p => Sys2Proof.Machine.execFunctionLevelReset p s
  | .d3hotEntry p => Sys2Proof.Machine.execD3hotEntry p s
  | .bar2Read p addr len => Sys2Proof.Machine.execBar2Read p addr len s
  | .bar2Write p addr data => Sys2Proof.Machine.execBar2Write p addr data s
  | .queuePairEnable rq => Sys2Proof.Machine.execQueuePairEnable rq s
  | .queuePairDisable rq => Sys2Proof.Machine.execQueuePairDisable rq s
  | .interruptCoalesceTimeout p n => Sys2Proof.Machine.execInterruptCoalesceTimeout p n s
  | .ownershipClaim rq => Sys2Proof.Machine.execOwnershipClaim rq s
  | .ownershipRelease rq => Sys2Proof.Machine.execOwnershipRelease rq s
  | .forcedTakeOver rq v => Sys2Proof.Machine.execForcedTakeOver rq v s
  | .eventCauseClear p v => Sys2Proof.Machine.execEventCauseClear p v s
  | .eventRingDoorbell p head => Sys2Proof.Machine.execEventRingDoorbell p head s
  | .objRead corr idx sub offset len => Sys2Proof.Machine.execObjRead corr idx sub offset len s
  | .objWrite corr idx sub op offset data => Sys2Proof.Machine.execObjWrite corr idx sub op offset data s
  | .objResult corr result data => Sys2Proof.Machine.execObjResult corr result data s
  | .event rec => Sys2Proof.Machine.execEvent rec s
  | .calImage toMain offset data => Sys2Proof.Machine.execCalImage toMain offset data s
  | .blobSegment toMain idx sub offset total data => Sys2Proof.Machine.execBlobSegment toMain idx sub offset total data s
  | .mgmtFrame toMain m => Sys2Proof.Machine.execMgmtFrame toMain m s
  | .keyOp ephemeral image serial wrapped => Sys2Proof.Machine.execKeyOp ephemeral image serial wrapped s
  | .bootImage offset data last => Sys2Proof.Machine.execBootImage offset data last s
  | .heartbeat toMain seq state hottest rackTime => Sys2Proof.Machine.execHeartbeat toMain seq state hottest rackTime s
  | .heartbeatTimer toMain t140 t141 => Sys2Proof.Machine.execHeartbeatTimer toMain t140 t141 s
  | .mainReset => Sys2Proof.Machine.execMainReset s
  | .mainOff forced => Sys2Proof.Machine.execMainOff forced s
  | .tempTrip sensor => Sys2Proof.Machine.execTempTrip sensor s
  | .barrierAck toMain urgent seq => Sys2Proof.Machine.execBarrierAck toMain urgent seq s
  | .barrierResendTimeout toMain => Sys2Proof.Machine.execBarrierResendTimeout toMain s
  | .urgentRepeat toMain => Sys2Proof.Machine.execUrgentRepeat toMain s
  | .heartbeatMissing => Sys2Proof.Machine.execHeartbeatMissing s
  | .islandLost => Sys2Proof.Machine.execIslandLost s
  | .hangTimeout => Sys2Proof.Machine.execHangTimeout s
  | .powerOn rq => Sys2Proof.Machine.execPowerOn rq s
  | .orderlyOff rq => Sys2Proof.Machine.execOrderlyOff rq s
  | .orderlyOffDrained => Sys2Proof.Machine.execOrderlyOffDrained s
  | .mainSideResetCommand rq => Sys2Proof.Machine.execMainSideResetCommand rq s
  | .forcedPowerOff rq => Sys2Proof.Machine.execForcedPowerOff rq s
  | .islandReset rq => Sys2Proof.Machine.execIslandReset rq s
  | .islandWatchdog => Sys2Proof.Machine.execIslandWatchdog s
  | .getVersion conn => Sys2Proof.Machine.execGetVersion conn s
  | .getCapabilities conn => Sys2Proof.Machine.execGetCapabilities conn s
  | .negotiateAlgorithms conn offersSupported => Sys2Proof.Machine.execNegotiateAlgorithms conn offersSupported s
  | .getDigests conn => Sys2Proof.Machine.execGetDigests conn s
  | .getCertificate conn slot offset len => Sys2Proof.Machine.execGetCertificate conn slot offset len s
  | .challenge conn slot nonce => Sys2Proof.Machine.execChallenge conn slot nonce s
  | .getMeasurements conn index signed nonce => Sys2Proof.Machine.execGetMeasurements conn index signed nonce s
  | .keyExchange conn requester => Sys2Proof.Machine.execKeyExchange conn requester s
  | .finish conn verifies => Sys2Proof.Machine.execFinish conn verifies s
  | .keyUpdate conn => Sys2Proof.Machine.execKeyUpdate conn s
  | .spdmHeartbeat conn => Sys2Proof.Machine.execSpdmHeartbeat conn s
  | .endSession conn => Sys2Proof.Machine.execEndSession conn s
  | .droopTrigger => Sys2Proof.Machine.execDroopTrigger s
  | .driveEventTrigger => Sys2Proof.Machine.execDriveEventTrigger s
  | .injectedSample codes => Sys2Proof.Machine.execInjectedSample codes s
  | .damperGraceEnd => Sys2Proof.Machine.execDamperGraceEnd s
  | .damperStepUp => Sys2Proof.Machine.execDamperStepUp s
  | .damperStepDown => Sys2Proof.Machine.execDamperStepDown s
  | .pmbAlert => Sys2Proof.Machine.execPmbAlert s
  | .pmbusRetry acked => Sys2Proof.Machine.execPmbusRetry acked s
  | .eventRingWrite p => Sys2Proof.Machine.execEventRingWrite p s
  | .sideBandDatagram => Sys2Proof.Machine.execSideBandDatagram s
  | .sootRingWrite => Sys2Proof.Machine.execSootRingWrite s
  | .sootHeaderRewrite => Sys2Proof.Machine.execSootHeaderRewrite s
  | .sootFreeze rq => Sys2Proof.Machine.execSootFreeze rq s
  | .sootResume rq => Sys2Proof.Machine.execSootResume rq s
  | .sootAutoResume => Sys2Proof.Machine.execSootAutoResume s
  | .errorLogClear rq => Sys2Proof.Machine.execErrorLogClear rq s
  | .unitFence unit => Sys2Proof.Machine.execUnitFence unit s
  | .testDue h => Sys2Proof.Machine.execTestDue h s
  | .testOverdue h => Sys2Proof.Machine.execTestOverdue h s
  | .routineTestStart h => Sys2Proof.Machine.execRoutineTestStart h s
  | .deepTest rq mask => Sys2Proof.Machine.execDeepTest rq mask s
  | .testComplete h findings => Sys2Proof.Machine.execTestComplete h findings s
  | .coverPoll due => Sys2Proof.Machine.execCoverPoll due s
  | .ownerKeyWrite rq slot stmt => Sys2Proof.Machine.execOwnerKeyWrite rq slot stmt s
  | .publisherKeyWrite rq slot stmt => Sys2Proof.Machine.execPublisherKeyWrite rq slot stmt s
  | .firmwareInstall rq => Sys2Proof.Machine.execFirmwareInstall rq s
  | .firmwareActivate rq => Sys2Proof.Machine.execFirmwareActivate rq s
  | .islandBoot => Sys2Proof.Machine.execIslandBoot s
  | .trialCommit => Sys2Proof.Machine.execTrialCommit s
  | .trialFail => Sys2Proof.Machine.execTrialFail s
  | .visoPowerOn => Sys2Proof.Machine.execVisoPowerOn s
  | .mainSideReady => Sys2Proof.Machine.execMainSideReady s
  | .powerGood n => Sys2Proof.Machine.execPowerGood n s
  | .powerGoodTimeout n => Sys2Proof.Machine.execPowerGoodTimeout n s
  | .powerGoodLost n => Sys2Proof.Machine.execPowerGoodLost n s
  | .powerUpRetry => Sys2Proof.Machine.execPowerUpRetry s
  | .powerDownStep => Sys2Proof.Machine.execPowerDownStep s
  | .visoBrownOut below2V => Sys2Proof.Machine.execVisoBrownOut below2V s
  | .bypass => Sys2Proof.Machine.execBypass s
  | .idcode => Sys2Proof.Machine.execIdcode s
  | .samplePreload => Sys2Proof.Machine.execSamplePreload s
  | .extest => Sys2Proof.Machine.execExtest s
  | .extestPulse => Sys2Proof.Machine.execExtestPulse s
  | .extestTrain => Sys2Proof.Machine.execExtestTrain s
  | .clamp => Sys2Proof.Machine.execClamp s
  | .highz => Sys2Proof.Machine.execHighz s
  | .tapReset => Sys2Proof.Machine.execTapReset s
  | .holdNStuckCleared => Sys2Proof.Machine.execHoldNStuckCleared s
  | .levelReadComplete a rows => Sys2Proof.Machine.execLevelReadComplete a rows s
  | .mainSideResetReleased => Sys2Proof.Machine.execMainSideResetReleased s
  | .lackTimer p => Sys2Proof.Machine.execLackTimer p s
  | .idleTimer p => Sys2Proof.Machine.execIdleTimer p s
  | .identRepeat p => Sys2Proof.Machine.execIdentRepeat p s
  | .hostReadCompletion p tag data ok => Sys2Proof.Machine.execHostReadCompletion p tag data ok s
  | .sideBandLinkChange link => Sys2Proof.Machine.execSideBandLinkChange link s
  | .icmpv6Request echo id data => Sys2Proof.Machine.execIcmpv6Request echo id data s
  | .glideComplete => Sys2Proof.Machine.execGlideComplete s
  | .setPointSettleWait => Sys2Proof.Machine.execSetPointSettleWait s

end Sys2Proof.Machine
end

