-- ==== Sys2Proof/Machine/Time.lean ====
section
/-! DEFINITION. Machine/Time.lean: what one tick of the rack reference does to the part's own counters (R4, R169, R170). -/

namespace Sys2Proof.Machine

/-- The ns added at the next tick: 10, or 9 or 11 while an offset is slewed, at no more than one tick in 100 (R170). -/
def State.tickGain (s : State) : Nat :=
  if s.slew = 0 ∨ s.tick < s.slewTick + 100 then 10 else if s.slew < 0 then 9 else 11

/-- One tick passes: rack time advances and a slewed offset shrinks by what was corrected (R169, R170). -/
def State.passTick (s : State) : State :=
  let g := s.tickGain
  { s with tick := s.tick + 1, rackTime := s.rackTime + BitVec.ofNat 64 g,
           slew := s.slew - ((g : Int) - 10), slewTick := if g = 10 then s.slewTick else s.tick }

end Sys2Proof.Machine
end

