-- ==== Sys2Proof/Machine/Step.lean ====
section
/-! DEFINITION. Machine/Step.lean: one step of the part: the command at the front of the queue, or with none waiting one
tick of the rack reference. -/

namespace Sys2Proof.Machine

/-- The command at the front runs on the state with the queue's rest; on an empty queue a tick passes. -/
def step (s : State) : Host.Outcome State Fault Refusal :=
  match s.pending with
  | [] => .next s.passTick
  | c :: rest => exec c { s with pending := rest }

/-- `s` with the command that a word of the table spells at the front of its queue; the table gives no bits. -/
def State.withFetchWord (s : State) (nbits w : Nat) : State :=
  match Sys2Proof.decodeTableWord nbits w with
  | some c => { s with pending := c :: s.pending }
  | none => s

end Sys2Proof.Machine
end

