-- ==== Sys2Proof/Safety.lean ====
section
/-! DEFINITION. Safety.lean: the words that statements about the part are written in: how a command ends, what a command leaves as it was,
and the legal states of what stays on while the main side is off. -/

namespace Sys2Proof.Machine

/-- A command runs to a next state of which `P` holds. -/
def Completes (c : Instr) (s : State) (P : State → Prop) : Prop := ∃ t, exec c s = .next t ∧ P t

/-- What a next state shares with the state before, part by part (INVENTORY.md, State): `Part.clock` stands for cadence, time and core
frequency, and so on. -/
inductive Part where
  | clock | hearth | memory | fabric | serving | island | alwaysOn | upkeep
deriving DecidableEq, Repr

def Part.same : Part → State → State → Prop
  | .clock, s, t => t.toClockPart = s.toClockPart
  | .hearth, s, t => t.toHearthPart = s.toHearthPart
  | .memory, s, t => t.toMemoryPart = s.toMemoryPart
  | .fabric, s, t => t.toFabricPart = s.toFabricPart
  | .serving, s, t => t.toServingPart = s.toServingPart
  | .island, s, t => t.toIslandPart = s.toIslandPart
  | .alwaysOn, s, t => t.toAlwaysOnPart = s.toAlwaysOnPart
  | .upkeep, s, t => t.toUpkeepPart = s.toUpkeepPart

/-- `t` has the queue of `s` and every part of it but those listed. -/
def SameBut (l : List Part) (s t : State) : Prop := t.pending = s.pending ∧ ∀ p : Part, l.contains p = false → p.same s t

/-- An access passes rows 1 to 7 of Table 18-1 as they are the same for every object (18 R427). -/
abbrev Accepted (s : State) (rq : Requester) (op : AccessOp) (idx sub : Nat) (data : List Byte) : Prop :=
  s.judge { rq := rq, op := op, idx := idx, sub := sub, offset := 0, room := 0, data := data } 0 = 0

/-- What the part shows of a write that was performed: result OK. -/
def State.written (rq : Requester) (s : State) : State := s.answer rq 0

/-- What the part shows of a command that was performed: its value and state (18 R435), and result OK. -/
def State.commanded (rq : Requester) (idx sub : Nat) (data : List Byte) (s : State) : State := (s.noteCommand idx sub data).answer rq 0

/-! ### Stoker instructions (08 R191 to R193) -/

/-- The stoker issues this instruction, and does so at cycle `cc`: it runs, holds no DRV, no freeze has begun, and neither the word nor its
DELTA faults. -/
abbrev State.issuesAt (s : State) (w : IssueAt) (low opcode cc : Nat) : Prop := (s.begin w low opcode).1 = some cc

/-- The part with the engines of the hearth brought to the cycle of issue. -/
def State.atIssue (s : State) (w : IssueAt) (low opcode : Nat) : State := (s.begin w low opcode).2

/-- Work enters the hearth's calendar at a cycle, and the stoker goes on to the next word. -/
def State.enter (h cc : Nat) (d : Due) (s : State) : State := (s.schedule h cc d).toNext h

/-- Two pieces of work enter at one cycle. -/
def State.enter2 (h cc : Nat) (d e : Due) (s : State) : State := ((s.schedule h cc d).schedule h cc e).toNext h

/-! ### What stays on (22 R510, R511, R519; 21 R494) -/

/-- The enables that a sequence up to some step sets: each with every lower one. -/
def Sequencer.ladder : List Nat := [0, 1, 3, 7, 15, 31, 63]

/-- Enables stand in order, no rail without its enable is good, and the numbers of the island and the test port are among those that their
rules give. -/
def AlwaysOnPart.legal (a : AlwaysOnPart) : Bool :=
  Sequencer.ladder.contains a.seq.enables && Nat.land a.seq.goods a.seq.enables == a.seq.goods && decide (a.islandRun ≤ 2) && decide (a.trial ≤ 2) &&
    decide (a.runSlot ≤ 1) && decide (a.tapInstr ≤ 7)

/-- The canonical form of the stacks' bytes: addresses strictly rising, no byte listed that reads 0 unlisted. -/
def State.stackWf (s : State) : Bool := s.stack.wf fun _ => 0

end Sys2Proof.Machine
end

