-- ==== Sys2Proof/Certificates/Slice0/Obligations.lean ====
section
/-! DEFINITION. Obligations.lean: the statements about the part that the provers prove. -/

open Sys2Proof Sys2Proof.Machine

/-- While the main side is not OFF each of the eight TAP instructions is taken: BYPASS captures one 0, IDCODE the 32 bits of 0x14810BA7 from bit 0. SAMPLE/PRELOAD is taken as it is. While the part is not ready to serve the five others are taken as they are; while it is ready each of them does what BYPASS does. TAP_RESET puts IDCODE into the TAP (the model's choice, log entry 41). The next states are given whole, so nothing else changes. Commands that complete here, exec answering a next state with their own effect under hypotheses on state and operands alone: bypass, idcode, samplePreload, extest, extestPulse, extestTrain, clamp, highz, tapReset. -/
def Obligations.TestPortInstructions : Prop :=
  ∀ s : State,
    (s.mainState ≠ 0 →
      exec .bypass s = .next ({ s with tapInstr := 0 }.emit (.tap 0 [false])) ∧
      exec .idcode s = .next ({ s with tapInstr := 1 }.emit (.tap 1 ((List.range 32).map (bit 0x14810BA7)))) ∧
      exec .samplePreload s = .next ({ s with tapInstr := 2 }.emit (.tap 2 [])) ∧
      (s.ready = false →
        exec .extest s = .next ({ s with tapInstr := 3 }.emit (.tap 3 [])) ∧
        exec .extestPulse s = .next ({ s with tapInstr := 4 }.emit (.tap 4 [])) ∧
        exec .extestTrain s = .next ({ s with tapInstr := 5 }.emit (.tap 5 [])) ∧
        exec .clamp s = .next ({ s with tapInstr := 6 }.emit (.tap 6 [false])) ∧
        exec .highz s = .next ({ s with tapInstr := 7 }.emit (.tap 7 [false]))) ∧
      (s.ready = true →
        ∀ c ∈ [Instr.extest, .extestPulse, .extestTrain, .clamp, .highz],
          exec c s = .next ({ s with tapInstr := 0 }.emit (.tap 0 [false])))) ∧
    exec .tapReset s = .next { s with tapInstr := 1 }

/-- While the island runs and the main side is SEQUENCING with no power-down and the reset held: POWER_GOOD n below 5 of an enabled rail that was not good notes it and raises enable n + 1; POWER_GOOD 5 notes it. POWER_GOOD_TIMEOUT of the highest enabled rail, not good 3 ms after its enable, counts a failed attempt and starts a forced fall, with another attempt to follow after fewer than three failures. MAIN_SIDE_RESET_RELEASED with all six rails good for 4 ms releases the reset and lets the reference be acquired. POWER_UP_RETRY, 1 s after the rails have fallen, raises enable 0 and shows SEQUENCING. Where no record is raised the next state is given whole. Commands that complete here, exec answering a next state with their own effect under hypotheses on state and operands alone: powerGood, powerGoodTimeout, powerUpRetry, mainSideResetReleased. -/
def Obligations.RailsRiseInOrder : Prop :=
  ∀ (s : State) (n : BitVec 3), s.islandRun = 1 → s.seq.down = none →
    (s.mainState = 1 → s.seq.released = false →
      (bit s.seq.enables n.toNat = true → bit s.seq.goods n.toNat = false →
        (n.toNat < 5 →
          exec (.powerGood n) s =
            .next ({ s with seq := { s.seq with goods := setBit s.seq.goods n.toNat true, enables := setBit s.seq.enables (n.toNat + 1) true,
                                                stepAt := s.elapsed } }.emit (.rail (n.toNat + 1) true))) ∧
        (n.toNat = 5 →
          exec (.powerGood n) s = .next { s with seq := { s.seq with goods := setBit s.seq.goods 5 true, stepAt := s.elapsed } }) ∧
        (topEnable s.seq.enables = some n.toNat → s.seq.stepAt + 3000000 ≤ s.elapsed →
          Completes (.powerGoodTimeout n) s fun t =>
            t.seq = { s.seq with fails := s.seq.fails + 1, down := some true, again := decide (s.seq.fails + 1 < 3), stepAt := s.elapsed } ∧
            SameBut [.island, .alwaysOn] s t)) ∧
      (s.seq.goods = 63 → s.seq.stepAt + 4000000 ≤ s.elapsed →
        exec .mainSideResetReleased s =
          .next ({ s with seq := { s.seq with released := true, fails := 0 }, refSince := s.elapsed }.setOd 0x2100 2 0 1))) ∧
    (s.mainState = 0 → s.seq.enables = 0 → s.seq.again = true → s.seq.stepAt + 1000000000 ≤ s.elapsed →
      exec .powerUpRetry s =
        .next (({ s with seq := { s.seq with enables := 1, goods := 0, stepAt := s.elapsed, again := false, released := false } }.setOd 0x1300 3 0 1).emit
          (.rail 0 true)))

/-- POWER_DOWN_STEP during a fall lowers the highest enable and its power-good, and with none left the main side is OFF (state 0), no fall runs and no enable is set. TEMP_TRIP of sensors 0 to 141, FORCED_POWER_OFF and ORDERLY_OFF_DRAINED (state DRAINING, role neither SERVING nor STANDBY, no steep) start the fall, forced but for the last, which leaves the sequencer's other fields; POWER_GOOD_LOST starts a forced fall and notes when, with a new start to follow unless the loss before was within 60 s. POWER_ON while OFF raises enable 0 and shows SEQUENCING; MAIN_SIDE_RESET_COMMAND sends MAIN_RESET; ORDERLY_OFF of a part that is not ready shows DRAINING. The four commands are stated for accesses that pass the common checks. Commands that complete here, exec answering a next state with their own effect under hypotheses on state and operands alone: tempTrip, powerOn, orderlyOff, orderlyOffDrained, mainSideResetCommand, forcedPowerOff, powerGoodLost, powerDownStep. -/
def Obligations.RailsFallInReverse : Prop :=
  ∀ s : State, s.islandRun = 1 →
    (∀ f k, s.seq.down = some f → topEnable s.seq.enables = some k →
      (setBit s.seq.enables k false ≠ 0 →
        exec .powerDownStep s =
          .next ({ s with seq := { s.seq with enables := setBit s.seq.enables k false, goods := setBit s.seq.goods k false, stepAt := s.elapsed } }.emit
            (.rail k false))) ∧
      (setBit s.seq.enables k false = 0 →
        Completes .powerDownStep s fun t => t.seq.enables = 0 ∧ t.seq.down = none ∧ t.pending = s.pending ∧ t.islandRun = s.islandRun)) ∧
    (∀ n : BitVec 16, n.toNat ≤ 141 → s.mainState ≠ 0 →
      Completes (.tempTrip n) s fun t =>
        t.seq = { s.seq with down := some true, again := false, stepAt := s.elapsed, released := false } ∧
        SameBut [.island, .alwaysOn] s t) ∧
    (s.mainState = 5 → s.seq.down = none → s.steep = none → s.od 0x4100 1 0 = 3 →
      Completes .orderlyOffDrained s fun t =>
        t.seq = { s.seq with down := some false, again := false, stepAt := s.elapsed, released := false } ∧ SameBut [.island, .alwaysOn] s t) ∧
    (∀ n : BitVec 3, s.mainState ≠ 0 → s.seq.down = none → bit s.seq.goods n.toNat = true →
      Completes (.powerGoodLost n) s fun t =>
        t.seq.down = some true ∧ t.seq.goods = setBit s.seq.goods n.toNat false ∧ t.seq.lostAt = some s.elapsed ∧
        (s.seq.lostAt = none → t.seq.again = true) ∧
        (∀ a, s.seq.lostAt = some a → s.elapsed ≤ a + 60000000000 → t.seq.again = false) ∧
        SameBut [.island, .alwaysOn] s t) ∧
    (∀ rq : Requester,
      (Accepted s rq .command 0x1300 2 [1] → s.mainState ≠ 0 →
        exec (.forcedPowerOff rq) s = .next ((s.powerOff true).commanded rq 0x1300 2 [1])) ∧
      (Accepted s rq .command 0x1300 1 [1] → s.mainState = 0 →
        exec (.powerOn rq) s =
          .next (((({ s with seq := { s.seq with fails := 0, lostAt := none, enables := 1, goods := 0, stepAt := s.elapsed, down := none, again := false,
                                                 released := false } }.setOd 0x1300 3 0 1).emit (.rail 0 true)).commanded rq 0x1300 1 [1]))) ∧
      (Accepted s rq .command 0x1300 1 [3] → s.mainState ≠ 0 →
        exec (.mainSideResetCommand rq) s = .next ((s.sendToMain true 0xB 0 []).commanded rq 0x1300 1 [3])) ∧
      (Accepted s rq .command 0x1300 1 [2] → s.mainState ≠ 0 → s.onlyLive = false → s.ready = false →
        exec (.orderlyOff rq) s = .next (((s.setOd 0x1300 3 0 5).setOd 0x1300 1 cmdState 1).commanded rq 0x1300 1 [2])))

/-- For every VEC operation that the stoker issues at cycle t, with no residue mismatch: the next state is the one at issue with the result entered in the calendar for t plus the latency of Table 08-11 and the stoker at the next word, so nothing else changes. The result is the operation of the lanes that its registers hold at issue: lane-wise operations at every width; FMA, RSQRT, RCP, EXP2, ACT, GLU, the NARROWs and FIX and FLT at F16; WIDEN at I4 and I8; the reductions into lane 0; GSET, GADD, GCTX and GLANE into a scalar register, BCAST (which takes an infinity pattern at F16 as a NaN), LANEG and GLANE for IMM below 512. An operation at a width that is not its own is a stoker fault of kind ILLEGAL and enters nothing. Commands that complete here, exec answering a next state with their own effect under hypotheses on state and operands alone: vecAdd, vecSub, vecMul, vecFma, vecMax, vecMin, vecSel, vecCmp, vecRsum, vecRmax, vecRsqs, vecRsqrt, vecRcp, vecExp2, vecAct, vecGlu, vecWiden, vecNarrowB4, vecNarrowB8, vecNarrowA4s, vecFix, vecFlt, vecTopk, vecBcast, vecGset, vecGadd, vecGctx, vecGlane, vecLaneg. -/
def Obligations.VectorResultsFallDue : Prop :=
  ∀ (s : State) (i : IssueAt) (f : VecFields) (t : Nat), f.upset = none →
    let at' (vop : Nat) : State := s.atIssue i (vecLow f) (128 + vop)
    let x (vop : Nat) : Hearth := (at' vop).hearth i.h.toNat
    let a (vop : Nat) : List VCell := (x vop).lanes f.va.toNat
    let b (vop : Nat) : List VCell := (x vop).lanes f.vb.toNat
    let vd (cells : List VCell) : Due := .vreg (vw f.vd.toNat 0 cells)
    let imm : Nat := f.imm.toNat
    let two (o : Lane2) (vop : Nat) : Due := vd (lanes2 (o.run f.w.toNat) (a vop) (b vop))
    let issues (vop : Nat) : Prop := s.issuesAt i (vecLow f) (128 + vop) t
    let gives (c : Instr) (vop lat : Nat) (d : Due) : Prop := issues vop → exec c s = .next ((at' vop).enter i.h.toNat (t + lat) d)
    let gives2 (c : Instr) (vop lat : Nat) (d e : Due) : Prop := issues vop → exec c s = .next ((at' vop).enter2 i.h.toNat (t + lat) d e)
    let spends (c : Instr) (vop lat : Nat) (d : Due) : Prop :=
      issues vop → exec c s = .next (((at' vop).spend 1).enter i.h.toNat (t + lat) d)
    (gives (.vecAdd i f) 2 (Lane2.add.latency f.w.toNat) (two .add 2) ∧ gives (.vecSub i f) 3 (Lane2.sub.latency f.w.toNat) (two .sub 3) ∧
      gives (.vecMul i f) 4 (Lane2.mul.latency f.w.toNat) (two .mul 4) ∧ gives (.vecMax i f) 6 2 (two .max 6) ∧
      gives (.vecMin i f) 7 2 (two .min 7) ∧ gives (.vecCmp i f) 9 2 (two .cmp 9) ∧
      gives (.vecSel i f) 8 2 (vd (lanes3 (if f.w = 3 then f16Sel else intSel f.w.toNat) (a 8) (b 8) ((x 8).lanes f.vc.toNat))) ∧
      gives (.vecRsum i f) 10 8 (vd [reduce 0 f.w.toNat (a 10)]) ∧ gives (.vecRmax i f) 11 8 (vd [reduce 1 f.w.toNat (a 11)]) ∧
      gives (.vecRsqs i f) 12 8 (vd [reduce 2 f.w.toNat (a 12)])) ∧
    (f.w = 3 →
      gives (.vecFma i f) 5 4 (vd (lanes3 f16Fma (a 5) (b 5) ((x 5).lanes f.vc.toNat))) ∧
      gives (.vecRsqrt i f) 13 6 (vd (lanes1 f16Rsqrt (a 13))) ∧ gives (.vecRcp i f) 14 6 (vd (lanes1 f16Rcp (a 14))) ∧
      gives (.vecExp2 i f) 15 6 (vd (lanes1 f16Exp2 (a 15))) ∧ gives (.vecAct i f) 16 6 (vd (lanes1 (f16Act (imm % 4)) (a 16))) ∧
      gives (.vecGlu i f) 17 8 (.vreg (vw f.vd.toNat (256 * (imm / 4 % 2)) (glu (imm % 4) (a 17)))) ∧
      (∀ e ∈ [(Instr.vecNarrowB4 i f, 19, false), (Instr.vecNarrowB8 i f, 20, true)],
        gives2 e.1 e.2.1 6 (.vreg (vw f.vd.toNat (256 * (imm % 2)) (narrowB e.2.2 (a e.2.1)).1))
          (.vreg (vw f.vc.toNat (256 * (imm % 2)) (narrowB e.2.2 (a e.2.1)).2))) ∧
      (f.va.toNat ≠ 31 →
        let n := if imm / 4096 = 0 then 1024 else 8 * (imm / 4096)
        let r := narrowA4s (bit imm 1) n (a 21 ++ (x 21).lanes (f.va.toNat + 1))
        gives2 (.vecNarrowA4s i f) 21 10 (.vreg (vw f.vd.toNat (256 * (imm % 2)) r.1)) (.vreg (vw f.vc.toNat (imm / 64 % 64) [cell r.2 false]))) ∧
      (f.vd.toNat ≠ 31 →
        let l := fixLanes (immShift imm) (a 22)
        gives2 (.vecFix i f) 22 4 (vd (l.take 512)) (.vreg (vw (f.vd.toNat + 1) 0 (l.drop 512))) ∧
        gives (.vecFlt i f) 23 4 (vd (fltLanes (immShift imm) ((x 23).lanes f.vd.toNat ++ (x 23).lanes (f.vd.toNat + 1)))))) ∧
    (f.w.toNat < 2 → gives (.vecWiden i f) 18 4 (vd (widen (f.w == 1) (imm % 2) (a 18) (b 18)))) ∧
    (gives (.vecGset i f) 26 1 (.greg (f.vd.toNat % 16) (imm % 2 ^ 32)) ∧
      gives (.vecGadd i f) 27 1 (.greg (f.vd.toNat % 16) (gaddValue ((x 27).gReg f.va.toNat) imm % 2 ^ 32)) ∧
      gives (.vecGctx i f) 28 1 (.greg (f.vd.toNat % 16) ((x 28).ctx.getD (imm % 8) 0 % 2 ^ 32)) ∧
      (imm < 512 →
        spends (.vecGlane i f) 29 2 (.greg (f.vd.toNat % 16) (((x 29).lane f.va.toNat imm).bits.toNat % 2 ^ 32)) ∧
        spends (.vecBcast i f) 25 2
          (let c := (x 25).lane f.va.toNat imm
           vd (List.replicate 512 (cell (if f.w.toNat = 3 then f16Taken c.bits else c.bits) c.poison))) ∧
        spends (.vecLaneg i f) 30 2 (.vreg (vw f.vd.toNat imm [cell (BitVec.ofNat 16 ((x 30).gReg f.va.toNat)) false])))) ∧
    (∀ e ∈ [(Instr.vecFma i f, 5), (.vecRsqrt i f, 13), (.vecRcp i f, 14), (.vecExp2 i f, 15), (.vecAct i f, 16), (.vecGlu i f, 17),
            (.vecNarrowB4 i f, 19), (.vecNarrowB8 i f, 20), (.vecNarrowA4s i f, 21), (.vecFix i f, 22), (.vecFlt i f, 23), (.vecTopk i f, 24)],
      f.w ≠ 3 → issues e.2 → exec e.1 s = .next ((at' e.2).stokerFault i.h.toNat .illegal (vecLow f) (128 + e.2))) ∧
    (2 ≤ f.w.toNat → issues 18 → exec (.vecWiden i f) s = .next ((at' 18).stokerFault i.h.toNat .illegal (vecLow f) 146))

/-- LD issued at cycle t, with 1 to 16 rows inside the buffer and the read slot of frame t div 8 + 1 free, takes that slot: the rows are read in it and written to vd at t + 12. ST likewise enters the first lanes of va in the write slot, cycle 8 x frame + 1. More than 16 rows are ILLEGAL; a taken slot or rows past row 32,767 are SCHEDULE. TOPK with k in 1 to 256 and 16 cc after the last one enters indices from lane 0 and values from lane 256 at t + 16 (equal lanes in an order the spec does not state, free in the model); earlier it is SCHEDULE. Commands that complete here, exec answering a next state with their own effect under hypotheses on state and operands alone: vecLd, vecSt, vecTopk. -/
def Obligations.VectorLoadsAndStores : Prop :=
  ∀ (s : State) (i : IssueAt) (f : VecFields) (t : Nat),
    let h := i.h.toNat
    let at' (vop : Nat) : State := s.atIssue i (vecLow f) (128 + vop)
    let x (vop : Nat) : Hearth := (at' vop).hearth h
    let frame := t / 8 + 1
    let rows := loadRows f
    (s.issuesAt i (vecLow f) 128 t →
      (16 < rows → exec (.vecLd i f) s = .next ((at' 0).stokerFault h .illegal (vecLow f) 128)) ∧
      (rows ≤ 16 → 32768 < loadAddr f (x 0) + rows ∨ (x 0).loadFrame = some frame →
        exec (.vecLd i f) s = .next ((at' 0).stokerFault h .schedule t 128)) ∧
      (rows ≤ 16 → loadAddr f (x 0) + rows ≤ 32768 → (x 0).loadFrame ≠ some frame →
        exec (.vecLd i f) s =
          .next (((at' 0).modHearth h fun x => { x with loadFrame := some frame }).enter h (8 * frame)
            (.load f.vd.toNat (loadAddr f (x 0)) rows (t + 12))))) ∧
    (s.issuesAt i (vecLow f) 129 t →
      (16 < rows → exec (.vecSt i f) s = .next ((at' 1).stokerFault h .illegal (vecLow f) 129)) ∧
      (rows ≤ 16 → 32768 < loadAddr f (x 1) + rows ∨ (x 1).storeFrame = some frame →
        exec (.vecSt i f) s = .next ((at' 1).stokerFault h .schedule t 129)) ∧
      (rows ≤ 16 → loadAddr f (x 1) + rows ≤ 32768 → (x 1).storeFrame ≠ some frame →
        exec (.vecSt i f) s =
          .next (((at' 1).modHearth h fun x => { x with storeFrame := some frame }).enter h (8 * frame + 1)
            (.store (loadAddr f (x 1)) (chunksOf 32 rows ((x 1).lanes f.va.toNat)))))) ∧
    (s.issuesAt i (vecLow f) 152 t → f.w = 3 → f.upset = none →
      (∀ p, (x 24).topk = some p → t < p + 16 → exec (.vecTopk i f) s = .next ((at' 24).stokerFault h .schedule t 152)) ∧
      ((∀ p, (x 24).topk = some p → p + 16 ≤ t) → 1 ≤ f.imm.toNat % 512 → f.imm.toNat % 512 ≤ 256 →
        let r := topk ((at' 24).free + 1) (f.imm.toNat % 512) ((x 24).lanes f.va.toNat)
        exec (.vecTopk i f) s =
          .next ((((at' 24).spend 1024).modHearth h fun x => { x with topk := some t }).enter2 h (t + 16) (.vreg (vw f.vd.toNat 0 r.1))
            (.vreg (vw f.vd.toNat 256 r.2)))))

/-- For each BRA that the stoker issues, the next state is the one at issue with the hearth's pc changed: the target where the condition of the two scalar registers holds (ALWAYS, NEVER, EQ, NE, LT, GE on signed 32-bit values, BITSET and BITCLR of a bit of gA), else the next word. DEC first takes 1 from gA modulo 2^32 (g0 stays 0) and branches where it is then not zero. HLT notes its cycle and no further word issues. Nothing else changes. Commands that complete here, exec answering a next state with their own effect under hypotheses on state and operands alone: braAlways, braNever, braEq, braNe, braLt, braGe, braDec, braBitset, braBitclr, hlt. -/
def Obligations.BranchesAndHalt : Prop :=
  ∀ (s : State) (i : IssueAt) (f : BraFields) (t : Nat),
    let h := i.h.toNat
    let s' := s.atIssue i (braLow f) 9
    let a := (s'.hearth h).gReg f.ga.toNat
    let b := (s'.hearth h).gReg f.gb.toNat
    let goes (taken : Bool) : State := s'.modHearth h fun x => { x with pc := if taken then f.target.toNat else x.pc + 1 }
    (s.issuesAt i (braLow f) 9 t →
      exec (.braAlways i f) s = .next (goes true) ∧ exec (.braNever i f) s = .next (goes false) ∧
      exec (.braEq i f) s = .next (goes (decide (a = b))) ∧ exec (.braNe i f) s = .next (goes (decide (a ≠ b))) ∧
      exec (.braLt i f) s = .next (goes (decide (toSigned 32 a < toSigned 32 b))) ∧
      exec (.braGe i f) s = .next (goes (decide (toSigned 32 b ≤ toSigned 32 a))) ∧
      exec (.braBitset i f) s = .next (goes (bit a f.bit.toNat)) ∧ exec (.braBitclr i f) s = .next (goes (!bit a f.bit.toNat)) ∧
      exec (.braDec i f) s =
        .next (s'.modHearth h fun x =>
          let y := x.setG f.ga.toNat ((x.gReg f.ga.toNat + (2 ^ 32 - 1)) % 2 ^ 32)
          { y with pc := if y.gReg f.ga.toNat = 0 then x.pc + 1 else f.target.toNat })) ∧
    (s.issuesAt i 0 10 t →
      exec (.hlt i) s = .next ((s.atIssue i 0 10).modHearth h fun x => { x with phase := .ended, hltAt := t }))

/-- WAI issued at cycle t stops the stoker with its timeout t + TMO (x 64 where SCALE is set), shows WAITING and counts a wait. Where the flag is set at cycle c no later than the timeout, it releases at the next frame boundary after its issue, or, for a flag set after issue, at the first frame boundary at or after c + 2, or at the end of a freeze that holds then, found on the way there or before: the hearth runs on from the next word, counting from that cycle, the flag is cleared where CLR is set, and the longest wait is noted. Where the flag is not set by then the timeout counts: ACT 1 goes to the target counting from the timeout cycle, ACT 0 is a TIMEOUT stoker fault with the event as detail. Commands that complete here, exec answering a next state with their own effect under hypotheses on state and operands alone: wai, waiRelease, waiTimeout. -/
def Obligations.WaitsReleaseOrTimeOut : Prop :=
  ∀ (s : State) (i : IssueAt) (f : WaiFields) (t : Nat) (hh : HearthId) (w : Wait),
    let h := hh.toNat
    (s.issuesAt i (waiLow f) 6 t →
      exec (.wai i f) s =
        .next ((((s.atIssue i (waiLow f) 6).modHearth i.h.toNat fun x =>
          { x with phase := .waiting, wait := some { event := f.event.toNat, clr := f.clr,
                                                     timeout := t + (if f.scale then 64 * f.tmo.toNat else f.tmo.toNat),
                                                     branch := f.branch, target := f.target.toNat, cc := t } }).showStoker i.h.toNat 2).bump 0x3405 (i.h.toNat + 1) 3 1)) ∧
    ((s.hearth h).phase = .waiting → (s.hearth h).wait = some w →
      (let s' := s.runUntilFlag h w.event w.timeout ((s.hearth h).calendar.length + 1)
       ∀ c, (s'.hearth h).flagAt w.event = some c → c ≤ w.timeout → (s'.hearth h).phase = .waiting →
        let due := if c ≤ w.cc then (w.cc / 8 + 1) * 8 else frameUp (c + 2)
        let u := s'.advance h (due - 1)
        let r := (u.hearth h).afterFreeze due
        ((u.advance h r).hearth h).phase = .waiting →
        Completes (.waiRelease hh) s fun t =>
          let x := (u.advance h r).hearth h
          t.hearth h = { (if w.clr then x.clearFlag w.event else x) with phase := .running, wait := none, last := r, pc := x.pc + 1 } ∧
          (w.clr = true → (t.hearth h).flagAt w.event = none) ∧ t.od 0x3405 (h + 1) 0 = 1 ∧ t.pending = s.pending) ∧
      (let s' := s.advance h w.timeout
       (∀ c, (s'.hearth h).flagAt w.event = some c → w.timeout < c) → (s'.hearth h).phase = .waiting →
        (w.branch = true →
          exec (.waiTimeout hh) s =
            .next (((s'.bump 0x3405 (h + 1) 4 1).modHearth h fun x =>
              { x with phase := .running, wait := none, last := (s'.hearth h).afterFreeze w.timeout, pc := w.target }).showStoker h 1)) ∧
        (w.branch = false → exec (.waiTimeout hh) s = .next ((s'.bump 0x3405 (h + 1) 4 1).stokerFault h .timeout w.event 6))))

/-- A SIG that the stoker issues at cycle t with REL set is kept, in order, until it leaves; with REL clear it leaves at t. Leaving, LOCAL sets the hearth's own flag at t + 2, HEARTH sends the flag to one hearth, SET to each hearth of a set of the program header, behind all that waits there, PART raises a controller event, ATTN has the stoker fetch its request row in the next stoker slot of the row's bank that no fetch has; the fetch submits the request, or fails the step where a word of the row is poisoned. SIGNAL_DEPART lets the oldest kept signal go whose earlier writes, transfers and groups are done, and takes it from the list; a PART signal whose message has a parity error goes no further. SIGNAL_ARRIVAL takes the first signal on its way to the hearth that nothing of its source is ahead of; one sent by the step it runs sets the flag, or counts an event overrun where it is set already; one of another step sets nothing; one with a parity error is discarded. Such an error is counted, and recorded at the router of the way that found it. What stood behind it may then be accepted. With no such signal it changes nothing. Commands that complete here, exec answering a next state with their own effect under hypotheses on state and operands alone: sigLocal, sigHearth, sigSet, sigAttn, sigPart, signalDepart, signalArrival. -/
def Obligations.SignalsLeaveAndArrive : Prop :=
  ∀ (s : State) (i : IssueAt) (f : SigFields) (t : Nat) (hh : HearthId) (ev : BitVec 6) (cc : Nat),
    let h := i.h.toNat
    let s' := s.atIssue i (sigLow f) 7
    let sig (kind : Nat) : Signal :=
      { kind := kind, event := f.event.toNat, target := f.target.toNat, desc := f.desc.toNat, cc := t, seq := (s'.hearth h).seq }
    let step := (s'.hearth h).step
    (s.issuesAt i (sigLow f) 7 t →
      (f.rel = true → ∀ e ∈ [(Instr.sigLocal i f, 0), (.sigHearth i f, 1), (.sigSet i f, 2), (.sigAttn i f, 3), (.sigPart i f, 4)],
        exec e.1 s = .next ((s'.modHearth h fun x => { x with signals := x.signals ++ [sig e.2], seq := x.seq + 1 }).toNext h)) ∧
      (f.rel = false →
        exec (.sigLocal i f) s = .next (s'.enter h (t + 2) (.setFlag f.event.toNat)) ∧
        exec (.sigHearth i f) s =
          .next ((s'.modHearth f.target.toNat fun x => { x with waiting := x.waiting ++ [.signal (h + 1) f.event.toNat step] }).toNext h) ∧
        exec (.sigSet i f) s = .next ((s'.signalTo (h + 1) f.event.toNat step (s'.hearthSet (f.target.toNat % 8))).toNext h) ∧
        exec (.sigPart i f) s = .next ((s'.emit (.controllerEvent h f.target.toNat)).toNext h) ∧
        exec (.sigAttn i f) s = .next ((s'.modHearth h (Hearth.fetchIn f.desc.toNat t (.attn (sig 3)))).toNext h))) ∧
    (∀ g seq,
      (∀ s1, s.fetchRow h g.desc cc = (none, s1) → s.runDue h cc seq (.attn g) = s1.failFetch h g.desc 7) ∧
      (∀ row s1, s.fetchRow h g.desc cc = (some row, s1) →
        s.runDue h cc seq (.attn g) =
          { s1 with attnQueue := s1.attnQueue ++ [s1.attnRequest (g.target % 2) h (s1.hearth h).step g.event row] })) ∧
    (let u := s.advance hh.toNat cc
     ∀ g, ((u.hearth hh.toNat).signals.find? fun g => (u.hearth hh.toNat).released g && decide (g.cc ≤ cc)) = some g →
       let v := u.modHearth hh.toNat fun x => { x with signals := x.signals.erase g }
       exec (.signalDepart hh ⟨cc, none⟩) s = .next (v.sendSignal hh.toNat g cc) ∧
       ∀ e : FlitFault,
         (g.kind ≠ 4 → exec (.signalDepart hh ⟨cc, some e⟩) s = .next (v.sendSignal hh.toNat g cc)) ∧
         (g.kind = 4 → exec (.signalDepart hh ⟨cc, some e⟩) s =
           .next (v.meshParity (routeOut hh.toNat edgeN) e (u.hearth hh.toNat).step))) ∧
    (firstSignal ev.toNat [] (s.hearth hh.toNat).waiting = none → ∀ bad, exec (.signalArrival hh ⟨ev, bad⟩ cc) s = .next s) ∧
    (∀ p, firstSignal ev.toNat [] (s.hearth hh.toNat).waiting = some p →
      let u := s.modHearth hh.toNat fun x => { x with waiting := x.waiting.erase p }
      let v := u.advance hh.toNat cc
      let goesOn (w : State) : State := w.acceptRows hh.toNat cc (w.hearth hh.toNat).waiting.length
      (∀ e : FlitFault, exec (.signalArrival hh ⟨ev, some e⟩ cc) s = .next (goesOn (u.meshParity (routeTo (p.src - 1) hh.toNat) e p.step))) ∧
      (p.step = (s.hearth hh.toNat).step → (s.stepRec p.step).phase = .running →
        ((v.hearth hh.toNat).flagAt ev.toNat = none →
          exec (.signalArrival hh ⟨ev, none⟩ cc) s = .next (goesOn (v.modHearth hh.toNat fun x => { x with flags := x.flags.put 0 ev.toNat (cc + 1) }))) ∧
        ((v.hearth hh.toNat).flagAt ev.toNat ≠ none → exec (.signalArrival hh ⟨ev, none⟩ cc) s = .next (goesOn (v.bump 0x3404 0 5 1)))) ∧
      (p.step ≠ (s.hearth hh.toNat).step → exec (.signalArrival hh ⟨ev, none⟩ cc) s = .next (goesOn u))) ∧
    (∀ (way : List (Nat × Nat)) (e : FlitFault) (step : Nat) (u : State),
      let r := (way[e.hop.toNat]?).getD (way.getLastD (0, 0))
      u.meshParity way e step = (u.bump 0x340A 0 5 1).raiseParity (pathUnit 0 r.1 6 r.2) step e.word.toNat)

/-- FEN.L, FEN.D and FEN.S issued at cycle t stop the stoker with an earliest release 4 (L) or 24 (D, S) cycles later and their timeout, note how many rows the hearth has accepted and how many sends it has made, and show WAITING. Where the scope is complete at a cycle c, the fence releases at the first frame boundary at or after both c and the earliest release: FEN_RELEASE brings the engines there and lets the hearth run on from the next word, counting from that boundary (or from the end of a freeze that holds then, found on the way there or before), when the boundary is no later than the timeout. Where it is later, or the scope is not complete, FEN_RELEASE changes nothing. Where the fence has not released by its timeout, FEN_TIMEOUT is a TIMEOUT stoker fault with detail 0x100 + scope; where it has, FEN_TIMEOUT only brings the engines to the timeout. That a boundary after the timeout is no release is the model's reading of R204 (assumption log, entry 196). Commands that complete here, exec answering a next state with their own effect under hypotheses on state and operands alone: fenL, fenD, fenS, fenRelease, fenTimeout. -/
def Obligations.FencesReleaseOrTimeOut : Prop :=
  ∀ (s : State) (i : IssueAt) (f : FenFields) (t cc : Nat) (hh : HearthId) (g : Fence),
    (s.issuesAt i (fenLow f) 8 t → ∀ e ∈ [(Instr.fenL i f, 0, 4), (.fenD i f, 1, 24), (.fenS i f, 2, 24)],
      let s' := s.atIssue i (fenLow f) 8
      exec e.1 s = .next ((s'.modHearth i.h.toNat fun x =>
        { x with phase := .fencing, fence := some { scope := e.2.1, earliest := t + e.2.2,
                                                    timeout := t + (if f.scale then 64 * f.tmo.toNat else f.tmo.toNat), cc := t,
                                                    seq := (s'.hearth i.h.toNat).seq, rows := (s'.hearth i.h.toNat).serial,
                                                    sends := (s'.hearth i.h.toNat).sent.length, landed := 0 } }).showStoker i.h.toNat 2)) ∧
    (let h := hh.toNat
     (s.hearth h).phase = .fencing → (s.hearth h).fence = some g →
      (∀ c, s.fenceAt h g cc = some c →
        let u := s.advance h (frameUp (max g.earliest c) - 1)
        let r := (u.hearth h).afterFreeze (frameUp (max g.earliest c))
        let s' := u.advance h r
        (frameUp (max g.earliest c) ≤ g.timeout → (s'.hearth h).phase = .fencing →
          exec (.fenRelease hh cc) s =
            .next ((s'.modHearth h fun x => { x with phase := .running, fence := none, last := r, pc := x.pc + 1 }).showStoker h 1)) ∧
        (g.timeout < frameUp (max g.earliest c) → exec (.fenRelease hh cc) s = .next s)) ∧
      (s.fenceAt h g cc = none → exec (.fenRelease hh cc) s = .next s) ∧
      (let s' := s.advance h g.timeout
       (s'.hearth h).phase = .fencing →
        ((∀ c, s'.fenceAt h g g.timeout = some c → g.timeout < frameUp (max g.earliest c)) →
          exec (.fenTimeout hh) s = .next (s'.stokerFault h .timeout (0x100 + g.scope) 8)) ∧
        (∀ c, s'.fenceAt h g g.timeout = some c → frameUp (max g.earliest c) ≤ g.timeout → exec (.fenTimeout hh) s = .next s')))

/-- HEARTH_HALT of a hearth past its HLT with empty DMA queues and every group delivered halts it and shows IDLE; where other hearths of its step still run, the step goes on, else the step halts. While a transfer is queued nothing changes. The halt is at the later of its HLT and the last cycle of its engines' work. FREEZE_END of a freeze from start to resume does what the engines do before the resume, then moves the count from which DELTA runs by the freeze's length, unless the stoker's last cycle is at or after the start, and ends the freeze; where the step has failed on the way there is no freeze left to end. Commands that complete here, exec answering a next state with their own effect under hypotheses on state and operands alone: hearthHalt, freezeEnd. -/
def Obligations.HearthsHaltAndFreezesEnd : Prop :=
  ∀ (s : State) (hh : HearthId),
    let h := hh.toNat
    ((s.hearth h).phase = .ended → (s.hearth h).queue0 = [] → (s.hearth h).queue1 = [] → (s.hearth h).groups = [] → (s.hearth h).calendar = [] →
      let idle := max (s.hearth h).hltAt (s.hearth h).busy
      let t := ((s.advance h idle).modHearth h fun x => { x with phase := .halted, haltAt := idle, haltTick := (s.advance h idle).tick }).showStoker h 0
      (t.stillRunning (s.hearth h).step ≠ [] → exec (.hearthHalt hh) s = .next t) ∧
      (t.stillRunning (s.hearth h).step = [] → exec (.hearthHalt hh) s = .next (t.stepHalts (s.hearth h).step))) ∧
    ((s.hearth h).phase = .ended → (s.hearth h).queue0 ≠ [] → exec (.hearthHalt hh) s = .next s) ∧
    (∀ f, (s.hearth h).freeze = some f →
      let u := s.advance h (f.resume - 1)
      (∀ f', (u.hearth h).freeze = some f' →
        exec (.freezeEnd hh) s = .next (u.setHearth h { u.hearth h with
          freeze := none,
          last := (u.hearth h).last + (if (u.hearth h).last < f'.start then f'.resume - f'.start else 0) })) ∧
      ((u.hearth h).freeze = none → exec (.freezeEnd hh) s = .next u))

/-- For operands that are 32-bit signed numbers: the sum lane is the one 32-bit signed number congruent to the sum modulo 2^32; adding is commutative and associative, so the order of merging never changes a result; the residue of the result (modulo 7, on the signed value) equals the sum of the operands' residues unless the add wraps, where it differs by 4; and the adder reports a mismatch, poisoning the lane, exactly when the add wraps. -/
def Obligations.FlueSumsDoNotDependOnOrder : Prop :=
  ∀ a b c : Int, a ∈ Set.Ico (-(2 ^ 31)) (2 ^ 31) → b ∈ Set.Ico (-(2 ^ 31)) (2 ^ 31) → c ∈ Set.Ico (-(2 ^ 31)) (2 ^ 31) → ∀ p q : Bool,
    let sum (x y : Int) : Int := (addLane (x, p) (y, q)).1.1
    (sum a b ∈ Set.Ico (-(2 ^ 31)) (2 ^ 31) ∧ (2 ^ 32 : Int) ∣ sum a b - (a + b)) ∧
    sum a b = sum b a ∧ sum (sum a b) c = sum a (sum b c) ∧
    (sum a b = a + b → (addLane (a, p) (b, q)).2 = none ∧ (addLane (a, p) (b, q)).1.2 = (p || q)) ∧
    (sum a b ≠ a + b →
      (addLane (a, p) (b, q)).2 = some ((residue a + residue b) % 7, residue (sum a b)) ∧ (addLane (a, p) (b, q)).1.2 = true ∧
      ((residue (sum a b) + 4) % 7 = (residue a + residue b) % 7 ∨ residue (sum a b) = (residue a + residue b + 4) % 7))

/-- FLU send issued at cycle t, where the port is free, the tag is valid and of the send's format and destination, the hearth contributes to it and has not sent it in this step, the rows stand in the buffer and a lead's total is 1 to its bound: unit u is to be read in the flue-out slot of frame t div 8 + 1 + u, the port is taken until the frame after the last, and the tag is noted. A send while the port is busy, of a tag that is not valid, a tag sent before, or of rows past the buffer is a SCHEDULE fault. FLU receive adds the tag with its event, rows and units to what the hearth expects. Commands that complete here, exec answering a next state with their own effect under hypotheses on state and operands alone: fluSend, fluReceive. -/
def Obligations.FlueSendsAndReceives : Prop :=
  ∀ (s : State) (i : IssueAt) (f : FluFields) (t : Nat), s.issuesAt i (fluLow f) 3 t →
    let h := i.h.toNat
    let s' := s.atIssue i (fluLow f) 3
    let x := s'.hearth h
    let tag := f.tag.toNat
    let lead : Bool := s'.tagSparse tag && leAt (s'.flueEntry tag) 3 1 == h
    let total := if lead then x.gReg 15 % 256 else 0
    let frame := t / 8 + 1
    (x.flueUntil ≤ t → s'.tagValid tag = true → s'.tagF16 tag = f.f16 → s'.tagDest tag = f.dest.toNat → bit (s'.tagContributors tag) h = true →
      tag ∉ x.sent → f.addr.toNat + 16 * f.len.toNat ≤ 32768 → (lead = true → total ≠ 0 ∧ total ≤ leAt (s'.flueEntry tag) 4 1) →
      exec (.fluSend i f) s =
        .next (((List.range f.len.toNat).foldl (fun s u =>
          s.schedule h (8 * (frame + u) + 4) (.flueOut tag u (f.addr.toNat + 16 * u) total f.f16))
            (s'.modHearth h fun x => { x with flueUntil := 8 * (frame + f.len.toNat), sent := x.sent ++ [tag] })).toNext h)) ∧
    (t < x.flueUntil ∨ s'.tagValid tag = false ∨ tag ∈ x.sent ∨ 32768 < f.addr.toNat + 16 * f.len.toNat →
      exec (.fluSend i f) s = .next (s'.stokerFault h .schedule t 3)) ∧
    exec (.fluReceive i f) s =
      .next ((s'.modHearth h fun x => { x with
        receives := x.receives ++ [{ tag := tag, event := f.dest.toNat / 2, addr := f.addr.toNat, len := f.len.toNat, cc := t, written := [] }] }).toNext h)

/-- FLUE_MERGE of a tag, unit and flit that stand first at inputs of a router, of one step, without an upset: where the tag is FIXED and every input of the tag has it first, all are added (SPARSE: at most two). Where the next router's input, or the merge store, has room, they leave the router and one flit whose count is the sum of theirs goes on; where it has none nothing moves and a flue stall is counted. Where a FIXED tag's input still lacks it, or no input has it first, nothing changes. A flit that comes where its tag has something pending of another step is discarded and counted. FLUE_UNIT_COMPLETE of a unit whose flits all count its total, with a receive armed: the unit leaves the store and its rows enter the calendar in a flue-in slot (slot 3) of a frame after the one in which the unit was complete and the receive armed; the receive notes the unit, and with its last unit ends and sets its event in that slot. An accepted FLUE_TREE_WRITE replaces the image and its status; a refused one leaves the image. Commands that complete here, exec answering a next state with their own effect under hypotheses on state and operands alone: flueMerge, flueUnitComplete, flueTreeWrite. -/
def Obligations.FlueMergesAndDelivers : Prop :=
  ∀ (s : State),
    (∀ (r : HearthId) (tag : BitVec 16) (unit : BitVec 6) (flit : BitVec 4),
      (s.heads r.toNat).filter (Held.is tag.toNat unit.toNat flit.toNat) = [] → exec (.flueMerge r tag unit flit none) s = .next s) ∧
    (∀ (r : HearthId) (tag : BitVec 16) (unit : BitVec 6) (flit : BitVec 4) (first : Held) (rest : List Held),
      (s.heads r.toNat).filter (Held.is tag.toNat unit.toNat flit.toNat) = first :: rest → (∀ e ∈ rest, e.flit.step = first.flit.step) →
      let dest := s.tagDest tag.toNat
      let inputs := tagInputs (s.tagContributors tag.toNat) dest r.toNat
      let taken := if s.tagSparse tag.toNat then (first :: rest).take 2 else first :: rest
      let sum := mergeFlits first.flit ((taken.drop 1).map (·.flit))
      let step := (s.hearth dest).step
      sum.1.count = (taken.map (·.flit.count)).sum ∧
      (s.tagSparse tag.toNat = true ∨ (∀ n ∈ inputs, ∃ e ∈ first :: rest, e.input = n) →
        (s.flueRoom r.toNat dest first.flit = true → exec (.flueMerge r tag unit flit none) s =
          .next ((((({ s with flue := { s.flue with flits := taken.foldl (fun l e => l.erase e) s.flue.flits } } : State).bump 0x340A 0 0
            (taken.length - 1)).flueResidue r.toNat step sum.2)).forwardFlit r.toNat dest step none sum.1)) ∧
        (s.flueRoom r.toNat dest first.flit = false → exec (.flueMerge r tag unit flit none) s = .next (s.bump 0x340A 0 6 1))) ∧
      (s.tagSparse tag.toNat = false → (∃ n ∈ inputs, ∀ e ∈ first :: rest, e.input ≠ n) → exec (.flueMerge r tag unit flit none) s = .next s)) ∧
    (∀ r dest step f, s.flueLate r dest f = true → s.forwardFlit r dest step none f = s.bump 0x340A 0 2 1) ∧
    (∀ (hh : HearthId) (tag : BitVec 16) (unit : BitVec 6) (cc total : Nat) (u : StoreUnit) (r : Receive),
      let h := hh.toNat
      let s' := s.advance h cc
      let mine (u : StoreUnit) : Bool := u.hearth == h && u.tag == tag.toNat && u.unit == unit.toNat
      s'.flue.stores.find? mine = some u → ((s'.hearth h).receives.find? fun r => r.tag == tag.toNat && !r.written.contains unit.toNat) = some r →
      u.total = some total → u.flits.length = s'.tagFlits tag.toNat → (∀ e ∈ u.flits, e.count = total) →
      let rows : Due := .flueIn tag.toNat (r.addr + 16 * unit.toNat) (s'.unitRows tag.toNat false u)
      let s1 : State := { s' with flue := { s'.flue with stores := s'.flue.stores.filter fun v => !mine v } }
      let slot := (s1.hearth h).flueInSlot (max cc r.cc)
      (slot % 8 = 3 ∧ max cc r.cc / 8 < slot / 8) ∧
      (r.len ≤ r.written.length + 1 →
        exec (.flueUnitComplete hh tag unit cc) s =
          .next (((s1.modHearth h fun x => { x with receives := x.receives.erase r }).schedule h slot rows).schedule h slot (.setFlag r.event))) ∧
      (r.written.length + 1 < r.len →
        exec (.flueUnitComplete hh tag unit cc) s =
          .next ((s1.modHearth h fun x => { x with
            receives := x.receives.map fun e => if e = r then { r with written := r.written ++ [unit.toNat] } else e }).schedule h slot rows))) ∧
    (∀ (rq : Requester) (img : List Byte), Accepted s rq .write 0x3408 0 img →
      (s.imageState = true → s.judgeFlueTree img = (0, 0) →
        exec (.flueTreeWrite rq img) s =
          .next ((((((s.setOd 0x3409 0 1 0).setOd 0x3409 0 2 0).setBlob 0x3408 0 img).setOd 0x3409 0 0 1).setOd 0x3409 0 3 (leAt img 2 2)).written rq)) ∧
      (s.imageState = false →
        exec (.flueTreeWrite rq img) s = .next (((s.setOd 0x3409 0 1 1).setOd 0x3409 0 2 0xFFFF).answer rq codeState)))

/-- DMA issued with fewer than 16 transfers in its engine's queue appends one, in order of issue, and enters the fetch of its descriptor in the stoker slot (slot 7) of a later frame, ahead of the write-backs and repairs of its bank; with 16 it is a SCHEDULE fault. The fetch of a row with a poisoned word fails the step. A descriptor that R234 refuses sets the transfer's event, writes a DMA record, takes the transfer from the queue and fails the step; another becomes the transfer's descriptor. Each of COPY, HEARTH, SET, STACK_RD, STACK_WR and FABRIC, once the fetch it waits for is done, starts the front transfer's descriptor of its kind where the earlier ones of the chain have completed: STACK_RD has the stack's lines sent to the hearth; the others read in the DMA read slots from then on (FABRIC where the retention store has room for its copies beside those of the FABRIC transfers that are being read; else it waits and is counted). With a descriptor of another kind in front they start nothing. A read slot reads up to 16 rows of a running descriptor and delivers them by its kind; with the last row the descriptor has moved. A FABRIC read of a poisoned word or a block of scale 0xFF writes one record and fails the step; so does a flit of the transfer in which a parity error is found on the way to the edge, which is recorded there. Commands that complete here, exec answering a next state with their own effect under hypotheses on state and operands alone: dma, dmaCopy, dmaHearth, dmaSet, dmaStackRd, dmaStackWr, dmaFabric. -/
def Obligations.DmaDescriptorsRun : Prop :=
  ∀ s : State,
    (∀ (i : IssueAt) (f : DmaFields) (t : Nat), s.issuesAt i (dmaLow f) 5 t →
      let h := i.h.toNat
      let s' := s.atIssue i (dmaLow f) 5
      let q := (s'.hearth h).engine f.eng
      (q.length < 16 →
        let new : Transfer :=
          { row := f.desc.toNat, event := f.event.toNat, seq := (s'.hearth h).seq, desc := none, running := false, pos := 0, data := [], parity := [],
            ran := [], moved := false, wrote := 0, tids := [] }
        let u := s'.modHearth h fun x => { x.setEngine f.eng (q ++ [new]) with seq := x.seq + 1 }
        let fetch : Due := .fetch f.desc.toNat (s'.hearth h).seq
        let v := u.modHearth h (Hearth.fetchIn f.desc.toNat t fetch)
        exec (.dma i f) s = .next (v.toNext h) ∧ (∃ e ∈ (v.hearth h).calendar, e.due = fetch ∧ e.cc % 8 = 7 ∧ t / 8 < e.cc / 8)) ∧
      (16 ≤ q.length → exec (.dma i f) s = .next (s'.stokerFault h .schedule t 5))) ∧
    (∀ (h cc row n : Nat) (seq : Nat) (eng : Bool) (t : Transfer) (u : State), (s.hearth h).transfer n = some (eng, t) →
      (s.fetchRow h row cc = (none, u) → s.runDue h cc seq (.fetch row n) = u.failFetch h row 5) ∧
      (∀ b, s.fetchRow h row cc = (some b, u) →
        (u.badDescriptor (descriptorOf b) = false →
          s.runDue h cc seq (.fetch row n) = u.modTransfer h n fun t => { t with desc := some (descriptorOf b) }) ∧
        (u.badDescriptor (descriptorOf b) = true →
          let v := (u.setFlag h t.event cc).stokerRaise h .dma (pathUnit 0 h 4 (flagNat eng)) t.row 5
          s.runDue h cc seq (.fetch row n) =
            (v.modHearth h fun x => x.setEngine eng ((x.engine eng).filter fun e => e.seq != t.seq)).failStep (v.hearth h).step))) ∧
    (∀ (hh : HearthId) (eng : Bool) (write : EdgeWrite) (t : Transfer) (rest : List Transfer) (d : Descriptor),
      let h := hh.toNat
      let u := s.reachFetch h eng
      let now := (u.hearth h).now
      let flits := write.parity.map fun e => (e.1.toNat, e.2)
      let starts (p : List (Nat × FlitFault)) : State := (u.modTransfer h t.seq fun t => { t with running := true, parity := p }).wakeDma h now
      write.eng = eng → (u.hearth h).engine eng = t :: rest → t.desc = some d → t.running = false → t.moved = false → t.ran.all (u.descDone h t) = true →
      (d.kind = 0 → exec (.dmaCopy hh eng) s = .next (starts [])) ∧
      (d.kind = 1 → exec (.dmaHearth hh eng) s = .next (starts [])) ∧
      (d.kind = 2 → exec (.dmaSet hh eng) s = .next (starts [])) ∧
      (d.kind = 3 → exec (.dmaStackRd hh eng) s = .next ((u.readStackRows h t d).dmaMoved h now eng t.seq d)) ∧
      (d.kind = 4 → exec (.dmaStackWr hh write) s = .next (starts flits)) ∧
      (d.kind = 5 →
        (u.retentionRoom (u.roomTaken + u.copySize h d) = true → exec (.dmaFabric hh write) s = .next (starts flits)) ∧
        (u.retentionRoom (u.roomTaken + u.copySize h d) = false → exec (.dmaFabric hh write) s = .next (u.bump 0x4107 0 6 1))) ∧
      (∀ e ∈ [(Instr.dmaCopy hh eng, 0), (.dmaHearth hh eng, 1), (.dmaSet hh eng, 2), (.dmaStackRd hh eng, 3), (.dmaStackWr hh write, 4),
              (.dmaFabric hh write, 5)], d.kind ≠ e.2 → exec e.1 s = .next u)) ∧
    (∀ (h cc : Nat) (eng : Bool) (t : Transfer) (d : Descriptor) (rows : List (List VCell)) (u : State),
      let n := min 16 (d.rows - t.pos)
      s.rowsRead (if d.kind = 5 then .sending else .engine) h cc (d.src + t.pos) n = (rows, u) →
      let clean : Prop := ∀ row ∈ rows, ∀ c ∈ row, c.poison = false ∧ c.bad = false
      let hit : Prop := ∃ i < n, ∃ e ∈ t.parity, e.1 = (t.pos + i) / 2
      ((d.kind = 5 → clean ∧ ¬ hit) →
        let v := (u.dmaDeliver h cc t d rows).modTransfer h t.seq fun t => { t with pos := t.pos + n }
        s.dmaChunk h cc eng t d = if d.rows ≤ t.pos + n then (v.dmaLeave h t.seq d).dmaMoved h cc eng t.seq d else v) ∧
      (d.kind = 5 → clean → hit → s.dmaChunk h cc eng t d =
        (rows.zipIdx.foldl (fun s r => (s.edgeRow h (if d.target < 4 then edgeN else edgeS) t (t.pos + r.2) r.1).2) u).failStep
          (u.hearth h).step) ∧
      (d.kind = 1 → u.dmaDeliver h cc t d rows = u.sendRows d.target cc (meshRows h t.seq (u.hearth h).step d t.pos rows)) ∧
      (∀ row rest, d.kind = 5 → rows = row :: rest → (∃ c ∈ row, c.poison = true) →
        s.dmaChunk h cc eng t d =
          (u.stokerRaise h .buffer (pathUnit 0 h 4 (flagNat eng)) (d.src + t.pos) 5).failStep (u.hearth h).step) ∧
      (∀ row rest, d.kind = 5 → rows = row :: rest → (∀ c ∈ row, c.poison = false) → (∃ c ∈ row, c.bad = true) →
        s.dmaChunk h cc eng t d =
          (u.stokerRaise h .format (pathUnit 0 h 4 (flagNat eng)) (d.src + t.pos) 5).failStep (u.hearth h).step))

/-- DMA_COMPLETE at cycle cc: where the front transfer of the engine has moved its rows and each descriptor has come to its completion point, it leaves the queue (kept with the finished ones where a FABRIC descriptor was among them) and its event is set, at the cycle of its last written row where it is all COPY, else at cc. Where it has not, or the queue is empty, the engines are only brought to cc. Commands that complete here, exec answering a next state with their own effect under hypotheses on state and operands alone: dmaComplete. -/
def Obligations.DmaTransfersComplete : Prop :=
  ∀ (s : State) (hh : HearthId) (eng : Bool) (cc : Nat),
    let h := hh.toNat
    let s' := s.advance h cc
    (∀ x rest, (s'.hearth h).engine eng = x :: rest →
      let at_ := if ∀ d ∈ x.ran, d.kind = 0 then x.wrote else cc
      (s'.dmaDone h x = true →
        exec (.dmaComplete hh eng cc) s = .next ((s'.modHearth h fun y =>
          { y.setEngine eng rest with finished := if x.ran.any (fun d => d.kind == 5) then y.finished ++ [x] else y.finished,
                                      busy := max y.busy at_ }).setFlag h x.event at_)) ∧
      (s'.dmaDone h x = false → exec (.dmaComplete hh eng cc) s = .next s')) ∧
    ((s'.hearth h).engine eng = [] → exec (.dmaComplete hh eng cc) s = .next s')

/-- ACC issued at t arms its bay and descriptor with its layer slot. DRV with L = 1 gives each site of its group a fresh latch and enters the load of segment j for t + j; where a site has no free latch it is a SCHEDULE fault (the model's reading, log entry 20). DRV with L = 0 is held where the damper's cap has no room for the group's sites. Where it fits: with no ACC armed for it, or one issued less than 1 or more than 64 cc before, it is a SCHEDULE fault; with the ACC in time, at most two groups of the bay armed or live, no live window overlapping its own, and every latch loaded for more than its load, the sites start, the ACC is taken, and the group joins the live ones with its window at the first frame boundary at or after t + 88 + 64 B. Commands that complete here, exec answering a next state with their own effect under hypotheses on state and operands alone: drvIssue, drvLatchLoad, acc. -/
def Obligations.IssueGroupsStart : Prop :=
  ∀ (s : State) (i : IssueAt) (t : Nat),
    let h := i.h.toNat
    (∀ f : AccFields, s.issuesAt i (accLow f) 2 t →
      exec (.acc i f) s = .next (((s.atIssue i (accLow f) 2).modHearth h fun x =>
        { x with armed := x.armed ++ [{ bay := f.bay.toNat, desc := f.desc.toNat, slot := f.slot.toNat, cc := t }] }).toNext h)) ∧
    (∀ f : DrvFields, s.issuesAt i (drvLow f) 1 t →
      let s' := s.atIssue i (drvLow f) 1
      let x := s'.hearth h
      let d := s'.groupDesc h f.desc.toNat
      let sites := d.sites.map (siteNo h f.bay.toNat)
      let noLatch (n : Nat) : Bool := !(latchFree x.step t (s'.site n).latchA || latchFree x.step t (s'.site n).latchB)
      ((∃ n ∈ sites, noLatch n = true) → exec (.drvLatchLoad i f) s = .next (s'.stokerFault h .schedule t 1)) ∧
      ((∀ n ∈ sites, noLatch n = false) →
        let fresh : Latch := { step := x.step, elems := [], scale := 255, ready := t + d.nseg, busyUntil := none, seq := x.seq }
        exec (.drvLatchLoad i f) s =
          .next (((List.range d.nseg).foldl (fun s j =>
            s.schedule h (t + j) (.latch ((sites.zipIdx.filter fun e => e.2 % d.nseg == j).map (·.1)) x.seq (f.vsrc.toNat + j / 2) (j % 2) d.scaleReg (d.seg0 + j)))
              (sites.foldl (fun s n => s.setSite n (((s.site n).load x.step t fresh).getD (s.site n))) s')).toNext h)) ∧
      (s'.fits h d.sites.length t = false → exec (.drvIssue i f) s = .next (s'.modHearth h fun x => { x with held := some (i, f) })) ∧
      (s'.fits h d.sites.length t = true →
        let mine (a : Armed) : Bool := a.bay == f.bay.toNat && a.desc == f.desc.toNat
        (x.armed.find? mine = none → exec (.drvIssue i f) s = .next (s'.stokerFault h .schedule t 1)) ∧
        (∀ arm, x.armed.find? mine = some arm →
          let cfg := (s'.stepRec x.step).cfg
          let live := x.groups.filter fun g => decide (t < g.ends)
          let g : Group :=
            { bay := f.bay.toNat, desc := f.desc.toNat, slot := f.slot.toNat, layer := s'.slotLayer f.slot.toNat, span := f.span.toNat,
              first := f.first.toNat, last := f.last.toNat, cc := t, policy := s'.slotPolicy f.slot.toNat cfg, budget := s'.slotBudget f.slot.toNat cfg,
              window := frameUp (t + 88 + 64 * s'.slotBudget arm.slot cfg), nblk := d.nblk, nseg := d.nseg, outBase := d.outBase, sites := [],
              delivered := false }
          (t ≤ arm.cc ∨ arm.cc + 64 < t → exec (.drvIssue i f) s = .next (s'.stokerFault h .schedule t 1)) ∧
          (arm.cc < t → t ≤ arm.cc + 64 → (x.armed.filter fun a => a.bay == g.bay).length + (live.filter fun e => e.bay == g.bay).length ≤ 2 →
            (∀ e ∈ live, e.ends ≤ g.window ∨ g.ends ≤ e.window) →
            (∀ n ∈ sites, ∃ l, (s'.site n).loaded x.step = some l ∧ l.ready < t) →
            let started := s'.startSites h t g f.lower 0 sites
            exec (.drvIssue i f) s =
              .next (((started.2.issueRecords h t f.lower started.1).modHearth h fun x =>
                { x with armed := x.armed.erase arm, groups := live ++ [{ g with sites := started.1 }] }).toNext h)))))

/-- REISSUE_WIDEN of the first conversion of a site that wants it (policy WIDEN, budget left, a flagged valid column below the widest span) converts once more at the next span: flagged valid columns take the new conversion, the others stay, and one interval is used. REISSUE_SPLIT splits the next range into its two halves at the DRV's span: two parts that meet end to end, two intervals used, the columns unchanged. ACC_DELIVERY of the oldest undelivered group of a bay marks it delivered with its re-issues made, and enters 16 accumulator rows for each block in its slot of the window, and no other work. DAMPER_HOLD_RELEASE at the first frame boundary at which the group fits brings the engines there, counts the hold as time damped, moves the armed ACCs by it, and drives the group. Commands that complete here, exec answering a next state with their own effect under hypotheses on state and operands alone: damperHoldRelease, reissueWiden, reissueSplit, accDelivery. -/
def Obligations.ReissuesAndDelivery : Prop :=
  ∀ s : State,
    (∀ (site : SiteId) (g : Group) (sc : SiteConv),
      let h := site.toNat / 512
      let x := s.hearth h
      let with' (sc' : SiteConv) : List Group := x.groups.map fun e =>
        if e.bay = g.bay ∧ e.cc = g.cc then { g with sites := g.sites.map fun c => if c.site = site.toNat then sc' else c } else e
      ((x.groups.find? fun g => !g.delivered && g.sites.any fun sc => sc.site == site.toNat && s.wantsWiden g sc) = some g →
        (g.sites.find? fun sc => sc.site == site.toNat && s.wantsWiden g sc) = some sc →
        Completes (.reissueWiden site) s fun t => SameBut [.clock, .hearth] s t ∧ ∃ sc', (t.hearth h).groups = with' sc' ∧
          sc'.used = sc.used + 1 ∧ sc'.used ≤ g.budget ∧ sc'.parts = sc.parts ∧
          (∀ p < 531, (colAt sc.cols p).flag = 0 ∨ (colAt sc.cols p).invalid = true → colAt sc'.cols p = colAt sc.cols p) ∧
          (∀ p < 531, (colAt sc.cols p).flag ≠ 0 → (colAt sc.cols p).invalid = false → (colAt sc'.cols p).span = g.span + sc.used + 1)) ∧
      (∀ first last level, s.nextSplit g sc = some (first, last, level) → first ≤ last →
        (x.groups.find? fun g => !g.delivered && g.sites.any fun sc => sc.site == site.toNat && (s.nextSplit g sc).isSome) = some g →
        (g.sites.find? fun sc => sc.site == site.toNat && (s.nextSplit g sc).isSome) = some sc →
        Completes (.reissueSplit site) s fun t => SameBut [.clock, .hearth] s t ∧ ∃ sc' a b, (t.hearth h).groups = with' sc' ∧
          sc'.used = sc.used + 2 ∧ sc'.used ≤ g.budget ∧ sc'.cols = sc.cols ∧ sc'.parts = sc.parts ++ [a, b] ∧ a.level = level ∧ b.level = level ∧
          a.first = first ∧ b.first = a.last + 1 ∧ b.last = last)) ∧
    (∀ (hh : HearthId) (bay : BitVec 3) (u : Option Upset) (g : Group),
      let h := hh.toNat
      let x := s.hearth h
      (x.groups.find? fun g => g.bay == bay.toNat && !g.delivered) = some g →
      Completes (.accDelivery hh bay u) s fun t =>
        t.pending = s.pending ∧
        (∃ scs, (t.hearth h).groups = x.groups.map fun e => if e.bay = g.bay ∧ e.cc = g.cc then { g with sites := scs, delivered := true } else e) ∧
        (t.hearth h).calendar.length = x.calendar.length + 16 * g.nblk ∧
        ∀ b < g.nblk, ∀ e < 16, ∃ n ∈ (t.hearth h).calendar, n.cc = g.window + 8 * b + 2 ∧ ∃ cells, n.due = .accRow (g.outBase + 16 * b + e) cells g.cc) ∧
    (∀ (hh : HearthId) (w : IssueAt) (f : DrvFields) (t : Nat),
      let h := hh.toNat
      let x := s.hearth h
      x.held = some (w, f) → x.phase = .running → x.freeze = none →
      (((List.range 256).map fun k => 8 * (x.last / 8 + 1 + k)).find? (s.fits h (s.groupDesc h f.desc.toNat).sites.length)) = some t →
      let u := (((s.advance h t).timeDamped (t - x.last)).modHearth h fun x =>
        { x with held := none, last := t, armed := x.armed.map fun a => { a with cc := a.cc + (t - (s.hearth h).last) } }).driveGroup h t f
      exec (.damperHoldRelease hh) s = .next (if (u.hearth h).phase = .faulted then u else u.toNext h))

/-- ARRAY_FENCE of an array in service whose mismatches within the window have reached the count makes it FENCED with a FENCE record of detail 0, and its shard fails over where the hearth serves (at once where no step runs on it); below the count nothing changes. CONVERTER_SETTLE_FAIL of a converter that converts a column in the slot, for a site with a conversion in flight, writes a CONVERTER record and notes step and time; a second one in another step within 10 s adds the converter to those that leave service at the next boundary. REMAP_WRITE remaps the physical column of the logical column at once (a shard that has no spare left fails over as said), or waits, listed once, while the array is being steeped or, for a fault in service, while it is COMPLETE; a RETIRED array has nothing to remap. Hearths that are to go OFF then do where no step holds them. Commands that complete here, exec answering a next state with their own effect under hypotheses on state and operands alone: arrayFence, converterSettleFail, remapWrite. -/
def Obligations.ArraysFenceAndRemap : Prop :=
  ∀ s : State,
    (∀ a : ArrayId,
      let n := a.toNat
      let cfg := (s.stepRec (s.hearth (n / 1024)).step).cfg
      let log := s.checks.get CheckLog.fresh n
      (s.arrayState n = 0 → log.mismatches ≠ [] → cfgOf cfg 0x3104 2 0 ≤ log.recent (cfgOf cfg 0x3104 3 0) →
        exec (.arrayFence a) s =
          .next ((((s.setArrayState n 2).raise { kind := .fence, path := pathSite n, detail := 0, step := (s.hearth (n / 1024)).step }).failOver
            (n / 1024)).settleOff)) ∧
      (log.recent (cfgOf cfg 0x3104 3 0) < cfgOf cfg 0x3104 2 0 → exec (.arrayFence a) s = .next s)) ∧
    (∀ (site : SiteId) (conv : BitVec 7) (slot : BitVec 3) (col : Nat) (g : Group),
      let n := site.toNat
      let x := s.hearth (n / 512)
      let key := n * 128 + conv.toNat
      converterColumn conv.toNat slot.toNat = some col →
      (x.groups.find? fun g => !g.delivered && g.sites.any fun sc => sc.site == n && sc.cause == 0) = some g →
      Completes (.converterSettleFail site conv slot) s fun t =>
        t.pending = s.pending ∧
        (t.hearth (n / 512)).groups = x.groups.map (fun e => if e.bay = g.bay ∧ e.cc = g.cc then
          { g with sites := g.sites.map fun sc => if sc.site = n then sc.unsettle col else sc } else e) ∧
        (let log := (s.settleFails.get [] key).filter fun e => decide (s.now ≤ e.2 + 10000000000)
         t.settleFails.get [] key = log ++ [(x.step, s.now)] ∧
         ((∀ e ∈ log, e.1 = x.step) → t.convPending = s.convPending) ∧
         ((∃ e ∈ log, e.1 ≠ x.step) → s.convOut.get false key = false → key ∈ t.convPending))) ∧
    (∀ (a : ArrayId) (col : BitVec 9) (inService : Bool),
      let n := a.toNat
      let p := physColumn (s.remapTable n) col.toNat
      let cause := if inService then 1 else 0
      let waits : Bool := s.remapWaits.any fun e => e.1 == n && e.2.1 == p
      (s.arrayState n = 3 → exec (.remapWrite a col inService) s = .next s.settleOff) ∧
      (s.arrayState n ≠ 3 → s.arrayState n = 1 ∨ (inService = true ∧ s.recState n = 2) →
        (waits = true → exec (.remapWrite a col inService) s = .next s.settleOff) ∧
        (waits = false → exec (.remapWrite a col inService) s = .next { s with remapWaits := s.remapWaits ++ [(n, p, cause)] }.settleOff)) ∧
      (s.arrayState n ≠ 3 → s.arrayState n ≠ 1 → inService = false ∨ s.recState n ≠ 2 →
        exec (.remapWrite a col inService) s = .next (s.remapColumn n p cause).settleOff))

/-- SCRUB_PATROL of a hearth in service (WARM or HOT) with patrol on moves to the next row of each bank, modulo 2,048, and counts a pass after the last; with patrol off, or out of service, it does no more than say what the cells of words hold that are not their data (the model's choice, log entry 195). INBOUND_WRITE at cycle cc takes the front row of the queue: into a PROTECT region it is discarded, counted and recorded; else it enters the calendar in a DMA write slot (slot 6) at or after cc. With a parity error in its flit the error is counted and recorded at the router of its way that found it, and both rows of the flit are delivered poisoned. The queue then accepts what waits. An empty queue changes nothing more. RESIDENT_REGION_WRITE stores the entry with its reserved bits 0 where the regions of the hearth do not meet, hold at most 4,096 rows, end in the buffer, and the part loads at most 131,072 rows; it is refused with RANGE where they meet and with STATE where images may not be written. RESIDENT_IMAGE_WRITE stores an image of the right length, version, count and checksums, and refuses another with FORMAT. Commands that complete here, exec answering a next state with their own effect under hypotheses on state and operands alone: scrubPatrol, inboundWrite, residentRegionWrite, residentImageWrite. -/
def Obligations.BuffersTakeWhatComes : Prop :=
  ∀ s : State,
    (∀ (hh : HearthId) (cells : List WordUpset),
      let h := hh.toNat
      let st := s.od (0x3000 + h) 1 0
      ((st = 3 ∨ st = 4) → s.od 0x3406 1 0 ≠ 0 →
        Completes (.scrubPatrol hh cells) s fun t =>
          SameBut [.clock, .hearth, .memory, .fabric, .serving, .island] s t ∧ (t.hearth h).patrol = ((s.hearth h).patrol + 1) % 2048) ∧
      (¬ (st = 3 ∨ st = 4) ∨ s.od 0x3406 1 0 = 0 → exec (.scrubPatrol hh cells) s = .next (cells.foldl (fun s u => s.upsetWord h u) s))) ∧
    (∀ (hh : HearthId) (cc : Nat),
      let h := hh.toNat
      let s' := s.advance h cc
      ((s'.hearth h).inbound = [] → ∀ b, exec (.inboundWrite hh cc b) s = .next s') ∧
      (∀ r rest, (s'.hearth h).inbound = r :: rest → ∀ b : Option FlitFault,
        let u := s'.modHearth h fun x => { x with inbound := rest }
        let at_ (f : FlitFault) : Nat × Nat := ((routeTo r.start h)[f.hop.toNat]?).getD ((routeTo r.start h).getLastD (0, 0))
        let v := match b with
          | none => u
          | some f => ((u.modHearth h (Hearth.poisonFlit r)).bump 0x340A 0 5 1).raiseParity (pathUnit 0 (at_ f).1 6 (at_ f).2) r.step f.word.toNat
        let r' : InRow := if b.isSome then { r with cells := r.cells.map fun c => { c with poison := true } } else r
        let goesOn (w : State) : State := (w.acceptRows h cc (w.hearth h).waiting.length).settleInputs h cc (w.hearth h).step
        (v.inRegion h r.row (some 29) = true →
          exec (.inboundWrite hh cc b) s =
            .next (goesOn (((v.bump (0x3000 + h) 4 6 1).raise { kind := .protect, path := pathUnit 0 h 3 (r.row % 16), detail := r.row,
                                                                step := r.step }).modHearth h fun x =>
              { x with fence := x.fence.map fun g => if r.serial < g.rows then { g with landed := max g.landed cc } else g }))) ∧
        (v.inRegion h r.row (some 29) = false →
          exec (.inboundWrite hh cc b) s = .next (goesOn (v.modHearth h (Hearth.placeInbound r' cc))) ∧
          (∃ n ∈ (Hearth.placeInbound r' cc (v.hearth h)).calendar, n.due = .inbound r' ∧ n.cc % 8 = 6 ∧ cc ≤ n.cc)))) ∧
    (∀ (rq : Requester) (hh : HearthId) (entry : BitVec 3) (v : BitVec 32), Accepted s rq .write (0x3000 + hh.toNat) (0x10 + entry.toNat) (leBytes 4 v.toNat) →
      let v' := v.toNat % 2 ^ 32 - field (v.toNat % 2 ^ 32) 28 27 * 2 ^ 27 - field (v.toNat % 2 ^ 32) 15 15 * 2 ^ 15
      let rs := s.regions hh.toNat entry.toNat v'
      (s.imageState = false → exec (.residentRegionWrite rq hh entry v) s = .next (s.answer rq codeState)) ∧
      (s.imageState = true → disjoint rs = false → exec (.residentRegionWrite rq hh entry v) s = .next (s.answer rq codeRange)) ∧
      (s.imageState = true → disjoint rs = true → (rs.map regionSize).sum ≤ 4096 → (∀ e ∈ rs, regionBase e + regionSize e ≤ 32768) →
        s.loadRows hh.toNat entry.toNat v' ≤ 131072 →
        exec (.residentRegionWrite rq hh entry v) s = .next ((s.setOd (0x3000 + hh.toNat) (0x10 + entry.toNat) 0 v').written rq))) ∧
    (∀ (rq : Requester) (img : List Byte), Accepted s rq .write 0x3407 0 img → s.imageState = true →
      let good := img.length = 64 + 64 * s.loadRows 128 8 0 ∧ leAt img 0 2 = 1 ∧ leAt img 2 2 = s.loadRegions ∧
        leAt img 56 4 = crc32 (img.drop 64) ∧ leAt img 60 4 = crc32 (img.take 60)
      (good → exec (.residentImageWrite rq img) s = .next ((s.setBlob 0x3407 0 img).written rq)) ∧
      (¬ good → exec (.residentImageWrite rq img) s = .next (s.answer rq codeFormat)))

/-- At a part that is not the admitting part, with KVMOVE set: TIER_PAUSE and TIER with action 1 make a HOT context WARM, after which a short pool is relieved, and leave any other; TIER_RESUME of a WARM context without a move makes it HOT and reports it; TIER_DEMOTE of a WARM context without a move starts its move where the CELLAR region has room, else discards and reports it, and leaves one of another tier. TIER_DISCARD frees it, and with it what waits of it; TIER_RENEW and action 5 start a CELLAR timer anew; TIER with action 2 or 4 rebuilds the draft context first. With KVMOVE clear a pause of a HOT context, a resume of a WARM one and a demotion of a WARM one only wait, and the context keeps its tier. WARM_EXPIRY of a timer that has run out counts and demotes where this part and every other has a CELLAR region (the operand tells of the others: the model's choice, log entry 52), else discards; of a context that is on its way already it does nothing; CELLAR_EXPIRY counts and discards; before that neither changes anything. At the admitting part each action first notes the timer and goes to every other part as a notice, but TIER_RENEW changes nothing there where the CELLAR timer ends in this millisecond or earlier, or the context has no timer. Commands that complete here, exec answering a next state with their own effect under hypotheses on state and operands alone: tierPause, tierResume, tierDemote, tierDiscard, tierRenew, warmExpiry, cellarExpiry, tier. -/
def Obligations.TierActionsHere : Prop :=
  ∀ (s : State) (c : BitVec 32),
    let n := c.toNat
    (s.isAdmitting = false →
      (s.enabled 10 = true → ∀ x, s.ctx n = some x →
        (x.tier = .hot → ∀ i ∈ [Instr.tierPause c, .tier c 1], exec i s = .next ((s.setTier n .warm 2).bump 0x5407 0 1 1).relieve) ∧
        (x.tier ≠ .hot → ∀ i ∈ [Instr.tierPause c, .tier c 1], exec i s = .next s) ∧
        (x.tier = .warm → x.move = none →
          exec (.tierResume c) s = .next (((s.setTier n .hot 1).bump 0x5407 0 2 1).tierReport n 0) ∧
          (s.cellarRoom n = true → ∀ i ∈ [Instr.tierDemote c, .tier c 3], exec i s = .next (s.startDemote n)) ∧
          (s.cellarRoom n = false → ∀ i ∈ [Instr.tierDemote c, .tier c 3], exec i s = .next ((s.discardCtx n).tierReport n 2))) ∧
        (x.tier ≠ .warm → ∀ i ∈ [Instr.tierDemote c, .tier c 3], exec i s = .next s)) ∧
      (s.enabled 10 = false → ∀ x, s.ctx n = some x →
        let waits (a : Nat) : State := { s with tierWaits := s.tierWaits ++ [(a, n)] }
        (x.tier = .hot → ∀ i ∈ [Instr.tierPause c, .tier c 1], exec i s = .next (waits 1)) ∧
        (x.tier = .warm → exec (.tierResume c) s = .next (waits 2) ∧ ∀ i ∈ [Instr.tierDemote c, .tier c 3], exec i s = .next (waits 3))) ∧
      (∀ x, s.ctx n = some x → x.tier = .cellar →
        ∀ i ∈ [Instr.tierRenew c, .tier c 5], exec i s = .next (s.modCtx n fun x => { x with since := s.elapsed })) ∧
      (∀ a : Byte, a = 2 ∨ a = 4 → exec (.tier c a) s = .next ((s.rebuild n).tierHere a.toNat n)) ∧
      exec (.tierDiscard c) s = .next ({ s with tierWaits := s.tierWaits.filter fun e => e.2 != n }.discardHere n)) ∧
    (s.isAdmitting = true →
      let told (a : Nat) : State := ((s.noteTier a n).notice 6 a n 0 [] (s.allParts.filter (· != s.endpoint))).tierHere a n
      exec (.tierPause c) s = .next (told 1) ∧ exec (.tierResume c) s = .next (told 2) ∧ exec (.tierDemote c) s = .next (told 3) ∧
      let late : Prop := ∀ x, s.timer n = some x → x.tier = .cellar ∧ (x.since + s.ttl .cellar) / 1000000 ≤ s.elapsed / 1000000
      exec (.tierDiscard c) s = .next (told 4) ∧ (¬ late → exec (.tierRenew c) s = .next (told 5)) ∧ (late → exec (.tierRenew c) s = .next s)) ∧
    (s.expired n .warm = true → ∀ others : Bool,
      let moves := ((s.ctx n).bind (·.move)).isSome = true
      (moves → exec (.warmExpiry ⟨c, others⟩) s = .next s) ∧
      (¬ moves → others = false ∨ s.od 0x5403 0 2 = 0 → exec (.warmExpiry ⟨c, others⟩) s = .next ((s.bump 0x5407 0 5 1).tierAction 4 n)) ∧
      (¬ moves → others = true → s.od 0x5403 0 2 ≠ 0 → exec (.warmExpiry ⟨c, others⟩) s = .next ((s.bump 0x5407 0 5 1).tierAction 3 n))) ∧
    (s.expired n .warm = false → ∀ others, exec (.warmExpiry ⟨c, others⟩) s = .next s) ∧
    (s.expired n .cellar = true → exec (.cellarExpiry c) s = .next ((s.bump 0x5407 0 5 1).tierAction 4 n)) ∧
    (s.expired n .cellar = false → exec (.cellarExpiry c) s = .next s)

/-- TIER_MOVE_COMPLETE with KVMOVE set of a demotion, where every frame of the context has its tags and the reads of its lines leave it: each of its pages is written as a CELLAR slot, in the order of its lists, at its place in the region of the chosen host port; then its frames are free, it is in tier CELLAR with no move and no frame, its timer starts at the admitting part, and a short pool is relieved. For one whose page list is empty this leaves no page of it and the tier CELLAR. A frame of other tags is recorded as TENANT and the context is LOST, which is reported. A read back whose slots fail is a CELLAR failure; one whose slots are all taken back leaves it HOT with no move and no CELLAR bytes, counts and reports it. With KVMOVE clear, without a move, or of an unknown context, nothing changes. DATA_AREA_SIZE_WRITE of a whole number of GiB from 1 to 16, while images may be written, sets the size and drops every context and page, each context that it held counted as discarded; another size is refused with RANGE; while images may not be written any size is refused with STATE. Commands that complete here, exec answering a next state with their own effect under hypotheses on state and operands alone: tierMoveComplete, dataAreaSizeWrite. -/
def Obligations.TierMovesAndDataArea : Prop :=
  ∀ s : State,
    (∀ (c : BitVec 32) (slots : List (List Byte)),
      let n := c.toNat
      (s.enabled 10 = false ∨ s.ctx n = none → exec (.tierMoveComplete c slots) s = .next s) ∧
      (s.enabled 10 = true → ∀ x, s.ctx n = some x →
        (x.move = none → exec (.tierMoveComplete c slots) s = .next s) ∧
        (∀ m, x.move = some m →
          let tagged (f : Nat) : Prop := ∃ p, s.page f = some p ∧ p.ctx = n ∧ p.tenant = x.tenant ∧ p.kvGen = x.kvGen
          let u := x.frameList.foldl (fun s f => (s.readFrame f 0).2) s
          let port : HostPort := if s.od 0x5403 0 0 = 0 then .a else .b
          (m.kind = 1 → m.resume = false → m.discard = false → (∀ f ∈ x.frameList, tagged f) → ∀ y, u.ctx n = some y → y.tier ≠ .lost →
            let written := (u.pagesOfCtx x).zipIdx.foldl (fun s p =>
              s.emit (.hostWrite port (s.od 0x5403 0 1 + x.cellarAt + p.2 * x.slotLen) (p.1.slotOut (x.slotLen == 6208)))) u
            exec (.tierMoveComplete c slots) s =
              .next ((((((written.freeFrames n).setTier n .cellar 3).bump 0x5407 0 3 1).reachTier n .cellar).modCtx n fun x =>
                { x with move := none, lists := x.lists.map fun l => { l with frames := [] } }).relieve)) ∧
          (m.kind = 1 → m.resume = false → m.discard = false → x.lists = [] → x.tier ≠ .lost →
            Completes (.tierMoveComplete c slots) s fun t =>
              t.pending = s.pending ∧ (∃ y, t.ctx n = some y ∧ y.tier = .cellar ∧ y.move = none ∧ y.cellarAt = x.cellarAt) ∧
              ∀ f p, t.page f = some p → p.ctx ≠ n) ∧
          (∀ f rest, m.kind = 1 → x.frameList = f :: rest → ¬ tagged f →
            let v := ((s.bump 0x5408 0 4 1).raise { kind := .tenant, path := pathUnit (1 + s.frameDie f) 127 0 0, detail := x.tenant }).loseCtx n
            ∀ y, v.ctx n = some y → y.tier = .lost → exec (.tierMoveComplete c slots) s = .next (v.tierReport n 1).relieve) ∧
          (m.kind ≠ 1 → (s.restorePages n slots).1 = false →
            exec (.tierMoveComplete c slots) s = .next ((s.restorePages n slots).2.cellarFailure n)) ∧
          (m.kind ≠ 1 → (s.restorePages n slots).1 = true →
            let v := (((s.restorePages n slots).2.setTier n .hot 1).bump 0x5407 0 4 1).bump 0x5407 0 2 1
            exec (.tierMoveComplete c slots) s =
              .next ((v.modCtx n fun x => { x with move := none, cellar := 0, cellarAt := 0, slotLen := 0, used := v.elapsed }).tierReport n 0).relieve)))) ∧
    (∀ (rq : Requester) (mib : BitVec 32), Accepted s rq .write 0x5401 0 (leBytes 4 mib.toNat) →
      (s.imageState = true → 1024 ≤ mib.toNat → mib.toNat ≤ 16384 → mib.toNat % 1024 = 0 →
        exec (.dataAreaSizeWrite rq mib) s = .next ((({ s with ctxs := [], pages := [] }.bump 0x5407 0 6 s.ctxCount).setOd 0x5401 0 0 mib.toNat).written rq)) ∧
      (s.imageState = true → mib.toNat < 1024 ∨ 16384 < mib.toNat ∨ mib.toNat % 1024 ≠ 0 →
        exec (.dataAreaSizeWrite rq mib) s = .next (s.answer rq codeRange)) ∧
      (s.imageState = false → exec (.dataAreaSizeWrite rq mib) s = .next (s.answer rq codeState)))

/-- ATTENTION_START takes the oldest request of a gang that has not started, once the stokers have fetched what is due of the gang's die: the request is marked started, and four rows for each of its output rows, from its first output row on, go to the hearth's inbound queue where the run of the step that asked still stands there (else they are discarded), and a short pool is relieved; where the context's tenant, generation or tier is not the request's, or a request that goes on from tokens names a context that the part does not hold, every lane is poisoned. A request that came with a parity error is discarded, counted, and recorded at the router of its way that found the error. With a started request at the head, or none, nothing more changes. ATTENTION_COMPLETE of the started request whose rows the hearth has accepted takes it from the queue, keeps the longest latency, counts an overrun beyond its bound, and sets its flag; before that the engines are only brought to the cycle; where the run no longer stands the request only leaves. STACK_SCRUB of a line that holds its data changes nothing but the pass count at the last line; a correctable one is counted, recorded and written back; an uncorrectable one, not yet poison, is found. Errors that its operands tell of arise in their lines first (the model's choice, log entry 195). Commands that complete here, exec answering a next state with their own effect under hypotheses on state and operands alone: attentionStart, attentionComplete, stackScrub. -/
def Obligations.AttentionRequestsAreServed : Prop :=
  ∀ s : State,
    (∀ (die : BitVec 1) (gang : BitVec 2) (r : AttnReq) (rest : List AttnReq),
      let s' := s.reachAttn die.toNat
      s'.attnQueue.filter (AttnReq.ofGang die.toNat gang.toNat) = r :: rest →
      let d := attnDesc r.request
      (r.started = true → ∀ u b, exec (.attentionStart die gang ⟨u, b⟩) s = .next s') ∧
      (r.started = false → ∀ (u : Option Upset) (f : FlitFault),
        let way := routeOut r.hearth (stackEdge r.die)
        let at_ : Nat × Nat := (way[f.hop.toNat]?).getD (way.getLastD (0, 0))
        exec (.attentionStart die gang ⟨u, some f⟩) s =
          .next (({ s' with attnQueue := s'.attnQueue.erase r }.bump 0x340A 0 5 1).raiseParity (pathUnit 0 at_.1 6 at_.2) r.step f.word.toNat)) ∧
      (r.started = false → s'.isShadow r.step = false →
        ∃ (rows : List (List VCell)) (v : State),
          rows.length = d.rows ∧ (∀ l ∈ rows, l.length = 128) ∧ v.pending = s.pending ∧
          v.attnQueue = s'.attnQueue.map (fun e => if e = r then { e with started := true } else e) ∧
          (s'.attnMismatch d = true → (s'.ctx d.ctx).isSome = true ∨ d.first ≠ 0 → ∀ l ∈ rows, ∀ c ∈ l, c.poison = true) ∧
          (v.attnLives r = true → exec (.attentionStart die gang ⟨none, none⟩) s =
            .next (v.sendRows r.hearth (v.hearth r.hearth).now (d.outRows (gangSource die.toNat gang.toNat) r.step rows)).relieve) ∧
          (v.attnLives r = false → exec (.attentionStart die gang ⟨none, none⟩) s = .next v.relieve))) ∧
    (∀ (die : BitVec 1) (gang : BitVec 2), (s.reachAttn die.toNat).attnQueue.filter (AttnReq.ofGang die.toNat gang.toNat) = [] →
      ∀ u b, exec (.attentionStart die gang ⟨u, b⟩) s = .next (s.reachAttn die.toNat)) ∧
    (∀ (die : BitVec 1) (gang : BitVec 2) (ns : BitVec 32) (cc : Nat) (r : AttnReq),
      (s.attnQueue.find? fun r => r.ofGang die.toNat gang.toNat && r.started) = some r →
      let taken (u : State) : State :=
        let v := { u with attnQueue := u.attnQueue.erase r }.setOd 0x5408 0 3 (max (u.od 0x5408 0 3) ns.toNat)
        if r.bound < ns.toNat * 134400 then v.bump 0x5408 0 2 1 else v
      (s.attnLives r = true →
        let u := s.advance r.hearth cc
        ((u.hearth r.hearth).accepted (gangSource die.toNat gang.toNat) = false → exec (.attentionComplete die gang ns cc) s = .next u) ∧
        ((u.hearth r.hearth).accepted (gangSource die.toNat gang.toNat) = true →
          exec (.attentionComplete die gang ns cc) s = .next ((taken u).setFlag r.hearth r.event cc))) ∧
      (s.attnLives r = false → exec (.attentionComplete die gang ns cc) s = .next (taken s))) ∧
    (∀ (line : BitVec 32) (found : ReadState) (others : List (BitVec 32 × ReadState)),
      let n := line.toNat
      let u := others.foldl (fun s e => s.upsetLine e.1.toNat e.2) s
      let v := u.upsetLine n found
      let pass (t : State) : State := if n % 2 ^ 31 = 2 ^ 31 - 1 then t.bump 0x5408 0 9 1 else t
      v.stackLine.get 0 n = (match found with
        | .clean => u.stackLine.get 0 n
        | .corrected => if u.stackLine.get 0 n = 0 then 3 else u.stackLine.get 0 n
        | .uncorrectable => if u.stackLine.get 0 n = 2 then 2 else 1) ∧
      (v.stackLine.get 0 n ≠ 1 → v.stackLine.get 0 n ≠ 3 → exec (.stackScrub line ⟨found, others⟩) s = .next (pass v)) ∧
      (v.stackLine.get 0 n = 3 →
        let w := (v.bump 0x5408 0 6 1).raise { kind := .corrected, path := pathUnit (1 + n / 2 ^ 31) 127 0 0, detail := 1 }
        exec (.stackScrub line ⟨found, others⟩) s = .next (pass { w with stackLine := v.stackLine.put 0 n 0 })) ∧
      (v.stackLine.get 0 n = 1 → exec (.stackScrub line ⟨found, others⟩) s = .next (pass (v.stackError n 0).relieve)))

/-- CALIBRATION_INTERVAL_EXPIRED of a hearth whose run lies longer ago than the interval, and that neither waits nor runs, makes it due and notes when; a hearth whose run is in progress has the trigger recorded; else nothing changes. CALIBRATION_COVER_GRACE_EXPIRED of a hearth due for the grace or longer raises a CALIBRATION alarm once; else nothing changes. CALIBRATE_MASKED and CALIBRATE_ALL make the masked hearths and all hearths due, or are refused BUSY while a run is in progress. TRIM_UPDATE gives a site the compensation of its hearth, but not while a group converts there. Commands that complete here, exec answering a next state with their own effect under hypotheses on state and operands alone: calibrationIntervalExpired, calibrateMasked, calibrateAll, calibrationCoverGraceExpired, trimUpdate. -/
def Obligations.CalibrationFallsDue : Prop :=
  ∀ s : State,
    (∀ h : HearthId,
      let n := h.toNat
      (s.tooOld n = true → s.calState n ≠ 2 → s.calState n ≠ 3 →
        Completes (.calibrationIntervalExpired h) s fun t => SameBut [] s t ∧ t.calState n = 2 ∧ t.cal n 41 = s.elapsed + 1 ∧ t.cal n 43 = 0) ∧
      (s.tooOld n = true → s.calState n = 3 → exec (.calibrationIntervalExpired h) s = .next (s.setCal n 44 1)) ∧
      (s.tooOld n = true → s.calState n = 2 → exec (.calibrationIntervalExpired h) s = .next s) ∧
      (s.tooOld n = false → exec (.calibrationIntervalExpired h) s = .next s) ∧
      (s.calState n = 2 → s.cal n 43 = 0 → s.cal n 41 + 1000000 * s.od 0x2802 0 0 ≤ s.elapsed →
        exec (.calibrationCoverGraceExpired h) s =
          .next ((s.setCal n 43 1).raise { kind := .calibration, path := pathUnit 0 n 7 0, detail := n, alarm := true })) ∧
      (s.calState n ≠ 2 ∨ s.cal n 43 ≠ 0 ∨ s.elapsed < s.cal n 41 + 1000000 * s.od 0x2802 0 0 →
        exec (.calibrationCoverGraceExpired h) s = .next s)) ∧
    (∀ rq : Requester, Accepted s rq .command 0x2800 1 [1] →
      (s.calRun = none → exec (.calibrateMasked rq) s =
        .next ((((List.range 128).filter (s.mask 0x2800 2)).foldl (fun s h => s.calDue h) s).commanded rq 0x2800 1 [1])) ∧
      (s.calRun ≠ none → exec (.calibrateMasked rq) s = .next (s.answer rq codeBusy))) ∧
    (∀ rq : Requester, Accepted s rq .command 0x2800 1 [2] →
      (s.calRun = none → exec (.calibrateAll rq) s =
        .next (((List.range 128).foldl (fun s h => s.calDue h) s).commanded rq 0x2800 1 [2])) ∧
      (s.calRun ≠ none → exec (.calibrateAll rq) s = .next (s.answer rq codeBusy))) ∧
    (∀ site : SiteId,
      let n := site.toNat
      (s.siteBusy n = false → exec (.trimUpdate site) s = .next { s with compAt := s.compAt.put 0 n (s.compWanted.get 0 (n / 512)) }) ∧
      (s.siteBusy n = true → exec (.trimUpdate site) s = .next s))

/-- CALIBRATION_RUN_START with CALIB enabled, the main side UP, no run in progress and some hearth that may run marks each of them RUNNING and starts their first group; else nothing changes. CALIBRATION_MASTER_DONE, once a run, stores the REXT error; within 2 % it stores the master trim and the trims of the run's hearths; beyond it ends the run, its hearths due again, with a CALIBRATION alarm. CALIBRATION_PHASE_DONE of the group's next phase sets the trims it found in the group's sites, and the last phase the calibration temperature; out of order nothing changes. CALIBRATION_GROUP_DONE after three phases stamps and counts each hearth, and starts the next group, or, with nothing left to run or test, joins again the LOCKSTEP entry that the part has left for it; before that nothing changes. Commands that complete here, exec answering a next state with their own effect under hypotheses on state and operands alone: calibrationRunStart, calibrationMasterDone, calibrationPhaseDone, calibrationGroupDone. -/
def Obligations.CalibrationRunsInPhases : Prop :=
  ∀ s : State,
    (s.enabled 13 = true → s.mainUp = true → s.calRun = none → s.runnable ≠ [] →
      Completes .calibrationRunStart s fun t => t.pending = s.pending ∧
        t.calRun = some { waiting := s.runnable.drop 16, group := s.runnable.take 16, master := false, phase := 0 } ∧
        ∀ h ∈ s.runnable, t.calState h = 3) ∧
    (s.enabled 13 = false ∨ s.mainUp = false ∨ s.calRun ≠ none ∨ s.runnable = [] → exec .calibrationRunStart s = .next s) ∧
    (s.calRun = none → (∀ ppm m l, exec (.calibrationMasterDone ppm m l) s = .next s) ∧ (∀ p l, exec (.calibrationPhaseDone p l) s = .next s) ∧
      exec .calibrationGroupDone s = .next s) ∧
    (∀ r, s.calRun = some r →
      (∀ (ppm : Int) (m : BitVec 32) (l : List (HearthId × BitVec 16)),
        let u := s.setOd 0x2809 0 0 (ofSigned 32 ppm)
        (r.master = true → exec (.calibrationMasterDone ppm m l) s = .next s) ∧
        (r.master = false → ppm.natAbs ≤ 20000 → exec (.calibrationMasterDone ppm m l) s =
          .next { u with calRun := some { r with master := true }, masterTrim := m.toNat,
                         hearthTrim := (l.filter fun e => (r.group ++ r.waiting).contains e.1.toNat).foldl
                           (fun t e => t.put 0 e.1.toNat e.2.toNat) u.hearthTrim }) ∧
        (r.master = false → 20000 < ppm.natAbs → exec (.calibrationMasterDone ppm m l) s =
          .next (((r.group ++ r.waiting).foldl (fun s h => State.setCal h 2 2 s) { u with calRun := none }).calRecord ((r.group ++ r.waiting).headD 0) true))) ∧
      (∀ (p : CalPhase) (l : List TrimFound),
        let mine := l.filter fun f => r.group.contains (f.site.toNat / 512)
        let found := mine.foldl (fun s f => s.takeTrim p f) s
        let ended := if p = .deckRef then r.group.foldl (fun s h => s.setTCal h (s.calTemp h)) found else found
        (r.master = true → r.phase = calOrder p → exec (.calibrationPhaseDone p l) s =
          .next { ended with calRun := some { r with phase := r.phase + 1 } }) ∧
        (r.master = false ∨ r.phase ≠ calOrder p → exec (.calibrationPhaseDone p l) s = .next s)) ∧
      (r.phase = 3 → exec .calibrationGroupDone s =
        .next (let u := ((r.group.foldl (fun s h => ((s.setCal h 1 s.now).bump 0x2805 (h + 1) 3 1).calDone h) s).nextGroup r).endCover
               { u with steep := u.steep.map fun (j : SteepJob) => { j with calFirst := j.calFirst.filter fun h => !r.group.contains h } }.settleSteep)) ∧
      (r.phase ≠ 3 → exec .calibrationGroupDone s = .next s))

/-- CALIBRATION_IMAGE_WRITE: refused STATE while the part is ready and its role is not DRAINED, BUSY while a run, a steep or another image is in progress, FORMAT where length, checksum, layout or serial of the header differ; else the image is held. CALIBRATION_IMAGE_APPLIED takes the held image, its master trim, and every hearth in order: one with a bad checksum, an invalid mark or a steep serial that is not its site's falls due, and its trims stay. With no image held nothing changes. Commands that complete here, exec answering a next state with their own effect under hypotheses on state and operands alone: calibrationImageWrite, calibrationImageApplied. -/
def Obligations.CalibrationImagesRestore : Prop :=
  ∀ s : State,
    (∀ (rq : Requester) (img : List Byte), Accepted s rq .write 0x2808 0 img →
      let e := exec (.calibrationImageWrite rq img) s
      (s.ready = true → s.od 0x4100 1 0 ≠ 3 → e = .next (s.answer rq codeState)) ∧
      (s.ready = false ∨ s.od 0x4100 1 0 = 3 →
        (s.calRun ≠ none ∨ s.steep ≠ none ∨ s.calImage ≠ [] → e = .next (s.answer rq codeBusy)) ∧
        (s.calRun = none → s.steep = none → s.calImage = [] →
          (s.calHeaderGood img = false → e = .next (s.answer rq codeFormat)) ∧
          (s.calHeaderGood img = true → e = .next ({ s with calImage := img }.written rq))))) ∧
    (s.calImage = [] → exec .calibrationImageApplied s = .next s) ∧
    (s.calImage ≠ [] → exec .calibrationImageApplied s =
      .next (((List.range 128).foldl (fun (t : State) h => t.restoreHearth s.calImage h)
        { s with calImage := [], masterTrim := leAt s.calImage 24 4 }).calTriggers)) ∧
    (∀ (img : List Byte) (h : Nat),
      let b := slice (blockAt h) 73760 img
      isSealed (b.take 32) = false ∨ leAt b 2 1 ≠ 1 ∨
        (∃ i < 512, isSealed (slice (32 + 144 * i) 144 b) = false ∨ leAt (slice (32 + 144 * i) 144 b) 138 2 ≠ s.steepSerial (512 * h + i)) →
      s.restoreHearth img h = s.calDue h ∧ (s.calDue h).trims = s.trims)

/-- EVENT_RING_WRITE of an open path and linked port, with a record queued and room in the ring: the record that leaves is the first ALARM, else the oldest; its 32 bytes go to the slot at the write index with the lap's PHASE, the index moves on or the ring wraps and the phase turns, and it is counted sent; a full ring or an empty queue writes nothing; a closed path changes nothing. SIDE_BAND_DATAGRAM sends up to 16 records in that order and takes the charge of 142 + 32n bytes from the bucket, when 16 are queued or one has waited 100 ms and the bucket holds the charge; else only the bucket fills. SOOT_RING_WRITE writes the next record's bytes at the write offset and moves it on by 32; from the last slot it wraps to 4,096 and counts the wrap. Commands that complete here, exec answering a next state with their own effect under hypotheses on state and operands alone: eventRingWrite, sideBandDatagram, sootRingWrite. -/
def Obligations.RecordsLeaveTheChimney : Prop :=
  ∀ s : State,
    (∀ p : HostPort,
      let n := hostNo p
      let r := s.eventRing n
      let size := s.ringSize n
      (s.pathOpen n = false ∨ s.hostLink n = false → exec (.eventRingWrite p) s = .next s) ∧
      (s.pathOpen n = true → s.hostLink n = true →
        (nextRecord (s.pathQ n).queue = none ∨ size ≤ (r.index + size - r.head) % size + 1 → exec (.eventRingWrite p) s = .next (s.signalRing n)) ∧
        (∀ x, nextRecord (s.pathQ n).queue = some x → (r.index + size - r.head) % size + 1 < size →
          let u := ((s.setQueue n ((s.pathQ n).queue.erase x)).countSent n x).emit
            (.hostWrite (hostOf n) (s.od 0x6401 (n + 1) 0 + 32 * r.index) (x.bytes r.phase))
          (r.index + 1 < size → exec (.eventRingWrite p) s =
            .next (((u.setEventRing n { r with index := r.index + 1, unsignalled := true }).bump 0x1200 (n + 1) 8 32).signalRing n)) ∧
          (size ≤ r.index + 1 → exec (.eventRingWrite p) s =
            .next (((u.setEventRing n { r with index := 0, phase := !r.phase, unsignalled := true }).bump 0x1200 (n + 1) 8 32).signalRing n))))) ∧
    (let q := s.path2.queue
     let l := (popRecords 16 q).1
     let u := s.fillSide
     let due := 16 ≤ q.length ∨ (q.any fun r => decide (r.time + 100000000 ≤ s.now)) = true
     (l ≠ [] → due → 8 * (142 + 32 * l.length) ≤ u.sideBits → s.islandRun = 1 → s.pathOpen 2 = true →
       exec .sideBandDatagram s =
         .next (let v := l.foldl (State.countSent 2) (u.setQueue 2 (popRecords 16 q).2)
                { v with sideBits := v.sideBits - 8 * (142 + 32 * l.length) }.emit (.datagram l))) ∧
     (l = [] ∨ ¬ due ∨ u.sideBits < 8 * (142 + 32 * l.length) ∨ s.islandRun ≠ 1 ∨ s.pathOpen 2 = false → exec .sideBandDatagram s = .next u)) ∧
    (s.path3.queue = [] ∨ s.pathOpen 3 = false ∨ s.mainUp = false → exec .sootRingWrite s = .next s) ∧
    (∀ x, nextRecord s.path3.queue = some x → s.pathOpen 3 = true → s.mainUp = true → (4096 < s.sootOffset ∨ s.od 0x6402 0 3 ≠ 0) →
      let u := ((s.setQueue 3 (s.path3.queue.erase x)).countSent 3 x).writeStack (sootBase + s.sootOffset) (x.bytes false)
      (s.sootOffset + 32 < 4096 + 32 * 16777088 → exec .sootRingWrite s = .next (u.setOd 0x6402 0 2 (s.sootOffset + 32))) ∧
      (4096 + 32 * 16777088 ≤ s.sootOffset + 32 → exec .sootRingWrite s = .next ((u.setOd 0x6402 0 2 4096).bump 0x6402 0 3 1)))

/-- SOOT_HEADER_REWRITE writes the header's 64 bytes at the ring's start while the soot path is open and the main side UP, else nothing. SOOT_FREEZE and SOOT_RESUME set and clear the frozen mark and rewrite the header. SOOT_AUTO_RESUME clears it 600 s after the part became ready where the freeze is that of start-up; else nothing changes. ERROR_LOG_CLEAR empties OD 0x6001 and 0x6002 and sets the 64 counters of 0x6003 to zero. Commands that complete here, exec answering a next state with their own effect under hypotheses on state and operands alone: sootHeaderRewrite, sootFreeze, sootResume, sootAutoResume, errorLogClear. -/
def Obligations.SootRingAndLogObey : Prop :=
  ∀ s : State,
    (s.pathOpen 3 = true → s.mainUp = true → exec .sootHeaderRewrite s = .next (s.writeStack sootBase s.sootHeader)) ∧
    (s.pathOpen 3 = false ∨ s.mainUp = false → exec .sootHeaderRewrite s = .next s) ∧
    (∀ rq, Accepted s rq .command 0x6404 0 [1] →
      exec (.sootFreeze rq) s = .next ((((s.setOd 0x6402 0 4 1).setOd 0x6402 0 40 0).rewriteHeader).commanded rq 0x6404 0 [1])) ∧
    (∀ rq, Accepted s rq .command 0x6404 0 [2] →
      exec (.sootResume rq) s = .next ((((s.setOd 0x6402 0 4 0).setOd 0x6402 0 40 0).rewriteHeader).commanded rq 0x6404 0 [2])) ∧
    (s.ready = true → s.od 0x6402 0 40 = 1 → s.readyAt + 600000000000 ≤ s.elapsed →
      exec .sootAutoResume s = .next (((s.setOd 0x6402 0 4 0).setOd 0x6402 0 40 0).rewriteHeader)) ∧
    (s.ready = false ∨ s.od 0x6402 0 40 ≠ 1 ∨ s.elapsed < s.readyAt + 600000000000 → exec .sootAutoResume s = .next s) ∧
    (∀ rq, Accepted s rq .command 0x6004 0 [1] →
      exec (.errorLogClear rq) s =
        .next (((List.range 64).foldl (fun (t : State) k => t.setOd 0x6003 0 k 0) ((s.setBlob 0x6001 0 []).setBlob 0x6002 0 [])).commanded rq 0x6004 0 [1]))

/-- TEST_DUE of an IDLE or FAILED hearth whose interval has passed makes it DUE; TEST_OVERDUE of a DUE or FAILED one past interval and grace makes it OVERDUE with an alarm; before that nothing changes. ROUTINE_TEST_START of a DUE or OVERDUE hearth that may be tested, no deep test being asked for, makes it RUNNING; else nothing changes. DEEP_TEST is refused BUSY while a test of a masked hearth runs, and else asks for the tests of the mask. TEST_COMPLETE of a hearth under test with no finding counts a test, and leaves it IDLE with the pass at this time, and a part that left service under cover for its tests comes back once they are done; with a failure of a phase it leaves it FAILED and counted. UNIT_FENCE of a unit with two RESIDUE or PARITY records in distinct steps within 10 s takes the unit up for the next boundary and clears its records; else nothing changes. Commands that complete here, exec answering a next state with their own effect under hypotheses on state and operands alone: unitFence, testDue, testOverdue, routineTestStart, deepTest, testComplete. -/
def Obligations.TestsFallDueAndEnd : Prop :=
  ∀ s : State,
    (∀ h : HearthId,
      let n := h.toNat
      let past (extra : Nat) : Prop := s.od 0x6102 (n + 1) 0 + (s.od 0x6100 1 0 + extra) * 1000000000 ≤ s.now
      (s.testState n = 0 ∨ s.testState n = 4 → past 0 → exec (.testDue h) s = .next (s.setOd 0x6102 (n + 1) 1 1)) ∧
      (¬ (s.testState n = 0 ∨ s.testState n = 4) ∨ ¬ past 0 → exec (.testDue h) s = .next s) ∧
      (s.testState n = 1 ∨ s.testState n = 4 → past (s.od 0x6100 3 0) →
        exec (.testOverdue h) s = .next ((s.setOd 0x6102 (n + 1) 1 2).raise { kind := .overdue, path := pathUnit 0 n 0 0, detail := n })) ∧
      (¬ (s.testState n = 1 ∨ s.testState n = 4) ∨ ¬ past (s.od 0x6100 3 0) → exec (.testOverdue h) s = .next s) ∧
      (s.deepWanted = [] →
        (s.testState n = 1 ∨ s.testState n = 2 → s.mayTest n = true →
          Completes (.routineTestStart h) s fun t => t.pending = s.pending ∧ t.testing.get 0 n = 1 ∧ t.testState n = 3) ∧
        (¬ (s.testState n = 1 ∨ s.testState n = 2) ∨ s.mayTest n = false → exec (.routineTestStart h) s = .next s)) ∧
      (s.testing.get 0 n = 0 → ∀ l, exec (.testComplete h l) s = .next s) ∧
      (s.testing.get 0 n ≠ 0 → s.deepWanted = [] → s.od 0x6101 0 cmdState ≠ 1 →
        (let u := ({ s with testing := s.testing.put 0 n 0 }.bump 0x6102 (n + 1) 2 1).bump 0x6103 0 0 1
         exec (.testComplete h []) s = .next ((u.setOd 0x6102 (n + 1) 1 0).setOd 0x6102 (n + 1) 0 u.now).endCover) ∧
        (∀ p : BitVec 3, p ≠ 0 → Completes (.testComplete h [.phase p]) s fun t => t.pending = s.pending ∧ t.testing.get 0 n = 0 ∧ t.testState n = 4 ∧
          t.od 0x6102 (n + 1) 0 = s.od 0x6102 (n + 1) 0))) ∧
    (∀ (rq : Requester) (mask : BitVec 128), Accepted s rq .command 0x6101 0 (leBytes 16 mask.toNat) →
      let l := (List.range 128).filter (bit mask.toNat)
      ((∃ h ∈ l, s.testing.get 0 h ≠ 0) → exec (.deepTest rq mask) s = .next (s.answer rq codeBusy)) ∧
      (l ≠ [] → (∀ h ∈ l, s.testing.get 0 h = 0) →
        exec (.deepTest rq mask) s = .next (((s.setOd 0x6101 0 cmdState 1).wantDeep l).commanded rq 0x6101 0 (leBytes 16 mask.toNat)))) ∧
    (∀ unit : BitVec 32,
      let p := unit.toNat
      let l := s.residueLog.get [] p
      ((∃ a ∈ l, ∃ b ∈ l, a.1 ≠ b.1 ∧ a.2 ≤ b.2 ∧ b.2 ≤ a.2 + 10000000000) →
        exec (.unitFence unit) s = .next ({ s with residueLog := s.residueLog.put [] p [] }.fenceSoon p)) ∧
      ((∀ a ∈ l, ∀ b ∈ l, a.1 = b.1 ∨ b.2 < a.2 ∨ a.2 + 10000000000 < b.2) → exec (.unitFence unit) s = .next s))

/-- COVER_POLL at a part that is not the admitting part, or not ready, changes nothing, as with nothing due. At the ready admitting part, with due parts in service of which no one has a twin that can take its place: with no hold standing and none granted in the last 10 s, one hold of the edges that the longest work needs is granted, stamped and counted; else nothing changes. Commands that complete here, exec answering a next state with their own effect under hypotheses on state and operands alone: coverPoll. -/
def Obligations.CoverIsGiven : Prop :=
  ∀ s : State,
    (s.isAdmitting = false ∨ s.ready = false → ∀ l, exec (.coverPoll l) s = .next s) ∧
    exec (.coverPoll []) s = .next s ∧
    (s.isAdmitting = true → s.ready = true → ∀ l : List CoverDue, l ≠ [] →
      (∀ d ∈ l, (d.overdue = true ∨ d.calHearths ≠ 0) ∧ s.coverBy d.endpoint.toNat = none ∧
        ∃ i e, s.entryIndexOf d.endpoint.toNat = some i ∧ s.entryAt i = some e ∧ e.serving.contains d.endpoint.toNat = true) →
      (s.holdFor = none → (∀ t, s.heldAt = some t → t + 10000000000 ≤ s.elapsed) →
        exec (.coverPoll l) s = .next ({ s with holdFor := some (s.holdEdges ((l.map coverNeed).foldl max 0)), heldAt := some s.elapsed }.bump 0x6103 0 3 1)) ∧
      (s.holdFor ≠ none ∨ (∃ t, s.heldAt = some t ∧ s.elapsed < t + 10000000000) → exec (.coverPoll l) s = .next s))

/-- REFERENCE_LOST while the main side is not OFF and the reference is not LOCAL is a main-side reset to its starting state, the reference LOST and a CLOCK record. REFERENCE_STABLE, reset released, no thermal hold, after the stable time: the reference is LOCKED and the island sends the boot stream. A ready part refuses a written reference select with STATE; else 2 and above is RANGE, and a main-side reset applies another. A ceiling outside 1,500 to 3,000 or not a multiple of 125 is RANGE, else the frequency is retargeted: a rise first writes its set point, whose wait of 100 µs then starts the glide; a fall glides at once and writes its set point at the end; a rise within the set point written needs none; a waiting rise turned back to the present frequency writes that one's set point again; a glide under way turns to the new frequency where its set point serves it (the model's reading, log entry 183). PMBUS_RETRY writes it again until it is taken, the first failure with a DAMPER event; PMB_ALERT reads STATUS_WORD and raises a DAMPER event. Spread depth is within its limit, else STATE, and 0 to 10; its rate is 30 to 63. Enables other than bits 1 to 13 read 0; a block in force that a running step's program names stays in force. Commands that complete here, exec answering a next state with their own effect under hypotheses on state and operands alone: referenceLost, referenceStable, referenceSelectWrite, coreFrequencyCeilingWrite, spreadWrite, clockEnableWrite, pmbAlert, pmbusRetry, glideComplete, setPointSettleWait. -/
def Obligations.ReferenceAndFrequencyFollow : Prop :=
  ∀ s : State,
    (s.mainState = 0 ∨ s.od 0x2100 1 0 = 1 → exec .referenceLost s = .next s) ∧
    (s.mainState ≠ 0 → s.od 0x2100 1 0 ≠ 1 → exec .referenceLost s =
      .next (((s.mainSideReset false 4).setOd 0x2100 2 0 2).raiseIsland false { kind := .clock, path := pathDie 5 0, detail := 0 })) ∧
    (s.mainState ≠ 0 → s.seq.released = true → s.thermalHold = false → s.od 0x2100 2 0 ≠ 0 → s.refSince + 1000000 * s.od 0x2100 3 0 ≤ s.elapsed →
      exec .referenceStable s =
        .next ({ s with boot := { s.boot with digest := [], code := [], fails := 0, startAt := s.elapsed } }.setOd 0x2100 2 0 0).sendBoot) ∧
    (s.mainState = 0 ∨ s.seq.released = false ∨ s.thermalHold = true ∨ s.od 0x2100 2 0 = 0 ∨ s.elapsed < s.refSince + 1000000 * s.od 0x2100 3 0 →
      exec .referenceStable s = .next s) ∧
    (∀ (rq : Requester) (v : Byte), Accepted s rq .write 0x2100 1 [v] →
      (s.ready = true → exec (.referenceSelectWrite rq v) s = .next (s.answer rq codeState)) ∧
      (1 < v.toNat → s.ready = false → exec (.referenceSelectWrite rq v) s = .next (s.answer rq codeRange)) ∧
      (v.toNat ≤ 1 → s.ready = false →
        exec (.referenceSelectWrite rq v) s = .next (((s.setOd 0x2100 1 0 v.toNat).mainSideReset false 4).written rq))) ∧
    (∀ (rq : Requester) (m : BitVec 16), Accepted s rq .write 0x2101 1 (leBytes 2 m.toNat) →
      let n := m.toNat
      (n < 1500 ∨ 3000 < n ∨ n % 125 ≠ 0 → exec (.coreFrequencyCeilingWrite rq m) s = .next (s.answer rq codeRange)) ∧
      (1500 ≤ n → n ≤ 3000 → n % 125 = 0 →
        let u := s.setOd 0x2101 1 0 n
        let f := min n (damperMhz (u.od 0x2404 0 0))
        let raised (w : State) : State := { w with setPoint := f, out := w.out ++ [Out.pmbus 0 (boundMv (Config.setPointMv f))] }
        (s.gliding = true → f ≤ s.setPoint → s.setPointAt = none →
          exec (.coreFrequencyCeilingWrite rq m) s = .next ({ u with freqTarget := f }.written rq)) ∧
        (s.gliding = false ∨ s.setPoint < f ∨ s.setPointAt ≠ none →
          (f = s.coreMhz → s.gliding = false → s.setPointAt ≠ none →
            exec (.coreFrequencyCeilingWrite rq m) s = .next ({ raised u with freqTarget := f, setPointAt := none }.written rq)) ∧
          (f = s.coreMhz → s.gliding = true ∨ s.setPointAt = none →
            exec (.coreFrequencyCeilingWrite rq m) s = .next ({ u with freqTarget := f, setPointAt := none, gliding := false }.written rq)) ∧
          (f < s.coreMhz →
            exec (.coreFrequencyCeilingWrite rq m) s = .next ({ u with freqTarget := f, setPointAt := none, gliding := true }.written rq)) ∧
          (s.coreMhz < f → f ≤ s.setPoint → exec (.coreFrequencyCeilingWrite rq m) s =
            .next ((if s.setPointAt = none then { u with freqTarget := f, gliding := true } else u).written rq)) ∧
          (s.coreMhz < f → s.setPoint < f → s.pmbusFailed = false → exec (.coreFrequencyCeilingWrite rq m) s =
            .next ({ raised u with setPointAt := some s.elapsed }.written rq)) ∧
          (s.coreMhz < f → s.setPoint < f → s.pmbusFailed = true → exec (.coreFrequencyCeilingWrite rq m) s = .next (u.written rq))))) ∧
    (∀ t, s.setPointAt = some t → s.pmbusFailed = false → t + 100000 ≤ s.elapsed →
      exec .setPointSettleWait s = .next { s with freqTarget := min s.setPoint s.targetMhz, setPointAt := none, gliding := true }) ∧
    (s.setPointAt = none ∨ s.pmbusFailed = true ∨ (∃ t, s.setPointAt = some t ∧ s.elapsed < t + 100000) → exec .setPointSettleWait s = .next s) ∧
    (s.gliding = false → exec .glideComplete s = .next s) ∧
    (s.gliding = true →
      let u := { s with coreMhz := s.freqTarget, gliding := false }
      (s.freqTarget < s.setPoint → s.setPointAt = none → exec .glideComplete s = .next (u.writeSetPoint s.freqTarget).retarget) ∧
      (s.setPoint ≤ s.freqTarget ∨ s.setPointAt ≠ none → exec .glideComplete s = .next u.retarget)) ∧
    (s.pmbusFailed = true →
      let t := if s.coreMhz < s.targetMhz then s.targetMhz else s.coreMhz
      let u := s.emit (.pmbus 0 (boundMv (Config.setPointMv t)))
      exec (.pmbusRetry false) s = .next { u with setPointAt := none } ∧
      exec (.pmbusRetry true) s = .next { u with pmbusFailed := false, setPoint := t, setPointAt := if s.coreMhz < t then some s.elapsed else none }) ∧
    (s.pmbusFailed = false →
      let u := s.damperEvent.emit (.pmbus 0 (boundMv (Config.setPointMv (if s.coreMhz < s.targetMhz then s.targetMhz else s.coreMhz))))
      exec (.pmbusRetry false) s = .next { u with pmbusFailed := true, setPointAt := none }) ∧
    (s.mainState = 0 → exec .pmbAlert s = .next s) ∧
    (s.mainState ≠ 0 → exec .pmbAlert s = .next (s.emit (.pmbus 0x79 0)).damperEvent) ∧
    (∀ (rq : Requester) (v : Byte), Accepted s rq .write 0x2102 1 [v] →
      (10 < v.toNat → v.toNat ≤ s.od 0x2103 0 0 → exec (.spreadWrite rq false v) s = .next (s.answer rq codeRange)) ∧
      (s.od 0x2103 0 0 < v.toNat → exec (.spreadWrite rq false v) s = .next (s.answer rq codeState)) ∧
      (v.toNat ≤ 10 → v.toNat ≤ s.od 0x2103 0 0 → exec (.spreadWrite rq false v) s = .next ((s.setOd 0x2102 1 0 v.toNat).written rq))) ∧
    (∀ (rq : Requester) (v : Byte), Accepted s rq .write 0x2102 2 [v] →
      (v.toNat < 30 ∨ 63 < v.toNat → exec (.spreadWrite rq true v) s = .next (s.answer rq codeRange)) ∧
      (30 ≤ v.toNat → v.toNat ≤ 63 → exec (.spreadWrite rq true v) s = .next ((s.setOd 0x2102 2 0 v.toNat).written rq))) ∧
    (∀ (rq : Requester) (v : BitVec 32), Accepted s rq .write 0x2120 0 (leBytes 4 v.toNat) → s.onlyLive = false →
      let w := Nat.land v.toNat 0x3FFE
      let used := if s.programLoaded then s.headerAt 32 4 else 0
      exec (.clockEnableWrite rq v) s = .next (((s.holdBlocks w used).setOd 0x2120 0 0 w).resumeMoves.written rq) ∧
      (s.stepRunning = true → ∀ b, 1 ≤ b → b < 14 → bit used b = true → s.enabled b = true → ((s.holdBlocks w used).setOd 0x2120 0 0 w).enabled b = true))

/-- PTP with its unit enabled on a rack reference and the PTP port UP sends a delay request and notes the offset, LOCKED within 20 ns: up to 1,000 ns it is slewed; a larger one is slewed with a CLOCK alarm at a ready part, else rack time is stepped by it. PTP_HOLDOVER 8 s after the last Sync, with the servo LOCKED or not, shows holdover, with nothing slewed. A part in LOCAL takes no edge from outside and makes its own by the written period. The first CADENCE_EDGE starts the grid; the second within 100 to 65,535 tk gives its period; one at the predicted tick is counted and ends a run of misses; CADENCE_EDGE_MISSING at the predicted tick counts a miss and generates the edge. CADENCE_LOST at the limit of misses sets LOST with an alarm. HOLD_N_PULSE while stuck, or while this part has driven it for a tick, changes nothing; of the upstream board partner it is a slip of the next step; any other is counted. HOLD_N_STUCK sets the stuck mark with an alarm, HOLD_N_STUCK_CLEARED clears it. Commands that complete here, exec answering a next state with their own effect under hypotheses on state and operands alone: ptp, ptpHoldover, cadenceEdge, cadenceEdgeMissing, cadenceLost, holdNPulse, holdNStuck, holdNStuckCleared. -/
def Obligations.TimeEdgesAndHoldAreKept : Prop :=
  ∀ s : State,
    (∀ o : Int,
      (s.enabled 4 = false ∨ s.od 0x2100 1 0 = 1 ∨ s.mainState = 0 ∨ s.portUp s.ptpPort = false → exec (.ptp o) s = .next s) ∧
      (s.enabled 4 = true → s.od 0x2100 1 0 ≠ 1 → s.mainState ≠ 0 → s.portUp s.ptpPort = true →
        let d := s.delayRequest
        let u := ({ d with ptpAt := d.elapsed }.setOd 0x2110 4 0 (ofSigned 32 o)).setOd 0x2110 2 0 (if o.natAbs ≤ 20 then 1 else 0)
        let alarm : Raise := { kind := .clock, path := pathDie 0 0, detail := 1 }
        (o.natAbs ≤ 1000 → exec (.ptp o) s = .next { u with slew := -o }) ∧
        (1000 < o.natAbs → s.ready = true → exec (.ptp o) s = .next ({ u with slew := -o }.raise alarm)) ∧
        (1000 < o.natAbs → s.ready = false →
          exec (.ptp o) s = .next ({ u with slew := 0, rackTime := s.rackTime + BitVec.ofNat 64 (ofSigned 64 (-o)) }.raise alarm)))) ∧
    (s.mainState ≠ 0 → s.od 0x2110 2 0 ≠ 2 → s.ptpAt + 8000000000 ≤ s.elapsed → exec .ptpHoldover s = .next { s.setOd 0x2110 2 0 2 with slew := 0 }) ∧
    (s.mainState = 0 ∨ s.od 0x2110 2 0 = 2 ∨ s.elapsed < s.ptpAt + 8000000000 → exec .ptpHoldover s = .next s) ∧
    (s.mainState = 0 → exec .cadenceEdge s = .next s ∧ exec .cadenceEdgeMissing s = .next s) ∧
    (s.od 0x2100 1 0 = 1 → exec .cadenceEdge s = .next s ∧
      (s.mainState ≠ 0 → s.od 0x2200 2 0 ≠ 0 →
        (s.edges = [] → exec .cadenceEdgeMissing s = .next (((s.setOd 0x2200 1 0 (s.od 0x2200 2 0)).bump 0x2204 0 0 1).atEdge s.tick)) ∧
        (∀ t, s.lastEdge = some t →
          (t + s.od 0x2200 2 0 ≤ s.tick → exec .cadenceEdgeMissing s =
            .next (((s.setOd 0x2200 1 0 (s.od 0x2200 2 0)).bump 0x2204 0 0 1).atEdge (t + s.od 0x2200 2 0))) ∧
          (s.tick < t + s.od 0x2200 2 0 → exec .cadenceEdgeMissing s = .next s)))) ∧
    (s.mainState ≠ 0 → s.od 0x2100 1 0 ≠ 1 →
      (s.edges = [] → exec .cadenceEdge s = .next ((s.bump 0x2204 0 0 1).atEdge s.tick)) ∧
      (∀ t, s.lastEdge = some t →
        (s.od 0x2200 1 0 = 0 → 100 ≤ s.tick - t → s.tick - t ≤ 65535 →
          exec .cadenceEdge s = .next (((s.setOd 0x2200 1 0 (s.tick - t)).bump 0x2204 0 0 1).atEdge s.tick)) ∧
        (s.od 0x2200 1 0 = 0 → s.tick - t < 100 ∨ 65535 < s.tick - t → exec .cadenceEdge s = .next (s.bump 0x2204 0 2 1)) ∧
        (s.od 0x2200 1 0 ≠ 0 → s.tick = t + s.od 0x2200 1 0 →
          exec .cadenceEdge s = .next (({ s with grid := [], missed := 0 }.goodEdge.bump 0x2204 0 0 1).atEdge s.tick)) ∧
        (s.od 0x2200 1 0 ≠ 0 → s.tick ≠ t + s.od 0x2200 1 0 → exec .cadenceEdge s = .next s.offGrid) ∧
        (s.od 0x2200 1 0 ≠ 0 → t + s.od 0x2200 1 0 ≤ s.tick →
          exec .cadenceEdgeMissing s =
            .next (({ s with missed := s.missed + 1, goodEdges := 0 }.bump 0x2204 0 1 1).atEdge (t + s.od 0x2200 1 0))) ∧
        (s.od 0x2200 1 0 = 0 ∨ s.tick < t + s.od 0x2200 1 0 → exec .cadenceEdgeMissing s = .next s))) ∧
    (s.cadenceLost = false → s.od 0x2202 0 0 ≤ s.missed → exec .cadenceLost s = .next ({ s with cadenceLost := true, goodEdges := 0 }.clockAlarm 2)) ∧
    (s.cadenceLost = true ∨ s.missed < s.od 0x2202 0 0 → exec .cadenceLost s = .next s) ∧
    (s.holdStuck = true ∨ s.tick < s.holdUntil ∧ s.tick + 2 ≠ s.holdUntil → exec .holdNPulse s = .next s) ∧
    (s.holdStuck = false → s.holdUntil ≤ s.tick ∨ s.tick + 2 = s.holdUntil →
      (s.precedes s.partner = true → s.twin ≠ some s.partner → exec .holdNPulse s = .next { s with partnerSlips := s.partnerSlips + 1 }) ∧
      (s.precedes s.partner = false ∨ s.twin = some s.partner → exec .holdNPulse s = .next (s.bump 0x2204 0 6 1))) ∧
    (s.holdStuck = false → exec .holdNStuck s = .next ({ s with holdStuck := true }.clockAlarm 3)) ∧
    (s.holdStuck = true → exec .holdNStuck s = .next s) ∧
    exec .holdNStuckCleared s = .next { s with holdStuck := false }

/-- STAGE_LAUNCH of a step whose tick has not come changes nothing; of a due one that may not launch, it slips by one, or at the slip limit is given up, as STEP_ABANDON does; one whose count is past the limit is given up by either; of a due one that may launch it is a generation fault where its generation is not the stage's, and else, with an entry point, every hearth of the kindle set runs it from that word with fresh flags and registers. KINDLE, not before its lead, makes every BANKED hearth of the kindle set KINDLING, but for one that is being taken OFF and while a calibration image waits, and ends their tests. KINDLE_COMPLETE at the end of the ramp makes it HOT or DAMPED. HEARTH_BANK of a HOT hearth with nothing to run or to do writes its last rows and makes it BANKED, free again in 40 tk. OUT_OF_SERVICE takes a hearth OFF at the boundary, RETURN_TO_SERVICE makes an OFF one BANKED, which can be kindled 1 ms later. Commands that complete here, exec answering a next state with their own effect under hypotheses on state and operands alone: stageLaunch, stepAbandon, kindle, kindleComplete, hearthBank, outOfService, returnToService. -/
def Obligations.StepsLaunchAndHearthsKindle : Prop :=
  ∀ s : State,
    (∀ step : BitVec 64,
      let id := step.toNat
      let u := s.settleEdge id
      let r := u.stepRec id
      (u.dueLaunch id = false → exec (.stageLaunch step) s = .next u) ∧
      (u.dueLaunch id = true → u.od 0x2203 0 0 < r.k → exec (.stageLaunch step) s = .next (u.giveUp id)) ∧
      (u.dueLaunch id = true → u.mayLaunch r = false →
        (u.od 0x2203 0 0 ≤ r.k → exec (.stageLaunch step) s = .next (u.giveUp id)) ∧
        (r.k < u.od 0x2203 0 0 → exec (.stageLaunch step) s = .next (u.originateSlip id false))) ∧
      (u.dueLaunch id = true → u.mayLaunch r = true → r.k ≤ u.od 0x2203 0 0 → u.checksGen = true → passes r.gen r.kvGen (u.od 0x5003 0 0) (u.od 0x5003 0 1) = false →
        exec (.stageLaunch step) s = .next (u.generationFault id)) ∧
      (u.dueLaunch id = true → u.mayLaunch r = true → r.k ≤ u.od 0x2203 0 0 → (u.checksGen = false ∨ passes r.gen r.kvGen (u.od 0x5003 0 0) (u.od 0x5003 0 1) = true) →
        u.headerAt (40 + 2 * (r.variant % 8)) 2 ≠ 0 → r.inputs = [] →
        Completes (.stageLaunch step) s fun t => t.pending = s.pending ∧ t.driveArmed = true ∧
          (t.stepRec id).phase = .running ∧ (t.stepRec id).launched = some u.tick ∧
          ∀ h ∈ u.kindleHearths, (t.hearth h).phase = .running ∧ (t.hearth h).step = id ∧ (t.hearth h).pc = u.headerAt (40 + 2 * (r.variant % 8)) 2 ∧
            (t.hearth h).flags = [] ∧ (t.hearth h).g = [] ∧ (t.hearth h).v = (s.hearth h).v) ∧
      (let r := s.stepRec id
       (s.dueLaunch id = true → s.mayLaunch r = false → s.od 0x2203 0 0 ≤ r.k → exec (.stepAbandon step) s = .next (s.giveUp id)) ∧
       ((s.steps.get none id).isSome = true → r.phase = .waiting → s.od 0x2203 0 0 < r.k → exec (.stepAbandon step) s = .next (s.giveUp id)) ∧
       ((s.dueLaunch id = false ∨ s.mayLaunch r = true) ∧ r.k ≤ s.od 0x2203 0 0 ∨ r.k < s.od 0x2203 0 0 →
         exec (.stepAbandon step) s = .next s)) ∧
      (u.runsSteps = false → exec (.kindle step) s = .next u) ∧
      (u.runsSteps = true → (r.known = true → u.launchTick r ≤ u.tick + u.od 0x2001 0 0) →
        (r.hdr = none → r.known = true → u.launchTick r + 50 * s.partnerSlips ≤ u.tick + u.od 0x2001 0 0) →
        Completes (.kindle step) s fun t => t.pending = s.pending ∧
          (∀ h ∈ s.kindleHearths, t.testing.get 0 h = 0 ∧
            (s.power h = 1 → t.power h = if s.calImage = [] ∧ ¬ (s.offPending.any fun e => e.1 == h) = true then 2 else 1)) ∧
          ∀ h < 128, h ∉ s.kindleHearths → t.power h = s.power h)) ∧
    (∀ hh : HearthId,
      let h := hh.toNat
      let x := s.hearth h
      (s.power h = 2 → x.kindleAt ≤ s.tick →
        exec (.kindleComplete hh) s = .next (s.setOd (0x3000 + h) 1 0 (if s.od 0x2404 0 0 = 0 then 3 else 4))) ∧
      (s.power h ≠ 2 ∨ s.tick < x.kindleAt → exec (.kindleComplete hh) s = .next s) ∧
      (s.hot h = true → x.phase = .idle ∨ x.phase = .halted ∨ x.phase = .faulted → s.wantedSoon h = false → s.workHolds h = false →
        let u := s.settleRows h
        exec (.hearthBank hh) s =
          .next (if u.power h = 0 then u else (u.setOd (0x3000 + h) 1 0 1).modHearth h fun _ =>
            { Hearth.fresh with bankedAt := u.tick + 40, kindleAt := x.kindleAt, patrol := x.patrol, inbound := x.inbound, waiting := x.waiting })) ∧
      (s.hot h = false ∨ x.phase = .running ∨ s.wantedSoon h = true ∨ s.workHolds h = true → exec (.hearthBank hh) s = .next s)) ∧
    (∀ (rq : Requester) (hh : HearthId), Accepted s rq .command (0x3000 + hh.toNat) 2 [1] →
      let h := hh.toNat
      (s.onlyLive = true → bit s.kindleSet h = true → exec (.outOfService rq hh) s = .next (s.answer rq onlyCopy)) ∧
      (s.onlyLive = false ∨ bit s.kindleSet h = false → s.power h ≠ 0 →
        exec (.outOfService rq hh) s = .next ((s.takeOff h false).commanded rq (0x3000 + h) 2 [1]))) ∧
    (∀ (rq : Requester) (hh : HearthId), Accepted s rq .command (0x3000 + hh.toNat) 2 [2] →
      let h := hh.toNat
      (s.power h = 0 → exec (.returnToService rq hh) s =
        .next ((((s.setOd (0x3000 + h) 1 0 1).modHearth h fun x => { x with bankedAt := s.tick + 100000 }).loadResident h).commanded rq (0x3000 + h) 2 [2])) ∧
      (s.power h ≠ 0 → exec (.returnToService rq hh) s = .next (s.commanded rq (0x3000 + h) 2 [2])))

/-- HOUSEKEEPING_CONVERSION of a running converter and a channel of Table 19-2 stores code with VALID and OVR as the channel's latest result; else nothing changes; while an injected sequence runs and has conversions left on the converter, it is one of that sequence. DROOP_TRIGGER and DRIVE_EVENT_TRIGGER, the latter once a launch, start an injected sequence where enabled, none runs and the main side is not OFF; a second is discarded. INJECTED_SAMPLE of a sequence that has not sampled stores the first channel of each running converter's list and notes what each has left. HOUSEKEEPING_ROUND, 250 µs after the last or 1 ms at the low rate, counts a round; the first ends none; the low rate holds from its start where OD 0x2504 asks for it and every hearth is BANKED or OFF. DAMPER_STEP_UP 5 ms after the last test, and DAMPER_GRACE_END once after the grace, raise C by one, at most to 7, where the power or the hottest sensor asks for it; DAMPER_STEP_DOWN 50 ms after the last change or test lowers it by one where hottest and power have fallen; else only the time of the test is kept. Commands that complete here, exec answering a next state with their own effect under hypotheses on state and operands alone: housekeepingRound, housekeepingConversion, droopTrigger, driveEventTrigger, injectedSample, damperGraceEnd, damperStepUp, damperStepDown. -/
def Obligations.HousekeepingAndDamper : Prop :=
  ∀ s : State,
    (∀ (conv : BitVec 2) (chan : Byte) (code : BitVec 12) (ovr : Bool),
      let c := conv.toNat
      let word := flagNat ovr * 32768 + 16384 + code.toNat
      (s.converterRuns c = false ∨ channelKnown chan.toNat = false ∨ s.mainState = 0 → exec (.housekeepingConversion conv chan code ovr) s = .next s) ∧
      (s.converterRuns c = true → channelKnown chan.toNat = true → s.mainState ≠ 0 →
        (s.injected = none → exec (.housekeepingConversion conv chan code ovr) s = .next (s.storeResult c 0 chan.toNat code.toNat ovr)) ∧
        (∀ j : Injected, s.injected = some j →
          (j.left.getD c 0 = 0 → exec (.housekeepingConversion conv chan code ovr) s = .next (s.storeResult c 0 chan.toNat code.toNat ovr)) ∧
          (∀ n, j.left.getD c 0 = n + 1 →
            let left := j.left.set c n
            exec (.housekeepingConversion conv chan code ovr) s =
              .next ({ s with injected := if left.all (· == 0) then none else some { j with left := left } }.storeResult c j.kind chan.toNat code.toNat ovr)))) ∧
      (s.converterRuns c = true → channelKnown chan.toNat = true → s.mainState ≠ 0 → s.injected = none → 139 < chan.toNat →
        Completes (.housekeepingConversion conv chan code ovr) s fun t => t.pending = s.pending ∧ t.hkLatest.get 0 chan.toNat = word ∧
          (∀ k, k ≠ chan.toNat → t.hkLatest.get 0 k = s.hkLatest.get 0 k) ∧ t.sensorUse = s.sensorUse) ∧
      (s.converterRuns c = true → chan.toNat ≤ 139 → s.mainState ≠ 0 → s.injected = none → s.broken chan.toNat = false → ovr = false →
        704 ≤ code.toNat → code.toNat ≤ 3184 → (code.toNat : Int) - 1024 < (16 * s.od 0x2403 0 0 : Nat) →
        Completes (.housekeepingConversion conv chan code ovr) s fun t => t.pending = s.pending ∧ t.hkLatest.get 0 chan.toNat = word ∧
          t.sensor chan.toNat = (code.toNat : Int) - 1024 ∧ (∀ k, k ≠ chan.toNat → t.sensor k = s.sensor k))) ∧
    (let begins (k : Nat) (u : State) : State := { u with injected := some { kind := k, left := [] } }.bump 0x2506 0 1 1
     (s.inForce 0x2502 0 0 = 1 → s.injected = none → s.mainState ≠ 0 → exec .droopTrigger s = .next (begins 1 s)) ∧
     (s.inForce 0x2502 0 0 ≠ 1 ∨ s.injected ≠ none ∨ s.mainState = 0 → exec .droopTrigger s = .next s) ∧
     (s.driveArmed = false → exec .driveEventTrigger s = .next s) ∧
     (s.driveArmed = true → s.inForce 0x2502 0 1 = 1 → s.injected = none → s.mainState ≠ 0 →
       exec .driveEventTrigger s = .next (begins 2 { s with driveArmed := false })) ∧
     (s.driveArmed = true → s.inForce 0x2502 0 1 ≠ 1 ∨ s.injected ≠ none ∨ s.mainState = 0 →
       exec .driveEventTrigger s = .next { s with driveArmed := false })) ∧
    (∀ codes, s.injected = none ∨ (∃ j, s.injected = some j ∧ j.left ≠ []) → exec (.injectedSample codes) s = .next s) ∧
    (∀ (j : Injected) (codes : List (BitVec 12 × Bool)), s.injected = some j → j.left = [] →
      let lists := (List.range 4).map fun c => if s.converterRuns c then channelsOf (seqEntries s.injectedNow 8 c) else []
      let left := lists.map fun l => l.length - 1
      exec (.injectedSample codes) s =
        .next ((codes.zip (lists.map List.head?)).zipIdx.foldl (fun u e => match e.1.2 with
          | some chan => u.storeResult e.2 j.kind chan e.1.1.1.toNat e.1.1.2
          | none => u) { s with injected := if left.all (· == 0) then none else some { j with left := left } })) ∧
    (let interval := if s.hkSlow = true then 1000000 else 250000
     (s.mainState = 0 → exec .housekeepingRound s = .next s) ∧
     (s.od 0x2506 0 0 ≠ 0 → s.elapsed < s.roundAt + interval → exec .housekeepingRound s = .next s) ∧
     (s.mainState ≠ 0 → s.od 0x2506 0 0 = 0 ∨ s.roundAt + interval ≤ s.elapsed →
      let u := if s.od 0x2506 0 0 = 0 then s else s.endRound
      Completes .housekeepingRound s fun t => t.pending = s.pending ∧ t.roundAt = u.elapsed ∧ t.od 0x2506 0 0 = min (u.od 0x2506 0 0 + 1) (2 ^ 64 - 1) ∧
        t.hkBuffer = (u.od 0x2503 0 0, u.od 0x2503 0 1) ∧ t.sensorUse = u.sensorUse ∧ t.damperLevel = s.damperLevel ∧
        (t.hkSlow = true ↔ u.od 0x2504 0 0 = 1 ∧ ∀ h < 128, u.power h ≤ 1))) ∧
    (let hot (t : Nat) : Prop := ∃ since, s.slowDown = some since ∧ since + 1000000 * s.od 0x2402 0 0 ≤ t ∧ s.treq ≤ s.hottest.2
     let raised := { s with damperTest := s.elapsed, damperLevel := min 7 (s.damperLevel + 1), damperAt := s.elapsed }.settleDamper
     (s.damperTest + 5000000 ≤ s.elapsed → s.mainUp = true →
       (hot s.elapsed ∨ s.overPower = true → exec .damperStepUp s = .next raised) ∧
       (¬ hot s.elapsed → s.overPower = false → exec .damperStepUp s = .next { s with damperTest := s.elapsed })) ∧
     (s.elapsed < s.damperTest + 5000000 ∨ s.mainUp = false → exec .damperStepUp s = .next s) ∧
     (∀ since, s.slowDown = some since → since + 1000000 * s.od 0x2402 0 0 ≤ s.elapsed → s.damperTest < since + 1000000 * s.od 0x2402 0 0 →
       s.treq ≤ s.hottest.2 → exec .damperGraceEnd s = .next raised) ∧
     (s.slowDown = none ∨ (∃ since, s.slowDown = some since ∧ s.elapsed < since + 1000000 * s.od 0x2402 0 0) → exec .damperGraceEnd s = .next s) ∧
     (s.damperAt + 50000000 ≤ s.elapsed → s.mainUp = true →
       (s.hottest.2 ≤ s.treq - 48 → s.powerFell = true →
         exec .damperStepDown s = .next { s with damperAt := s.elapsed, damperLevel := s.damperLevel - 1 }.settleDamper.withdraw) ∧
       (s.treq - 48 < s.hottest.2 ∨ s.powerFell = false → exec .damperStepDown s = .next { s with damperAt := s.elapsed })) ∧
     (s.elapsed < s.damperAt + 50000000 ∨ s.mainUp = false → exec .damperStepDown s = .next s))

/-- PROGRAM_IMAGE_WRITE, where an image may be written, loads an image that passes every check, and else is FORMAT with the failure shown; where none may be written it is STATE. PROGRAM_UNLOAD there empties the program, its id, variants and used layer slots, and sets the spread limit to 10. STAGE_TABLE_WRITE of a table with a failing entry is FORMAT and names it, during a recovery BUSY, of one that strands a MAIN entry STATE with its reason; else it is taken and sent to every part of it. STEP_COMMIT of a halted step with everything acknowledged marks it COMMITTED and releases its inputs; else nothing changes. COPY_COMPLETE of a SYNCING pair makes it PAIRED, its positions giving cover from then on; a part not in service asks for its place with a JOIN record (the model's own use of the record, log entry 214); of another pair nothing changes. Commands that complete here, exec answering a next state with their own effect under hypotheses on state and operands alone: copyComplete, programImageWrite, programUnload, stageTableWrite, stepCommit. -/
def Obligations.ProgramsAndTablesApply : Prop :=
  ∀ s : State,
    (∀ (rq : Requester) (img : List Byte), Accepted s rq .write 0x3401 0 img →
      (s.imageState = false → exec (.programImageWrite rq img) s = .next ((s.showLoad 1 0xFF 0xFFFFFFFF).answer rq codeState)) ∧
      (s.imageState = true → judgeProgram img (s.od 0x2102 1 0) = none → exec (.programImageWrite rq img) s = .next ((s.loadProgram img).written rq)) ∧
      (s.imageState = true → ∀ f, judgeProgram img (s.od 0x2102 1 0) = some f →
        exec (.programImageWrite rq img) s = .next ((s.showLoad f.result f.hearth f.word).answer rq codeFormat))) ∧
    (∀ rq : Requester, Accepted s rq .command 0x3400 0 [1] →
      (s.imageState = false → exec (.programUnload rq) s = .next (s.answer rq codeState)) ∧
      (s.imageState = true → Completes (.programUnload rq) s fun t => t.pending = s.pending ∧ t.programLoaded = false ∧ t.usedSlots = [] ∧
        t.blob 0x3401 0 = [] ∧ t.od 0x2103 0 0 = 10 ∧ t.results.get 0 (rqNo rq) = 0)) ∧
    (∀ (rq : Requester) (img : List Byte), Accepted s rq .write 0x4110 0 img →
      let shown (r f : Nat) : State := (s.setOd 0x4111 0 1 r).setOd 0x4111 0 2 f
      (∀ i, tableFail img (s.od 0x4111 0 0) = some i → exec (.stageTableWrite rq img) s = .next ((shown 1 i).answer rq codeFormat)) ∧
      (tableFail img (s.od 0x4111 0 0) = none →
        (s.recovery ≠ none → exec (.stageTableWrite rq img) s = .next ((shown 3 0xFFFF).answer rq codeBusy)) ∧
        (s.recovery = none → s.strandsEntry (entriesOf img) = true →
          exec (.stageTableWrite rq img) s = .next ((shown 2 0xFFFF).answer rq onlyCopy)) ∧
        (s.recovery = none → s.strandsEntry (entriesOf img) = false →
          exec (.stageTableWrite rq img) s =
            .next (({ shown 0 0xFFFF with tableNext := img }.forward 0x4110 0 img ((shown 0 0xFFFF).tableDests img)).written rq)))) ∧
    (∀ step : BitVec 64,
      let id := step.toNat
      let r := s.stepRec id
      (r.phase = .halted → s.stepAcked id = true →
        Completes (.stepCommit step) s fun t => t.pending = s.pending ∧ (t.stepRec id).phase = .committed ∧ (t.stepRec id).inputs = []) ∧
      (r.phase ≠ .halted ∨ s.stepAcked id = false → exec (.stepCommit step) s = .next s)) ∧
    (s.od 0x4102 0 0 ≠ 2 → exec .copyComplete s = .next s) ∧
    (s.od 0x4102 0 0 = 2 →
      let u := ({ s with declared := s.declared.filter (fun d => s.twin != some d),
                         syncing := s.syncing.filter fun d => s.twin != some d && d != s.endpoint }.setOd 0x4102 0 0 0).setOd 0x4102 0 3 0
      (u.inService = true → exec .copyComplete s = .next u) ∧
      (u.inService = false → exec .copyComplete s =
        .next (u.mirrorTo 0x0A (roleBody 3 (u.ownIndex.getD 0xFFFF) u.endpoint joinDone) u.admitting)))

/-- SWITCH_COMMAND to 0, to the current generation or to one that some stage lacks is STATE, else it waits with its earliest time. GEN_POINTER at a part that is not the admitting part moves current to previous and takes the new pointer and edge; at the admitting part, or for the same generation, nothing changes. GEN_REPORT at the admitting part of a part of the table that is not its twin sets that position's generation and predecessor and forwards the row to every other part (the model's own message, log entry 86); elsewhere, of a part that is not its twin, nothing changes. GEN_FAULT of a step that is no request's changes nothing; of a request's step, everywhere abandoned, it forgets the step and applies the old-generation action, or ends a request that was ending or whose deadline has passed; the barrier then settles, and a drained generation retires. DRAIN_LIMIT_EXPIRED retires the previous generation once the limit has passed at the admitting part, which tells the other parts. BARRIER_RAISE makes an OPEN barrier at least RAISED, BARRIER_LOWER makes it OPEN unless the stages hold it: it is then RAISED, or HELD where nothing is in flight; of HELD and its end the other parts are told. Commands that complete here, exec answering a next state with their own effect under hypotheses on state and operands alone: switchCommand, barrierRaise, barrierLower, drainLimitExpired, genFault, genPointer, genReport. -/
def Obligations.GenerationsSwitchAndHold : Prop :=
  ∀ s : State,
    (∀ (rq : Requester) (g : BitVec 32) (t : BitVec 64), Accepted s rq .command 0x5001 0 (leBytes 4 g.toNat ++ leBytes 8 t.toNat) →
      (g.toNat = 0 ∨ g.toNat = s.currentGen ∨ s.rackHolds g.toNat = false → exec (.switchCommand rq g t) s = .next (s.answer rq codeState)) ∧
      (g.toNat ≠ 0 → g.toNat ≠ s.currentGen → s.rackHolds g.toNat = true → exec (.switchCommand rq g t) s =
        .next ({ s with switchTo := some (g.toNat, t.toNat) }.commanded rq 0x5001 0 (leBytes 4 g.toNat ++ leBytes 8 t.toNat)))) ∧
    (∀ (g : BitVec 32) (t : BitVec 64),
      (s.isAdmitting = true ∨ g.toNat = s.currentGen → exec (.genPointer g t) s = .next s) ∧
      (s.isAdmitting = false → g.toNat ≠ s.currentGen →
        exec (.genPointer g t) s = .next ((({ s with retiredGens := s.retiredGens.filter (· != g.toNat) }.setOd 0x5000 2 0 s.currentGen).setOd 0x5000 1 0 g.toNat).setOd
          0x5000 3 0 t.toNat))) ∧
    (∀ (src : BitVec 16) (g p : BitVec 32), s.twin ≠ some (s.sourceOf src.toNat) →
      (s.isAdmitting = false ∨ s.entryIndexOf (s.sourceOf src.toNat) = none → exec (.genReport src g p) s = .next s) ∧
      (∀ i, s.isAdmitting = true → s.entryIndexOf (s.sourceOf src.toNat) = some i →
        let pos := if (s.entryAt i).map (·.pos0) = some (s.sourceOf src.toNat) then 0 else 1
        let row := patch (s.fieldBytes (i / 254) 0x5006 (i % 254 + 1)) (8 * pos) (leBytes 4 g.toNat ++ leBytes 4 p.toNat)
        exec (.genReport src g p) s =
          .next ((s.putReport i row).forward 0x5006 0 (leBytes 2 i ++ row) (s.allParts.filter (· != s.endpoint))).autoBarrier)) ∧
    (∀ (step : BitVec 64) (ctx : BitVec 32),
      (s.isAdmitting = false ∨ s.reqOfStep step.toNat = none → exec (.genFault step ctx) s = .next s) ∧
      (∀ n r, s.isAdmitting = true → s.reqOfStep step.toNat = some (n, r) →
        (r.ctx ≠ ctx.toNat → exec (.genFault step ctx) s = .next s) ∧
        (r.ctx = ctx.toNat →
          let u := s.abandonEverywhere step.toNat
          let v : State := match u.req n with
            | none => u
            | some r' => match r'.ending.or (if pastDeadline r'.entry u.now = true then some 3 else none) with
              | some o => u.finish n o [] step.toNat u.now
              | none => (u.modReq n fun (r : Request) => { r with flights := r.flights.map fun f => if [step.toNat].contains f.step then { f with step := 0 } else f
                  }).oldGeneration n
          exec (.genFault step ctx) s = .next (v.restartSpec n).settleBarrier.settleRetire))) ∧
    (let g := s.od 0x5000 2 0
     let past := s.od 0x5000 3 0 + 1000000 * s.od 0x5018 2 0 ≤ s.now
     (s.isAdmitting = true → past → g ≠ 0 → g ≠ s.currentGen → s.retiredGens.contains g = false →
       exec .drainLimitExpired s = .next ({ s with retiredGens := s.retiredGens ++ [g] }.forward 0x5000 2 (leBytes 4 g) (s.allParts.filter (· != s.endpoint)))) ∧
     (s.isAdmitting = false ∨ ¬ past ∨ g = 0 ∨ g = s.currentGen ∨ s.retiredGens.contains g = true → exec .drainLimitExpired s = .next s)) ∧
    (∀ rq : Requester, Accepted s rq .command 0x5004 0 [1] →
      let u := { s with barrierAuto := false }
      (s.od 0x5005 0 0 = 0 → exec (.barrierRaise rq) s = .next ((u.setOd 0x5005 0 0 1).settleBarrier.settleRetire.commanded rq 0x5004 0 [1])) ∧
      (s.od 0x5005 0 0 ≠ 0 → exec (.barrierRaise rq) s = .next (u.commanded rq 0x5004 0 [1]))) ∧
    (∀ rq : Requester, Accepted s rq .command 0x5004 0 [2] → s.isAdmitting = true →
      (s.currentGen = 0 ∨ s.rackHolds s.currentGen = true → exec (.barrierLower rq) s =
        .next ((let u := { s with barrierAuto := false }.setOd 0x5005 0 0 0
          if s.od 0x5005 0 0 = 2 then u.forward 0x5005 0 [0] (u.allParts.filter (· != u.endpoint)) else u).commanded rq 0x5004 0 [2])) ∧
      (s.currentGen ≠ 0 → s.rackHolds s.currentGen = false →
        Completes (.barrierLower rq) s fun t => t.pending = s.pending ∧ t.barrierAuto = true ∧ (t.od 0x5005 0 0 = 1 ∨ t.od 0x5005 0 0 = 2) ∧
          (t.od 0x5005 0 0 = 2 ↔ s.anyFlight = false ∧ ∀ e ∈ s.steps, ∀ r, e.2 = some r → r.phase ≠ .running ∧ r.phase ≠ .halted)))

/-- PCIE_LINK_UP at a rate 1 to 6 and width 1, 2, 4 or 8 on an UP main side not in thermal hold shows both in the port status; else nothing changes. PORT_RESET takes a link that is up down and forgets the port's host reads; FUNCTION_LEVEL_RESET and D3HOT_ENTRY forget the reads and leave the link up; without a link nothing changes. BAR2_READ through an open aperture answers the stacks' bytes; BAR2_WRITE by the controlling host into a data area writes them; through a closed aperture or past its end a read is aborted, a write discarded, both counted. EVENT_CAUSE_CLEAR clears the bits written as 1. EVENT_RING_DOORBELL below the ring's size sets the head, at or above it counts an error. HOST_READ_COMPLETION of an unknown read changes nothing; a good one is counted and used; a failed one is made again once, and fails then. Commands that complete here, exec answering a next state with their own effect under hypotheses on state and operands alone: pcieLinkUp, portReset, functionLevelReset, d3hotEntry, bar2Read, bar2Write, eventCauseClear, eventRingDoorbell, hostReadCompletion. -/
def Obligations.HostPortsServeTheirBars : Prop :=
  ∀ s : State,
    (∀ (p : HostPort) (rate width : BitVec 4) (flit : Bool),
      let n := hostNo p + 1
      let ok := s.mainUp = true ∧ s.thermalHold = false ∧ 1 ≤ rate.toNat ∧ rate.toNat ≤ 6 ∧ width.toNat ∈ [1, 2, 4, 8]
      (¬ ok → exec (.pcieLinkUp p rate width flit) s = .next s) ∧
      (ok → exec (.pcieLinkUp p rate width flit) s = .next ((s.setOd 0x1200 n 0
        (s.od 0x1200 n 0 % 2 ^ 15 + flagNat flit * 2 ^ 15 + width.toNat * 2 ^ 16 + rate.toNat * 2 ^ 20)).setOd 0x1200 n 40 0))) ∧
    (∀ p : HostPort,
      let n := hostNo p
      (s.hostLink n = false → ∀ c ∈ [Instr.portReset p, .functionLevelReset p, .d3hotEntry p], exec c s = .next s) ∧
      (s.hostLink n = true → s.openQueues n = [] → (s.steep.map fun j => (j.kind, hostNo j.port)) ≠ some (1, n) →
        (∀ r ∈ s.reads, hostNo r.port = n → ∀ c k, r.why ≠ .slot c k) →
        exec (.portReset p) s = .next { s.linkDown n with reads := s.reads.filter fun r => hostNo r.port != n } ∧
        (∀ c ∈ [Instr.functionLevelReset p, .d3hotEntry p],
          exec c s = .next { s with reads := s.reads.filter fun r => hostNo r.port != n })) ∧
      (∀ v : BitVec 32, Completes (.eventCauseClear p v) s fun t => SameBut [.serving] s t ∧ t.eventCause.get 0 (1 - n) = s.eventCause.get 0 (1 - n) ∧
        ∀ i, bit (t.eventCause.get 0 n) i = (bit (s.eventCause.get 0 n) i && !(bit v.toNat i && decide (i < 4)))) ∧
      (∀ head : BitVec 32,
        (s.hostLink n = false → exec (.eventRingDoorbell p head) s = .next s) ∧
        (s.hostLink n = true → s.enabled (6 + n) = false → exec (.eventRingDoorbell p head) s = .next (s.bump 0x1200 (n + 1) 3 1)) ∧
        (s.hostLink n = true → s.enabled (6 + n) = true →
          (s.ringSize n ≤ head.toNat → exec (.eventRingDoorbell p head) s = .next (s.bump 0x1200 (n + 1) 4 1)) ∧
          (head.toNat < s.ringSize n → exec (.eventRingDoorbell p head) s = .next (s.setEventRing n { s.eventRing n with head := head.toNat })))) ∧
      (∀ (addr : BitVec 30) (len : Nat) (data : List Byte),
        let base := s.od 0x1201 (n + 1) (addr.toNat / 2 ^ 28)
        let at_ := base + addr.toNat % 2 ^ 28
        (s.hostLink n = false → exec (.bar2Read p addr len) s = .next s ∧ exec (.bar2Write p addr data) s = .next s) ∧
        (s.hostLink n = true →
          (base = 0 ∨ 2 ^ 28 < addr.toNat % 2 ^ 28 + len →
            exec (.bar2Read p addr len) s = .next ((s.bump 0x1200 (n + 1) 3 1).emit (.completerAbort (hostOf n)))) ∧
          (base ≠ 0 → addr.toNat % 2 ^ 28 + len ≤ 2 ^ 28 → at_ < sootBase ∨ s.enabled 5 = true →
            exec (.bar2Read p addr len) s = .next ((s.readStack at_ len 0).2.2.emit (.completion p (s.readStack at_ len 0).1))) ∧
          (base = 0 ∨ 2 ^ 28 < addr.toNat % 2 ^ 28 + data.length ∨ sootBase ≤ at_ ∨ s.od 0x1100 1 0 ≠ n →
            exec (.bar2Write p addr data) s = .next (s.bump 0x1200 (n + 1) 3 1)) ∧
          (base ≠ 0 → addr.toNat % 2 ^ 28 + data.length ≤ 2 ^ 28 → at_ < sootBase → s.od 0x1100 1 0 = n →
            exec (.bar2Write p addr data) s = .next (s.writeStack at_ data)))) ∧
      (∀ (tag : BitVec 10) (data : List Byte) (ok : Bool),
        let mine (r : HostRead) : Bool := r.port == p && r.tag == tag.toNat
        let u := { s with reads := s.reads.filter fun r => !mine r }
        (s.reads.find? mine = none → exec (.hostReadCompletion p tag data ok) s = .next s) ∧
        (∀ r, s.reads.find? mine = some r →
          (ok = true → data.length = r.len →
            exec (.hostReadCompletion p tag data ok) s = .next ((u.bump 0x1200 (n + 1) 7 r.len).takeRead r data)) ∧
          (ok = false ∨ data.length ≠ r.len →
            (r.retried = true → exec (.hostReadCompletion p tag data ok) s = .next (u.readFailed r)) ∧
            (r.retried = false → exec (.hostReadCompletion p tag data ok) s =
              .next ({ u with reads := u.reads ++ [{ r with retried := true }] }.emit (.hostRead p r.tag r.addr r.len)))))))

/-- QUEUE_PAIR_ENABLE of a selected DISABLED pair with a good record on a port that serves queues makes it ENABLED with empty rings; of a pair not DISABLED it is STATE, with a bad record RANGE, on a port that does not serve STATE with its reason and a PORT event. QUEUE_PAIR_DISABLE makes a pair in ERROR DISABLED, leaves a DISABLED one, and one of another port is ACCESS for a host. SUBMISSION_DOORBELL and COMPLETION_HEAD_DOORBELL set tail and head; a value outside the ring, or past what the part has written or consumed, puts the pair in ERROR. INTERRUPT_COALESCE_TIMEOUT signals entries that wait for the time set. OWNERSHIP_CLAIM while no host controls, or by the one that does, is taken, else STATE; OWNERSHIP_RELEASE by another is ACCESS; FORCED_TAKE_OVER takes 0, 1 or 0xFF, else RANGE. A new owner is shown, kept and signalled on both ports. Commands that complete here, exec answering a next state with their own effect under hypotheses on state and operands alone: submissionDoorbell, completionHeadDoorbell, queuePairEnable, queuePairDisable, interruptCoalesceTimeout, ownershipClaim, ownershipRelease, forcedTakeOver. -/
def Obligations.QueuePairsAndOwnership : Prop :=
  ∀ s : State,
    (∀ rq : Requester, Accepted s rq .command 0x1210 3 [1] →
      (s.selectedQp rq = none → exec (.queuePairEnable rq) s = .next (s.answer rq codeAccess)) ∧
      (∀ k, s.selectedQp rq = some k →
        (s.qpState k ≠ 0 → exec (.queuePairEnable rq) s = .next (s.answer rq codeState)) ∧
        (s.qpState k = 0 → s.queuesServe (qpPort k) = false →
          exec (.queuePairEnable rq) s = .next ((s.raise { kind := .port, path := pathUnit (3 + qpPort k) 8 0 0, detail := s.portStatus (qpPort k) }).answer rq linkReason)) ∧
        (s.qpState k = 0 → s.queuesServe (qpPort k) = true → qpRecordGood (s.qpRecord k) = false → exec (.queuePairEnable rq) s = .next (s.answer rq codeRange)) ∧
        (s.qpState k = 0 → s.queuesServe (qpPort k) = true → qpRecordGood (s.qpRecord k) = true →
          Completes (.queuePairEnable rq) s fun t => t.pending = s.pending ∧ t.qpState k = 1 ∧ t.qpStat k 1 = 0 ∧ t.qpStat k 2 = 0 ∧ t.qpStat k 3 = 0 ∧
            t.qp k = QPair.fresh ∧ t.results.get 0 (rqNo rq) = 0))) ∧
    (∀ rq : Requester, Accepted s rq .command 0x1210 3 [2] →
      (s.selectedQp rq = none → exec (.queuePairDisable rq) s = .next (s.answer rq codeAccess)) ∧
      (∀ k, s.selectedQp rq = some k →
        (s.qpState k = 3 → exec (.queuePairDisable rq) s = .next ((s.setQpStat k 0 0).commanded rq 0x1210 3 [2])) ∧
        (s.qpState k = 1 → exec (.queuePairDisable rq) s = .next ((((s.setQpStat k 0 2).writeBlock k).drained k).commanded rq 0x1210 3 [2])) ∧
        (s.qpState k = 0 ∨ s.qpState k = 2 → exec (.queuePairDisable rq) s = .next (s.commanded rq 0x1210 3 [2])))) ∧
    (∀ (p : HostPort) (n : Byte) (v : BitVec 32),
      let k := qpKey (hostNo p) n.toNat
      let sub := s.subSize k
      let comp := s.compSize k
      let subBad := sub ≤ v.toNat ∨ sub ≤ ((s.qp k).tail + sub - s.qpStat k 1) % sub + (v.toNat + sub - (s.qp k).tail) % sub
      let compBad := comp ≤ v.toNat ∨ s.unread k < (v.toNat + comp - (s.qp k).head) % comp
      let tailed := s.modQp k fun q => { q with tail := v.toNat }
      let headed := s.modQp k fun q => { q with head := v.toNat }
      (s.hostLink (hostNo p) = false → exec (.submissionDoorbell p n v) s = .next s ∧ exec (.completionHeadDoorbell p n v) s = .next s) ∧
      (s.hostLink (hostNo p) = true →
        (s.qpLives k = false → exec (.submissionDoorbell p n v) s = .next tailed ∧ exec (.completionHeadDoorbell p n v) s = .next headed) ∧
        (¬ subBad → exec (.submissionDoorbell p n v) s = .next tailed) ∧
        (s.qpLives k = true → subBad → exec (.submissionDoorbell p n v) s = .next (tailed.qpError k)) ∧
        (s.qpLives k = true → ¬ compBad → exec (.completionHeadDoorbell p n v) s = .next (headed.serveSlots k)) ∧
        (s.qpLives k = true → compBad → exec (.completionHeadDoorbell p n v) s = .next (headed.qpError k))) ∧
      (let q := s.qp k
       let wait := q.unsignalled ≠ 0 ∧ s.qpCfg k 8 ≠ 0 ∧ q.since + 1000 * s.qpCfg k 8 ≤ s.elapsed ∧ s.qpLives k = true
       (wait → exec (.interruptCoalesceTimeout p n) s =
         .next ((s.modQp k fun q => { q with unsignalled := 0 }).emit (.msix (hostOf (qpPort k)) (s.qpCfg k 5)))) ∧
       (¬ wait → exec (.interruptCoalesceTimeout p n) s = .next s))) ∧
    (∀ rq : Requester, Accepted s rq .command 0x1100 2 [1] →
      (s.controls rq = true → exec (.ownershipClaim rq) s = .next (s.commanded rq 0x1100 2 [1])) ∧
      (s.controls rq = false → s.claimOpen = true → exec (.ownershipClaim rq) s = .next ((s.setOwner (rqNo rq)).commanded rq 0x1100 2 [1])) ∧
      (s.controls rq = false → s.claimOpen = false → exec (.ownershipClaim rq) s = .next (s.answer rq codeState))) ∧
    (∀ rq : Requester, Accepted s rq .command 0x1100 2 [2] →
      (s.controls rq = true → exec (.ownershipRelease rq) s = .next ((s.setOwner 0xFF).commanded rq 0x1100 2 [2])) ∧
      (s.controls rq = false → exec (.ownershipRelease rq) s = .next (s.answer rq codeAccess))) ∧
    (∀ (rq : Requester) (v : Byte), Accepted s rq .command 0x1100 3 [v] →
      (v.toNat < 2 ∨ v.toNat = 0xFF → exec (.forcedTakeOver rq v) s = .next ((s.setOwner v.toNat).commanded rq 0x1100 3 [v])) ∧
      (2 ≤ v.toNat → v.toNat ≠ 0xFF → exec (.forcedTakeOver rq v) s = .next (s.answer rq codeRange))) ∧
    (∀ v, s.od 0x1100 1 0 ≠ v → (s.setOwner v).od 0x1100 1 0 = v ∧ bit ((s.setOwner v).eventCause.get 0 0) 1 = true ∧
      bit ((s.setOwner v).eventCause.get 0 1) 1 = true)

/-- SUBMIT, CANCEL, PAUSE, RENEW and DISCARD change nothing while their ring may not be consumed: no entry, no free completion slot, or a full pending table. SUBMIT of an ENABLED pair with a good entry of a configured tenant makes a request that holds a slot and reads its prompt, and its bias list where it has one; a bad field ends it FORMAT. CANCEL of an unknown tag counts it, else ends the request CANCELLED at its boundary. PAUSE and DISCARD of an active request's context are BUSY; an unknown handle, a set reserved bit, and a RENEW after the timer has run out are FORMAT. ADMISSION of a request that is not pending, or not the first of its tenant, or while the barrier or a stage bars it, changes nothing; of a disabled tenant it ends TENANT, past the deadline EXPIRED; with the conditions met it is admitted, or ends RESOURCE where no context record is free or its kept context is gone (the model's reading, log entry 225). PENDING_DEADLINE_EXPIRED ends a late pending request. A tenant configuration out of range is RANGE, else kept with the level cut to the burst. BUCKET_REFILL adds a thousandth of the rate, never above the burst. Commands that complete here, exec answering a next state with their own effect under hypotheses on state and operands alone: submit, cancel, pause, renew, discard, admission, pendingDeadlineExpired, bucketRefill, tenantConfigWrite. -/
def Obligations.EntriesAreConsumedAndAdmitted : Prop :=
  ∀ s : State,
    (∀ (p : HostPort) (n : Byte),
      let k := qpKey (hostNo p) n.toNat
      let u := s.consume k
      (s.mayConsume k = false → ∀ e (tag : EntryTag) ctx, ∀ c ∈ [Instr.submit p n e, .cancel p n tag, .pause p n tag ctx, .renew p n tag ctx, .discard p n tag ctx],
        exec c s = .next s) ∧
      (s.mayConsume k = true →
        (∀ e : SubEntry,
          let gram := if e.grammar = 255 then 0
            else if e.startState.toNat = 0xFFFFFFFF then gramStart (s.grammar e.grammar.toNat) else e.startState.toNat
          let r := newRequest p n.toNat e s.nextOrder gram
          let w := (({ u with nextReq := s.nextReq + 1, nextOrder := s.nextOrder + 1 }.holdSlot k).setQpStat k 4 (s.qpStat k 4 + 1)).setReq s.nextReq (some r)
          (s.qpState k = 1 → fieldsGood e = true → s.namesGood e = true → s.odAt e.tenant.toNat 0x5801 0 0 ≠ 0 →
            (e.biasCount = 0 → exec (.submit p n e) s = .next (w.hostRead p e.promptAddr.toNat (4 * e.promptCount.toNat) (.prompt s.nextReq))) ∧
            (e.biasCount ≠ 0 → exec (.submit p n e) s = .next ((w.hostRead p e.promptAddr.toNat (4 * e.promptCount.toNat) (.prompt s.nextReq)).hostRead p
              e.biasAddr.toNat (8 * e.biasCount.toNat) (.bias s.nextReq)))) ∧
          (s.qpState k = 1 → fieldsGood e = false → exec (.submit p n e) s = .next (w.finish s.nextReq 7 [] 0 s.now))) ∧
        (∀ tag : EntryTag,
          let mine (e : Nat × Request) : Bool := e.2.port == p && e.2.entry.tag == tag.tag && e.2.phase != .ended
          (tag.reserved = true → exec (.cancel p n tag) s = .next (u.plainEntry k tag.tag.toNat 0 7)) ∧
          (tag.reserved = false → s.reqList.find? mine = none → exec (.cancel p n tag) s = .next (u.bump 0x5803 0 17 1)) ∧
          (∀ id r, tag.reserved = false → s.reqList.find? mine = some (id, r) →
            exec (.cancel p n tag) s = .next (u.endAtBoundary id 4).settleBarrier.settleRetire)) ∧
        (∀ (tag : EntryTag) (ctx : BitVec 32),
          let c := ctx.toNat
          let ends (o : Nat) (v : State) : State := v.plainEntry k tag.tag.toNat c o
          (tag.reserved = true → ∀ i ∈ [Instr.pause p n tag ctx, .renew p n tag ctx, .discard p n tag ctx], exec i s = .next (ends 7 u)) ∧
          (tag.reserved = false →
            (s.reqOfCtx c ≠ none → ∀ i ∈ [Instr.pause p n tag ctx, .discard p n tag ctx], exec i s = .next (ends 12 u)) ∧
            (s.reqOfCtx c = none → s.keptOf c = none → ∀ i ∈ [Instr.pause p n tag ctx, .renew p n tag ctx, .discard p n tag ctx],
              exec i s = .next (ends 7 u)) ∧
            (s.reqOfCtx c = none → s.keptOf c ≠ none →
              exec (.pause p n tag ctx) s = .next (ends 14 (u.tierAction 1 c)) ∧
              exec (.discard p n tag ctx) s = .next (ends 14 { u.tierAction 4 c with kept := (u.tierAction 4 c).kept.put none c none }) ∧
              (s.renewLate c = false → exec (.renew p n tag ctx) s = .next (ends 14 (u.tierAction 5 c))) ∧
              (s.renewLate c = true → exec (.renew p n tag ctx) s = .next (ends 7 u))))))) ∧
    (∀ req : BitVec 32,
      let n := req.toNat
      (s.req n = none → exec (.admission req) s = .next s ∧ exec (.pendingDeadlineExpired req) s = .next s) ∧
      (∀ r, s.req n = some r →
        (r.phase ≠ .pending ∨ s.earlierPending r = true ∨ s.admits = false → exec (.admission req) s = .next s) ∧
        (r.phase = .pending → s.earlierPending r = false → s.admits = true → s.odAt r.tenant 0x5801 0 0 = 0 →
          exec (.admission req) s = .next (s.finish n 8 [] 0 s.now)) ∧
        (r.phase = .pending → s.earlierPending r = false → s.admits = true → s.odAt r.tenant 0x5801 0 0 ≠ 0 →
          (pastDeadline r.entry s.now = true → exec (.admission req) s = .next (s.finish n 3 [] 0 s.now)) ∧
          (pastDeadline r.entry s.now = false → (min r.entry.promptCount.toNat (s.odAt r.tenant 0x5801 0 2) : Nat) ≤ s.level r.tenant →
            (s.od 0x5805 0 0 ≤ s.activeCount → exec (.admission req) s = .next s) ∧
            (s.activeCount < s.od 0x5805 0 0 → (r.ctx = 0 → s.noRecord = true) → (r.ctx ≠ 0 → s.keptOf r.ctx = none) →
              exec (.admission req) s = .next (s.finish n 10 [] 0 s.now)) ∧
            (s.activeCount < s.od 0x5805 0 0 → (r.ctx = 0 → s.noRecord = false) → (r.ctx ≠ 0 → s.keptOf r.ctx ≠ none) →
              exec (.admission req) s = .next (s.admitReq n r)))) ∧
        ((r.phase = .pending ∨ r.phase = .reading) → pastDeadline r.entry s.now = true →
          exec (.pendingDeadlineExpired req) s = .next (s.finish n 3 [] 0 s.now)) ∧
        (r.phase = .active ∨ pastDeadline r.entry s.now = false → exec (.pendingDeadlineExpired req) s = .next s))) ∧
    (s.isAdmitting = false → exec .bucketRefill s = .next s) ∧
    (∀ t, s.isAdmitting = true → s.tenants = [t] →
      let x := s.odAt t 0x5802 0 40 + s.odAt t 0x5801 0 1
      exec .bucketRefill s = .next ((s.setOdAt t 0x5802 0 40 (x % 1000)).setLevel t (min (s.level t + (x / 1000 : Nat)) (s.odAt t 0x5801 0 2 : Nat)))) ∧
    (∀ (rq : Requester) (cfg : List Byte), Accepted s rq .write 0x5801 0 cfg →
      let t := s.odAt (rqNo rq) 0x5800 1 0
      let bad := 1 < leAt cfg 0 1 ∨ 10000000 < leAt cfg 1 4 ∨ 16777216 < leAt cfg 5 4 ∨ 1 < leAt cfg 9 1
      (bad → exec (.tenantConfigWrite rq cfg) s = .next (s.answer rq codeRange)) ∧
      (¬ bad → leAt cfg 0 1 ≠ 0 → exec (.tenantConfigWrite rq cfg) s =
        .next (((s.putValue t 0x5801 0 cfg).setLevel t (min (s.level t) (leAt cfg 5 4 : Nat))).written rq)))

/-- TOKEN_SELECTION of a step that does not run, or of a shadow run, changes nothing; with the token stage gated it is a GATED fault; with a residue upset the step fails; a chunk without logits sends a TOKEN transfer of no token to stage 0; a plain step at temperature 0 sends its largest allowed biased logit's token and counts the position; a NaN or poisoned logit fails the step. TOKEN at a part that is neither admitting nor drafting changes nothing; for a step in flight of a request without an outcome, a chunk that does not sample is charged its positions, unless prefilled again, its flight ends, and barrier and retirement settle; a token that ends nothing is charged and returned with its sampling time. TIER_REPORT at another part, or without a timer, changes nothing; HOT strikes the source off those awaited, LOST marks the timer too; with no report awaited LOST makes that the tier. GRAMMAR_IMAGE_WRITE into a slot an active request names is STATE, of a bad image FORMAT, both shown; else the slot holds it, it goes to the token stage's positions, and OK shows once they have applied it (at once where there are none). REPLAY_LIMIT of a step within the limit changes nothing; beyond it the step is abandoned everywhere and its request ends FAILED. Commands that complete here, exec answering a next state with their own effect under hypotheses on state and operands alone: tokenSelection, token, grammarImageWrite, replayLimit, tierReport. -/
def Obligations.TokensAreSelectedAndReturned : Prop :=
  ∀ s : State,
    (∀ (step : BitVec 64) (logits heads : List (List Logit)),
      let id := step.toNat
      let r := s.stepRec id
      (s.isShadow id = true ∨ r.phase ≠ .running ∨ r.hdr = none → ∀ u, exec (.tokenSelection step logits heads u) s = .next s) ∧
      (∀ h, s.isShadow id = false → r.phase = .running → r.hdr = some h →
        let p := s.sampling id h.ctx.toNat h.tree.source.toNat
        let en := cfgOf r.cfg 0x2120 0 0
        (bit en 8 = false → ∀ u, exec (.tokenSelection step logits heads u) s = .next (s.stokerFault (s.kindleHearths.headD 0) .gated 8 0)) ∧
        (bit en 8 = true → p.slot ≠ 255 → bit en 9 = false →
          ∀ u, exec (.tokenSelection step logits heads u) s = .next (s.stokerFault (s.kindleHearths.headD 0) .gated 9 0)) ∧
        (bit en 8 = true → p.slot = 255 ∨ bit en 9 = true →
          (∀ u, exec (.tokenSelection step logits heads (some u)) s = .next ((s.raiseResidue (pathDie 0 0) id 0xFFFF 0 u).failStep id)) ∧
          (let counted (n : Nat) (bans : Nat) : State :=
             ((((s.bump 0x5C01 0 0 n).bump 0x5C01 0 1 (if p.temperature % 32768 = 0 then n else 0)).bump 0x5C01 0 2 bans).bump 0x5C01 0 3 0).bump 0x5C22 0 1 0
           let noted (u : State) : State := if u.isAdmitting = true then { u with selectedAt := u.selectedAt.put 0 id u.now } else u
           (h.tree.source = 0 → 1 < h.tree.count.toNat → h.cls = 0 → exec (.tokenSelection step [] heads none) s =
             .next ((noted (counted 0 0)).sendTokens id h.ctx.toNat 0 0 p.mode (tokenBytes h.ctx.toNat [] 0 [] []))) ∧
           (∀ l c rest, h.tree.source = 0 → h.tree.count.toNat = 1 → h.tree.nodes.length ≤ 1 → h.cls = 0 → p.temperature = 0 →
             s.candidates p p.gram l = some (c :: rest) → exec (.tokenSelection step [l] heads none) s =
               .next ((noted (counted 1 (bansOf p l))).sendTokens id h.ctx.toNat 0 0 p.mode
                 (tokenBytes h.ctx.toNat [tokenWord (logProb p c.2 c.2) c.1] 0 [] []))) ∧
           (∀ l, h.tree.source = 0 → h.tree.count.toNat = 1 → s.candidates p p.gram l = none →
             exec (.tokenSelection step [l] heads none) s = .next ((s.bump 0x5C01 0 4 1).failStep id)))))) ∧
    (∀ m : TokenMsg,
      (s.isAdmitting = false → s.isDraft = false → exec (.token m) s = .next s) ∧
      (∀ n r f, s.isAdmitting = true → s.isDraft = false → s.reqOfStep m.step.toNat = some (n, r) → (r.flights.find? fun f => f.step == m.step.toNat) = some f →
        r.ending = none → pastDeadline r.entry s.now = false →
        let id := m.step.toNat
        let u := { s with selectedAt := s.selectedAt.put 0 id 0 }.modReq n fun r' => { r' with flights := r.flights.filter fun g => g.step != id }
        let charged (k : Nat) : State := if f.free then u else u.charge r.tenant k
        let time := if s.selectedAt.get 0 id = 0 then Config.samplingTime id % 2 ^ 64 else s.selectedAt.get 0 id
        (f.samples = false → f.chunk = true → exec (.token m) s = .next (charged f.tree.count.toNat).settleBarrier.settleRetire) ∧
        (∀ w, f.samples = true → r.entry.grammar = 255 → m.words = [w] → m.grammarEnd = false →
          ((r.entry.stops.take r.entry.stopCount.toNat).map (·.toNat)).contains (wordToken w.toNat) = false →
          1 < r.entry.maxNew.toNat - r.returned →
          exec (.token m) s = .next ((((charged (if f.chunk then f.tree.count.toNat else 1)).modReq n fun r' =>
            r'.follow f m [w.toNat] r.grammar s.elapsed id).returnTokens n [w.toNat] id time).mirrorReq n).settleBarrier.settleRetire))) ∧
    (∀ (src : BitVec 16) (ctx : BitVec 32),
      let c := ctx.toNat
      (s.isAdmitting = false ∨ s.timer c = none → ∀ x, exec (.tierReport src ctx x) s = .next s) ∧
      (∀ t, s.isAdmitting = true → s.timer c = some t →
        let heard := { t with awaiting := t.awaiting.filter fun e => e % 65536 != src.toNat }
        (t.awaiting ≠ [] → exec (.tierReport src ctx .hot) s = .next ((s.setTimer c (some heard)).settleResume c) ∧
          exec (.tierReport src ctx .lost) s = .next ((s.setTimer c (some { heard with lost := true })).settleResume c)) ∧
        (t.awaiting = [] → exec (.tierReport src ctx .hot) s = .next s ∧
          exec (.tierReport src ctx .lost) s = .next (s.setTimer c (some { t with tier := .lost, since := s.elapsed, lost := true }))) ∧
        (s.reqOfCtx c = none → exec (.tierReport src ctx .discarded) s = .next (s.tierAction 4 c)))) ∧
    (∀ (rq : Requester) (img : List Byte), Accepted s rq .write 0x5C11 0 img →
      let slot := s.odAt (rqNo rq) 0x5C10 0 0
      let used := s.reqList.any fun e => e.2.isActive && e.2.entry.grammar.toNat == slot
      (used = true → exec (.grammarImageWrite rq img) s = .next ((s.showGrammar slot 1).answer rq codeState)) ∧
      (used = false → gramGood img = false → exec (.grammarImageWrite rq img) s = .next ((s.showGrammar slot 2).answer rq codeFormat)) ∧
      (used = false → gramGood img = true →
        let kept := s.setBlobAt slot 0x5C11 0 img
        let u := (if s.inTokenPair then kept.forward 0x5C11 slot img s.draftPair else kept).forward 0x5C11 slot img s.tokenPair
        let v := { u with gramAwait := u.gramAwait.put [] slot s.tokenPair }
        exec (.grammarImageWrite rq img) s = .next ((if s.tokenPair = [] then v.showGrammar slot 0 else v).written rq))) ∧
    (∀ step : BitVec 64,
      (s.reqOfStep step.toNat = none ∨ s.replaysOf step.toNat ≤ s.od 0x4105 0 0 → exec (.replayLimit step) s = .next s) ∧
      (∀ n r, s.reqOfStep step.toNat = some (n, r) → s.od 0x4105 0 0 < s.replaysOf step.toNat →
        exec (.replayLimit step) s = .next ((s.abandonEverywhere step.toNat).finish n 11 [] step.toNat s.now).settleBarrier.settleRetire))

/-- Elsewhere than at the draft model DRAFT, SPEC_REPORT, MISS_LIMIT, FALLBACK_END and REBUILD_COMPLETE change nothing. DRAFT for a request of class T in SPECULATIVE or PROBE sends the tree grown from its root; in FALLBACK or REBUILD none. SPEC_REPORT of a plain step in FALLBACK uses up one of the plain steps left; of a speculative step it counts steps and acceptances and a miss adds to the run of misses, an acceptance ends it. MISS_LIMIT at the limit starts FALLBACK, FALLBACK_END after its plain steps starts PROBE, REBUILD_COMPLETE starts SPECULATIVE; each change is sent to stage 0, which takes it by MODE (REBUILD for class T alone); a PROBE step that accepts ends in SPECULATIVE, one that misses in FALLBACK. MODE at the draft model's part starts the handle's sampler anew. TREE is kept for a generating class T request without a step in flight whose last step it follows, else discarded; DRAFT_WAIT_EXPIRED gives such a request its plain tree after the wait. SPECULATION_CONFIG_WRITE outside its range is RANGE, else stored, the value a running step reads kept (R210), and, at the admitting part, forwarded. Commands that complete here, exec answering a next state with their own effect under hypotheses on state and operands alone: draft, tree, draftWaitExpired, specReport, missLimit, fallbackEnd, mode, rebuildComplete, speculationConfigWrite. -/
def Obligations.SpeculationFollowsItsModes : Prop :=
  ∀ s : State,
    (∀ (ctx : BitVec 32),
      let c := ctx.toNat
      (s.isDraft = false → (∀ l, exec (.draft ctx l) s = .next s ∧ exec (.rebuildComplete ctx l) s = .next s) ∧
        (∀ m r, exec (.specReport ctx m r) s = .next s) ∧ exec (.missLimit ctx) s = .next s ∧ exec (.fallbackEnd ctx) s = .next s) ∧
      (∀ x, s.isDraft = true → s.sampler c = some x →
        (∀ r l, x.root = some r → x.classT = true → x.mode = 0 ∨ x.mode = 2 →
          exec (.draft ctx l) s = .next (s.sendFor { kind := 4, cls := 0, targets := [], step := x.step, payload := treeBytes (s.draftTree c x r l) } s.stage0)) ∧
        (∀ l, x.mode = 1 ∨ x.mode = 3 ∨ x.root = none → exec (.draft ctx l) s = .next s) ∧
        (x.classT = false ∨ (s.recordOf c).any (·.entry.cls == 1) = false →
          (∀ m, x.mode = 1 → exec (.specReport ctx m 1) s = .next (s.setSampler c { x with left := x.left - 1 })) ∧
          (∀ m, x.mode ≠ 1 → exec (.specReport ctx m 1) s = .next (s.setSampler c x)) ∧
          (∀ m, exec (.specReport ctx m 3) s = .next (s.setSampler c x)) ∧
          (∀ m : BitVec 4, x.mode = 0 → 2 ≤ m.toNat →
            exec (.specReport ctx m 0) s = .next ((((s.bump 0x5C22 0 0 1).bump 0x5C22 0 2 (m.toNat - 1)).bump 0x5C22 0 3 0).setSampler c
              { x with steps := x.steps + 1, accepted := x.accepted + (m.toNat - 1), miss := 0 })) ∧
          (x.mode = 0 → exec (.specReport ctx 1 0) s = .next ((((s.bump 0x5C22 0 0 1).bump 0x5C22 0 2 0).bump 0x5C22 0 3 1).setSampler c
              { x with steps := x.steps + 1, accepted := x.accepted, miss := x.miss + 1 })) ∧
          (∀ m : BitVec 4, x.mode = 2 → 2 ≤ m.toNat →
            exec (.specReport ctx m 2) s = .next (((((s.bump 0x5C22 0 0 1).bump 0x5C22 0 2 (m.toNat - 1)).bump 0x5C22 0 5 1).bump 0x5C22 0 6 1).setMode c
              { x with steps := x.steps + 1, accepted := x.accepted + (m.toNat - 1), mode := 0, miss := 0 })) ∧
          (x.mode = 2 →
            exec (.specReport ctx 1 2) s = .next ((((((s.bump 0x5C22 0 0 1).bump 0x5C22 0 2 0).bump 0x5C22 0 5 1).bump 0x5C22 0 6 0).bump 0x5C22 0 4 1).setMode c
              { x with steps := x.steps + 1, accepted := x.accepted, mode := 1, left := s.inForce 0x5C21 2 0 }))) ∧
        (x.mode = 0 → s.inForce 0x5C21 1 0 ≤ x.miss →
          exec (.missLimit ctx) s = .next ((s.bump 0x5C22 0 4 1).setMode c { x with mode := 1, left := s.inForce 0x5C21 2 0 })) ∧
        (x.mode ≠ 0 ∨ x.miss < s.inForce 0x5C21 1 0 → exec (.missLimit ctx) s = .next s) ∧
        (x.mode = 1 → x.left = 0 → exec (.fallbackEnd ctx) s = .next (s.setMode c { x with mode := 2 })) ∧
        (x.mode ≠ 1 ∨ 0 < x.left → exec (.fallbackEnd ctx) s = .next s) ∧
        (∀ l, x.mode = 3 → x.root = none → exec (.rebuildComplete ctx l) s = .next (s.setMode c { x with mode := 0, miss := 0 })) ∧
        (∀ l r, x.mode = 3 → x.root = some r → exec (.rebuildComplete ctx l) s =
          .next ((s.setMode c { x with mode := 0, miss := 0 }).sendTree c { x with mode := 0, miss := 0 } r l)) ∧
        (∀ l, x.mode ≠ 3 → exec (.rebuildComplete ctx l) s = .next s)) ∧
      (s.reqOfCtx c = none → ∀ step t, exec (.tree step ctx t) s = .next s ∧ exec (.draftWaitExpired ctx) s = .next s) ∧
      (∀ m : BitVec 2,
        (s.isAdmitting = true → s.reqOfCtx c = none → exec (.mode ctx m) s = .next s) ∧
        (s.isAdmitting = false → s.isDraft = true → exec (.mode ctx m) s = .next (s.resetSampler c m.toNat)) ∧
        (s.isAdmitting = false → s.isDraft = false → exec (.mode ctx m) s = .next s)) ∧
      (∀ n r, s.isAdmitting = true → s.reqOfCtx c = some (n, r) →
        let open_ := r.entry.cls = 2 ∧ r.generating = true ∧ r.flights = [] ∧ r.tree = none
        (∀ (step : BitVec 64) (t : TreeRec),
          (open_ → r.lastStep = step.toNat → exec (.tree step ctx t) s = .next (s.modReq n fun r => { r with tree := some t })) ∧
          (¬ open_ ∨ r.lastStep ≠ step.toNat → exec (.tree step ctx t) s = .next s)) ∧
        (open_ → r.mode = 0 ∨ r.mode = 2 → r.tokensAt + s.inForce 0x5C20 6 0 ≤ s.elapsed → exec (.draftWaitExpired ctx) s =
          .next ((s.bump 0x5C22 0 7 1).modReq n fun r => { r with tree := some (plainTree (r.rest.headD 0)) })) ∧
        (¬ open_ ∨ r.mode = 1 ∨ r.mode = 3 ∨ s.elapsed < r.tokensAt + s.inForce 0x5C20 6 0 → exec (.draftWaitExpired ctx) s = .next s) ∧
        (∀ m : BitVec 2, m ≠ 3 ∨ r.entry.cls = 2 → exec (.mode ctx m) s = .next (s.modReq n fun r => { r with mode := m.toNat })) ∧
        (r.entry.cls ≠ 2 → exec (.mode ctx 3) s = .next s))) ∧
    (∀ (rq : Requester) (limits : Bool) (sub : Byte) (v : BitVec 32),
      let idx := if limits then 0x5C21 else 0x5C20
      let data := leBytes ((odWidths idx sub.toNat).headD 1) v.toNat
      let range := specRange limits sub.toNat
      Accepted s rq .write idx sub.toNat data →
      (v.toNat < range.1 ∨ range.2 < v.toNat → exec (.speculationConfigWrite rq limits sub v) s = .next (s.answer rq codeRange)) ∧
      (range.1 ≤ v.toNat → v.toNat ≤ range.2 →
        let u := (s.keepForStep idx sub.toNat).setOd idx sub.toNat 0 v.toNat
        (s.isAdmitting = true → exec (.speculationConfigWrite rq limits sub v) s = .next ((u.forward idx sub.toNat data u.samplerParts).written rq)) ∧
        (s.isAdmitting = false → exec (.speculationConfigWrite rq limits sub v) s = .next (u.written rq))))

/-- TRAINING_COMPLETE acts in TRAINING only: all eight lanes give IDENT state with 8 lanes and this part's IDENT sent; one half, with degrade at both ends, IDENT with 4 lanes and a PORT event; else the port is DOWN and its next attempt counts from now. TRAINING_RETRY retrains a DOWN port of an UP main side one second after the last attempt. IDENT_TIMEOUT takes a port out of IDENT after 10 ms. IDENT_REPEAT sends this part's IDENT again in IDENT, UP and QUARANTINE, and counts the frame. IDENT received in IDENT is recorded; where it matches the neighbour entry the port is UP with the lower minor and the common features, and its frames go out; else it is in QUARANTINE; on an UP port one that differs quarantines it. PORT_DOWN retrains a port from IDENT, UP or QUARANTINE, and a lost twin link is reported, or the twin probed where it admits. PORT_RETRAIN retrains; PORT_ENABLE retrains a DISABLED port; PORT_DISABLE disables it, at once or when its transfers and the step are done; NEIGHBOUR_ENTRY_WRITE stores an entry, its reserved bytes zero, and retrains, or refuses a kind above 3. A retrain disables a port that is to be, leaves it DOWN while the main side is not UP, and else puts it into TRAINING, counted. A failed attempt's wait of a second and its start are the model's (NOTES.md). Commands that complete here, exec answering a next state with their own effect under hypotheses on state and operands alone: trainingComplete, trainingRetry, ident, identTimeout, portDown, portRetrain, portDisable, portEnable, neighbourEntryWrite, identRepeat. -/
def Obligations.PortsTrainAndIdentify : Prop :=
  ∀ (s : State) (p : PortId),
    let n := p.toNat
    let st := s.portState n
    (st ≠ 2 → ∀ l d, exec (.trainingComplete p l d) s = .next s) ∧
    (st = 2 → ∀ (l : BitVec 8) (d : Bool),
      let half := s.od (0x4000 + n) 7 0 ≠ 0 ∧ d = true ∧ (l.toNat % 16 = 15 ∨ l.toNat / 16 = 15)
      let identState (lanes : Nat) : State := State.modPort n (fun x => { x with heardAt := s.elapsed, trainAt := s.elapsed }) ((s.setOd (0x4000 + n) 3 0 lanes).setPortState n 3)
      (l = 0xFF → exec (.trainingComplete p l d) s = .next ((identState 8).sendIdent n)) ∧
      (l ≠ 0xFF → half → exec (.trainingComplete p l d) s = .next (((identState 4).portRecord n false).sendIdent n)) ∧
      (l ≠ 0xFF → ¬ half →
        exec (.trainingComplete p l d) s = .next (State.modPort n (fun x => { x with trainAt := s.elapsed }) (s.setPortState n 1)))) ∧
    (s.retrain n = if s.od 0x4010 (n + 1) 0 = 3 ∨ s.od (0x4000 + n) 1 42 = 1 then s.lowerPort n 0
      else if s.mainUp then (s.lowerPort n 2).bump (0x4000 + n) 6 6 1 else s.lowerPort n 1) ∧
    (let due := s.mainUp = true ∧ st = 1 ∧ ((s.port n).trainAt = 0 ∨ (s.port n).trainAt + 1000000000 ≤ s.elapsed)
     (due → exec (.trainingRetry p) s = .next (s.retrain n)) ∧ (¬ due → exec (.trainingRetry p) s = .next s)) ∧
    (let due := st = 3 ∧ (s.port n).trainAt + 10000000 ≤ s.elapsed
     (due → exec (.identTimeout p) s = .next (State.modPort n (fun x => { x with trainAt := s.elapsed }) (s.lowerPort n 1))) ∧
     (¬ due → exec (.identTimeout p) s = .next s)) ∧
    (st = 3 ∨ st = 4 ∨ st = 5 → exec (.identRepeat p) s = .next ((s.bump (0x4000 + n) 6 0 1).emit (.frame n 4 (s.identBytes n)))) ∧
    (st < 3 ∨ 5 < st → exec (.identRepeat p) s = .next s) ∧
    (∀ i : IdentBody,
      let heard := (s.bump (0x4000 + n) 6 1 1).modPort n fun x => { x with heardAt := s.elapsed }
      let seen := heard.putFields 0 (0x4000 + n) 4 0 (identFields i)
      (st = 3 → heard.portState n = 3 → seen.identMatches n i = true →
        let agreed := seen.putFields 0 (0x4000 + n) 5 0 [2, min 1 i.minor.toNat, Nat.land (seen.od 0x4012 0 2) i.features.toNat]
        let upState := State.modPort n (fun x => { x with ident := some i }) (agreed.setPortState n 4)
        exec (.ident p i) s = .next (upState.pump n (upState.port n).queue.length)) ∧
      (st = 3 → heard.portState n = 3 → seen.identMatches n i = false → exec (.ident p i) s = .next (seen.quarantine n i)) ∧
      (st = 4 → heard.portState n = 4 → (heard.port n).ident ≠ some i → exec (.ident p i) s = .next (heard.quarantine n i)) ∧
      (st = 4 ∨ st = 5 → heard.portState n ≠ 3 → heard.portState n = 5 ∨ (heard.port n).ident = some i → exec (.ident p i) s = .next heard) ∧
      (st < 3 ∨ 5 < st → exec (.ident p i) s = .next s)) ∧
    (st < 3 → exec (.portDown p) s = .next s) ∧
    (3 ≤ st → (n ≠ 0 ∨ st ≠ 4 ∨ s.twin = none) → exec (.portDown p) s = .next (s.retrain n)) ∧
    (∀ t, n = 0 → st = 4 → s.twin = some t →
      let u := s.retrain 0
      (t = u.admitting → exec (.portDown p) s = .next (u.probe t)) ∧
      (t ≠ u.admitting → exec (.portDown p) s =
        .next (u.mirrorTo 0x0A (roleBody 5 (u.ownIndex.getD 0xFFFF) t (u.od 0x4111 0 0)) u.admitting))) ∧
    (∀ rq : Requester,
      let idx := 0x4000 + n
      (Accepted s rq .command idx 2 [1] → exec (.portRetrain rq p) s = .next ((s.retrain n).commanded rq idx 2 [1])) ∧
      (Accepted s rq .command idx 2 [2] →
        (s.stepRunning = true ∨ (∃ o ∈ s.sending, o.port = n) →
          exec (.portDisable rq p) s = .next ((s.setOd idx 1 41 1).commanded rq idx 2 [2])) ∧
        (s.stepRunning = false → (∀ o ∈ s.sending, o.port ≠ n) →
          exec (.portDisable rq p) s = .next (((s.setOd idx 1 42 1).lowerPort n 0).commanded rq idx 2 [2]))) ∧
      (Accepted s rq .command idx 2 [3] →
        let u := (s.setOd idx 1 41 0).setOd idx 1 42 0
        (u.portState n = 0 → exec (.portEnable rq p) s = .next ((u.retrain n).commanded rq idx 2 [3])) ∧
        (u.portState n ≠ 0 → exec (.portEnable rq p) s = .next (u.commanded rq idx 2 [3]))) ∧
      (∀ entry : List Byte, Accepted s rq .write 0x4010 (n + 1) entry →
        (3 < leAt entry 0 1 → exec (.neighbourEntryWrite rq p entry) s = .next (s.answer rq codeRange)) ∧
        (leAt entry 0 1 ≤ 3 → exec (.neighbourEntryWrite rq p entry) s =
          .next (((s.putValue 0 0x4010 (n + 1) (patch (patch entry 2 [0, 0]) 10 [0, 0])).retrain n).written rq))))

/-- On a port neither UP nor in QUARANTINE, DATA, LACK, LNAK, IDLE and the link timers change nothing. DATA is counted and heard; the frame that is next in sequence is taken: the link moves to its number, its granules are owed, it goes on to its transfer, and with the sixteenth since the last LACK one is sent; a frame already received is discarded; one past a gap, with a bad CRC or in an uncorrectable codeword asks for a replay by LNAK with the last number in order, once until the expected frame comes, and is discarded; CRC errors, corrected and uncorrectable codewords are counted, and the sixteenth uncorrectable one in 1 ms takes the port down; a packet of another rack that R339 refuses is discarded above the link. LACK and IDLE hand back what their link header carries, and a DATA frame that is taken does so last: the acknowledged frames leave the retry buffer, credit returns to its class and waiting frames go; a frame that is discarded hands back nothing (log 226). LNAK takes out the acknowledged frames and replays the rest in order, each counted, and an eighth replay of a frame takes the port down; so does LINK_REPLAY_TIMEOUT once no acknowledgement has advanced for 1 us. LACK_TIMER 200 ns after the last LACK returns all credit owed, a LACK for each class; but none of class BULK while the staging of a steep over the fabric has no room for one more chunk. IDLE_TIMER sends IDLE. Commands that complete here, exec answering a next state with their own effect under hypotheses on state and operands alone: data, lack, lnak, idle, linkReplayTimeout, lackTimer, idleTimer. -/
def Obligations.FramesAreAcknowledgedAndReplayed : Prop :=
  ∀ (s : State) (p : PortId),
    let n := p.toNat
    let open_ := s.portState n = 4 ∨ s.portState n = 5
    let keep := s.port n
    let counted := s.bump (0x4000 + n) 6 1 1
    (¬ open_ →
      (∀ q h b l e, exec (.data p q h b l e) s = .next s) ∧ (∀ a c g, exec (.lack p a c g) s = .next s) ∧ (∀ a, exec (.lnak p a) s = .next s) ∧
      (∀ b, exec (.idle ⟨p, b⟩) s = .next s) ∧ exec (.linkReplayTimeout p) s = .next s ∧ exec (.lackTimer p) s = .next s ∧ exec (.idleTimer p) s = .next s) ∧
    (open_ → ∀ (q : BitVec 32) (h : TransportHdr) (b : Option StepHdr) (l : List Byte) (e : FrameFaults),
      let heard := (counted.modPort n fun x => { x with heardAt := s.elapsed }).bump (0x4000 + n) 6 4 e.corrected.toNat
      let x := heard.port n
      let past := q.toNat ≠ (x.rxSeq + 1) % 2 ^ 32
      let foreign := h.rack.toNat ≠ s.od 0x4011 0 0
      let granules := ceilDiv (64 + (if foreign then 48 else 0) + l.length + (if b.isSome then 192 else 0) + 4) 512
      let c := h.cls.toNat
      let linked := heard.setPort n { x with rxSeq := q.toNat, gap := false, sinceAck := x.sinceAck + 1, owed := setAt c (x.owed.getD c 0 + granules) x.owed }
      let taken := if e.ip = true ∧ foreign then linked else linked.takeData n h b l e.parity
      let asked (u : State) : State := if (u.port n).gap = true then u
        else ((u.modPort n fun y => { y with gap := true }).bump (0x4000 + n) 6 0 1).emit (.linkControl n 3 (u.port n).rxSeq 0 0)
      (e.uncorrectable = true → exec (.data p q h b l e) s = .next ((asked heard).badCodeword n)) ∧
      (e.uncorrectable = false → e.crc = true → exec (.data p q h b l e) s = .next (asked (heard.bump (0x4000 + n) 6 2 1))) ∧
      (e.uncorrectable = false → e.crc = false →
        (¬ past → (taken.port n).sinceAck < 16 → exec (.data p q h b l e) s = .next (taken.handBack n e.back)) ∧
        (¬ past → 16 ≤ (taken.port n).sinceAck → exec (.data p q h b l e) s = .next ((taken.sendLack n).handBack n e.back)) ∧
        (past → (x.rxSeq + 2 ^ 32 - q.toNat) % 2 ^ 32 < 2 ^ 31 → exec (.data p q h b l e) s = .next heard) ∧
        (past → 2 ^ 31 ≤ (x.rxSeq + 2 ^ 32 - q.toNat) % 2 ^ 32 → exec (.data p q h b l e) s = .next (asked heard)))) ∧
    (let bad := (s.port n).fecAt.filter (fun t => decide (s.elapsed < t + 1000000)) ++ [s.elapsed]
     let noted := (s.bump (0x4000 + n) 6 5 1).modPort n fun x => { x with fecAt := bad }
     s.badCodeword n = if 16 ≤ bad.length then noted.portLost n else noted) ∧
    (open_ → ∀ ack : BitVec 32,
      let left := keep.retry.filter fun f => 2 ^ 31 ≤ (ack.toNat + 2 ^ 32 - f.seq) % 2 ^ 32
      let acked := (counted.modPort n fun x => { x with heardAt := s.elapsed }).modPort n fun x =>
        { x with retry := left, ackAt := if left.length < keep.retry.length then s.elapsed else keep.ackAt }
      (∀ (cls : BitVec 2) (g : BitVec 14),
        let credited := acked.modPort n fun x => { x with credit := setAt cls.toNat (x.credit.getD cls.toNat 0 + g.toNat) x.credit }
        exec (.lack p ack cls g) s = .next (credited.pump n keep.queue.length) ∧
        exec (.idle ⟨p, ⟨ack, cls, g⟩⟩) s = .next (credited.pump n keep.queue.length) ∧
        (counted.modPort n fun x => { x with heardAt := s.elapsed }).handBack n ⟨ack, cls, g⟩ = credited.pump n keep.queue.length) ∧
      exec (.lnak p ack) s = .next (acked.replay n)) ∧
    (let again := keep.retry.map fun f => { f with replays := f.replays + 1 }
     let u := ((s.setPort n { keep with retry := again, ackAt := s.elapsed }).bump (0x4000 + n) 6 3 again.length).bump (0x4000 + n) 6 0 again.length
     let sent := { u with out := u.out ++ again.map fun f => Out.data n (u.wire n f) }
     ((∀ f ∈ again, f.replays < 8) → s.replay n = sent) ∧ ((∃ f ∈ again, 8 ≤ f.replays) → s.replay n = sent.portLost n)) ∧
    (open_ → keep.retry ≠ [] → keep.ackAt + 1000 ≤ s.elapsed → exec (.linkReplayTimeout p) s = .next (s.replay n)) ∧
    (keep.retry = [] ∨ s.elapsed < keep.ackAt + 1000 → exec (.linkReplayTimeout p) s = .next s) ∧
    (open_ → keep.lackAt + 200 ≤ s.elapsed →
      let owed := ([0, 1, 2].map fun c => (c, keep.owed.getD c 0)).filter fun e => e.2 != 0 && s.mayReturn e.1
      let kept := [0, 1, 2].map fun c => if s.mayReturn c = true then 0 else keep.owed.getD c 0
      let u := s.setPort n { keep with owed := kept, sinceAck := 0, lackAt := s.elapsed }
      exec (.lackTimer p) s = .next ((if owed = [] then [(0, 0)] else owed).foldl (fun u e =>
        (u.bump (0x4000 + n) 6 0 1).emit (.linkControl n 2 keep.rxSeq e.1 e.2)) u)) ∧
    (∀ c, s.mayReturn c = false ↔ c = 2 ∧ ∃ j, s.steep = some j ∧ j.kind = 2 ∧
      2 ^ 20 * s.od 0x5026 0 0 < ((j.arrays.filter fun a => a.phase == 0 || a.phase == 1).length + 1) * 264272) ∧
    (s.elapsed < keep.lackAt + 200 → exec (.lackTimer p) s = .next s) ∧
    (open_ → exec (.idleTimer p) s = .next ((s.bump (0x4000 + n) 6 0 1).emit (.linkControl n 5 keep.rxSeq 0 0)))

/-- Granules granted to a transfer are as many as asked, from what is free of its port and class reserve first, the rest, never of CTL, from the shared part within its total and the BULK limit. TRANSFER_INCOMPLETE_TIMEOUT discards an accepted transfer still incomplete after 10 us and counts it. For a transfer id not being sent, or an endpoint it does not owe, ACK, NACK, NOBUF_RETRY, DELIVERY_TIMEOUT and RETRY_LIMIT change nothing. ACK takes the endpoint off; the last one counts the delivery and lets waiting port commands act. NACK is counted; NOBUF sets the endpoint down for a retry after the interval of the class, one attempt for all that refuse; any other reason fails the transfer there. NOBUF_RETRY, once the interval is over and attempts are left, sends it again to those that refused; DELIVERY_TIMEOUT after the timeout of the rack or across racks to those silent, reporting them where it is an ACT, an attempt counted. RETRY_LIMIT fails it at every endpoint owed. How an attempt is counted is the model's (NOTES.md). Commands that complete here, exec answering a next state with their own effect under hypotheses on state and operands alone: ack, nack, transferIncompleteTimeout, nobufRetry, deliveryTimeout, retryLimit. -/
def Obligations.TransfersAreDeliveredOrFail : Prop :=
  ∀ s : State,
    (∀ p c n : Nat,
      let free := s.classReserve c - ((s.holdings.filter fun h => h.port == p && h.cls == c).map (·.reserve)).sum
      let fits (sh : Nat) : Prop := c ≠ 0 ∧ s.sharedUsed (p / 4) (fun _ => true) + sh ≤ s.sharedTotal ∧
        (c = 2 → s.sharedUsed (p / 4) (· == 2) + sh ≤ s.inForce 0x4200 1 2)
      (n ≤ free → s.findGranules p c n = some (n, 0)) ∧
      (free < n → fits (n - free) → s.findGranules p c n = some (free, n - free)) ∧
      (free < n → ¬ fits (n - free) → s.findGranules p c n = none)) ∧
    (∀ (src : BitVec 16) (tid : BitVec 32),
      ((∀ r ∈ s.receiving, r.tid = tid.toNat → r.src % 65536 = src.toNat → r.complete = true ∨ s.elapsed < r.since + 10000) →
        exec (.transferIncompleteTimeout src tid) s = .next s) ∧
      (∀ r, (s.receiving.find? fun r => r.src % 65536 == src.toNat && r.tid == tid.toNat) = some r → r.complete = false → r.since + 10000 ≤ s.elapsed →
        exec (.transferIncompleteTimeout src tid) s =
          .next ({ s with receiving := s.receiving.filter fun x => !(x.src == r.src && x.tid == r.tid) }.bump 0x4202 0 6 1))) ∧
    (∀ tid : BitVec 32, (∀ o ∈ s.sending, o.hdr.tid ≠ tid) →
      (∀ src, exec (.ack src tid) s = .next s ∧ ∀ r, exec (.nack src tid r) s = .next s) ∧
      exec (.nobufRetry tid) s = .next s ∧ exec (.deliveryTimeout tid) s = .next s ∧ exec (.retryLimit tid) s = .next s) ∧
    (∀ (tid : BitVec 32) (o : Sending), s.sendingOf tid.toNat = some o →
      let limit := s.od 0x4201 0 2
      let silent := o.left.filter fun e => !o.refused.contains e
      (∀ src : BitVec 16,
        ((∀ e ∈ o.left, e % 65536 ≠ src.toNat) → exec (.ack src tid) s = .next s ∧ ∀ r, exec (.nack src tid r) s = .next s) ∧
        (∀ e, o.target src.toNat = some e →
          (let u := ({ s with suspects := s.suspects.filter (· != e) }.modSending tid.toNat fun x => { x with acked := true }).strike tid.toNat [e]
           ((∃ x ∈ u.sending, x.hdr.tid = tid) → exec (.ack src tid) s = .next u) ∧
           ((∀ x ∈ u.sending, x.hdr.tid ≠ tid) → exec (.ack src tid) s = .next (u.bump 0x4202 0 1 1).settlePorts)) ∧
          (∀ r, r ≠ .nobuf → exec (.nack src tid r) s = .next ((s.bump 0x4202 0 2 1).failAt o [e] (nackCode r))) ∧
          (let wait := if kindClass o.hdr.kind.toNat = 2 then s.od 0x4201 0 1 else s.od 0x4201 0 0
           let setDown (x : Sending) : Sending := { x with
             refused := (x.refused ++ [e]).eraseDups, tries := (if x.retryAt.isNone then x.tries + 1 else x.tries),
             retryAt := some (x.retryAt.getD (s.elapsed + wait)) }
           exec (.nack src tid .nobuf) s = .next ((s.bump 0x4202 0 2 1).modSending tid.toNat setDown)))) ∧
      (o.retryAt = none → exec (.nobufRetry tid) s = .next s) ∧
      (∀ t, o.retryAt = some t →
        (s.elapsed < t ∨ limit ≤ o.tries → exec (.nobufRetry tid) s = .next s) ∧
        (t ≤ s.elapsed → o.tries < limit → exec (.nobufRetry tid) s = .next (s.sendAgain tid.toNat o.refused))) ∧
      (let wait := if ∀ e ∈ silent, e / 65536 = s.endpoint / 65536 then s.od 0x4201 0 3 else s.od 0x4201 0 4
       (silent = [] ∨ s.elapsed < o.sentAt + wait ∨ limit ≤ o.tries → exec (.deliveryTimeout tid) s = .next s) ∧
       (silent ≠ [] → o.sentAt + wait ≤ s.elapsed → o.tries < limit →
         let counted := s.modSending tid.toNat fun x => { x with tries := x.tries + 1 }
         let u := if o.hdr.kind = 1 then silent.foldl (fun s e => s.reportPosition e) counted else counted
         (u.od 0x4201 0 2 ≤ o.tries + 1 → exec (.deliveryTimeout tid) s = .next u) ∧
         (o.tries + 1 < u.od 0x4201 0 2 → exec (.deliveryTimeout tid) s = .next (u.sendAgain tid.toNat silent)))) ∧
      (o.tries < limit → exec (.retryLimit tid) s = .next s) ∧
      (limit ≤ o.tries → exec (.retryLimit tid) s = .next ((s.failAt o o.refused 1).failAt o silent 0)))

/-- The write of the last frame of a transfer being received adds its id to those of its source and keeps the last 1,024 of them, the other sources' as they were, and an ACK goes to the source. A frame, received whole and in order on an UP port and addressed to this part, of a transfer whose id is recorded for its source is discarded: what is being received, what is recorded and the steps stay as they are, and nothing else follows but, with its last frame, an ACK to the source and one more duplicate counted, the LACK that may be due, and what its link header hands back. -/
def Obligations.DuplicatesAreAcknowledgedAndDiscarded : Prop :=
  ∀ s : State,
    (∀ (src tid offset : Nat) (payload : List Byte) (bad : Bool) (x : Receiving),
      s.receivingOf src tid = some x → x.complete = false → offset ∉ x.offsets → ceilDiv x.hdr.len.toNat 4096 ≤ x.offsets.length + 1 →
      ∃ u : State, s.fillTransfer src tid offset payload bad = (if x.hdr.kind = 1 then u.sendAnswer 0x0A src tid 0 else (u.sendAnswer 0x0A src tid 0).dropReceiving src tid) ∧
        u.completed.get [] src = (s.completed.get [] src ++ [tid]).drop ((s.completed.get [] src).length + 1 - 1024) ∧
        (∀ other, other ≠ src → u.completed.get [] other = s.completed.get [] other)) ∧
    (∀ (p : PortId) (q : BitVec 32) (h : TransportHdr) (b : Option StepHdr) (l : List Byte) (e : FrameFaults),
      let n := p.toNat
      let src := 65536 * h.rack.toNat + h.src.toNat
      e.uncorrectable = false → e.crc = false → e.parity = false → (e.ip = false ∨ h.rack.toNat = s.od 0x4011 0 0) →
      s.portState n = 4 → q.toNat = ((s.port n).rxSeq + 1) % 2 ^ 32 → h.kind ≠ 0x0A → h.kind ≠ 0x0B →
      (if h.mcast then h.mask.toNat.testBit (s.endpoint % 65536) = true ∧ s.endpoint % 65536 < 64 else h.dst.toNat = s.endpoint % 65536) →
      h.tid.toNat ∈ s.completed.get [] src →
      ∃ u : State, u.receiving = s.receiving ∧ u.completed = s.completed ∧ u.steps = s.steps ∧ u.requests = s.requests ∧ u.dict = ((s.bump (0x4000 + n) 6 1 1).bump (0x4000 + n) 6 4 e.corrected.toNat).dict ∧
        (let t := if h.last then (u.bump 0x4202 0 5 1).sendAnswer 0x0A src h.tid.toNat 0 else u
         exec (.data p q h b l e) s = .next ((if 16 ≤ (t.port n).sinceAck then t.sendLack n else t).handBack n e.back)))

/-- ACT of a transfer that is not complete here changes nothing. A complete one leaves the pool; for a step past, or failed since the transfer began, it counts late; else it opens its step, or raises its slip count, and the first copy of a slot joins the inputs with its source noted, and schedules a replay that was due for want of it; a second copy is dropped with its source noted, and compared where its sender, another part, serves a LOCKSTEP entry: a comparison is counted, for the entry too, and a disagreement a TWIN record. SLIP raises a step's slip count, counted, and never lowers it; one that comes of a replay counts at the admitting part. COMMIT from a position takes it off what is kept for the step; what no position owes goes. ABANDON from the admitting part with stage 0 drops the step; from a HEAD position it asks the admitting part for a replay, until the limit: the head input kept for it goes out again, or the step is scheduled anew where it failed there; from another entry, where an input for it is kept, that goes out again, after the declaration where one is suspected; with none kept, or at the slip limit, the admitting part restarts the step. The reading of ABANDON is the model's (NOTES.md). Commands that complete here, exec answering a next state with their own effect under hypotheses on state and operands alone: act, slip, abandon, commit. -/
def Obligations.StepInputsAndNoticesAreTaken : Prop :=
  ∀ s : State,
    (∀ (src : BitVec 16) (tid : BitVec 32),
      ((∀ r ∈ s.receiving, ¬ (r.src % 65536 = src.toNat ∧ r.tid = tid.toNat ∧ r.hdr.kind = 1 ∧ r.complete = true)) → exec (.act src tid) s = .next s) ∧
      (∀ x, (s.receiving.find? fun r => r.src % 65536 == src.toNat && r.tid == tid.toNat && r.hdr.kind == 1 && r.complete) = some x →
        let step := x.hdr.step.toNat
        let u := { s with receiving := s.receiving.filter fun r => !(r.src == x.src && r.tid == x.tid) }
        let r := s.stepRec step
        let late := (r.phase ≠ .waiting ∧ r.phase ≠ .running ∧ r.phase ≠ .failed) ∨ (r.phase = .failed ∧ x.since < r.boundary * 10)
        (late → exec (.act src tid) s = .next (u.bump 0x4202 0 7 1)) ∧
        (¬ late →
          let v := match x.stepHdr with
            | none => u
            | some b => if r.hdr = none then (u.openStep step x.hdr b).takePartner x.src step else u.takeK step b.k.toNat
          ((∀ i ∈ (v.stepRec step).inputs, i.slot ≠ x.hdr.slot.toNat) → exec (.act src tid) s = .next (v.joinInput x step)) ∧
          (∀ i, ((v.stepRec step).inputs.find? fun i => i.slot == x.hdr.slot.toNat) = some i → exec (.act src tid) s = .next (v.secondCopy x i step))))) ∧
    (∀ (x : Receiving) (step : Nat), (s.stepRec step).phase = .waiting → s.shadowed step = false →
      let input : StepInput := { slot := x.hdr.slot.toNat, src := x.src, tid := x.tid, data := x.data, poisoned := x.poisoned, port := x.port, reserve := x.reserve,
                                 shared := x.shared, forwarded := false, waiting := [] }
      let v := s.modStep step fun r => { r with inputs := r.inputs ++ [input], sources := (r.sources ++ [x.src]).eraseDups }
      (v.replayDue step = false → s.joinInput x step = v) ∧
      (v.replayDue step = true → s.joinInput x step = (if v.isAdmitting then v.countReplay step else v).scheduleReplay step)) ∧
    (∀ (x : Receiving) (i : StepInput) (step : Nat),
      let lock := ∃ n e, s.entryIndexOf x.src = some n ∧ s.entryAt n = some e ∧ e.mode = 2
      let noted := s.modStep step fun r => { r with sources := (r.sources ++ [x.src]).eraseDups }
      (¬ lock ∨ i.src = x.src → s.secondCopy x i step = noted) ∧
      (lock → i.src ≠ x.src →
        let found := noted.compare step i.slot i.data x.data
        let free (y : StepInput) : StepInput := if y.slot = i.slot ∧ y.forwarded = true ∧ y.waiting = [] then { y with reserve := 0, shared := 0 } else y
        let u := (noted.bump 0x4107 0 0 1).modStep step fun r => { r with matched := r.matched ++ [i.slot], inputs := r.inputs.map free }
        let v := u.noteCheck step ((u.entryIndexOf x.src).getD 0xFFFF) found.2
        (found.2 = false → s.secondCopy x i step = v) ∧
        (found.2 = true → s.secondCopy x i step = (v.bump 0x4107 0 2 1).raise { kind := .twin, path := pathDie 0 0, detail := found.1, step := step }))) ∧
    (∀ (step : BitVec 64) (k : SlipCount),
      let u := if k.replay = true ∧ s.isAdmitting = true then s.countReplay step.toNat else s
      (k.k.toNat ≤ (u.stepRec step.toNat).k → exec (.slip step k) s = .next u) ∧
      ((u.stepRec step.toNat).k < k.k.toNat →
        exec (.slip step k) s = .next ((u.bump 0x2204 0 5 1).modStep step.toNat fun r => { r with k := k.k.toNat }))) ∧
    (∀ (src : BitVec 16) (step : BitVec 64), Completes (.commit src step) s fun t =>
      SameBut [.fabric] s t ∧ t = { s with retained := t.retained } ∧
      (∀ r ∈ s.retained, r.left ≠ [] → r.step ≠ step.toNat → r ∈ t.retained) ∧
      (∀ r ∈ t.retained, r.left ≠ [] ∧ (r.step = step.toNat → ∀ e ∈ r.left, e % 65536 ≠ src.toNat) ∧
        ∃ q ∈ s.retained, q.step = r.step ∧ q.send = r.send ∧ ∀ e, e ∈ r.left ↔ e ∈ q.left ∧ (q.step = step.toNat → e % 65536 ≠ src.toNat))) ∧
    (∀ (src : BitVec 16) (step : BitVec 64) (stage : Byte),
      let id := step.toNat
      let ep := 65536 * (s.endpoint / 65536) + src.toNat
      let admits := ep = s.admitting ∧ stage = 0
      ((∀ e ∈ s.entries, ep ∉ e.members) →
        (admits → exec (.abandon src step stage) s = .next (s.dropStep id).settleBarrier.settleRetire) ∧ (¬ admits → exec (.abandon src step stage) s = .next s)) ∧
      (∀ e i, (s.entries.zipIdx.find? fun e => e.1.members.contains ep) = some (e, i) →
        (admits → ep ≠ s.endpoint → exec (.abandon src step stage) s = .next (s.dropStep id).settleBarrier.settleRetire) ∧
        (¬ admits ∨ ep = s.endpoint →
          (e.head = true → s.isAdmitting = false → exec (.abandon src step stage) s = .next s) ∧
          (e.head = true → s.isAdmitting = true →
            let counted := s.countReplay id
            let kept := counted.retains id i
            (counted.od 0x4105 0 0 < counted.replaysOf id → exec (.abandon src step stage) s = .next counted) ∧
            (counted.replaysOf id ≤ counted.od 0x4105 0 0 →
              (kept = true → exec (.abandon src step stage) s = .next (counted.resendOrWait id i e)) ∧
              (kept = false → (counted.stepRec id).phase = .failed → exec (.abandon src step stage) s = .next (counted.scheduleReplay id)) ∧
              (kept = false → (counted.stepRec id).phase ≠ .failed → exec (.abandon src step stage) s = .next counted))) ∧
          (e.head = false →
            let limit := s.isAdmitting = true ∧ s.od 0x2203 0 0 ≤ (s.stepRec id).k
            let kept := ∃ r ∈ s.retained, r.step = id ∧ ∃ x ∈ r.left, x ∈ e.members
            let suspected := ∃ x ∈ e.members, x ∈ s.suspects
            (limit ∨ ¬ kept → exec (.abandon src step stage) s = .next (s.restartStep id)) ∧
            (¬ limit → kept → suspected → exec (.abandon src step stage) s = .next { s with heldResends := s.heldResends ++ [(id, i)] }) ∧
            (¬ limit → kept → ¬ suspected → exec (.abandon src step stage) s = .next (s.resendFor id i))))))

/-- At a part that does not keep its twin's records, KV_ENTRY, KV_COMMIT, STEP_DONE, SHADOW_IN and CONTEXT change nothing. At one that does, KV_ENTRY writes its slots into their page, whose header is then the record's and whose frame is the page's own or a free one, poison with poison; without a free frame the context is LOST; free frames below the low mark are then made up for; KV_COMMIT commits its nodes to the list, or with a count of 0 sets the committed length; REQUEST replaces what is kept of the request; STEP_DONE marks the step; CONTEXT edits the record. A REQUEST of request 0 is a sampler's state, put at the twin of the draft model and at the admitting part; one of a request is kept at a serving part as the one record of its context. CONTEXT of tier 3 asks for a copy: a part that holds the context HOT or WARM and can read it sends it whole; else a standby answers LOST (and reports it LOST where it has nothing of it), a serving part reports it LOST. COPY of a HOT context is put, is HOT and is reported so wherever the context was LOST or missing and the pair is in service; else a standby keeps it. SHADOW_IN keeps an input of a step to be checked, or is counted as skipped while another runs; SHADOW_RUN of a complete one kindles the hearths, and once they are HOT and free runs the step on them, with a scratch of the pages, contexts and line states and nothing sent; SHADOW_OUT is kept until the run has ended, and then compared with its payloads slot by slot (at a TOKEN entry with the hidden state that comes with it), each check noted for the entry, a disagreement a TWIN record. The records of request 0, the COPY and CONTEXT details are the model's (NOTES.md). Commands that complete here, exec answering a next state with their own effect under hypotheses on state and operands alone: kvEntry, kvCommit, context, request, stepDone, copy, shadowIn, shadowRun, shadowOut. -/
def Obligations.StandbysMirrorAndShadow : Prop :=
  ∀ s : State,
    (s.takesMirror = false →
      (∀ d h e, exec (.kvEntry d h e) s = .next s) ∧ (∀ c l h f m n, exec (.kvCommit c l h f m n) s = .next s) ∧ (∀ r, s.isAdmitting ≠ (r.req == 0) → exec (.request r) s = .next s) ∧
      (∀ r, exec (.copy (.request r)) s = .next s) ∧ (∀ c e, e.tier ≠ 3 → exec (.context c e) s = .next s) ∧
      (∀ k, exec (.stepDone k) s = .next s) ∧ (∀ k h n i, exec (.shadowIn k h n i) s = .next s)) ∧
    (s.takesMirror = true →
      (∀ (die : BitVec 1) (h : PageHdr) (entries : List KvSlot),
        let u := s.haveCtx h.ctx.toNat h.tenant.toNat h.kvGen.toNat
        ∀ x, u.ctx h.ctx.toNat = some x →
        let l := x.list h.layer.toNat h.head.toNat
        let n := h.first.toNat / 64
        (u.pageFrame l die.toNat n = none → exec (.kvEntry die h entries) s = .next (u.loseCtx h.ctx.toNat).relieve) ∧
        (∀ f, u.pageFrame l die.toNat n = some f → ∃ t : State, exec (.kvEntry die h entries) s = .next t.relieve ∧
          t.pending = s.pending ∧ (t.ctx h.ctx.toNat) = some (x.setList { l with die := die.toNat, frames := l.frames.put none n (some f) }) ∧
          (∀ g, g ≠ f → t.page g = u.page g) ∧
          ∃ p, t.page f = some p ∧ p.tenant = h.tenant.toNat ∧ p.kScale = h.kScale.toNat ∧ p.vScale = h.vScale.toNat ∧ p.kvGen = h.kvGen.toNat ∧
            p.state = h.state.toNat ∧ ∀ (e : KvSlot), entries = [e] → p.slot e.slot.toNat = (e.k, e.v) ∧
              ∀ y ∈ t.slotLines f e.slot.toNat, t.stackLine.get 0 y = if e.poison = true then 2 else 0)) ∧
      (∀ (c : BitVec 32) (l : BitVec 6) (h : BitVec 4) (f : BitVec 32) (m : BitVec 4) (nodes : List (BitVec 5)),
        (m = 0 → exec (.kvCommit c l h f m nodes) s = .next (s.modCtx c.toNat fun x =>
          { (x.setList { x.list l.toNat h.toNat with committed := f.toNat }) with committed := f.toNat })) ∧
        (m ≠ 0 → exec (.kvCommit c l h f m nodes) s = .next (s.commitList c.toNat l.toNat h.toNat f.toNat m.toNat (nodes.map (·.toNat))))) ∧
      (∀ r : ReqMirror, exec (.copy (.request r)) s = exec (.request r) s ∧
        (r.req ≠ 0 → exec (.request r) s = .next { s with mirrored := s.mirrored.put none r.req.toNat (some r) })) ∧
      (∀ k : BitVec 64, exec (.stepDone k) s = .next (s.modStep k.toNat fun r => { r with stepDone := true })) ∧
      (∀ (c : BitVec 32) (e : ContextEdit), e.tier ≠ 3 → exec (.context c e) s = .next (s.editCtx c.toNat e)) ∧
      (∀ (c : BitVec 32) (e : ContextEdit) (d : BitVec 1) l, ¬((s.ctx c.toNat).all (·.tier == .lost) = true ∧ e.tier = 0 ∧ s.od 0x4102 0 0 = 0) →
        exec (.copy (.context c e d l)) s =
          .next (l.foldl (fun s p => s.mirrorSlots d.toNat p.1 p.2) ((s.clearCopy c.toNat).editCtx c.toNat e)).relieve)) ∧
    (∀ r : ReqMirror,
      (r.req = 0 → s.takesMirror = true ∨ s.isAdmitting = true → ∃ x, exec (.request r) s = .next { s with samplers := s.samplers.put none r.ctx.toNat (some x) } ∧
        x.mode = r.mode.toNat ∧ x.miss = r.miss.toNat ∧ x.left = r.fallback.toNat ∧ x.steps = r.steps.toNat ∧ x.accepted = r.accepted.toNat ∧
        x.classT = (r.entry.cls == 2) ∧ x.root = (r.rest.head?).map (·.toNat) ∧ x.step = r.lastStep.toNat ∧ x.m = r.m.toNat ∧
        x.nodes = r.nodes.map (·.toNat) ∧ x.gram = r.grammar.toNat) ∧
      (r.req ≠ 0 → s.takesMirror = false → s.isAdmitting = false → ∃ l, exec (.request r) s = .next { s with mirrored := l } ∧
        l.get none r.req.toNat = some r ∧ ∀ n q, n ≠ r.req.toNat → l.get none n = some q → q.ctx ≠ r.ctx)) ∧
    (∀ (c : BitVec 32) (e : ContextEdit),
      (e.tier = 3 →
        (s.twin = none → exec (.context c e) s = .next s) ∧
        (∀ twin, s.twin = some twin →
          (s.ctx c.toNat = none → exec (.context c e) s = .next (s.noCopy c.toNat twin e.tenant.toNat e.kvGen.toNat)) ∧
          (∀ x, s.ctx c.toNat = some x →
            (x.tier ≠ .hot → x.tier ≠ .warm → exec (.context c e) s = .next (s.noCopy c.toNat twin x.tenant x.kvGen)) ∧
            (x.tier = .hot ∨ x.tier = .warm →
              let t := s.readCtx x
              ∀ y, t.ctx c.toNat = some y →
                (y.tier = .hot ∨ y.tier = .warm → exec (.context c e) s = .next (t.mirrorTo 6 (t.copyBody c.toNat y) twin)) ∧
                (y.tier ≠ .hot → y.tier ≠ .warm → exec (.context c e) s = .next (t.noCopy c.toNat twin x.tenant x.kvGen)))))) ∧
      (∀ twin tenant g,
        (s.inService = true → s.noCopy c.toNat twin tenant g = s.tierReport c.toNat 1) ∧
        (s.inService = false → let t := s.mirrorTo 3 (lostBody c.toNat tenant g) twin
          s.noCopy c.toNat twin tenant g = if (t.ctx c.toNat).all (·.tier == .lost) then t.tierReport c.toNat 1 else t)) ∧
      (∀ d l,
        let put := l.foldl (fun s p => s.mirrorSlots (BitVec.toNat (w := 1) d) p.1 p.2) ((s.clearCopy c.toNat).editCtx c.toNat e)
        (e.tier = 0 → (s.ctx c.toNat).all (·.tier == .lost) = true → s.twin.isSome = true → s.od 0x4102 0 0 = 0 →
          exec (.copy (.context c e d l)) s = .next ((put.setTier c.toNat .hot 1).tierReport c.toNat 0).relieve) ∧
        (s.takesMirror = false → ¬((s.ctx c.toNat).all (·.tier == .lost) = true ∧ e.tier = 0 ∧ s.twin.isSome = true ∧ s.od 0x4102 0 0 = 0) →
          exec (.copy (.context c e d l)) s = .next s))) ∧
    (∀ (k : BitVec 64) (h : StepHdr) (n : BitVec 16) (i : List Byte),
      let add (x : Shadow) : Shadow := { x with inputs := x.inputs ++ [(n.toNat, i)] }
      let new : State := { s with shadow := some (add (Shadow.fresh k.toNat h)) }
      (s.takesMirror = true → s.od 0x4100 1 0 = 2 →
        (s.shadow = none → exec (.shadowIn k h n i) s = .next new) ∧
        (∀ x, s.shadow = some x →
          (x.running = true → x.ended = false →
            (x.step ≠ k.toNat → exec (.shadowIn k h n i) s = .next (s.bump 0x4107 0 1 1)) ∧
            (x.step = k.toNat → exec (.shadowIn k h n i) s = .next s)) ∧
          (x.running = false → x.step = k.toNat → exec (.shadowIn k h n i) s = .next { s with shadow := some (add x) }) ∧
          (x.running = false → x.step ≠ k.toNat → exec (.shadowIn k h n i) s = .next new) ∧
          (x.running = true → x.ended = true → exec (.shadowIn k h n i) s = .next new))) ∧
      (∀ x, s.shadow = some x → x.step = k.toNat →
        (x.running = true ∨ s.shadowComplete x = false ∨ s.programLoaded = false ∨ (s.stepRec x.step).hdr ≠ none → exec (.shadowRun k) s = .next s) ∧
        (x.running = false → s.shadowComplete x = true → s.programLoaded = true → (s.stepRec x.step).hdr = none →
          (s.hearthsFree = false → exec (.shadowRun k) s = .next s.kindleSetNow) ∧
          (s.hearthsFree = true → (∀ h ∈ s.kindleHearths, (s.hearth h).calendar = []) → s.headerAt (40 + 2 * (x.hdr.variant.toNat % 8)) 2 ≠ 0 → Completes (.shadowRun k) s fun t =>
            t.pending = s.pending ∧ t.pages = s.pages ∧ t.ctxs = s.ctxs ∧ t.sending = s.sending ∧
            (∃ y, t.shadow = some y ∧ y.step = x.step ∧ y.running = true ∧ y.pages = s.pages ∧ y.ctxs = s.ctxs ∧ y.lines = s.stackLine) ∧
            ∀ h ∈ s.kindleHearths, (t.hearth h).phase = .running ∧ (t.hearth h).step = x.step ∧
              (t.hearth h).pc = s.headerAt (40 + 2 * (x.hdr.variant.toNat % 8)) 2)) ∧
        ∀ theirs ours,
          let own := x.out.eraseDups
          let cmp := if (s.ownEntry.map Entry.token).getD false then s.compareBlocks x.step (b4Blocks theirs) (b4Blocks ours)
            else s.compareBlocks x.step (dataBlocks own theirs) (dataBlocks own (own.flatMap (·.2)))
          let u := ({ s with shadow := none }.bump 0x4107 0 0 1).noteCheck x.step (s.ownIndex.getD 0xFFFF) cmp.2
          (x.ended = false → exec (.shadowOut k theirs ours) s = .next { s with shadow := some { x with theirs := some (theirs, ours) } }) ∧
          (x.ended = true → cmp.2 = false → exec (.shadowOut k theirs ours) s = .next u) ∧
          (x.ended = true → cmp.2 = true → exec (.shadowOut k theirs ours) s = .next ((u.bump 0x4107 0 2 1).raise
            { kind := .twin, path := pathDie 0 0, detail := cmp.1, step := k.toNat }))) ∧
      (s.shadow = none ∨ (∃ x, s.shadow = some x ∧ x.step ≠ k.toNat) → exec (.shadowRun k) s = .next s ∧ ∀ a b, exec (.shadowOut k a b) s = .next s))

/-- ROLE_REPORT of another position is probed once by the admitting part; without an endpoint the admitting part marks its entry to be tested, unless a test is under way; at a position of the pair named the pair is SOLO and its shadow check dropped; else nothing. FAILURE_PROBE_TIMEOUT declares a probed position failed when no HEARTBEAT has come in the time of OD 0x4106; before, or without a probe, it changes nothing. ROLE_FAILED of another position declares it; ROLE_TAKEOVER, also of this one, makes this part act on the declaration. A declaration counts once: every part routes around the position; a standby that takes over raises ROLE 2; where the admitting part failed, its twin admits from then on, the table in force names it, and each part reports its generation again. The admitting part raises ROLE 1, voids the report of the position, takes up the requests of a generation that only it held, lists it as spare no longer, tells all parts and spares, lets a drained barrier hold, and assigns a spare to a place lost where recovery is enabled. MIRROR_HEARTBEAT answers the probe of its source, or is answered; a twin's role DRAINED makes the pair SOLO. ROLE_JOIN of an endpoint in no entry lists it as a spare; of one in an entry, it has failed no longer, gives cover only once its copy is complete (sequence 0xFFFFFFFF, log 214), every part hears of it, and a table puts it where its mode says: of LOCKSTEP in service with the copy. The ROLE records without an endpoint, to a pair and of the copy are the model's own. Commands that complete here, exec answering a next state with their own effect under hypotheses on state and operands alone: mirrorHeartbeat, roleFailed, roleTakeover, roleJoin, roleReport, failureProbeTimeout. -/
def Obligations.FailuresAreProbedAndDeclared : Prop :=
  ∀ s : State,
    (∀ (ep : BitVec 64) (e : BitVec 16) (q : BitVec 32),
      let n := ep.toNat
      (s.isAdmitting = false →
        (n = s.endpoint ∨ s.twin = some n → exec (.roleReport ep e q) s = .next (s.dropShadow.setPair 1)) ∧
        (n ≠ s.endpoint → s.twin ≠ some n → exec (.roleReport ep e q) s = .next s)) ∧
      (s.isAdmitting = true → n = 0 →
        (s.entryTest.isSome = true ∨ s.doubtful.contains e.toNat = true → exec (.roleReport ep e q) s = .next s) ∧
        (s.entryTest = none → s.doubtful.contains e.toNat = false →
          exec (.roleReport ep e q) s = .next { s with doubtful := s.doubtful ++ [e.toNat] })) ∧
      (s.isAdmitting = true → n ≠ 0 → n = s.endpoint → exec (.roleReport ep e q) s = .next s) ∧
      (s.isAdmitting = true → n ≠ 0 → n ≠ s.endpoint →
        ((∃ x ∈ s.probes, x.1 = n) ∨ n ∈ s.declared → exec (.roleReport ep e q) s = .next s) ∧
        ((∀ x ∈ s.probes, x.1 ≠ n) → n ∉ s.declared →
          exec (.roleReport ep e q) s = .next ({ s with probes := s.probes ++ [(n, s.elapsed)] }.sendHeartbeat n))) ∧
      exec (.roleTakeover ep e q) s = .next (s.positionFails n q.toNat) ∧
      (n = s.endpoint → exec (.roleFailed ep e q) s = .next s) ∧
      (n ≠ s.endpoint → exec (.roleFailed ep e q) s = .next (s.declareFailed n q.toNat)) ∧
      ((∀ x ∈ s.probes, x.1 ≠ n) → exec (.failureProbeTimeout ep) s = .next s) ∧
      (∀ p, (s.probes.find? fun p => p.1 == n) = some p →
        (s.elapsed < p.2 + 1000 * s.od 0x4106 0 0 → exec (.failureProbeTimeout ep) s = .next s) ∧
        (p.2 + 1000 * s.od 0x4106 0 0 ≤ s.elapsed → exec (.failureProbeTimeout ep) s = .next (s.declareFailed n (s.od 0x4111 0 0 + 1)))) ∧
      (s.isAdmitting = true → s.entryIndexOf n = none →
        (n ∈ s.spares ∨ 16 ≤ s.spares.length → exec (.roleJoin ep e q) s = .next s.recover) ∧
        (n ∉ s.spares → s.spares.length < 16 → exec (.roleJoin ep e q) s = .next (s.setSpares (s.spares ++ [n])).recover)) ∧
      (let copied := decide (q = 0xFFFFFFFF)
       let noted := { s with declared := s.declared.filter (· != n), syncing := if copied then s.syncing.filter (· != n) else
         if ((s.entryIndexOf n).bind s.entryAt).any (fun x => x.mode == 1 || x.mode == 2) && !s.syncing.contains n then s.syncing ++ [n] else s.syncing }
       (s.isAdmitting = true → ∀ i x, s.entryIndexOf n = some i → s.entryAt i = some x →
         let told := (noted.allParts.filter fun m => m != n && m != noted.endpoint).foldl (fun t m => t.mirrorTo 0x0A (roleBody 3 i n q.toNat) m) noted
         let service := if x.mode = 2 then (if copied then 3 else if x.pos0 = n then 2 else 1) else x.service
         (copied = true → x.mode ≠ 2 → exec (.roleJoin ep e q) s = .next told) ∧
         (copied = false ∨ x.mode = 2 → exec (.roleJoin ep e q) s = .next (told.issueTable (told.editTable i service none told.now)))) ∧
       (s.isAdmitting = false → (s.entryIndexOf n).isSome = true → exec (.roleJoin ep e q) s = .next noted)) ∧
      (s.isAdmitting = false → s.entryIndexOf n = none → exec (.roleJoin ep e q) s = .next s)) ∧
    (∀ n q : Nat,
      (n ∈ s.declared → s.positionFails n q = s ∧ s.declareFailed n q = s) ∧
      (n ∉ s.declared →
        let u := s.failPosition n q
        let raised := if s.od 0x4100 1 0 = 2 ∧ u.od 0x4100 1 0 = 1 then u.roleAlarm 2 else u
        let heir := ((s.entryIndexOf n).bind s.entryAt).bind fun e => e.members.find? fun m => m != n && !s.declared.contains m
        (n ≠ s.admitting ∨ heir = none → s.positionFails n q = raised) ∧
        (∀ h, n = s.admitting → heir = some h →
          let old := raised.blob 0x4110 0
          let named := patch old 16 (leBytes 8 h)
          let moved := (raised.setAdmitting h).setBlob 0x4110 0 (if old = [] then [] else patch named 28 (leBytes 4 (crc32 (named.take 28))))
          (h ≠ moved.endpoint → s.positionFails n q = moved.reportGeneration) ∧
          (h = moved.endpoint → s.positionFails n q = moved.becomeAdmitting.reportGeneration)) ∧
        (let v := s.positionFails n q
         (v.isAdmitting = false → s.declareFailed n q = v) ∧
         (v.isAdmitting = true →
           let w := (((v.roleAlarm 1).voidReport n).spareFails n).endGeneration ((v.genOf n).getD 0)
           let body := roleBody 2 ((s.entryIndexOf n).getD 0xFFFF) n (w.od 0x4111 0 0)
           s.declareFailed n q = (((w.allParts ++ w.spares).eraseDups.filter (· != w.endpoint)).foldl (fun t p => t.mirrorTo 0x0A body p) w).settleDrain.recover)))) ∧
    (s.recovery.isSome = true ∨ s.lostPlace = none ∨ s.od 0x4116 0 0 ≠ 1 ∨ s.spares = [] → s.recover = s) ∧
    (∀ i p x l, s.recovery = none → s.lostPlace = some (i, p) → s.od 0x4116 0 0 = 1 → s.spares = x :: l →
      s.recover = ({ s with recovery := some { entry := i, pos := p, spare := x, replace := false } }.roleAlarm 4).mirrorTo 0x0A
        (roleBody 4 i x (s.od 0x4111 0 0)) x) ∧
    (∀ (src : BitVec 16) (serial : BitVec 64) (role : Byte) (seq : BitVec 32),
      let ep := s.sourceOf src.toNat
      let heard := if s.probes.any (fun p => p.1 == ep) then { s with probes := s.probes.filter fun p => p.1 != ep } else s.sendHeartbeat ep
      let u := heard.loseCover ep
      (role ≠ 3 → exec (.mirrorHeartbeat src serial role seq) s = .next u) ∧
      (role = 3 → ((u.entryIndexOf ep).bind u.entryAt).any (fun e => e.serving.contains ep) = false →
        (u.twin = some ep → exec (.mirrorHeartbeat src serial role seq) s = .next (u.setOd 0x4102 0 0 1)) ∧
        (u.twin ≠ some ep → exec (.mirrorHeartbeat src serial role seq) s = .next u)) ∧
      (role = 3 → ((u.entryIndexOf ep).bind u.entryAt).any (fun e => e.serving.contains ep) = true →
        (u.isAdmitting = true → exec (.mirrorHeartbeat src serial role seq) s = .next (u.drainPart ep)) ∧
        (u.isAdmitting = false → exec (.mirrorHeartbeat src serial role seq) s = .next u)))

/-- ROLE_ASSIGN makes the spare it names steep the image of its entry from that entry's source, and ask the source for it; at the admitting part, with no recovery under way, it starts the replacement of a part in an entry; else it changes nothing. RECOVERY_COMPLETE of the recovery under way takes the spare off the list and applies a table with it in its place, in service alone, with its other half for SPLIT, with its twin for a replacement in LOCKSTEP. ENTRY_TEST of a MIRROR or LOCKSTEP entry without failed positions that has disagreed often enough runs its rounds: the position not in service (position 1 of LOCKSTEP) is tested while the other serves alone and the pair is SOLO, then the other in its place, and at the end the position tested last joins the pair again, with a ROLE record; where that no longer holds, the test ends; an entry not marked, or another under test, changes nothing. ROLE_DRAIN: a standby stops mirroring at once and is DRAINED, a part in service asks to be drained unless it is the only live copy, any other role is STATE. ROLE_RETURN and ROLE_RELEASE need DRAINED, ROLE_RETURN no calibration image that waits, ROLE_REPLACE a part in service, a free recovery and a listed spare. The messages of a drain and a replacement are the model's (NOTES.md). Commands that complete here, exec answering a next state with their own effect under hypotheses on state and operands alone: entryTest, roleAssign, recoveryComplete, roleDrain, roleReturn, roleRelease, roleReplace. -/
def Obligations.RolesAreAssignedTestedAndGiven : Prop :=
  ∀ s : State,
    (∀ (ep : BitVec 64) (entry : BitVec 16) (q : BitVec 32),
      let n := ep.toNat
      let i := entry.toNat
      let spare := n = s.endpoint ∧ s.od 0x4100 1 0 = 0
      (spare →
        let known := { s with assigned := some i }.setOd 0x4111 0 0 (max (s.od 0x4111 0 0) (if s.od 0x4111 0 0 = 0 then 0 else q.toNat - 1))
        let src := leAt (s.blob 0x4113 0) (24 * i) 8
        let img := leAt (s.blob 0x4113 0) (24 * i + 8) 8
        let steep := ((known.setOd 0x5023 0 0 src).setOd 0x5023 0 1 img).applySteep 2 .a
        (steep.1 ≠ 0 → exec (.roleAssign ep entry q) s = .next known) ∧
        (steep.1 = 0 → exec (.roleAssign ep entry q) s = .next (steep.2.send
          { kind := 6, cls := 0, targets := [src], payload := leBytes 8 img ++ leBytes 4 0xFFFFFFFF ++ leBytes 4 0 }).2)) ∧
      (¬ spare → s.isAdmitting = true → s.recovery = none → ∀ k x, s.entryIndexOf n = some k → s.entryAt k = some x →
        exec (.roleAssign ep entry q) s = .next (s.assignSpare k (if x.pos0 = n then 0 else 1) true)) ∧
      (¬ spare → s.isAdmitting = false ∨ s.recovery ≠ none ∨ s.entryIndexOf n = none → exec (.roleAssign ep entry q) s = .next s)) ∧
    (∀ entry : BitVec 16,
      (s.isAdmitting = false ∨ (∀ r, s.recovery = some r → r.entry ≠ entry.toNat) → exec (.recoveryComplete entry) s = .next s) ∧
      (∀ r e, s.isAdmitting = true → s.recovery = some r → r.entry = entry.toNat → s.entryAt r.entry = some e →
        let service := if e.mode = 3 ∨ (e.mode = 2 ∧ r.replace = true) then 3 else 2 ^ r.pos
        let u := { s with recovery := none }.setSpares (s.spares.filter (· != r.spare))
        exec (.recoveryComplete entry) s = .next (u.issueTable (u.editTable r.entry service (some (r.pos, r.spare)) u.now)))) ∧
    (∀ (entry : BitVec 16) (e : Entry), s.entryAt entry.toNat = some e →
      let i := entry.toNat
      let able := s.isAdmitting = true ∧ (e.mode = 1 ∨ e.mode = 2) ∧ (∀ m ∈ e.members, m ∉ s.declared)
      (¬ able → (∀ q, s.entryTest = some (i, q) → exec (.entryTest entry) s = .next { s with entryTest := none }) ∧
        ((∀ q, s.entryTest ≠ some (i, q)) → exec (.entryTest entry) s = .next s)) ∧
      (able →
        let first := if e.mode = 1 ∧ e.service.testBit 1 = true then 0 else 1
        let at_ (q : Nat) : Nat := if q = 0 then e.pos0 else e.pos1
        (s.entryTest = none → i ∉ s.doubtful → exec (.entryTest entry) s = .next s) ∧
        (s.entryTest = none → i ∈ s.doubtful →
          let alone := { s with entryTest := some (i, first), doubtful := s.doubtful.filter (· != i) }.serveAlone i (2 ^ (1 - first))
          (e.mode = 2 → exec (.entryTest entry) s = .next (alone.orderTest (at_ first))) ∧
          (e.mode = 1 → exec (.entryTest entry) s = .next ((e.members.foldl (fun (t : State) m =>
            if m = t.endpoint then t.dropShadow.setPair 1 else t.mirrorTo 0x0A (roleBody 5 i m (t.od 0x4111 0 0)) m) alone).orderTest (at_ first)))) ∧
        (∀ q, q < 2 → s.entryTest = some (i, q) → exec (.entryTest entry) s =
          .next (({ s with entryTest := some (i, 3 - q) }.serveAlone i (2 ^ q)).orderTest (at_ (1 - q)))) ∧
        (∀ q, 2 ≤ q → s.entryTest = some (i, q) → exec (.entryTest entry) s =
          .next ((({ s with entryTest := none }.passJoin i (at_ (q - 2)) (s.od 0x4111 0 0)).serveAlone i (2 ^ (3 - q))).roleAlarm 0)) ∧
        (∀ j q, j ≠ i → s.entryTest = some (j, q) → exec (.entryTest entry) s = .next s))) ∧
    (∀ rq : Requester,
      let role := s.od 0x4100 1 0
      (Accepted s rq .command 0x4101 0 [1] →
        let run := s.setOd 0x4101 0 cmdState 1
        (role = 2 → ∀ t, ((s.setOd 0x4100 1 0 3).setPair 1).twin = some t → exec (.roleDrain rq) s =
          .next (State.commanded rq 0x4101 0 [1] (((s.setOd 0x4100 1 0 3).setPair 1).dropShadow.sendHeartbeat t))) ∧
        (role = 1 → s.onlyLive = true → exec (.roleDrain rq) s = .next (s.answer rq onlyCopy)) ∧
        (role = 1 → s.onlyLive = false → s.isAdmitting = true → exec (.roleDrain rq) s = .next ((run.drainPart s.endpoint).commanded rq 0x4101 0 [1])) ∧
        (role = 1 → s.onlyLive = false → s.isAdmitting = false → exec (.roleDrain rq) s =
          .next ((run.mirrorTo 9 (leBytes 8 (s.od 0x1000 0 0) ++ leBytes 1 3 ++ leBytes 4 (s.od 0x4111 0 0)) s.admitting).commanded rq 0x4101 0 [1])) ∧
        (role ≠ 1 → role ≠ 2 → exec (.roleDrain rq) s = .next (s.answer rq codeState))) ∧
      (Accepted s rq .command 0x4101 0 [2] →
        (role = 3 → s.calImage = [] → exec (.roleReturn rq) s = .next ((s.sendJoin (s.ownIndex.getD 0xFFFF)).commanded rq 0x4101 0 [2])) ∧
        (role ≠ 3 ∨ s.calImage ≠ [] → exec (.roleReturn rq) s = .next (s.answer rq codeState))) ∧
      (Accepted s rq .command 0x4101 0 [3] →
        let spare := s.setOd 0x4100 1 0 0
        (role = 3 → spare.admitting = 0 → exec (.roleRelease rq) s = .next (spare.commanded rq 0x4101 0 [3])) ∧
        (role = 3 → spare.admitting ≠ 0 → exec (.roleRelease rq) s = .next ((spare.sendJoin 0xFFFF).commanded rq 0x4101 0 [3])) ∧
        (role ≠ 3 → exec (.roleRelease rq) s = .next (s.answer rq codeState))) ∧
      (Accepted s rq .command 0x4101 0 [4] →
        (s.inService = false → exec (.roleReplace rq) s = .next (s.answer rq codeState)) ∧
        (s.inService = true → s.isAdmitting = true →
          (s.recovery ≠ none → exec (.roleReplace rq) s = .next (s.answer rq codeBusy)) ∧
          (s.recovery = none → s.spares = [] → exec (.roleReplace rq) s = .next (s.answer rq codeState)) ∧
          (∀ i e, s.recovery = none → s.spares ≠ [] → s.ownIndex = some i → s.ownEntry = some e →
            exec (.roleReplace rq) s = .next ((s.assignSpare i (if e.pos0 = s.endpoint then 0 else 1) true).commanded rq 0x4101 0 [4]))) ∧
        (s.inService = true → s.isAdmitting = false → exec (.roleReplace rq) s =
          .next ((s.mirrorTo 0x0A (roleBody 4 (s.ownIndex.getD 0xFFFF) s.endpoint (s.od 0x4111 0 0)) s.admitting).commanded rq 0x4101 0 [4]))))

/-- BOOT_IMAGE counts only out of reset before the main side is UP, and one too long is discarded and counted: the first frame brings the digest and begins the code, the others go on with it; at the last one the main side starts where the SHA-512 is the digest, else the code is asked for once more, and a second mismatch is an ISLAND alarm. MAIN_SIDE_READY makes a part that may serve ready, once: the reset causes show a command, an ISLAND record shows the state, its generation is reported, it joins its role, and as admitting part releases the barrier. HEARTBEAT_TIMER makes a running end send its heartbeat, counting one of the other end as missed after 1 ms; the island trips on its own sensors. HEARTBEAT is taken and acknowledged at a running end: at the island a critical temperature powers the main side off, and one in time returns UNRESPONSIVE to UP; at the main side it ends the island's loss, gives the reading of sensor 140 or 141, and lets held records go. BARRIER_ACK takes its frame out of its lane, where at most 32 wait, and BARRIER_RESEND_TIMEOUT and URGENT_REPEAT send and count all unacknowledged ones again. Commands that complete here, exec answering a next state with their own effect under hypotheses on state and operands alone: bootImage, heartbeat, heartbeatTimer, barrierAck, barrierResendTimeout, urgentRepeat, mainSideReady. -/
def Obligations.MainSideStartsAndBeats : Prop :=
  ∀ s : State,
    (∀ (off : BitVec 32) (d : List Byte) (last : Bool),
      let due := s.seq.released = true ∧ s.thermalHold = false ∧ s.od 0x2100 2 0 = 0 ∧ (s.mainState = 1 ∨ s.mainState = 4)
      let u := s.arrived true false
      let b : Boot := if off = 0 then { u.boot with digest := d.take 64, code := d.drop 64 } else { u.boot with code := u.boot.code ++ d }
      (¬ due → exec (.bootImage off d last) s = .next s) ∧
      (due → 4096 < d.length → exec (.bootImage off d last) s = .next (s.bump 0x1301 0 3 1)) ∧
      (due → d.length ≤ 4096 → last = false → exec (.bootImage off d last) s = .next { u with boot := b }) ∧
      (due → d.length ≤ 4096 → last = true →
        let v := { u with boot := { b with digest := [], code := [], fails := b.fails + 1 } }
        let mismatch := if b.fails = 0 then v.sendBoot else v.islandRecord false
        exec (.bootImage off d last) s =
          .next (if Config.sha512 b.code = b.digest then { u with boot := { b with code := [] } }.mainStarts else mismatch))) ∧
    (s.ready = true ∨ s.mayServe = false → exec .mainSideReady s = .next s) ∧
    (s.ready = false → s.mayServe = true →
      let u := { s with ready := true, readyAt := s.elapsed }
      let v := (((u.setCause 0 2).setCause 1 2).raise { kind := .island, path := pathDie 0 0, detail := u.mainState, event := true }).reportGeneration.joinRole
      (v.isAdmitting = true → exec .mainSideReady s = .next v.autoBarrier) ∧ (v.isAdmitting = false → exec .mainSideReady s = .next v)) ∧
    (s.mayServe = true → s.mainUp = true ∧ s.integrity = true ∧ s.calImage = [] ∧ s.od 0x2100 2 0 = 0 ∧ 4 ≤ s.edges.length ∧ s.cadenceLost = false ∧
      ∀ h, h < 128 → s.power h = 0 ∨ (s.calState h = 1 ∧ s.testState h = 0)) ∧
    (∀ a b : BitVec 16,
      (s.islandUp = false → exec (.heartbeatTimer true a b) s = .next s) ∧
      (s.mainRuns = false → exec (.heartbeatTimer false a b) s = .next s) ∧
      (s.islandUp = true →
        let u := if s.mainRuns = true ∧ s.islandHeard + 1000000 < s.elapsed then s.bump 0x1301 0 5 1 else s
        let t := if u.laneIslandUrgent.next % 2 = 0 then a else b
        let sent := u.sendToMain true 0xA 0 (leBytes 4 0 ++ leBytes 2 t.toNat ++ leBytes 2 0 ++ leBytes 8 0)
        exec (.heartbeatTimer true a b) s = .next ((sent.islandTrip a.toInt).islandTrip b.toInt)) ∧
      (s.mainRuns = true →
        let u := if s.mainHeard + 1000000 < s.elapsed then s.bump 0x1301 0 5 1 else s
        exec (.heartbeatTimer false a b) s = .next (u.sendToIsland true 0xA 0
          (leBytes 1 2 ++ leBytes 3 0 ++ leBytes 2 (ofSigned 16 (u.hottestOf 0 139)) ++ leBytes 2 0 ++ leBytes 8 u.now)))) ∧
    (∀ t : Int,
      (s.mainState = 0 ∨ t < 16 * s.od 0x2403 0 0 ∨ s.seq.down = some true → s.islandTrip t = s) ∧
      (s.mainState ≠ 0 → (16 * s.od 0x2403 0 0 : Nat) ≤ t → s.seq.down ≠ some true → s.islandTrip t = (s.bump 0x2411 0 4 1).powerOff true)) ∧
    (∀ (q t : BitVec 16) (st : Byte) (w : BitVec 64),
      let acked (u : State) (back : Bool) : State := (u.bump 0x1301 0 1 1).emit (.barrier back 0xE q.toNat 0 (leBytes 2 q.toNat))
      (s.mainRuns = false → s.thermalHold = false → exec (.heartbeat true q st t w) s = .next s) ∧
      (s.islandUp = false → exec (.heartbeat false q st t w) s = .next s) ∧
      (s.islandUp = true →
        let u := { acked { s with laneMainUrgent := { s.laneMainUrgent with taken := some q.toNat } } true with islandHeard := s.elapsed }
        (u.criticalTemp ≤ t.toInt → u.seq.down ≠ some true → exec (.heartbeat false q st t w) s = .next (u.powerOff true)) ∧
        (u.criticalTemp ≤ t.toInt → u.seq.down = some true → exec (.heartbeat false q st t w) s = .next u) ∧
        (t.toInt < u.criticalTemp → u.mainState = 3 → u.hangAlarmed = false ∨ u.od 0x1302 2 0 = 0 →
          exec (.heartbeat false q st t w) s = .next (({ u with hangAlarmed := false }.setOd 0x1300 3 0 2).islandRecord true)) ∧
        (t.toInt < u.criticalTemp → u.mainState ≠ 3 → exec (.heartbeat false q st t w) s = .next u)) ∧
      (s.mainRuns = true ∨ s.thermalHold = true →
        let u := { acked { s with laneIslandUrgent := { s.laneIslandUrgent with taken := some q.toNat } } false with mainHeard := s.elapsed }
        let v := if u.islandLost then u.islandReturns.steepProgress else u
        (v.thermalHold = true → exec (.heartbeat true q st t w) s = .next v) ∧
        (v.thermalHold = false → exec (.heartbeat true q st t w) s = .next ((v.drainLost s.mainHeard).takeReading (140 + q.toNat % 2) t.toInt false)))) ∧
    (∀ (toMain urgent : Bool) (q : BitVec 16),
      exec (.barrierAck toMain urgent q) s = .next (match toMain, urgent with
        | true, true => { s with laneMainUrgent := s.laneMainUrgent.acked q.toNat }
        | true, false => { s with laneMainNormal := s.laneMainNormal.acked q.toNat }
        | false, true => { s with laneIslandUrgent := s.laneIslandUrgent.acked q.toNat }
        | false, false => { s with laneIslandNormal := s.laneIslandNormal.acked q.toNat })) ∧
    (∀ (l : Lane) (q : Nat), l.unacked.length ≤ 32 →
      (l.acked q).unacked.length ≤ 32 ∧ (∀ f ∈ l.unacked, f.seq = q ∨ f ∈ (l.acked q).unacked) ∧
      ((l.acked q).unacked ++ (l.acked q).queued = (l.unacked.filter fun f => f.seq != q) ++ l.queued)) ∧
    (∀ toMain : Bool,
      let again (l : Lane) : State := l.unacked.foldl (fun t f => (t.bump 0x1301 0 4 1).emit (.barrier toMain f.kind f.seq f.corr f.body)) s
      exec (.barrierResendTimeout toMain) s = .next (again (if toMain then s.laneIslandNormal else s.laneMainNormal)) ∧
      exec (.urgentRepeat toMain) s = .next (again (if toMain then s.laneIslandUrgent else s.laneMainUrgent)))

/-- An accepted write of an owner or publisher slot is STATE where it would revoke the last owner key, or empty it while a publisher is registered, FORMAT where the statement fails a check, else stored, and the owner counter is its counter; a publisher's raises the steep counter to its floor, and an owner slot no longer registered ends the sessions its key opened. A statement that passes names its object and slot, this part or any, a counter above the owner counter, zero reserved bytes, and is signed by a registered owner key, or, on an unowned part, is an owner key without a signer and with a zero signature. FIRMWARE_INSTALL during a trial is BUSY, of an image that fails FORMAT, else it puts the image and its version into the slot that is not active, VALID. FIRMWARE_ACTIVATE puts a VALID other slot on trial. TRIAL_COMMIT, 60 s after the island's start and with the part ready, makes the slot on trial ACTIVE, the other VALID, and raises the security counters to the image's; else it changes nothing. Commands that complete here, exec answering a next state with their own effect under hypotheses on state and operands alone: ownerKeyWrite, publisherKeyWrite, firmwareInstall, firmwareActivate, trialCommit. -/
def Obligations.KeysAndFirmwareAreTaken : Prop :=
  ∀ s : State,
    (∀ (idx sub : Nat) (b : List Byte), s.stmtGood idx sub b = true →
      leAt b 20 2 = idx ∧ leAt b 22 1 = sub ∧ (leAt b 8 8 = 0 ∨ leAt b 8 8 = s.od 0x1000 0 0) ∧ s.od 0x7002 0 3 < leAt b 4 4 ∧ stmtReserved b = true ∧
      ((s.unowned = true ∧ idx = 0x7001 ∧ leAt b 0 1 = 1 ∧ leAt b 1 1 = 0 ∧ zeroAt b 168 132 = true) ∨
       (s.ownerRegistered (leAt b 1 1) = true ∧ Config.ecdsaVerifies (slice 32 133 (s.ownerStmt (leAt b 1 1))) (b.take 168) (slice 168 132 b) = true))) ∧
    (∀ (rq : Requester) (b : List Byte),
      (∀ slot : BitVec 2,
        let n := slot.toNat + 1
        let last := s.ownerRegistered n = true ∧ ([1, 2, 3, 4].filter s.ownerRegistered).length = 1 ∧
          (leAt b 0 1 = 2 ∨ (leAt b 0 1 = 0 ∧ s.publishes = true))
        Accepted s rq .write 0x7001 n b →
        (last → exec (.ownerKeyWrite rq slot b) s = .next (s.answer rq codeState)) ∧
        (¬ last →
          let u := (s.setOd 0x7001 n 0 (leNat b)).setOd 0x7002 0 3 (leAt b 4 4)
          exec (.ownerKeyWrite rq slot b) s =
            .next (if s.stmtGood 0x7001 n b then (u.endOwnerSessions n).written rq else s.answer rq codeFormat))) ∧
      (∀ slot : BitVec 4,
        let n := slot.toNat + 1
        Accepted s rq .write 0x5010 n b →
        let u := (s.setOd 0x5010 n 0 (leNat b)).setOd 0x7002 0 3 (leAt b 4 4)
        exec (.publisherKeyWrite rq slot b) s = .next (if s.stmtGood 0x5010 n b
          then (u.setOd 0x7002 0 2 (max (u.od 0x7002 0 2) (leAt b 16 4))).written rq else s.answer rq codeFormat))) ∧
    (∀ n : Nat,
      (s.ownerRegistered n = true → s.endOwnerSessions n = s) ∧
      (s.ownerRegistered n = false → ∀ e ∈ (s.endOwnerSessions n).conns, ∀ x, e.2.session = some x → x.slot ≠ some n)) ∧
    (∀ rq : Requester,
      (Accepted s rq .command 0x7004 0 [1] →
        let img := s.blob 0x7005 0
        let n := 1 - s.activeSlot
        (s.trial ≠ 0 → exec (.firmwareInstall rq) s = .next (s.answer rq codeBusy)) ∧
        (s.trial = 0 →
          let u := (((s.setBlobAt (n + 1) 0x7005 0 img).setOd 0x7003 0 (4 * n) (leAt img 12 2)).setOd 0x7003 0 (4 * n + 1) (leAt img 14 2)).setOd 0x7003 0
            (4 * n + 2) (leAt img 16 2)
          exec (.firmwareInstall rq) s = .next (if s.firmwareGood img
            then (u.setOd 0x7003 0 (4 * n + 3) 1).commanded rq 0x7004 0 [1] else s.answer rq codeFormat))) ∧
      (Accepted s rq .command 0x7004 0 [2] →
        let other := s.od 0x7003 0 (4 * (1 - s.activeSlot) + 3)
        (s.trial ≠ 0 → exec (.firmwareActivate rq) s = .next (s.answer rq codeBusy)) ∧
        (s.trial = 0 → other ≠ 1 → exec (.firmwareActivate rq) s = .next (s.answer rq codeState)) ∧
        (s.trial = 0 → other = 1 → exec (.firmwareActivate rq) s = .next ({ s with trial := 1 }.commanded rq 0x7004 0 [2])))) ∧
    (s.trial ≠ 2 ∨ s.ready = false ∨ s.elapsed < s.islandAt + 60000000000 → exec .trialCommit s = .next s) ∧
    (s.trial = 2 → s.ready = true → s.islandAt + 60000000000 ≤ s.elapsed →
      let img := s.slotImage s.runSlot
      let u := ({ s with trial := 0 }.setOd 0x7003 0 (4 * s.runSlot + 3) 2).setOd 0x7003 0 (4 * (1 - s.runSlot) + 3) 1
      let v := u.setOd 0x7002 0 0 (max (u.od 0x7002 0 0) (leAt img 4 4))
      exec .trialCommit s = .next (v.setOd 0x7002 0 1 (max (v.od 0x7002 0 1) (leAt img 8 4))))

/-- An island in reset answers nothing, one kept in its ROM only version and capabilities; a request that comes before its part of the negotiation is an error, and the state stays. GET_VERSION starts the connection anew; GET_CAPABILITIES and NEGOTIATE_ALGORITHMS lead on, the latter only with a supported offer. GET_DIGESTS answers the digest of the chain of slot 0; GET_CERTIFICATE part of that chain and how much remains; CHALLENGE the digest and the nonce, signed; GET_MEASUREMENTS one block of 1 to 8, all, or their number, signed where asked; another slot or index is an error. KEY_EXCHANGE keeps the requester where it may open a session: any on an unowned part, else a registered owner key or a part that is named. FINISH opens the session, counted, where the message verifies and the requester still may, the exchange gone either way. KEY_UPDATE, SPDM_HEARTBEAT and END_SESSION need the session; the last one ends it. The codes and bodies are the model's (NOTES.md). Commands that complete here, exec answering a next state with their own effect under hypotheses on state and operands alone: getVersion, getCapabilities, negotiateAlgorithms, getDigests, getCertificate, challenge, getMeasurements, keyExchange, finish, keyUpdate, spdmHeartbeat, endSession. -/
def Obligations.SpdmRequestsAreAnswered : Prop :=
  ∀ (s : State) (c : BitVec 2),
    let x := s.conn c
    let fails (t : State) (why : Nat) : State := t.emit (.spdm c 0x7F (leBytes 1 why))
    let early (n : Nat) : Prop := s.islandRun ≠ 0 ∧ (s.islandRun ≠ 2 ∨ n < 2) ∧ x.phase < n
    (s.islandRun = 0 → exec (.getVersion c) s = .next s ∧ exec (.getCapabilities c) s = .next s) ∧
    (s.islandRun = 0 ∨ s.islandRun = 2 →
      (∀ o, exec (.negotiateAlgorithms c o) s = .next s) ∧ exec (.getDigests c) s = .next s ∧ (∀ n f l, exec (.getCertificate c n f l) s = .next s) ∧
      (∀ n b, exec (.challenge c n b) s = .next s) ∧ (∀ i g b, exec (.getMeasurements c i g b) s = .next s) ∧ (∀ r, exec (.keyExchange c r) s = .next s) ∧
      (∀ v, exec (.finish c v) s = .next s) ∧ exec (.keyUpdate c) s = .next s ∧ exec (.spdmHeartbeat c) s = .next s ∧ exec (.endSession c) s = .next s) ∧
    (early 1 → exec (.getCapabilities c) s = .next (fails s 4)) ∧
    (early 2 → ∀ o, exec (.negotiateAlgorithms c o) s = .next (fails s 4)) ∧
    (early 3 →
      exec (.getDigests c) s = .next (fails s 4) ∧ (∀ n f l, exec (.getCertificate c n f l) s = .next (fails s 4)) ∧
      (∀ n b, exec (.challenge c n b) s = .next (fails s 4)) ∧ (∀ i g b, exec (.getMeasurements c i g b) s = .next (fails s 4)) ∧
      (∀ r, exec (.keyExchange c r) s = .next (fails s 4)) ∧ (∀ v, exec (.finish c v) s = .next (fails s 4)) ∧ exec (.keyUpdate c) s = .next (fails s 4) ∧
      exec (.spdmHeartbeat c) s = .next (fails s 4) ∧ exec (.endSession c) s = .next (fails s 4)) ∧
    (s.islandRun ≠ 0 → exec (.getVersion c) s = .next ((s.setConn c { Conn.fresh with phase := 1 }).emit (.spdm c 0x04 [0x12, 0x13]))) ∧
    (s.islandRun ≠ 0 → 1 ≤ x.phase →
      exec (.getCapabilities c) s = .next ((s.setConn c { x with phase := max 2 x.phase }).emit (.spdm c 0x61 []))) ∧
    (s.islandRun = 1 → 2 ≤ x.phase →
      exec (.negotiateAlgorithms c true) s = .next ((s.setConn c { x with phase := 3 }).emit (.spdm c 0x63 [])) ∧
      exec (.negotiateAlgorithms c false) s = .next (fails s 1)) ∧
    (s.islandRun = 1 → 3 ≤ x.phase →
      let chain := s.certChain
      exec (.getDigests c) s = .next (s.emit (.spdm c 0x01 (leBytes 1 1 ++ Config.sha512 chain))) ∧
      (∀ (n : Byte) (f l : BitVec 16),
        (n ≠ 0 ∨ chain.length < f.toNat → exec (.getCertificate c n f l) s = .next (fails s 1)) ∧
        (n = 0 → f.toNat ≤ chain.length →
          let part := (chain.drop f.toNat).take l.toNat
          exec (.getCertificate c n f l) s = .next (s.emit (.spdm c 0x02 (leBytes 2 part.length ++ leBytes 2 (chain.length - f.toNat - part.length) ++ part))))) ∧
      (∀ (n : Byte) (b : List Byte),
        (n ≠ 0 → exec (.challenge c n b) s = .next (fails s 1)) ∧
        (n = 0 → exec (.challenge c n b) s =
          .next (s.emit (.spdm c 0x03 ((Config.sha512 chain ++ b) ++ Config.identitySign (Config.sha512 chain ++ b)))))) ∧
      (∀ (i : Byte) (signed : Bool) (b : List Byte),
        (8 < i.toNat → i.toNat ≠ 255 → exec (.getMeasurements c i signed b) s = .next (fails s 1)) ∧
        (i.toNat ≤ 8 ∨ i.toNat = 255 →
          let blocks := if i = 0 then [] else if i = 0xFF then [1, 2, 3, 4, 5, 6, 7, 8] else [i.toNat]
          let body := leBytes 1 (if i = 0 then 8 else blocks.length) ++ blocks.flatMap fun k => leBytes 1 k ++ s.measurement k
          exec (.getMeasurements c i signed b) s = .next (s.emit (.spdm c 0x60 (body ++ if signed then Config.identitySign (body ++ b) else []))))) ∧
      (∀ r : SpdmRequester,
        (s.mayOpen r = false → exec (.keyExchange c r) s = .next (fails s 1)) ∧
        (s.mayOpen r = true →
          exec (.keyExchange c r) s = .next ((s.setConn c { x with exchange := some r }).emit (.spdm c 0x64 (leBytes 1 (if s.unowned then 0 else 1)))))) ∧
      (x.exchange = none → ∀ v, exec (.finish c v) s = .next (fails s 4)) ∧
      (∀ r, x.exchange = some r →
        let u := s.setConn c { x with exchange := none }
        exec (.finish c false) s = .next (fails u 6) ∧
        (u.mayOpen r = false → exec (.finish c true) s = .next (fails u 6)) ∧
        (u.mayOpen r = true → exec (.finish c true) s =
          .next (((u.setConn c { x with exchange := none, session := some (newSession r (!s.unowned)) }).bump 0x1314 0 3 1).emit (.spdm c 0x65 [])))) ∧
      (x.session = none → exec (.keyUpdate c) s = .next (fails s 4) ∧ exec (.spdmHeartbeat c) s = .next (fails s 4) ∧ exec (.endSession c) s = .next (fails s 4)) ∧
      (x.session.isSome = true → exec (.keyUpdate c) s = .next (s.emit (.spdm c 0x69 [])) ∧ exec (.spdmHeartbeat c) s = .next (s.emit (.spdm c 0x68 [])) ∧
        exec (.endSession c) s = .next ((s.setConn c { x with session := none }).emit (.spdm c 0x6C [])))) ∧
    (∀ r : SpdmRequester,
      (s.unowned = true → s.mayOpen r = true) ∧
      (s.unowned = false → s.mayOpen r = true → (∃ k, r = .ownerKey k ∧ s.ownerRegistered (k.toNat + 1) = true) ∨ (∃ n, r = .vendorPeer n ∧ s.partNamed n.toNat = true)))

/-- An access is refused for an unknown object, a wrong operation, a right, a length, a gated clock, the state or a busy object, in that order; a refused one changes nothing but the result. OBJECT_WRITE performs one: a read leaves the state, a write or command has its object's effect, a command is noted. MAILBOX_GO performs one over a host link with the port's rights and shows result, tag, length and bytes, which a bulk read writes to host memory. NOA_REQUEST, off the side-band while its link is down, is discarded in island reset or where it cannot be read; a repeated one is answered from what is kept, or counted while it waits; a request that its session may not make is ACCESS, a ninth waiting one is discarded; a segment of a write goes to its segmented write; another is performed at the island, passed to an UP main side with a new correlation, or served from the store. SEGMENTED_WRITE_TIMEOUT drops what has had no segment for 2 s. PEER_SESSION takes the peer's serial or quarantines the port; SIDE_BAND_LINK_CHANGE sets the link; ICMPV6_REQUEST is answered while the link is up. The layout of NOA answers is the model's (NOTES.md). Commands that complete here, exec answering a next state with their own effect under hypotheses on state and operands alone: objectWrite, mailboxGo, noaRequest, segmentedWriteTimeout, peerSession, sideBandLinkChange, icmpv6Request. -/
def Obligations.AccessesAreJudgedAndAnswered : Prop :=
  ∀ s : State,
    (∀ (q : Req) (n : Nat),
      (odRow? q.idx q.sub = none →
        s.judge q n = if q.sub = 0 ∧ odHighest q.idx ≠ 0 then (if q.op = .read then 0 else codeAccess) else codeIndex) ∧
      (∀ r, odRow? q.idx q.sub = some r →
        let busy := (q.op = .command ∧ s.od q.idx q.sub cmdState = 1 ∧ ¬ (q.idx = 0x5020 ∧ q.data = [4])) ∨ (q.op = .write ∧ s.segmentOpen q.idx q.sub = true)
        s.judge q n = if codeSuits q.op r.code = false then codeAccess else if q.op ≠ .read ∧ s.mayWrite q.rq r = false then codeAccess
          else if lengthSuits q r n = false then codeLength else if s.gated q r then codeGated else if s.commonState q r ≠ 0 then s.commonState q r
          else if busy then codeBusy else 0)) ∧
    (∀ (rq : Requester) (op : AccessOp) (idx : BitVec 16) (sub : BitVec 8) (off : Nat) (data : List Byte),
      let q : Req := { rq := rq, op := op, idx := idx.toNat, sub := sub.toNat, offset := off, room := 2 ^ 32, data := data }
      (s.judgeReq q ≠ 0 → exec (.objectWrite rq op idx sub off data) s = .next (s.answer rq (s.judgeReq q))) ∧
      (s.judgeReq q = 0 → op = .read → exec (.objectWrite rq op idx sub off data) s = .next (s.answer rq (s.readBar rq idx.toNat sub.toNat))) ∧
      (s.judgeReq q = 0 → op = .write →
        let r := s.applyWrite rq idx.toNat sub.toNat data
        exec (.objectWrite rq op idx sub off data) s = .next (r.2.answer rq r.1)) ∧
      (s.judgeReq q = 0 → op = .command →
        let r := s.applyCommand rq idx.toNat sub.toNat data
        (r.1 = 0 → exec (.objectWrite rq op idx sub off data) s = .next (r.2.commanded rq idx.toNat sub.toNat data)) ∧
        (r.1 ≠ 0 → exec (.objectWrite rq op idx sub off data) s = .next (r.2.answer rq r.1)))) ∧
    (∀ (p : HostPort) (m : MailboxReq),
      let n := hostNo p
      let rq := if p = .a then Requester.hostA else Requester.hostB
      let q : Req := { rq := rq, op := m.op, idx := m.index.toNat, sub := m.sub.toNat, offset := 0, room := m.length.toNat,
                       data := if m.op = .read then [] else m.data.take m.length.toNat }
      (s.hostLink n = false → exec (.mailboxGo p m) s = .next s) ∧
      (s.hostLink n = true →
        let r := s.perform q
        let bulk := m.bulk ≠ 0
        let box : Mailbox := { result := r.1.code, tag := m.tag.toNat, length := r.1.total, data := if m.bulk ≠ 0 then [] else r.1.data }
        let shown := { r.2.answer rq r.1.code with mailboxes := (r.2.answer rq r.1.code).mailboxes.put Mailbox.fresh n box }
        (bulk → r.1.data ≠ [] → exec (.mailboxGo p m) s = .next ((shown.emit (.hostWrite p m.bulk.toNat r.1.data)).setCause n 0)) ∧
        (¬ bulk ∨ r.1.data = [] → exec (.mailboxGo p m) s = .next (shown.setCause n 0)))) ∧
    (∀ m : NoaMsg,
      let counted := s.bump 0x1314 0 0 1
      let reachable := m.fabric = true ∨ s.od 0x1310 5 0 ≠ 0
      let waiting := s.noaWaits.filter fun w => w.msg.session == m.session
      let repeated := ∃ w ∈ waiting, w.msg.seq = m.seq
      let segment := m.op = .write ∧ (m.more = true ∨ m.offset ≠ 0)
      (¬ reachable ∨ s.islandRun = 0 → exec (.noaRequest m) s = .next s) ∧
      (reachable → s.islandRun ≠ 0 →
        (s.noaUnreadable m = true → exec (.noaRequest m) s = .next (s.bump 0x1314 0 4 1)) ∧
        (s.noaUnreadable m = false →
          (∀ r, s.keptResponse m = some r →
            exec (.noaRequest m) s = .next ((counted.bump 0x1314 0 1 1).respondOnce m r.1 r.2.1 r.2.2)) ∧
          (s.keptResponse m = none →
            (repeated → exec (.noaRequest m) s = .next (counted.bump 0x1314 0 1 1)) ∧
            (¬ repeated → s.noaMay m = false → exec (.noaRequest m) s = .next (counted.respond m codeAccess 0 [])) ∧
            (¬ repeated → s.noaMay m = true → 8 ≤ waiting.length → exec (.noaRequest m) s = .next (s.bump 0x1314 0 4 1)) ∧
            (¬ repeated → s.noaMay m = true → waiting.length < 8 → segment → exec (.noaRequest m) s = .next (counted.noaSegment m)) ∧
            (¬ repeated → s.noaMay m = true → waiting.length < 8 → ¬ segment →
              let here := islandServes m.index.toNat m.sub.toNat
              let local_ := if here then counted.perform (noaReq m) else counted.storeAccess (noaReq m)
              (here = false → counted.mainUp = true → exec (.noaRequest m) s = .next (counted.passOn m)) ∧
              (here = true ∨ counted.mainUp = false → exec (.noaRequest m) s = .next (local_.2.respond m local_.1.code local_.1.total local_.1.data))))))) ∧
    (∀ c : BitVec 2, Completes (.segmentedWriteTimeout c) s fun t =>
      t = { s with conns := t.conns } ∧
      (∀ g ∈ t.segmentsOf c.toNat ++ t.segmentsOf 4, g ∈ s.segmentsOf c.toNat ++ s.segmentsOf 4 ∧ s.elapsed < g.at_ + 2000000000)) ∧
    (∀ (p : PortId) (good : Bool) (serial : BitVec 64),
      let x := s.port p.toNat
      let peer := s.islandUp = true ∧ s.portUp p.toNat = true ∧ ∃ i, x.ident = some i ∧ i.kind = 1
      (¬ peer → exec (.peerSession p good serial) s = .next s) ∧
      (∀ i, peer → x.ident = some i →
        (good = true → serial = i.serial → exec (.peerSession p good serial) s = .next (s.setPort p.toNat { x with peerSerial := some serial.toNat })) ∧
        (good = false ∨ serial ≠ i.serial → exec (.peerSession p good serial) s = .next (s.quarantine p.toNat i)))) ∧
    (∀ link : Byte,
      let bars := s.islandRun = 0 ∨ 2 < link.toNat ∨ (link = 2 ∧ s.od 0x1310 1 0 = 0xFF)
      (bars → exec (.sideBandLinkChange link) s = .next s) ∧ (¬ bars → exec (.sideBandLinkChange link) s = .next (s.setOd 0x1310 5 0 link.toNat))) ∧
    (∀ (echo : Bool) (id : BitVec 32) (data : List Byte),
      let quiet := s.islandRun = 0 ∨ s.od 0x1310 5 0 = 0
      (quiet → exec (.icmpv6Request echo id data) s = .next s) ∧
      (¬ quiet → exec (.icmpv6Request echo id data) s =
        .next (s.emit (.echo ((if echo then leBytes 1 129 else leBytes 1 136) ++ beBytes 4 id.toNat ++ data)))))

/-- A frame is taken, and acknowledged, only at an end that runs; one too long for its type is discarded and counted. OBJ_READ at the main side performs a read for the side-band and answers by OBJ_RESULT, or for a byte string by CAL_IMAGE or BLOB_SEGMENT with its bytes; OBJ_WRITE performs a write or command and answers by OBJ_RESULT. OBJ_RESULT at the island ends the request that waits on its correlation with its code and bytes. EVENT joins the side-band queue of records. CAL_IMAGE and BLOB_SEGMENT at the main side gather a value from its start, each part where the last ended, and write it when it is whole; at the island they end the read that waits on the object. KEY_OP answers with the content key and gives it to the steep. MGMT at the main side applies what the admitting part forwards, once it is whole, and passes any other request to the island, remembering its source; MGMT_FRAME gives the island the request, and the main side the answer, which goes to that source. The forwarding messages are the model's (NOTES.md). Commands that complete here, exec answering a next state with their own effect under hypotheses on state and operands alone: mgmt, objRead, objWrite, objResult, event, calImage, blobSegment, mgmtFrame, keyOp. -/
def Obligations.CrossingFramesActAtTheirEnd : Prop :=
  ∀ s : State,
    let up := s.arrived true false
    let down := s.arrived false false
    (s.mainRuns = false →
      (∀ c i k o l, exec (.objRead c i k o l) s = .next s) ∧ (∀ c i k p o d, exec (.objWrite c i k p o d) s = .next s) ∧
      (∀ o d, exec (.calImage true o d) s = .next s) ∧ (∀ i k o t d, exec (.blobSegment true i k o t d) s = .next s) ∧
      (∀ f m, exec (.mgmt f m) s = .next s) ∧ (∀ m, exec (.mgmtFrame true m) s = .next s) ∧ (∀ e i n w, exec (.keyOp e i n w) s = .next s)) ∧
    (s.islandUp = false →
      (∀ c r d, exec (.objResult c r d) s = .next s) ∧ (∀ r, exec (.event r) s = .next s) ∧ (∀ o d, exec (.calImage false o d) s = .next s) ∧
      (∀ i k o t d, exec (.blobSegment false i k o t d) s = .next s) ∧ (∀ m, exec (.mgmtFrame false m) s = .next s) ∧
      (∀ e i n w, exec (.keyOp e i n w) s = .next s)) ∧
    (let discarded := s.bump 0x1301 0 3 1
     (∀ (d : List Byte) (toMain : Bool), 4096 < d.length → (if toMain then s.mainRuns else s.islandUp) = true →
        (∀ o, exec (.calImage toMain o d) s = .next discarded) ∧ (∀ i k o t, exec (.blobSegment toMain i k o t d) s = .next discarded)) ∧
     (∀ d : List Byte, 1024 < d.length →
        (s.mainRuns = true → ∀ c i k p o, p ≠ .read → exec (.objWrite c i k p o d) s = .next discarded) ∧
        (s.islandUp = true → ∀ c r, exec (.objResult c r d) s = .next discarded)) ∧
     (∀ (m : NoaMsg) (toMain : Bool), 1024 < m.data.length → (if toMain then s.mainRuns else s.islandUp) = true →
        exec (.mgmtFrame toMain m) s = .next discarded) ∧
     (∀ r : List Byte, 32 < r.length → s.islandUp = true → exec (.event r) s = .next discarded)) ∧
    (s.mainRuns = true →
      (∀ (c : BitVec 32) (i : BitVec 16) (k : Byte) (o l : BitVec 32),
        let r := up.perform { rq := .sideBand, op := .read, idx := i.toNat, sub := k.toNat, offset := o.toNat, room := min l.toNat 1024, data := [] }
        let string_ := r.1.code = 0 ∧ isBlob i.toNat k.toNat = true
        (¬ string_ → exec (.objRead c i k o l) s = .next (r.2.sendToIsland false 3 c.toNat (leBytes 2 r.1.code ++ r.1.data))) ∧
        (string_ → exec (.objRead c i k o l) s = .next (if i = 0x2808 then r.2.sendToIsland false 5 c.toNat (leBytes 4 o.toNat ++ r.1.data)
          else r.2.sendToIsland false 6 c.toNat (leBytes 2 i.toNat ++ leBytes 1 k.toNat ++ leBytes 4 o.toNat ++ leBytes 4 r.1.total ++ r.1.data)))) ∧
      (∀ (c : BitVec 32) (i : BitVec 16) (k : Byte) (p : AccessOp) (o : BitVec 32) (d : List Byte), p ≠ .read → d.length ≤ 1024 →
        let r := up.perform { rq := .sideBand, op := p, idx := i.toNat, sub := k.toNat, offset := o.toNat, room := 0, data := d }
        exec (.objWrite c i k p o d) s = .next (r.2.sendToIsland false 3 c.toNat (leBytes 2 r.1.code ++ r.1.data))) ∧
      (∀ (o : BitVec 32) (d : List Byte), d.length ≤ 4096 →
        let b := if o = 0 then d else if o.toNat = up.calBuffer.length then up.calBuffer ++ d else up.calBuffer
        let whole := ((up.waitOn .write 0x2808 0).map fun w => w.msg.data.length).getD calImageSize
        (b.length < whole → exec (.calImage true o d) s = .next { up with calBuffer := b }) ∧
        (whole ≤ b.length → exec (.calImage true o d) s = .next ({ up with calBuffer := [] }.blobArrived 0x2808 0 b))) ∧
      (∀ (i : BitVec 16) (k : Byte) (o t : BitVec 32) (d : List Byte), d.length ≤ 4096 →
        let mine := fun e : Nat × Nat × List Byte => e.1 == i.toNat && e.2.1 == k.toNat
        let old := ((up.blobSoFar.find? mine).map (·.2.2)).getD []
        let rest := up.blobSoFar.filter fun e => !mine e
        let b := if o = 0 then d else if o.toNat = old.length then old ++ d else old
        (b.length < t.toNat → exec (.blobSegment true i k o t d) s = .next { up with blobSoFar := rest ++ [(i.toNat, k.toNat, b)] }) ∧
        (t.toNat ≤ b.length → exec (.blobSegment true i k o t d) s = .next ({ up with blobSoFar := rest }.blobArrived i.toNat k.toNat b))) ∧
      (∀ (src : BitVec 16) (m : NoaMsg),
        let b := if m.offset = 0 then m.data else if m.offset.toNat = s.forwarding.length then s.forwarding ++ m.data else s.forwarding
        (s.isForwarded src.toNat m = false → exec (.mgmt src m) s = .next
          ({ s with mgmtFrom := s.mgmtFrom ++ [(m.session, m.seq.toNat, src.toNat)] }.sendToIsland false 7 0 (noaBytes m))) ∧
        (s.isForwarded src.toNat m = true → b.length < m.total.toNat → exec (.mgmt src m) s = .next { s with forwarding := b }) ∧
        (s.isForwarded src.toNat m = true → m.total.toNat ≤ b.length →
          exec (.mgmt src m) s = .next ({ s with forwarding := [] }.takeForwarded src.toNat m.index.toNat m.sub.toNat b))) ∧
      (∀ m : NoaMsg, m.data.length ≤ 1024 →
        ((∀ e ∈ s.mgmtFrom, e.1 ≠ m.session ∨ e.2.1 ≠ m.seq.toNat) → exec (.mgmtFrame true m) s = .next up) ∧
        (∀ e, (s.mgmtFrom.find? fun e => e.1 == m.session && e.2.1 == m.seq.toNat) = some e →
          exec (.mgmtFrame true m) s = .next ({ up with mgmtFrom := up.mgmtFrom.erase e }.send
            { kind := 8, cls := 0, targets := [e.2.2 + 65536 * up.od 0x4011 0 0], payload := noaResponse m 0 m.total.toNat m.data }).2))) ∧
    (s.islandUp = true →
      (∀ (c : BitVec 32) (r : BitVec 16) (d : List Byte), d.length ≤ 1024 →
        ((∀ w ∈ s.noaWaits, w.corr ≠ c.toNat) → exec (.objResult c r d) s = .next down) ∧
        (∀ w, (s.noaWaits.find? fun w => w.corr == c.toNat) = some w →
          let total := if r ≠ 0 then 0 else if w.msg.op = .read then down.totalOf w.msg.index.toNat w.msg.sub.toNat else w.msg.data.length
          exec (.objResult c r d) s = .next ({ down with noaWaits := down.noaWaits.filter fun x => x.corr != w.corr }.respond w.msg r.toNat total d))) ∧
      (∀ rec : List Byte, rec.length ≤ 32 →
        let q := down.offer 2 (Record.ofBytes rec)
        exec (.event rec) s = .next (if q.2 then q.1.chimneyDrop 2 else q.1)) ∧
      (∀ (i : BitVec 16) (k : Byte) (o t : BitVec 32) (d : List Byte), d.length ≤ 4096 →
        (down.waitOn .read i.toNat k.toNat = none → exec (.blobSegment false i k o t d) s = .next down) ∧
        (∀ w, down.waitOn .read i.toNat k.toNat = some w →
          exec (.blobSegment false i k o t d) s = .next (down.endWait w 0 t.toNat (d.take 1024)))) ∧
      (∀ (o : BitVec 32) (d : List Byte), d.length ≤ 4096 →
        (down.waitOn .read 0x2808 0 = none → exec (.calImage false o d) s = .next down) ∧
        (∀ w, down.waitOn .read 0x2808 0 = some w → exec (.calImage false o d) s = .next (down.endWait w 0 calImageSize (d.take 1024)))) ∧
      (∀ m : NoaMsg, m.data.length ≤ 1024 → exec (.mgmtFrame false m) s = .next (down.noaTakes { m with fabric := true })) ∧
      (s.mainRuns = true → ∀ (e : List Byte) (i n : BitVec 64) (w : List Byte),
        let key := Config.unwrapKey e i.toNat n.toNat w
        exec (.keyOp e i n w) s = .next ((down.sendToMain false 8 0 (key.getD [])).takeKey key)))

/-- HEARTBEAT_MISSING after 10 ms makes an UP main side UNRESPONSIVE, an ISLAND alarm; ISLAND_LOST after 10 ms makes the main side hold the island lost. HANG_TIMEOUT of an UNRESPONSIVE main side, once its time is over and once only, sends MAIN_RESET or just alarms. MAIN_OFF and MAIN_RESET at a main side that is not OFF reset it, the first with a power cycle. ISLAND_RESET resets the island: it is held lost, and its sessions, waiting requests, lanes and volatile objects end; what the main side holds stays. ISLAND_WATCHDOG does so too, and a trial fails; TRIAL_FAIL fails one 10 s after the main side's start when it is not ready: its slot is FAILED, and the island resets. VISO_BROWN_OUT resets the island, returns a trial to pending, and below 2 V drops every rail; VISO_POWER_ON begins anew. ISLAND_BOOT runs a pending trial's slot if it passes, else the ACTIVE slot or the VALID one that passes, else the ROM keeps the main side off; a main side due starts, and another slot resets it. Commands that complete here, exec answering a next state with their own effect under hypotheses on state and operands alone: mainReset, mainOff, heartbeatMissing, islandLost, hangTimeout, islandReset, islandWatchdog, islandBoot, trialFail, visoPowerOn, visoBrownOut. -/
def Obligations.EndsAreSupervisedAndReset : Prop :=
  ∀ s : State,
    (let due := s.islandRun = 1 ∧ s.mainUp = true ∧ s.islandHeard + 10000000 ≤ s.elapsed
     (due → exec .heartbeatMissing s = .next ((s.setOd 0x1300 3 0 3).islandRecord false)) ∧ (¬ due → exec .heartbeatMissing s = .next s)) ∧
    (s.mainHeard + 10000000 ≤ s.elapsed → exec .islandLost s = .next s.loseIsland) ∧
    (s.elapsed < s.mainHeard + 10000000 → exec .islandLost s = .next s) ∧
    (let due := s.islandRun = 1 ∧ s.mainState = 3 ∧ s.hangAlarmed = false ∧ s.islandHeard + 1000000 * s.od 0x1302 1 0 ≤ s.elapsed
     (due → s.od 0x1302 2 0 = 1 → exec .hangTimeout s = .next { s with hangAlarmed := true }.sendReset) ∧
     (due → s.od 0x1302 2 0 ≠ 1 → exec .hangTimeout s = .next ({ s with hangAlarmed := true }.islandRecord false)) ∧
     (¬ due → exec .hangTimeout s = .next s)) ∧
    (s.mainState = 0 → (∀ f, exec (.mainOff f) s = .next s) ∧ exec .mainReset s = .next s) ∧
    (s.mainState ≠ 0 → exec (.mainOff true) s = .next (s.mainSideReset true 4) ∧ exec (.mainOff false) s = .next (s.mainSideReset true 5) ∧
      exec .mainReset s = .next (s.mainSideReset false 4)) ∧
    (∀ (cycle : Bool) (n : Nat),
      let u := s.failWaits
      s.ready = false → u.ready = false → u.steepRuns = false → u.hostLink 0 = false → u.hostLink 1 = false →
      (let t := (u.forget cycle).setOd 0x1300 3 0 n
       t.od 0x1300 1 cmdState ≠ 1 → s.mainSideReset cycle n = t)) ∧
    (∀ rq : Requester, Accepted s rq .command 0x1300 4 [1] → exec (.islandReset rq) s = .next (s.islandReset.commanded rq 0x1300 4 [1])) ∧
    (let u := s.islandReset
     u.islandRun = 0 ∧ u.conns = [] ∧ u.noaWaits = [] ∧ u.laneIslandNormal = Lane.fresh ∧ u.laneIslandUrgent = Lane.fresh ∧ u.seq = s.seq ∧ u.trial = s.trial ∧
     u.runSlot = s.runSlot ∧ u.pending = s.pending ∧ Part.same .hearth s u ∧ Part.same .memory s u ∧ Part.same .serving s u ∧
     ∀ x y, islandVolatile x y = true → ∀ e ∈ u.dict, keyIndex e.1 ≠ x ∨ keySub e.1 ≠ y) ∧
    (s.islandRun = 0 → exec .islandWatchdog s = .next s) ∧
    (s.islandRun ≠ 0 → s.trial = 2 → exec .islandWatchdog s = .next s.failTrial) ∧
    (s.islandRun ≠ 0 → s.trial ≠ 2 → exec .islandWatchdog s = .next s.islandReset) ∧
    (let due := s.trial = 2 ∧ s.islandRun = 1 ∧ s.ready = false ∧ s.boot.startAt + 10000000000 ≤ s.elapsed
     (due → exec .trialFail s = .next s.failTrial) ∧ (¬ due → exec .trialFail s = .next s)) ∧
    (s.failTrial = ({ s.setOd 0x7003 0 (4 * s.runSlot + 3) 3 with trial := 0 }.islandRecord false).islandReset) ∧
    (let u := { s with trial := if s.trial = 2 then 1 else s.trial }.islandReset
     exec (.visoBrownOut false) s = .next u ∧
     (let v := [5, 4, 3, 2, 1, 0].foldl (fun t k => if bit t.seq.enables k then t.emit (.rail k false) else t) u
      exec (.visoBrownOut true) s = .next { v.mainSideReset true 0 with seq := Sequencer.fresh })) ∧
    (s.islandRun ≠ 0 ∨ s.seq.enables ≠ 0 → exec .visoPowerOn s = .next s) ∧
    (s.islandRun = 0 → s.seq.enables = 0 → exec .visoPowerOn s =
      .next { s.mainSideReset true 0 with seq := { Sequencer.fresh with again := true }, islandAt := s.elapsed }) ∧
    (s.islandRun ≠ 0 → exec .islandBoot s = .next s) ∧
    (s.islandRun = 0 →
      let a := s.activeSlot
      let romBoot (t : State) : State := if t.slotState t.activeSlot = 2 ∧ t.firmwareGood (t.slotImage t.activeSlot) = true then t.runIsland t.activeSlot
        else if t.slotState (1 - t.activeSlot) = 1 ∧ t.firmwareGood (t.slotImage (1 - t.activeSlot)) = true then t.runIsland (1 - t.activeSlot)
        else { t with islandRun := 2 }
      let u := if s.trial = 1 then (if s.firmwareGood (s.slotImage (1 - a)) then { s.runIsland (1 - a) with trial := 2 }
        else romBoot ({ s.setSlotState (1 - a) 3 with trial := 0 }.islandRecord false)) else romBoot s
      exec .islandBoot s = .next (
        if u.islandRun ≠ 1 then (if u.mainState = 0 then u else u.powerOff true)
        else if u.mainState = 0 then (if u.seq.again = true ∧ u.seq.enables = 0 then u.startSequence else u)
        else if u.runSlot ≠ s.runSlot ∨ (s.trial = 1 ∧ s.firmwareGood (s.slotImage (1 - a)) = false) then u.sendReset else u))

/-- Accepted steep commands are refused while the island is lost (a state), another steep runs (BUSY) or staging lacks frames (RESOURCE); over host DMA also from the side-band (ACCESS) or for a list of 0 or more than 4,096 entries (FORMAT). Otherwise the steep begins with its frames, over host DMA with the read of its list. SELF_REFRESH past the limit of a hearth is STATE. STEEP_ABORT ends the steep with outcome 9. STEEP_SIGNATURE_VERIFY, once for a steep, fails a bad head as FORMAT, a bad signature as SIGNATURE, an encrypted image without an entry for this part as KEY; else it opens loading, or asks the island for the key. A chunk counts when the image is verified and the chunk still missing; one that finds staging full is held, once: a good one is counted and kept, a bad one asked for once more, the second time DIGEST, over host DMA a bad content FORMAT at once. STEEP_SOURCE_TIMEOUT after 100 ms without a head or chunk, staging not full, ends it, TIMEOUT. REPAIR is answered from staging for an image in clear. What REPAIR answers from is the model's reading (NOTES.md). Commands that complete here, exec answering a next state with their own effect under hypotheses on state and operands alone: steepHostDma, steepFabric, selfRefresh, steepAbort, steepSignatureVerify, steepChunkArrival, steepSourceTimeout, repair. -/
def Obligations.SteepsBeginAndLoad : Prop :=
  ∀ s : State,
    (∀ rq : Requester,
      let n := s.od 0x5022 0 0
      let begin_ (kind : Nat) (p : HostPort) (f : Nat × Nat) : State := { s.beginSteep kind p with staging := f }.relieve
      (Accepted s rq .command 0x5020 0 [1] →
        (rq = .sideBand → exec (.steepHostDma rq) s = .next (s.answer rq codeAccess)) ∧
        (rq ≠ .sideBand → n = 0 ∨ 4096 < n → exec (.steepHostDma rq) s = .next (s.answer rq codeFormat)) ∧
        (rq ≠ .sideBand → 0 < n → n ≤ 4096 →
          let p := if rq = .hostB then HostPort.b else HostPort.a
          (s.islandLost = true → exec (.steepHostDma rq) s = .next (s.answer rq islandLostReason)) ∧
          (s.islandLost = false → s.steep.isSome = true → exec (.steepHostDma rq) s = .next (s.answer rq codeBusy)) ∧
          (s.islandLost = false → s.steep = none → s.reserveStaging = none → exec (.steepHostDma rq) s = .next (s.answer rq codeResource)) ∧
          (∀ f, s.islandLost = false → s.steep = none → s.reserveStaging = some f → exec (.steepHostDma rq) s =
            .next (State.commanded rq 0x5020 0 [1] ((begin_ 1 p f).hostRead p ((begin_ 1 p f).od 0x5021 0 0) (16 * n) .scatter))))) ∧
      (Accepted s rq .command 0x5020 0 [2] →
        (s.islandLost = true → exec (.steepFabric rq) s = .next (s.answer rq islandLostReason)) ∧
        (s.islandLost = false → s.steep.isSome = true → exec (.steepFabric rq) s = .next (s.answer rq codeBusy)) ∧
        (s.islandLost = false → s.steep = none → s.reserveStaging = none → exec (.steepFabric rq) s = .next (s.answer rq codeResource)) ∧
        (∀ f, s.islandLost = false → s.steep = none → s.reserveStaging = some f →
          exec (.steepFabric rq) s = .next (State.commanded rq 0x5020 0 [2] (begin_ 2 .a f)))) ∧
      (Accepted s rq .command 0x5020 0 [3] →
        let hearths := (List.range 128).filter (s.mask 0x5024 0)
        (s.islandLost = true → exec (.selfRefresh rq) s = .next (s.answer rq islandLostReason)) ∧
        (s.islandLost = false → s.steep.isSome = true → exec (.selfRefresh rq) s = .next (s.answer rq codeBusy)) ∧
        (s.islandLost = false → s.steep = none → (∃ h ∈ hearths, s.driftPast h 0x3112 = true) → exec (.selfRefresh rq) s = .next (s.answer rq codeState)) ∧
        (s.islandLost = false → s.steep = none → (∀ h ∈ hearths, s.driftPast h 0x3112 = false) →
          let u := s.beginSteep 3 .a
          let arrays := hearths.flatMap s.completeArrays
          let again (a : Nat) : SteepArray := { array := a, chunk := 0, layer := u.recLayer a, gen := u.recGen a, format := u.recFormat a, flags := u.recFlags a, rows := [], scales := [], phase := 0, row := 0, iter := 0, failed := [] }
          let v := u.modSteep fun j => { j with arrays := arrays.map again }
          exec (.selfRefresh rq) s = .next (State.commanded rq 0x5020 0 [3] (if u.steepRefusal arrays ≠ 0 then u.steepFails (u.steepRefusal arrays)
            else (((v.setOd 0x5025 0 0 2).setOd 0x5025 0 2 arrays.length).heat arrays).steepProgress)))) ∧
      (Accepted s rq .command 0x5020 0 [4] → exec (.steepAbort rq) s = .next ((s.steepFails 9).commanded rq 0x5020 0 [4]))) ∧
    (s.steep = none → s.steepFails 9 = s ∧ (∀ h, exec (.steepSignatureVerify h) s = .next s) ∧ (∀ i b, exec (.steepChunkArrival i b) s = .next s) ∧
      exec .steepSourceTimeout s = .next s ∧ ∀ p i c, exec (.repair p i c) s = .next s) ∧
    (∀ j : SteepJob, s.steep = some j →
      (∀ head : List Byte,
        (j.kind = 3 ∨ j.verified = true ∨ j.head ≠ [] → exec (.steepSignatureVerify head) s = .next s) ∧
        (j.kind ≠ 3 → j.verified = false → j.head = [] →
          (headGood head = false ∨ (j.kind = 2 ∧ imgId head ≠ j.image) → exec (.steepSignatureVerify head) s = .next (s.steepFails 3)) ∧
          (headGood head = true → (j.kind = 2 → imgId head = j.image) →
            let u := { s with steep := some { j with head := head, lastAt := s.elapsed } }
            let asked (w : List Byte) : State := u.sendToIsland false 8 0 (slice 56 133 head ++ leBytes 8 (imgId head) ++ leBytes 8 u.serial ++ w)
            exec (.steepSignatureVerify head) s = .next (if s.signatureGood head = false then s.steepFails 1
              else if imgEncrypted head then ((u.recipient head).map asked).getD (u.steepFails 2) else u.openLoading)))) ∧
      (∀ (i : BitVec 32) (b : List Byte),
        let n := i.toNat
        let counts := j.kind ≠ 3 ∧ j.verified = true ∧ n < imgChunks j.head ∧ n ∉ j.got
        let taken : SteepJob := { j with lastAt := s.elapsed, held := j.held.filter fun e => e.1 != n }
        let u := { s with steep := some taken }
        (¬ counts → exec (.steepChunkArrival i b) s = .next s) ∧
        (counts → s.stagingFull j = true →
          ((∃ e ∈ j.held, e.1 = n) → exec (.steepChunkArrival i b) s = .next s) ∧
          ((∀ e ∈ j.held, e.1 ≠ n) → exec (.steepChunkArrival i b) s = .next { s with steep := some { j with held := j.held ++ [(n, b)] } })) ∧
        (counts → s.stagingFull j = false → exec (.steepChunkArrival i b) s = .next (match chunkContents j.head j.key n b with
          | .error e => if j.kind = 1 ∧ e = 3 then u.steepFails 3 else if j.again.contains n then u.steepFails 4 else u.askAgain n j
          | .ok (rows, scales) =>
            let e := chunkEntry j.head n
            let gen := (((layerEntries j.head).find? fun l => l.1 == e.layer).map (·.2.1)).getD 0
            let x : SteepArray := { array := e.array, chunk := n, layer := e.layer, gen := gen, format := e.format, flags := e.flags % 2, rows := rows, scales := scales, phase := 0, row := 0, iter := 0, failed := [] }
            State.readOn (State.steepProgress { u with steep := some { taken with got := j.got ++ [n], arrays := j.arrays ++ [x] } })))) ∧
      (let due := j.kind ≠ 3 ∧ (j.verified = false ∨ j.got.length < imgChunks j.head) ∧ s.stagingFull j = false ∧ j.lastAt + 100000000 ≤ s.elapsed
       (due → exec .steepSourceTimeout s = .next (s.steepFails 5)) ∧ (¬ due → exec .steepSourceTimeout s = .next s)) ∧
      (∀ (src : BitVec 16) (image : BitVec 64) (chunk : BitVec 32),
        let held := j.arrays.find? fun a => a.chunk == chunk.toNat && a.phase ≤ 1
        (imgId j.head ≠ image.toNat ∨ imgEncrypted j.head = true ∨ held = none → exec (.repair src image chunk) s = .next s) ∧
        (∀ a, imgId j.head = image.toNat → imgEncrypted j.head = false → held = some a →
          let head := leBytes 4 a.array ++ leBytes 1 a.format ++ leBytes 1 a.flags ++ leBytes 2 a.layer ++ leBytes 4 a.gen ++ leBytes 4 a.chunk ++
            leBytes 8 image.toNat ++ List.replicate 40 0
          let body := head ++ a.rows.flatten ++ a.scales ++ List.replicate 16 0
          exec (.repair src image chunk) s = .next (s.send { kind := 5, cls := 2, targets := [65536 * (s.endpoint / 65536) + src.toNat], payload := body }).2)))

/-- For an array that no steep holds, STEEP_ARRAY_START, PROGRAM_ITERATION, KILN_END, FINAL_VERIFY_DONE and ARRAY_STEEP_COMPLETE change nothing. STEEP_ARRAY_START starts a waiting array that may start, its wear counted: programming, or under self-refresh its level read. WEAR_LIMIT notes the wear. PROGRAM_ITERATION of the row under way counts one more while columns are outside before the twenty-fourth; else the row has its cells, its columns outside fail, and after row 1,023 spares take the failed columns, the kiln is next, and staging that was full has room again. KILN_END leads to the final verify and a run of the hearth; FINAL_VERIFY_DONE with a column outside, not the check column, replaces it and goes back to the kiln, else on to the scales. ARRAY_STEEP_COMPLETE stores scales and record, COMPLETE, in service, counted. LEVEL_READ_COMPLETE of a self-refresh goes on where the digest matches, else fences; of an array with waiting remaps, by no steep at work, it makes them or fences the array with a repair event. PROGRAM_RECORD_ARRIVAL before readiness keeps a good record and fences an array, whatever its record's state, whose record, scales or rows do not match; cells outside the margin are counted and ask for a refresh of the hearth, once; INTEGRITY_CHECK_COMPLETE ends the check. The sample seed is free. Commands that complete here, exec answering a next state with their own effect under hypotheses on state and operands alone: steepArrayStart, wearLimit, programIteration, kilnEnd, finalVerifyDone, arraySteepComplete, programRecordArrival, integrityCheckComplete, levelReadComplete. -/
def Obligations.ArraysAreProgrammedAndChecked : Prop :=
  ∀ (s : State) (a : ArrayId),
    let n := a.toNat
    (s.steepArray n = none →
      exec (.steepArrayStart a) s = .next s ∧ (∀ r o, exec (.programIteration a r o) s = .next s) ∧ exec (.kilnEnd a) s = .next s ∧
      (∀ o, exec (.finalVerifyDone a o) s = .next s) ∧ exec (.arraySteepComplete a) s = .next s) ∧
    (exec (.wearLimit a) s = .next (s.noteWear n)) ∧
    (∀ j x, s.steep = some j → s.steepArray n = some x →
      (x.phase ≠ 0 ∨ j.verified = false ∨ s.mayStart j n = false → exec (.steepArrayStart a) s = .next s) ∧
      (x.phase = 0 → j.verified = true → s.mayStart j n = true →
        (j.kind = 3 → exec (.steepArrayStart a) s = .next ((s.wear n).modArray n fun x => { x with phase := 6 })) ∧
        (j.kind ≠ 3 → exec (.steepArrayStart a) s = .next ((s.wear n).startProgram x))) ∧
      (∀ (row : BitVec 10) (outside : List (BitVec 10)),
        (x.phase ≠ 1 ∨ x.row ≠ row.toNat → exec (.programIteration a row outside) s = .next s) ∧
        (x.phase = 1 → x.row = row.toNat →
          (outside ≠ [] → x.iter + 1 < 24 → exec (.programIteration a row outside) s = .next (s.modArray n fun x => { x with iter := x.iter + 1 })) ∧
          (outside = [] ∨ 24 ≤ x.iter + 1 →
            let failed := (x.failed ++ (outside.map (·.toNat)).filter (· < 531)).eraseDups
            let u := (s.writeCells n x.row (x.rows.getD x.row [])).modArray n fun x => { x with row := x.row + 1, iter := 0, failed := failed }
            (x.row + 1 < 1024 → exec (.programIteration a row outside) s = .next u) ∧
            (1024 ≤ x.row + 1 → exec (.programIteration a row outside) s =
              .next (((failed.foldl (fun t c => t.failColumn n c) u).afterSpares n 2).stagingRoom (u.steep.any fun j => u.stagingFull j)))))) ∧
      (x.phase ≠ 2 → exec (.kilnEnd a) s = .next s) ∧
      (x.phase = 2 → exec (.kilnEnd a) s = .next (({ s with kilnAt := s.kilnAt.put 0 n (s.elapsed + 1) }.modArray n fun x => { x with phase := 3 }).calDue (n / 1024))) ∧
      (∀ outside : List (BitVec 10),
        let bad := ((outside.map (·.toNat)).filter (· < 531)).eraseDups
        let u := bad.foldl (fun t c => t.failColumn n c) s
        (x.phase ≠ 3 → exec (.finalVerifyDone a outside) s = .next s) ∧
        (x.phase = 3 → (∃ c ∈ bad, c ≠ 528) → exec (.finalVerifyDone a outside) s = .next (u.afterSpares n 2)) ∧
        (x.phase = 3 → (∀ c ∈ bad, c = 528) → exec (.finalVerifyDone a outside) s = .next (u.afterSpares n 4))) ∧
      (x.phase ≠ 4 → exec (.arraySteepComplete a) s = .next s) ∧
      (x.phase = 4 → Completes (.arraySteepComplete a) s fun t => ∃ v : State, t = (v.endArray n).runRemaps n ∧ v.pending = s.pending ∧ v.free = s.free + 1 ∧
        v.recState n = 2 ∧ v.odAt n 0x3107 0 9 = Config.freeWord s.free % 65536 ∧ v.odAt n 0x3107 0 11 = s.now ∧ v.arrayState n = 0 ∧
        (∀ l, l < 512 → v.scales.get 0 (n * 512 + l) = leAt x.scales (2 * l) 2) ∧ v.weights = s.weights ∧ v.stack = s.stack ∧
        v.remapWaits = s.remapWaits) ∧
      (x.phase = 4 → s.remapWaits = [] → (∃ y ∈ j.arrays, y.array / 1024 = n / 1024 ∧ y.array ≠ n ∧ y.phase ≠ 5) →
        Completes (.arraySteepComplete a) s fun t =>
          t.pending = s.pending ∧ t.free = s.free + 1 ∧ t.recState n = 2 ∧ t.odAt n 0x3107 0 9 = Config.freeWord s.free % 65536 ∧ t.arrayState n = 0 ∧
          (∀ l, l < 512 → t.scales.get 0 (n * 512 + l) = leAt x.scales (2 * l) 2) ∧ t.weights = s.weights ∧ t.stack = s.stack) ∧
      (∀ rows : List (List Byte),
        (x.phase = 6 → exec (.levelReadComplete a rows) s = .next (s.refreshRead x rows)) ∧
        (x.phase = 5 → (∃ e ∈ s.remapWaits, e.1 = n) → exec (.levelReadComplete a rows) s = .next (s.repairRead n rows)) ∧
        (x.phase ≠ 6 → x.phase ≠ 5 ∨ (∀ e ∈ s.remapWaits, e.1 ≠ n) → exec (.levelReadComplete a rows) s = .next s))) ∧
    (s.steepArray n = none → ∀ rows : List (List Byte),
      ((∀ e ∈ s.remapWaits, e.1 ≠ n) → exec (.levelReadComplete a rows) s = .next s) ∧
      ((∃ e ∈ s.remapWaits, e.1 = n) → exec (.levelReadComplete a rows) s = .next (s.repairRead n rows))) ∧
    (∀ rows : List (List Byte), s.repairRead n rows =
      if s.odAt n 0x3107 0 12 = payloadDigest rows (s.scalePlane n) then (rows.zipIdx.foldl (fun t e => t.writeCells n e.2 e.1) s).runRemaps n
      else ({ s with remapWaits := s.remapWaits.filter fun e => e.1 != n }.setArrayState n 2).raise { kind := .steep, path := pathSite n, detail := 4 }) ∧
    (s.ready = true ∨ s.mainUp = false →
      (∀ b g r m, exec (.programRecordArrival a b g r m) s = .next s) ∧ ∀ d, exec (.integrityCheckComplete d) s = .next s) ∧
    (s.ready = false → s.mainUp = true →
      (∀ (b : List Byte) (scalesGood : Bool) (rows : List (List Byte)),
        let good := b.length = 96 ∧ isSealed b = true
        let state := leAt b 4 1
        let counted := s.bump 0x5029 0 0 1
        let fenced (u : State) : State := if u.arrayState n ≠ 3 then (u.setArrayState n 2).bump 0x5029 0 1 1 else u
        (¬ good → exec (.programRecordArrival a b scalesGood rows 0) s = .next (fenced counted)) ∧
        (good →
          let kept := (s.putValue n 0x3107 0 b).bump 0x5029 0 0 1
          let matches_ := if kept.od 0x5028 0 0 = 1 then kept.odAt n 0x3107 0 12 = payloadDigest rows (kept.scalePlane n)
            else kept.odAt n 0x3107 0 13 = crc32 rows.flatten
          (state = 1 → exec (.programRecordArrival a b scalesGood rows 0) s = .next (fenced (kept.setOd 0x5025 0 1 10))) ∧
          (state ≠ 1 → scalesGood = false → exec (.programRecordArrival a b scalesGood rows 0) s = .next (fenced kept)) ∧
          (state = 2 → scalesGood = true → exec (.programRecordArrival a b scalesGood rows 0) s = .next (if matches_ then kept else fenced kept)) ∧
          (state ≠ 1 → state ≠ 2 → scalesGood = true → exec (.programRecordArrival a b scalesGood rows 0) s = .next kept)) ∧
        (∀ (m : BitVec 32) (w : State), m ≠ 0 → exec (.programRecordArrival a b scalesGood rows 0) s = .next w →
          (good → state = 2 → exec (.programRecordArrival a b scalesGood rows m) s = .next (
            let w' := w.bump 0x5029 0 2 m.toNat
            if w'.mask 0x3113 0 (n / 1024) then w'
            else (w'.setMask 16 0x3113 0 (n / 1024) true).raise { kind := .refresh, path := pathUnit 0 (n / 1024) 7 0, detail := n / 1024 })) ∧
          (¬ good ∨ state ≠ 2 → exec (.programRecordArrival a b scalesGood rows m) s = .next w))) ∧
      (∀ d : BitVec 32, exec (.integrityCheckComplete d) s =
        .next (({ s with integrity := true, streamed := true }.setOd 0x5029 0 3 d.toNat).refreshStage.calTriggers)))

/-- For every command c and state s whose queue is c followed by others, a step at s is exec of c at s with the others as its queue. With an empty queue a step answers a next state in which the tick has gone up by one, rack time and what is left of its slew have moved on, and everything else is as before: the idle tick is the model's choice (log entry 2). -/
def Obligations.StepRunsFrontCommand : Prop :=
  ∀ s : State,
    (∀ (c : Instr) (rest : List Instr), s.pending = c :: rest → step s = exec c { s with pending := rest }) ∧
    (s.pending = [] → ∃ t, step s = .next t ∧ t.tick = s.tick + 1 ∧
      t = { s with tick := t.tick, rackTime := t.rackTime, slew := t.slew, slewTick := t.slewTick })

/-- At reset no command waits, no enable is set, no fall runs, the main side is OFF and its reset is held; the island has not booted, no trial runs and the test port holds IDCODE; nothing is sent, received, requested or steeped; the bytes of the stacks are in canonical form with none listed, and what stays on is legal. The miss limit is 8 and the fall-back length 64, the retry limit 32, the delivery timeouts 5,000 and 50,000 ns and the retry intervals 100 and 2,000 ns, as the object tables give them. The test port's instruction after reset is the model's (NOTES.md). -/
def Obligations.ResetLeavesTheSpecsValues : Prop :=
  State.reset.pending = [] ∧ State.reset.seq.enables = 0 ∧ State.reset.seq.down = none ∧ State.reset.seq.released = false ∧ State.reset.mainState = 0 ∧
    State.reset.islandRun = 0 ∧ State.reset.trial = 0 ∧ State.reset.tapInstr = 1 ∧ State.reset.sending = [] ∧ State.reset.receiving = [] ∧
    State.reset.requests = [] ∧ State.reset.steps = [] ∧ State.reset.steep = none ∧ State.reset.stack = [] ∧ State.reset.stackWf = true ∧
    State.reset.toAlwaysOnPart.legal = true ∧ State.reset.od 0x5C21 1 0 = 8 ∧ State.reset.od 0x5C21 2 0 = 64 ∧
    (List.range 5).map (State.reset.od 0x4201 0) = [100, 2000, 32, 5000, 50000]

/-- For every command of the table and every state, exec answers a next state, never a fault or a refusal, and the queue of commands that wait is the same in it as before. That no command stops is the model's reading of a manual that gives each an effect, an answer or none (NOTES.md, Stops). -/
def Obligations.EveryCommandCompletesAndKeepsTheQueue : Prop :=
  ∀ (c : Instr) (s : State), Completes c s fun t => t.pending = s.pending

/-- For every state in which the enables that are set are the first ones of the sequence, each power-good has its enable, and the numbers of the island, the trial, the slot that runs and the test port's instruction are among those their rules give: where a step answers a next state, the same holds in it. It holds at reset by ResetLeavesTheSpecsValues. -/
def Obligations.StepsKeepWhatStaysOnLegal : Prop :=
  ∀ s t : State, s.toAlwaysOnPart.legal = true → step s = .next t → t.toAlwaysOnPart.legal = true
end

