-- ==== Sys2Proof/Laws/Keeps.lean ====
section
/-! SUPPORT. Laws/Keeps.lean: what every operation but those of power, island start and test port leaves as it was: the queue of commands,
and the part of the state that only commands of 21 and 22 change. One lemma per operation, in the order of the package. -/

namespace Sys2Proof.Laws

open Sys2Proof.Machine

@[simp] theorem ite_pending (c : Prop) [Decidable c] (a b : State) : (if c then a else b).pending = if c then a.pending else b.pending := by split <;> rfl
@[simp] theorem foldl_pending {α : Type} (l : List α) (g : State → α → State) (s : State) (h : ∀ s a, (g s a).pending = s.pending) : (l.foldl g s).pending = s.pending := by
  induction l generalizing s with
  | nil => rfl
  | cons a l ih => simp [List.foldl, ih, h]
@[simp] theorem ite_toAlwaysOnPart (c : Prop) [Decidable c] (a b : State) : (if c then a else b).toAlwaysOnPart = if c then a.toAlwaysOnPart else b.toAlwaysOnPart := by split <;> rfl
@[simp] theorem foldl_toAlwaysOnPart {α : Type} (l : List α) (g : State → α → State) (s : State) (h : ∀ s a, (g s a).toAlwaysOnPart = s.toAlwaysOnPart) : (l.foldl g s).toAlwaysOnPart = s.toAlwaysOnPart := by
  induction l generalizing s with
  | nil => rfl
  | cons a l ih => simp [List.foldl, ih, h]
@[simp] theorem ite_snd {α β : Type} (c : Prop) [Decidable c] (a b : α × β) : (if c then a else b).2 = if c then a.2 else b.2 := by split <;> rfl
@[simp] theorem ite_fst {α β : Type} (c : Prop) [Decidable c] (a b : α × β) : (if c then a else b).1 = if c then a.1 else b.1 := by split <;> rfl
@[simp] theorem foldl_snd_pending {α β : Type} (l : List α) (g : β × State → α → β × State) (p : β × State) (h : ∀ p a, (g p a).2.pending = p.2.pending) : (l.foldl g p).2.pending = p.2.pending := by
  induction l generalizing p with
  | nil => rfl
  | cons a l ih => simp [List.foldl, ih, h]
@[simp] theorem foldl_snd_toAlwaysOnPart {α β : Type} (l : List α) (g : β × State → α → β × State) (p : β × State) (h : ∀ p a, (g p a).2.toAlwaysOnPart = p.2.toAlwaysOnPart) : (l.foldl g p).2.toAlwaysOnPart = p.2.toAlwaysOnPart := by
  induction l generalizing p with
  | nil => rfl
  | cons a l ih => simp [List.foldl, ih, h]
@[simp] theorem State_setOdAt_keeps : ∀ inst idx sub fld v s, (State.setOdAt inst idx sub fld v s).pending = s.pending ∧ (State.setOdAt inst idx sub fld v s).toAlwaysOnPart = s.toAlwaysOnPart := fun _ _ _ _ _ _ => ⟨rfl, rfl⟩
@[simp] theorem State_setOd_keeps : ∀ idx sub fld v s, (State.setOd idx sub fld v s).pending = s.pending ∧ (State.setOd idx sub fld v s).toAlwaysOnPart = s.toAlwaysOnPart := fun _ _ _ _ _ => ⟨rfl, rfl⟩
@[simp] theorem State_bumpAt_keeps : ∀ inst idx sub fld n s, (State.bumpAt inst idx sub fld n s).pending = s.pending ∧ (State.bumpAt inst idx sub fld n s).toAlwaysOnPart = s.toAlwaysOnPart := fun _ _ _ _ _ _ => ⟨rfl, rfl⟩
@[simp] theorem State_bump_keeps : ∀ idx sub fld n s, (State.bump idx sub fld n s).pending = s.pending ∧ (State.bump idx sub fld n s).toAlwaysOnPart = s.toAlwaysOnPart := fun _ _ _ _ _ => ⟨rfl, rfl⟩
@[simp] theorem State_setBlobAt_keeps : ∀ inst idx sub v s, (State.setBlobAt inst idx sub v s).pending = s.pending ∧ (State.setBlobAt inst idx sub v s).toAlwaysOnPart = s.toAlwaysOnPart := fun _ _ _ _ _ => ⟨rfl, rfl⟩
@[simp] theorem State_setBlob_keeps : ∀ idx sub v s, (State.setBlob idx sub v s).pending = s.pending ∧ (State.setBlob idx sub v s).toAlwaysOnPart = s.toAlwaysOnPart := fun _ _ _ _ => ⟨rfl, rfl⟩
@[simp] theorem State_setMask_keeps : ∀ size idx sub i v s, (State.setMask size idx sub i v s).pending = s.pending ∧ (State.setMask size idx sub i v s).toAlwaysOnPart = s.toAlwaysOnPart := fun _ _ _ _ _ _ => ⟨rfl, rfl⟩
@[simp] theorem State_keepOld_keeps : ∀ idx sub fld s, (State.keepOld idx sub fld s).pending = s.pending ∧ (State.keepOld idx sub fld s).toAlwaysOnPart = s.toAlwaysOnPart := by
  intro idx sub fld s
  simp [State.keepOld]
@[simp] theorem State_keepOldBlob_keeps : ∀ idx sub s, (State.keepOldBlob idx sub s).pending = s.pending ∧ (State.keepOldBlob idx sub s).toAlwaysOnPart = s.toAlwaysOnPart := by
  intro idx sub s
  simp [State.keepOldBlob]
@[simp] theorem State_spend_keeps : ∀ n s, (State.spend n s).pending = s.pending ∧ (State.spend n s).toAlwaysOnPart = s.toAlwaysOnPart := fun _ _ => ⟨rfl, rfl⟩
@[simp] theorem State_emit_keeps : ∀ o s, (State.emit o s).pending = s.pending ∧ (State.emit o s).toAlwaysOnPart = s.toAlwaysOnPart := fun _ _ => ⟨rfl, rfl⟩
@[simp] theorem State_sendToIsland_keeps : ∀ urgent kind corr body s, (State.sendToIsland urgent kind corr body s).pending = s.pending ∧ (State.sendToIsland urgent kind corr body s).toAlwaysOnPart = s.toAlwaysOnPart := by
  intro urgent kind corr body s
  simp [State.sendToIsland]
@[simp] theorem State_sendToMain_keeps : ∀ urgent kind corr body s, (State.sendToMain urgent kind corr body s).pending = s.pending ∧ (State.sendToMain urgent kind corr body s).toAlwaysOnPart = s.toAlwaysOnPart := by
  intro urgent kind corr body s
  simp [State.sendToMain]
@[simp] theorem State_setPathQ_keeps : ∀ p q s, (State.setPathQ p q s).pending = s.pending ∧ (State.setPathQ p q s).toAlwaysOnPart = s.toAlwaysOnPart := by
  intro p q s
  simp [State.setPathQ]
@[simp] theorem State_offer_keeps : ∀ p r s, (State.offer p r s).1.pending = s.pending ∧ (State.offer p r s).1.toAlwaysOnPart = s.toAlwaysOnPart := by
  intro p r s
  refine ⟨?_, ?_⟩ <;> (simp only [State.offer]; (repeat' split) <;> simp_all)
@[simp] theorem State_holdForIsland_keeps : ∀ r s, (State.holdForIsland r s).pending = s.pending ∧ (State.holdForIsland r s).toAlwaysOnPart = s.toAlwaysOnPart := by
  intro r s
  simp [State.holdForIsland]
@[simp] theorem State_logRecord_keeps : ∀ r s, (State.logRecord r s).pending = s.pending ∧ (State.logRecord r s).toAlwaysOnPart = s.toAlwaysOnPart := by
  intro r s
  simp [State.logRecord]
@[simp] theorem State_offerAll_keeps : ∀ r s, (State.offerAll r s).1.pending = s.pending ∧ (State.offerAll r s).1.toAlwaysOnPart = s.toAlwaysOnPart := by
  intro r s
  simp [State.offerAll]
@[simp] theorem State_chimneyDrop_keeps : ∀ s p, (State.chimneyDrop s p).pending = s.pending ∧ (State.chimneyDrop s p).toAlwaysOnPart = s.toAlwaysOnPart := by
  intro s p
  simp [State.chimneyDrop]
@[simp] theorem State_raise_keeps : ∀ r s, (State.raise r s).pending = s.pending ∧ (State.raise r s).toAlwaysOnPart = s.toAlwaysOnPart := by
  intro r s
  simp [State.raise]
@[simp] theorem State_journaled_keeps : ∀ key n s, (State.journaled key n s).pending = s.pending ∧ (State.journaled key n s).toAlwaysOnPart = s.toAlwaysOnPart := by
  intro key n s
  simp [State.journaled]
@[simp] theorem State_raiseIsland_keeps : ∀ islandTime r s, (State.raiseIsland islandTime r s).pending = s.pending ∧ (State.raiseIsland islandTime r s).toAlwaysOnPart = s.toAlwaysOnPart := by
  intro islandTime r s
  simp [State.raiseIsland]
@[simp] theorem State_setPort_keeps : ∀ p x s, (State.setPort p x s).pending = s.pending ∧ (State.setPort p x s).toAlwaysOnPart = s.toAlwaysOnPart := fun _ _ _ => ⟨rfl, rfl⟩
@[simp] theorem State_modPort_keeps : ∀ p f s, (State.modPort p f s).pending = s.pending ∧ (State.modPort p f s).toAlwaysOnPart = s.toAlwaysOnPart := fun _ _ _ => ⟨rfl, rfl⟩
@[simp] theorem State_pump_keeps (p n : Nat) (s : State) : (s.pump p n).pending = s.pending ∧ (s.pump p n).toAlwaysOnPart = s.toAlwaysOnPart := by
  induction n generalizing s with
  | zero => simp [State.pump]
  | succ n ih =>
    simp only [State.pump]
    refine ⟨?_, ?_⟩ <;> (repeat' split) <;> simp [ih]
@[simp] theorem State_queueFrames_keeps : ∀ p fs s, (State.queueFrames p fs s).pending = s.pending ∧ (State.queueFrames p fs s).toAlwaysOnPart = s.toAlwaysOnPart := by
  intro p fs s
  simp [State.queueFrames]
@[simp] theorem State_queueRetry_keeps : ∀ p fs s, (State.queueRetry p fs s).pending = s.pending ∧ (State.queueRetry p fs s).toAlwaysOnPart = s.toAlwaysOnPart := by
  intro p fs s
  simp [State.queueRetry]
@[simp] theorem State_send_keeps : ∀ m s, (State.send m s).2.pending = s.pending ∧ (State.send m s).2.toAlwaysOnPart = s.toAlwaysOnPart := by
  intro m s
  refine ⟨?_, ?_⟩ <;> (simp only [State.send]; (repeat' split) <;> simp_all)
@[simp] theorem State_sendEach_keeps (m : Message) (l : List Nat) (s : State) : (s.sendEach m l).pending = s.pending ∧ (s.sendEach m l).toAlwaysOnPart = s.toAlwaysOnPart := by
  induction l generalizing s with
  | nil => simp [State.sendEach]
  | cons d l ih => simp [State.sendEach, ih]
@[simp] theorem State_notice_keeps : ∀ type arg ctx step data dests s, (State.notice type arg ctx step data dests s).pending = s.pending ∧ (State.notice type arg ctx step data dests s).toAlwaysOnPart = s.toAlwaysOnPart := by
  intro type arg ctx step data dests s
  simp [State.notice]
@[simp] theorem State_setStep_keeps : ∀ id x s, (State.setStep id x s).pending = s.pending ∧ (State.setStep id x s).toAlwaysOnPart = s.toAlwaysOnPart := fun _ _ _ => ⟨rfl, rfl⟩
@[simp] theorem State_modStep_keeps : ∀ id f s, (State.modStep id f s).pending = s.pending ∧ (State.modStep id f s).toAlwaysOnPart = s.toAlwaysOnPart := fun _ _ _ => ⟨rfl, rfl⟩
@[simp] theorem State_sendStrings_keeps (dest : Nat) (l : List (List Byte)) (s : State) : (s.sendStrings dest l).2.pending = s.pending ∧ (s.sendStrings dest l).2.toAlwaysOnPart = s.toAlwaysOnPart := by
  unfold State.sendStrings
  constructor
  · exact foldl_snd_pending _ _ _ fun p b => (State_send_keeps _ p.2).1
  · exact foldl_snd_toAlwaysOnPart _ _ _ fun p b => (State_send_keeps _ p.2).2
@[simp] theorem State_sendMirror_keeps (type : Nat) (body : List Byte) (dest : Nat) (s : State) : (s.sendMirror type body dest).2.pending = s.pending ∧ (s.sendMirror type body dest).2.toAlwaysOnPart = s.toAlwaysOnPart :=
  State_sendStrings_keeps dest _ s
@[simp] theorem State_mirrorTo_keeps : ∀ type body dest s, (State.mirrorTo type body dest s).pending = s.pending ∧ (State.mirrorTo type body dest s).toAlwaysOnPart = s.toAlwaysOnPart := by
  intro type body dest s
  simp [State.mirrorTo]
@[simp] theorem State_mirrorToTwin_keeps : ∀ step type body s, (State.mirrorToTwin step type body s).pending = s.pending ∧ (State.mirrorToTwin step type body s).toAlwaysOnPart = s.toAlwaysOnPart := by
  intro step type body s
  refine ⟨?_, ?_⟩ <;> (simp only [State.mirrorToTwin]; (repeat' split) <;> simp_all)
@[simp] theorem State_forward_keeps : ∀ idx sub data dests s, (State.forward idx sub data dests s).pending = s.pending ∧ (State.forward idx sub data dests s).toAlwaysOnPart = s.toAlwaysOnPart := by
  intro idx sub data dests s
  simp [State.forward]
@[simp] theorem State_freeFrames_keeps : ∀ c s, (State.freeFrames c s).pending = s.pending ∧ (State.freeFrames c s).toAlwaysOnPart = s.toAlwaysOnPart := fun _ _ => ⟨rfl, rfl⟩
@[simp] theorem State_discardCtx_keeps : ∀ c s, (State.discardCtx c s).pending = s.pending ∧ (State.discardCtx c s).toAlwaysOnPart = s.toAlwaysOnPart := by
  intro c s
  refine ⟨?_, ?_⟩ <;> (simp only [State.discardCtx]; (repeat' split) <;> simp_all)
@[simp] theorem State_rebuild_keeps : ∀ c s, (State.rebuild c s).pending = s.pending ∧ (State.rebuild c s).toAlwaysOnPart = s.toAlwaysOnPart := by
  intro c s
  refine ⟨?_, ?_⟩ <;> (simp only [State.rebuild]; (repeat' split) <;> simp_all)
@[simp] theorem State_rebuildAll_keeps : ∀ s, (State.rebuildAll s).pending = s.pending ∧ (State.rebuildAll s).toAlwaysOnPart = s.toAlwaysOnPart := by
  intro s
  simp [State.rebuildAll]
@[simp] theorem State_setCtx_keeps : ∀ c x s, (State.setCtx c x s).pending = s.pending ∧ (State.setCtx c x s).toAlwaysOnPart = s.toAlwaysOnPart := fun _ _ _ => ⟨rfl, rfl⟩
@[simp] theorem State_loseCtx_keeps : ∀ c s, (State.loseCtx c s).pending = s.pending ∧ (State.loseCtx c s).toAlwaysOnPart = s.toAlwaysOnPart := by
  intro c s
  refine ⟨?_, ?_⟩ <;> (simp only [State.loseCtx]; (repeat' split) <;> simp_all)
@[simp] theorem State_dropPages_keeps : ∀ l s, (State.dropPages l s).pending = s.pending ∧ (State.dropPages l s).toAlwaysOnPart = s.toAlwaysOnPart := by
  intro l s
  simp [State.dropPages]
@[simp] theorem State_retireFrame_keeps : ∀ p s, (State.retireFrame p s).pending = s.pending ∧ (State.retireFrame p s).toAlwaysOnPart = s.toAlwaysOnPart := by
  intro p s
  refine ⟨?_, ?_⟩ <;> (simp only [State.retireFrame]; (repeat' split) <;> simp_all)
@[simp] theorem State_retireAt_keeps : ∀ addr s, (State.retireAt addr s).pending = s.pending ∧ (State.retireAt addr s).toAlwaysOnPart = s.toAlwaysOnPart := by
  intro addr s
  refine ⟨?_, ?_⟩ <;> (simp only [State.retireAt]; (repeat' split) <;> simp_all)
@[simp] theorem State_stackError_keeps (l t : Nat) (s : State) : (s.stackError l t).pending = s.pending ∧ (s.stackError l t).toAlwaysOnPart = s.toAlwaysOnPart := by
  simp [State.stackError]
@[simp] theorem State_correctLine_keeps : ∀ line s, (State.correctLine line s).pending = s.pending ∧ (State.correctLine line s).toAlwaysOnPart = s.toAlwaysOnPart := by
  intro line s
  simp [State.correctLine]
@[simp] theorem State_readLine_keeps : ∀ line step s, (State.readLine line step s).2.pending = s.pending ∧ (State.readLine line step s).2.toAlwaysOnPart = s.toAlwaysOnPart := by
  intro line step s
  simp [State.readLine]
@[simp] theorem State_readLines_keeps : ∀ lines step s, (State.readLines lines step s).2.pending = s.pending ∧ (State.readLines lines step s).2.toAlwaysOnPart = s.toAlwaysOnPart := by
  intro lines step s
  simp [State.readLines]
@[simp] theorem State_readFrame_keeps (a t : Nat) (s : State) : (s.readFrame a t).2.pending = s.pending ∧ (s.readFrame a t).2.toAlwaysOnPart = s.toAlwaysOnPart := by
  simp [State.readFrame]
@[simp] theorem State_mirrorCtx_keeps : ∀ c s, (State.mirrorCtx c s).pending = s.pending ∧ (State.mirrorCtx c s).toAlwaysOnPart = s.toAlwaysOnPart := by
  intro c s
  refine ⟨?_, ?_⟩ <;> (simp only [State.mirrorCtx]; (repeat' split) <;> simp_all)
@[simp] theorem State_readCtx_keeps : ∀ x s, (State.readCtx x s).pending = s.pending ∧ (State.readCtx x s).toAlwaysOnPart = s.toAlwaysOnPart := by
  intro x s
  refine ⟨?_, ?_⟩ <;> (simp only [State.readCtx]; (repeat' split) <;> simp_all)
@[simp] theorem State_sendCopies_keeps : ∀ t bodies s, (State.sendCopies t bodies s).pending = s.pending ∧ (State.sendCopies t bodies s).toAlwaysOnPart = s.toAlwaysOnPart := by
  intro t bodies s
  simp [State.sendCopies]
@[simp] theorem State_setPair_keeps : ∀ v s, (State.setPair v s).pending = s.pending ∧ (State.setPair v s).toAlwaysOnPart = s.toAlwaysOnPart := fun _ _ => ⟨rfl, rfl⟩
@[simp] theorem State_noteSyncing_keeps (ep : Nat) (s : State) : (s.noteSyncing ep).pending = s.pending ∧ (s.noteSyncing ep).toAlwaysOnPart = s.toAlwaysOnPart := by
  constructor <;> (unfold State.noteSyncing; split <;> rfl)
@[simp] theorem State_startSync_keeps (s : State) : (s.startSync).pending = s.pending ∧ (s.startSync).toAlwaysOnPart = s.toAlwaysOnPart := by
  have hr (l : List (Nat × Option Ctx)) (s : State) :
      (l.foldl (fun s e => (e.2.map fun x => s.readCtx x).getD s) s).pending = s.pending ∧
      (l.foldl (fun s e => (e.2.map fun x => s.readCtx x).getD s) s).toAlwaysOnPart = s.toAlwaysOnPart :=
    ⟨foldl_pending _ _ _ fun s e => by cases e.2 <;> simp, foldl_toAlwaysOnPart _ _ _ fun s e => by cases e.2 <;> simp⟩
  unfold State.startSync
  dsimp only
  split
  · simp [hr]
  · simp
@[simp] theorem State_settlePair_keeps : ∀ s, (State.settlePair s).pending = s.pending ∧ (State.settlePair s).toAlwaysOnPart = s.toAlwaysOnPart := by
  intro s
  refine ⟨?_, ?_⟩ <;> (simp only [State.settlePair]; (repeat' split) <;> simp_all)
@[simp] theorem State_putFields_keeps (i x y n : Nat) (l : List Nat) (s : State) : (s.putFields i x y n l).pending = s.pending ∧ (s.putFields i x y n l).toAlwaysOnPart = s.toAlwaysOnPart := by
  induction l generalizing n s with
  | nil => simp [State.putFields]
  | cons v l ih => simp [State.putFields, ih]
@[simp] theorem State_putValue_keeps : ∀ inst idx sub data s, (State.putValue inst idx sub data s).pending = s.pending ∧ (State.putValue inst idx sub data s).toAlwaysOnPart = s.toAlwaysOnPart := by
  intro inst idx sub data s
  simp [State.putValue]
@[simp] theorem State_answer_keeps : ∀ rq code s, (State.answer rq code s).pending = s.pending ∧ (State.answer rq code s).toAlwaysOnPart = s.toAlwaysOnPart := fun _ _ _ => ⟨rfl, rfl⟩
@[simp] theorem State_noteCommand_keeps : ∀ idx sub data s, (State.noteCommand idx sub data s).pending = s.pending ∧ (State.noteCommand idx sub data s).toAlwaysOnPart = s.toAlwaysOnPart := by
  intro idx sub data s
  simp [State.noteCommand]
@[simp] theorem State_endCommand_keeps : ∀ idx sub result s, (State.endCommand idx sub result s).pending = s.pending ∧ (State.endCommand idx sub result s).toAlwaysOnPart = s.toAlwaysOnPart := fun _ _ _ _ => ⟨rfl, rfl⟩
@[simp] theorem State_access_keeps (rq : Requester) (op : AccessOp) (i x : Nat) (d : List Byte) (f : State → Nat × State) (s : State)
    (h : ∀ s, (f s).2.pending = s.pending ∧ (f s).2.toAlwaysOnPart = s.toAlwaysOnPart) : (s.access rq op i x d f).pending = s.pending ∧ (s.access rq op i x d f).toAlwaysOnPart = s.toAlwaysOnPart := by
  refine ⟨?_, ?_⟩ <;> (simp only [State.access]; (repeat' split) <;> simp [h])
@[simp] theorem State_respondOnce_keeps : ∀ m code total data s, (State.respondOnce m code total data s).pending = s.pending ∧ (State.respondOnce m code total data s).toAlwaysOnPart = s.toAlwaysOnPart := by
  intro m code total data s
  simp [State.respondOnce]
@[simp] theorem State_respond_keeps : ∀ m code total data s, (State.respond m code total data s).pending = s.pending ∧ (State.respond m code total data s).toAlwaysOnPart = s.toAlwaysOnPart := by
  intro m code total data s
  simp [State.respond]
@[simp] theorem refuse_keeps : ∀ c s, (refuse c s).2.pending = s.pending ∧ (refuse c s).2.toAlwaysOnPart = s.toAlwaysOnPart := fun _ _ => ⟨rfl, rfl⟩
@[simp] theorem State_setCause_keeps : ∀ p b s, (State.setCause p b s).pending = s.pending ∧ (State.setCause p b s).toAlwaysOnPart = s.toAlwaysOnPart := by
  intro p b s
  simp [State.setCause]
@[simp] theorem State_modQp_keeps : ∀ k f s, (State.modQp k f s).pending = s.pending ∧ (State.modQp k f s).toAlwaysOnPart = s.toAlwaysOnPart := fun _ _ _ => ⟨rfl, rfl⟩
@[simp] theorem State_setQpStat_keeps : ∀ k f v s, (State.setQpStat k f v s).pending = s.pending ∧ (State.setQpStat k f v s).toAlwaysOnPart = s.toAlwaysOnPart := fun _ _ _ _ => ⟨rfl, rfl⟩
@[simp] theorem State_signalQp_keeps : ∀ k s, (State.signalQp k s).pending = s.pending ∧ (State.signalQp k s).toAlwaysOnPart = s.toAlwaysOnPart := fun _ _ => ⟨rfl, rfl⟩
@[simp] theorem State_writeBlock_keeps : ∀ k s, (State.writeBlock k s).pending = s.pending ∧ (State.writeBlock k s).toAlwaysOnPart = s.toAlwaysOnPart := by
  intro k s
  simp [State.writeBlock]
@[simp] theorem State_writeEntry_keeps : ∀ k e s, (State.writeEntry k e s).pending = s.pending ∧ (State.writeEntry k e s).toAlwaysOnPart = s.toAlwaysOnPart := by
  intro k e s
  simp [State.writeEntry]
@[simp] theorem State_holdSlot_keeps : ∀ k s, (State.holdSlot k s).pending = s.pending ∧ (State.holdSlot k s).toAlwaysOnPart = s.toAlwaysOnPart := fun _ _ => ⟨rfl, rfl⟩
@[simp] theorem State_dropSlot_keeps : ∀ k s, (State.dropSlot k s).pending = s.pending ∧ (State.dropSlot k s).toAlwaysOnPart = s.toAlwaysOnPart := fun _ _ => ⟨rfl, rfl⟩
@[simp] theorem State_clearRange_keeps : ∀ n layer s, (State.clearRange n layer s).pending = s.pending ∧ (State.clearRange n layer s).toAlwaysOnPart = s.toAlwaysOnPart := by
  intro n layer s
  simp [State.clearRange]
@[simp] theorem State_setLayerSlot_keeps : ∀ n layer v s, (State.setLayerSlot n layer v s).pending = s.pending ∧ (State.setLayerSlot n layer v s).toAlwaysOnPart = s.toAlwaysOnPart := by
  intro n layer v s
  simp [State.setLayerSlot]
@[simp] theorem State_reportGeneration_keeps : ∀ s, (State.reportGeneration s).pending = s.pending ∧ (State.reportGeneration s).toAlwaysOnPart = s.toAlwaysOnPart := by
  intro s
  simp [State.reportGeneration]
@[simp] theorem State_refreshStage_keeps : ∀ s, (State.refreshStage s).pending = s.pending ∧ (State.refreshStage s).toAlwaysOnPart = s.toAlwaysOnPart := by
  intro s
  simp [State.refreshStage]
@[simp] theorem State_setArrayState_keeps : ∀ x0 v s, (State.setArrayState x0 v s).pending = s.pending ∧ (State.setArrayState x0 v s).toAlwaysOnPart = s.toAlwaysOnPart := by
  intro x0 v s
  simp [State.setArrayState]
@[simp] theorem State_copyColumn_keeps (a b c : Nat) (s : State) : (s.copyColumn a b c).pending = s.pending ∧ (s.copyColumn a b c).toAlwaysOnPart = s.toAlwaysOnPart := by
  unfold State.copyColumn
  exact ⟨rfl, rfl⟩
@[simp] theorem State_failOver_keeps : ∀ h s, (State.failOver h s).pending = s.pending ∧ (State.failOver h s).toAlwaysOnPart = s.toAlwaysOnPart := by
  intro h s
  simp [State.failOver]
@[simp] theorem State_retireArray_keeps : ∀ a s, (State.retireArray a s).pending = s.pending ∧ (State.retireArray a s).toAlwaysOnPart = s.toAlwaysOnPart := by
  intro a s
  simp [State.retireArray]
@[simp] theorem State_sealRecord_keeps : ∀ x0 s, (State.sealRecord x0 s).pending = s.pending ∧ (State.sealRecord x0 s).toAlwaysOnPart = s.toAlwaysOnPart := by
  intro x0 s
  simp [State.sealRecord]
@[simp] theorem State_noteWear_keeps : ∀ x0 s, (State.noteWear x0 s).pending = s.pending ∧ (State.noteWear x0 s).toAlwaysOnPart = s.toAlwaysOnPart := by
  intro x0 s
  simp [State.noteWear]
@[simp] theorem State_wear_keeps : ∀ x0 s, (State.wear x0 s).pending = s.pending ∧ (State.wear x0 s).toAlwaysOnPart = s.toAlwaysOnPart := by
  intro x0 s
  simp [State.wear]
@[simp] theorem State_remapColumn_keeps : ∀ x0 col cause s, (State.remapColumn x0 col cause s).pending = s.pending ∧ (State.remapColumn x0 col cause s).toAlwaysOnPart = s.toAlwaysOnPart := by
  intro x0 col cause s
  refine ⟨?_, ?_⟩ <;> (simp only [State.remapColumn]; (repeat' split) <;> simp_all)
@[simp] theorem State_remapOrWait_keeps : ∀ a col cause s, (State.remapOrWait a col cause s).pending = s.pending ∧ (State.remapOrWait a col cause s).toAlwaysOnPart = s.toAlwaysOnPart := by
  intro a col cause s
  simp [State.remapOrWait]
@[simp] theorem State_dropConverter_keeps : ∀ site conv s, (State.dropConverter site conv s).pending = s.pending ∧ (State.dropConverter site conv s).toAlwaysOnPart = s.toAlwaysOnPart := by
  intro site conv s
  simp [State.dropConverter]
@[simp] theorem State_toWorking_keeps : ∀ h s, (State.toWorking h s).pending = s.pending ∧ (State.toWorking h s).toAlwaysOnPart = s.toAlwaysOnPart := by
  intro h s
  refine ⟨?_, ?_⟩ <;> (simp only [State.toWorking]; (repeat' split) <;> simp_all)
@[simp] theorem State_writeSetPoint_keeps : ∀ mhz s, (State.writeSetPoint mhz s).pending = s.pending ∧ (State.writeSetPoint mhz s).toAlwaysOnPart = s.toAlwaysOnPart := fun _ _ => ⟨rfl, rfl⟩
@[simp] theorem State_retarget_keeps : ∀ s, (State.retarget s).pending = s.pending ∧ (State.retarget s).toAlwaysOnPart = s.toAlwaysOnPart := by
  intro s
  simp [State.retarget]
@[simp] theorem State_damperEvent_keeps : ∀ s, (State.damperEvent s).pending = s.pending ∧ (State.damperEvent s).toAlwaysOnPart = s.toAlwaysOnPart := by
  intro s
  simp [State.damperEvent]
@[simp] theorem State_settleDamper_keeps : ∀ s, (State.settleDamper s).pending = s.pending ∧ (State.settleDamper s).toAlwaysOnPart = s.toAlwaysOnPart := by
  intro s
  simp [State.settleDamper]
@[simp] theorem State_setHearth_keeps : ∀ h x s, (State.setHearth h x s).pending = s.pending ∧ (State.setHearth h x s).toAlwaysOnPart = s.toAlwaysOnPart := fun _ _ _ => ⟨rfl, rfl⟩
@[simp] theorem State_modHearth_keeps : ∀ h f s, (State.modHearth h f s).pending = s.pending ∧ (State.modHearth h f s).toAlwaysOnPart = s.toAlwaysOnPart := fun _ _ _ => ⟨rfl, rfl⟩
@[simp] theorem State_writeRow_keeps : ∀ h row cells s, (State.writeRow h row cells s).pending = s.pending ∧ (State.writeRow h row cells s).toAlwaysOnPart = s.toAlwaysOnPart := fun _ _ _ _ => ⟨rfl, rfl⟩
@[simp] theorem State_stokerRaise_keeps : ∀ h k path detail opcode s, (State.stokerRaise h k path detail opcode s).pending = s.pending ∧ (State.stokerRaise h k path detail opcode s).toAlwaysOnPart = s.toAlwaysOnPart := by
  intro h k path detail opcode s
  simp [State.stokerRaise]
@[simp] theorem State_showStoker_keeps : ∀ h st s, (State.showStoker h st s).pending = s.pending ∧ (State.showStoker h st s).toAlwaysOnPart = s.toAlwaysOnPart := fun _ _ _ => ⟨rfl, rfl⟩
@[simp] theorem State_clearFlue_keeps : ∀ step s, (State.clearFlue step s).pending = s.pending ∧ (State.clearFlue step s).toAlwaysOnPart = s.toAlwaysOnPart := fun _ _ => ⟨rfl, rfl⟩
@[simp] theorem State_raiseParity_keeps : ∀ path step word s, (State.raiseParity path step word s).pending = s.pending ∧ (State.raiseParity path step word s).toAlwaysOnPart = s.toAlwaysOnPart := by
  intro path step word s
  simp [State.raiseParity]
@[simp] theorem State_sendJoin_keeps : ∀ entry s, (State.sendJoin entry s).pending = s.pending ∧ (State.sendJoin entry s).toAlwaysOnPart = s.toAlwaysOnPart := by
  intro entry s
  simp [State.sendJoin]
@[simp] theorem State_sendJoined_keeps : ∀ entry s, (State.sendJoined entry s).pending = s.pending ∧ (State.sendJoined entry s).toAlwaysOnPart = s.toAlwaysOnPart := by
  intro entry s
  refine ⟨?_, ?_⟩ <;> (simp only [State.sendJoined]; (repeat' split) <;> simp_all)
@[simp] theorem State_reportFailed_keeps : ∀ s, (State.reportFailed s).pending = s.pending ∧ (State.reportFailed s).toAlwaysOnPart = s.toAlwaysOnPart := by
  intro s
  refine ⟨?_, ?_⟩ <;> (simp only [State.reportFailed]; (repeat' split) <;> simp_all)
@[simp] theorem State_dropRows_keeps : ∀ h keep s, (State.dropRows h keep s).pending = s.pending ∧ (State.dropRows h keep s).toAlwaysOnPart = s.toAlwaysOnPart := fun _ _ _ => ⟨rfl, rfl⟩
@[simp] theorem State_hearthOff_keeps : ∀ h fault s, (State.hearthOff h fault s).pending = s.pending ∧ (State.hearthOff h fault s).toAlwaysOnPart = s.toAlwaysOnPart := by
  intro h fault s
  simp [State.hearthOff]
@[simp] theorem State_fenceUnit_keeps : ∀ path s, (State.fenceUnit path s).pending = s.pending ∧ (State.fenceUnit path s).toAlwaysOnPart = s.toAlwaysOnPart := by
  intro path s
  simp [State.fenceUnit]
@[simp] theorem State_keepForStep_keeps : ∀ idx sub s, (State.keepForStep idx sub s).pending = s.pending ∧ (State.keepForStep idx sub s).toAlwaysOnPart = s.toAlwaysOnPart := by
  intro idx sub s
  simp [State.keepForStep]
@[simp] theorem State_settleOff_keeps : ∀ s, (State.settleOff s).pending = s.pending ∧ (State.settleOff s).toAlwaysOnPart = s.toAlwaysOnPart := by
  intro s
  simp [State.settleOff]
@[simp] theorem State_settleRwb_keeps : ∀ s, (State.settleRwb s).pending = s.pending ∧ (State.settleRwb s).toAlwaysOnPart = s.toAlwaysOnPart := by
  intro s
  simp [State.settleRwb]
@[simp] theorem State_applyBoundary_keeps : ∀ s, (State.applyBoundary s).pending = s.pending ∧ (State.applyBoundary s).toAlwaysOnPart = s.toAlwaysOnPart := by
  intro s
  simp [State.applyBoundary]
@[simp] theorem State_adoptGrid_keeps : ∀ s, (State.adoptGrid s).pending = s.pending ∧ (State.adoptGrid s).toAlwaysOnPart = s.toAlwaysOnPart := by
  intro s
  refine ⟨?_, ?_⟩ <;> (simp only [State.adoptGrid]; (repeat' split) <;> simp_all)
@[simp] theorem State_takeOff_keeps : ∀ h fault s, (State.takeOff h fault s).pending = s.pending ∧ (State.takeOff h fault s).toAlwaysOnPart = s.toAlwaysOnPart := by
  intro h fault s
  simp [State.takeOff]
@[simp] theorem State_writeBack_keeps : ∀ key s, (State.writeBack key s).pending = s.pending ∧ (State.writeBack key s).toAlwaysOnPart = s.toAlwaysOnPart := by
  intro key s
  simp [State.writeBack]
@[simp] theorem State_moveRow_keeps : ∀ h row s, (State.moveRow h row s).pending = s.pending ∧ (State.moveRow h row s).toAlwaysOnPart = s.toAlwaysOnPart := fun _ _ _ =>
  ⟨foldl_pending _ _ _ fun _ _ => rfl, foldl_toAlwaysOnPart _ _ _ fun _ _ => rfl⟩
@[simp] theorem State_repair_keeps : ∀ h row w s, (State.repair h row w s).pending = s.pending ∧ (State.repair h row w s).toAlwaysOnPart = s.toAlwaysOnPart := by
  intro h row w s
  refine ⟨?_, ?_⟩ <;> (simp only [State.repair]; (repeat' split) <;> simp_all)
@[simp] theorem State_settleCells_keeps : ∀ h s, (State.settleCells h s).pending = s.pending ∧ (State.settleCells h s).toAlwaysOnPart = s.toAlwaysOnPart := by
  intro h s
  constructor
  · exact foldl_pending _ _ _ fun s n => by split <;> simp
  · exact foldl_toAlwaysOnPart _ _ _ fun s n => by split <;> simp
@[simp] theorem State_dropLone_keeps : ∀ step s, (State.dropLone step s).pending = s.pending ∧ (State.dropLone step s).toAlwaysOnPart = s.toAlwaysOnPart := by
  intro step s
  refine ⟨?_, ?_⟩ <;> (simp only [State.dropLone]; (repeat' split) <;> simp_all)
@[simp] theorem State_boundary_keeps : ∀ step phase s, (State.boundary step phase s).pending = s.pending ∧ (State.boundary step phase s).toAlwaysOnPart = s.toAlwaysOnPart := by
  intro step phase s
  refine ⟨?_, ?_⟩ <;> (simp only [State.boundary]; (repeat' split) <;> simp_all)
@[simp] theorem State_abandonNotice_keeps : ∀ step dests s, (State.abandonNotice step dests s).pending = s.pending ∧ (State.abandonNotice step dests s).toAlwaysOnPart = s.toAlwaysOnPart := by
  intro step dests s
  simp [State.abandonNotice]
@[simp] theorem State_stopHearths_keeps : ∀ step s, (State.stopHearths step s).pending = s.pending ∧ (State.stopHearths step s).toAlwaysOnPart = s.toAlwaysOnPart := by
  intro step s
  simp [State.stopHearths]
@[simp] theorem State_leaveShadow_keeps : ∀ step s, (State.leaveShadow step s).pending = s.pending ∧ (State.leaveShadow step s).toAlwaysOnPart = s.toAlwaysOnPart := by
  intro step s
  simp [State.leaveShadow]
@[simp] theorem State_dropShadow_keeps : ∀ s, (State.dropShadow s).pending = s.pending ∧ (State.dropShadow s).toAlwaysOnPart = s.toAlwaysOnPart := by
  intro s
  refine ⟨?_, ?_⟩ <;> (simp only [State.dropShadow]; (repeat' split) <;> simp_all)
@[simp] theorem State_failStep_keeps : ∀ step s, (State.failStep step s).pending = s.pending ∧ (State.failStep step s).toAlwaysOnPart = s.toAlwaysOnPart := by
  intro step s
  refine ⟨?_, ?_⟩ <;> (simp only [State.failStep]; (repeat' split) <;> simp_all)
@[simp] theorem State_stokerFault_keeps : ∀ h k detail opcode s, (State.stokerFault h k detail opcode s).pending = s.pending ∧ (State.stokerFault h k detail opcode s).toAlwaysOnPart = s.toAlwaysOnPart := by
  intro h k detail opcode s
  simp [State.stokerFault]
@[simp] theorem State_originateSlip_keeps : ∀ step freeze s, (State.originateSlip step freeze s).pending = s.pending ∧ (State.originateSlip step freeze s).toAlwaysOnPart = s.toAlwaysOnPart := by
  intro step freeze s
  simp [State.originateSlip]
@[simp] theorem State_schedule_keeps : ∀ h cc d s, (State.schedule h cc d s).pending = s.pending ∧ (State.schedule h cc d s).toAlwaysOnPart = s.toAlwaysOnPart := fun _ _ _ _ => ⟨rfl, rfl⟩
@[simp] theorem State_fetchAt_keeps : ∀ h row cc d s, (State.fetchAt h row cc d s).pending = s.pending ∧ (State.fetchAt h row cc d s).toAlwaysOnPart = s.toAlwaysOnPart := by
  intro h row cc d s
  refine ⟨?_, ?_⟩ <;> (simp only [State.fetchAt]; (repeat' split) <;> simp_all)
@[simp] theorem State_giveUpRunning_keeps : ∀ step s, (State.giveUpRunning step s).pending = s.pending ∧ (State.giveUpRunning step s).toAlwaysOnPart = s.toAlwaysOnPart := by
  intro step s
  refine ⟨?_, ?_⟩ <;> (simp only [State.giveUpRunning]; (repeat' split) <;> simp_all)
@[simp] theorem State_freezeHearth_keeps : ∀ h cc s, (State.freezeHearth h cc s).pending = s.pending ∧ (State.freezeHearth h cc s).toAlwaysOnPart = s.toAlwaysOnPart := by
  intro h cc s
  refine ⟨?_, ?_⟩ <;> (simp only [State.freezeHearth]; (repeat' split) <;> simp_all)
@[simp] theorem State_wordRead_keeps : ∀ h row w cc who s, (State.wordRead h row w cc who s).pending = s.pending ∧ (State.wordRead h row w cc who s).toAlwaysOnPart = s.toAlwaysOnPart := by
  intro h row w cc who s
  refine ⟨?_, ?_⟩ <;> (simp only [State.wordRead, State.inStokerSlot]; (repeat' split) <;> simp_all)
@[simp] theorem State_rowRead_keeps (who : ReadBy) (h row cc : Nat) (s : State) : (s.rowRead who h row cc).2.pending = s.pending ∧ (s.rowRead who h row cc).2.toAlwaysOnPart = s.toAlwaysOnPart :=
  ⟨foldl_pending _ _ _ fun s w => (State_wordRead_keeps h row w cc who s).1, foldl_toAlwaysOnPart _ _ _ fun s w => (State_wordRead_keeps h row w cc who s).2⟩
@[simp] theorem State_engineRead_keeps : ∀ h row cc s, (State.engineRead h row cc s).2.pending = s.pending ∧ (State.engineRead h row cc s).2.toAlwaysOnPart = s.toAlwaysOnPart := by
  intro h row cc s
  simp [State.engineRead]
@[simp] theorem State_setFlag_keeps : ∀ h e cc s, (State.setFlag h e cc s).pending = s.pending ∧ (State.setFlag h e cc s).toAlwaysOnPart = s.toAlwaysOnPart := by
  intro h e cc s
  refine ⟨?_, ?_⟩ <;> (simp only [State.setFlag]; (repeat' split) <;> simp_all)
@[simp] theorem State_writeRows_keeps (h r : Nat) (l : List (List VCell)) (s : State) : (s.writeRows h r l).pending = s.pending ∧ (s.writeRows h r l).toAlwaysOnPart = s.toAlwaysOnPart := by
  induction l generalizing r s with
  | nil => simp [State.writeRows]
  | cons c l ih => simp [State.writeRows, ih]
@[simp] theorem State_rowsRead_keeps (who : ReadBy) (h cc r n : Nat) (s : State) : (s.rowsRead who h cc r n).2.pending = s.pending ∧ (s.rowsRead who h cc r n).2.toAlwaysOnPart = s.toAlwaysOnPart := by
  induction n generalizing r s with
  | zero => simp [State.rowsRead]
  | succ n ih => simp [State.rowsRead, ih]
@[simp] theorem State_readRows_keeps : ∀ h cc row n s, (State.readRows h cc row n s).2.pending = s.pending ∧ (State.readRows h cc row n s).2.toAlwaysOnPart = s.toAlwaysOnPart := by
  intro h cc row n s
  simp [State.readRows]
@[simp] theorem State_setSite_keeps : ∀ n x s, (State.setSite n x s).pending = s.pending ∧ (State.setSite n x s).toAlwaysOnPart = s.toAlwaysOnPart := fun _ _ _ => ⟨rfl, rfl⟩
@[simp] theorem State_loadSegment_keeps : ∀ h sites seq reg half scaleReg lane s, (State.loadSegment h sites seq reg half scaleReg lane s).pending = s.pending ∧ (State.loadSegment h sites seq reg half scaleReg lane s).toAlwaysOnPart = s.toAlwaysOnPart := by
  intro h sites seq reg half scaleReg lane s
  simp [State.loadSegment]
@[simp] theorem State_noteCheck_keeps : ∀ step i bad s, (State.noteCheck step i bad s).pending = s.pending ∧ (State.noteCheck step i bad s).toAlwaysOnPart = s.toAlwaysOnPart := by
  intro step i bad s
  refine ⟨?_, ?_⟩ <;> (simp only [State.noteCheck]; (repeat' split) <;> simp_all)
@[simp] theorem State_twinMismatch_keeps : ∀ step ppm s, (State.twinMismatch step ppm s).pending = s.pending ∧ (State.twinMismatch step ppm s).toAlwaysOnPart = s.toAlwaysOnPart := by
  intro step ppm s
  simp [State.twinMismatch]
@[simp] theorem State_settleShadow_keeps : ∀ s, (State.settleShadow s).pending = s.pending ∧ (State.settleShadow s).toAlwaysOnPart = s.toAlwaysOnPart := by
  intro s
  refine ⟨?_, ?_⟩ <;> (simp only [State.settleShadow]; (repeat' split) <;> simp_all)
@[simp] theorem State_shadowHalts_keeps : ∀ step s, (State.shadowHalts step s).pending = s.pending ∧ (State.shadowHalts step s).toAlwaysOnPart = s.toAlwaysOnPart := by
  intro step s
  simp [State.shadowHalts]
@[simp] theorem State_deliveryFailed_keeps : ∀ step ep reason s, (State.deliveryFailed step ep reason s).pending = s.pending ∧ (State.deliveryFailed step ep reason s).toAlwaysOnPart = s.toAlwaysOnPart := by
  intro step ep reason s
  simp [State.deliveryFailed]
@[simp] theorem State_sendActTo_keeps : ∀ h step slot targets payload s, (State.sendActTo h step slot targets payload s).2.pending = s.pending ∧ (State.sendActTo h step slot targets payload s).2.toAlwaysOnPart = s.toAlwaysOnPart := by
  intro h step slot targets payload s
  refine ⟨?_, ?_⟩ <;> (simp only [State.sendActTo]; (repeat' split) <;> simp_all)
@[simp] theorem State_sendAct_keeps (h t g k : Nat) (p : List Byte) (s : State) : (s.sendAct h t g k p).2.pending = s.pending ∧ (s.sendAct h t g k p).2.toAlwaysOnPart = s.toAlwaysOnPart := by
  refine ⟨?_, ?_⟩ <;> (simp only [State.sendAct]; (repeat' split) <;> simp)
@[simp] theorem State_resendRetained_keeps : ∀ dests r s, (State.resendRetained dests r s).pending = s.pending ∧ (State.resendRetained dests r s).toAlwaysOnPart = s.toAlwaysOnPart := by
  intro dests r s
  refine ⟨?_, ?_⟩ <;> (simp only [State.resendRetained]; (repeat' split) <;> simp_all)
@[simp] theorem State_settleEdge_keeps : ∀ step s, (State.settleEdge step s).pending = s.pending ∧ (State.settleEdge step s).toAlwaysOnPart = s.toAlwaysOnPart := by
  intro step s
  refine ⟨?_, ?_⟩ <;> (simp only [State.settleEdge]; (repeat' split) <;> simp_all)
@[simp] theorem State_takeK_keeps : ∀ step k s, (State.takeK step k s).pending = s.pending ∧ (State.takeK step k s).toAlwaysOnPart = s.toAlwaysOnPart := by
  intro step k s
  simp [State.takeK]
@[simp] theorem State_scheduleReplay_keeps : ∀ step s, (State.scheduleReplay step s).pending = s.pending ∧ (State.scheduleReplay step s).toAlwaysOnPart = s.toAlwaysOnPart := by
  intro step s
  simp [State.scheduleReplay]
@[simp] theorem State_haltStep_keeps : ∀ step phase s, (State.haltStep step phase s).pending = s.pending ∧ (State.haltStep step phase s).toAlwaysOnPart = s.toAlwaysOnPart := by
  intro step phase s
  simp [State.haltStep]
@[simp] theorem State_dropStep_keeps : ∀ step s, (State.dropStep step s).pending = s.pending ∧ (State.dropStep step s).toAlwaysOnPart = s.toAlwaysOnPart := by
  intro step s
  refine ⟨?_, ?_⟩ <;> (simp only [State.dropStep]; (repeat' split) <;> simp_all)
@[simp] theorem State_failLate_keeps : ∀ step s, (State.failLate step s).pending = s.pending ∧ (State.failLate step s).toAlwaysOnPart = s.toAlwaysOnPart := by
  intro step s
  simp [State.failLate]
@[simp] theorem State_sendFor_keeps : ∀ m dests s, (State.sendFor m dests s).pending = s.pending ∧ (State.sendFor m dests s).toAlwaysOnPart = s.toAlwaysOnPart := by
  intro m dests s
  refine ⟨?_, ?_⟩ <;> (simp only [State.sendFor]; (repeat' split) <;> simp_all)
@[simp] theorem State_meshParity_keeps : ∀ route f step s, (State.meshParity route f step s).pending = s.pending ∧ (State.meshParity route f step s).toAlwaysOnPart = s.toAlwaysOnPart := by
  intro route f step s
  refine ⟨?_, ?_⟩ <;> (simp only [State.meshParity]; (repeat' split) <;> simp_all)
@[simp] theorem State_wakeDma_keeps : ∀ h cc s, (State.wakeDma h cc s).pending = s.pending ∧ (State.wakeDma h cc s).toAlwaysOnPart = s.toAlwaysOnPart := by
  intro h cc s
  simp [State.wakeDma]
@[simp] theorem State_acceptRow_keeps : ∀ dest cc r s, (State.acceptRow dest cc r s).pending = s.pending ∧ (State.acceptRow dest cc r s).toAlwaysOnPart = s.toAlwaysOnPart := by
  intro dest cc r s
  refine ⟨?_, ?_⟩ <;> (simp only [State.acceptRow]; (repeat' split) <;> simp_all)
@[simp] theorem State_acceptRows_keeps (d cc n : Nat) (s : State) : (s.acceptRows d cc n).pending = s.pending ∧ (s.acceptRows d cc n).toAlwaysOnPart = s.toAlwaysOnPart := by
  induction n generalizing s with
  | zero => simp [State.acceptRows]
  | succ n ih =>
    refine ⟨?_, ?_⟩ <;> (simp only [State.acceptRows]; (repeat' split) <;> simp [ih])
@[simp] theorem State_sendRows_keeps : ∀ dest cc rows s, (State.sendRows dest cc rows s).pending = s.pending ∧ (State.sendRows dest cc rows s).toAlwaysOnPart = s.toAlwaysOnPart := by
  intro dest cc rows s
  simp [State.sendRows]
@[simp] theorem State_readStackRow_keeps : ∀ addr step s, (State.readStackRow addr step s).2.pending = s.pending ∧ (State.readStackRow addr step s).2.toAlwaysOnPart = s.toAlwaysOnPart := by
  intro addr step s
  simp [State.readStackRow]
@[simp] theorem State_writeStackRow_keeps : ∀ addr cells s, (State.writeStackRow addr cells s).pending = s.pending ∧ (State.writeStackRow addr cells s).toAlwaysOnPart = s.toAlwaysOnPart := fun _ _ _ => ⟨rfl, rfl⟩
@[simp] theorem State_writeStack_keeps : ∀ addr bs s, (State.writeStack addr bs s).pending = s.pending ∧ (State.writeStack addr bs s).toAlwaysOnPart = s.toAlwaysOnPart := fun _ _ _ => ⟨rfl, rfl⟩
@[simp] theorem State_readStack_keeps (a l t : Nat) (s : State) : (s.readStack a l t).2.2.pending = s.pending ∧ (s.readStack a l t).2.2.toAlwaysOnPart = s.toAlwaysOnPart := by
  simp [State.readStack]
@[simp] theorem State_fetchRow_keeps : ∀ h row cc s, (State.fetchRow h row cc s).2.pending = s.pending ∧ (State.fetchRow h row cc s).2.toAlwaysOnPart = s.toAlwaysOnPart := by
  intro h row cc s
  simp [State.fetchRow, State.engineRead]
@[simp] theorem State_failFetch_keeps : ∀ h row opcode s, (State.failFetch h row opcode s).pending = s.pending ∧ (State.failFetch h row opcode s).toAlwaysOnPart = s.toAlwaysOnPart := by
  intro h row opcode s
  simp [State.failFetch]
@[simp] theorem State_fetchSoon_keeps : ∀ h row xfer cc s, (State.fetchSoon h row xfer cc s).pending = s.pending ∧ (State.fetchSoon h row xfer cc s).toAlwaysOnPart = s.toAlwaysOnPart := by
  intro h row xfer cc s
  exact ⟨rfl, rfl⟩
@[simp] theorem State_runAttn_keeps : ∀ h cc g s, (State.runAttn h cc g s).pending = s.pending ∧ (State.runAttn h cc g s).toAlwaysOnPart = s.toAlwaysOnPart := by
  intro h cc g s
  obtain ⟨h1, h2⟩ := State_fetchRow_keeps h g.desc cc s
  refine ⟨?_, ?_⟩ <;> (simp only [State.runAttn]; split <;> simp_all)
@[simp] theorem State_modTransfer_keeps : ∀ h xfer f s, (State.modTransfer h xfer f s).pending = s.pending ∧ (State.modTransfer h xfer f s).toAlwaysOnPart = s.toAlwaysOnPart := by
  intro h xfer f s
  exact ⟨rfl, rfl⟩
@[simp] theorem State_refuseDma_keeps : ∀ h cc eng t s, (State.refuseDma h cc eng t s).pending = s.pending ∧ (State.refuseDma h cc eng t s).toAlwaysOnPart = s.toAlwaysOnPart := by
  intro h cc eng t s
  simp [State.refuseDma]
@[simp] theorem State_runFetch_keeps : ∀ h cc row xfer s, (State.runFetch h cc row xfer s).pending = s.pending ∧ (State.runFetch h cc row xfer s).toAlwaysOnPart = s.toAlwaysOnPart := by
  intro h cc row xfer s
  obtain ⟨h1, h2⟩ := State_fetchRow_keeps h row cc s
  refine ⟨?_, ?_⟩ <;> (simp only [State.runFetch]; (repeat' split) <;> simp_all)
@[simp] theorem State_dmaMoved_keeps : ∀ h cc eng xfer d s, (State.dmaMoved h cc eng xfer d s).pending = s.pending ∧ (State.dmaMoved h cc eng xfer d s).toAlwaysOnPart = s.toAlwaysOnPart := by
  intro h cc eng xfer d s
  refine ⟨?_, ?_⟩ <;> (simp only [State.dmaMoved]; (repeat' split) <;> simp_all)
@[simp] theorem State_edgeRow_keeps : ∀ h edge t i cells s, (State.edgeRow h edge t i cells s).2.pending = s.pending ∧ (State.edgeRow h edge t i cells s).2.toAlwaysOnPart = s.toAlwaysOnPart := by
  intro h edge t i cells s
  refine ⟨?_, ?_⟩ <;> (simp only [State.edgeRow]; (repeat' split) <;> simp_all)
@[simp] theorem State_dmaDeliver_keeps : ∀ h cc t d rows s, (State.dmaDeliver h cc t d rows s).pending = s.pending ∧ (State.dmaDeliver h cc t d rows s).toAlwaysOnPart = s.toAlwaysOnPart := by
  intro h cc t d rows s
  simp [State.dmaDeliver]
@[simp] theorem State_dmaLeave_keeps : ∀ h xfer d s, (State.dmaLeave h xfer d s).pending = s.pending ∧ (State.dmaLeave h xfer d s).toAlwaysOnPart = s.toAlwaysOnPart := by
  intro h xfer d s
  refine ⟨?_, ?_⟩ <;> (simp only [State.dmaLeave]; (repeat' split) <;> simp_all)
@[simp] theorem State_dmaChunk_keeps : ∀ h cc eng t d s, (State.dmaChunk h cc eng t d s).pending = s.pending ∧ (State.dmaChunk h cc eng t d s).toAlwaysOnPart = s.toAlwaysOnPart := by
  intro h cc eng t d s
  refine ⟨?_, ?_⟩ <;> (unfold State.dmaChunk; dsimp only; split <;> simp)
@[simp] theorem State_countStall_keeps : ∀ h eng s, (State.countStall h eng s).pending = s.pending ∧ (State.countStall h eng s).toAlwaysOnPart = s.toAlwaysOnPart := by
  intro h eng s
  refine ⟨?_, ?_⟩ <;> (simp only [State.countStall]; (repeat' split) <;> simp_all)
@[simp] theorem State_runDmaSlot_keeps : ∀ h cc s, (State.runDmaSlot h cc s).pending = s.pending ∧ (State.runDmaSlot h cc s).toAlwaysOnPart = s.toAlwaysOnPart := by
  intro h cc s
  refine ⟨?_, ?_⟩ <;> (simp only [State.runDmaSlot]; (repeat' split) <;> simp_all)
@[simp] theorem State_flueUnit_keeps : ∀ h cc tag unit addr total f16 s, (State.flueUnit h cc tag unit addr total f16 s).pending = s.pending ∧ (State.flueUnit h cc tag unit addr total f16 s).toAlwaysOnPart = s.toAlwaysOnPart := by
  intro h cc tag unit addr total f16 s
  refine ⟨?_, ?_⟩ <;> (unfold State.flueUnit; dsimp only; split <;> simp)
@[simp] theorem State_landRow_keeps : ∀ h cc r s, (State.landRow h cc r s).pending = s.pending ∧ (State.landRow h cc r s).toAlwaysOnPart = s.toAlwaysOnPart := by
  intro h cc r s
  simp [State.landRow]
@[simp] theorem State_landUnit_keeps : ∀ h cc tag addr rows s, (State.landUnit h cc tag addr rows s).pending = s.pending ∧ (State.landUnit h cc tag addr rows s).toAlwaysOnPart = s.toAlwaysOnPart := by
  intro h cc tag addr rows s
  simp [State.landUnit]
@[simp] theorem State_runDue_keeps : ∀ h cc seq d s, (State.runDue h cc seq d s).pending = s.pending ∧ (State.runDue h cc seq d s).toAlwaysOnPart = s.toAlwaysOnPart := by
  intro h cc seq d s
  cases d <;> simp [State.runDue]
@[simp] theorem State_runTo_keeps (h cc n : Nat) (s : State) : (s.runTo h cc n).pending = s.pending ∧ (s.runTo h cc n).toAlwaysOnPart = s.toAlwaysOnPart := by
  induction n generalizing s with
  | zero => simp [State.runTo]
  | succ n ih =>
    refine ⟨?_, ?_⟩ <;> (simp only [State.runTo]; (repeat' split) <;> simp [ih])
@[simp] theorem State_advance_keeps : ∀ h cc s, (State.advance h cc s).pending = s.pending ∧ (State.advance h cc s).toAlwaysOnPart = s.toAlwaysOnPart := by
  intro h cc s
  simp [State.advance]
@[simp] theorem State_settleRows_keeps : ∀ h s, (State.settleRows h s).pending = s.pending ∧ (State.settleRows h s).toAlwaysOnPart = s.toAlwaysOnPart := by
  intro h s
  constructor
  · exact foldl_pending _ _ _ fun s n => by split <;> simp
  · exact foldl_toAlwaysOnPart _ _ _ fun s n => by split <;> simp
@[simp] theorem State_scheduleFault_keeps : ∀ h cc opcode s, (State.scheduleFault h cc opcode s).pending = s.pending ∧ (State.scheduleFault h cc opcode s).toAlwaysOnPart = s.toAlwaysOnPart := by
  intro h cc opcode s
  simp [State.scheduleFault]
@[simp] theorem State_raiseResidue_keeps : ∀ path step pc opcode u s, (State.raiseResidue path step pc opcode u s).pending = s.pending ∧ (State.raiseResidue path step pc opcode u s).toAlwaysOnPart = s.toAlwaysOnPart := by
  intro path step pc opcode u s
  simp [State.raiseResidue]
@[simp] theorem State_begin_keeps : ∀ i low opcode s, (State.begin i low opcode s).2.pending = s.pending ∧ (State.begin i low opcode s).2.toAlwaysOnPart = s.toAlwaysOnPart := by
  intro i low opcode s
  simp [State.begin]
@[simp] theorem State_toNext_keeps : ∀ h s, (State.toNext h s).pending = s.pending ∧ (State.toNext h s).toAlwaysOnPart = s.toAlwaysOnPart := fun _ _ => ⟨rfl, rfl⟩
@[simp] theorem State_issue_keeps (i : IssueAt) (a b : Nat) (go : Nat → State → State) (s : State)
    (h : ∀ t s, (go t s).pending = s.pending ∧ (go t s).toAlwaysOnPart = s.toAlwaysOnPart) : (s.issue i a b go).pending = s.pending ∧ (s.issue i a b go).toAlwaysOnPart = s.toAlwaysOnPart := by
  obtain ⟨h1, h2⟩ := State_begin_keeps i a b s
  unfold State.issue
  split <;> rename_i hx <;> rw [hx] at h1 h2
  · exact ⟨h1, h2⟩
  · dsimp only
    split
    · exact ⟨(h _ _).1.trans h1, (h _ _).2.trans h2⟩
    · exact ⟨(State_toNext_keeps _ _).1.trans ((h _ _).1.trans h1), (State_toNext_keeps _ _).2.trans ((h _ _).2.trans h2)⟩
@[simp] theorem State_issueVec_keeps (i : IssueAt) (f : VecFields) (v : Nat) (ws : Widths) (go : Nat → State → State) (s : State)
    (h : ∀ t s, (go t s).pending = s.pending ∧ (go t s).toAlwaysOnPart = s.toAlwaysOnPart) : (s.issueVec i f v ws go).pending = s.pending ∧ (s.issueVec i f v ws go).toAlwaysOnPart = s.toAlwaysOnPart := by
  unfold State.issueVec
  refine State_issue_keeps _ _ _ _ _ fun t s => ?_
  split
  · exact h t s
  · simp
@[simp] theorem State_result_keeps : ∀ i f vop t lat w s, (State.result i f vop t lat w s).pending = s.pending ∧ (State.result i f vop t lat w s).toAlwaysOnPart = s.toAlwaysOnPart := by
  intro i f vop t lat w s
  refine ⟨?_, ?_⟩ <;> (simp only [State.result]; (repeat' split) <;> simp_all)
@[simp] theorem State_runUntilFlag_keeps (h e l n : Nat) (s : State) : (s.runUntilFlag h e l n).pending = s.pending ∧ (s.runUntilFlag h e l n).toAlwaysOnPart = s.toAlwaysOnPart := by
  induction n generalizing s with
  | zero => simp [State.runUntilFlag]
  | succ n ih =>
    refine ⟨?_, ?_⟩ <;> (simp only [State.runUntilFlag]; (repeat' split) <;> simp [ih])
@[simp] theorem State_signalTo_keeps : ∀ src event step dests s, (State.signalTo src event step dests s).pending = s.pending ∧ (State.signalTo src event step dests s).toAlwaysOnPart = s.toAlwaysOnPart := by
  intro src event step dests s
  simp [State.signalTo]
@[simp] theorem State_sendSignal_keeps : ∀ h g cc s, (State.sendSignal h g cc s).pending = s.pending ∧ (State.sendSignal h g cc s).toAlwaysOnPart = s.toAlwaysOnPart := by
  intro h g cc s
  simp [State.sendSignal]
@[simp] theorem State_sig_keeps : ∀ kind i f s, (State.sig kind i f s).pending = s.pending ∧ (State.sig kind i f s).toAlwaysOnPart = s.toAlwaysOnPart := by
  intro kind i f s
  simp [State.sig]
@[simp] theorem State_fen_keeps (n : Nat) (i : IssueAt) (f : FenFields) (s : State) : (s.fen n i f).pending = s.pending ∧ (s.fen n i f).toAlwaysOnPart = s.toAlwaysOnPart := by
  obtain ⟨h1, h2⟩ := State_begin_keeps i (fenLow f) 8 s
  unfold State.fen
  split <;> rename_i hx <;> rw [hx] at h1 h2
  · exact ⟨h1, h2⟩
  · exact ⟨by simpa using h1, by simpa using h2⟩
@[simp] theorem State_bra_keeps (i : IssueAt) (f : BraFields) (p : Hearth → Hearth) (t : Hearth → Bool) (s : State) : (s.bra i f p t).pending = s.pending ∧ (s.bra i f p t).toAlwaysOnPart = s.toAlwaysOnPart := by
  obtain ⟨h1, h2⟩ := State_begin_keeps i (braLow f) 9 s
  unfold State.bra
  split <;> rename_i hx <;> rw [hx] at h1 h2
  · exact ⟨h1, h2⟩
  · exact ⟨by simpa using h1, by simpa using h2⟩
@[simp] theorem State_stepHalts_keeps : ∀ step s, (State.stepHalts step s).pending = s.pending ∧ (State.stepHalts step s).toAlwaysOnPart = s.toAlwaysOnPart := by
  intro step s
  refine ⟨?_, ?_⟩ <;> (simp only [State.stepHalts]; (repeat' split) <;> simp_all)
@[simp] theorem State_modCtx_keeps : ∀ c f s, (State.modCtx c f s).pending = s.pending ∧ (State.modCtx c f s).toAlwaysOnPart = s.toAlwaysOnPart := by
  intro c f s
  refine ⟨?_, ?_⟩ <;> (simp only [State.modCtx]; (repeat' split) <;> simp_all)
@[simp] theorem State_tierReport_keeps : ∀ c report s, (State.tierReport c report s).pending = s.pending ∧ (State.tierReport c report s).toAlwaysOnPart = s.toAlwaysOnPart := by
  intro c report s
  simp [State.tierReport]
@[simp] theorem State_newCtx_keeps : ∀ c tenant kvGen s, (State.newCtx c tenant kvGen s).pending = s.pending ∧ (State.newCtx c tenant kvGen s).toAlwaysOnPart = s.toAlwaysOnPart := by
  intro c tenant kvGen s
  refine ⟨?_, ?_⟩ <;> (simp only [State.newCtx]; (repeat' split) <;> simp_all)
@[simp] theorem State_setPage_keeps : ∀ f p s, (State.setPage f p s).pending = s.pending ∧ (State.setPage f p s).toAlwaysOnPart = s.toAlwaysOnPart := fun _ _ _ => ⟨rfl, rfl⟩
@[simp] theorem State_cleanFrame_keeps : ∀ f s, (State.cleanFrame f s).pending = s.pending ∧ (State.cleanFrame f s).toAlwaysOnPart = s.toAlwaysOnPart := by
  intro f s
  exact ⟨rfl, rfl⟩
@[simp] theorem State_poisonSlot_keeps : ∀ f t s, (State.poisonSlot f t s).pending = s.pending ∧ (State.poisonSlot f t s).toAlwaysOnPart = s.toAlwaysOnPart := by
  intro f t s
  exact ⟨rfl, rfl⟩
@[simp] theorem State_cleanSlot_keeps : ∀ f t s, (State.cleanSlot f t s).pending = s.pending ∧ (State.cleanSlot f t s).toAlwaysOnPart = s.toAlwaysOnPart := fun _ _ _ => ⟨rfl, rfl⟩
@[simp] theorem State_moveEntry_keeps : ∀ c l src dst s, (State.moveEntry c l src dst s).pending = s.pending ∧ (State.moveEntry c l src dst s).toAlwaysOnPart = s.toAlwaysOnPart := by
  intro c l src dst s
  refine ⟨?_, ?_⟩ <;> (simp only [State.moveEntry]; (repeat' split) <;> simp_all)
@[simp] theorem State_commitList_keeps : ∀ c layer head f m nodes s, (State.commitList c layer head f m nodes s).pending = s.pending ∧ (State.commitList c layer head f m nodes s).toAlwaysOnPart = s.toAlwaysOnPart := by
  intro c layer head f m nodes s
  refine ⟨?_, ?_⟩ <;> (simp only [State.commitList]; (repeat' split) <;> simp_all)
@[simp] theorem State_firstRequest_keeps : ∀ step d s, (State.firstRequest step d s).pending = s.pending ∧ (State.firstRequest step d s).toAlwaysOnPart = s.toAlwaysOnPart := by
  intro step d s
  refine ⟨?_, ?_⟩ <;> (simp only [State.firstRequest]; (repeat' split) <;> simp_all)
@[simp] theorem State_writePage_keeps : ∀ step c f l s, (State.writePage step c f l s).pending = s.pending ∧ (State.writePage step c f l s).toAlwaysOnPart = s.toAlwaysOnPart := by
  intro step c f l s
  refine ⟨?_, ?_⟩ <;> (unfold State.writePage; (repeat' split) <;> simp_all)
@[simp] theorem State_gangRead_keeps : ∀ h row n s, (State.gangRead h row n s).2.pending = s.pending ∧ (State.gangRead h row n s).2.toAlwaysOnPart = s.toAlwaysOnPart := by
  intro h row n s
  simp [State.gangRead]
theorem State_openPages_keeps (e : Nat) (d : AttnDesc) (l : List Nat) (s t : State) (h : s.openPages e d l = some t) :
    t.pending = s.pending ∧ t.toAlwaysOnPart = s.toAlwaysOnPart := by
  induction l generalizing s with
  | nil => simp_all [State.openPages]
  | cons n l ih =>
    simp only [State.openPages] at h
    repeat' split at h
    all_goals first | cases h | exact ih _ h | (have := ih _ h; simpa using this)
@[simp] theorem State_writeEntries_keeps (t e h : Nat) (d : AttnDesc) (s : State) : (s.writeEntries t e h d).2.pending = s.pending ∧ (s.writeEntries t e h d).2.toAlwaysOnPart = s.toAlwaysOnPart := by
  unfold State.writeEntries
  split
  · exact ⟨rfl, rfl⟩
  · rename_i s' hx
    obtain ⟨h1, h2⟩ := State_openPages_keeps e d (pagesOf d.first d.p) s s' hx
    dsimp only
    constructor
    · refine (foldl_pending _ _ _ fun s n => ?_).trans (by simpa using h1)
      split
      · rfl
      · simp
    · refine (foldl_toAlwaysOnPart _ _ _ fun s n => ?_).trans (by simpa using h2)
      split
      · rfl
      · simp
@[simp] theorem State_seePage_keeps : ∀ step die d n s, (State.seePage step die d n s).2.2.pending = s.pending ∧ (State.seePage step die d n s).2.2.toAlwaysOnPart = s.toAlwaysOnPart := by
  intro step die d n s
  refine ⟨?_, ?_⟩ <;> (simp only [State.seePage]; (repeat' split) <;> simp_all)
@[simp] theorem State_seePages_keeps (t e : Nat) (d : AttnDesc) (l : List Nat) (s : State) : (s.seePages t e d l).2.2.pending = s.pending ∧ (s.seePages t e d l).2.2.toAlwaysOnPart = s.toAlwaysOnPart := by
  induction l generalizing s with
  | nil => simp [State.seePages]
  | cons n l ih => simp [State.seePages, ih]
@[simp] theorem State_tenantRecord_keeps : ∀ die step d s, (State.tenantRecord die step d s).pending = s.pending ∧ (State.tenantRecord die step d s).toAlwaysOnPart = s.toAlwaysOnPart := by
  intro die step d s
  simp [State.tenantRecord]
@[simp] theorem State_attend_keeps : ∀ step die h d s, (State.attend step die h d s).2.pending = s.pending ∧ (State.attend step die h d s).2.toAlwaysOnPart = s.toAlwaysOnPart := by
  intro step die h d s
  simp [State.attend]
theorem State_inScratch_keeps {α : Type} (f : State → α × State) (s : State)
    (h : ∀ s, (f s).2.pending = s.pending ∧ (f s).2.toAlwaysOnPart = s.toAlwaysOnPart) :
    (s.inScratch f).2.pending = s.pending ∧ (s.inScratch f).2.toAlwaysOnPart = s.toAlwaysOnPart := by
  refine ⟨?_, ?_⟩ <;> (simp only [State.inScratch]; split <;> simp [h])
@[simp] theorem State_scratchCommit_keeps : ∀ step d s, (State.scratchCommit step d s).pending = s.pending ∧ (State.scratchCommit step d s).toAlwaysOnPart = s.toAlwaysOnPart := by
  intro step d s
  simp [State.scratchCommit]
@[simp] theorem State_attendShadow_keeps : ∀ step die h d s, (State.attendShadow step die h d s).2.pending = s.pending ∧ (State.attendShadow step die h d s).2.toAlwaysOnPart = s.toAlwaysOnPart := by
  intro step die h d s
  exact State_inScratch_keeps _ _ fun s => by refine ⟨?_, ?_⟩ <;> (simp only []; split <;> simp)
@[simp] theorem State_startDemote_keeps : ∀ c s, (State.startDemote c s).pending = s.pending ∧ (State.startDemote c s).toAlwaysOnPart = s.toAlwaysOnPart := by
  intro c s
  simp [State.startDemote]
@[simp] theorem State_relievePool_keeps (n : Nat) (s : State) : (s.relievePool n).pending = s.pending ∧ (s.relievePool n).toAlwaysOnPart = s.toAlwaysOnPart := by
  induction n generalizing s with
  | zero => simp [State.relievePool]
  | succ n ih =>
    refine ⟨?_, ?_⟩ <;> (simp only [State.relievePool]; (repeat' split) <;> simp [ih])
@[simp] theorem State_relieve_keeps : ∀ s, (State.relieve s).pending = s.pending ∧ (State.relieve s).toAlwaysOnPart = s.toAlwaysOnPart := by
  intro s
  simp [State.relieve]
@[simp] theorem State_reachAttn_keeps : ∀ die s, (State.reachAttn die s).pending = s.pending ∧ (State.reachAttn die s).toAlwaysOnPart = s.toAlwaysOnPart := by
  intro die s
  constructor
  · exact foldl_pending _ _ _ fun s n => by dsimp only; split <;> simp
  · exact foldl_toAlwaysOnPart _ _ _ fun s n => by dsimp only; split <;> simp
@[simp] theorem State_serveRequest_keeps : ∀ dn gang r upset s, (State.serveRequest dn gang r upset s).pending = s.pending ∧ (State.serveRequest dn gang r upset s).toAlwaysOnPart = s.toAlwaysOnPart := by
  intro dn gang r upset s
  cases upset <;> simp [State.serveRequest]
@[simp] theorem State_upsetLine_keeps : ∀ line found s, (State.upsetLine line found s).pending = s.pending ∧ (State.upsetLine line found s).toAlwaysOnPart = s.toAlwaysOnPart := by
  intro line found s
  refine ⟨?_, ?_⟩ <;> (simp only [State.upsetLine]; (repeat' split) <;> simp_all)
@[simp] theorem State_hostRead_keeps : ∀ port addr len why s, (State.hostRead port addr len why s).pending = s.pending ∧ (State.hostRead port addr len why s).toAlwaysOnPart = s.toAlwaysOnPart := fun _ _ _ _ _ => ⟨rfl, rfl⟩
@[simp] theorem State_markPages_keeps : ∀ c code s, (State.markPages c code s).pending = s.pending ∧ (State.markPages c code s).toAlwaysOnPart = s.toAlwaysOnPart := fun _ _ _ => ⟨rfl, rfl⟩
@[simp] theorem State_setTier_keeps : ∀ c t code s, (State.setTier c t code s).pending = s.pending ∧ (State.setTier c t code s).toAlwaysOnPart = s.toAlwaysOnPart := by
  intro c t code s
  simp [State.setTier]
@[simp] theorem State_startRestore_keeps : ∀ c s, (State.startRestore c s).pending = s.pending ∧ (State.startRestore c s).toAlwaysOnPart = s.toAlwaysOnPart := by
  intro c s
  refine ⟨?_, ?_⟩ <;> (simp only [State.startRestore]; (repeat' split) <;> simp_all)
@[simp] theorem State_pauseHere_keeps : ∀ c s, (State.pauseHere c s).pending = s.pending ∧ (State.pauseHere c s).toAlwaysOnPart = s.toAlwaysOnPart := by
  intro c s
  refine ⟨?_, ?_⟩ <;> (simp only [State.pauseHere]; (repeat' split) <;> simp_all)
@[simp] theorem State_askTwin_keeps : ∀ c tenant kvGen s, (State.askTwin c tenant kvGen s).pending = s.pending ∧ (State.askTwin c tenant kvGen s).toAlwaysOnPart = s.toAlwaysOnPart := by
  intro c tenant kvGen s
  refine ⟨?_, ?_⟩ <;> (simp only [State.askTwin]; (repeat' split) <;> simp_all)
@[simp] theorem State_resumeHere_keeps : ∀ c s, (State.resumeHere c s).pending = s.pending ∧ (State.resumeHere c s).toAlwaysOnPart = s.toAlwaysOnPart := by
  intro c s
  refine ⟨?_, ?_⟩ <;> (simp only [State.resumeHere]; (repeat' split) <;> simp_all)
@[simp] theorem State_demoteHere_keeps : ∀ c s, (State.demoteHere c s).pending = s.pending ∧ (State.demoteHere c s).toAlwaysOnPart = s.toAlwaysOnPart := by
  intro c s
  refine ⟨?_, ?_⟩ <;> (simp only [State.demoteHere]; (repeat' split) <;> simp_all)
@[simp] theorem State_discardHere_keeps : ∀ c s, (State.discardHere c s).pending = s.pending ∧ (State.discardHere c s).toAlwaysOnPart = s.toAlwaysOnPart := by
  intro c s
  simp [State.discardHere]
@[simp] theorem State_renewHere_keeps : ∀ c s, (State.renewHere c s).pending = s.pending ∧ (State.renewHere c s).toAlwaysOnPart = s.toAlwaysOnPart := by
  intro c s
  refine ⟨?_, ?_⟩ <;> (simp only [State.renewHere]; (repeat' split) <;> simp_all)
@[simp] theorem State_tierNow_keeps : ∀ action c s, (State.tierNow action c s).pending = s.pending ∧ (State.tierNow action c s).toAlwaysOnPart = s.toAlwaysOnPart := by
  intro action c s
  simp [State.tierNow]
@[simp] theorem State_tierHere_keeps : ∀ action c s, (State.tierHere action c s).pending = s.pending ∧ (State.tierHere action c s).toAlwaysOnPart = s.toAlwaysOnPart := by
  intro action c s
  simp [State.tierHere]
@[simp] theorem State_resumeMoves_keeps : ∀ s, (State.resumeMoves s).pending = s.pending ∧ (State.resumeMoves s).toAlwaysOnPart = s.toAlwaysOnPart := by
  intro s
  simp [State.resumeMoves]
@[simp] theorem State_setTimer_keeps : ∀ c t s, (State.setTimer c t s).pending = s.pending ∧ (State.setTimer c t s).toAlwaysOnPart = s.toAlwaysOnPart := fun _ _ _ => ⟨rfl, rfl⟩
@[simp] theorem State_noteTier_keeps : ∀ action c s, (State.noteTier action c s).pending = s.pending ∧ (State.noteTier action c s).toAlwaysOnPart = s.toAlwaysOnPart := by
  intro action c s
  refine ⟨?_, ?_⟩ <;> (simp only [State.noteTier]; (repeat' split) <;> simp_all)
@[simp] theorem State_reachTier_keeps : ∀ c t s, (State.reachTier c t s).pending = s.pending ∧ (State.reachTier c t s).toAlwaysOnPart = s.toAlwaysOnPart := by
  intro c t s
  refine ⟨?_, ?_⟩ <;> (simp only [State.reachTier]; (repeat' split) <;> simp_all)
@[simp] theorem State_tierAction_keeps : ∀ action c s, (State.tierAction action c s).pending = s.pending ∧ (State.tierAction action c s).toAlwaysOnPart = s.toAlwaysOnPart := by
  intro action c s
  simp [State.tierAction]
@[simp] theorem State_endDemote_keeps : ∀ c x m s, (State.endDemote c x m s).pending = s.pending ∧ (State.endDemote c x m s).toAlwaysOnPart = s.toAlwaysOnPart := by
  intro c x m s
  refine ⟨?_, ?_⟩ <;> (simp only [State.endDemote]; (repeat' split) <;> simp_all)
@[simp] theorem State_restorePage_keeps : ∀ c p s, (State.restorePage c p s).2.pending = s.pending ∧ (State.restorePage c p s).2.toAlwaysOnPart = s.toAlwaysOnPart := by
  intro c p s
  refine ⟨?_, ?_⟩ <;> (simp only [State.restorePage]; (repeat' split) <;> simp_all)
@[simp] theorem State_restorePages_keeps (c : Nat) (l : List (List Byte)) (s : State) : (s.restorePages c l).2.pending = s.pending ∧ (s.restorePages c l).2.toAlwaysOnPart = s.toAlwaysOnPart := by
  induction l generalizing s with
  | nil => simp [State.restorePages]
  | cons b l ih =>
    refine ⟨?_, ?_⟩ <;> (simp only [State.restorePages]; (repeat' split) <;> simp [ih])
@[simp] theorem State_cellarFailure_keeps : ∀ c s, (State.cellarFailure c s).pending = s.pending ∧ (State.cellarFailure c s).toAlwaysOnPart = s.toAlwaysOnPart := by
  intro c s
  simp [State.cellarFailure]
@[simp] theorem State_applyDataArea_keeps : ∀ mib s, (State.applyDataArea mib s).2.pending = s.pending ∧ (State.applyDataArea mib s).2.toAlwaysOnPart = s.toAlwaysOnPart := by
  intro mib s
  simp [State.applyDataArea]
@[simp] theorem State_setReq_keeps : ∀ n r s, (State.setReq n r s).pending = s.pending ∧ (State.setReq n r s).toAlwaysOnPart = s.toAlwaysOnPart := fun _ _ _ => ⟨rfl, rfl⟩
@[simp] theorem State_modReq_keeps : ∀ n f s, (State.modReq n f s).pending = s.pending ∧ (State.modReq n f s).toAlwaysOnPart = s.toAlwaysOnPart := by
  intro n f s
  refine ⟨?_, ?_⟩ <;> (simp only [State.modReq]; (repeat' split) <;> simp_all)
@[simp] theorem State_setLevel_keeps : ∀ t l s, (State.setLevel t l s).pending = s.pending ∧ (State.setLevel t l s).toAlwaysOnPart = s.toAlwaysOnPart := fun _ _ _ => ⟨rfl, rfl⟩
@[simp] theorem State_charge_keeps : ∀ t n s, (State.charge t n s).pending = s.pending ∧ (State.charge t n s).toAlwaysOnPart = s.toAlwaysOnPart := fun _ _ _ => ⟨rfl, rfl⟩
@[simp] theorem State_drained_keeps : ∀ k s, (State.drained k s).pending = s.pending ∧ (State.drained k s).toAlwaysOnPart = s.toAlwaysOnPart := by
  intro k s
  simp [State.drained]
@[simp] theorem State_dropReq_keeps : ∀ n k s, (State.dropReq n k s).pending = s.pending ∧ (State.dropReq n k s).toAlwaysOnPart = s.toAlwaysOnPart := by
  intro n k s
  simp [State.dropReq]
@[simp] theorem State_releaseCtx_keeps : ∀ r outcome s, (State.releaseCtx r outcome s).pending = s.pending ∧ (State.releaseCtx r outcome s).toAlwaysOnPart = s.toAlwaysOnPart := by
  intro r outcome s
  simp [State.releaseCtx]
@[simp] theorem State_mirrorReq_keeps : ∀ n s, (State.mirrorReq n s).pending = s.pending ∧ (State.mirrorReq n s).toAlwaysOnPart = s.toAlwaysOnPart := by
  intro n s
  refine ⟨?_, ?_⟩ <;> (simp only [State.mirrorReq]; (repeat' split) <;> simp_all)
@[simp] theorem State_finish_keeps : ∀ n outcome words step time s, (State.finish n outcome words step time s).pending = s.pending ∧ (State.finish n outcome words step time s).toAlwaysOnPart = s.toAlwaysOnPart := by
  intro n outcome words step time s
  refine ⟨?_, ?_⟩ <;> (unfold State.finish; (repeat' split) <;> simp_all)
@[simp] theorem State_giveSlots_keeps (k n : Nat) (s : State) : (s.giveSlots k n).pending = s.pending ∧ (s.giveSlots k n).toAlwaysOnPart = s.toAlwaysOnPart := by
  induction n generalizing s with
  | zero => simp [State.giveSlots]
  | succ n ih =>
    refine ⟨?_, ?_⟩ <;> (simp only [State.giveSlots]; (repeat' split) <;> simp [ih])
@[simp] theorem State_serveSlots_keeps : ∀ k s, (State.serveSlots k s).pending = s.pending ∧ (State.serveSlots k s).toAlwaysOnPart = s.toAlwaysOnPart := by
  intro k s
  simp [State.serveSlots]
@[simp] theorem State_returnTokens_keeps : ∀ n words step time s, (State.returnTokens n words step time s).pending = s.pending ∧ (State.returnTokens n words step time s).toAlwaysOnPart = s.toAlwaysOnPart := by
  intro n words step time s
  refine ⟨?_, ?_⟩ <;> (simp only [State.returnTokens]; (repeat' split) <;> simp_all)
@[simp] theorem State_setBarrier_keeps : ∀ v s, (State.setBarrier v s).pending = s.pending ∧ (State.setBarrier v s).toAlwaysOnPart = s.toAlwaysOnPart := by
  intro v s
  simp [State.setBarrier]
@[simp] theorem State_settleBarrier_keeps : ∀ s, (State.settleBarrier s).pending = s.pending ∧ (State.settleBarrier s).toAlwaysOnPart = s.toAlwaysOnPart := by
  intro s
  simp [State.settleBarrier]
@[simp] theorem State_noteRetired_keeps : ∀ g s, (State.noteRetired g s).pending = s.pending ∧ (State.noteRetired g s).toAlwaysOnPart = s.toAlwaysOnPart := by
  intro g s
  simp [State.noteRetired]
@[simp] theorem State_retire_keeps : ∀ g s, (State.retire g s).pending = s.pending ∧ (State.retire g s).toAlwaysOnPart = s.toAlwaysOnPart := by
  intro g s
  simp [State.retire]
@[simp] theorem State_settleRetire_keeps : ∀ s, (State.settleRetire s).pending = s.pending ∧ (State.settleRetire s).toAlwaysOnPart = s.toAlwaysOnPart := by
  intro s
  simp [State.settleRetire]
@[simp] theorem State_settleDrain_keeps : ∀ s, (State.settleDrain s).pending = s.pending ∧ (State.settleDrain s).toAlwaysOnPart = s.toAlwaysOnPart := by
  intro s
  refine ⟨?_, ?_⟩ <;> (simp only [State.settleDrain]; (repeat' split) <;> simp_all)
@[simp] theorem State_autoBarrier_keeps : ∀ s, (State.autoBarrier s).pending = s.pending ∧ (State.autoBarrier s).toAlwaysOnPart = s.toAlwaysOnPart := by
  intro s
  simp [State.autoBarrier]
@[simp] theorem State_prefillAgain_keeps : ∀ n s, (State.prefillAgain n s).pending = s.pending ∧ (State.prefillAgain n s).toAlwaysOnPart = s.toAlwaysOnPart := by
  intro n s
  refine ⟨?_, ?_⟩ <;> (simp only [State.prefillAgain]; (repeat' split) <;> simp_all)
@[simp] theorem State_resetSampler_keeps : ∀ c mode s, (State.resetSampler c mode s).pending = s.pending ∧ (State.resetSampler c mode s).toAlwaysOnPart = s.toAlwaysOnPart := by
  intro c mode s
  refine ⟨?_, ?_⟩ <;> (simp only [State.resetSampler]; (repeat' split) <;> simp_all)
@[simp] theorem State_restartSpec_keeps : ∀ n s, (State.restartSpec n s).pending = s.pending ∧ (State.restartSpec n s).toAlwaysOnPart = s.toAlwaysOnPart := by
  intro n s
  refine ⟨?_, ?_⟩ <;> (simp only [State.restartSpec]; (repeat' split) <;> simp_all)
@[simp] theorem State_oldGeneration_keeps : ∀ n s, (State.oldGeneration n s).pending = s.pending ∧ (State.oldGeneration n s).toAlwaysOnPart = s.toAlwaysOnPart := by
  intro n s
  refine ⟨?_, ?_⟩ <;> (simp only [State.oldGeneration]; (repeat' split) <;> simp_all)
@[simp] theorem State_abandonEverywhere_keeps : ∀ step s, (State.abandonEverywhere step s).pending = s.pending ∧ (State.abandonEverywhere step s).toAlwaysOnPart = s.toAlwaysOnPart := by
  intro step s
  simp [State.abandonEverywhere]
@[simp] theorem State_countReplay_keeps : ∀ step s, (State.countReplay step s).pending = s.pending ∧ (State.countReplay step s).toAlwaysOnPart = s.toAlwaysOnPart := by
  intro step s
  refine ⟨?_, ?_⟩ <;> (simp only [State.countReplay]; (repeat' split) <;> simp_all)
@[simp] theorem State_restartStep_keeps : ∀ step s, (State.restartStep step s).pending = s.pending ∧ (State.restartStep step s).toAlwaysOnPart = s.toAlwaysOnPart := by
  intro step s
  refine ⟨?_, ?_⟩ <;> (simp only [State.restartStep]; (repeat' split) <;> simp_all)
@[simp] theorem State_kvFails_keeps : ∀ step s, (State.kvFails step s).pending = s.pending ∧ (State.kvFails step s).toAlwaysOnPart = s.toAlwaysOnPart := by
  intro step s
  refine ⟨?_, ?_⟩ <;> (simp only [State.kvFails]; (repeat' split) <;> simp_all)
@[simp] theorem State_transferFails_keeps : ∀ o ep reason s, (State.transferFails o ep reason s).pending = s.pending ∧ (State.transferFails o ep reason s).toAlwaysOnPart = s.toAlwaysOnPart := by
  intro o ep reason s
  simp [State.transferFails]
@[simp] theorem State_strike_keeps : ∀ tid eps s, (State.strike tid eps s).pending = s.pending ∧ (State.strike tid eps s).toAlwaysOnPart = s.toAlwaysOnPart := fun _ _ _ => ⟨rfl, rfl⟩
@[simp] theorem State_modSending_keeps : ∀ tid f s, (State.modSending tid f s).pending = s.pending ∧ (State.modSending tid f s).toAlwaysOnPart = s.toAlwaysOnPart := fun _ _ _ => ⟨rfl, rfl⟩
@[simp] theorem State_failAt_keeps : ∀ o eps reason s, (State.failAt o eps reason s).pending = s.pending ∧ (State.failAt o eps reason s).toAlwaysOnPart = s.toAlwaysOnPart := by
  intro o eps reason s
  simp [State.failAt]
@[simp] theorem State_setPortState_keeps : ∀ p v s, (State.setPortState p v s).pending = s.pending ∧ (State.setPortState p v s).toAlwaysOnPart = s.toAlwaysOnPart := fun _ _ _ => ⟨rfl, rfl⟩
@[simp] theorem State_portRecord_keeps : ∀ p alarm s, (State.portRecord p alarm s).pending = s.pending ∧ (State.portRecord p alarm s).toAlwaysOnPart = s.toAlwaysOnPart := by
  intro p alarm s
  simp [State.portRecord]
@[simp] theorem State_clearLink_keeps : ∀ p v s, (State.clearLink p v s).pending = s.pending ∧ (State.clearLink p v s).toAlwaysOnPart = s.toAlwaysOnPart := by
  intro p v s
  simp [State.clearLink]
@[simp] theorem State_moveTransfer_keeps : ∀ tid s, (State.moveTransfer tid s).pending = s.pending ∧ (State.moveTransfer tid s).toAlwaysOnPart = s.toAlwaysOnPart := by
  intro tid s
  refine ⟨?_, ?_⟩ <;> (simp only [State.moveTransfer]; (repeat' split) <;> simp_all)
@[simp] theorem State_moveAnswer_keeps : ∀ f s, (State.moveAnswer f s).pending = s.pending ∧ (State.moveAnswer f s).toAlwaysOnPart = s.toAlwaysOnPart := by
  intro f s
  refine ⟨?_, ?_⟩ <;> (simp only [State.moveAnswer]; (repeat' split) <;> simp_all)
@[simp] theorem State_lowerPort_keeps : ∀ p v s, (State.lowerPort p v s).pending = s.pending ∧ (State.lowerPort p v s).toAlwaysOnPart = s.toAlwaysOnPart := by
  intro p v s
  simp [State.lowerPort]
@[simp] theorem State_retrain_keeps : ∀ p s, (State.retrain p s).pending = s.pending ∧ (State.retrain p s).toAlwaysOnPart = s.toAlwaysOnPart := by
  intro p s
  simp [State.retrain]
@[simp] theorem State_control_keeps : ∀ p kind ack cls granules s, (State.control p kind ack cls granules s).pending = s.pending ∧ (State.control p kind ack cls granules s).toAlwaysOnPart = s.toAlwaysOnPart := by
  intro p kind ack cls granules s
  refine ⟨?_, ?_⟩ <;> (simp only [State.control]; (repeat' split) <;> simp_all)
@[simp] theorem State_heard_keeps : ∀ p s, (State.heard p s).pending = s.pending ∧ (State.heard p s).toAlwaysOnPart = s.toAlwaysOnPart := by
  intro p s
  refine ⟨?_, ?_⟩ <;> (simp only [State.heard]; (repeat' split) <;> simp_all)
@[simp] theorem State_sendIdent_keeps : ∀ p s, (State.sendIdent p s).pending = s.pending ∧ (State.sendIdent p s).toAlwaysOnPart = s.toAlwaysOnPart := fun _ _ => ⟨rfl, rfl⟩
@[simp] theorem State_quarantine_keeps : ∀ p i s, (State.quarantine p i s).pending = s.pending ∧ (State.quarantine p i s).toAlwaysOnPart = s.toAlwaysOnPart := by
  intro p i s
  refine ⟨?_, ?_⟩ <;> (simp only [State.quarantine]; (repeat' split) <;> simp_all)
@[simp] theorem State_sendHeartbeat_keeps : ∀ dest s, (State.sendHeartbeat dest s).pending = s.pending ∧ (State.sendHeartbeat dest s).toAlwaysOnPart = s.toAlwaysOnPart := by
  intro dest s
  simp [State.sendHeartbeat]
@[simp] theorem State_probe_keeps : ∀ ep s, (State.probe ep s).pending = s.pending ∧ (State.probe ep s).toAlwaysOnPart = s.toAlwaysOnPart := by
  intro ep s
  simp [State.probe]
@[simp] theorem State_portLost_keeps : ∀ n s, (State.portLost n s).pending = s.pending ∧ (State.portLost n s).toAlwaysOnPart = s.toAlwaysOnPart := by
  intro n s
  refine ⟨?_, ?_⟩ <;> (simp only [State.portLost]; (repeat' split) <;> simp_all)
@[simp] theorem State_applyRetrain_keeps : ∀ p s, (State.applyRetrain p s).2.pending = s.pending ∧ (State.applyRetrain p s).2.toAlwaysOnPart = s.toAlwaysOnPart := by
  intro p s
  simp [State.applyRetrain]
@[simp] theorem State_applyDisable_keeps : ∀ p s, (State.applyDisable p s).2.pending = s.pending ∧ (State.applyDisable p s).2.toAlwaysOnPart = s.toAlwaysOnPart := by
  intro p s
  simp [State.applyDisable]
@[simp] theorem State_settlePorts_keeps : ∀ s, (State.settlePorts s).pending = s.pending ∧ (State.settlePorts s).toAlwaysOnPart = s.toAlwaysOnPart := by
  intro s
  simp [State.settlePorts]
@[simp] theorem State_applyEnable_keeps : ∀ p s, (State.applyEnable p s).2.pending = s.pending ∧ (State.applyEnable p s).2.toAlwaysOnPart = s.toAlwaysOnPart := by
  intro p s
  simp [State.applyEnable]
@[simp] theorem State_applyNeighbour_keeps : ∀ p data s, (State.applyNeighbour p data s).2.pending = s.pending ∧ (State.applyNeighbour p data s).2.toAlwaysOnPart = s.toAlwaysOnPart := by
  intro p data s
  simp [State.applyNeighbour]
@[simp] theorem State_acked_keeps : ∀ p n s, (State.acked p n s).pending = s.pending ∧ (State.acked p n s).toAlwaysOnPart = s.toAlwaysOnPart := fun _ _ _ => ⟨rfl, rfl⟩
@[simp] theorem State_handBack_keeps : ∀ p b s, (State.handBack p b s).pending = s.pending ∧ (State.handBack p b s).toAlwaysOnPart = s.toAlwaysOnPart := by
  intro p b s
  simp [State.handBack]
@[simp] theorem State_replay_keeps : ∀ p s, (State.replay p s).pending = s.pending ∧ (State.replay p s).toAlwaysOnPart = s.toAlwaysOnPart := by
  intro p s
  simp [State.replay]
@[simp] theorem State_badCodeword_keeps : ∀ p s, (State.badCodeword p s).pending = s.pending ∧ (State.badCodeword p s).toAlwaysOnPart = s.toAlwaysOnPart := by
  intro p s
  refine ⟨?_, ?_⟩ <;> (simp only [State.badCodeword]; (repeat' split) <;> simp_all)
@[simp] theorem State_askReplay_keeps : ∀ p s, (State.askReplay p s).pending = s.pending ∧ (State.askReplay p s).toAlwaysOnPart = s.toAlwaysOnPart := by
  intro p s
  refine ⟨?_, ?_⟩ <;> (simp only [State.askReplay]; (repeat' split) <;> simp_all)
@[simp] theorem State_sendLack_keeps : ∀ p s, (State.sendLack p s).pending = s.pending ∧ (State.sendLack p s).toAlwaysOnPart = s.toAlwaysOnPart := by
  intro p s
  simp [State.sendLack]
@[simp] theorem State_flueResidue_keeps : ∀ r step bad s, (State.flueResidue r step bad s).pending = s.pending ∧ (State.flueResidue r step bad s).toAlwaysOnPart = s.toAlwaysOnPart := by
  intro r step bad s
  refine ⟨?_, ?_⟩ <;> (simp only [State.flueResidue]; (repeat' split) <;> simp_all)
@[simp] theorem State_upsetAdd_keeps : ∀ r step upset f s, (State.upsetAdd r step upset f s).2.pending = s.pending ∧ (State.upsetAdd r step upset f s).2.toAlwaysOnPart = s.toAlwaysOnPart := by
  intro r step upset f s
  refine ⟨?_, ?_⟩ <;> (simp only [State.upsetAdd]; (repeat' split) <;> simp_all)
@[simp] theorem State_storeFlit_keeps : ∀ h step upset f s, (State.storeFlit h step upset f s).pending = s.pending ∧ (State.storeFlit h step upset f s).toAlwaysOnPart = s.toAlwaysOnPart := by
  intro h step upset f s
  refine ⟨?_, ?_⟩ <;> (simp only [State.storeFlit]; (repeat' split) <;> simp_all)
@[simp] theorem State_forwardFlit_keeps : ∀ r dest step upset f s, (State.forwardFlit r dest step upset f s).pending = s.pending ∧ (State.forwardFlit r dest step upset f s).toAlwaysOnPart = s.toAlwaysOnPart := by
  intro r dest step upset f s
  refine ⟨?_, ?_⟩ <;> (simp only [State.forwardFlit]; (repeat' split) <;> simp_all)
@[simp] theorem State_applyFlueTree_keeps : ∀ img s, (State.applyFlueTree img s).2.pending = s.pending ∧ (State.applyFlueTree img s).2.toAlwaysOnPart = s.toAlwaysOnPart := by
  intro img s
  simp [State.applyFlueTree]
@[simp] theorem State_upsetWord_keeps : ∀ h u s, (State.upsetWord h u s).pending = s.pending ∧ (State.upsetWord h u s).toAlwaysOnPart = s.toAlwaysOnPart := by
  intro h u s
  simp [State.upsetWord]
@[simp] theorem State_settleInput_keeps : ∀ h cc inp matched s, (State.settleInput h cc inp matched s).1.pending = s.pending ∧ (State.settleInput h cc inp matched s).1.toAlwaysOnPart = s.toAlwaysOnPart := by
  intro h cc inp matched s
  refine ⟨?_, ?_⟩ <;> (simp only [State.settleInput]; (repeat' split) <;> simp_all)
@[simp] theorem State_settleInputs_keeps (h cc t : Nat) (s : State) : (s.settleInputs h cc t).pending = s.pending ∧ (s.settleInputs h cc t).toAlwaysOnPart = s.toAlwaysOnPart := by
  have hf (f : StepInput → Bool) (l : List StepInput) (p : State × List StepInput) : (l.foldl (fun (acc : State × List StepInput) inp => ((acc.1.settleInput h cc inp (f inp)).1, acc.2 ++ [(acc.1.settleInput h cc inp (f inp)).2])) p).1.pending = p.1.pending ∧ (l.foldl (fun (acc : State × List StepInput) inp => ((acc.1.settleInput h cc inp (f inp)).1, acc.2 ++ [(acc.1.settleInput h cc inp (f inp)).2])) p).1.toAlwaysOnPart = p.1.toAlwaysOnPart := by
    induction l generalizing p with
    | nil => exact ⟨rfl, rfl⟩
    | cons a l ih => simp [List.foldl, ih]
  have hm := hf fun inp => (s.stepRec t).matched.contains inp.slot
  refine ⟨?_, ?_⟩ <;> (unfold State.settleInputs; dsimp only; split)
  · exact (hm _ _).1
  · exact (State_modStep_keeps _ _ _).1.trans (hm _ _).1
  · exact (hm _ _).2
  · exact (State_modStep_keeps _ _ _).2.trans (hm _ _).2
@[simp] theorem State_forwardInput_keeps : ∀ step inp s, (State.forwardInput step inp s).pending = s.pending ∧ (State.forwardInput step inp s).toAlwaysOnPart = s.toAlwaysOnPart := by
  intro step inp s
  simp [State.forwardInput]
@[simp] theorem State_parityRow_keeps : ∀ h bad r s, (State.parityRow h bad r s).2.pending = s.pending ∧ (State.parityRow h bad r s).2.toAlwaysOnPart = s.toAlwaysOnPart := by
  intro h bad r s
  unfold State.parityRow
  split <;> simp
@[simp] theorem State_writeInbound_keeps : ∀ h cc r s, (State.writeInbound h cc r s).pending = s.pending ∧ (State.writeInbound h cc r s).toAlwaysOnPart = s.toAlwaysOnPart := by
  intro h cc r s
  simp [State.writeInbound]
@[simp] theorem State_applyRegion_keeps : ∀ h i v s, (State.applyRegion h i v s).2.pending = s.pending ∧ (State.applyRegion h i v s).2.toAlwaysOnPart = s.toAlwaysOnPart := by
  intro h i v s
  simp [State.applyRegion]
@[simp] theorem State_applyResidentImage_keeps : ∀ img s, (State.applyResidentImage img s).2.pending = s.pending ∧ (State.applyResidentImage img s).2.toAlwaysOnPart = s.toAlwaysOnPart := by
  intro img s
  simp [State.applyResidentImage]
@[simp] theorem State_loadResident_keeps (h : Nat) (s : State) : (s.loadResident h).pending = s.pending ∧ (s.loadResident h).toAlwaysOnPart = s.toAlwaysOnPart := by
  constructor
  · unfold State.loadResident
    refine foldl_pending _ _ _ fun s a => ?_
    split
    · refine foldl_pending _ _ _ fun s i => ?_
      split <;> simp
    · rfl
  · unfold State.loadResident
    refine foldl_toAlwaysOnPart _ _ _ fun s a => ?_
    split
    · refine foldl_toAlwaysOnPart _ _ _ fun s i => ?_
      split <;> simp
    · rfl
@[simp] theorem State_sendAnswer_keeps : ∀ kind dest tid reason s, (State.sendAnswer kind dest tid reason s).pending = s.pending ∧ (State.sendAnswer kind dest tid reason s).toAlwaysOnPart = s.toAlwaysOnPart := by
  intro kind dest tid reason s
  refine ⟨?_, ?_⟩ <;> (simp only [State.sendAnswer]; (repeat' split) <;> simp_all)
@[simp] theorem State_modReceiving_keeps : ∀ src tid f s, (State.modReceiving src tid f s).pending = s.pending ∧ (State.modReceiving src tid f s).toAlwaysOnPart = s.toAlwaysOnPart := fun _ _ _ _ => ⟨rfl, rfl⟩
@[simp] theorem State_dropReceiving_keeps : ∀ src tid s, (State.dropReceiving src tid s).pending = s.pending ∧ (State.dropReceiving src tid s).toAlwaysOnPart = s.toAlwaysOnPart := fun _ _ _ => ⟨rfl, rfl⟩
@[simp] theorem State_noteCompleted_keeps : ∀ src tid s, (State.noteCompleted src tid s).pending = s.pending ∧ (State.noteCompleted src tid s).toAlwaysOnPart = s.toAlwaysOnPart := by
  intro src tid s
  simp [State.noteCompleted]
@[simp] theorem State_openTransfer_keeps : ∀ p src h stepHdr s, (State.openTransfer p src h stepHdr s).pending = s.pending ∧ (State.openTransfer p src h stepHdr s).toAlwaysOnPart = s.toAlwaysOnPart := by
  intro p src h stepHdr s
  refine ⟨?_, ?_⟩ <;> (simp only [State.openTransfer]; (repeat' split) <;> simp_all)
@[simp] theorem State_fillTransfer_keeps : ∀ src tid offset payload bad s, (State.fillTransfer src tid offset payload bad s).pending = s.pending ∧ (State.fillTransfer src tid offset payload bad s).toAlwaysOnPart = s.toAlwaysOnPart := by
  intro src tid offset payload bad s
  refine ⟨?_, ?_⟩ <;> (simp only [State.fillTransfer]; (repeat' split) <;> simp_all)
@[simp] theorem State_takeData_keeps : ∀ p h stepHdr payload bad s, (State.takeData p h stepHdr payload bad s).pending = s.pending ∧ (State.takeData p h stepHdr payload bad s).toAlwaysOnPart = s.toAlwaysOnPart := by
  intro p h stepHdr payload bad s
  simp [State.takeData]
@[simp] theorem State_openStep_keeps : ∀ step h b s, (State.openStep step h b s).pending = s.pending ∧ (State.openStep step h b s).toAlwaysOnPart = s.toAlwaysOnPart := by
  intro step h b s
  simp [State.openStep]
@[simp] theorem State_takePartner_keeps : ∀ src step s, (State.takePartner src step s).pending = s.pending ∧ (State.takePartner src step s).toAlwaysOnPart = s.toAlwaysOnPart := by
  intro src step s
  simp [State.takePartner]
@[simp] theorem State_joinInput_keeps : ∀ x step s, (State.joinInput x step s).pending = s.pending ∧ (State.joinInput x step s).toAlwaysOnPart = s.toAlwaysOnPart := by
  intro x step s
  simp [State.joinInput]
@[simp] theorem State_secondCopy_keeps : ∀ x first step s, (State.secondCopy x first step s).pending = s.pending ∧ (State.secondCopy x first step s).toAlwaysOnPart = s.toAlwaysOnPart := by
  intro x first step s
  simp [State.secondCopy]
@[simp] theorem State_delivered_keeps : ∀ o e s, (State.delivered o e s).pending = s.pending ∧ (State.delivered o e s).toAlwaysOnPart = s.toAlwaysOnPart := by
  intro o e s
  simp [State.delivered]
@[simp] theorem State_sendAgain_keeps : ∀ tid dests s, (State.sendAgain tid dests s).pending = s.pending ∧ (State.sendAgain tid dests s).toAlwaysOnPart = s.toAlwaysOnPart := by
  intro tid dests s
  refine ⟨?_, ?_⟩ <;> (simp only [State.sendAgain]; (repeat' split) <;> simp_all)
@[simp] theorem State_reportPosition_keeps : ∀ e s, (State.reportPosition e s).pending = s.pending ∧ (State.reportPosition e s).toAlwaysOnPart = s.toAlwaysOnPart := by
  intro e s
  simp [State.reportPosition]
@[simp] theorem State_resendFor_keeps : ∀ step i s, (State.resendFor step i s).pending = s.pending ∧ (State.resendFor step i s).toAlwaysOnPart = s.toAlwaysOnPart := by
  intro step i s
  refine ⟨?_, ?_⟩ <;> (simp only [State.resendFor]; (repeat' split) <;> simp_all)
@[simp] theorem State_resendOrWait_keeps : ∀ step i e s, (State.resendOrWait step i e s).pending = s.pending ∧ (State.resendOrWait step i e s).toAlwaysOnPart = s.toAlwaysOnPart := by
  intro step i e s
  refine ⟨?_, ?_⟩ <;> (simp only [State.resendOrWait]; (repeat' split) <;> simp_all)
@[simp] theorem State_replayHead_keeps : ∀ step i e s, (State.replayHead step i e s).pending = s.pending ∧ (State.replayHead step i e s).toAlwaysOnPart = s.toAlwaysOnPart := by
  intro step i e s
  refine ⟨?_, ?_⟩ <;> (simp only [State.replayHead]; (repeat' split) <;> simp_all)
@[simp] theorem State_restoreRuns_keeps : ∀ s, (State.restoreRuns s).pending = s.pending ∧ (State.restoreRuns s).toAlwaysOnPart = s.toAlwaysOnPart := by
  intro s
  simp [State.restoreRuns]
@[simp] theorem State_failWaits_keeps : ∀ s, (State.failWaits s).pending = s.pending ∧ (State.failWaits s).toAlwaysOnPart = s.toAlwaysOnPart := by
  intro s
  simp [State.failWaits]
@[simp] theorem State_forget_keeps : ∀ cycle s, (State.forget cycle s).pending = s.pending ∧ (State.forget cycle s).toAlwaysOnPart = s.toAlwaysOnPart := by
  intro cycle s
  simp [State.forget]
@[simp] theorem State_steepLost_keeps : ∀ s, (State.steepLost s).pending = s.pending ∧ (State.steepLost s).toAlwaysOnPart = s.toAlwaysOnPart := fun _ => ⟨rfl, rfl⟩
@[simp] theorem State_roleLost_keeps : ∀ s, (State.roleLost s).pending = s.pending ∧ (State.roleLost s).toAlwaysOnPart = s.toAlwaysOnPart := by
  intro s
  simp [State.roleLost]
@[simp] theorem State_mainSideReset_keeps : ∀ cycle mainState s, (State.mainSideReset cycle mainState s).pending = s.pending ∧ (State.mainSideReset cycle mainState s).toAlwaysOnPart = s.toAlwaysOnPart := by
  intro cycle mainState s
  simp [State.mainSideReset]
@[simp] theorem State_sendReset_keeps : ∀ s, (State.sendReset s).pending = s.pending ∧ (State.sendReset s).toAlwaysOnPart = s.toAlwaysOnPart := fun _ => ⟨rfl, rfl⟩
@[simp] theorem State_sendOff_keeps : ∀ forced s, (State.sendOff forced s).pending = s.pending ∧ (State.sendOff forced s).toAlwaysOnPart = s.toAlwaysOnPart := fun _ _ => ⟨rfl, rfl⟩
@[simp] theorem State_setCal_keeps : ∀ h f v s, (State.setCal h f v s).pending = s.pending ∧ (State.setCal h f v s).toAlwaysOnPart = s.toAlwaysOnPart := fun _ _ _ _ => ⟨rfl, rfl⟩
@[simp] theorem State_sendBoot_keeps : ∀ s, (State.sendBoot s).pending = s.pending ∧ (State.sendBoot s).toAlwaysOnPart = s.toAlwaysOnPart := by
  intro s
  simp [State.sendBoot]
@[simp] theorem State_applyReferenceSelect_keeps : ∀ v s, (State.applyReferenceSelect v s).2.pending = s.pending ∧ (State.applyReferenceSelect v s).2.toAlwaysOnPart = s.toAlwaysOnPart := by
  intro v s
  simp [State.applyReferenceSelect]
@[simp] theorem State_applyCeiling_keeps : ∀ mhz s, (State.applyCeiling mhz s).2.pending = s.pending ∧ (State.applyCeiling mhz s).2.toAlwaysOnPart = s.toAlwaysOnPart := by
  intro mhz s
  simp [State.applyCeiling]
@[simp] theorem State_applySpreadDepth_keeps : ∀ v s, (State.applySpreadDepth v s).2.pending = s.pending ∧ (State.applySpreadDepth v s).2.toAlwaysOnPart = s.toAlwaysOnPart := by
  intro v s
  simp [State.applySpreadDepth]
@[simp] theorem State_applySpreadRate_keeps : ∀ v s, (State.applySpreadRate v s).2.pending = s.pending ∧ (State.applySpreadRate v s).2.toAlwaysOnPart = s.toAlwaysOnPart := by
  intro v s
  simp [State.applySpreadRate]
@[simp] theorem State_holdBlocks_keeps : ∀ v used s, (State.holdBlocks v used s).pending = s.pending ∧ (State.holdBlocks v used s).toAlwaysOnPart = s.toAlwaysOnPart := by
  intro v used s
  simp [State.holdBlocks]
@[simp] theorem State_applyClockEnable_keeps : ∀ v s, (State.applyClockEnable v s).2.pending = s.pending ∧ (State.applyClockEnable v s).2.toAlwaysOnPart = s.toAlwaysOnPart := by
  intro v s
  simp [State.applyClockEnable]
@[simp] theorem State_clockAlarm_keeps : ∀ detail s, (State.clockAlarm detail s).pending = s.pending ∧ (State.clockAlarm detail s).toAlwaysOnPart = s.toAlwaysOnPart := by
  intro detail s
  simp [State.clockAlarm]
@[simp] theorem State_delayRequest_keeps : ∀ s, (State.delayRequest s).pending = s.pending ∧ (State.delayRequest s).toAlwaysOnPart = s.toAlwaysOnPart := by
  intro s
  simp [State.delayRequest]
@[simp] theorem State_slipNext_keeps : ∀ s, (State.slipNext s).pending = s.pending ∧ (State.slipNext s).toAlwaysOnPart = s.toAlwaysOnPart := by
  intro s
  exact ⟨rfl, rfl⟩
@[simp] theorem State_handToTwin_keeps : ∀ step t s, (State.handToTwin step t s).pending = s.pending ∧ (State.handToTwin step t s).toAlwaysOnPart = s.toAlwaysOnPart := by
  intro step t s
  simp [State.handToTwin]
@[simp] theorem State_faultNotice_keeps : ∀ step s, (State.faultNotice step s).pending = s.pending ∧ (State.faultNotice step s).toAlwaysOnPart = s.toAlwaysOnPart := by
  intro step s
  simp [State.faultNotice]
@[simp] theorem State_generationFault_keeps : ∀ step s, (State.generationFault step s).pending = s.pending ∧ (State.generationFault step s).toAlwaysOnPart = s.toAlwaysOnPart := by
  intro step s
  refine ⟨?_, ?_⟩ <;> (simp only [State.generationFault]; (repeat' split) <;> simp_all)
@[simp] theorem State_startRun_keeps : ∀ step s, (State.startRun step s).pending = s.pending ∧ (State.startRun step s).toAlwaysOnPart = s.toAlwaysOnPart := by
  intro step s
  simp [State.startRun]
@[simp] theorem State_launch_keeps : ∀ step s, (State.launch step s).pending = s.pending ∧ (State.launch step s).toAlwaysOnPart = s.toAlwaysOnPart := by
  intro step s
  simp [State.launch]
@[simp] theorem State_giveUp_keeps : ∀ step s, (State.giveUp step s).pending = s.pending ∧ (State.giveUp step s).toAlwaysOnPart = s.toAlwaysOnPart := by
  intro step s
  simp [State.giveUp]
@[simp] theorem State_abortTest_keeps : ∀ h s, (State.abortTest h s).pending = s.pending ∧ (State.abortTest h s).toAlwaysOnPart = s.toAlwaysOnPart := by
  intro h s
  simp [State.abortTest]
@[simp] theorem State_kindleHearth_keeps : ∀ h s, (State.kindleHearth h s).pending = s.pending ∧ (State.kindleHearth h s).toAlwaysOnPart = s.toAlwaysOnPart := fun _ _ => ⟨rfl, rfl⟩
@[simp] theorem State_kindleSetNow_keeps : ∀ s, (State.kindleSetNow s).pending = s.pending ∧ (State.kindleSetNow s).toAlwaysOnPart = s.toAlwaysOnPart := by
  intro s
  simp [State.kindleSetNow]
@[simp] theorem State_applyOutOfService_keeps : ∀ h s, (State.applyOutOfService h s).2.pending = s.pending ∧ (State.applyOutOfService h s).2.toAlwaysOnPart = s.toAlwaysOnPart := by
  intro h s
  simp [State.applyOutOfService]
@[simp] theorem State_applyReturn_keeps : ∀ h s, (State.applyReturn h s).2.pending = s.pending ∧ (State.applyReturn h s).2.toAlwaysOnPart = s.toAlwaysOnPart := by
  intro h s
  simp [State.applyReturn]
@[simp] theorem State_sendTokens_keeps : ∀ step ctx cls m mode payload s, (State.sendTokens step ctx cls m mode payload s).pending = s.pending ∧ (State.sendTokens step ctx cls m mode payload s).toAlwaysOnPart = s.toAlwaysOnPart := by
  intro step ctx cls m mode payload s
  simp [State.sendTokens]
@[simp] theorem State_tokenFailure_keeps : ∀ step upset s, (State.tokenFailure step upset s).pending = s.pending ∧ (State.tokenFailure step upset s).toAlwaysOnPart = s.toAlwaysOnPart := by
  intro step upset s
  refine ⟨?_, ?_⟩ <;> (simp only [State.tokenFailure]; (repeat' split) <;> simp_all)
@[simp] theorem State_showGrammar_keeps : ∀ slot result s, (State.showGrammar slot result s).pending = s.pending ∧ (State.showGrammar slot result s).toAlwaysOnPart = s.toAlwaysOnPart := fun _ _ _ => ⟨rfl, rfl⟩
@[simp] theorem State_storeGrammar_keeps : ∀ slot img s, (State.storeGrammar slot img s).pending = s.pending ∧ (State.storeGrammar slot img s).toAlwaysOnPart = s.toAlwaysOnPart := by
  intro slot img s
  refine ⟨?_, ?_⟩ <;> (simp only [State.storeGrammar]; (repeat' split) <;> simp_all)
@[simp] theorem State_awaitGrammar_keeps : ∀ slot l s, (State.awaitGrammar slot l s).pending = s.pending ∧ (State.awaitGrammar slot l s).toAlwaysOnPart = s.toAlwaysOnPart := by
  intro slot l s
  refine ⟨?_, ?_⟩ <;> (simp only [State.awaitGrammar]; (repeat' split) <;> simp_all)
@[simp] theorem State_applyGrammar_keeps : ∀ slot img s, (State.applyGrammar slot img s).2.pending = s.pending ∧ (State.applyGrammar slot img s).2.toAlwaysOnPart = s.toAlwaysOnPart := by
  intro slot img s
  simp [State.applyGrammar]
@[simp] theorem State_takeGrammar_keeps : ∀ slot img s, (State.takeGrammar slot img s).pending = s.pending ∧ (State.takeGrammar slot img s).toAlwaysOnPart = s.toAlwaysOnPart := by
  intro slot img s
  refine ⟨?_, ?_⟩ <;> (simp only [State.takeGrammar]; (repeat' split) <;> simp_all)
@[simp] theorem State_grammarApplied_keeps : ∀ slot result src s, (State.grammarApplied slot result src s).pending = s.pending ∧ (State.grammarApplied slot result src s).toAlwaysOnPart = s.toAlwaysOnPart := by
  intro slot result src s
  refine ⟨?_, ?_⟩ <;> (simp only [State.grammarApplied]; (repeat' split) <;> simp_all)
@[simp] theorem State_consume_keeps : ∀ k s, (State.consume k s).pending = s.pending ∧ (State.consume k s).toAlwaysOnPart = s.toAlwaysOnPart := by
  intro k s
  simp [State.consume]
@[simp] theorem State_plainEntry_keeps : ∀ k tag ctx outcome s, (State.plainEntry k tag ctx outcome s).pending = s.pending ∧ (State.plainEntry k tag ctx outcome s).toAlwaysOnPart = s.toAlwaysOnPart := by
  intro k tag ctx outcome s
  simp [State.plainEntry]
@[simp] theorem State_joinPending_keeps : ∀ n s, (State.joinPending n s).pending = s.pending ∧ (State.joinPending n s).toAlwaysOnPart = s.toAlwaysOnPart := by
  intro n s
  refine ⟨?_, ?_⟩ <;> (simp only [State.joinPending]; (repeat' split) <;> simp_all)
@[simp] theorem State_endAtBoundary_keeps : ∀ n outcome s, (State.endAtBoundary n outcome s).pending = s.pending ∧ (State.endAtBoundary n outcome s).toAlwaysOnPart = s.toAlwaysOnPart := by
  intro n outcome s
  refine ⟨?_, ?_⟩ <;> (simp only [State.endAtBoundary]; (repeat' split) <;> simp_all)
@[simp] theorem State_tierEntry_keeps : ∀ k tag ctx action s, (State.tierEntry k tag ctx action s).pending = s.pending ∧ (State.tierEntry k tag ctx action s).toAlwaysOnPart = s.toAlwaysOnPart := by
  intro k tag ctx action s
  simp [State.tierEntry]
@[simp] theorem State_settleResume_keeps : ∀ c s, (State.settleResume c s).pending = s.pending ∧ (State.settleResume c s).toAlwaysOnPart = s.toAlwaysOnPart := by
  intro c s
  refine ⟨?_, ?_⟩ <;> (simp only [State.settleResume]; (repeat' split) <;> simp_all)
@[simp] theorem State_admitReq_keeps : ∀ n r s, (State.admitReq n r s).pending = s.pending ∧ (State.admitReq n r s).toAlwaysOnPart = s.toAlwaysOnPart := by
  intro n r s
  refine ⟨?_, ?_⟩ <;> (simp only [State.admitReq]; (repeat' split) <;> simp_all)
@[simp] theorem State_refill_keeps : ∀ t s, (State.refill t s).pending = s.pending ∧ (State.refill t s).toAlwaysOnPart = s.toAlwaysOnPart := fun _ _ => ⟨rfl, rfl⟩
@[simp] theorem State_applyTenant_keeps : ∀ t cfg s, (State.applyTenant t cfg s).2.pending = s.pending ∧ (State.applyTenant t cfg s).2.toAlwaysOnPart = s.toAlwaysOnPart := by
  intro t cfg s
  simp [State.applyTenant]
@[simp] theorem State_takeTokens_keeps : ∀ n r f m s, (State.takeTokens n r f m s).pending = s.pending ∧ (State.takeTokens n r f m s).toAlwaysOnPart = s.toAlwaysOnPart := by
  intro n r f m s
  refine ⟨?_, ?_⟩ <;> (simp only [State.takeTokens]; (repeat' split) <;> simp_all)
@[simp] theorem State_secondTokens_keeps : ∀ m s, (State.secondTokens m s).pending = s.pending ∧ (State.secondTokens m s).toAlwaysOnPart = s.toAlwaysOnPart := by
  intro m s
  refine ⟨?_, ?_⟩ <;> (simp only [State.secondTokens]; (repeat' split) <;> simp_all)
@[simp] theorem State_draftTokens_keeps : ∀ m s, (State.draftTokens m s).pending = s.pending ∧ (State.draftTokens m s).toAlwaysOnPart = s.toAlwaysOnPart := by
  intro m s
  refine ⟨?_, ?_⟩ <;> (simp only [State.draftTokens]; (repeat' split) <;> simp_all)
@[simp] theorem State_setSampler_keeps : ∀ c x s, (State.setSampler c x s).pending = s.pending ∧ (State.setSampler c x s).toAlwaysOnPart = s.toAlwaysOnPart := by
  intro c x s
  refine ⟨?_, ?_⟩ <;> (simp only [State.setSampler]; (repeat' split) <;> simp_all)
@[simp] theorem State_sendTree_keeps : ∀ c x root cands s, (State.sendTree c x root cands s).pending = s.pending ∧ (State.sendTree c x root cands s).toAlwaysOnPart = s.toAlwaysOnPart := by
  intro c x root cands s
  refine ⟨?_, ?_⟩ <;> (simp only [State.sendTree]; (repeat' split) <;> simp_all)
@[simp] theorem State_setMode_keeps : ∀ c x s, (State.setMode c x s).pending = s.pending ∧ (State.setMode c x s).toAlwaysOnPart = s.toAlwaysOnPart := by
  intro c x s
  simp [State.setMode]
@[simp] theorem State_applySpec_keeps : ∀ limits sub v s, (State.applySpec limits sub v s).2.pending = s.pending ∧ (State.applySpec limits sub v s).2.toAlwaysOnPart = s.toAlwaysOnPart := by
  intro limits sub v s
  simp [State.applySpec]
@[simp] theorem State_settleRole_keeps : ∀ s, (State.settleRole s).pending = s.pending ∧ (State.settleRole s).toAlwaysOnPart = s.toAlwaysOnPart := by
  intro s
  simp [State.settleRole]
@[simp] theorem State_tablePair_keeps : ∀ old s, (State.tablePair old s).pending = s.pending ∧ (State.tablePair old s).toAlwaysOnPart = s.toAlwaysOnPart := by
  intro old s
  refine ⟨?_, ?_⟩ <;> (simp only [State.tablePair]; (repeat' split) <;> simp_all)
@[simp] theorem State_flushHeld_keeps : ∀ s, (State.flushHeld s).pending = s.pending ∧ (State.flushHeld s).toAlwaysOnPart = s.toAlwaysOnPart := by
  intro s
  simp [State.flushHeld]
@[simp] theorem State_noteCover_keeps : ∀ was s, (State.noteCover was s).pending = s.pending ∧ (State.noteCover was s).toAlwaysOnPart = s.toAlwaysOnPart := by
  intro was s
  simp [State.noteCover]
@[simp] theorem State_applyTable_keeps : ∀ t time s, (State.applyTable t time s).pending = s.pending ∧ (State.applyTable t time s).toAlwaysOnPart = s.toAlwaysOnPart := by
  intro t time s
  simp [State.applyTable]
@[simp] theorem State_receiveTable_keeps : ∀ t s, (State.receiveTable t s).pending = s.pending ∧ (State.receiveTable t s).toAlwaysOnPart = s.toAlwaysOnPart := by
  intro t s
  simp [State.receiveTable]
@[simp] theorem State_tableEdge_keeps : ∀ time s, (State.tableEdge time s).pending = s.pending ∧ (State.tableEdge time s).toAlwaysOnPart = s.toAlwaysOnPart := by
  intro time s
  simp [State.tableEdge]
@[simp] theorem State_issueTable_keeps : ∀ t s, (State.issueTable t s).pending = s.pending ∧ (State.issueTable t s).toAlwaysOnPart = s.toAlwaysOnPart := by
  intro t s
  simp [State.issueTable]
@[simp] theorem State_showTable_keeps : ∀ result failing s, (State.showTable result failing s).pending = s.pending ∧ (State.showTable result failing s).toAlwaysOnPart = s.toAlwaysOnPart := fun _ _ _ => ⟨rfl, rfl⟩
@[simp] theorem State_applyTableWrite_keeps : ∀ img s, (State.applyTableWrite img s).2.pending = s.pending ∧ (State.applyTableWrite img s).2.toAlwaysOnPart = s.toAlwaysOnPart := by
  intro img s
  refine ⟨?_, ?_⟩ <;> (simp only [State.applyTableWrite]; (repeat' split) <;> simp_all)
@[simp] theorem State_rekeep_keeps : ∀ ep other s, (State.rekeep ep other s).pending = s.pending ∧ (State.rekeep ep other s).toAlwaysOnPart = s.toAlwaysOnPart := fun _ _ _ => ⟨rfl, rfl⟩
@[simp] theorem State_markFailed_keeps : ∀ ep seq s, (State.markFailed ep seq s).pending = s.pending ∧ (State.markFailed ep seq s).toAlwaysOnPart = s.toAlwaysOnPart := by
  intro ep seq s
  refine ⟨?_, ?_⟩ <;> (simp only [State.markFailed]; (repeat' split) <;> simp_all)
@[simp] theorem State_takeOver_keeps : ∀ s, (State.takeOver s).pending = s.pending ∧ (State.takeOver s).toAlwaysOnPart = s.toAlwaysOnPart := by
  intro s
  simp [State.takeOver]
@[simp] theorem State_failPosition_keeps : ∀ ep seq s, (State.failPosition ep seq s).pending = s.pending ∧ (State.failPosition ep seq s).toAlwaysOnPart = s.toAlwaysOnPart := by
  intro ep seq s
  simp [State.failPosition]
@[simp] theorem State_applySwitch_keeps : ∀ target earliest s, (State.applySwitch target earliest s).2.pending = s.pending ∧ (State.applySwitch target earliest s).2.toAlwaysOnPart = s.toAlwaysOnPart := by
  intro target earliest s
  simp [State.applySwitch]
@[simp] theorem State_switchGen_keeps : ∀ target time s, (State.switchGen target time s).pending = s.pending ∧ (State.switchGen target time s).toAlwaysOnPart = s.toAlwaysOnPart := by
  intro target time s
  simp [State.switchGen]
@[simp] theorem State_switchEdge_keeps : ∀ time s, (State.switchEdge time s).pending = s.pending ∧ (State.switchEdge time s).toAlwaysOnPart = s.toAlwaysOnPart := by
  intro time s
  refine ⟨?_, ?_⟩ <;> (simp only [State.switchEdge]; (repeat' split) <;> simp_all)
@[simp] theorem State_putReport_keeps : ∀ i row s, (State.putReport i row s).pending = s.pending ∧ (State.putReport i row s).toAlwaysOnPart = s.toAlwaysOnPart := by
  intro i row s
  refine ⟨?_, ?_⟩ <;> (simp only [State.putReport]; (repeat' split) <;> simp_all)
@[simp] theorem State_setReport_keeps : ∀ i pos gen pred s, (State.setReport i pos gen pred s).pending = s.pending ∧ (State.setReport i pos gen pred s).toAlwaysOnPart = s.toAlwaysOnPart := by
  intro i pos gen pred s
  simp [State.setReport]
@[simp] theorem State_discardSteps_keeps : ∀ n steps s, (State.discardSteps n steps s).pending = s.pending ∧ (State.discardSteps n steps s).toAlwaysOnPart = s.toAlwaysOnPart := by
  intro n steps s
  refine ⟨?_, ?_⟩ <;> (simp only [State.discardSteps]; (repeat' split) <;> simp_all)
@[simp] theorem State_applyBarrier_keeps : ∀ v s, (State.applyBarrier v s).2.pending = s.pending ∧ (State.applyBarrier v s).2.toAlwaysOnPart = s.toAlwaysOnPart := by
  intro v s
  simp [State.applyBarrier]
@[simp] theorem State_setQueue_keeps : ∀ p q s, (State.setQueue p q s).pending = s.pending ∧ (State.setQueue p q s).toAlwaysOnPart = s.toAlwaysOnPart := by
  intro p q s
  simp [State.setQueue]
@[simp] theorem State_countSent_keeps : ∀ p s r, (State.countSent p s r).pending = s.pending ∧ (State.countSent p s r).toAlwaysOnPart = s.toAlwaysOnPart := fun _ _ _ => ⟨rfl, rfl⟩
@[simp] theorem State_setEventRing_keeps : ∀ p r s, (State.setEventRing p r s).pending = s.pending ∧ (State.setEventRing p r s).toAlwaysOnPart = s.toAlwaysOnPart := by
  intro p r s
  simp [State.setEventRing]
@[simp] theorem State_signalRing_keeps : ∀ p s, (State.signalRing p s).pending = s.pending ∧ (State.signalRing p s).toAlwaysOnPart = s.toAlwaysOnPart := by
  intro p s
  simp [State.signalRing]
@[simp] theorem State_writeRing_keeps : ∀ p s, (State.writeRing p s).pending = s.pending ∧ (State.writeRing p s).toAlwaysOnPart = s.toAlwaysOnPart := by
  intro p s
  refine ⟨?_, ?_⟩ <;> (simp only [State.writeRing]; (repeat' split) <;> simp_all)
@[simp] theorem State_applyEventRing_keeps : ∀ p data s, (State.applyEventRing p data s).2.pending = s.pending ∧ (State.applyEventRing p data s).2.toAlwaysOnPart = s.toAlwaysOnPart := by
  intro p data s
  simp [State.applyEventRing]
@[simp] theorem State_fillSide_keeps : ∀ s, (State.fillSide s).pending = s.pending ∧ (State.fillSide s).toAlwaysOnPart = s.toAlwaysOnPart := fun _ => ⟨rfl, rfl⟩
@[simp] theorem State_rewriteHeader_keeps : ∀ s, (State.rewriteHeader s).pending = s.pending ∧ (State.rewriteHeader s).toAlwaysOnPart = s.toAlwaysOnPart := fun _ => ⟨rfl, rfl⟩
@[simp] theorem State_setFrozen_keeps : ∀ v s, (State.setFrozen v s).pending = s.pending ∧ (State.setFrozen v s).toAlwaysOnPart = s.toAlwaysOnPart := fun _ _ => ⟨rfl, rfl⟩
@[simp] theorem State_startSoot_keeps : ∀ s, (State.startSoot s).pending = s.pending ∧ (State.startSoot s).toAlwaysOnPart = s.toAlwaysOnPart := by
  intro s
  simp [State.startSoot]
@[simp] theorem State_clearLog_keeps : ∀ s, (State.clearLog s).pending = s.pending ∧ (State.clearLog s).toAlwaysOnPart = s.toAlwaysOnPart := by
  intro s
  simp [State.clearLog]
@[simp] theorem State_range_keeps : ∀ slot fld n s, (State.range slot fld n s).pending = s.pending ∧ (State.range slot fld n s).toAlwaysOnPart = s.toAlwaysOnPart := by
  intro slot fld n s
  simp [State.range]
@[simp] theorem State_settleTrim_keeps : ∀ h t site s, (State.settleTrim h t site s).pending = s.pending ∧ (State.settleTrim h t site s).toAlwaysOnPart = s.toAlwaysOnPart := by
  intro h t site s
  simp [State.settleTrim]
@[simp] theorem State_startSite_keeps : ∀ h t g lower ord site s, (State.startSite h t g lower ord site s).2.pending = s.pending ∧ (State.startSite h t g lower ord site s).2.toAlwaysOnPart = s.toAlwaysOnPart := by
  intro h t g lower ord site s
  simp [State.startSite]
@[simp] theorem State_startSites_keeps (h t : Nat) (g : Group) (b : Bool) (n : Nat) (l : List Nat) (s : State) : (s.startSites h t g b n l).2.pending = s.pending ∧ (s.startSites h t g b n l).2.toAlwaysOnPart = s.toAlwaysOnPart := by
  induction l generalizing n s with
  | nil => simp [State.startSites]
  | cons a l ih => simp [State.startSites, ih]
@[simp] theorem State_raiseSites_keeps : ∀ h k detail found s, (State.raiseSites h k detail found s).pending = s.pending ∧ (State.raiseSites h k detail found s).toAlwaysOnPart = s.toAlwaysOnPart := by
  intro h k detail found s
  refine ⟨?_, ?_⟩ <;> (simp only [State.raiseSites]; (repeat' split) <;> simp_all)
@[simp] theorem State_issueRecords_keeps : ∀ h t lower scs s, (State.issueRecords h t lower scs s).pending = s.pending ∧ (State.issueRecords h t lower scs s).toAlwaysOnPart = s.toAlwaysOnPart := by
  intro h t lower scs s
  refine ⟨?_, ?_⟩ <;> (simp only [State.issueRecords]; (repeat' split) <;> simp_all)
@[simp] theorem State_driveGroup_keeps : ∀ h t f s, (State.driveGroup h t f s).pending = s.pending ∧ (State.driveGroup h t f s).toAlwaysOnPart = s.toAlwaysOnPart := by
  intro h t f s
  refine ⟨?_, ?_⟩ <;> (simp only [State.driveGroup]; (repeat' split) <;> simp_all)
@[simp] theorem State_timeDamped_keeps : ∀ cc s, (State.timeDamped cc s).pending = s.pending ∧ (State.timeDamped cc s).toAlwaysOnPart = s.toAlwaysOnPart := fun _ _ => ⟨rfl, rfl⟩
@[simp] theorem State_widenSite_keeps : ∀ g sc s, (State.widenSite g sc s).2.pending = s.pending ∧ (State.widenSite g sc s).2.toAlwaysOnPart = s.toAlwaysOnPart := by
  intro g sc s
  simp [State.widenSite]
@[simp] theorem State_splitSite_keeps (g : Group) (sc : SiteConv) (s : State) : (s.splitSite g sc).2.pending = s.pending ∧ (s.splitSite g sc).2.toAlwaysOnPart = s.toAlwaysOnPart := by
  refine ⟨?_, ?_⟩ <;> (simp only [State.splitSite]; split <;> simp)
@[simp] theorem reissueIn_keeps (w : State → Group → SiteConv → Bool) (f : Group → SiteConv → State → SiteConv × State) (n : Nat) (s : State)
    (h : ∀ g c s, (f g c s).2.pending = s.pending ∧ (f g c s).2.toAlwaysOnPart = s.toAlwaysOnPart) : (reissueIn w f n s).pending = s.pending ∧ (reissueIn w f n s).toAlwaysOnPart = s.toAlwaysOnPart := by
  refine ⟨?_, ?_⟩ <;> (simp only [reissueIn]; (repeat' split) <;> simp [h])
@[simp] theorem State_finishSite_keeps (g : Group) (n : Nat) (sc : SiteConv) (s : State) : (s.finishSite g n sc).2.pending = s.pending ∧ (s.finishSite g n sc).2.toAlwaysOnPart = s.toAlwaysOnPart := by
  induction n generalizing sc s with
  | zero => simp [State.finishSite]
  | succ n ih => simp [State.finishSite, ih]
@[simp] theorem State_finishSites_keeps (g : Group) (l : List SiteConv) (s : State) : (s.finishSites g l).2.pending = s.pending ∧ (s.finishSites g l).2.toAlwaysOnPart = s.toAlwaysOnPart := by
  induction l generalizing s with
  | nil => simp [State.finishSites]
  | cons a l ih => simp [State.finishSites, ih]
@[simp] theorem State_checkSite_keeps : ∀ step g sc s, (State.checkSite step g sc s).pending = s.pending ∧ (State.checkSite step g sc s).toAlwaysOnPart = s.toAlwaysOnPart := by
  intro step g sc s
  refine ⟨?_, ?_⟩ <;> (simp only [State.checkSite]; (repeat' split) <;> simp_all)
@[simp] theorem State_writeWindow_keeps : ∀ h step g upset s, (State.writeWindow h step g upset s).pending = s.pending ∧ (State.writeWindow h step g upset s).toAlwaysOnPart = s.toAlwaysOnPart := by
  intro h step g upset s
  simp [State.writeWindow]
@[simp] theorem State_setTrim_keeps : ∀ k v s, (State.setTrim k v s).pending = s.pending ∧ (State.setTrim k v s).toAlwaysOnPart = s.toAlwaysOnPart := fun _ _ _ => ⟨rfl, rfl⟩
@[simp] theorem State_setTCal_keeps : ∀ h t s, (State.setTCal h t s).pending = s.pending ∧ (State.setTCal h t s).toAlwaysOnPart = s.toAlwaysOnPart := fun _ _ _ => ⟨rfl, rfl⟩
@[simp] theorem State_calDue_keeps : ∀ h s, (State.calDue h s).pending = s.pending ∧ (State.calDue h s).toAlwaysOnPart = s.toAlwaysOnPart := by
  intro h s
  simp [State.calDue]
@[simp] theorem State_calTriggers_keeps : ∀ s, (State.calTriggers s).pending = s.pending ∧ (State.calTriggers s).toAlwaysOnPart = s.toAlwaysOnPart := by
  intro s
  simp [State.calTriggers]
@[simp] theorem State_compensate_keeps : ∀ s, (State.compensate s).pending = s.pending ∧ (State.compensate s).toAlwaysOnPart = s.toAlwaysOnPart := by
  intro s
  simp [State.compensate]
@[simp] theorem State_setDrift_keeps : ∀ h d s, (State.setDrift h d s).pending = s.pending ∧ (State.setDrift h d s).toAlwaysOnPart = s.toAlwaysOnPart := fun _ _ _ => ⟨rfl, rfl⟩
@[simp] theorem State_adviseRefresh_keeps : ∀ h s, (State.adviseRefresh h s).pending = s.pending ∧ (State.adviseRefresh h s).toAlwaysOnPart = s.toAlwaysOnPart := by
  intro h s
  simp [State.adviseRefresh]
@[simp] theorem State_updateDrift_keeps (s : State) : s.updateDrift.pending = s.pending ∧ s.updateDrift.toAlwaysOnPart = s.toAlwaysOnPart := by
  unfold State.updateDrift
  generalize List.range 128 = l
  constructor
  · refine foldl_pending _ _ _ fun s a => ?_
    split
    · rfl
    · dsimp only
      simp
  · refine foldl_toAlwaysOnPart _ _ _ fun s a => ?_
    split
    · rfl
    · dsimp only
      simp
@[simp] theorem State_steepDrift_keeps : ∀ h s, (State.steepDrift h s).pending = s.pending ∧ (State.steepDrift h s).toAlwaysOnPart = s.toAlwaysOnPart := fun _ _ => ⟨rfl, rfl⟩
@[simp] theorem State_kindleThese_keeps : ∀ l s, (State.kindleThese l s).pending = s.pending ∧ (State.kindleThese l s).toAlwaysOnPart = s.toAlwaysOnPart := by
  intro l s
  simp [State.kindleThese]
@[simp] theorem State_nextGroup_keeps : ∀ r s, (State.nextGroup r s).pending = s.pending ∧ (State.nextGroup r s).toAlwaysOnPart = s.toAlwaysOnPart := by
  intro r s
  refine ⟨?_, ?_⟩ <;> (simp only [State.nextGroup]; (repeat' split) <;> simp_all)
@[simp] theorem State_calRecord_keeps : ∀ h alarm s, (State.calRecord h alarm s).pending = s.pending ∧ (State.calRecord h alarm s).toAlwaysOnPart = s.toAlwaysOnPart := by
  intro h alarm s
  simp [State.calRecord]
@[simp] theorem State_takeTrim_keeps : ∀ phase f s, (State.takeTrim phase f s).pending = s.pending ∧ (State.takeTrim phase f s).toAlwaysOnPart = s.toAlwaysOnPart := by
  intro phase f s
  refine ⟨?_, ?_⟩ <;> (simp only [State.takeTrim]; (repeat' split) <;> simp_all)
@[simp] theorem State_calDone_keeps : ∀ h s, (State.calDone h s).pending = s.pending ∧ (State.calDone h s).toAlwaysOnPart = s.toAlwaysOnPart := by
  intro h s
  simp [State.calDone]
@[simp] theorem State_endCover_keeps : ∀ s, (State.endCover s).pending = s.pending ∧ (State.endCover s).toAlwaysOnPart = s.toAlwaysOnPart := by
  intro s
  simp [State.endCover]
@[simp] theorem State_settleSteep_keeps : ∀ s, (State.settleSteep s).pending = s.pending ∧ (State.settleSteep s).toAlwaysOnPart = s.toAlwaysOnPart := by
  intro s
  refine ⟨?_, ?_⟩ <;> (simp only [State.settleSteep]; (repeat' split) <;> simp_all)
@[simp] theorem State_applyCalibrate_keeps : ∀ l s, (State.applyCalibrate l s).2.pending = s.pending ∧ (State.applyCalibrate l s).2.toAlwaysOnPart = s.toAlwaysOnPart := by
  intro l s
  simp [State.applyCalibrate]
@[simp] theorem State_applyCalImage_keeps : ∀ img s, (State.applyCalImage img s).2.pending = s.pending ∧ (State.applyCalImage img s).2.toAlwaysOnPart = s.toAlwaysOnPart := by
  intro img s
  simp [State.applyCalImage]
@[simp] theorem State_restoreHearth_keeps : ∀ img h s, (State.restoreHearth img h s).pending = s.pending ∧ (State.restoreHearth img h s).toAlwaysOnPart = s.toAlwaysOnPart := by
  intro img h s
  simp [State.restoreHearth]
@[simp] theorem State_modSteep_keeps : ∀ f s, (State.modSteep f s).pending = s.pending ∧ (State.modSteep f s).toAlwaysOnPart = s.toAlwaysOnPart := fun _ _ => ⟨rfl, rfl⟩
@[simp] theorem State_modArray_keeps : ∀ x0 f s, (State.modArray x0 f s).pending = s.pending ∧ (State.modArray x0 f s).toAlwaysOnPart = s.toAlwaysOnPart := fun _ _ _ => ⟨rfl, rfl⟩
@[simp] theorem State_readOn_keeps : ∀ s, (State.readOn s).pending = s.pending ∧ (State.readOn s).toAlwaysOnPart = s.toAlwaysOnPart := by
  intro s
  refine ⟨?_, ?_⟩ <;> (simp only [State.readOn]; (repeat' split) <;> simp_all)
@[simp] theorem State_steepFails_keeps : ∀ outcome s, (State.steepFails outcome s).pending = s.pending ∧ (State.steepFails outcome s).toAlwaysOnPart = s.toAlwaysOnPart := by
  intro outcome s
  refine ⟨?_, ?_⟩ <;> (simp only [State.steepFails]; (repeat' split) <;> simp_all)
@[simp] theorem State_steepProgress_keeps : ∀ s, (State.steepProgress s).pending = s.pending ∧ (State.steepProgress s).toAlwaysOnPart = s.toAlwaysOnPart := by
  intro s
  refine ⟨?_, ?_⟩ <;> (simp only [State.steepProgress]; (repeat' split) <;> simp_all)
@[simp] theorem State_arrayOutcome_keeps : ∀ x0 outcome s, (State.arrayOutcome x0 outcome s).pending = s.pending ∧ (State.arrayOutcome x0 outcome s).toAlwaysOnPart = s.toAlwaysOnPart := fun _ _ _ => ⟨rfl, rfl⟩
@[simp] theorem State_beginSteep_keeps : ∀ kind port s, (State.beginSteep kind port s).pending = s.pending ∧ (State.beginSteep kind port s).toAlwaysOnPart = s.toAlwaysOnPart := by
  intro kind port s
  simp [State.beginSteep]
@[simp] theorem State_applySteep_keeps : ∀ kind port s, (State.applySteep kind port s).2.pending = s.pending ∧ (State.applySteep kind port s).2.toAlwaysOnPart = s.toAlwaysOnPart := by
  intro kind port s
  refine ⟨?_, ?_⟩ <;> (unfold State.applySteep; dsimp only; (repeat' split) <;> first | rfl | simp [State.beginSteep])
@[simp] theorem State_applyHostSteep_keeps : ∀ rq s, (State.applyHostSteep rq s).2.pending = s.pending ∧ (State.applyHostSteep rq s).2.toAlwaysOnPart = s.toAlwaysOnPart := by
  intro rq s
  simp [State.applyHostSteep]
@[simp] theorem State_takeScatter_keeps : ∀ data s, (State.takeScatter data s).pending = s.pending ∧ (State.takeScatter data s).toAlwaysOnPart = s.toAlwaysOnPart := by
  intro data s
  simp [State.takeScatter]
@[simp] theorem State_heat_keeps : ∀ arrays s, (State.heat arrays s).pending = s.pending ∧ (State.heat arrays s).toAlwaysOnPart = s.toAlwaysOnPart := by
  intro arrays s
  simp [State.heat]
@[simp] theorem State_nameLayers_keeps : ∀ head s, (State.nameLayers head s).pending = s.pending ∧ (State.nameLayers head s).toAlwaysOnPart = s.toAlwaysOnPart := by
  intro head s
  simp [State.nameLayers]
@[simp] theorem State_openLoading_keeps : ∀ s, (State.openLoading s).pending = s.pending ∧ (State.openLoading s).toAlwaysOnPart = s.toAlwaysOnPart := by
  intro s
  refine ⟨?_, ?_⟩ <;> (simp only [State.openLoading]; (repeat' split) <;> simp_all)
@[simp] theorem State_takeKey_keeps : ∀ key s, (State.takeKey key s).pending = s.pending ∧ (State.takeKey key s).toAlwaysOnPart = s.toAlwaysOnPart := by
  intro key s
  refine ⟨?_, ?_⟩ <;> (simp only [State.takeKey]; (repeat' split) <;> simp_all)
@[simp] theorem State_askAgain_keeps : ∀ i j s, (State.askAgain i j s).pending = s.pending ∧ (State.askAgain i j s).toAlwaysOnPart = s.toAlwaysOnPart := by
  intro i j s
  simp [State.askAgain]
@[simp] theorem State_takeChunk_keeps : ∀ i bytes s, (State.takeChunk i bytes s).pending = s.pending ∧ (State.takeChunk i bytes s).toAlwaysOnPart = s.toAlwaysOnPart := by
  intro i bytes s
  refine ⟨?_, ?_⟩ <;> (simp only [State.takeChunk]; (repeat' split) <;> simp_all)
@[simp] theorem State_stagingRoom_keeps : ∀ was s, (State.stagingRoom was s).pending = s.pending ∧ (State.stagingRoom was s).toAlwaysOnPart = s.toAlwaysOnPart := by
  intro was s
  refine ⟨?_, ?_⟩ <;> (simp only [State.stagingRoom]; (repeat' split) <;> simp_all)
@[simp] theorem State_startProgram_keeps : ∀ x s, (State.startProgram x s).pending = s.pending ∧ (State.startProgram x s).toAlwaysOnPart = s.toAlwaysOnPart := by
  intro x s
  simp [State.startProgram]
@[simp] theorem State_writeCells_keeps : ∀ x0 row rec' s, (State.writeCells x0 row rec' s).pending = s.pending ∧ (State.writeCells x0 row rec' s).toAlwaysOnPart = s.toAlwaysOnPart := by
  intro x0 row rec' s
  simp [State.writeCells]
@[simp] theorem State_failColumn_keeps : ∀ x0 col s, (State.failColumn x0 col s).pending = s.pending ∧ (State.failColumn x0 col s).toAlwaysOnPart = s.toAlwaysOnPart := by
  intro x0 col s
  simp [State.failColumn]
@[simp] theorem State_settleDrift_keeps : ∀ h s, (State.settleDrift h s).pending = s.pending ∧ (State.settleDrift h s).toAlwaysOnPart = s.toAlwaysOnPart := by
  intro h s
  refine ⟨?_, ?_⟩ <;> (simp only [State.settleDrift]; (repeat' split) <;> simp_all)
@[simp] theorem State_endArray_keeps : ∀ a s, (State.endArray a s).pending = s.pending ∧ (State.endArray a s).toAlwaysOnPart = s.toAlwaysOnPart := by
  intro a s
  simp [State.endArray]
@[simp] theorem State_afterSpares_keeps : ∀ x0 next s, (State.afterSpares x0 next s).pending = s.pending ∧ (State.afterSpares x0 next s).toAlwaysOnPart = s.toAlwaysOnPart := by
  intro x0 next s
  simp [State.afterSpares]
@[simp] theorem State_runRemaps_keeps : ∀ x0 s, (State.runRemaps x0 s).pending = s.pending ∧ (State.runRemaps x0 s).toAlwaysOnPart = s.toAlwaysOnPart := by
  intro x0 s
  simp [State.runRemaps]
@[simp] theorem State_applyRefresh_keeps : ∀ s, (State.applyRefresh s).2.pending = s.pending ∧ (State.applyRefresh s).2.toAlwaysOnPart = s.toAlwaysOnPart := by
  intro s
  simp [State.applyRefresh]
@[simp] theorem State_refreshRead_keeps : ∀ x rows s, (State.refreshRead x rows s).pending = s.pending ∧ (State.refreshRead x rows s).toAlwaysOnPart = s.toAlwaysOnPart := by
  intro x rows s
  simp [State.refreshRead]
@[simp] theorem State_repairRead_keeps : ∀ x0 rows s, (State.repairRead x0 rows s).pending = s.pending ∧ (State.repairRead x0 rows s).toAlwaysOnPart = s.toAlwaysOnPart := by
  intro x0 rows s
  simp [State.repairRead]
@[simp] theorem State_cutRequest_keeps : ∀ n s, (State.cutRequest n s).pending = s.pending ∧ (State.cutRequest n s).toAlwaysOnPart = s.toAlwaysOnPart := by
  intro n s
  refine ⟨?_, ?_⟩ <;> (simp only [State.cutRequest]; (repeat' split) <;> simp_all)
@[simp] theorem State_cutQueue_keeps : ∀ k state s, (State.cutQueue k state s).2.pending = s.pending ∧ (State.cutQueue k state s).2.toAlwaysOnPart = s.toAlwaysOnPart := by
  intro k state s
  simp [State.cutQueue]
@[simp] theorem State_lostRead_keeps : ∀ c s, (State.lostRead c s).pending = s.pending ∧ (State.lostRead c s).toAlwaysOnPart = s.toAlwaysOnPart := by
  intro c s
  simp [State.lostRead]
@[simp] theorem State_resetPort_keeps (p : Nat) (s : State) : (s.resetPort p).pending = s.pending ∧ (s.resetPort p).toAlwaysOnPart = s.toAlwaysOnPart := by
  constructor
  · unfold State.resetPort
    extract_lets s1 s2 gone s3
    have h1 : s1.pending = s.pending := by simp [s1]
    have h2 : s2.pending = s1.pending := by simp only [s2]; (repeat' split) <;> simp
    refine (foldl_pending _ _ _ fun s r => ?_).trans (h2.trans h1)
    split <;> simp
  · unfold State.resetPort
    extract_lets s1 s2 gone s3
    have h1 : s1.toAlwaysOnPart = s.toAlwaysOnPart := by simp [s1]
    have h2 : s2.toAlwaysOnPart = s1.toAlwaysOnPart := by simp only [s2]; (repeat' split) <;> simp
    refine (foldl_toAlwaysOnPart _ _ _ fun s r => ?_).trans (h2.trans h1)
    split <;> simp
@[simp] theorem State_linkDown_keeps : ∀ p s, (State.linkDown p s).pending = s.pending ∧ (State.linkDown p s).toAlwaysOnPart = s.toAlwaysOnPart := fun _ _ => ⟨rfl, rfl⟩
@[simp] theorem State_linkTooSlow_keeps : ∀ p s, (State.linkTooSlow p s).pending = s.pending ∧ (State.linkTooSlow p s).toAlwaysOnPart = s.toAlwaysOnPart := by
  intro p s
  simp [State.linkTooSlow]
@[simp] theorem State_applyQpEnable_keeps : ∀ rq s, (State.applyQpEnable rq s).2.pending = s.pending ∧ (State.applyQpEnable rq s).2.toAlwaysOnPart = s.toAlwaysOnPart := by
  intro rq s
  refine ⟨?_, ?_⟩ <;> (simp only [State.applyQpEnable]; (repeat' split) <;> simp_all)
@[simp] theorem State_applyQpDisable_keeps : ∀ rq s, (State.applyQpDisable rq s).2.pending = s.pending ∧ (State.applyQpDisable rq s).2.toAlwaysOnPart = s.toAlwaysOnPart := by
  intro rq s
  refine ⟨?_, ?_⟩ <;> (simp only [State.applyQpDisable]; (repeat' split) <;> simp_all)
@[simp] theorem State_qpError_keeps : ∀ k s, (State.qpError k s).pending = s.pending ∧ (State.qpError k s).toAlwaysOnPart = s.toAlwaysOnPart := by
  intro k s
  simp [State.qpError]
@[simp] theorem State_aborted_keeps : ∀ p read s, (State.aborted p read s).pending = s.pending ∧ (State.aborted p read s).toAlwaysOnPart = s.toAlwaysOnPart := by
  intro p read s
  simp [State.aborted]
@[simp] theorem State_setOwner_keeps : ∀ v s, (State.setOwner v s).pending = s.pending ∧ (State.setOwner v s).toAlwaysOnPart = s.toAlwaysOnPart := by
  intro v s
  simp [State.setOwner]
@[simp] theorem State_applyClaim_keeps : ∀ rq s, (State.applyClaim rq s).2.pending = s.pending ∧ (State.applyClaim rq s).2.toAlwaysOnPart = s.toAlwaysOnPart := by
  intro rq s
  simp [State.applyClaim]
@[simp] theorem State_applyRelease_keeps : ∀ rq s, (State.applyRelease rq s).2.pending = s.pending ∧ (State.applyRelease rq s).2.toAlwaysOnPart = s.toAlwaysOnPart := by
  intro rq s
  simp [State.applyRelease]
@[simp] theorem State_applyTakeOver_keeps : ∀ v s, (State.applyTakeOver v s).2.pending = s.pending ∧ (State.applyTakeOver v s).2.toAlwaysOnPart = s.toAlwaysOnPart := by
  intro v s
  simp [State.applyTakeOver]
@[simp] theorem State_takeList_keeps : ∀ n good f s, (State.takeList n good f s).pending = s.pending ∧ (State.takeList n good f s).toAlwaysOnPart = s.toAlwaysOnPart := by
  intro n good f s
  refine ⟨?_, ?_⟩ <;> (simp only [State.takeList]; (repeat' split) <;> simp_all)
@[simp] theorem State_takeRead_keeps : ∀ r b s, (State.takeRead r b s).pending = s.pending ∧ (State.takeRead r b s).toAlwaysOnPart = s.toAlwaysOnPart := by
  intro r b s
  refine ⟨?_, ?_⟩ <;> (simp only [State.takeRead]; (repeat' split) <;> simp_all)
@[simp] theorem State_readFailed_keeps : ∀ r s, (State.readFailed r s).pending = s.pending ∧ (State.readFailed r s).toAlwaysOnPart = s.toAlwaysOnPart := by
  intro r s
  refine ⟨?_, ?_⟩ <;> (simp only [State.readFailed]; (repeat' split) <;> simp_all)
@[simp] theorem State_endOwnerSessions_keeps : ∀ sub s, (State.endOwnerSessions sub s).pending = s.pending ∧ (State.endOwnerSessions sub s).toAlwaysOnPart = s.toAlwaysOnPart := by
  intro sub s
  simp [State.endOwnerSessions]
@[simp] theorem State_takeStmt_keeps : ∀ idx sub b s, (State.takeStmt idx sub b s).pending = s.pending ∧ (State.takeStmt idx sub b s).toAlwaysOnPart = s.toAlwaysOnPart := by
  intro idx sub b s
  simp [State.takeStmt]
@[simp] theorem State_applyStmt_keeps : ∀ idx sub b s, (State.applyStmt idx sub b s).2.pending = s.pending ∧ (State.applyStmt idx sub b s).2.toAlwaysOnPart = s.toAlwaysOnPart := by
  intro idx sub b s
  simp [State.applyStmt]
@[simp] theorem State_setSlotState_keeps : ∀ n v s, (State.setSlotState n v s).pending = s.pending ∧ (State.setSlotState n v s).toAlwaysOnPart = s.toAlwaysOnPart := fun _ _ _ => ⟨rfl, rfl⟩
@[simp] theorem State_applyInstall_keeps : ∀ s, (State.applyInstall s).2.pending = s.pending ∧ (State.applyInstall s).2.toAlwaysOnPart = s.toAlwaysOnPart := by
  intro s
  simp [State.applyInstall]
@[simp] theorem State_setConn_keeps : ∀ c x s, (State.setConn c x s).pending = s.pending ∧ (State.setConn c x s).toAlwaysOnPart = s.toAlwaysOnPart := fun _ _ _ => ⟨rfl, rfl⟩
@[simp] theorem State_spdmOut_keeps : ∀ c code body s, (State.spdmOut c code body s).pending = s.pending ∧ (State.spdmOut c code body s).toAlwaysOnPart = s.toAlwaysOnPart := fun _ _ _ _ => ⟨rfl, rfl⟩
@[simp] theorem State_spdmFails_keeps : ∀ c why s, (State.spdmFails c why s).pending = s.pending ∧ (State.spdmFails c why s).toAlwaysOnPart = s.toAlwaysOnPart := fun _ _ _ => ⟨rfl, rfl⟩
@[simp] theorem State_spdmAt_keeps (c : BitVec 2) (n : Nat) (f : State → State) (s : State)
    (h : ∀ s, (f s).pending = s.pending ∧ (f s).toAlwaysOnPart = s.toAlwaysOnPart) : (s.spdmAt c n f).pending = s.pending ∧ (s.spdmAt c n f).toAlwaysOnPart = s.toAlwaysOnPart := by
  refine ⟨?_, ?_⟩ <;> (simp only [State.spdmAt]; (repeat' split) <;> simp [h])
@[simp] theorem State_spdmInside_keeps (c : BitVec 2) (f : State → State) (s : State)
    (h : ∀ s, (f s).pending = s.pending ∧ (f s).toAlwaysOnPart = s.toAlwaysOnPart) : (s.spdmInside c f).pending = s.pending ∧ (s.spdmInside c f).toAlwaysOnPart = s.toAlwaysOnPart := by
  unfold State.spdmInside
  refine State_spdmAt_keeps _ _ _ _ fun s => ?_
  split
  · exact h s
  · simp
@[simp] theorem State_brokenHearth_keeps : ∀ n s, (State.brokenHearth n s).pending = s.pending ∧ (State.brokenHearth n s).toAlwaysOnPart = s.toAlwaysOnPart := by
  intro n s
  simp [State.brokenHearth]
@[simp] theorem State_markBroken_keeps : ∀ n s, (State.markBroken n s).pending = s.pending ∧ (State.markBroken n s).toAlwaysOnPart = s.toAlwaysOnPart := by
  intro n s
  simp [State.markBroken]
@[simp] theorem State_brokenValues_keeps : ∀ s, (State.brokenValues s).pending = s.pending ∧ (State.brokenValues s).toAlwaysOnPart = s.toAlwaysOnPart := by
  intro s
  simp [State.brokenValues]
@[simp] theorem State_thermalStop_keeps : ∀ n s, (State.thermalStop n s).pending = s.pending ∧ (State.thermalStop n s).toAlwaysOnPart = s.toAlwaysOnPart := by
  intro n s
  simp [State.thermalStop]
@[simp] theorem State_critical_keeps : ∀ n s, (State.critical n s).pending = s.pending ∧ (State.critical n s).toAlwaysOnPart = s.toAlwaysOnPart := by
  intro n s
  simp [State.critical]
@[simp] theorem State_takeReading_keeps : ∀ n t ovr s, (State.takeReading n t ovr s).pending = s.pending ∧ (State.takeReading n t ovr s).toAlwaysOnPart = s.toAlwaysOnPart := by
  intro n t ovr s
  simp [State.takeReading]
@[simp] theorem State_settleRound_keeps : ∀ s, (State.settleRound s).pending = s.pending ∧ (State.settleRound s).toAlwaysOnPart = s.toAlwaysOnPart := by
  intro s
  simp [State.settleRound]
@[simp] theorem State_inject_keeps : ∀ kind s, (State.inject kind s).pending = s.pending ∧ (State.inject kind s).toAlwaysOnPart = s.toAlwaysOnPart := by
  intro kind s
  simp [State.inject]
@[simp] theorem State_bufferRecord_keeps : ∀ conv kind chan word s, (State.bufferRecord conv kind chan word s).pending = s.pending ∧ (State.bufferRecord conv kind chan word s).toAlwaysOnPart = s.toAlwaysOnPart := by
  intro conv kind chan word s
  simp [State.bufferRecord]
@[simp] theorem State_storeResult_keeps : ∀ conv kind chan code ovr s, (State.storeResult conv kind chan code ovr s).pending = s.pending ∧ (State.storeResult conv kind chan code ovr s).toAlwaysOnPart = s.toAlwaysOnPart := by
  intro conv kind chan code ovr s
  simp [State.storeResult]
@[simp] theorem State_takePower_keeps : ∀ s, (State.takePower s).pending = s.pending ∧ (State.takePower s).toAlwaysOnPart = s.toAlwaysOnPart := fun _ => ⟨rfl, rfl⟩
@[simp] theorem State_withdraw_keeps : ∀ s, (State.withdraw s).pending = s.pending ∧ (State.withdraw s).toAlwaysOnPart = s.toAlwaysOnPart := by
  intro s
  simp [State.withdraw]
@[simp] theorem State_slowDownRequest_keeps : ∀ s, (State.slowDownRequest s).pending = s.pending ∧ (State.slowDownRequest s).toAlwaysOnPart = s.toAlwaysOnPart := by
  intro s
  simp [State.slowDownRequest]
@[simp] theorem State_testUp_keeps : ∀ s, (State.testUp s).pending = s.pending ∧ (State.testUp s).toAlwaysOnPart = s.toAlwaysOnPart := by
  intro s
  simp [State.testUp]
@[simp] theorem State_endRound_keeps : ∀ s, (State.endRound s).pending = s.pending ∧ (State.endRound s).toAlwaysOnPart = s.toAlwaysOnPart := by
  intro s
  simp [State.endRound]
@[simp] theorem State_checkTree_keeps : ∀ f r s, (State.checkTree f r s).2.2.pending = s.pending ∧ (State.checkTree f r s).2.2.toAlwaysOnPart = s.toAlwaysOnPart := by
  intro f r s
  refine ⟨?_, ?_⟩ <;> (simp only [State.checkTree]; (repeat' split) <;> simp_all)
@[simp] theorem State_sendHead_keeps : ∀ f r t s, (State.sendHead f r t s).pending = s.pending ∧ (State.sendHead f r t s).toAlwaysOnPart = s.toAlwaysOnPart := by
  intro f r t s
  unfold State.sendHead
  constructor <;> (dsimp only; (repeat' split) <;> simp)
@[simp] theorem State_launchFlight_keeps : ∀ f r tick s, (State.launchFlight f r tick s).pending = s.pending ∧ (State.launchFlight f r tick s).toAlwaysOnPart = s.toAlwaysOnPart := by
  intro f r tick s
  refine ⟨?_, ?_⟩ <;> (simp only [State.launchFlight]; (repeat' split) <;> simp_all)
@[simp] theorem State_tellStages_keeps : ∀ n s, (State.tellStages n s).pending = s.pending ∧ (State.tellStages n s).toAlwaysOnPart = s.toAlwaysOnPart := by
  intro n s
  refine ⟨?_, ?_⟩ <;> (simp only [State.tellStages]; (repeat' split) <;> simp_all)
@[simp] theorem State_headLaunch_keeps (a b n : Nat) (s : State) : (s.headLaunch a b n).pending = s.pending ∧ (s.headLaunch a b n).toAlwaysOnPart = s.toAlwaysOnPart := by
  induction n generalizing s with
  | zero => simp [State.headLaunch]
  | succ n ih =>
    refine ⟨?_, ?_⟩ <;> (simp only [State.headLaunch]; (repeat' split) <;> simp [ih])
@[simp] theorem State_admitEdge_keeps : ∀ tick time s, (State.admitEdge tick time s).pending = s.pending ∧ (State.admitEdge tick time s).toAlwaysOnPart = s.toAlwaysOnPart := by
  intro tick time s
  refine ⟨?_, ?_⟩ <;> (simp only [State.admitEdge]; (repeat' split) <;> simp_all)
@[simp] theorem State_atEdge_keeps : ∀ tick s, (State.atEdge tick s).pending = s.pending ∧ (State.atEdge tick s).toAlwaysOnPart = s.toAlwaysOnPart := by
  intro tick s
  simp [State.atEdge]
@[simp] theorem State_goodEdge_keeps : ∀ s, (State.goodEdge s).pending = s.pending ∧ (State.goodEdge s).toAlwaysOnPart = s.toAlwaysOnPart := by
  intro s
  simp [State.goodEdge]
@[simp] theorem State_offGrid_keeps : ∀ s, (State.offGrid s).pending = s.pending ∧ (State.offGrid s).toAlwaysOnPart = s.toAlwaysOnPart := by
  intro s
  simp [State.offGrid]
@[simp] theorem State_fenceSoon_keeps : ∀ path s, (State.fenceSoon path s).pending = s.pending ∧ (State.fenceSoon path s).toAlwaysOnPart = s.toAlwaysOnPart := by
  intro path s
  simp [State.fenceSoon]
@[simp] theorem State_setTestState_keeps : ∀ h v s, (State.setTestState h v s).pending = s.pending ∧ (State.setTestState h v s).toAlwaysOnPart = s.toAlwaysOnPart := fun _ _ _ => ⟨rfl, rfl⟩
@[simp] theorem State_startTest_keeps : ∀ h kind s, (State.startTest h kind s).pending = s.pending ∧ (State.startTest h kind s).toAlwaysOnPart = s.toAlwaysOnPart := by
  intro h kind s
  simp [State.startTest]
@[simp] theorem State_startDeeps_keeps : ∀ s, (State.startDeeps s).pending = s.pending ∧ (State.startDeeps s).toAlwaysOnPart = s.toAlwaysOnPart := by
  intro s
  simp [State.startDeeps]
@[simp] theorem State_wantDeep_keeps : ∀ l s, (State.wantDeep l s).pending = s.pending ∧ (State.wantDeep l s).toAlwaysOnPart = s.toAlwaysOnPart := by
  intro l s
  simp [State.wantDeep]
@[simp] theorem State_applyDeepTest_keeps : ∀ l s, (State.applyDeepTest l s).2.pending = s.pending ∧ (State.applyDeepTest l s).2.toAlwaysOnPart = s.toAlwaysOnPart := by
  intro l s
  simp [State.applyDeepTest]
@[simp] theorem State_testAlarm_keeps : ∀ path phase element step s, (State.testAlarm path phase element step s).pending = s.pending ∧ (State.testAlarm path phase element step s).toAlwaysOnPart = s.toAlwaysOnPart := by
  intro path phase element step s
  simp [State.testAlarm]
@[simp] theorem State_fenceArray_keeps : ∀ x0 s, (State.fenceArray x0 s).pending = s.pending ∧ (State.fenceArray x0 s).toAlwaysOnPart = s.toAlwaysOnPart := by
  intro x0 s
  simp [State.fenceArray]
@[simp] theorem State_takeFinding_keeps : ∀ h s x2, (State.takeFinding h s x2).pending = s.pending ∧ (State.takeFinding h s x2).toAlwaysOnPart = s.toAlwaysOnPart := by
  intro h s x2
  refine ⟨?_, ?_⟩ <;> (simp only [State.takeFinding]; (repeat' split) <;> simp_all)
@[simp] theorem State_haveCtx_keeps : ∀ c tenant kvGen s, (State.haveCtx c tenant kvGen s).pending = s.pending ∧ (State.haveCtx c tenant kvGen s).toAlwaysOnPart = s.toAlwaysOnPart := by
  intro c tenant kvGen s
  simp [State.haveCtx]
@[simp] theorem State_mirrorSlots_keeps : ∀ die h entries s, (State.mirrorSlots die h entries s).pending = s.pending ∧ (State.mirrorSlots die h entries s).toAlwaysOnPart = s.toAlwaysOnPart := by
  intro die h entries s
  refine ⟨?_, ?_⟩ <;> (simp only [State.mirrorSlots]; (repeat' split) <;> simp_all)
@[simp] theorem State_editList_keeps : ∀ c e s, (State.editList c e s).pending = s.pending ∧ (State.editList c e s).toAlwaysOnPart = s.toAlwaysOnPart := by
  intro c e s
  refine ⟨?_, ?_⟩ <;> (simp only [State.editList]; (repeat' split) <;> simp_all)
@[simp] theorem State_editCtx_keeps : ∀ c e s, (State.editCtx c e s).pending = s.pending ∧ (State.editCtx c e s).toAlwaysOnPart = s.toAlwaysOnPart := by
  intro c e s
  simp [State.editCtx]
@[simp] theorem State_noCopy_keeps : ∀ c t tenant kvGen s, (State.noCopy c t tenant kvGen s).pending = s.pending ∧ (State.noCopy c t tenant kvGen s).toAlwaysOnPart = s.toAlwaysOnPart := by
  intro c t tenant kvGen s
  refine ⟨?_, ?_⟩ <;> (simp only [State.noCopy]; (repeat' split) <;> simp_all)
@[simp] theorem State_mirrorRequest_keeps : ∀ r s, (State.mirrorRequest r s).pending = s.pending ∧ (State.mirrorRequest r s).toAlwaysOnPart = s.toAlwaysOnPart := by
  intro r s
  simp [State.mirrorRequest]
@[simp] theorem State_clearCopy_keeps : ∀ c s, (State.clearCopy c s).pending = s.pending ∧ (State.clearCopy c s).toAlwaysOnPart = s.toAlwaysOnPart := by
  intro c s
  refine ⟨?_, ?_⟩ <;> (simp only [State.clearCopy]; (repeat' split) <;> simp_all)
@[simp] theorem State_roleAlarm_keeps : ∀ action s, (State.roleAlarm action s).pending = s.pending ∧ (State.roleAlarm action s).toAlwaysOnPart = s.toAlwaysOnPart := by
  intro action s
  simp [State.roleAlarm]
@[simp] theorem State_setSpares_keeps : ∀ l s, (State.setSpares l s).pending = s.pending ∧ (State.setSpares l s).toAlwaysOnPart = s.toAlwaysOnPart := by
  intro l s
  simp [State.setSpares]
@[simp] theorem State_assignSpare_keeps : ∀ entry pos replace s, (State.assignSpare entry pos replace s).pending = s.pending ∧ (State.assignSpare entry pos replace s).toAlwaysOnPart = s.toAlwaysOnPart := by
  intro entry pos replace s
  refine ⟨?_, ?_⟩ <;> (simp only [State.assignSpare]; (repeat' split) <;> simp_all)
@[simp] theorem State_recover_keeps : ∀ s, (State.recover s).pending = s.pending ∧ (State.recover s).toAlwaysOnPart = s.toAlwaysOnPart := by
  intro s
  refine ⟨?_, ?_⟩ <;> (simp only [State.recover]; (repeat' split) <;> simp_all)
@[simp] theorem State_adoptRequest_keeps : ∀ r s, (State.adoptRequest r s).pending = s.pending ∧ (State.adoptRequest r s).toAlwaysOnPart = s.toAlwaysOnPart := by
  intro r s
  simp [State.adoptRequest]
@[simp] theorem State_becomeAdmitting_keeps : ∀ s, (State.becomeAdmitting s).pending = s.pending ∧ (State.becomeAdmitting s).toAlwaysOnPart = s.toAlwaysOnPart := by
  intro s
  simp [State.becomeAdmitting]
@[simp] theorem State_setAdmitting_keeps : ∀ ep s, (State.setAdmitting ep s).pending = s.pending ∧ (State.setAdmitting ep s).toAlwaysOnPart = s.toAlwaysOnPart := by
  intro ep s
  simp [State.setAdmitting]
@[simp] theorem State_positionFails_keeps (a b : Nat) (s : State) : (s.positionFails a b).pending = s.pending ∧ (s.positionFails a b).toAlwaysOnPart = s.toAlwaysOnPart := by
  refine ⟨?_, ?_⟩ <;> (simp only [State.positionFails]; (repeat' split) <;> simp)
@[simp] theorem State_voidReport_keeps : ∀ ep s, (State.voidReport ep s).pending = s.pending ∧ (State.voidReport ep s).toAlwaysOnPart = s.toAlwaysOnPart := by
  intro ep s
  refine ⟨?_, ?_⟩ <;> (simp only [State.voidReport]; (repeat' split) <;> simp_all)
@[simp] theorem State_spareFails_keeps : ∀ ep s, (State.spareFails ep s).pending = s.pending ∧ (State.spareFails ep s).toAlwaysOnPart = s.toAlwaysOnPart := by
  intro ep s
  refine ⟨?_, ?_⟩ <;> (simp only [State.spareFails]; (repeat' split) <;> simp_all)
@[simp] theorem State_endGeneration_keeps : ∀ g s, (State.endGeneration g s).pending = s.pending ∧ (State.endGeneration g s).toAlwaysOnPart = s.toAlwaysOnPart := by
  intro g s
  simp [State.endGeneration]
@[simp] theorem State_declareFailed_keeps : ∀ ep seq s, (State.declareFailed ep seq s).pending = s.pending ∧ (State.declareFailed ep seq s).toAlwaysOnPart = s.toAlwaysOnPart := by
  intro ep seq s
  simp [State.declareFailed]
@[simp] theorem State_doubt_keeps : ∀ i s, (State.doubt i s).pending = s.pending ∧ (State.doubt i s).toAlwaysOnPart = s.toAlwaysOnPart := by
  intro i s
  refine ⟨?_, ?_⟩ <;> (simp only [State.doubt]; (repeat' split) <;> simp_all)
@[simp] theorem State_drainPart_keeps : ∀ ep s, (State.drainPart ep s).pending = s.pending ∧ (State.drainPart ep s).toAlwaysOnPart = s.toAlwaysOnPart := by
  intro ep s
  refine ⟨?_, ?_⟩ <;> (simp only [State.drainPart]; (repeat' split) <;> simp_all)
@[simp] theorem State_loseCover_keeps : ∀ ep s, (State.loseCover ep s).pending = s.pending ∧ (State.loseCover ep s).toAlwaysOnPart = s.toAlwaysOnPart := by
  intro ep s
  simp [State.loseCover]
@[simp] theorem State_noteJoin_keeps : ∀ ep copied s, (State.noteJoin ep copied s).pending = s.pending ∧ (State.noteJoin ep copied s).toAlwaysOnPart = s.toAlwaysOnPart := by
  intro ep copied s
  refine ⟨?_, ?_⟩ <;> (simp only [State.noteJoin]; (repeat' split) <;> simp_all)
@[simp] theorem State_passJoin_keeps : ∀ i ep seq s, (State.passJoin i ep seq s).pending = s.pending ∧ (State.passJoin i ep seq s).toAlwaysOnPart = s.toAlwaysOnPart := by
  intro i ep seq s
  refine ⟨?_, ?_⟩ <;> (simp only [State.passJoin]; (repeat' split) <;> simp_all)
@[simp] theorem State_orderTest_keeps : ∀ ep s, (State.orderTest ep s).pending = s.pending ∧ (State.orderTest ep s).toAlwaysOnPart = s.toAlwaysOnPart := by
  intro ep s
  simp [State.orderTest]
@[simp] theorem State_serveAlone_keeps : ∀ i service s, (State.serveAlone i service s).pending = s.pending ∧ (State.serveAlone i service s).toAlwaysOnPart = s.toAlwaysOnPart := by
  intro i service s
  simp [State.serveAlone]
@[simp] theorem State_soloPair_keeps : ∀ i e s, (State.soloPair i e s).pending = s.pending ∧ (State.soloPair i e s).toAlwaysOnPart = s.toAlwaysOnPart := by
  intro i e s
  refine ⟨?_, ?_⟩ <;> (simp only [State.soloPair]; (repeat' split) <;> simp_all)
@[simp] theorem State_applyDrain_keeps : ∀ s, (State.applyDrain s).2.pending = s.pending ∧ (State.applyDrain s).2.toAlwaysOnPart = s.toAlwaysOnPart := by
  intro s
  refine ⟨?_, ?_⟩ <;> (simp only [State.applyDrain]; (repeat' split) <;> simp_all)
@[simp] theorem State_applyRejoin_keeps : ∀ s, (State.applyRejoin s).2.pending = s.pending ∧ (State.applyRejoin s).2.toAlwaysOnPart = s.toAlwaysOnPart := by
  intro s
  simp [State.applyRejoin]
@[simp] theorem State_applyRelease3_keeps : ∀ s, (State.applyRelease3 s).2.pending = s.pending ∧ (State.applyRelease3 s).2.toAlwaysOnPart = s.toAlwaysOnPart := by
  intro s
  simp [State.applyRelease3]
@[simp] theorem State_applyReplace_keeps : ∀ s, (State.applyReplace s).2.pending = s.pending ∧ (State.applyReplace s).2.toAlwaysOnPart = s.toAlwaysOnPart := by
  intro s
  refine ⟨?_, ?_⟩ <;> (simp only [State.applyReplace]; (repeat' split) <;> simp_all)
@[simp] theorem State_islandRecord_keeps : ∀ event s, (State.islandRecord event s).pending = s.pending ∧ (State.islandRecord event s).toAlwaysOnPart = s.toAlwaysOnPart := by
  intro event s
  simp [State.islandRecord]
@[simp] theorem State_loseIsland_keeps : ∀ s, (State.loseIsland s).pending = s.pending ∧ (State.loseIsland s).toAlwaysOnPart = s.toAlwaysOnPart := by
  intro s
  simp [State.loseIsland]
@[simp] theorem State_railAlarm_keeps : ∀ n s, (State.railAlarm n s).pending = s.pending ∧ (State.railAlarm n s).toAlwaysOnPart = s.toAlwaysOnPart := by
  intro n s
  simp [State.railAlarm]
@[simp] theorem State_applyOrderlyOff_keeps : ∀ s, (State.applyOrderlyOff s).2.pending = s.pending ∧ (State.applyOrderlyOff s).2.toAlwaysOnPart = s.toAlwaysOnPart := by
  intro s
  simp [State.applyOrderlyOff]
@[simp] theorem State_applyMainReset_keeps : ∀ s, (State.applyMainReset s).2.pending = s.pending ∧ (State.applyMainReset s).2.toAlwaysOnPart = s.toAlwaysOnPart := by
  intro s
  simp [State.applyMainReset]
@[simp] theorem State_showLoad_keeps : ∀ result hearth word s, (State.showLoad result hearth word s).pending = s.pending ∧ (State.showLoad result hearth word s).toAlwaysOnPart = s.toAlwaysOnPart := fun _ _ _ _ => ⟨rfl, rfl⟩
@[simp] theorem State_loadProgram_keeps : ∀ img s, (State.loadProgram img s).pending = s.pending ∧ (State.loadProgram img s).toAlwaysOnPart = s.toAlwaysOnPart := by
  intro img s
  simp [State.loadProgram]
@[simp] theorem State_applyProgram_keeps : ∀ img s, (State.applyProgram img s).2.pending = s.pending ∧ (State.applyProgram img s).2.toAlwaysOnPart = s.toAlwaysOnPart := by
  intro img s
  refine ⟨?_, ?_⟩ <;> (simp only [State.applyProgram]; (repeat' split) <;> simp_all)
@[simp] theorem State_applyUnload_keeps : ∀ s, (State.applyUnload s).2.pending = s.pending ∧ (State.applyUnload s).2.toAlwaysOnPart = s.toAlwaysOnPart := by
  intro s
  simp [State.applyUnload]
@[simp] theorem State_plainWrite_keeps : ∀ rq idx sub data s, (State.plainWrite rq idx sub data s).2.pending = s.pending ∧ (State.plainWrite rq idx sub data s).2.toAlwaysOnPart = s.toAlwaysOnPart := by
  intro rq idx sub data s
  simp [State.plainWrite]
@[simp] theorem State_hostWriteObj_keeps : ∀ rq idx sub data s, (State.hostWriteObj rq idx sub data s).2.pending = s.pending ∧ (State.hostWriteObj rq idx sub data s).2.toAlwaysOnPart = s.toAlwaysOnPart := by
  intro rq idx sub data s
  refine ⟨?_, ?_⟩ <;> (simp only [State.hostWriteObj]; (repeat' split) <;> simp_all)
@[simp] theorem State_clockWriteObj_keeps : ∀ rq idx sub data s, (State.clockWriteObj rq idx sub data s).2.pending = s.pending ∧ (State.clockWriteObj rq idx sub data s).2.toAlwaysOnPart = s.toAlwaysOnPart := by
  intro rq idx sub data s
  simp [State.clockWriteObj]
@[simp] theorem State_hearthWriteObj_keeps : ∀ rq idx sub data s, (State.hearthWriteObj rq idx sub data s).2.pending = s.pending ∧ (State.hearthWriteObj rq idx sub data s).2.toAlwaysOnPart = s.toAlwaysOnPart := by
  intro rq idx sub data s
  simp [State.hearthWriteObj]
@[simp] theorem State_fabricWriteObj_keeps : ∀ rq idx sub data s, (State.fabricWriteObj rq idx sub data s).2.pending = s.pending ∧ (State.fabricWriteObj rq idx sub data s).2.toAlwaysOnPart = s.toAlwaysOnPart := by
  intro rq idx sub data s
  simp [State.fabricWriteObj]
@[simp] theorem State_servingWriteObj_keeps : ∀ rq idx sub data s, (State.servingWriteObj rq idx sub data s).2.pending = s.pending ∧ (State.servingWriteObj rq idx sub data s).2.toAlwaysOnPart = s.toAlwaysOnPart := by
  intro rq idx sub data s
  simp [State.servingWriteObj]
@[simp] theorem State_ringWriteObj_keeps : ∀ rq sub data s, (State.ringWriteObj rq sub data s).2.pending = s.pending ∧ (State.ringWriteObj rq sub data s).2.toAlwaysOnPart = s.toAlwaysOnPart := by
  intro rq sub data s
  simp [State.ringWriteObj]
@[simp] theorem State_applyWrite_keeps : ∀ rq idx sub data s, (State.applyWrite rq idx sub data s).2.pending = s.pending ∧ (State.applyWrite rq idx sub data s).2.toAlwaysOnPart = s.toAlwaysOnPart := by
  intro rq idx sub data s
  simp [State.applyWrite]
@[simp] theorem State_unlisted_keeps : ∀ s, (State.unlisted s).2.pending = s.pending ∧ (State.unlisted s).2.toAlwaysOnPart = s.toAlwaysOnPart := fun _ => ⟨rfl, rfl⟩
@[simp] theorem State_dieCommand_keeps : ∀ idx v s, (State.dieCommand idx v s).2.pending = s.pending ∧ (State.dieCommand idx v s).2.toAlwaysOnPart = s.toAlwaysOnPart := by
  intro idx v s
  simp [State.dieCommand]
@[simp] theorem State_servingCommand_keeps : ∀ rq idx data s, (State.servingCommand rq idx data s).2.pending = s.pending ∧ (State.servingCommand rq idx data s).2.toAlwaysOnPart = s.toAlwaysOnPart := by
  intro rq idx data s
  simp [State.servingCommand]
@[simp] theorem State_performRead_keeps : ∀ q s, (State.performRead q s).2.pending = s.pending ∧ (State.performRead q s).2.toAlwaysOnPart = s.toAlwaysOnPart := by
  intro q s
  simp [State.performRead]
@[simp] theorem State_showMailbox_keeps : ∀ p m x2 s, (State.showMailbox p m x2 s).pending = s.pending ∧ (State.showMailbox p m x2 s).toAlwaysOnPart = s.toAlwaysOnPart := by
  intro p m x2 s
  simp [State.showMailbox]
@[simp] theorem State_reachFetch_keeps : ∀ h eng s, (State.reachFetch h eng s).pending = s.pending ∧ (State.reachFetch h eng s).toAlwaysOnPart = s.toAlwaysOnPart := by
  intro h eng s
  refine ⟨?_, ?_⟩ <;> (simp only [State.reachFetch]; (repeat' split) <;> simp_all)
@[simp] theorem State_readStackRows_keeps : ∀ h t d s, (State.readStackRows h t d s).pending = s.pending ∧ (State.readStackRows h t d s).toAlwaysOnPart = s.toAlwaysOnPart := by
  intro h t d s
  simp [State.readStackRows]
@[simp] theorem State_startDma_keeps : ∀ kind h eng parity s, (State.startDma kind h eng parity s).pending = s.pending ∧ (State.startDma kind h eng parity s).toAlwaysOnPart = s.toAlwaysOnPart := by
  intro kind h eng parity s
  refine ⟨?_, ?_⟩ <;> (simp only [State.startDma]; (repeat' split) <;> simp_all)
@[simp] theorem State_arrived_keeps : ∀ toMain urgent s, (State.arrived toMain urgent s).pending = s.pending ∧ (State.arrived toMain urgent s).toAlwaysOnPart = s.toAlwaysOnPart := by
  intro toMain urgent s
  refine ⟨?_, ?_⟩ <;> (simp only [State.arrived]; (repeat' split) <;> simp_all)
@[simp] theorem State_toDefault_keeps : ∀ inst idx sub s, (State.toDefault inst idx sub s).pending = s.pending ∧ (State.toDefault inst idx sub s).toAlwaysOnPart = s.toAlwaysOnPart := fun _ _ _ _ => ⟨rfl, rfl⟩
@[simp] theorem State_applyStored_keeps : ∀ e s, (State.applyStored e s).pending = s.pending ∧ (State.applyStored e s).toAlwaysOnPart = s.toAlwaysOnPart := by
  intro e s
  refine ⟨?_, ?_⟩ <;> (simp only [State.applyStored]; (repeat' split) <;> simp_all)
@[simp] theorem State_sendJournal_keeps : ∀ s, (State.sendJournal s).pending = s.pending ∧ (State.sendJournal s).toAlwaysOnPart = s.toAlwaysOnPart := by
  intro s
  simp [State.sendJournal]
@[simp] theorem State_showStored_keeps : ∀ s, (State.showStored s).pending = s.pending ∧ (State.showStored s).toAlwaysOnPart = s.toAlwaysOnPart := fun _ => ⟨rfl, rfl⟩
@[simp] theorem State_trainPorts_keeps : ∀ s, (State.trainPorts s).pending = s.pending ∧ (State.trainPorts s).toAlwaysOnPart = s.toAlwaysOnPart := by
  intro s
  simp [State.trainPorts]
@[simp] theorem State_wakeHearths_keeps : ∀ s, (State.wakeHearths s).pending = s.pending ∧ (State.wakeHearths s).toAlwaysOnPart = s.toAlwaysOnPart := by
  intro s
  simp [State.wakeHearths]
@[simp] theorem State_startBlocks_keeps : ∀ s, (State.startBlocks s).pending = s.pending ∧ (State.startBlocks s).toAlwaysOnPart = s.toAlwaysOnPart := by
  intro s
  exact ⟨rfl, rfl⟩
@[simp] theorem State_mainStarts_keeps : ∀ s, (State.mainStarts s).pending = s.pending ∧ (State.mainStarts s).toAlwaysOnPart = s.toAlwaysOnPart := by
  intro s
  simp [State.mainStarts]
@[simp] theorem State_joinRole_keeps : ∀ s, (State.joinRole s).pending = s.pending ∧ (State.joinRole s).toAlwaysOnPart = s.toAlwaysOnPart := by
  intro s
  refine ⟨?_, ?_⟩ <;> (simp only [State.joinRole]; (repeat' split) <;> simp_all)
@[simp] theorem State_drainLost_keeps : ∀ since s, (State.drainLost since s).pending = s.pending ∧ (State.drainLost since s).toAlwaysOnPart = s.toAlwaysOnPart := by
  intro since s
  simp [State.drainLost]
@[simp] theorem State_resendLane_keeps : ∀ toMain l s, (State.resendLane toMain l s).pending = s.pending ∧ (State.resendLane toMain l s).toAlwaysOnPart = s.toAlwaysOnPart := by
  intro toMain l s
  simp [State.resendLane]
@[simp] theorem State_passOn_keeps : ∀ m s, (State.passOn m s).pending = s.pending ∧ (State.passOn m s).toAlwaysOnPart = s.toAlwaysOnPart := by
  intro m s
  simp [State.passOn]
@[simp] theorem State_storeAccess_keeps : ∀ q s, (State.storeAccess q s).2.pending = s.pending ∧ (State.storeAccess q s).2.toAlwaysOnPart = s.toAlwaysOnPart := by
  intro q s
  refine ⟨?_, ?_⟩ <;> (simp only [State.storeAccess]; (repeat' split) <;> simp_all)
@[simp] theorem State_setSegments_keeps : ∀ n l s, (State.setSegments n l s).pending = s.pending ∧ (State.setSegments n l s).toAlwaysOnPart = s.toAlwaysOnPart := by
  intro n l s
  simp [State.setSegments]
@[simp] theorem State_sendResult_keeps : ∀ corr x1 s, (State.sendResult corr x1 s).pending = s.pending ∧ (State.sendResult corr x1 s).toAlwaysOnPart = s.toAlwaysOnPart := fun _ _ _ => ⟨rfl, rfl⟩
@[simp] theorem State_endWait_keeps : ∀ w code total data s, (State.endWait w code total data s).pending = s.pending ∧ (State.endWait w code total data s).toAlwaysOnPart = s.toAlwaysOnPart := by
  intro w code total data s
  simp [State.endWait]
@[simp] theorem State_blobRead_keeps : ∀ idx sub total data s, (State.blobRead idx sub total data s).pending = s.pending ∧ (State.blobRead idx sub total data s).toAlwaysOnPart = s.toAlwaysOnPart := by
  intro idx sub total data s
  refine ⟨?_, ?_⟩ <;> (simp only [State.blobRead]; (repeat' split) <;> simp_all)
@[simp] theorem State_takeForwarded_keeps : ∀ src idx sub data s, (State.takeForwarded src idx sub data s).pending = s.pending ∧ (State.takeForwarded src idx sub data s).toAlwaysOnPart = s.toAlwaysOnPart := by
  intro src idx sub data s
  refine ⟨?_, ?_⟩ <;> (simp only [State.takeForwarded]; (repeat' split) <;> simp_all)
@[simp] theorem State_vecLane2_keeps : ∀ o vop i f s, (State.vecLane2 o vop i f s).pending = s.pending ∧ (State.vecLane2 o vop i f s).toAlwaysOnPart = s.toAlwaysOnPart := by
  intro o vop i f s
  simp [State.vecLane2]
@[simp] theorem State_vecLane1_keeps : ∀ g vop i f s, (State.vecLane1 g vop i f s).pending = s.pending ∧ (State.vecLane1 g vop i f s).toAlwaysOnPart = s.toAlwaysOnPart := by
  intro g vop i f s
  simp [State.vecLane1]
@[simp] theorem State_vecReduce_keeps : ∀ k vop i f s, (State.vecReduce k vop i f s).pending = s.pending ∧ (State.vecReduce k vop i f s).toAlwaysOnPart = s.toAlwaysOnPart := by
  intro k vop i f s
  simp [State.vecReduce]
@[simp] theorem State_scalarResult_keeps : ∀ h t lat g v s, (State.scalarResult h t lat g v s).pending = s.pending ∧ (State.scalarResult h t lat g v s).toAlwaysOnPart = s.toAlwaysOnPart := fun _ _ _ _ _ _ => ⟨rfl, rfl⟩
@[simp] theorem State_vecNarrow_keeps : ∀ b8 vop i f s, (State.vecNarrow b8 vop i f s).pending = s.pending ∧ (State.vecNarrow b8 vop i f s).toAlwaysOnPart = s.toAlwaysOnPart := by
  intro b8 vop i f s
  simp [State.vecNarrow]
@[simp] theorem State_withFetchWord_keeps : ∀ s nbits w, (State.withFetchWord s nbits w).pending = s.pending ∧ (State.withFetchWord s nbits w).toAlwaysOnPart = s.toAlwaysOnPart := fun _ _ _ => ⟨rfl, rfl⟩
end Sys2Proof.Laws
end

