-- ==== Sys2Proof/Laws/AlwaysOn.lean ====
section
/-! SUPPORT. Laws/AlwaysOn.lean: the operations of power, island start and test port keep the queue of commands and the legal states of
what stays on. -/

namespace Sys2Proof.Laws

open Sys2Proof.Machine

/-- An operation leaves the queue alone and what stays on legal. -/
def Legal (s t : State) : Prop := t.pending = s.pending ∧ (s.toAlwaysOnPart.legal = true → t.toAlwaysOnPart.legal = true)

theorem Legal.trans {s t u : State} (h : Legal s t) (k : Legal t u) : Legal s u := ⟨k.1.trans h.1, fun l => k.2 (h.2 l)⟩

theorem Legal.of_keeps {s t : State} (h : t.pending = s.pending ∧ t.toAlwaysOnPart = s.toAlwaysOnPart) : Legal s t :=
  ⟨h.1, fun l => by rw [h.2]; exact l⟩

theorem Legal.refl (s : State) : Legal s s := ⟨rfl, id⟩

theorem legal_ite {s a b : State} (c : Prop) [Decidable c] (h : Legal s a) (k : Legal s b) : Legal s (if c then a else b) := by
  split <;> assumption

/-- Another state of the sequencer with its enables in order. -/
theorem legal_seq {a : AlwaysOnPart} (q : Sequencer) (h : a.legal = true) (he : Sequencer.ladder.contains q.enables = true)
    (hg : Nat.land q.goods q.enables = q.goods) : { a with seq := q }.legal = true := by
  simp only [AlwaysOnPart.legal, Bool.and_eq_true, beq_iff_eq] at h ⊢
  obtain ⟨⟨⟨⟨⟨_, _⟩, h1⟩, h2⟩, h3⟩, h4⟩ := h
  exact ⟨⟨⟨⟨⟨he, hg⟩, h1⟩, h2⟩, h3⟩, h4⟩

theorem legal_enables {a : AlwaysOnPart} (h : a.legal = true) : Sequencer.ladder.contains a.seq.enables = true ∧ Nat.land a.seq.goods a.seq.enables = a.seq.goods := by
  simp only [AlwaysOnPart.legal, Bool.and_eq_true, beq_iff_eq] at h
  exact h.1.1.1.1

/-- Other numbers of the island and the test port. -/
theorem legal_numbers {a : AlwaysOnPart} (r t n k : Nat) (h : a.legal = true) (hr : r ≤ 2) (ht : t ≤ 2) (hn : n ≤ 1) (hk : k ≤ 7) :
    { a with islandRun := r, trial := t, runSlot := n, tapInstr := k }.legal = true := by
  simp only [AlwaysOnPart.legal, Bool.and_eq_true, decide_eq_true_eq] at h ⊢
  exact ⟨⟨⟨⟨h.1.1.1.1, hr⟩, ht⟩, hn⟩, hk⟩

theorem legal_bounds {a : AlwaysOnPart} (h : a.legal = true) : a.islandRun ≤ 2 ∧ a.trial ≤ 2 ∧ a.runSlot ≤ 1 ∧ a.tapInstr ≤ 7 := by
  simp only [AlwaysOnPart.legal, Bool.and_eq_true, decide_eq_true_eq] at h
  exact ⟨h.1.1.1.2, h.1.1.2, h.1.2, h.2⟩

theorem startSequence_legal (s : State) : Legal s s.startSequence :=
  ⟨rfl, fun h => legal_seq _ h rfl (Nat.zero_and 1)⟩

theorem startPowerDown_legal (f a : Bool) (s : State) : Legal s (s.startPowerDown f a) :=
  ⟨rfl, fun h => legal_seq _ h (legal_enables h).1 (legal_enables h).2⟩

theorem powerOff_legal (f : Bool) (s : State) : Legal s (s.powerOff f) := by
  unfold State.powerOff
  exact (Legal.of_keeps (by simp)).trans (startPowerDown_legal f false _)

theorem islandReset_legal (s : State) : Legal s s.islandReset := by
  refine (Legal.of_keeps (State_loseIsland_keeps s)).trans ⟨rfl, fun h => ?_⟩
  obtain ⟨_, h2, h3, h4⟩ := legal_bounds h
  exact legal_numbers 0 _ _ _ h (by omega) h2 h3 h4

theorem failTrial_legal (s : State) : Legal s s.failTrial := by
  refine Legal.trans ?_ (islandReset_legal _)
  refine Legal.trans ?_ (Legal.of_keeps (State_islandRecord_keeps false _))
  refine (Legal.of_keeps (State_setSlotState_keeps s.runSlot 3 s)).trans ⟨rfl, fun h => ?_⟩
  obtain ⟨h1, _, h3, h4⟩ := legal_bounds h
  exact legal_numbers _ 0 _ _ h h1 (by omega) h3 h4

theorem runIsland_legal {n : Nat} (hn : n ≤ 1) (s : State) : Legal s (s.runIsland n) := by
  refine ⟨rfl, fun h => ?_⟩
  obtain ⟨_, h2, _, h4⟩ := legal_bounds h
  exact legal_numbers 1 _ n _ h (by omega) h2 hn h4

theorem activeSlot_le (s : State) : s.activeSlot ≤ 1 := by
  unfold State.activeSlot
  split <;> omega

theorem romBoot_legal (s : State) : Legal s s.romBoot := by
  unfold State.romBoot
  refine legal_ite _ (runIsland_legal (activeSlot_le s) s) (legal_ite _ (runIsland_legal (by omega) s) ⟨rfl, fun h => ?_⟩)
  obtain ⟨_, h2, h3, h4⟩ := legal_bounds h
  exact legal_numbers 2 _ _ _ h (by omega) h2 h3 h4

theorem tapLoads_legal {i : Nat} (hi : i ≤ 7) (s : State) : Legal s (s.tapLoads i) := by
  unfold State.tapLoads
  refine legal_ite _ (Legal.refl s) ⟨rfl, fun h => ?_⟩
  obtain ⟨h1, h2, h3, _⟩ := legal_bounds h
  refine legal_numbers _ _ _ _ h h1 h2 h3 ?_
  unfold State.tapActs
  split <;> omega

theorem applyPowerOn_legal (s : State) : Legal s s.applyPowerOn.2 := by
  unfold State.applyPowerOn
  split
  · exact Legal.refl s
  · exact Legal.trans ⟨rfl, fun h => legal_seq _ h (legal_enables h).1 (legal_enables h).2⟩ (startSequence_legal _)

theorem applyForcedOff_legal (s : State) : Legal s s.applyForcedOff.2 := by
  unfold State.applyForcedOff
  split
  · exact Legal.refl s
  · exact powerOff_legal true s

theorem applyActivate_legal (s : State) : Legal s s.applyActivate.2 := by
  unfold State.applyActivate
  (repeat' split) <;> try exact Legal.refl s
  refine ⟨rfl, fun h => ?_⟩
  obtain ⟨h1, _, h3, h4⟩ := legal_bounds h
  exact legal_numbers _ 1 _ _ h h1 (by omega) h3 h4

/-! ### Accesses -/

theorem hostCommand_legal (rq : Requester) (x y v : Nat) (s : State) : Legal s (s.hostCommand rq x y v).2 := by
  unfold State.hostCommand
  (repeat' split) <;> first
    | exact applyPowerOn_legal s
    | exact applyForcedOff_legal s
    | exact islandReset_legal s
    | exact Legal.of_keeps (by simp)

theorem applyCommand_legal (rq : Requester) (x y : Nat) (d : List Byte) (s : State) : Legal s (s.applyCommand rq x y d).2 := by
  unfold State.applyCommand
  dsimp only
  (repeat' split) <;> first
    | exact hostCommand_legal rq x y _ s
    | exact applyActivate_legal s
    | exact Legal.of_keeps (by simp)

theorem performChange_legal (q : Req) (s : State) : Legal s (s.performChange q).2 := by
  have h : Legal s (if q.op = .command then s.applyCommand q.rq q.idx q.sub q.data else s.applyWrite q.rq q.idx q.sub q.data).2 := by
    split
    · exact applyCommand_legal _ _ _ _ s
    · exact Legal.of_keeps (State_applyWrite_keeps _ _ _ _ s)
  unfold State.performChange
  generalize (if q.op = .command then s.applyCommand q.rq q.idx q.sub q.data else s.applyWrite q.rq q.idx q.sub q.data) = p at h ⊢
  obtain ⟨c, t⟩ := p
  dsimp only at h ⊢
  split
  · exact h
  · exact h.trans (legal_ite _ (Legal.of_keeps (State_noteCommand_keeps _ _ _ _)) (Legal.refl _))

theorem perform_legal (q : Req) (s : State) : Legal s (s.perform q).2 := by
  unfold State.perform
  dsimp only
  split
  · exact Legal.refl s
  · split
    · exact Legal.of_keeps (State_performRead_keeps q s)
    · exact performChange_legal q s

theorem blobArrived_legal (x y : Nat) (d : List Byte) (s : State) : Legal s (s.blobArrived x y d) := by
  unfold State.blobArrived
  dsimp only
  split
  · exact (perform_legal _ s).trans (Legal.of_keeps (State_sendResult_keeps _ _ _))
  · exact perform_legal _ s

theorem noaAccess_legal (m : NoaMsg) (s : State) : Legal s (s.noaAccess m) := by
  unfold State.noaAccess
  dsimp only
  split
  · exact Legal.of_keeps (by simp)
  · split
    · exact (perform_legal _ s).trans (Legal.of_keeps (State_respond_keeps _ _ _ _ _))
    · exact (Legal.of_keeps (State_storeAccess_keeps _ s)).trans (Legal.of_keeps (State_respond_keeps _ _ _ _ _))

theorem noaSegment_legal (m : NoaMsg) (s : State) : Legal s (s.noaSegment m) := by
  unfold State.noaSegment
  dsimp only
  split
  · split
    · exact Legal.of_keeps (by simp)
    · exact Legal.of_keeps (by simp)
  · split
    · exact Legal.of_keeps (by simp)
    · split
      · exact Legal.of_keeps (by simp)
      · split
        · exact Legal.of_keeps (by simp)
        · split
          · exact (Legal.of_keeps (by simp)).trans (noaAccess_legal _ _)
          · exact Legal.of_keeps (by simp)

theorem noaTakes_legal (m : NoaMsg) (s : State) : Legal s (s.noaTakes m) := by
  unfold State.noaTakes
  split
  · exact Legal.refl s
  · split
    · exact Legal.of_keeps (by simp)
    · split
      · exact Legal.of_keeps (by simp)
      · (repeat' split) <;> first
          | exact (Legal.of_keeps (State_bump_keeps 0x1314 0 0 1 s)).trans (noaSegment_legal m _)
          | exact (Legal.of_keeps (State_bump_keeps 0x1314 0 0 1 s)).trans (noaAccess_legal m _)
          | exact Legal.of_keeps (by simp)

/-! ### Temperatures and heartbeats -/

theorem islandTrip_legal (t : Int) (s : State) : Legal s (s.islandTrip t) := by
  unfold State.islandTrip
  split
  · exact Legal.refl s
  · exact (Legal.of_keeps (State_bump_keeps 0x2411 0 4 1 s)).trans (powerOff_legal true _)

theorem islandTakes_legal (t : Int) (s : State) : Legal s (s.islandTakes t) := by
  unfold State.islandTakes
  dsimp only
  split
  · split
    · exact ⟨rfl, id⟩
    · exact Legal.trans ⟨rfl, id⟩ (powerOff_legal true _)
  · split
    · exact Legal.of_keeps (by simp)
    · exact ⟨rfl, id⟩

theorem islandReturns_legal (s : State) : Legal s s.islandReturns := by
  unfold State.islandReturns
  dsimp only
  split
  · exact Legal.trans ⟨rfl, id⟩ (powerOff_legal true _)
  · exact Legal.of_keeps (by simp)

theorem mainTakes_legal (n : Nat) (t : Int) (s : State) : Legal s (s.mainTakes n t) := by
  unfold State.mainTakes
  have h : Legal s (if { s with mainHeard := s.elapsed }.islandLost then { s with mainHeard := s.elapsed }.islandReturns.steepProgress
      else { s with mainHeard := s.elapsed }) := by
    split
    · exact Legal.trans (t := { s with mainHeard := s.elapsed }) ⟨rfl, id⟩
        (Legal.trans (islandReturns_legal _) (Legal.of_keeps (State_steepProgress_keeps _)))
    · exact ⟨rfl, id⟩
  refine legal_ite _ h (h.trans (Legal.of_keeps ?_))
  exact ⟨(State_takeReading_keeps _ _ _ _).1.trans (State_drainLost_keeps _ _).1, (State_takeReading_keeps _ _ _ _).2.trans (State_drainLost_keeps _ _).2⟩

end Sys2Proof.Laws
end

