-- ==== Sys2Proof/Laws/State.lean ====
section
/-! SUPPORT. Laws/State.lean: what each basic update of the state leaves as it was: the parts it does not touch whole, and the other
fields of the part that it does. -/

namespace Sys2Proof.Laws

open Sys2Proof.Machine

/-! ### State.setOdAt -/

@[simp] theorem setOdAt_pending : ∀ inst idx sub fld v s, (State.setOdAt inst idx sub fld v s).pending = s.pending := fun _ _ _ _ _ _ => rfl
@[simp] theorem setOdAt_clockPart : ∀ inst idx sub fld v s, (State.setOdAt inst idx sub fld v s).toClockPart = s.toClockPart := fun _ _ _ _ _ _ => rfl
@[simp] theorem setOdAt_hearthPart : ∀ inst idx sub fld v s, (State.setOdAt inst idx sub fld v s).toHearthPart = s.toHearthPart := fun _ _ _ _ _ _ => rfl
@[simp] theorem setOdAt_memoryPart : ∀ inst idx sub fld v s, (State.setOdAt inst idx sub fld v s).toMemoryPart = s.toMemoryPart := fun _ _ _ _ _ _ => rfl
@[simp] theorem setOdAt_fabricPart : ∀ inst idx sub fld v s, (State.setOdAt inst idx sub fld v s).toFabricPart = s.toFabricPart := fun _ _ _ _ _ _ => rfl
@[simp] theorem setOdAt_servingPart : ∀ inst idx sub fld v s, (State.setOdAt inst idx sub fld v s).toServingPart = s.toServingPart := fun _ _ _ _ _ _ => rfl
@[simp] theorem setOdAt_islandPart : ∀ inst idx sub fld v s, (State.setOdAt inst idx sub fld v s).toIslandPart = s.toIslandPart := fun _ _ _ _ _ _ => rfl
@[simp] theorem setOdAt_alwaysOnPart : ∀ inst idx sub fld v s, (State.setOdAt inst idx sub fld v s).toAlwaysOnPart = s.toAlwaysOnPart := fun _ _ _ _ _ _ => rfl
@[simp] theorem setOdAt_upkeepPart : ∀ inst idx sub fld v s, (State.setOdAt inst idx sub fld v s).toUpkeepPart = s.toUpkeepPart := fun _ _ _ _ _ _ => rfl
@[simp] theorem setOdAt_blobs : ∀ inst idx sub fld v s, (State.setOdAt inst idx sub fld v s).blobs = s.blobs := fun _ _ _ _ _ _ => rfl
@[simp] theorem setOdAt_out : ∀ inst idx sub fld v s, (State.setOdAt inst idx sub fld v s).out = s.out := fun _ _ _ _ _ _ => rfl
@[simp] theorem setOdAt_path0 : ∀ inst idx sub fld v s, (State.setOdAt inst idx sub fld v s).path0 = s.path0 := fun _ _ _ _ _ _ => rfl
@[simp] theorem setOdAt_path1 : ∀ inst idx sub fld v s, (State.setOdAt inst idx sub fld v s).path1 = s.path1 := fun _ _ _ _ _ _ => rfl
@[simp] theorem setOdAt_path2 : ∀ inst idx sub fld v s, (State.setOdAt inst idx sub fld v s).path2 = s.path2 := fun _ _ _ _ _ _ => rfl
@[simp] theorem setOdAt_path3 : ∀ inst idx sub fld v s, (State.setOdAt inst idx sub fld v s).path3 = s.path3 := fun _ _ _ _ _ _ => rfl
@[simp] theorem setOdAt_ringA : ∀ inst idx sub fld v s, (State.setOdAt inst idx sub fld v s).ringA = s.ringA := fun _ _ _ _ _ _ => rfl
@[simp] theorem setOdAt_ringB : ∀ inst idx sub fld v s, (State.setOdAt inst idx sub fld v s).ringB = s.ringB := fun _ _ _ _ _ _ => rfl
@[simp] theorem setOdAt_results : ∀ inst idx sub fld v s, (State.setOdAt inst idx sub fld v s).results = s.results := fun _ _ _ _ _ _ => rfl

/-! ### State.setOd -/

@[simp] theorem setOd_pending : ∀ idx sub fld v s, (State.setOd idx sub fld v s).pending = s.pending := fun _ _ _ _ _ => rfl
@[simp] theorem setOd_clockPart : ∀ idx sub fld v s, (State.setOd idx sub fld v s).toClockPart = s.toClockPart := fun _ _ _ _ _ => rfl
@[simp] theorem setOd_hearthPart : ∀ idx sub fld v s, (State.setOd idx sub fld v s).toHearthPart = s.toHearthPart := fun _ _ _ _ _ => rfl
@[simp] theorem setOd_memoryPart : ∀ idx sub fld v s, (State.setOd idx sub fld v s).toMemoryPart = s.toMemoryPart := fun _ _ _ _ _ => rfl
@[simp] theorem setOd_fabricPart : ∀ idx sub fld v s, (State.setOd idx sub fld v s).toFabricPart = s.toFabricPart := fun _ _ _ _ _ => rfl
@[simp] theorem setOd_servingPart : ∀ idx sub fld v s, (State.setOd idx sub fld v s).toServingPart = s.toServingPart := fun _ _ _ _ _ => rfl
@[simp] theorem setOd_islandPart : ∀ idx sub fld v s, (State.setOd idx sub fld v s).toIslandPart = s.toIslandPart := fun _ _ _ _ _ => rfl
@[simp] theorem setOd_alwaysOnPart : ∀ idx sub fld v s, (State.setOd idx sub fld v s).toAlwaysOnPart = s.toAlwaysOnPart := fun _ _ _ _ _ => rfl
@[simp] theorem setOd_upkeepPart : ∀ idx sub fld v s, (State.setOd idx sub fld v s).toUpkeepPart = s.toUpkeepPart := fun _ _ _ _ _ => rfl
@[simp] theorem setOd_blobs : ∀ idx sub fld v s, (State.setOd idx sub fld v s).blobs = s.blobs := fun _ _ _ _ _ => rfl
@[simp] theorem setOd_out : ∀ idx sub fld v s, (State.setOd idx sub fld v s).out = s.out := fun _ _ _ _ _ => rfl
@[simp] theorem setOd_path0 : ∀ idx sub fld v s, (State.setOd idx sub fld v s).path0 = s.path0 := fun _ _ _ _ _ => rfl
@[simp] theorem setOd_path1 : ∀ idx sub fld v s, (State.setOd idx sub fld v s).path1 = s.path1 := fun _ _ _ _ _ => rfl
@[simp] theorem setOd_path2 : ∀ idx sub fld v s, (State.setOd idx sub fld v s).path2 = s.path2 := fun _ _ _ _ _ => rfl
@[simp] theorem setOd_path3 : ∀ idx sub fld v s, (State.setOd idx sub fld v s).path3 = s.path3 := fun _ _ _ _ _ => rfl
@[simp] theorem setOd_ringA : ∀ idx sub fld v s, (State.setOd idx sub fld v s).ringA = s.ringA := fun _ _ _ _ _ => rfl
@[simp] theorem setOd_ringB : ∀ idx sub fld v s, (State.setOd idx sub fld v s).ringB = s.ringB := fun _ _ _ _ _ => rfl
@[simp] theorem setOd_results : ∀ idx sub fld v s, (State.setOd idx sub fld v s).results = s.results := fun _ _ _ _ _ => rfl

/-! ### State.bumpAt -/

@[simp] theorem bumpAt_pending : ∀ inst idx sub fld n s, (State.bumpAt inst idx sub fld n s).pending = s.pending := fun _ _ _ _ _ _ => rfl
@[simp] theorem bumpAt_clockPart : ∀ inst idx sub fld n s, (State.bumpAt inst idx sub fld n s).toClockPart = s.toClockPart := fun _ _ _ _ _ _ => rfl
@[simp] theorem bumpAt_hearthPart : ∀ inst idx sub fld n s, (State.bumpAt inst idx sub fld n s).toHearthPart = s.toHearthPart := fun _ _ _ _ _ _ => rfl
@[simp] theorem bumpAt_memoryPart : ∀ inst idx sub fld n s, (State.bumpAt inst idx sub fld n s).toMemoryPart = s.toMemoryPart := fun _ _ _ _ _ _ => rfl
@[simp] theorem bumpAt_fabricPart : ∀ inst idx sub fld n s, (State.bumpAt inst idx sub fld n s).toFabricPart = s.toFabricPart := fun _ _ _ _ _ _ => rfl
@[simp] theorem bumpAt_servingPart : ∀ inst idx sub fld n s, (State.bumpAt inst idx sub fld n s).toServingPart = s.toServingPart := fun _ _ _ _ _ _ => rfl
@[simp] theorem bumpAt_islandPart : ∀ inst idx sub fld n s, (State.bumpAt inst idx sub fld n s).toIslandPart = s.toIslandPart := fun _ _ _ _ _ _ => rfl
@[simp] theorem bumpAt_alwaysOnPart : ∀ inst idx sub fld n s, (State.bumpAt inst idx sub fld n s).toAlwaysOnPart = s.toAlwaysOnPart := fun _ _ _ _ _ _ => rfl
@[simp] theorem bumpAt_upkeepPart : ∀ inst idx sub fld n s, (State.bumpAt inst idx sub fld n s).toUpkeepPart = s.toUpkeepPart := fun _ _ _ _ _ _ => rfl
@[simp] theorem bumpAt_blobs : ∀ inst idx sub fld n s, (State.bumpAt inst idx sub fld n s).blobs = s.blobs := fun _ _ _ _ _ _ => rfl
@[simp] theorem bumpAt_out : ∀ inst idx sub fld n s, (State.bumpAt inst idx sub fld n s).out = s.out := fun _ _ _ _ _ _ => rfl
@[simp] theorem bumpAt_path0 : ∀ inst idx sub fld n s, (State.bumpAt inst idx sub fld n s).path0 = s.path0 := fun _ _ _ _ _ _ => rfl
@[simp] theorem bumpAt_path1 : ∀ inst idx sub fld n s, (State.bumpAt inst idx sub fld n s).path1 = s.path1 := fun _ _ _ _ _ _ => rfl
@[simp] theorem bumpAt_path2 : ∀ inst idx sub fld n s, (State.bumpAt inst idx sub fld n s).path2 = s.path2 := fun _ _ _ _ _ _ => rfl
@[simp] theorem bumpAt_path3 : ∀ inst idx sub fld n s, (State.bumpAt inst idx sub fld n s).path3 = s.path3 := fun _ _ _ _ _ _ => rfl
@[simp] theorem bumpAt_ringA : ∀ inst idx sub fld n s, (State.bumpAt inst idx sub fld n s).ringA = s.ringA := fun _ _ _ _ _ _ => rfl
@[simp] theorem bumpAt_ringB : ∀ inst idx sub fld n s, (State.bumpAt inst idx sub fld n s).ringB = s.ringB := fun _ _ _ _ _ _ => rfl
@[simp] theorem bumpAt_results : ∀ inst idx sub fld n s, (State.bumpAt inst idx sub fld n s).results = s.results := fun _ _ _ _ _ _ => rfl

/-! ### State.bump -/

@[simp] theorem bump_pending : ∀ idx sub fld n s, (State.bump idx sub fld n s).pending = s.pending := fun _ _ _ _ _ => rfl
@[simp] theorem bump_clockPart : ∀ idx sub fld n s, (State.bump idx sub fld n s).toClockPart = s.toClockPart := fun _ _ _ _ _ => rfl
@[simp] theorem bump_hearthPart : ∀ idx sub fld n s, (State.bump idx sub fld n s).toHearthPart = s.toHearthPart := fun _ _ _ _ _ => rfl
@[simp] theorem bump_memoryPart : ∀ idx sub fld n s, (State.bump idx sub fld n s).toMemoryPart = s.toMemoryPart := fun _ _ _ _ _ => rfl
@[simp] theorem bump_fabricPart : ∀ idx sub fld n s, (State.bump idx sub fld n s).toFabricPart = s.toFabricPart := fun _ _ _ _ _ => rfl
@[simp] theorem bump_servingPart : ∀ idx sub fld n s, (State.bump idx sub fld n s).toServingPart = s.toServingPart := fun _ _ _ _ _ => rfl
@[simp] theorem bump_islandPart : ∀ idx sub fld n s, (State.bump idx sub fld n s).toIslandPart = s.toIslandPart := fun _ _ _ _ _ => rfl
@[simp] theorem bump_alwaysOnPart : ∀ idx sub fld n s, (State.bump idx sub fld n s).toAlwaysOnPart = s.toAlwaysOnPart := fun _ _ _ _ _ => rfl
@[simp] theorem bump_upkeepPart : ∀ idx sub fld n s, (State.bump idx sub fld n s).toUpkeepPart = s.toUpkeepPart := fun _ _ _ _ _ => rfl
@[simp] theorem bump_blobs : ∀ idx sub fld n s, (State.bump idx sub fld n s).blobs = s.blobs := fun _ _ _ _ _ => rfl
@[simp] theorem bump_out : ∀ idx sub fld n s, (State.bump idx sub fld n s).out = s.out := fun _ _ _ _ _ => rfl
@[simp] theorem bump_path0 : ∀ idx sub fld n s, (State.bump idx sub fld n s).path0 = s.path0 := fun _ _ _ _ _ => rfl
@[simp] theorem bump_path1 : ∀ idx sub fld n s, (State.bump idx sub fld n s).path1 = s.path1 := fun _ _ _ _ _ => rfl
@[simp] theorem bump_path2 : ∀ idx sub fld n s, (State.bump idx sub fld n s).path2 = s.path2 := fun _ _ _ _ _ => rfl
@[simp] theorem bump_path3 : ∀ idx sub fld n s, (State.bump idx sub fld n s).path3 = s.path3 := fun _ _ _ _ _ => rfl
@[simp] theorem bump_ringA : ∀ idx sub fld n s, (State.bump idx sub fld n s).ringA = s.ringA := fun _ _ _ _ _ => rfl
@[simp] theorem bump_ringB : ∀ idx sub fld n s, (State.bump idx sub fld n s).ringB = s.ringB := fun _ _ _ _ _ => rfl
@[simp] theorem bump_results : ∀ idx sub fld n s, (State.bump idx sub fld n s).results = s.results := fun _ _ _ _ _ => rfl

/-! ### State.setBlobAt -/

@[simp] theorem setBlobAt_pending : ∀ inst idx sub v s, (State.setBlobAt inst idx sub v s).pending = s.pending := fun _ _ _ _ _ => rfl
@[simp] theorem setBlobAt_clockPart : ∀ inst idx sub v s, (State.setBlobAt inst idx sub v s).toClockPart = s.toClockPart := fun _ _ _ _ _ => rfl
@[simp] theorem setBlobAt_hearthPart : ∀ inst idx sub v s, (State.setBlobAt inst idx sub v s).toHearthPart = s.toHearthPart := fun _ _ _ _ _ => rfl
@[simp] theorem setBlobAt_memoryPart : ∀ inst idx sub v s, (State.setBlobAt inst idx sub v s).toMemoryPart = s.toMemoryPart := fun _ _ _ _ _ => rfl
@[simp] theorem setBlobAt_fabricPart : ∀ inst idx sub v s, (State.setBlobAt inst idx sub v s).toFabricPart = s.toFabricPart := fun _ _ _ _ _ => rfl
@[simp] theorem setBlobAt_servingPart : ∀ inst idx sub v s, (State.setBlobAt inst idx sub v s).toServingPart = s.toServingPart := fun _ _ _ _ _ => rfl
@[simp] theorem setBlobAt_islandPart : ∀ inst idx sub v s, (State.setBlobAt inst idx sub v s).toIslandPart = s.toIslandPart := fun _ _ _ _ _ => rfl
@[simp] theorem setBlobAt_alwaysOnPart : ∀ inst idx sub v s, (State.setBlobAt inst idx sub v s).toAlwaysOnPart = s.toAlwaysOnPart := fun _ _ _ _ _ => rfl
@[simp] theorem setBlobAt_upkeepPart : ∀ inst idx sub v s, (State.setBlobAt inst idx sub v s).toUpkeepPart = s.toUpkeepPart := fun _ _ _ _ _ => rfl
@[simp] theorem setBlobAt_dict : ∀ inst idx sub v s, (State.setBlobAt inst idx sub v s).dict = s.dict := fun _ _ _ _ _ => rfl
@[simp] theorem setBlobAt_out : ∀ inst idx sub v s, (State.setBlobAt inst idx sub v s).out = s.out := fun _ _ _ _ _ => rfl
@[simp] theorem setBlobAt_path0 : ∀ inst idx sub v s, (State.setBlobAt inst idx sub v s).path0 = s.path0 := fun _ _ _ _ _ => rfl
@[simp] theorem setBlobAt_path1 : ∀ inst idx sub v s, (State.setBlobAt inst idx sub v s).path1 = s.path1 := fun _ _ _ _ _ => rfl
@[simp] theorem setBlobAt_path2 : ∀ inst idx sub v s, (State.setBlobAt inst idx sub v s).path2 = s.path2 := fun _ _ _ _ _ => rfl
@[simp] theorem setBlobAt_path3 : ∀ inst idx sub v s, (State.setBlobAt inst idx sub v s).path3 = s.path3 := fun _ _ _ _ _ => rfl
@[simp] theorem setBlobAt_ringA : ∀ inst idx sub v s, (State.setBlobAt inst idx sub v s).ringA = s.ringA := fun _ _ _ _ _ => rfl
@[simp] theorem setBlobAt_ringB : ∀ inst idx sub v s, (State.setBlobAt inst idx sub v s).ringB = s.ringB := fun _ _ _ _ _ => rfl
@[simp] theorem setBlobAt_results : ∀ inst idx sub v s, (State.setBlobAt inst idx sub v s).results = s.results := fun _ _ _ _ _ => rfl

/-! ### State.setBlob -/

@[simp] theorem setBlob_pending : ∀ idx sub v s, (State.setBlob idx sub v s).pending = s.pending := fun _ _ _ _ => rfl
@[simp] theorem setBlob_clockPart : ∀ idx sub v s, (State.setBlob idx sub v s).toClockPart = s.toClockPart := fun _ _ _ _ => rfl
@[simp] theorem setBlob_hearthPart : ∀ idx sub v s, (State.setBlob idx sub v s).toHearthPart = s.toHearthPart := fun _ _ _ _ => rfl
@[simp] theorem setBlob_memoryPart : ∀ idx sub v s, (State.setBlob idx sub v s).toMemoryPart = s.toMemoryPart := fun _ _ _ _ => rfl
@[simp] theorem setBlob_fabricPart : ∀ idx sub v s, (State.setBlob idx sub v s).toFabricPart = s.toFabricPart := fun _ _ _ _ => rfl
@[simp] theorem setBlob_servingPart : ∀ idx sub v s, (State.setBlob idx sub v s).toServingPart = s.toServingPart := fun _ _ _ _ => rfl
@[simp] theorem setBlob_islandPart : ∀ idx sub v s, (State.setBlob idx sub v s).toIslandPart = s.toIslandPart := fun _ _ _ _ => rfl
@[simp] theorem setBlob_alwaysOnPart : ∀ idx sub v s, (State.setBlob idx sub v s).toAlwaysOnPart = s.toAlwaysOnPart := fun _ _ _ _ => rfl
@[simp] theorem setBlob_upkeepPart : ∀ idx sub v s, (State.setBlob idx sub v s).toUpkeepPart = s.toUpkeepPart := fun _ _ _ _ => rfl
@[simp] theorem setBlob_dict : ∀ idx sub v s, (State.setBlob idx sub v s).dict = s.dict := fun _ _ _ _ => rfl
@[simp] theorem setBlob_out : ∀ idx sub v s, (State.setBlob idx sub v s).out = s.out := fun _ _ _ _ => rfl
@[simp] theorem setBlob_path0 : ∀ idx sub v s, (State.setBlob idx sub v s).path0 = s.path0 := fun _ _ _ _ => rfl
@[simp] theorem setBlob_path1 : ∀ idx sub v s, (State.setBlob idx sub v s).path1 = s.path1 := fun _ _ _ _ => rfl
@[simp] theorem setBlob_path2 : ∀ idx sub v s, (State.setBlob idx sub v s).path2 = s.path2 := fun _ _ _ _ => rfl
@[simp] theorem setBlob_path3 : ∀ idx sub v s, (State.setBlob idx sub v s).path3 = s.path3 := fun _ _ _ _ => rfl
@[simp] theorem setBlob_ringA : ∀ idx sub v s, (State.setBlob idx sub v s).ringA = s.ringA := fun _ _ _ _ => rfl
@[simp] theorem setBlob_ringB : ∀ idx sub v s, (State.setBlob idx sub v s).ringB = s.ringB := fun _ _ _ _ => rfl
@[simp] theorem setBlob_results : ∀ idx sub v s, (State.setBlob idx sub v s).results = s.results := fun _ _ _ _ => rfl

/-! ### State.setMask -/

@[simp] theorem setMask_pending : ∀ size idx sub i v s, (State.setMask size idx sub i v s).pending = s.pending := fun _ _ _ _ _ _ => rfl
@[simp] theorem setMask_clockPart : ∀ size idx sub i v s, (State.setMask size idx sub i v s).toClockPart = s.toClockPart := fun _ _ _ _ _ _ => rfl
@[simp] theorem setMask_hearthPart : ∀ size idx sub i v s, (State.setMask size idx sub i v s).toHearthPart = s.toHearthPart := fun _ _ _ _ _ _ => rfl
@[simp] theorem setMask_memoryPart : ∀ size idx sub i v s, (State.setMask size idx sub i v s).toMemoryPart = s.toMemoryPart := fun _ _ _ _ _ _ => rfl
@[simp] theorem setMask_fabricPart : ∀ size idx sub i v s, (State.setMask size idx sub i v s).toFabricPart = s.toFabricPart := fun _ _ _ _ _ _ => rfl
@[simp] theorem setMask_servingPart : ∀ size idx sub i v s, (State.setMask size idx sub i v s).toServingPart = s.toServingPart := fun _ _ _ _ _ _ => rfl
@[simp] theorem setMask_islandPart : ∀ size idx sub i v s, (State.setMask size idx sub i v s).toIslandPart = s.toIslandPart := fun _ _ _ _ _ _ => rfl
@[simp] theorem setMask_alwaysOnPart : ∀ size idx sub i v s, (State.setMask size idx sub i v s).toAlwaysOnPart = s.toAlwaysOnPart := fun _ _ _ _ _ _ => rfl
@[simp] theorem setMask_upkeepPart : ∀ size idx sub i v s, (State.setMask size idx sub i v s).toUpkeepPart = s.toUpkeepPart := fun _ _ _ _ _ _ => rfl
@[simp] theorem setMask_dict : ∀ size idx sub i v s, (State.setMask size idx sub i v s).dict = s.dict := fun _ _ _ _ _ _ => rfl
@[simp] theorem setMask_out : ∀ size idx sub i v s, (State.setMask size idx sub i v s).out = s.out := fun _ _ _ _ _ _ => rfl
@[simp] theorem setMask_path0 : ∀ size idx sub i v s, (State.setMask size idx sub i v s).path0 = s.path0 := fun _ _ _ _ _ _ => rfl
@[simp] theorem setMask_path1 : ∀ size idx sub i v s, (State.setMask size idx sub i v s).path1 = s.path1 := fun _ _ _ _ _ _ => rfl
@[simp] theorem setMask_path2 : ∀ size idx sub i v s, (State.setMask size idx sub i v s).path2 = s.path2 := fun _ _ _ _ _ _ => rfl
@[simp] theorem setMask_path3 : ∀ size idx sub i v s, (State.setMask size idx sub i v s).path3 = s.path3 := fun _ _ _ _ _ _ => rfl
@[simp] theorem setMask_ringA : ∀ size idx sub i v s, (State.setMask size idx sub i v s).ringA = s.ringA := fun _ _ _ _ _ _ => rfl
@[simp] theorem setMask_ringB : ∀ size idx sub i v s, (State.setMask size idx sub i v s).ringB = s.ringB := fun _ _ _ _ _ _ => rfl
@[simp] theorem setMask_results : ∀ size idx sub i v s, (State.setMask size idx sub i v s).results = s.results := fun _ _ _ _ _ _ => rfl

/-! ### State.spend -/

@[simp] theorem spend_pending : ∀ n s, (State.spend n s).pending = s.pending := fun _ _ => rfl
@[simp] theorem spend_recordPart : ∀ n s, (State.spend n s).toRecordPart = s.toRecordPart := fun _ _ => rfl
@[simp] theorem spend_hearthPart : ∀ n s, (State.spend n s).toHearthPart = s.toHearthPart := fun _ _ => rfl
@[simp] theorem spend_memoryPart : ∀ n s, (State.spend n s).toMemoryPart = s.toMemoryPart := fun _ _ => rfl
@[simp] theorem spend_fabricPart : ∀ n s, (State.spend n s).toFabricPart = s.toFabricPart := fun _ _ => rfl
@[simp] theorem spend_servingPart : ∀ n s, (State.spend n s).toServingPart = s.toServingPart := fun _ _ => rfl
@[simp] theorem spend_islandPart : ∀ n s, (State.spend n s).toIslandPart = s.toIslandPart := fun _ _ => rfl
@[simp] theorem spend_alwaysOnPart : ∀ n s, (State.spend n s).toAlwaysOnPart = s.toAlwaysOnPart := fun _ _ => rfl
@[simp] theorem spend_upkeepPart : ∀ n s, (State.spend n s).toUpkeepPart = s.toUpkeepPart := fun _ _ => rfl
@[simp] theorem spend_tick : ∀ n s, (State.spend n s).tick = s.tick := fun _ _ => rfl
@[simp] theorem spend_gliding : ∀ n s, (State.spend n s).gliding = s.gliding := fun _ _ => rfl
@[simp] theorem spend_rackTime : ∀ n s, (State.spend n s).rackTime = s.rackTime := fun _ _ => rfl
@[simp] theorem spend_slew : ∀ n s, (State.spend n s).slew = s.slew := fun _ _ => rfl
@[simp] theorem spend_slewTick : ∀ n s, (State.spend n s).slewTick = s.slewTick := fun _ _ => rfl
@[simp] theorem spend_coreMhz : ∀ n s, (State.spend n s).coreMhz = s.coreMhz := fun _ _ => rfl
@[simp] theorem spend_edges : ∀ n s, (State.spend n s).edges = s.edges := fun _ _ => rfl
@[simp] theorem spend_grid : ∀ n s, (State.spend n s).grid = s.grid := fun _ _ => rfl
@[simp] theorem spend_missed : ∀ n s, (State.spend n s).missed = s.missed := fun _ _ => rfl
@[simp] theorem spend_cadenceLost : ∀ n s, (State.spend n s).cadenceLost = s.cadenceLost := fun _ _ => rfl
@[simp] theorem spend_goodEdges : ∀ n s, (State.spend n s).goodEdges = s.goodEdges := fun _ _ => rfl
@[simp] theorem spend_freqTarget : ∀ n s, (State.spend n s).freqTarget = s.freqTarget := fun _ _ => rfl
@[simp] theorem spend_setPoint : ∀ n s, (State.spend n s).setPoint = s.setPoint := fun _ _ => rfl
@[simp] theorem spend_setPointAt : ∀ n s, (State.spend n s).setPointAt = s.setPointAt := fun _ _ => rfl
@[simp] theorem spend_pmbusFailed : ∀ n s, (State.spend n s).pmbusFailed = s.pmbusFailed := fun _ _ => rfl
@[simp] theorem spend_refSince : ∀ n s, (State.spend n s).refSince = s.refSince := fun _ _ => rfl
@[simp] theorem spend_ptpAt : ∀ n s, (State.spend n s).ptpAt = s.ptpAt := fun _ _ => rfl
@[simp] theorem spend_holdUntil : ∀ n s, (State.spend n s).holdUntil = s.holdUntil := fun _ _ => rfl
@[simp] theorem spend_holdStuck : ∀ n s, (State.spend n s).holdStuck = s.holdStuck := fun _ _ => rfl
@[simp] theorem spend_partnerSlips : ∀ n s, (State.spend n s).partnerSlips = s.partnerSlips := fun _ _ => rfl

/-! ### State.emit -/

@[simp] theorem emit_pending : ∀ o s, (State.emit o s).pending = s.pending := fun _ _ => rfl
@[simp] theorem emit_clockPart : ∀ o s, (State.emit o s).toClockPart = s.toClockPart := fun _ _ => rfl
@[simp] theorem emit_hearthPart : ∀ o s, (State.emit o s).toHearthPart = s.toHearthPart := fun _ _ => rfl
@[simp] theorem emit_memoryPart : ∀ o s, (State.emit o s).toMemoryPart = s.toMemoryPart := fun _ _ => rfl
@[simp] theorem emit_fabricPart : ∀ o s, (State.emit o s).toFabricPart = s.toFabricPart := fun _ _ => rfl
@[simp] theorem emit_servingPart : ∀ o s, (State.emit o s).toServingPart = s.toServingPart := fun _ _ => rfl
@[simp] theorem emit_islandPart : ∀ o s, (State.emit o s).toIslandPart = s.toIslandPart := fun _ _ => rfl
@[simp] theorem emit_alwaysOnPart : ∀ o s, (State.emit o s).toAlwaysOnPart = s.toAlwaysOnPart := fun _ _ => rfl
@[simp] theorem emit_upkeepPart : ∀ o s, (State.emit o s).toUpkeepPart = s.toUpkeepPart := fun _ _ => rfl
@[simp] theorem emit_dict : ∀ o s, (State.emit o s).dict = s.dict := fun _ _ => rfl
@[simp] theorem emit_blobs : ∀ o s, (State.emit o s).blobs = s.blobs := fun _ _ => rfl
@[simp] theorem emit_path0 : ∀ o s, (State.emit o s).path0 = s.path0 := fun _ _ => rfl
@[simp] theorem emit_path1 : ∀ o s, (State.emit o s).path1 = s.path1 := fun _ _ => rfl
@[simp] theorem emit_path2 : ∀ o s, (State.emit o s).path2 = s.path2 := fun _ _ => rfl
@[simp] theorem emit_path3 : ∀ o s, (State.emit o s).path3 = s.path3 := fun _ _ => rfl
@[simp] theorem emit_ringA : ∀ o s, (State.emit o s).ringA = s.ringA := fun _ _ => rfl
@[simp] theorem emit_ringB : ∀ o s, (State.emit o s).ringB = s.ringB := fun _ _ => rfl
@[simp] theorem emit_results : ∀ o s, (State.emit o s).results = s.results := fun _ _ => rfl

/-! ### State.setPort -/

@[simp] theorem setPort_pending : ∀ p x s, (State.setPort p x s).pending = s.pending := fun _ _ _ => rfl
@[simp] theorem setPort_clockPart : ∀ p x s, (State.setPort p x s).toClockPart = s.toClockPart := fun _ _ _ => rfl
@[simp] theorem setPort_recordPart : ∀ p x s, (State.setPort p x s).toRecordPart = s.toRecordPart := fun _ _ _ => rfl
@[simp] theorem setPort_hearthPart : ∀ p x s, (State.setPort p x s).toHearthPart = s.toHearthPart := fun _ _ _ => rfl
@[simp] theorem setPort_memoryPart : ∀ p x s, (State.setPort p x s).toMemoryPart = s.toMemoryPart := fun _ _ _ => rfl
@[simp] theorem setPort_servingPart : ∀ p x s, (State.setPort p x s).toServingPart = s.toServingPart := fun _ _ _ => rfl
@[simp] theorem setPort_islandPart : ∀ p x s, (State.setPort p x s).toIslandPart = s.toIslandPart := fun _ _ _ => rfl
@[simp] theorem setPort_alwaysOnPart : ∀ p x s, (State.setPort p x s).toAlwaysOnPart = s.toAlwaysOnPart := fun _ _ _ => rfl
@[simp] theorem setPort_upkeepPart : ∀ p x s, (State.setPort p x s).toUpkeepPart = s.toUpkeepPart := fun _ _ _ => rfl
@[simp] theorem setPort_sending : ∀ p x s, (State.setPort p x s).sending = s.sending := fun _ _ _ => rfl
@[simp] theorem setPort_entryTested : ∀ p x s, (State.setPort p x s).entryTested = s.entryTested := fun _ _ _ => rfl
@[simp] theorem setPort_checkMarks : ∀ p x s, (State.setPort p x s).checkMarks = s.checkMarks := fun _ _ _ => rfl
@[simp] theorem setPort_doubtful : ∀ p x s, (State.setPort p x s).doubtful = s.doubtful := fun _ _ _ => rfl
@[simp] theorem setPort_syncing : ∀ p x s, (State.setPort p x s).syncing = s.syncing := fun _ _ _ => rfl
@[simp] theorem setPort_coveredAway : ∀ p x s, (State.setPort p x s).coveredAway = s.coveredAway := fun _ _ _ => rfl
@[simp] theorem setPort_retained : ∀ p x s, (State.setPort p x s).retained = s.retained := fun _ _ _ => rfl
@[simp] theorem setPort_receiving : ∀ p x s, (State.setPort p x s).receiving = s.receiving := fun _ _ _ => rfl
@[simp] theorem setPort_completed : ∀ p x s, (State.setPort p x s).completed = s.completed := fun _ _ _ => rfl
@[simp] theorem setPort_nextTid : ∀ p x s, (State.setPort p x s).nextTid = s.nextTid := fun _ _ _ => rfl
@[simp] theorem setPort_ready : ∀ p x s, (State.setPort p x s).ready = s.ready := fun _ _ _ => rfl
@[simp] theorem setPort_tableNext : ∀ p x s, (State.setPort p x s).tableNext = s.tableNext := fun _ _ _ => rfl
@[simp] theorem setPort_probes : ∀ p x s, (State.setPort p x s).probes = s.probes := fun _ _ _ => rfl
@[simp] theorem setPort_suspects : ∀ p x s, (State.setPort p x s).suspects = s.suspects := fun _ _ _ => rfl
@[simp] theorem setPort_heldResends : ∀ p x s, (State.setPort p x s).heldResends = s.heldResends := fun _ _ _ => rfl
@[simp] theorem setPort_declared : ∀ p x s, (State.setPort p x s).declared = s.declared := fun _ _ _ => rfl
@[simp] theorem setPort_forwarding : ∀ p x s, (State.setPort p x s).forwarding = s.forwarding := fun _ _ _ => rfl
@[simp] theorem setPort_tableOld : ∀ p x s, (State.setPort p x s).tableOld = s.tableOld := fun _ _ _ => rfl
@[simp] theorem setPort_tableAt : ∀ p x s, (State.setPort p x s).tableAt = s.tableAt := fun _ _ _ => rfl
@[simp] theorem setPort_mirrored : ∀ p x s, (State.setPort p x s).mirrored = s.mirrored := fun _ _ _ => rfl
@[simp] theorem setPort_shadow : ∀ p x s, (State.setPort p x s).shadow = s.shadow := fun _ _ _ => rfl
@[simp] theorem setPort_recovery : ∀ p x s, (State.setPort p x s).recovery = s.recovery := fun _ _ _ => rfl
@[simp] theorem setPort_assigned : ∀ p x s, (State.setPort p x s).assigned = s.assigned := fun _ _ _ => rfl
@[simp] theorem setPort_entryTest : ∀ p x s, (State.setPort p x s).entryTest = s.entryTest := fun _ _ _ => rfl

/-! ### State.modPort -/

@[simp] theorem modPort_pending : ∀ p f s, (State.modPort p f s).pending = s.pending := fun _ _ _ => rfl
@[simp] theorem modPort_clockPart : ∀ p f s, (State.modPort p f s).toClockPart = s.toClockPart := fun _ _ _ => rfl
@[simp] theorem modPort_recordPart : ∀ p f s, (State.modPort p f s).toRecordPart = s.toRecordPart := fun _ _ _ => rfl
@[simp] theorem modPort_hearthPart : ∀ p f s, (State.modPort p f s).toHearthPart = s.toHearthPart := fun _ _ _ => rfl
@[simp] theorem modPort_memoryPart : ∀ p f s, (State.modPort p f s).toMemoryPart = s.toMemoryPart := fun _ _ _ => rfl
@[simp] theorem modPort_servingPart : ∀ p f s, (State.modPort p f s).toServingPart = s.toServingPart := fun _ _ _ => rfl
@[simp] theorem modPort_islandPart : ∀ p f s, (State.modPort p f s).toIslandPart = s.toIslandPart := fun _ _ _ => rfl
@[simp] theorem modPort_alwaysOnPart : ∀ p f s, (State.modPort p f s).toAlwaysOnPart = s.toAlwaysOnPart := fun _ _ _ => rfl
@[simp] theorem modPort_upkeepPart : ∀ p f s, (State.modPort p f s).toUpkeepPart = s.toUpkeepPart := fun _ _ _ => rfl
@[simp] theorem modPort_sending : ∀ p f s, (State.modPort p f s).sending = s.sending := fun _ _ _ => rfl
@[simp] theorem modPort_entryTested : ∀ p f s, (State.modPort p f s).entryTested = s.entryTested := fun _ _ _ => rfl
@[simp] theorem modPort_checkMarks : ∀ p f s, (State.modPort p f s).checkMarks = s.checkMarks := fun _ _ _ => rfl
@[simp] theorem modPort_doubtful : ∀ p f s, (State.modPort p f s).doubtful = s.doubtful := fun _ _ _ => rfl
@[simp] theorem modPort_syncing : ∀ p f s, (State.modPort p f s).syncing = s.syncing := fun _ _ _ => rfl
@[simp] theorem modPort_coveredAway : ∀ p f s, (State.modPort p f s).coveredAway = s.coveredAway := fun _ _ _ => rfl
@[simp] theorem modPort_retained : ∀ p f s, (State.modPort p f s).retained = s.retained := fun _ _ _ => rfl
@[simp] theorem modPort_receiving : ∀ p f s, (State.modPort p f s).receiving = s.receiving := fun _ _ _ => rfl
@[simp] theorem modPort_completed : ∀ p f s, (State.modPort p f s).completed = s.completed := fun _ _ _ => rfl
@[simp] theorem modPort_nextTid : ∀ p f s, (State.modPort p f s).nextTid = s.nextTid := fun _ _ _ => rfl
@[simp] theorem modPort_ready : ∀ p f s, (State.modPort p f s).ready = s.ready := fun _ _ _ => rfl
@[simp] theorem modPort_tableNext : ∀ p f s, (State.modPort p f s).tableNext = s.tableNext := fun _ _ _ => rfl
@[simp] theorem modPort_probes : ∀ p f s, (State.modPort p f s).probes = s.probes := fun _ _ _ => rfl
@[simp] theorem modPort_suspects : ∀ p f s, (State.modPort p f s).suspects = s.suspects := fun _ _ _ => rfl
@[simp] theorem modPort_heldResends : ∀ p f s, (State.modPort p f s).heldResends = s.heldResends := fun _ _ _ => rfl
@[simp] theorem modPort_declared : ∀ p f s, (State.modPort p f s).declared = s.declared := fun _ _ _ => rfl
@[simp] theorem modPort_forwarding : ∀ p f s, (State.modPort p f s).forwarding = s.forwarding := fun _ _ _ => rfl
@[simp] theorem modPort_tableOld : ∀ p f s, (State.modPort p f s).tableOld = s.tableOld := fun _ _ _ => rfl
@[simp] theorem modPort_tableAt : ∀ p f s, (State.modPort p f s).tableAt = s.tableAt := fun _ _ _ => rfl
@[simp] theorem modPort_mirrored : ∀ p f s, (State.modPort p f s).mirrored = s.mirrored := fun _ _ _ => rfl
@[simp] theorem modPort_shadow : ∀ p f s, (State.modPort p f s).shadow = s.shadow := fun _ _ _ => rfl
@[simp] theorem modPort_recovery : ∀ p f s, (State.modPort p f s).recovery = s.recovery := fun _ _ _ => rfl
@[simp] theorem modPort_assigned : ∀ p f s, (State.modPort p f s).assigned = s.assigned := fun _ _ _ => rfl
@[simp] theorem modPort_entryTest : ∀ p f s, (State.modPort p f s).entryTest = s.entryTest := fun _ _ _ => rfl

/-! ### State.setStep -/

@[simp] theorem setStep_pending : ∀ id x s, (State.setStep id x s).pending = s.pending := fun _ _ _ => rfl
@[simp] theorem setStep_clockPart : ∀ id x s, (State.setStep id x s).toClockPart = s.toClockPart := fun _ _ _ => rfl
@[simp] theorem setStep_recordPart : ∀ id x s, (State.setStep id x s).toRecordPart = s.toRecordPart := fun _ _ _ => rfl
@[simp] theorem setStep_memoryPart : ∀ id x s, (State.setStep id x s).toMemoryPart = s.toMemoryPart := fun _ _ _ => rfl
@[simp] theorem setStep_fabricPart : ∀ id x s, (State.setStep id x s).toFabricPart = s.toFabricPart := fun _ _ _ => rfl
@[simp] theorem setStep_servingPart : ∀ id x s, (State.setStep id x s).toServingPart = s.toServingPart := fun _ _ _ => rfl
@[simp] theorem setStep_islandPart : ∀ id x s, (State.setStep id x s).toIslandPart = s.toIslandPart := fun _ _ _ => rfl
@[simp] theorem setStep_alwaysOnPart : ∀ id x s, (State.setStep id x s).toAlwaysOnPart = s.toAlwaysOnPart := fun _ _ _ => rfl
@[simp] theorem setStep_upkeepPart : ∀ id x s, (State.setStep id x s).toUpkeepPart = s.toUpkeepPart := fun _ _ _ => rfl
@[simp] theorem setStep_hearths : ∀ id x s, (State.setStep id x s).hearths = s.hearths := fun _ _ _ => rfl
@[simp] theorem setStep_shadowRows : ∀ id x s, (State.setStep id x s).shadowRows = s.shadowRows := fun _ _ _ => rfl
@[simp] theorem setStep_bufStuck : ∀ id x s, (State.setStep id x s).bufStuck = s.bufStuck := fun _ _ _ => rfl
@[simp] theorem setStep_rwbOldBlobs : ∀ id x s, (State.setStep id x s).rwbOldBlobs = s.rwbOldBlobs := fun _ _ _ => rfl
@[simp] theorem setStep_rwbOld : ∀ id x s, (State.setStep id x s).rwbOld = s.rwbOld := fun _ _ _ => rfl
@[simp] theorem setStep_buf : ∀ id x s, (State.setStep id x s).buf = s.buf := fun _ _ _ => rfl
@[simp] theorem setStep_bufWritten : ∀ id x s, (State.setStep id x s).bufWritten = s.bufWritten := fun _ _ _ => rfl
@[simp] theorem setStep_bufWord : ∀ id x s, (State.setStep id x s).bufWord = s.bufWord := fun _ _ _ => rfl
@[simp] theorem setStep_bufBad : ∀ id x s, (State.setStep id x s).bufBad = s.bufBad := fun _ _ _ => rfl
@[simp] theorem setStep_writeBacks : ∀ id x s, (State.setStep id x s).writeBacks = s.writeBacks := fun _ _ _ => rfl
@[simp] theorem setStep_weights : ∀ id x s, (State.setStep id x s).weights = s.weights := fun _ _ _ => rfl
@[simp] theorem setStep_scales : ∀ id x s, (State.setStep id x s).scales = s.scales := fun _ _ _ => rfl
@[simp] theorem setStep_latches : ∀ id x s, (State.setStep id x s).latches = s.latches := fun _ _ _ => rfl
@[simp] theorem setStep_checks : ∀ id x s, (State.setStep id x s).checks = s.checks := fun _ _ _ => rfl
@[simp] theorem setStep_convOut : ∀ id x s, (State.setStep id x s).convOut = s.convOut := fun _ _ _ => rfl
@[simp] theorem setStep_settleFails : ∀ id x s, (State.setStep id x s).settleFails = s.settleFails := fun _ _ _ => rfl
@[simp] theorem setStep_flue : ∀ id x s, (State.setStep id x s).flue = s.flue := fun _ _ _ => rfl
@[simp] theorem setStep_residueLog : ∀ id x s, (State.setStep id x s).residueLog = s.residueLog := fun _ _ _ => rfl
@[simp] theorem setStep_layerImage : ∀ id x s, (State.setStep id x s).layerImage = s.layerImage := fun _ _ _ => rfl
@[simp] theorem setStep_usedSlots : ∀ id x s, (State.setStep id x s).usedSlots = s.usedSlots := fun _ _ _ => rfl
@[simp] theorem setStep_refSamples : ∀ id x s, (State.setStep id x s).refSamples = s.refSamples := fun _ _ _ => rfl
@[simp] theorem setStep_convPending : ∀ id x s, (State.setStep id x s).convPending = s.convPending := fun _ _ _ => rfl
@[simp] theorem setStep_offPending : ∀ id x s, (State.setStep id x s).offPending = s.offPending := fun _ _ _ => rfl
@[simp] theorem setStep_fencePending : ∀ id x s, (State.setStep id x s).fencePending = s.fencePending := fun _ _ _ => rfl
@[simp] theorem setStep_selfFailed : ∀ id x s, (State.setStep id x s).selfFailed = s.selfFailed := fun _ _ _ => rfl

/-! ### State.modStep -/

@[simp] theorem modStep_pending : ∀ id f s, (State.modStep id f s).pending = s.pending := fun _ _ _ => rfl
@[simp] theorem modStep_clockPart : ∀ id f s, (State.modStep id f s).toClockPart = s.toClockPart := fun _ _ _ => rfl
@[simp] theorem modStep_recordPart : ∀ id f s, (State.modStep id f s).toRecordPart = s.toRecordPart := fun _ _ _ => rfl
@[simp] theorem modStep_memoryPart : ∀ id f s, (State.modStep id f s).toMemoryPart = s.toMemoryPart := fun _ _ _ => rfl
@[simp] theorem modStep_fabricPart : ∀ id f s, (State.modStep id f s).toFabricPart = s.toFabricPart := fun _ _ _ => rfl
@[simp] theorem modStep_servingPart : ∀ id f s, (State.modStep id f s).toServingPart = s.toServingPart := fun _ _ _ => rfl
@[simp] theorem modStep_islandPart : ∀ id f s, (State.modStep id f s).toIslandPart = s.toIslandPart := fun _ _ _ => rfl
@[simp] theorem modStep_alwaysOnPart : ∀ id f s, (State.modStep id f s).toAlwaysOnPart = s.toAlwaysOnPart := fun _ _ _ => rfl
@[simp] theorem modStep_upkeepPart : ∀ id f s, (State.modStep id f s).toUpkeepPart = s.toUpkeepPart := fun _ _ _ => rfl
@[simp] theorem modStep_hearths : ∀ id f s, (State.modStep id f s).hearths = s.hearths := fun _ _ _ => rfl
@[simp] theorem modStep_shadowRows : ∀ id f s, (State.modStep id f s).shadowRows = s.shadowRows := fun _ _ _ => rfl
@[simp] theorem modStep_bufStuck : ∀ id f s, (State.modStep id f s).bufStuck = s.bufStuck := fun _ _ _ => rfl
@[simp] theorem modStep_rwbOldBlobs : ∀ id f s, (State.modStep id f s).rwbOldBlobs = s.rwbOldBlobs := fun _ _ _ => rfl
@[simp] theorem modStep_rwbOld : ∀ id f s, (State.modStep id f s).rwbOld = s.rwbOld := fun _ _ _ => rfl
@[simp] theorem modStep_buf : ∀ id f s, (State.modStep id f s).buf = s.buf := fun _ _ _ => rfl
@[simp] theorem modStep_bufWritten : ∀ id f s, (State.modStep id f s).bufWritten = s.bufWritten := fun _ _ _ => rfl
@[simp] theorem modStep_bufWord : ∀ id f s, (State.modStep id f s).bufWord = s.bufWord := fun _ _ _ => rfl
@[simp] theorem modStep_bufBad : ∀ id f s, (State.modStep id f s).bufBad = s.bufBad := fun _ _ _ => rfl
@[simp] theorem modStep_writeBacks : ∀ id f s, (State.modStep id f s).writeBacks = s.writeBacks := fun _ _ _ => rfl
@[simp] theorem modStep_weights : ∀ id f s, (State.modStep id f s).weights = s.weights := fun _ _ _ => rfl
@[simp] theorem modStep_scales : ∀ id f s, (State.modStep id f s).scales = s.scales := fun _ _ _ => rfl
@[simp] theorem modStep_latches : ∀ id f s, (State.modStep id f s).latches = s.latches := fun _ _ _ => rfl
@[simp] theorem modStep_checks : ∀ id f s, (State.modStep id f s).checks = s.checks := fun _ _ _ => rfl
@[simp] theorem modStep_convOut : ∀ id f s, (State.modStep id f s).convOut = s.convOut := fun _ _ _ => rfl
@[simp] theorem modStep_settleFails : ∀ id f s, (State.modStep id f s).settleFails = s.settleFails := fun _ _ _ => rfl
@[simp] theorem modStep_flue : ∀ id f s, (State.modStep id f s).flue = s.flue := fun _ _ _ => rfl
@[simp] theorem modStep_residueLog : ∀ id f s, (State.modStep id f s).residueLog = s.residueLog := fun _ _ _ => rfl
@[simp] theorem modStep_layerImage : ∀ id f s, (State.modStep id f s).layerImage = s.layerImage := fun _ _ _ => rfl
@[simp] theorem modStep_usedSlots : ∀ id f s, (State.modStep id f s).usedSlots = s.usedSlots := fun _ _ _ => rfl
@[simp] theorem modStep_refSamples : ∀ id f s, (State.modStep id f s).refSamples = s.refSamples := fun _ _ _ => rfl
@[simp] theorem modStep_convPending : ∀ id f s, (State.modStep id f s).convPending = s.convPending := fun _ _ _ => rfl
@[simp] theorem modStep_offPending : ∀ id f s, (State.modStep id f s).offPending = s.offPending := fun _ _ _ => rfl
@[simp] theorem modStep_fencePending : ∀ id f s, (State.modStep id f s).fencePending = s.fencePending := fun _ _ _ => rfl
@[simp] theorem modStep_selfFailed : ∀ id f s, (State.modStep id f s).selfFailed = s.selfFailed := fun _ _ _ => rfl

/-! ### State.answer -/

@[simp] theorem answer_pending : ∀ rq code s, (State.answer rq code s).pending = s.pending := fun _ _ _ => rfl
@[simp] theorem answer_clockPart : ∀ rq code s, (State.answer rq code s).toClockPart = s.toClockPart := fun _ _ _ => rfl
@[simp] theorem answer_hearthPart : ∀ rq code s, (State.answer rq code s).toHearthPart = s.toHearthPart := fun _ _ _ => rfl
@[simp] theorem answer_memoryPart : ∀ rq code s, (State.answer rq code s).toMemoryPart = s.toMemoryPart := fun _ _ _ => rfl
@[simp] theorem answer_fabricPart : ∀ rq code s, (State.answer rq code s).toFabricPart = s.toFabricPart := fun _ _ _ => rfl
@[simp] theorem answer_servingPart : ∀ rq code s, (State.answer rq code s).toServingPart = s.toServingPart := fun _ _ _ => rfl
@[simp] theorem answer_islandPart : ∀ rq code s, (State.answer rq code s).toIslandPart = s.toIslandPart := fun _ _ _ => rfl
@[simp] theorem answer_alwaysOnPart : ∀ rq code s, (State.answer rq code s).toAlwaysOnPart = s.toAlwaysOnPart := fun _ _ _ => rfl
@[simp] theorem answer_upkeepPart : ∀ rq code s, (State.answer rq code s).toUpkeepPart = s.toUpkeepPart := fun _ _ _ => rfl
@[simp] theorem answer_dict : ∀ rq code s, (State.answer rq code s).dict = s.dict := fun _ _ _ => rfl
@[simp] theorem answer_blobs : ∀ rq code s, (State.answer rq code s).blobs = s.blobs := fun _ _ _ => rfl
@[simp] theorem answer_out : ∀ rq code s, (State.answer rq code s).out = s.out := fun _ _ _ => rfl
@[simp] theorem answer_path0 : ∀ rq code s, (State.answer rq code s).path0 = s.path0 := fun _ _ _ => rfl
@[simp] theorem answer_path1 : ∀ rq code s, (State.answer rq code s).path1 = s.path1 := fun _ _ _ => rfl
@[simp] theorem answer_path2 : ∀ rq code s, (State.answer rq code s).path2 = s.path2 := fun _ _ _ => rfl
@[simp] theorem answer_path3 : ∀ rq code s, (State.answer rq code s).path3 = s.path3 := fun _ _ _ => rfl
@[simp] theorem answer_ringA : ∀ rq code s, (State.answer rq code s).ringA = s.ringA := fun _ _ _ => rfl
@[simp] theorem answer_ringB : ∀ rq code s, (State.answer rq code s).ringB = s.ringB := fun _ _ _ => rfl

/-! ### State.endCommand -/

@[simp] theorem endCommand_pending : ∀ idx sub result s, (State.endCommand idx sub result s).pending = s.pending := fun _ _ _ _ => rfl
@[simp] theorem endCommand_clockPart : ∀ idx sub result s, (State.endCommand idx sub result s).toClockPart = s.toClockPart := fun _ _ _ _ => rfl
@[simp] theorem endCommand_hearthPart : ∀ idx sub result s, (State.endCommand idx sub result s).toHearthPart = s.toHearthPart := fun _ _ _ _ => rfl
@[simp] theorem endCommand_memoryPart : ∀ idx sub result s, (State.endCommand idx sub result s).toMemoryPart = s.toMemoryPart := fun _ _ _ _ => rfl
@[simp] theorem endCommand_fabricPart : ∀ idx sub result s, (State.endCommand idx sub result s).toFabricPart = s.toFabricPart := fun _ _ _ _ => rfl
@[simp] theorem endCommand_servingPart : ∀ idx sub result s, (State.endCommand idx sub result s).toServingPart = s.toServingPart := fun _ _ _ _ => rfl
@[simp] theorem endCommand_islandPart : ∀ idx sub result s, (State.endCommand idx sub result s).toIslandPart = s.toIslandPart := fun _ _ _ _ => rfl
@[simp] theorem endCommand_alwaysOnPart : ∀ idx sub result s, (State.endCommand idx sub result s).toAlwaysOnPart = s.toAlwaysOnPart := fun _ _ _ _ => rfl
@[simp] theorem endCommand_upkeepPart : ∀ idx sub result s, (State.endCommand idx sub result s).toUpkeepPart = s.toUpkeepPart := fun _ _ _ _ => rfl
@[simp] theorem endCommand_blobs : ∀ idx sub result s, (State.endCommand idx sub result s).blobs = s.blobs := fun _ _ _ _ => rfl
@[simp] theorem endCommand_out : ∀ idx sub result s, (State.endCommand idx sub result s).out = s.out := fun _ _ _ _ => rfl
@[simp] theorem endCommand_path0 : ∀ idx sub result s, (State.endCommand idx sub result s).path0 = s.path0 := fun _ _ _ _ => rfl
@[simp] theorem endCommand_path1 : ∀ idx sub result s, (State.endCommand idx sub result s).path1 = s.path1 := fun _ _ _ _ => rfl
@[simp] theorem endCommand_path2 : ∀ idx sub result s, (State.endCommand idx sub result s).path2 = s.path2 := fun _ _ _ _ => rfl
@[simp] theorem endCommand_path3 : ∀ idx sub result s, (State.endCommand idx sub result s).path3 = s.path3 := fun _ _ _ _ => rfl
@[simp] theorem endCommand_ringA : ∀ idx sub result s, (State.endCommand idx sub result s).ringA = s.ringA := fun _ _ _ _ => rfl
@[simp] theorem endCommand_ringB : ∀ idx sub result s, (State.endCommand idx sub result s).ringB = s.ringB := fun _ _ _ _ => rfl
@[simp] theorem endCommand_results : ∀ idx sub result s, (State.endCommand idx sub result s).results = s.results := fun _ _ _ _ => rfl

/-! ### State.setHearth -/

@[simp] theorem setHearth_pending : ∀ h x s, (State.setHearth h x s).pending = s.pending := fun _ _ _ => rfl
@[simp] theorem setHearth_clockPart : ∀ h x s, (State.setHearth h x s).toClockPart = s.toClockPart := fun _ _ _ => rfl
@[simp] theorem setHearth_recordPart : ∀ h x s, (State.setHearth h x s).toRecordPart = s.toRecordPart := fun _ _ _ => rfl
@[simp] theorem setHearth_memoryPart : ∀ h x s, (State.setHearth h x s).toMemoryPart = s.toMemoryPart := fun _ _ _ => rfl
@[simp] theorem setHearth_fabricPart : ∀ h x s, (State.setHearth h x s).toFabricPart = s.toFabricPart := fun _ _ _ => rfl
@[simp] theorem setHearth_servingPart : ∀ h x s, (State.setHearth h x s).toServingPart = s.toServingPart := fun _ _ _ => rfl
@[simp] theorem setHearth_islandPart : ∀ h x s, (State.setHearth h x s).toIslandPart = s.toIslandPart := fun _ _ _ => rfl
@[simp] theorem setHearth_alwaysOnPart : ∀ h x s, (State.setHearth h x s).toAlwaysOnPart = s.toAlwaysOnPart := fun _ _ _ => rfl
@[simp] theorem setHearth_upkeepPart : ∀ h x s, (State.setHearth h x s).toUpkeepPart = s.toUpkeepPart := fun _ _ _ => rfl
@[simp] theorem setHearth_buf : ∀ h x s, (State.setHearth h x s).buf = s.buf := fun _ _ _ => rfl
@[simp] theorem setHearth_shadowRows : ∀ h x s, (State.setHearth h x s).shadowRows = s.shadowRows := fun _ _ _ => rfl
@[simp] theorem setHearth_bufStuck : ∀ h x s, (State.setHearth h x s).bufStuck = s.bufStuck := fun _ _ _ => rfl
@[simp] theorem setHearth_rwbOldBlobs : ∀ h x s, (State.setHearth h x s).rwbOldBlobs = s.rwbOldBlobs := fun _ _ _ => rfl
@[simp] theorem setHearth_rwbOld : ∀ h x s, (State.setHearth h x s).rwbOld = s.rwbOld := fun _ _ _ => rfl
@[simp] theorem setHearth_bufWritten : ∀ h x s, (State.setHearth h x s).bufWritten = s.bufWritten := fun _ _ _ => rfl
@[simp] theorem setHearth_bufWord : ∀ h x s, (State.setHearth h x s).bufWord = s.bufWord := fun _ _ _ => rfl
@[simp] theorem setHearth_bufBad : ∀ h x s, (State.setHearth h x s).bufBad = s.bufBad := fun _ _ _ => rfl
@[simp] theorem setHearth_writeBacks : ∀ h x s, (State.setHearth h x s).writeBacks = s.writeBacks := fun _ _ _ => rfl
@[simp] theorem setHearth_weights : ∀ h x s, (State.setHearth h x s).weights = s.weights := fun _ _ _ => rfl
@[simp] theorem setHearth_scales : ∀ h x s, (State.setHearth h x s).scales = s.scales := fun _ _ _ => rfl
@[simp] theorem setHearth_latches : ∀ h x s, (State.setHearth h x s).latches = s.latches := fun _ _ _ => rfl
@[simp] theorem setHearth_checks : ∀ h x s, (State.setHearth h x s).checks = s.checks := fun _ _ _ => rfl
@[simp] theorem setHearth_convOut : ∀ h x s, (State.setHearth h x s).convOut = s.convOut := fun _ _ _ => rfl
@[simp] theorem setHearth_settleFails : ∀ h x s, (State.setHearth h x s).settleFails = s.settleFails := fun _ _ _ => rfl
@[simp] theorem setHearth_flue : ∀ h x s, (State.setHearth h x s).flue = s.flue := fun _ _ _ => rfl
@[simp] theorem setHearth_steps : ∀ h x s, (State.setHearth h x s).steps = s.steps := fun _ _ _ => rfl
@[simp] theorem setHearth_residueLog : ∀ h x s, (State.setHearth h x s).residueLog = s.residueLog := fun _ _ _ => rfl
@[simp] theorem setHearth_layerImage : ∀ h x s, (State.setHearth h x s).layerImage = s.layerImage := fun _ _ _ => rfl
@[simp] theorem setHearth_usedSlots : ∀ h x s, (State.setHearth h x s).usedSlots = s.usedSlots := fun _ _ _ => rfl
@[simp] theorem setHearth_refSamples : ∀ h x s, (State.setHearth h x s).refSamples = s.refSamples := fun _ _ _ => rfl
@[simp] theorem setHearth_convPending : ∀ h x s, (State.setHearth h x s).convPending = s.convPending := fun _ _ _ => rfl
@[simp] theorem setHearth_offPending : ∀ h x s, (State.setHearth h x s).offPending = s.offPending := fun _ _ _ => rfl
@[simp] theorem setHearth_fencePending : ∀ h x s, (State.setHearth h x s).fencePending = s.fencePending := fun _ _ _ => rfl
@[simp] theorem setHearth_selfFailed : ∀ h x s, (State.setHearth h x s).selfFailed = s.selfFailed := fun _ _ _ => rfl

/-! ### State.modHearth -/

@[simp] theorem modHearth_pending : ∀ h f s, (State.modHearth h f s).pending = s.pending := fun _ _ _ => rfl
@[simp] theorem modHearth_clockPart : ∀ h f s, (State.modHearth h f s).toClockPart = s.toClockPart := fun _ _ _ => rfl
@[simp] theorem modHearth_recordPart : ∀ h f s, (State.modHearth h f s).toRecordPart = s.toRecordPart := fun _ _ _ => rfl
@[simp] theorem modHearth_memoryPart : ∀ h f s, (State.modHearth h f s).toMemoryPart = s.toMemoryPart := fun _ _ _ => rfl
@[simp] theorem modHearth_fabricPart : ∀ h f s, (State.modHearth h f s).toFabricPart = s.toFabricPart := fun _ _ _ => rfl
@[simp] theorem modHearth_servingPart : ∀ h f s, (State.modHearth h f s).toServingPart = s.toServingPart := fun _ _ _ => rfl
@[simp] theorem modHearth_islandPart : ∀ h f s, (State.modHearth h f s).toIslandPart = s.toIslandPart := fun _ _ _ => rfl
@[simp] theorem modHearth_alwaysOnPart : ∀ h f s, (State.modHearth h f s).toAlwaysOnPart = s.toAlwaysOnPart := fun _ _ _ => rfl
@[simp] theorem modHearth_upkeepPart : ∀ h f s, (State.modHearth h f s).toUpkeepPart = s.toUpkeepPart := fun _ _ _ => rfl
@[simp] theorem modHearth_buf : ∀ h f s, (State.modHearth h f s).buf = s.buf := fun _ _ _ => rfl
@[simp] theorem modHearth_shadowRows : ∀ h f s, (State.modHearth h f s).shadowRows = s.shadowRows := fun _ _ _ => rfl
@[simp] theorem modHearth_bufStuck : ∀ h f s, (State.modHearth h f s).bufStuck = s.bufStuck := fun _ _ _ => rfl
@[simp] theorem modHearth_rwbOldBlobs : ∀ h f s, (State.modHearth h f s).rwbOldBlobs = s.rwbOldBlobs := fun _ _ _ => rfl
@[simp] theorem modHearth_rwbOld : ∀ h f s, (State.modHearth h f s).rwbOld = s.rwbOld := fun _ _ _ => rfl
@[simp] theorem modHearth_bufWritten : ∀ h f s, (State.modHearth h f s).bufWritten = s.bufWritten := fun _ _ _ => rfl
@[simp] theorem modHearth_bufWord : ∀ h f s, (State.modHearth h f s).bufWord = s.bufWord := fun _ _ _ => rfl
@[simp] theorem modHearth_bufBad : ∀ h f s, (State.modHearth h f s).bufBad = s.bufBad := fun _ _ _ => rfl
@[simp] theorem modHearth_writeBacks : ∀ h f s, (State.modHearth h f s).writeBacks = s.writeBacks := fun _ _ _ => rfl
@[simp] theorem modHearth_weights : ∀ h f s, (State.modHearth h f s).weights = s.weights := fun _ _ _ => rfl
@[simp] theorem modHearth_scales : ∀ h f s, (State.modHearth h f s).scales = s.scales := fun _ _ _ => rfl
@[simp] theorem modHearth_latches : ∀ h f s, (State.modHearth h f s).latches = s.latches := fun _ _ _ => rfl
@[simp] theorem modHearth_checks : ∀ h f s, (State.modHearth h f s).checks = s.checks := fun _ _ _ => rfl
@[simp] theorem modHearth_convOut : ∀ h f s, (State.modHearth h f s).convOut = s.convOut := fun _ _ _ => rfl
@[simp] theorem modHearth_settleFails : ∀ h f s, (State.modHearth h f s).settleFails = s.settleFails := fun _ _ _ => rfl
@[simp] theorem modHearth_flue : ∀ h f s, (State.modHearth h f s).flue = s.flue := fun _ _ _ => rfl
@[simp] theorem modHearth_steps : ∀ h f s, (State.modHearth h f s).steps = s.steps := fun _ _ _ => rfl
@[simp] theorem modHearth_residueLog : ∀ h f s, (State.modHearth h f s).residueLog = s.residueLog := fun _ _ _ => rfl
@[simp] theorem modHearth_layerImage : ∀ h f s, (State.modHearth h f s).layerImage = s.layerImage := fun _ _ _ => rfl
@[simp] theorem modHearth_usedSlots : ∀ h f s, (State.modHearth h f s).usedSlots = s.usedSlots := fun _ _ _ => rfl
@[simp] theorem modHearth_refSamples : ∀ h f s, (State.modHearth h f s).refSamples = s.refSamples := fun _ _ _ => rfl
@[simp] theorem modHearth_convPending : ∀ h f s, (State.modHearth h f s).convPending = s.convPending := fun _ _ _ => rfl
@[simp] theorem modHearth_offPending : ∀ h f s, (State.modHearth h f s).offPending = s.offPending := fun _ _ _ => rfl
@[simp] theorem modHearth_fencePending : ∀ h f s, (State.modHearth h f s).fencePending = s.fencePending := fun _ _ _ => rfl
@[simp] theorem modHearth_selfFailed : ∀ h f s, (State.modHearth h f s).selfFailed = s.selfFailed := fun _ _ _ => rfl

/-! ### State.setReq -/

@[simp] theorem setReq_pending : ∀ n r s, (State.setReq n r s).pending = s.pending := fun _ _ _ => rfl
@[simp] theorem setReq_clockPart : ∀ n r s, (State.setReq n r s).toClockPart = s.toClockPart := fun _ _ _ => rfl
@[simp] theorem setReq_recordPart : ∀ n r s, (State.setReq n r s).toRecordPart = s.toRecordPart := fun _ _ _ => rfl
@[simp] theorem setReq_hearthPart : ∀ n r s, (State.setReq n r s).toHearthPart = s.toHearthPart := fun _ _ _ => rfl
@[simp] theorem setReq_memoryPart : ∀ n r s, (State.setReq n r s).toMemoryPart = s.toMemoryPart := fun _ _ _ => rfl
@[simp] theorem setReq_fabricPart : ∀ n r s, (State.setReq n r s).toFabricPart = s.toFabricPart := fun _ _ _ => rfl
@[simp] theorem setReq_islandPart : ∀ n r s, (State.setReq n r s).toIslandPart = s.toIslandPart := fun _ _ _ => rfl
@[simp] theorem setReq_alwaysOnPart : ∀ n r s, (State.setReq n r s).toAlwaysOnPart = s.toAlwaysOnPart := fun _ _ _ => rfl
@[simp] theorem setReq_upkeepPart : ∀ n r s, (State.setReq n r s).toUpkeepPart = s.toUpkeepPart := fun _ _ _ => rfl
@[simp] theorem setReq_nextReq : ∀ n r s, (State.setReq n r s).nextReq = s.nextReq := fun _ _ _ => rfl
@[simp] theorem setReq_gramAwait : ∀ n r s, (State.setReq n r s).gramAwait = s.gramAwait := fun _ _ _ => rfl
@[simp] theorem setReq_selectedAt : ∀ n r s, (State.setReq n r s).selectedAt = s.selectedAt := fun _ _ _ => rfl
@[simp] theorem setReq_nextCtx : ∀ n r s, (State.setReq n r s).nextCtx = s.nextCtx := fun _ _ _ => rfl
@[simp] theorem setReq_nextStep : ∀ n r s, (State.setReq n r s).nextStep = s.nextStep := fun _ _ _ => rfl
@[simp] theorem setReq_nextOrder : ∀ n r s, (State.setReq n r s).nextOrder = s.nextOrder := fun _ _ _ => rfl
@[simp] theorem setReq_kept : ∀ n r s, (State.setReq n r s).kept = s.kept := fun _ _ _ => rfl
@[simp] theorem setReq_prefillEdges : ∀ n r s, (State.setReq n r s).prefillEdges = s.prefillEdges := fun _ _ _ => rfl
@[simp] theorem setReq_qps : ∀ n r s, (State.setReq n r s).qps = s.qps := fun _ _ _ => rfl
@[simp] theorem setReq_eventCause : ∀ n r s, (State.setReq n r s).eventCause = s.eventCause := fun _ _ _ => rfl
@[simp] theorem setReq_mailboxes : ∀ n r s, (State.setReq n r s).mailboxes = s.mailboxes := fun _ _ _ => rfl
@[simp] theorem setReq_samplers : ∀ n r s, (State.setReq n r s).samplers = s.samplers := fun _ _ _ => rfl
@[simp] theorem setReq_retiredGens : ∀ n r s, (State.setReq n r s).retiredGens = s.retiredGens := fun _ _ _ => rfl
@[simp] theorem setReq_switchTo : ∀ n r s, (State.setReq n r s).switchTo = s.switchTo := fun _ _ _ => rfl
@[simp] theorem setReq_barrierAuto : ∀ n r s, (State.setReq n r s).barrierAuto = s.barrierAuto := fun _ _ _ => rfl
@[simp] theorem setReq_holdFor : ∀ n r s, (State.setReq n r s).holdFor = s.holdFor := fun _ _ _ => rfl
@[simp] theorem setReq_heldAt : ∀ n r s, (State.setReq n r s).heldAt = s.heldAt := fun _ _ _ => rfl

/-! ### State.modQp -/

@[simp] theorem modQp_pending : ∀ k f s, (State.modQp k f s).pending = s.pending := fun _ _ _ => rfl
@[simp] theorem modQp_clockPart : ∀ k f s, (State.modQp k f s).toClockPart = s.toClockPart := fun _ _ _ => rfl
@[simp] theorem modQp_recordPart : ∀ k f s, (State.modQp k f s).toRecordPart = s.toRecordPart := fun _ _ _ => rfl
@[simp] theorem modQp_hearthPart : ∀ k f s, (State.modQp k f s).toHearthPart = s.toHearthPart := fun _ _ _ => rfl
@[simp] theorem modQp_memoryPart : ∀ k f s, (State.modQp k f s).toMemoryPart = s.toMemoryPart := fun _ _ _ => rfl
@[simp] theorem modQp_fabricPart : ∀ k f s, (State.modQp k f s).toFabricPart = s.toFabricPart := fun _ _ _ => rfl
@[simp] theorem modQp_islandPart : ∀ k f s, (State.modQp k f s).toIslandPart = s.toIslandPart := fun _ _ _ => rfl
@[simp] theorem modQp_alwaysOnPart : ∀ k f s, (State.modQp k f s).toAlwaysOnPart = s.toAlwaysOnPart := fun _ _ _ => rfl
@[simp] theorem modQp_upkeepPart : ∀ k f s, (State.modQp k f s).toUpkeepPart = s.toUpkeepPart := fun _ _ _ => rfl
@[simp] theorem modQp_requests : ∀ k f s, (State.modQp k f s).requests = s.requests := fun _ _ _ => rfl
@[simp] theorem modQp_gramAwait : ∀ k f s, (State.modQp k f s).gramAwait = s.gramAwait := fun _ _ _ => rfl
@[simp] theorem modQp_selectedAt : ∀ k f s, (State.modQp k f s).selectedAt = s.selectedAt := fun _ _ _ => rfl
@[simp] theorem modQp_nextReq : ∀ k f s, (State.modQp k f s).nextReq = s.nextReq := fun _ _ _ => rfl
@[simp] theorem modQp_nextCtx : ∀ k f s, (State.modQp k f s).nextCtx = s.nextCtx := fun _ _ _ => rfl
@[simp] theorem modQp_nextStep : ∀ k f s, (State.modQp k f s).nextStep = s.nextStep := fun _ _ _ => rfl
@[simp] theorem modQp_nextOrder : ∀ k f s, (State.modQp k f s).nextOrder = s.nextOrder := fun _ _ _ => rfl
@[simp] theorem modQp_kept : ∀ k f s, (State.modQp k f s).kept = s.kept := fun _ _ _ => rfl
@[simp] theorem modQp_prefillEdges : ∀ k f s, (State.modQp k f s).prefillEdges = s.prefillEdges := fun _ _ _ => rfl
@[simp] theorem modQp_eventCause : ∀ k f s, (State.modQp k f s).eventCause = s.eventCause := fun _ _ _ => rfl
@[simp] theorem modQp_mailboxes : ∀ k f s, (State.modQp k f s).mailboxes = s.mailboxes := fun _ _ _ => rfl
@[simp] theorem modQp_samplers : ∀ k f s, (State.modQp k f s).samplers = s.samplers := fun _ _ _ => rfl
@[simp] theorem modQp_retiredGens : ∀ k f s, (State.modQp k f s).retiredGens = s.retiredGens := fun _ _ _ => rfl
@[simp] theorem modQp_switchTo : ∀ k f s, (State.modQp k f s).switchTo = s.switchTo := fun _ _ _ => rfl
@[simp] theorem modQp_barrierAuto : ∀ k f s, (State.modQp k f s).barrierAuto = s.barrierAuto := fun _ _ _ => rfl
@[simp] theorem modQp_holdFor : ∀ k f s, (State.modQp k f s).holdFor = s.holdFor := fun _ _ _ => rfl
@[simp] theorem modQp_heldAt : ∀ k f s, (State.modQp k f s).heldAt = s.heldAt := fun _ _ _ => rfl

/-! ### State.setQpStat -/

@[simp] theorem setQpStat_pending : ∀ k f v s, (State.setQpStat k f v s).pending = s.pending := fun _ _ _ _ => rfl
@[simp] theorem setQpStat_clockPart : ∀ k f v s, (State.setQpStat k f v s).toClockPart = s.toClockPart := fun _ _ _ _ => rfl
@[simp] theorem setQpStat_hearthPart : ∀ k f v s, (State.setQpStat k f v s).toHearthPart = s.toHearthPart := fun _ _ _ _ => rfl
@[simp] theorem setQpStat_memoryPart : ∀ k f v s, (State.setQpStat k f v s).toMemoryPart = s.toMemoryPart := fun _ _ _ _ => rfl
@[simp] theorem setQpStat_fabricPart : ∀ k f v s, (State.setQpStat k f v s).toFabricPart = s.toFabricPart := fun _ _ _ _ => rfl
@[simp] theorem setQpStat_servingPart : ∀ k f v s, (State.setQpStat k f v s).toServingPart = s.toServingPart := fun _ _ _ _ => rfl
@[simp] theorem setQpStat_islandPart : ∀ k f v s, (State.setQpStat k f v s).toIslandPart = s.toIslandPart := fun _ _ _ _ => rfl
@[simp] theorem setQpStat_alwaysOnPart : ∀ k f v s, (State.setQpStat k f v s).toAlwaysOnPart = s.toAlwaysOnPart := fun _ _ _ _ => rfl
@[simp] theorem setQpStat_upkeepPart : ∀ k f v s, (State.setQpStat k f v s).toUpkeepPart = s.toUpkeepPart := fun _ _ _ _ => rfl
@[simp] theorem setQpStat_blobs : ∀ k f v s, (State.setQpStat k f v s).blobs = s.blobs := fun _ _ _ _ => rfl
@[simp] theorem setQpStat_out : ∀ k f v s, (State.setQpStat k f v s).out = s.out := fun _ _ _ _ => rfl
@[simp] theorem setQpStat_path0 : ∀ k f v s, (State.setQpStat k f v s).path0 = s.path0 := fun _ _ _ _ => rfl
@[simp] theorem setQpStat_path1 : ∀ k f v s, (State.setQpStat k f v s).path1 = s.path1 := fun _ _ _ _ => rfl
@[simp] theorem setQpStat_path2 : ∀ k f v s, (State.setQpStat k f v s).path2 = s.path2 := fun _ _ _ _ => rfl
@[simp] theorem setQpStat_path3 : ∀ k f v s, (State.setQpStat k f v s).path3 = s.path3 := fun _ _ _ _ => rfl
@[simp] theorem setQpStat_ringA : ∀ k f v s, (State.setQpStat k f v s).ringA = s.ringA := fun _ _ _ _ => rfl
@[simp] theorem setQpStat_ringB : ∀ k f v s, (State.setQpStat k f v s).ringB = s.ringB := fun _ _ _ _ => rfl
@[simp] theorem setQpStat_results : ∀ k f v s, (State.setQpStat k f v s).results = s.results := fun _ _ _ _ => rfl

/-! ### State.setConn -/

@[simp] theorem setConn_pending : ∀ c x s, (State.setConn c x s).pending = s.pending := fun _ _ _ => rfl
@[simp] theorem setConn_clockPart : ∀ c x s, (State.setConn c x s).toClockPart = s.toClockPart := fun _ _ _ => rfl
@[simp] theorem setConn_recordPart : ∀ c x s, (State.setConn c x s).toRecordPart = s.toRecordPart := fun _ _ _ => rfl
@[simp] theorem setConn_hearthPart : ∀ c x s, (State.setConn c x s).toHearthPart = s.toHearthPart := fun _ _ _ => rfl
@[simp] theorem setConn_memoryPart : ∀ c x s, (State.setConn c x s).toMemoryPart = s.toMemoryPart := fun _ _ _ => rfl
@[simp] theorem setConn_fabricPart : ∀ c x s, (State.setConn c x s).toFabricPart = s.toFabricPart := fun _ _ _ => rfl
@[simp] theorem setConn_servingPart : ∀ c x s, (State.setConn c x s).toServingPart = s.toServingPart := fun _ _ _ => rfl
@[simp] theorem setConn_alwaysOnPart : ∀ c x s, (State.setConn c x s).toAlwaysOnPart = s.toAlwaysOnPart := fun _ _ _ => rfl
@[simp] theorem setConn_upkeepPart : ∀ c x s, (State.setConn c x s).toUpkeepPart = s.toUpkeepPart := fun _ _ _ => rfl
@[simp] theorem setConn_sensorUse : ∀ c x s, (State.setConn c x s).sensorUse = s.sensorUse := fun _ _ _ => rfl
@[simp] theorem setConn_hkLatest : ∀ c x s, (State.setConn c x s).hkLatest = s.hkLatest := fun _ _ _ => rfl
@[simp] theorem setConn_laneMainNormal : ∀ c x s, (State.setConn c x s).laneMainNormal = s.laneMainNormal := fun _ _ _ => rfl
@[simp] theorem setConn_laneMainUrgent : ∀ c x s, (State.setConn c x s).laneMainUrgent = s.laneMainUrgent := fun _ _ _ => rfl
@[simp] theorem setConn_laneIslandNormal : ∀ c x s, (State.setConn c x s).laneIslandNormal = s.laneIslandNormal := fun _ _ _ => rfl
@[simp] theorem setConn_laneIslandUrgent : ∀ c x s, (State.setConn c x s).laneIslandUrgent = s.laneIslandUrgent := fun _ _ _ => rfl
@[simp] theorem setConn_islandLost : ∀ c x s, (State.setConn c x s).islandLost = s.islandLost := fun _ _ _ => rfl
@[simp] theorem setConn_lostQueue : ∀ c x s, (State.setConn c x s).lostQueue = s.lostQueue := fun _ _ _ => rfl
@[simp] theorem setConn_islandAt : ∀ c x s, (State.setConn c x s).islandAt = s.islandAt := fun _ _ _ => rfl
@[simp] theorem setConn_boot : ∀ c x s, (State.setConn c x s).boot = s.boot := fun _ _ _ => rfl
@[simp] theorem setConn_streamed : ∀ c x s, (State.setConn c x s).streamed = s.streamed := fun _ _ _ => rfl
@[simp] theorem setConn_integrity : ∀ c x s, (State.setConn c x s).integrity = s.integrity := fun _ _ _ => rfl
@[simp] theorem setConn_noaWaits : ∀ c x s, (State.setConn c x s).noaWaits = s.noaWaits := fun _ _ _ => rfl
@[simp] theorem setConn_nextCorr : ∀ c x s, (State.setConn c x s).nextCorr = s.nextCorr := fun _ _ _ => rfl
@[simp] theorem setConn_islandHeard : ∀ c x s, (State.setConn c x s).islandHeard = s.islandHeard := fun _ _ _ => rfl
@[simp] theorem setConn_mainHeard : ∀ c x s, (State.setConn c x s).mainHeard = s.mainHeard := fun _ _ _ => rfl
@[simp] theorem setConn_hangAlarmed : ∀ c x s, (State.setConn c x s).hangAlarmed = s.hangAlarmed := fun _ _ _ => rfl
@[simp] theorem setConn_journal : ∀ c x s, (State.setConn c x s).journal = s.journal := fun _ _ _ => rfl
@[simp] theorem setConn_journalFull : ∀ c x s, (State.setConn c x s).journalFull = s.journalFull := fun _ _ _ => rfl
@[simp] theorem setConn_thermalHold : ∀ c x s, (State.setConn c x s).thermalHold = s.thermalHold := fun _ _ _ => rfl
@[simp] theorem setConn_storedNext : ∀ c x s, (State.setConn c x s).storedNext = s.storedNext := fun _ _ _ => rfl
@[simp] theorem setConn_mgmtFrom : ∀ c x s, (State.setConn c x s).mgmtFrom = s.mgmtFrom := fun _ _ _ => rfl
@[simp] theorem setConn_blobSoFar : ∀ c x s, (State.setConn c x s).blobSoFar = s.blobSoFar := fun _ _ _ => rfl

/-! ### State.setCal -/

@[simp] theorem setCal_pending : ∀ h f v s, (State.setCal h f v s).pending = s.pending := fun _ _ _ _ => rfl
@[simp] theorem setCal_clockPart : ∀ h f v s, (State.setCal h f v s).toClockPart = s.toClockPart := fun _ _ _ _ => rfl
@[simp] theorem setCal_hearthPart : ∀ h f v s, (State.setCal h f v s).toHearthPart = s.toHearthPart := fun _ _ _ _ => rfl
@[simp] theorem setCal_memoryPart : ∀ h f v s, (State.setCal h f v s).toMemoryPart = s.toMemoryPart := fun _ _ _ _ => rfl
@[simp] theorem setCal_fabricPart : ∀ h f v s, (State.setCal h f v s).toFabricPart = s.toFabricPart := fun _ _ _ _ => rfl
@[simp] theorem setCal_servingPart : ∀ h f v s, (State.setCal h f v s).toServingPart = s.toServingPart := fun _ _ _ _ => rfl
@[simp] theorem setCal_islandPart : ∀ h f v s, (State.setCal h f v s).toIslandPart = s.toIslandPart := fun _ _ _ _ => rfl
@[simp] theorem setCal_alwaysOnPart : ∀ h f v s, (State.setCal h f v s).toAlwaysOnPart = s.toAlwaysOnPart := fun _ _ _ _ => rfl
@[simp] theorem setCal_upkeepPart : ∀ h f v s, (State.setCal h f v s).toUpkeepPart = s.toUpkeepPart := fun _ _ _ _ => rfl
@[simp] theorem setCal_blobs : ∀ h f v s, (State.setCal h f v s).blobs = s.blobs := fun _ _ _ _ => rfl
@[simp] theorem setCal_out : ∀ h f v s, (State.setCal h f v s).out = s.out := fun _ _ _ _ => rfl
@[simp] theorem setCal_path0 : ∀ h f v s, (State.setCal h f v s).path0 = s.path0 := fun _ _ _ _ => rfl
@[simp] theorem setCal_path1 : ∀ h f v s, (State.setCal h f v s).path1 = s.path1 := fun _ _ _ _ => rfl
@[simp] theorem setCal_path2 : ∀ h f v s, (State.setCal h f v s).path2 = s.path2 := fun _ _ _ _ => rfl
@[simp] theorem setCal_path3 : ∀ h f v s, (State.setCal h f v s).path3 = s.path3 := fun _ _ _ _ => rfl
@[simp] theorem setCal_ringA : ∀ h f v s, (State.setCal h f v s).ringA = s.ringA := fun _ _ _ _ => rfl
@[simp] theorem setCal_ringB : ∀ h f v s, (State.setCal h f v s).ringB = s.ringB := fun _ _ _ _ => rfl
@[simp] theorem setCal_results : ∀ h f v s, (State.setCal h f v s).results = s.results := fun _ _ _ _ => rfl

/-! ### State.setPortState -/

@[simp] theorem setPortState_pending : ∀ p v s, (State.setPortState p v s).pending = s.pending := fun _ _ _ => rfl
@[simp] theorem setPortState_clockPart : ∀ p v s, (State.setPortState p v s).toClockPart = s.toClockPart := fun _ _ _ => rfl
@[simp] theorem setPortState_hearthPart : ∀ p v s, (State.setPortState p v s).toHearthPart = s.toHearthPart := fun _ _ _ => rfl
@[simp] theorem setPortState_memoryPart : ∀ p v s, (State.setPortState p v s).toMemoryPart = s.toMemoryPart := fun _ _ _ => rfl
@[simp] theorem setPortState_fabricPart : ∀ p v s, (State.setPortState p v s).toFabricPart = s.toFabricPart := fun _ _ _ => rfl
@[simp] theorem setPortState_servingPart : ∀ p v s, (State.setPortState p v s).toServingPart = s.toServingPart := fun _ _ _ => rfl
@[simp] theorem setPortState_islandPart : ∀ p v s, (State.setPortState p v s).toIslandPart = s.toIslandPart := fun _ _ _ => rfl
@[simp] theorem setPortState_alwaysOnPart : ∀ p v s, (State.setPortState p v s).toAlwaysOnPart = s.toAlwaysOnPart := fun _ _ _ => rfl
@[simp] theorem setPortState_upkeepPart : ∀ p v s, (State.setPortState p v s).toUpkeepPart = s.toUpkeepPart := fun _ _ _ => rfl
@[simp] theorem setPortState_blobs : ∀ p v s, (State.setPortState p v s).blobs = s.blobs := fun _ _ _ => rfl
@[simp] theorem setPortState_out : ∀ p v s, (State.setPortState p v s).out = s.out := fun _ _ _ => rfl
@[simp] theorem setPortState_path0 : ∀ p v s, (State.setPortState p v s).path0 = s.path0 := fun _ _ _ => rfl
@[simp] theorem setPortState_path1 : ∀ p v s, (State.setPortState p v s).path1 = s.path1 := fun _ _ _ => rfl
@[simp] theorem setPortState_path2 : ∀ p v s, (State.setPortState p v s).path2 = s.path2 := fun _ _ _ => rfl
@[simp] theorem setPortState_path3 : ∀ p v s, (State.setPortState p v s).path3 = s.path3 := fun _ _ _ => rfl
@[simp] theorem setPortState_ringA : ∀ p v s, (State.setPortState p v s).ringA = s.ringA := fun _ _ _ => rfl
@[simp] theorem setPortState_ringB : ∀ p v s, (State.setPortState p v s).ringB = s.ringB := fun _ _ _ => rfl
@[simp] theorem setPortState_results : ∀ p v s, (State.setPortState p v s).results = s.results := fun _ _ _ => rfl

/-! ### State.setTestState -/

@[simp] theorem setTestState_pending : ∀ h v s, (State.setTestState h v s).pending = s.pending := fun _ _ _ => rfl
@[simp] theorem setTestState_clockPart : ∀ h v s, (State.setTestState h v s).toClockPart = s.toClockPart := fun _ _ _ => rfl
@[simp] theorem setTestState_hearthPart : ∀ h v s, (State.setTestState h v s).toHearthPart = s.toHearthPart := fun _ _ _ => rfl
@[simp] theorem setTestState_memoryPart : ∀ h v s, (State.setTestState h v s).toMemoryPart = s.toMemoryPart := fun _ _ _ => rfl
@[simp] theorem setTestState_fabricPart : ∀ h v s, (State.setTestState h v s).toFabricPart = s.toFabricPart := fun _ _ _ => rfl
@[simp] theorem setTestState_servingPart : ∀ h v s, (State.setTestState h v s).toServingPart = s.toServingPart := fun _ _ _ => rfl
@[simp] theorem setTestState_islandPart : ∀ h v s, (State.setTestState h v s).toIslandPart = s.toIslandPart := fun _ _ _ => rfl
@[simp] theorem setTestState_alwaysOnPart : ∀ h v s, (State.setTestState h v s).toAlwaysOnPart = s.toAlwaysOnPart := fun _ _ _ => rfl
@[simp] theorem setTestState_upkeepPart : ∀ h v s, (State.setTestState h v s).toUpkeepPart = s.toUpkeepPart := fun _ _ _ => rfl
@[simp] theorem setTestState_blobs : ∀ h v s, (State.setTestState h v s).blobs = s.blobs := fun _ _ _ => rfl
@[simp] theorem setTestState_out : ∀ h v s, (State.setTestState h v s).out = s.out := fun _ _ _ => rfl
@[simp] theorem setTestState_path0 : ∀ h v s, (State.setTestState h v s).path0 = s.path0 := fun _ _ _ => rfl
@[simp] theorem setTestState_path1 : ∀ h v s, (State.setTestState h v s).path1 = s.path1 := fun _ _ _ => rfl
@[simp] theorem setTestState_path2 : ∀ h v s, (State.setTestState h v s).path2 = s.path2 := fun _ _ _ => rfl
@[simp] theorem setTestState_path3 : ∀ h v s, (State.setTestState h v s).path3 = s.path3 := fun _ _ _ => rfl
@[simp] theorem setTestState_ringA : ∀ h v s, (State.setTestState h v s).ringA = s.ringA := fun _ _ _ => rfl
@[simp] theorem setTestState_ringB : ∀ h v s, (State.setTestState h v s).ringB = s.ringB := fun _ _ _ => rfl
@[simp] theorem setTestState_results : ∀ h v s, (State.setTestState h v s).results = s.results := fun _ _ _ => rfl

/-! ### State.cleanSlot -/

@[simp] theorem cleanSlot_pending : ∀ f t s, (State.cleanSlot f t s).pending = s.pending := fun _ _ _ => rfl
@[simp] theorem cleanSlot_clockPart : ∀ f t s, (State.cleanSlot f t s).toClockPart = s.toClockPart := fun _ _ _ => rfl
@[simp] theorem cleanSlot_recordPart : ∀ f t s, (State.cleanSlot f t s).toRecordPart = s.toRecordPart := fun _ _ _ => rfl
@[simp] theorem cleanSlot_hearthPart : ∀ f t s, (State.cleanSlot f t s).toHearthPart = s.toHearthPart := fun _ _ _ => rfl
@[simp] theorem cleanSlot_fabricPart : ∀ f t s, (State.cleanSlot f t s).toFabricPart = s.toFabricPart := fun _ _ _ => rfl
@[simp] theorem cleanSlot_servingPart : ∀ f t s, (State.cleanSlot f t s).toServingPart = s.toServingPart := fun _ _ _ => rfl
@[simp] theorem cleanSlot_islandPart : ∀ f t s, (State.cleanSlot f t s).toIslandPart = s.toIslandPart := fun _ _ _ => rfl
@[simp] theorem cleanSlot_alwaysOnPart : ∀ f t s, (State.cleanSlot f t s).toAlwaysOnPart = s.toAlwaysOnPart := fun _ _ _ => rfl
@[simp] theorem cleanSlot_upkeepPart : ∀ f t s, (State.cleanSlot f t s).toUpkeepPart = s.toUpkeepPart := fun _ _ _ => rfl
@[simp] theorem cleanSlot_stack : ∀ f t s, (State.cleanSlot f t s).stack = s.stack := fun _ _ _ => rfl
@[simp] theorem cleanSlot_stackBad : ∀ f t s, (State.cleanSlot f t s).stackBad = s.stackBad := fun _ _ _ => rfl
@[simp] theorem cleanSlot_tierWaits : ∀ f t s, (State.cleanSlot f t s).tierWaits = s.tierWaits := fun _ _ _ => rfl
@[simp] theorem cleanSlot_pages : ∀ f t s, (State.cleanSlot f t s).pages = s.pages := fun _ _ _ => rfl
@[simp] theorem cleanSlot_retired : ∀ f t s, (State.cleanSlot f t s).retired = s.retired := fun _ _ _ => rfl
@[simp] theorem cleanSlot_retiredSoft : ∀ f t s, (State.cleanSlot f t s).retiredSoft = s.retiredSoft := fun _ _ _ => rfl
@[simp] theorem cleanSlot_staging : ∀ f t s, (State.cleanSlot f t s).staging = s.staging := fun _ _ _ => rfl
@[simp] theorem cleanSlot_ctxs : ∀ f t s, (State.cleanSlot f t s).ctxs = s.ctxs := fun _ _ _ => rfl
@[simp] theorem cleanSlot_attnQueue : ∀ f t s, (State.cleanSlot f t s).attnQueue = s.attnQueue := fun _ _ _ => rfl
@[simp] theorem cleanSlot_tiers : ∀ f t s, (State.cleanSlot f t s).tiers = s.tiers := fun _ _ _ => rfl
@[simp] theorem cleanSlot_reads : ∀ f t s, (State.cleanSlot f t s).reads = s.reads := fun _ _ _ => rfl
@[simp] theorem cleanSlot_nextRead : ∀ f t s, (State.cleanSlot f t s).nextRead = s.nextRead := fun _ _ _ => rfl

/-! ### State.writeStack -/

@[simp] theorem writeStack_pending : ∀ addr bs s, (State.writeStack addr bs s).pending = s.pending := fun _ _ _ => rfl
@[simp] theorem writeStack_clockPart : ∀ addr bs s, (State.writeStack addr bs s).toClockPart = s.toClockPart := fun _ _ _ => rfl
@[simp] theorem writeStack_recordPart : ∀ addr bs s, (State.writeStack addr bs s).toRecordPart = s.toRecordPart := fun _ _ _ => rfl
@[simp] theorem writeStack_hearthPart : ∀ addr bs s, (State.writeStack addr bs s).toHearthPart = s.toHearthPart := fun _ _ _ => rfl
@[simp] theorem writeStack_fabricPart : ∀ addr bs s, (State.writeStack addr bs s).toFabricPart = s.toFabricPart := fun _ _ _ => rfl
@[simp] theorem writeStack_servingPart : ∀ addr bs s, (State.writeStack addr bs s).toServingPart = s.toServingPart := fun _ _ _ => rfl
@[simp] theorem writeStack_islandPart : ∀ addr bs s, (State.writeStack addr bs s).toIslandPart = s.toIslandPart := fun _ _ _ => rfl
@[simp] theorem writeStack_alwaysOnPart : ∀ addr bs s, (State.writeStack addr bs s).toAlwaysOnPart = s.toAlwaysOnPart := fun _ _ _ => rfl
@[simp] theorem writeStack_upkeepPart : ∀ addr bs s, (State.writeStack addr bs s).toUpkeepPart = s.toUpkeepPart := fun _ _ _ => rfl
@[simp] theorem writeStack_pages : ∀ addr bs s, (State.writeStack addr bs s).pages = s.pages := fun _ _ _ => rfl
@[simp] theorem writeStack_tierWaits : ∀ addr bs s, (State.writeStack addr bs s).tierWaits = s.tierWaits := fun _ _ _ => rfl
@[simp] theorem writeStack_retired : ∀ addr bs s, (State.writeStack addr bs s).retired = s.retired := fun _ _ _ => rfl
@[simp] theorem writeStack_retiredSoft : ∀ addr bs s, (State.writeStack addr bs s).retiredSoft = s.retiredSoft := fun _ _ _ => rfl
@[simp] theorem writeStack_staging : ∀ addr bs s, (State.writeStack addr bs s).staging = s.staging := fun _ _ _ => rfl
@[simp] theorem writeStack_ctxs : ∀ addr bs s, (State.writeStack addr bs s).ctxs = s.ctxs := fun _ _ _ => rfl
@[simp] theorem writeStack_attnQueue : ∀ addr bs s, (State.writeStack addr bs s).attnQueue = s.attnQueue := fun _ _ _ => rfl
@[simp] theorem writeStack_tiers : ∀ addr bs s, (State.writeStack addr bs s).tiers = s.tiers := fun _ _ _ => rfl
@[simp] theorem writeStack_reads : ∀ addr bs s, (State.writeStack addr bs s).reads = s.reads := fun _ _ _ => rfl
@[simp] theorem writeStack_nextRead : ∀ addr bs s, (State.writeStack addr bs s).nextRead = s.nextRead := fun _ _ _ => rfl

/-! ### State.setPage -/

@[simp] theorem setPage_pending : ∀ f p s, (State.setPage f p s).pending = s.pending := fun _ _ _ => rfl
@[simp] theorem setPage_clockPart : ∀ f p s, (State.setPage f p s).toClockPart = s.toClockPart := fun _ _ _ => rfl
@[simp] theorem setPage_recordPart : ∀ f p s, (State.setPage f p s).toRecordPart = s.toRecordPart := fun _ _ _ => rfl
@[simp] theorem setPage_hearthPart : ∀ f p s, (State.setPage f p s).toHearthPart = s.toHearthPart := fun _ _ _ => rfl
@[simp] theorem setPage_fabricPart : ∀ f p s, (State.setPage f p s).toFabricPart = s.toFabricPart := fun _ _ _ => rfl
@[simp] theorem setPage_servingPart : ∀ f p s, (State.setPage f p s).toServingPart = s.toServingPart := fun _ _ _ => rfl
@[simp] theorem setPage_islandPart : ∀ f p s, (State.setPage f p s).toIslandPart = s.toIslandPart := fun _ _ _ => rfl
@[simp] theorem setPage_alwaysOnPart : ∀ f p s, (State.setPage f p s).toAlwaysOnPart = s.toAlwaysOnPart := fun _ _ _ => rfl
@[simp] theorem setPage_upkeepPart : ∀ f p s, (State.setPage f p s).toUpkeepPart = s.toUpkeepPart := fun _ _ _ => rfl
@[simp] theorem setPage_stack : ∀ f p s, (State.setPage f p s).stack = s.stack := fun _ _ _ => rfl
@[simp] theorem setPage_stackBad : ∀ f p s, (State.setPage f p s).stackBad = s.stackBad := fun _ _ _ => rfl
@[simp] theorem setPage_tierWaits : ∀ f p s, (State.setPage f p s).tierWaits = s.tierWaits := fun _ _ _ => rfl
@[simp] theorem setPage_stackLine : ∀ f p s, (State.setPage f p s).stackLine = s.stackLine := fun _ _ _ => rfl
@[simp] theorem setPage_retired : ∀ f p s, (State.setPage f p s).retired = s.retired := fun _ _ _ => rfl
@[simp] theorem setPage_retiredSoft : ∀ f p s, (State.setPage f p s).retiredSoft = s.retiredSoft := fun _ _ _ => rfl
@[simp] theorem setPage_staging : ∀ f p s, (State.setPage f p s).staging = s.staging := fun _ _ _ => rfl
@[simp] theorem setPage_ctxs : ∀ f p s, (State.setPage f p s).ctxs = s.ctxs := fun _ _ _ => rfl
@[simp] theorem setPage_attnQueue : ∀ f p s, (State.setPage f p s).attnQueue = s.attnQueue := fun _ _ _ => rfl
@[simp] theorem setPage_tiers : ∀ f p s, (State.setPage f p s).tiers = s.tiers := fun _ _ _ => rfl
@[simp] theorem setPage_reads : ∀ f p s, (State.setPage f p s).reads = s.reads := fun _ _ _ => rfl
@[simp] theorem setPage_nextRead : ∀ f p s, (State.setPage f p s).nextRead = s.nextRead := fun _ _ _ => rfl

/-! ### State.setCtx -/

@[simp] theorem setCtx_pending : ∀ c x s, (State.setCtx c x s).pending = s.pending := fun _ _ _ => rfl
@[simp] theorem setCtx_clockPart : ∀ c x s, (State.setCtx c x s).toClockPart = s.toClockPart := fun _ _ _ => rfl
@[simp] theorem setCtx_recordPart : ∀ c x s, (State.setCtx c x s).toRecordPart = s.toRecordPart := fun _ _ _ => rfl
@[simp] theorem setCtx_hearthPart : ∀ c x s, (State.setCtx c x s).toHearthPart = s.toHearthPart := fun _ _ _ => rfl
@[simp] theorem setCtx_fabricPart : ∀ c x s, (State.setCtx c x s).toFabricPart = s.toFabricPart := fun _ _ _ => rfl
@[simp] theorem setCtx_servingPart : ∀ c x s, (State.setCtx c x s).toServingPart = s.toServingPart := fun _ _ _ => rfl
@[simp] theorem setCtx_islandPart : ∀ c x s, (State.setCtx c x s).toIslandPart = s.toIslandPart := fun _ _ _ => rfl
@[simp] theorem setCtx_alwaysOnPart : ∀ c x s, (State.setCtx c x s).toAlwaysOnPart = s.toAlwaysOnPart := fun _ _ _ => rfl
@[simp] theorem setCtx_upkeepPart : ∀ c x s, (State.setCtx c x s).toUpkeepPart = s.toUpkeepPart := fun _ _ _ => rfl
@[simp] theorem setCtx_stack : ∀ c x s, (State.setCtx c x s).stack = s.stack := fun _ _ _ => rfl
@[simp] theorem setCtx_stackBad : ∀ c x s, (State.setCtx c x s).stackBad = s.stackBad := fun _ _ _ => rfl
@[simp] theorem setCtx_tierWaits : ∀ c x s, (State.setCtx c x s).tierWaits = s.tierWaits := fun _ _ _ => rfl
@[simp] theorem setCtx_stackLine : ∀ c x s, (State.setCtx c x s).stackLine = s.stackLine := fun _ _ _ => rfl
@[simp] theorem setCtx_pages : ∀ c x s, (State.setCtx c x s).pages = s.pages := fun _ _ _ => rfl
@[simp] theorem setCtx_retired : ∀ c x s, (State.setCtx c x s).retired = s.retired := fun _ _ _ => rfl
@[simp] theorem setCtx_retiredSoft : ∀ c x s, (State.setCtx c x s).retiredSoft = s.retiredSoft := fun _ _ _ => rfl
@[simp] theorem setCtx_staging : ∀ c x s, (State.setCtx c x s).staging = s.staging := fun _ _ _ => rfl
@[simp] theorem setCtx_attnQueue : ∀ c x s, (State.setCtx c x s).attnQueue = s.attnQueue := fun _ _ _ => rfl
@[simp] theorem setCtx_tiers : ∀ c x s, (State.setCtx c x s).tiers = s.tiers := fun _ _ _ => rfl
@[simp] theorem setCtx_reads : ∀ c x s, (State.setCtx c x s).reads = s.reads := fun _ _ _ => rfl
@[simp] theorem setCtx_nextRead : ∀ c x s, (State.setCtx c x s).nextRead = s.nextRead := fun _ _ _ => rfl

end Sys2Proof.Laws
end

