-- ==== Sys2Proof/Laws/Tab.lean ====
section
/-! SUPPORT. Laws/Tab.lean: reads after writes of a sparse table, and that every operation on a table keeps its canonical form. -/

namespace Sys2Proof.Laws

variable {α : Type}

theorem get_ins_same (d v : α) (k : Nat) (m : Tab α) : Tab.get d k (Tab.ins k v m) = v := by
  induction m with
  | nil => simp [Tab.ins, Tab.get]
  | cons e m ih =>
    obtain ⟨k', v'⟩ := e
    simp only [Tab.ins]
    split
    · simp [Tab.get]
    · split <;> simp_all [Tab.get]

theorem get_ins_ne (d v : α) {k j : Nat} (h : j ≠ k) (m : Tab α) : Tab.get d j (Tab.ins k v m) = Tab.get d j m := by
  induction m with
  | nil => simp [Tab.ins, Tab.get, h]
  | cons e m ih =>
    obtain ⟨k', v'⟩ := e
    simp only [Tab.ins]
    split
    · simp [Tab.get, h]
    · split <;> simp_all [Tab.get]

theorem get_del_same (d : α) (k : Nat) (m : Tab α) : Tab.get d k (Tab.del k m) = d := by
  induction m with
  | nil => simp [Tab.del, Tab.get]
  | cons e m ih =>
    obtain ⟨k', v'⟩ := e
    simp only [Tab.del]
    split <;> simp_all [Tab.get]

theorem get_del_ne (d : α) {k j : Nat} (h : j ≠ k) (m : Tab α) : Tab.get d j (Tab.del k m) = Tab.get d j m := by
  induction m with
  | nil => simp [Tab.del]
  | cons e m ih =>
    obtain ⟨k', v'⟩ := e
    simp only [Tab.del]
    split <;> simp_all [Tab.get]

/-- A read of the key written gives the value written. -/
@[simp] theorem get_put_same [DecidableEq α] (d v : α) (k : Nat) (m : Tab α) : Tab.get d k (Tab.put d k v m) = v := by
  unfold Tab.put
  split
  · rename_i h
    rw [get_del_same, h]
  · exact get_ins_same d v k m

/-- A write leaves every other key alone. -/
theorem get_put_ne [DecidableEq α] (d d' v : α) {k j : Nat} (h : j ≠ k) (m : Tab α) : Tab.get d j (Tab.put d' k v m) = Tab.get d j m := by
  unfold Tab.put
  split
  · exact get_del_ne d h m
  · exact get_ins_ne d v h m

/-! ### The canonical form -/

/-- Every key of a rising table lies above its lower bound. -/
theorem rising_lower {l : Nat} {m : Tab α} (h : Tab.rising (some l) m = true) : Tab.rising none m = true := by
  cases m with
  | nil => rfl
  | cons e m =>
    simp only [Tab.rising, Bool.and_eq_true] at h ⊢
    exact ⟨trivial, h.2⟩

theorem rising_weaken {l l' : Nat} (hl : l' ≤ l) {m : Tab α} (h : Tab.rising (some l) m = true) : Tab.rising (some l') m = true := by
  cases m with
  | nil => rfl
  | cons e m =>
    simp only [Tab.rising, Bool.and_eq_true, decide_eq_true_eq] at h ⊢
    exact ⟨by omega, h.2⟩

theorem rising_ins {lo : Option Nat} {k : Nat} (v : α) {m : Tab α} (hk : ∀ l, lo = some l → l < k) (h : Tab.rising lo m = true) :
    Tab.rising lo (Tab.ins k v m) = true := by
  induction m generalizing lo with
  | nil => cases lo <;> simp_all [Tab.ins, Tab.rising]
  | cons e m ih =>
    obtain ⟨k', v'⟩ := e
    simp only [Tab.rising, Bool.and_eq_true] at h
    simp only [Tab.ins]
    split
    · rename_i hlt
      simp only [Tab.rising, Bool.and_eq_true, decide_eq_true_eq]
      exact ⟨by cases lo <;> simp_all, hlt, h.2⟩
    · split
      · rename_i _ heq
        subst heq
        simp only [Tab.rising, Bool.and_eq_true]
        exact ⟨h.1, h.2⟩
      · rename_i h1 h2
        simp only [Tab.rising, Bool.and_eq_true]
        refine ⟨h.1, ih (fun l hl => ?_) h.2⟩
        cases hl
        omega

theorem rising_del {lo : Option Nat} {k : Nat} {m : Tab α} (h : Tab.rising lo m = true) : Tab.rising lo (Tab.del k m) = true := by
  induction m generalizing lo with
  | nil => exact h
  | cons e m ih =>
    obtain ⟨k', v'⟩ := e
    simp only [Tab.rising, Bool.and_eq_true] at h
    simp only [Tab.del]
    split
    · cases lo with
      | none => exact ih (rising_lower h.2)
      | some l =>
        have := h.1
        simp only [decide_eq_true_eq] at this
        exact ih (rising_weaken (by omega) h.2)
    · simp only [Tab.rising, Bool.and_eq_true]
      exact ⟨h.1, ih h.2⟩

theorem rising_filter {lo : Option Nat} (f : Nat × α → Bool) {m : Tab α} (h : Tab.rising lo m = true) : Tab.rising lo (m.filter f) = true := by
  induction m generalizing lo with
  | nil => exact h
  | cons e m ih =>
    obtain ⟨k', v'⟩ := e
    simp only [Tab.rising, Bool.and_eq_true] at h
    simp only [List.filter]
    split
    · simp only [Tab.rising, Bool.and_eq_true]
      exact ⟨h.1, ih h.2⟩
    · cases lo with
      | none => exact ih (rising_lower h.2)
      | some l =>
        have := h.1
        simp only [decide_eq_true_eq] at this
        exact ih (rising_weaken (by omega) h.2)

theorem clean_ins [DecidableEq α] {d : Nat → α} {k : Nat} {v : α} (hv : v ≠ d k) {m : Tab α} (h : Tab.clean d m = true) :
    Tab.clean d (Tab.ins k v m) = true := by
  induction m with
  | nil => simp [Tab.ins, Tab.clean, hv]
  | cons e m ih =>
    obtain ⟨k', v'⟩ := e
    simp only [Tab.clean, List.all_cons, Bool.and_eq_true, decide_eq_true_eq] at h
    simp only [Tab.ins]
    split
    · simp [Tab.clean, hv, h.1]
      simpa using h.2
    · split
      · simp [Tab.clean, hv]
        simpa using h.2
      · have := ih h.2
        simp only [Tab.clean, List.all_cons, Bool.and_eq_true, decide_eq_true_eq]
        exact ⟨h.1, this⟩

theorem clean_del [DecidableEq α] {d : Nat → α} {k : Nat} {m : Tab α} (h : Tab.clean d m = true) : Tab.clean d (Tab.del k m) = true := by
  induction m with
  | nil => exact h
  | cons e m ih =>
    obtain ⟨k', v'⟩ := e
    simp only [Tab.clean, List.all_cons, Bool.and_eq_true, decide_eq_true_eq] at h
    simp only [Tab.del]
    split
    · exact ih h.2
    · simp only [Tab.clean, List.all_cons, Bool.and_eq_true, decide_eq_true_eq]
      exact ⟨h.1, ih h.2⟩

/-- A write keeps the canonical form. -/
theorem wf_put [DecidableEq α] {d : Nat → α} (k : Nat) (v : α) {m : Tab α} (h : Tab.wf d m = true) : Tab.wf d (Tab.put (d k) k v m) = true := by
  simp only [Tab.wf, Bool.and_eq_true] at h ⊢
  unfold Tab.put
  split
  · exact ⟨rising_del h.1, clean_del h.2⟩
  · rename_i hv
    exact ⟨rising_ins v (by simp) h.1, clean_ins hv h.2⟩

/-- Dropping entries keeps the canonical form. -/
theorem wf_filter [DecidableEq α] {d : Nat → α} (f : Nat × α → Bool) {m : Tab α} (h : Tab.wf d m = true) : Tab.wf d (m.filter f) = true := by
  simp only [Tab.wf, Bool.and_eq_true] at h ⊢
  refine ⟨rising_filter f h.1, ?_⟩
  have hc := h.2
  simp only [Tab.clean, List.all_eq_true, decide_eq_true_eq] at hc ⊢
  intro e he
  exact hc e (List.mem_of_mem_filter he)

end Sys2Proof.Laws
end

