-- ==== Sys2Proof/Laws/Ops.lean ====
section
/-! SUPPORT. Laws/Ops.lean: what reading the dictionary gives after each shared operation of Machine/Ops.lean, and what those operations
leave as it was. -/

namespace Sys2Proof.Laws

open Sys2Proof.Machine

/-! ### Keys of the dictionary -/

/-- Fields of different objects have different keys. -/
theorem odKey_ne {i x y f j x' y' f' : Nat} (hf : f < 64) (hf' : f' < 64) (hy : y < 256) (hy' : y' < 256) (hx : x < 65536) (hx' : x' < 65536)
    (h : ¬(i = j ∧ x = x' ∧ y = y' ∧ f = f')) : odKey i x y f ≠ odKey j x' y' f' := by
  unfold odKey
  omega

/-! ### Reads after writes -/

theorem od_eq (s : State) (x y f : Nat) : s.od x y f = s.odAt 0 x y f := rfl

theorem odAt_congr {s t : State} (h : t.dict = s.dict) (i x y f : Nat) : t.odAt i x y f = s.odAt i x y f := by
  unfold State.odAt
  rw [h]

@[simp] theorem odAt_setOdAt_same (s : State) (i x y f v : Nat) : (s.setOdAt i x y f v).odAt i x y f = v := get_put_same _ _ _ _

theorem odAt_setOdAt_ne (s : State) {i x y f j x' y' f' : Nat} (v : Nat) (h : odKey i x y f ≠ odKey j x' y' f') :
    (s.setOdAt j x' y' f' v).odAt i x y f = s.odAt i x y f := get_put_ne _ _ _ h _

@[simp] theorem od_setOd_same (s : State) (x y f v : Nat) : (s.setOd x y f v).od x y f = v := odAt_setOdAt_same s 0 x y f v

theorem od_setOd_ne (s : State) {x y f x' y' f' : Nat} (v : Nat) (h : odKey 0 x y f ≠ odKey 0 x' y' f') :
    (s.setOd x' y' f' v).od x y f = s.od x y f := odAt_setOdAt_ne s v h

/-- A counter saturates (R438). -/
@[simp] theorem od_bump_same (s : State) (x y f n : Nat) : (s.bump x y f n).od x y f = min (s.od x y f + n) (odMax x y f) :=
  odAt_setOdAt_same s 0 x y f _

theorem odAt_bumpAt_ne (s : State) {i x y f j x' y' f' : Nat} (n : Nat) (h : odKey i x y f ≠ odKey j x' y' f') :
    (s.bumpAt j x' y' f' n).odAt i x y f = s.odAt i x y f := odAt_setOdAt_ne s _ h

theorem od_bump_ne (s : State) {x y f x' y' f' : Nat} (n : Nat) (h : odKey 0 x y f ≠ odKey 0 x' y' f') :
    (s.bump x' y' f' n).od x y f = s.od x y f := odAt_bumpAt_ne s n h

@[simp] theorem blobAt_setBlobAt_same (s : State) (i x y : Nat) (b : List Byte) : (s.setBlobAt i x y b).blobAt i x y = b := get_put_same _ _ _ _

theorem blobAt_setBlobAt_ne (s : State) {i x y j x' y' : Nat} (b : List Byte) (h : odKey i x y 0 ≠ odKey j x' y' 0) :
    (s.setBlobAt j x' y' b).blobAt i x y = s.blobAt i x y := get_put_ne _ _ _ h _

/-- What leaves the part leaves last. -/
@[simp] theorem emit_out (o : Out) (s : State) : (s.emit o).out = s.out ++ [o] := rfl

@[simp] theorem answer_results (rq : Requester) (c : Nat) (s : State) : (s.answer rq c).results.get 0 (rqNo rq) = c := get_put_same _ _ _ _

/-! ### Accesses -/

/-- A write that passes every check has its effect, and its result is OK. -/
theorem access_written {rq : Requester} {x y : Nat} {d : List Byte} {f : State → Nat × State} {s t : State}
    (h : Accepted s rq .write x y d) (hf : f s = (0, t)) : s.access rq .write x y d f = t.written rq := by
  unfold Accepted at h
  simp [State.access, h, hf, State.written]

/-- A command that passes every check has its effect, and shows it. -/
theorem access_commanded {rq : Requester} {x y : Nat} {d : List Byte} {f : State → Nat × State} {s t : State}
    (h : Accepted s rq .command x y d) (hf : f s = (0, t)) : s.access rq .command x y d f = t.commanded rq x y d := by
  unfold Accepted at h
  simp [State.access, h, hf, State.commanded]

/-- An access that a common check refuses leaves its result alone. -/
theorem access_barred {rq : Requester} {op : AccessOp} {x y c : Nat} {d : List Byte} {f : State → Nat × State} {s : State} (hc : c ≠ 0)
    (h : s.judge { rq := rq, op := op, idx := x, sub := y, offset := 0, room := 0, data := d } 0 = c) :
    s.access rq op x y d f = s.answer rq c := by
  subst h
  simp [State.access, hc]

/-- An access that its object refuses. -/
theorem access_refused {rq : Requester} {op : AccessOp} {x y c : Nat} {d : List Byte} {f : State → Nat × State} {s t : State} (hc : c ≠ 0)
    (h : Accepted s rq op x y d) (hf : f s = (c, t)) : s.access rq op x y d f = t.answer rq c := by
  unfold Accepted at h
  simp [State.access, h, hf, hc]

/-! ### Raising a record touches the logs, the chimney and the barrier alone -/

/-- The objects that a record counts in: OD 0x1301, 0x6000, 0x6003 and 0x6403. -/
def isLogged (x : Nat) : Bool := x == 0x1301 || x == 0x6000 || x == 0x6003 || x == 0x6403

/-- `t` differs from `s` at most in the logged objects, the error log, what has left the part, the four chimney queues, the records held
for the island, and the lanes of the barrier. -/
structure Quiet (s t : State) : Prop where
  pending : t.pending = s.pending
  clock : t.toClockPart = s.toClockPart
  hearth : t.toHearthPart = s.toHearthPart
  memory : t.toMemoryPart = s.toMemoryPart
  fabric : t.toFabricPart = s.toFabricPart
  serving : t.toServingPart = s.toServingPart
  alwaysOn : t.toAlwaysOnPart = s.toAlwaysOnPart
  upkeep : t.toUpkeepPart = s.toUpkeepPart
  ringA : t.ringA = s.ringA
  ringB : t.ringB = s.ringB
  results : t.results = s.results
  sensorUse : t.sensorUse = s.sensorUse
  hkLatest : t.hkLatest = s.hkLatest
  islandLost : t.islandLost = s.islandLost
  islandAt : t.islandAt = s.islandAt
  boot : t.boot = s.boot
  streamed : t.streamed = s.streamed
  integrity : t.integrity = s.integrity
  conns : t.conns = s.conns
  noaWaits : t.noaWaits = s.noaWaits
  nextCorr : t.nextCorr = s.nextCorr
  islandHeard : t.islandHeard = s.islandHeard
  mainHeard : t.mainHeard = s.mainHeard
  hangAlarmed : t.hangAlarmed = s.hangAlarmed
  journal : t.journal = s.journal
  journalFull : t.journalFull = s.journalFull
  thermalHold : t.thermalHold = s.thermalHold
  storedNext : t.storedNext = s.storedNext
  mgmtFrom : t.mgmtFrom = s.mgmtFrom
  blobSoFar : t.blobSoFar = s.blobSoFar
  od : ∀ i x y f, x < 65536 → y < 256 → f < 64 → isLogged x = false → t.odAt i x y f = s.odAt i x y f
  blob : ∀ i x y, x < 65536 → y < 256 → x ≠ 0x6001 → x ≠ 0x6002 → t.blobAt i x y = s.blobAt i x y

theorem Quiet.refl (s : State) : Quiet s s := by
  constructor <;> intros <;> rfl

theorem Quiet.trans {s t u : State} (h : Quiet s t) (k : Quiet t u) : Quiet s u where
  od i x y f hx hy hf hl := (k.od i x y f hx hy hf hl).trans (h.od i x y f hx hy hf hl)
  blob i x y hx hy h1 h2 := (k.blob i x y hx hy h1 h2).trans (h.blob i x y hx hy h1 h2)
  pending := k.pending.trans h.pending
  clock := k.clock.trans h.clock
  hearth := k.hearth.trans h.hearth
  memory := k.memory.trans h.memory
  fabric := k.fabric.trans h.fabric
  serving := k.serving.trans h.serving
  alwaysOn := k.alwaysOn.trans h.alwaysOn
  upkeep := k.upkeep.trans h.upkeep
  ringA := k.ringA.trans h.ringA
  ringB := k.ringB.trans h.ringB
  results := k.results.trans h.results
  sensorUse := k.sensorUse.trans h.sensorUse
  hkLatest := k.hkLatest.trans h.hkLatest
  islandLost := k.islandLost.trans h.islandLost
  islandAt := k.islandAt.trans h.islandAt
  boot := k.boot.trans h.boot
  streamed := k.streamed.trans h.streamed
  integrity := k.integrity.trans h.integrity
  conns := k.conns.trans h.conns
  noaWaits := k.noaWaits.trans h.noaWaits
  nextCorr := k.nextCorr.trans h.nextCorr
  islandHeard := k.islandHeard.trans h.islandHeard
  mainHeard := k.mainHeard.trans h.mainHeard
  hangAlarmed := k.hangAlarmed.trans h.hangAlarmed
  journal := k.journal.trans h.journal
  journalFull := k.journalFull.trans h.journalFull
  thermalHold := k.thermalHold.trans h.thermalHold
  storedNext := k.storedNext.trans h.storedNext
  mgmtFrom := k.mgmtFrom.trans h.mgmtFrom
  blobSoFar := k.blobSoFar.trans h.blobSoFar

theorem quiet_ite {s a b : State} (c : Prop) [Decidable c] (h : Quiet s a) (k : Quiet s b) : Quiet s (if c then a else b) := by
  split <;> assumption

/-- A write of a logged object. -/
theorem quiet_setOd (x y f v : Nat) (s : State) (hx : isLogged x = true) (hy : y < 256) (hf : f < 64) (hx' : x < 65536) : Quiet s (s.setOd x y f v) := by
  constructor <;> intros <;> try rfl
  rename_i i x' y' f' h1 h2 h3 h4
  refine odAt_setOdAt_ne s v (odKey_ne h3 hf h2 hy h1 hx' ?_)
  rintro ⟨_, rfl, _⟩
  rw [hx] at h4
  cases h4

theorem quiet_bump (x y f n : Nat) (s : State) (hx : isLogged x = true) (hy : y < 256) (hf : f < 64) (hx' : x < 65536) : Quiet s (s.bump x y f n) :=
  quiet_setOd x y f _ s hx hy hf hx'

theorem quiet_setPathQ (p : Nat) (q : PathQ) (s : State) : Quiet s (s.setPathQ p q) := by
  unfold State.setPathQ
  refine quiet_ite _ ?_ (quiet_ite _ ?_ (quiet_ite _ ?_ ?_)) <;> constructor <;> intros <;> rfl

theorem quiet_emit (o : Out) (s : State) : Quiet s (s.emit o) := by
  constructor <;> intros <;> rfl

theorem chimneyField_lt {p c k : Nat} (hp : p < 4) (hc : c < 3) (hk : k < 3) : chimneyField p c k < 64 := by
  unfold chimneyField
  omega

/-- An ALARM is never dropped (R478). -/
theorem takeAlarm_dropped (cap : Nat) (q : List Record) (r : Record) : (takeAlarm cap q r).dropped = none := by
  unfold takeAlarm
  split
  · rfl
  · split
    · rfl
    · dsimp only
      split <;> rfl

/-- The class of a record that a path takes from or drops is one of its own three. -/
theorem dropped_class {cap : Nat} {q : List Record} {r : Record} {c : Nat} (hr : r.cls < 3) (h : (takeRecord cap q r).dropped = some c) : c < 3 := by
  unfold takeRecord at h
  split at h
  · rw [takeAlarm_dropped] at h
    cases h
  · (repeat' split at h) <;> simp only [Option.some.injEq, reduceCtorEq] at h <;> omega

theorem quiet_offer (p : Nat) (r : Record) (s : State) (hp : p < 4) (hr : r.cls < 3) : Quiet s (s.offer p r).1 := by
  unfold State.offer
  split
  · exact Quiet.refl s
  · split
    · exact quiet_bump _ _ _ _ s rfl (by omega) (chimneyField_lt hp hr (by omega)) (by omega)
    · have h0 := quiet_setPathQ p { s.pathQ p with queue := (takeRecord (pathCap p) (s.pathQ p).queue r).queue } s
      have h1 : Quiet s (if (takeRecord (pathCap p) (s.pathQ p).queue r).coalesced
          then (s.setPathQ p { s.pathQ p with queue := (takeRecord (pathCap p) (s.pathQ p).queue r).queue }).bump 0x6403 0 (chimneyField p r.cls 2) 1
          else s.setPathQ p { s.pathQ p with queue := (takeRecord (pathCap p) (s.pathQ p).queue r).queue }) :=
        quiet_ite _ (h0.trans (quiet_bump _ _ _ _ _ rfl (by omega) (chimneyField_lt hp hr (by omega)) (by omega))) h0
      dsimp only
      split
      · rename_i c hc
        exact h1.trans (quiet_bump _ _ _ _ _ rfl (by omega) (chimneyField_lt hp (dropped_class hr hc) (by omega)) (by omega))
      · exact h1

theorem quiet_sendToIsland (u : Bool) (k c : Nat) (b : List Byte) (s : State) : Quiet s (s.sendToIsland u k c b) := by
  unfold State.sendToIsland
  refine (Quiet.trans ?_ (quiet_bump 0x1301 0 0 1 _ rfl (by omega) (by omega) (by omega))).trans (quiet_emit _ _)
  refine quiet_ite _ ?_ ?_ <;> constructor <;> intros <;> rfl

theorem quiet_sendToMain (u : Bool) (k c : Nat) (b : List Byte) (s : State) : Quiet s (s.sendToMain u k c b) := by
  unfold State.sendToMain
  refine Quiet.trans ?_ (quiet_emit _ _)
  refine quiet_ite _ ?_ ?_ <;> constructor <;> intros <;> rfl

theorem quiet_holdForIsland (r : Record) (s : State) : Quiet s (s.holdForIsland r) := by
  unfold State.holdForIsland
  refine quiet_ite _ ?_ (Quiet.trans ?_ (quiet_bump 0x1301 0 7 1 _ rfl (by omega) (by omega) (by omega))) <;> constructor <;> intros <;> rfl

theorem quiet_setBlob (x : Nat) (b : List Byte) (s : State) (hx : x = 0x6001 ∨ x = 0x6002) : Quiet s (s.setBlob x 0 b) := by
  constructor <;> intros <;> try rfl
  rename_i i x' y' h1 h2 h3 h4
  refine blobAt_setBlobAt_ne s b (odKey_ne (by omega) (by omega) h2 (by omega) h1 (by omega) ?_)
  rintro ⟨_, rfl, _⟩
  omega

theorem quiet_logRecord (r : Record) (s : State) (hs : r.sev < 64) (hk : r.kind < 64) : Quiet s (s.logRecord r) := by
  unfold State.logRecord
  have h0 := (quiet_bump 0x6000 0 r.sev r.count s rfl (by omega) hs (by omega)).trans
    (quiet_setOd 0x6003 0 r.kind (min (s.od 0x6003 0 r.kind + r.count) 0xFFFFFFFF) _ rfl (by omega) hk (by omega))
  refine quiet_ite _ h0 ?_
  exact (h0.trans (quiet_setBlob 0x6001 _ _ (Or.inl rfl))).trans (quiet_setBlob 0x6002 _ _ (Or.inr rfl))

theorem quiet_offerAll (r : Record) (s : State) (hr : r.cls < 3) : Quiet s (s.offerAll r).1 := by
  unfold State.offerAll
  have h := ((quiet_offer 0 r s (by omega) hr).trans (quiet_offer 1 r _ (by omega) hr)).trans (quiet_offer 3 r _ (by omega) hr)
  refine quiet_ite _ h (quiet_ite _ (h.trans (quiet_holdForIsland r _)) (h.trans (quiet_sendToIsland _ _ _ _ _)))

theorem info_bounds (k : Kind) : k.info.1 < 64 ∧ k.info.2.1 < 3 ∧ k.info.2.2 < 64 := by
  cases k <;> decide

theorem makeRecord_cls (r : Raise) (s : State) : (s.makeRecord r).cls < 3 := by
  have h := (info_bounds r.kind).2.1
  unfold State.makeRecord
  dsimp only
  split
  · omega
  · split <;> omega

theorem makeRecord_sev (r : Raise) (s : State) : (s.makeRecord r).sev < 64 := (info_bounds r.kind).2.2

theorem makeRecord_kind (r : Raise) (s : State) : (s.makeRecord r).kind < 64 := (info_bounds r.kind).1

theorem quiet_chimneyDrop (p : Nat) (s : State) : Quiet s (s.chimneyDrop p) := by
  unfold State.chimneyDrop
  refine quiet_ite _ ?_ ?_
  · exact ((quiet_setPathQ _ _ s).trans (quiet_logRecord _ _ (makeRecord_sev _ _) (makeRecord_kind _ _))).trans
      (quiet_offerAll _ _ (makeRecord_cls _ _))
  · constructor <;> intros <;> rfl

theorem quiet_foldl {α : Type} (f : State → α → State) (h : ∀ s a, Quiet s (f s a)) (l : List α) (s : State) : Quiet s (l.foldl f s) := by
  induction l generalizing s with
  | nil => exact Quiet.refl s
  | cons a l ih => exact (h s a).trans (ih _)

/-- All that raising a record can change. -/
theorem quiet_raise (r : Raise) (s : State) : Quiet s (s.raise r) := by
  unfold State.raise
  exact ((quiet_logRecord _ _ (makeRecord_sev _ _) (makeRecord_kind _ _)).trans (quiet_offerAll _ _ (makeRecord_cls _ _))).trans
    (quiet_foldl State.chimneyDrop (fun s p => quiet_chimneyDrop p s) _ _)

/-- A record's kind, class and severity are within their ranges. -/
def Record.plain (r : Record) : Prop := r.kind < 64 ∧ r.cls < 3 ∧ r.sev < 64

theorem quiet_islandPath (r : Record) (s : State) (h : Record.plain r) :
    Quiet s (if ((s.logRecord r).offer 2 r).2 then ((s.logRecord r).offer 2 r).1.chimneyDrop 2 else ((s.logRecord r).offer 2 r).1) := by
  have k : Quiet s ((s.logRecord r).offer 2 r).1 := (quiet_logRecord r s h.2.2 h.1).trans (quiet_offer 2 r _ (by omega) h.2.1)
  exact quiet_ite _ (k.trans (quiet_chimneyDrop 2 _)) k

theorem quiet_raiseIsland (b : Bool) (r : Raise) (s : State) : Quiet s (s.raiseIsland b r) :=
  quiet_islandPath { s.makeRecord r with islandTime := b } s ⟨makeRecord_kind r s, makeRecord_cls r s, makeRecord_sev r s⟩

/-- Raising a record and sending on the barrier change the record part and the island part alone. -/
theorem sameBut_quiet {s t : State} (l : List Part) (hl : l.contains .island = true) (h : Quiet s t) : SameBut l s t := by
  refine ⟨h.pending, fun p hp => ?_⟩
  cases p
  · exact h.clock
  · exact h.hearth
  · exact h.memory
  · exact h.fabric
  · exact h.serving
  · rw [hl] at hp
    cases hp
  · exact h.alwaysOn
  · exact h.upkeep

theorem sameBut_trans {s t u : State} {l : List Part} (h : SameBut l s t) (k : SameBut l t u) : SameBut l s u := by
  refine ⟨k.1.trans h.1, fun p hp => ?_⟩
  have a := h.2 p hp
  have b := k.2 p hp
  cases p <;> exact Eq.trans b a

/-! The same, field by field, as rewriting uses it. -/

@[simp] theorem raise_pending (r : Raise) (s : State) : (s.raise r).pending = s.pending := (quiet_raise r s).pending
@[simp] theorem raise_clock (r : Raise) (s : State) : (s.raise r).toClockPart = s.toClockPart := (quiet_raise r s).clock
@[simp] theorem raise_hearth (r : Raise) (s : State) : (s.raise r).toHearthPart = s.toHearthPart := (quiet_raise r s).hearth
@[simp] theorem raise_memory (r : Raise) (s : State) : (s.raise r).toMemoryPart = s.toMemoryPart := (quiet_raise r s).memory
@[simp] theorem raise_fabric (r : Raise) (s : State) : (s.raise r).toFabricPart = s.toFabricPart := (quiet_raise r s).fabric
@[simp] theorem raise_serving (r : Raise) (s : State) : (s.raise r).toServingPart = s.toServingPart := (quiet_raise r s).serving
@[simp] theorem raise_alwaysOn (r : Raise) (s : State) : (s.raise r).toAlwaysOnPart = s.toAlwaysOnPart := (quiet_raise r s).alwaysOn
@[simp] theorem raise_upkeep (r : Raise) (s : State) : (s.raise r).toUpkeepPart = s.toUpkeepPart := (quiet_raise r s).upkeep
@[simp] theorem raise_ringA (r : Raise) (s : State) : (s.raise r).ringA = s.ringA := (quiet_raise r s).ringA
@[simp] theorem raise_ringB (r : Raise) (s : State) : (s.raise r).ringB = s.ringB := (quiet_raise r s).ringB
@[simp] theorem raise_results (r : Raise) (s : State) : (s.raise r).results = s.results := (quiet_raise r s).results
@[simp] theorem raise_sensorUse (r : Raise) (s : State) : (s.raise r).sensorUse = s.sensorUse := (quiet_raise r s).sensorUse
@[simp] theorem raise_hkLatest (r : Raise) (s : State) : (s.raise r).hkLatest = s.hkLatest := (quiet_raise r s).hkLatest
@[simp] theorem raise_islandLost (r : Raise) (s : State) : (s.raise r).islandLost = s.islandLost := (quiet_raise r s).islandLost
@[simp] theorem raise_islandAt (r : Raise) (s : State) : (s.raise r).islandAt = s.islandAt := (quiet_raise r s).islandAt
@[simp] theorem raise_boot (r : Raise) (s : State) : (s.raise r).boot = s.boot := (quiet_raise r s).boot
@[simp] theorem raise_streamed (r : Raise) (s : State) : (s.raise r).streamed = s.streamed := (quiet_raise r s).streamed
@[simp] theorem raise_integrity (r : Raise) (s : State) : (s.raise r).integrity = s.integrity := (quiet_raise r s).integrity
@[simp] theorem raise_conns (r : Raise) (s : State) : (s.raise r).conns = s.conns := (quiet_raise r s).conns
@[simp] theorem raise_noaWaits (r : Raise) (s : State) : (s.raise r).noaWaits = s.noaWaits := (quiet_raise r s).noaWaits
@[simp] theorem raise_nextCorr (r : Raise) (s : State) : (s.raise r).nextCorr = s.nextCorr := (quiet_raise r s).nextCorr
@[simp] theorem raise_islandHeard (r : Raise) (s : State) : (s.raise r).islandHeard = s.islandHeard := (quiet_raise r s).islandHeard
@[simp] theorem raise_mainHeard (r : Raise) (s : State) : (s.raise r).mainHeard = s.mainHeard := (quiet_raise r s).mainHeard
@[simp] theorem raise_hangAlarmed (r : Raise) (s : State) : (s.raise r).hangAlarmed = s.hangAlarmed := (quiet_raise r s).hangAlarmed
@[simp] theorem raise_journal (r : Raise) (s : State) : (s.raise r).journal = s.journal := (quiet_raise r s).journal
@[simp] theorem raise_journalFull (r : Raise) (s : State) : (s.raise r).journalFull = s.journalFull := (quiet_raise r s).journalFull
@[simp] theorem raise_thermalHold (r : Raise) (s : State) : (s.raise r).thermalHold = s.thermalHold := (quiet_raise r s).thermalHold
@[simp] theorem raise_storedNext (r : Raise) (s : State) : (s.raise r).storedNext = s.storedNext := (quiet_raise r s).storedNext
@[simp] theorem raise_mgmtFrom (r : Raise) (s : State) : (s.raise r).mgmtFrom = s.mgmtFrom := (quiet_raise r s).mgmtFrom
@[simp] theorem raise_blobSoFar (r : Raise) (s : State) : (s.raise r).blobSoFar = s.blobSoFar := (quiet_raise r s).blobSoFar

theorem odAt_raise (r : Raise) (s : State) {i x y f : Nat} (hx : x < 65536) (hy : y < 256) (hf : f < 64) (h : isLogged x = false) :
    (s.raise r).odAt i x y f = s.odAt i x y f := (quiet_raise r s).od i x y f hx hy hf h

theorem od_raise (r : Raise) (s : State) {x y f : Nat} (hx : x < 65536) (hy : y < 256) (hf : f < 64) (h : isLogged x = false) :
    (s.raise r).od x y f = s.od x y f := odAt_raise r s hx hy hf h

@[simp] theorem raiseIsland_pending (b : Bool) (r : Raise) (s : State) : (s.raiseIsland b r).pending = s.pending := (quiet_raiseIsland b r s).pending
@[simp] theorem raiseIsland_clock (b : Bool) (r : Raise) (s : State) : (s.raiseIsland b r).toClockPart = s.toClockPart := (quiet_raiseIsland b r s).clock
@[simp] theorem raiseIsland_hearth (b : Bool) (r : Raise) (s : State) : (s.raiseIsland b r).toHearthPart = s.toHearthPart := (quiet_raiseIsland b r s).hearth
@[simp] theorem raiseIsland_memory (b : Bool) (r : Raise) (s : State) : (s.raiseIsland b r).toMemoryPart = s.toMemoryPart := (quiet_raiseIsland b r s).memory
@[simp] theorem raiseIsland_fabric (b : Bool) (r : Raise) (s : State) : (s.raiseIsland b r).toFabricPart = s.toFabricPart := (quiet_raiseIsland b r s).fabric
@[simp] theorem raiseIsland_serving (b : Bool) (r : Raise) (s : State) : (s.raiseIsland b r).toServingPart = s.toServingPart := (quiet_raiseIsland b r s).serving
@[simp] theorem raiseIsland_alwaysOn (b : Bool) (r : Raise) (s : State) : (s.raiseIsland b r).toAlwaysOnPart = s.toAlwaysOnPart := (quiet_raiseIsland b r s).alwaysOn
@[simp] theorem raiseIsland_upkeep (b : Bool) (r : Raise) (s : State) : (s.raiseIsland b r).toUpkeepPart = s.toUpkeepPart := (quiet_raiseIsland b r s).upkeep
@[simp] theorem raiseIsland_ringA (b : Bool) (r : Raise) (s : State) : (s.raiseIsland b r).ringA = s.ringA := (quiet_raiseIsland b r s).ringA
@[simp] theorem raiseIsland_ringB (b : Bool) (r : Raise) (s : State) : (s.raiseIsland b r).ringB = s.ringB := (quiet_raiseIsland b r s).ringB
@[simp] theorem raiseIsland_results (b : Bool) (r : Raise) (s : State) : (s.raiseIsland b r).results = s.results := (quiet_raiseIsland b r s).results
@[simp] theorem raiseIsland_sensorUse (b : Bool) (r : Raise) (s : State) : (s.raiseIsland b r).sensorUse = s.sensorUse := (quiet_raiseIsland b r s).sensorUse
@[simp] theorem raiseIsland_hkLatest (b : Bool) (r : Raise) (s : State) : (s.raiseIsland b r).hkLatest = s.hkLatest := (quiet_raiseIsland b r s).hkLatest
@[simp] theorem raiseIsland_islandLost (b : Bool) (r : Raise) (s : State) : (s.raiseIsland b r).islandLost = s.islandLost := (quiet_raiseIsland b r s).islandLost
@[simp] theorem raiseIsland_islandAt (b : Bool) (r : Raise) (s : State) : (s.raiseIsland b r).islandAt = s.islandAt := (quiet_raiseIsland b r s).islandAt
@[simp] theorem raiseIsland_boot (b : Bool) (r : Raise) (s : State) : (s.raiseIsland b r).boot = s.boot := (quiet_raiseIsland b r s).boot
@[simp] theorem raiseIsland_streamed (b : Bool) (r : Raise) (s : State) : (s.raiseIsland b r).streamed = s.streamed := (quiet_raiseIsland b r s).streamed
@[simp] theorem raiseIsland_integrity (b : Bool) (r : Raise) (s : State) : (s.raiseIsland b r).integrity = s.integrity := (quiet_raiseIsland b r s).integrity
@[simp] theorem raiseIsland_conns (b : Bool) (r : Raise) (s : State) : (s.raiseIsland b r).conns = s.conns := (quiet_raiseIsland b r s).conns
@[simp] theorem raiseIsland_noaWaits (b : Bool) (r : Raise) (s : State) : (s.raiseIsland b r).noaWaits = s.noaWaits := (quiet_raiseIsland b r s).noaWaits
@[simp] theorem raiseIsland_nextCorr (b : Bool) (r : Raise) (s : State) : (s.raiseIsland b r).nextCorr = s.nextCorr := (quiet_raiseIsland b r s).nextCorr
@[simp] theorem raiseIsland_islandHeard (b : Bool) (r : Raise) (s : State) : (s.raiseIsland b r).islandHeard = s.islandHeard := (quiet_raiseIsland b r s).islandHeard
@[simp] theorem raiseIsland_mainHeard (b : Bool) (r : Raise) (s : State) : (s.raiseIsland b r).mainHeard = s.mainHeard := (quiet_raiseIsland b r s).mainHeard
@[simp] theorem raiseIsland_hangAlarmed (b : Bool) (r : Raise) (s : State) : (s.raiseIsland b r).hangAlarmed = s.hangAlarmed := (quiet_raiseIsland b r s).hangAlarmed
@[simp] theorem raiseIsland_journal (b : Bool) (r : Raise) (s : State) : (s.raiseIsland b r).journal = s.journal := (quiet_raiseIsland b r s).journal
@[simp] theorem raiseIsland_journalFull (b : Bool) (r : Raise) (s : State) : (s.raiseIsland b r).journalFull = s.journalFull := (quiet_raiseIsland b r s).journalFull
@[simp] theorem raiseIsland_thermalHold (b : Bool) (r : Raise) (s : State) : (s.raiseIsland b r).thermalHold = s.thermalHold := (quiet_raiseIsland b r s).thermalHold
@[simp] theorem raiseIsland_storedNext (b : Bool) (r : Raise) (s : State) : (s.raiseIsland b r).storedNext = s.storedNext := (quiet_raiseIsland b r s).storedNext
@[simp] theorem raiseIsland_mgmtFrom (b : Bool) (r : Raise) (s : State) : (s.raiseIsland b r).mgmtFrom = s.mgmtFrom := (quiet_raiseIsland b r s).mgmtFrom
@[simp] theorem raiseIsland_blobSoFar (b : Bool) (r : Raise) (s : State) : (s.raiseIsland b r).blobSoFar = s.blobSoFar := (quiet_raiseIsland b r s).blobSoFar

theorem odAt_raiseIsland (b : Bool) (r : Raise) (s : State) {i x y f : Nat} (hx : x < 65536) (hy : y < 256) (hf : f < 64) (h : isLogged x = false) :
    (s.raiseIsland b r).odAt i x y f = s.odAt i x y f := (quiet_raiseIsland b r s).od i x y f hx hy hf h

theorem od_raiseIsland (b : Bool) (r : Raise) (s : State) {x y f : Nat} (hx : x < 65536) (hy : y < 256) (hf : f < 64) (h : isLogged x = false) :
    (s.raiseIsland b r).od x y f = s.od x y f := odAt_raiseIsland b r s hx hy hf h

@[simp] theorem sendToIsland_pending (u : Bool) (k c : Nat) (b : List Byte) (s : State) : (s.sendToIsland u k c b).pending = s.pending := (quiet_sendToIsland u k c b s).pending
@[simp] theorem sendToIsland_clock (u : Bool) (k c : Nat) (b : List Byte) (s : State) : (s.sendToIsland u k c b).toClockPart = s.toClockPart := (quiet_sendToIsland u k c b s).clock
@[simp] theorem sendToIsland_hearth (u : Bool) (k c : Nat) (b : List Byte) (s : State) : (s.sendToIsland u k c b).toHearthPart = s.toHearthPart := (quiet_sendToIsland u k c b s).hearth
@[simp] theorem sendToIsland_memory (u : Bool) (k c : Nat) (b : List Byte) (s : State) : (s.sendToIsland u k c b).toMemoryPart = s.toMemoryPart := (quiet_sendToIsland u k c b s).memory
@[simp] theorem sendToIsland_fabric (u : Bool) (k c : Nat) (b : List Byte) (s : State) : (s.sendToIsland u k c b).toFabricPart = s.toFabricPart := (quiet_sendToIsland u k c b s).fabric
@[simp] theorem sendToIsland_serving (u : Bool) (k c : Nat) (b : List Byte) (s : State) : (s.sendToIsland u k c b).toServingPart = s.toServingPart := (quiet_sendToIsland u k c b s).serving
@[simp] theorem sendToIsland_alwaysOn (u : Bool) (k c : Nat) (b : List Byte) (s : State) : (s.sendToIsland u k c b).toAlwaysOnPart = s.toAlwaysOnPart := (quiet_sendToIsland u k c b s).alwaysOn
@[simp] theorem sendToIsland_upkeep (u : Bool) (k c : Nat) (b : List Byte) (s : State) : (s.sendToIsland u k c b).toUpkeepPart = s.toUpkeepPart := (quiet_sendToIsland u k c b s).upkeep
@[simp] theorem sendToIsland_ringA (u : Bool) (k c : Nat) (b : List Byte) (s : State) : (s.sendToIsland u k c b).ringA = s.ringA := (quiet_sendToIsland u k c b s).ringA
@[simp] theorem sendToIsland_ringB (u : Bool) (k c : Nat) (b : List Byte) (s : State) : (s.sendToIsland u k c b).ringB = s.ringB := (quiet_sendToIsland u k c b s).ringB
@[simp] theorem sendToIsland_results (u : Bool) (k c : Nat) (b : List Byte) (s : State) : (s.sendToIsland u k c b).results = s.results := (quiet_sendToIsland u k c b s).results
@[simp] theorem sendToIsland_sensorUse (u : Bool) (k c : Nat) (b : List Byte) (s : State) : (s.sendToIsland u k c b).sensorUse = s.sensorUse := (quiet_sendToIsland u k c b s).sensorUse
@[simp] theorem sendToIsland_hkLatest (u : Bool) (k c : Nat) (b : List Byte) (s : State) : (s.sendToIsland u k c b).hkLatest = s.hkLatest := (quiet_sendToIsland u k c b s).hkLatest
@[simp] theorem sendToIsland_islandLost (u : Bool) (k c : Nat) (b : List Byte) (s : State) : (s.sendToIsland u k c b).islandLost = s.islandLost := (quiet_sendToIsland u k c b s).islandLost
@[simp] theorem sendToIsland_islandAt (u : Bool) (k c : Nat) (b : List Byte) (s : State) : (s.sendToIsland u k c b).islandAt = s.islandAt := (quiet_sendToIsland u k c b s).islandAt
@[simp] theorem sendToIsland_boot (u : Bool) (k c : Nat) (b : List Byte) (s : State) : (s.sendToIsland u k c b).boot = s.boot := (quiet_sendToIsland u k c b s).boot
@[simp] theorem sendToIsland_streamed (u : Bool) (k c : Nat) (b : List Byte) (s : State) : (s.sendToIsland u k c b).streamed = s.streamed := (quiet_sendToIsland u k c b s).streamed
@[simp] theorem sendToIsland_integrity (u : Bool) (k c : Nat) (b : List Byte) (s : State) : (s.sendToIsland u k c b).integrity = s.integrity := (quiet_sendToIsland u k c b s).integrity
@[simp] theorem sendToIsland_conns (u : Bool) (k c : Nat) (b : List Byte) (s : State) : (s.sendToIsland u k c b).conns = s.conns := (quiet_sendToIsland u k c b s).conns
@[simp] theorem sendToIsland_noaWaits (u : Bool) (k c : Nat) (b : List Byte) (s : State) : (s.sendToIsland u k c b).noaWaits = s.noaWaits := (quiet_sendToIsland u k c b s).noaWaits
@[simp] theorem sendToIsland_nextCorr (u : Bool) (k c : Nat) (b : List Byte) (s : State) : (s.sendToIsland u k c b).nextCorr = s.nextCorr := (quiet_sendToIsland u k c b s).nextCorr
@[simp] theorem sendToIsland_islandHeard (u : Bool) (k c : Nat) (b : List Byte) (s : State) : (s.sendToIsland u k c b).islandHeard = s.islandHeard := (quiet_sendToIsland u k c b s).islandHeard
@[simp] theorem sendToIsland_mainHeard (u : Bool) (k c : Nat) (b : List Byte) (s : State) : (s.sendToIsland u k c b).mainHeard = s.mainHeard := (quiet_sendToIsland u k c b s).mainHeard
@[simp] theorem sendToIsland_hangAlarmed (u : Bool) (k c : Nat) (b : List Byte) (s : State) : (s.sendToIsland u k c b).hangAlarmed = s.hangAlarmed := (quiet_sendToIsland u k c b s).hangAlarmed
@[simp] theorem sendToIsland_journal (u : Bool) (k c : Nat) (b : List Byte) (s : State) : (s.sendToIsland u k c b).journal = s.journal := (quiet_sendToIsland u k c b s).journal
@[simp] theorem sendToIsland_journalFull (u : Bool) (k c : Nat) (b : List Byte) (s : State) : (s.sendToIsland u k c b).journalFull = s.journalFull := (quiet_sendToIsland u k c b s).journalFull
@[simp] theorem sendToIsland_thermalHold (u : Bool) (k c : Nat) (b : List Byte) (s : State) : (s.sendToIsland u k c b).thermalHold = s.thermalHold := (quiet_sendToIsland u k c b s).thermalHold
@[simp] theorem sendToIsland_storedNext (u : Bool) (k c : Nat) (b : List Byte) (s : State) : (s.sendToIsland u k c b).storedNext = s.storedNext := (quiet_sendToIsland u k c b s).storedNext
@[simp] theorem sendToIsland_mgmtFrom (u : Bool) (k c : Nat) (b : List Byte) (s : State) : (s.sendToIsland u k c b).mgmtFrom = s.mgmtFrom := (quiet_sendToIsland u k c b s).mgmtFrom
@[simp] theorem sendToIsland_blobSoFar (u : Bool) (k c : Nat) (b : List Byte) (s : State) : (s.sendToIsland u k c b).blobSoFar = s.blobSoFar := (quiet_sendToIsland u k c b s).blobSoFar

theorem odAt_sendToIsland (u : Bool) (k c : Nat) (b : List Byte) (s : State) {i x y f : Nat} (hx : x < 65536) (hy : y < 256) (hf : f < 64) (h : isLogged x = false) :
    (s.sendToIsland u k c b).odAt i x y f = s.odAt i x y f := (quiet_sendToIsland u k c b s).od i x y f hx hy hf h

theorem od_sendToIsland (u : Bool) (k c : Nat) (b : List Byte) (s : State) {x y f : Nat} (hx : x < 65536) (hy : y < 256) (hf : f < 64) (h : isLogged x = false) :
    (s.sendToIsland u k c b).od x y f = s.od x y f := odAt_sendToIsland u k c b s hx hy hf h

@[simp] theorem sendToMain_pending (u : Bool) (k c : Nat) (b : List Byte) (s : State) : (s.sendToMain u k c b).pending = s.pending := (quiet_sendToMain u k c b s).pending
@[simp] theorem sendToMain_clock (u : Bool) (k c : Nat) (b : List Byte) (s : State) : (s.sendToMain u k c b).toClockPart = s.toClockPart := (quiet_sendToMain u k c b s).clock
@[simp] theorem sendToMain_hearth (u : Bool) (k c : Nat) (b : List Byte) (s : State) : (s.sendToMain u k c b).toHearthPart = s.toHearthPart := (quiet_sendToMain u k c b s).hearth
@[simp] theorem sendToMain_memory (u : Bool) (k c : Nat) (b : List Byte) (s : State) : (s.sendToMain u k c b).toMemoryPart = s.toMemoryPart := (quiet_sendToMain u k c b s).memory
@[simp] theorem sendToMain_fabric (u : Bool) (k c : Nat) (b : List Byte) (s : State) : (s.sendToMain u k c b).toFabricPart = s.toFabricPart := (quiet_sendToMain u k c b s).fabric
@[simp] theorem sendToMain_serving (u : Bool) (k c : Nat) (b : List Byte) (s : State) : (s.sendToMain u k c b).toServingPart = s.toServingPart := (quiet_sendToMain u k c b s).serving
@[simp] theorem sendToMain_alwaysOn (u : Bool) (k c : Nat) (b : List Byte) (s : State) : (s.sendToMain u k c b).toAlwaysOnPart = s.toAlwaysOnPart := (quiet_sendToMain u k c b s).alwaysOn
@[simp] theorem sendToMain_upkeep (u : Bool) (k c : Nat) (b : List Byte) (s : State) : (s.sendToMain u k c b).toUpkeepPart = s.toUpkeepPart := (quiet_sendToMain u k c b s).upkeep
@[simp] theorem sendToMain_ringA (u : Bool) (k c : Nat) (b : List Byte) (s : State) : (s.sendToMain u k c b).ringA = s.ringA := (quiet_sendToMain u k c b s).ringA
@[simp] theorem sendToMain_ringB (u : Bool) (k c : Nat) (b : List Byte) (s : State) : (s.sendToMain u k c b).ringB = s.ringB := (quiet_sendToMain u k c b s).ringB
@[simp] theorem sendToMain_results (u : Bool) (k c : Nat) (b : List Byte) (s : State) : (s.sendToMain u k c b).results = s.results := (quiet_sendToMain u k c b s).results
@[simp] theorem sendToMain_sensorUse (u : Bool) (k c : Nat) (b : List Byte) (s : State) : (s.sendToMain u k c b).sensorUse = s.sensorUse := (quiet_sendToMain u k c b s).sensorUse
@[simp] theorem sendToMain_hkLatest (u : Bool) (k c : Nat) (b : List Byte) (s : State) : (s.sendToMain u k c b).hkLatest = s.hkLatest := (quiet_sendToMain u k c b s).hkLatest
@[simp] theorem sendToMain_islandLost (u : Bool) (k c : Nat) (b : List Byte) (s : State) : (s.sendToMain u k c b).islandLost = s.islandLost := (quiet_sendToMain u k c b s).islandLost
@[simp] theorem sendToMain_islandAt (u : Bool) (k c : Nat) (b : List Byte) (s : State) : (s.sendToMain u k c b).islandAt = s.islandAt := (quiet_sendToMain u k c b s).islandAt
@[simp] theorem sendToMain_boot (u : Bool) (k c : Nat) (b : List Byte) (s : State) : (s.sendToMain u k c b).boot = s.boot := (quiet_sendToMain u k c b s).boot
@[simp] theorem sendToMain_streamed (u : Bool) (k c : Nat) (b : List Byte) (s : State) : (s.sendToMain u k c b).streamed = s.streamed := (quiet_sendToMain u k c b s).streamed
@[simp] theorem sendToMain_integrity (u : Bool) (k c : Nat) (b : List Byte) (s : State) : (s.sendToMain u k c b).integrity = s.integrity := (quiet_sendToMain u k c b s).integrity
@[simp] theorem sendToMain_conns (u : Bool) (k c : Nat) (b : List Byte) (s : State) : (s.sendToMain u k c b).conns = s.conns := (quiet_sendToMain u k c b s).conns
@[simp] theorem sendToMain_noaWaits (u : Bool) (k c : Nat) (b : List Byte) (s : State) : (s.sendToMain u k c b).noaWaits = s.noaWaits := (quiet_sendToMain u k c b s).noaWaits
@[simp] theorem sendToMain_nextCorr (u : Bool) (k c : Nat) (b : List Byte) (s : State) : (s.sendToMain u k c b).nextCorr = s.nextCorr := (quiet_sendToMain u k c b s).nextCorr
@[simp] theorem sendToMain_islandHeard (u : Bool) (k c : Nat) (b : List Byte) (s : State) : (s.sendToMain u k c b).islandHeard = s.islandHeard := (quiet_sendToMain u k c b s).islandHeard
@[simp] theorem sendToMain_mainHeard (u : Bool) (k c : Nat) (b : List Byte) (s : State) : (s.sendToMain u k c b).mainHeard = s.mainHeard := (quiet_sendToMain u k c b s).mainHeard
@[simp] theorem sendToMain_hangAlarmed (u : Bool) (k c : Nat) (b : List Byte) (s : State) : (s.sendToMain u k c b).hangAlarmed = s.hangAlarmed := (quiet_sendToMain u k c b s).hangAlarmed
@[simp] theorem sendToMain_journal (u : Bool) (k c : Nat) (b : List Byte) (s : State) : (s.sendToMain u k c b).journal = s.journal := (quiet_sendToMain u k c b s).journal
@[simp] theorem sendToMain_journalFull (u : Bool) (k c : Nat) (b : List Byte) (s : State) : (s.sendToMain u k c b).journalFull = s.journalFull := (quiet_sendToMain u k c b s).journalFull
@[simp] theorem sendToMain_thermalHold (u : Bool) (k c : Nat) (b : List Byte) (s : State) : (s.sendToMain u k c b).thermalHold = s.thermalHold := (quiet_sendToMain u k c b s).thermalHold
@[simp] theorem sendToMain_storedNext (u : Bool) (k c : Nat) (b : List Byte) (s : State) : (s.sendToMain u k c b).storedNext = s.storedNext := (quiet_sendToMain u k c b s).storedNext
@[simp] theorem sendToMain_mgmtFrom (u : Bool) (k c : Nat) (b : List Byte) (s : State) : (s.sendToMain u k c b).mgmtFrom = s.mgmtFrom := (quiet_sendToMain u k c b s).mgmtFrom
@[simp] theorem sendToMain_blobSoFar (u : Bool) (k c : Nat) (b : List Byte) (s : State) : (s.sendToMain u k c b).blobSoFar = s.blobSoFar := (quiet_sendToMain u k c b s).blobSoFar

theorem odAt_sendToMain (u : Bool) (k c : Nat) (b : List Byte) (s : State) {i x y f : Nat} (hx : x < 65536) (hy : y < 256) (hf : f < 64) (h : isLogged x = false) :
    (s.sendToMain u k c b).odAt i x y f = s.odAt i x y f := (quiet_sendToMain u k c b s).od i x y f hx hy hf h

theorem od_sendToMain (u : Bool) (k c : Nat) (b : List Byte) (s : State) {x y f : Nat} (hx : x < 65536) (hy : y < 256) (hf : f < 64) (h : isLogged x = false) :
    (s.sendToMain u k c b).od x y f = s.od x y f := odAt_sendToMain u k c b s hx hy hf h

end Sys2Proof.Laws
end

