-- ==== Sys2Proof/Laws/Hearth.lean ====
section
/-! SUPPORT. Laws/Hearth.lean: what issuing a stoker instruction does, said once. -/

namespace Sys2Proof.Laws

open Sys2Proof.Machine

@[simp] theorem hearth_setHearth (h : Nat) (x : Hearth) (s : State) : (s.setHearth h x).hearth h = x := get_put_same _ _ _ _

@[simp] theorem hearth_modHearth (h : Nat) (f : Hearth → Hearth) (s : State) : (s.modHearth h f).hearth h = f (s.hearth h) := get_put_same _ _ _ _

theorem hearth_congr {s t : State} (e : t.toHearthPart = s.toHearthPart) (h : Nat) : t.hearth h = s.hearth h := by
  unfold State.hearth; exact congrArg (fun p => Tab.get Hearth.fresh h p.hearths) e

@[simp] theorem hearth_raise (r : Raise) (h : Nat) (s : State) : (s.raise r).hearth h = s.hearth h := hearth_congr (quiet_raise r s).hearth h

@[simp] theorem hearth_spend (n h : Nat) (s : State) : (s.spend n).hearth h = s.hearth h := rfl

/-- A change of one hearth leaves every other. -/
theorem hearth_modHearth_ne {g h : Nat} (n : g ≠ h) (f : Hearth → Hearth) (s : State) : (s.modHearth h f).hearth g = s.hearth g := get_put_ne _ _ _ n _

@[simp] theorem hearth_schedule (h cc : Nat) (d : Due) (s : State) : (s.schedule h cc d).hearth h = (s.hearth h).at cc d := hearth_modHearth h _ s

@[simp] theorem at_phase (cc : Nat) (d : Due) (x : Hearth) : (x.at cc d).phase = x.phase := rfl

/-- An instruction that the stoker issues leaves it running, at that cycle. -/
theorem begin_running {s : State} {w : IssueAt} {low op cc : Nat} (h : s.issuesAt w low op cc) :
    ((s.atIssue w low op).hearth w.h.toNat).phase = .running ∧ ((s.atIssue w low op).hearth w.h.toNat).last = cc := by
  unfold State.issuesAt at h
  unfold State.atIssue
  unfold State.begin at h ⊢
  dsimp only at h ⊢
  split at h
  · cases h
  · rename_i h1
    split at h
    · cases h
    · rename_i h2
      rw [if_neg h1, if_neg h2]
      have ph : ((s.advance w.h.toNat ((s.hearth w.h.toNat).issueCycle w.delta.toNat)).hearth w.h.toNat).phase = .running := by
        simp [Hearth.issues] at h2; exact h2.1.1
      by_cases h3 : (w.fetch == ReadState.uncorrectable) = true
      · rw [if_pos h3] at h; cases h
      · rw [if_neg h3] at h ⊢
        split at h
        · cases h
        · rename_i h4
          rw [if_neg h4]
          cases h
          refine ⟨?_, by rw [hearth_modHearth]⟩
          rw [hearth_modHearth]
          dsimp only
          split <;> simp [ph]

/-- What an issued instruction does: its work, then the next word unless the work stopped the stoker. -/
theorem issue_eq {s : State} {w : IssueAt} {low op cc : Nat} {go : Nat → State → State} (h : s.issuesAt w low op cc)
    (hp : ((go cc (s.atIssue w low op)).hearth w.h.toNat).phase ≠ .faulted) :
    s.issue w low op go = (go cc (s.atIssue w low op)).toNext w.h.toNat := by
  unfold State.issuesAt at h
  unfold State.atIssue at hp ⊢
  unfold State.issue
  rcases hb : s.begin w low op with ⟨o, t⟩
  rw [hb] at h hp
  cases h
  simp only [] at hp ⊢
  rw [if_neg (by simpa using hp)]

/-- An issued instruction whose work faults stays at its word. -/
theorem issue_faulted {s : State} {w : IssueAt} {low op cc : Nat} {go : Nat → State → State} (h : s.issuesAt w low op cc)
    (hp : ((go cc (s.atIssue w low op)).hearth w.h.toNat).phase = .faulted) :
    s.issue w low op go = go cc (s.atIssue w low op) := by
  unfold State.issuesAt at h
  unfold State.atIssue at hp ⊢
  unfold State.issue
  rcases hb : s.begin w low op with ⟨o, t⟩
  rw [hb] at h hp
  cases h
  simp only [] at hp ⊢
  rw [if_pos (by simpa using hp)]

/-- A stoker fault stops the stoker. -/
@[simp] theorem stokerFault_phase (h : Nat) (k : Kind) (detail op : Nat) (s : State) : ((s.stokerFault h k detail op).hearth h).phase = .faulted := by
  simp [State.stokerFault]

/-! ### The inbound queue (09 R233) -/

/-- A change of a hearth that keeps the length of its queue keeps that of every hearth. -/
theorem inbound_modHearth (h g : Nat) (f : Hearth → Hearth) (s : State) (k : (f (s.hearth h)).inbound.length = (s.hearth h).inbound.length) :
    ((s.modHearth h f).hearth g).inbound.length = (s.hearth g).inbound.length := by
  by_cases e : g = h
  · subst e; simpa using k
  · rw [hearth_modHearth_ne e]

theorem inbound_setFlag (h e cc g : Nat) (s : State) : ((s.setFlag h e cc).hearth g).inbound.length = (s.hearth g).inbound.length := by
  unfold State.setFlag
  split
  · rfl
  · exact inbound_modHearth _ _ _ _ rfl

theorem inbound_wakeDma (h cc g : Nat) (s : State) : ((s.wakeDma h cc).hearth g).inbound.length = (s.hearth g).inbound.length := by
  unfold State.wakeDma
  dsimp only
  split
  · rfl
  · exact inbound_modHearth _ _ _ _ rfl

/-- An accepted row takes one place of its hearth's queue. -/
theorem inbound_acceptRow (dest cc : Nat) (r : InRow) (s : State) :
    ((s.acceptRow dest cc r).hearth dest).inbound.length = (s.hearth dest).inbound.length + 1 := by
  have step : ∀ (t : State), ((if 1 ≤ r.src ∧ r.src ≤ 128 then t.wakeDma (r.src - 1) cc else t).hearth dest).inbound.length =
      (t.hearth dest).inbound.length := by
    intro t; split
    · exact inbound_wakeDma _ _ _ _
    · rfl
  unfold State.acceptRow
  dsimp only
  rw [step]
  split
  · split
    · rw [inbound_setFlag]; simp
    · simp
  · simp

/-- Accepting rows never takes a queue past its 64 places. -/
theorem inbound_acceptRows (dest cc : Nat) : ∀ (n : Nat) (s : State), (s.hearth dest).inbound.length ≤ 64 →
    ((s.acceptRows dest cc n).hearth dest).inbound.length ≤ 64 := by
  intro n
  induction n with
  | zero => intro s h; exact h
  | succ n ih =>
    intro s h
    unfold State.acceptRows
    split
    · exact h
    · split
      · exact h
      · refine ih _ ?_
        rw [inbound_acceptRow]
        omega

end Sys2Proof.Laws
end

