-- ==== Sys2Proof/Laws/Stack.lean ====
section
/-! SUPPORT. Laws/Stack.lean: reads after writes of the stacks' bytes, and that every operation on the stacks keeps their canonical form. -/

namespace Sys2Proof.Laws

open Sys2Proof.Machine

/-! ### Bytes -/

/-- A write keeps the canonical form. -/
theorem wf_writeBytes {m : Tab Byte} (h : m.wf (fun _ => 0) = true) (a : Nat) (bs : List Byte) : (writeBytes a bs m).wf (fun _ => 0) = true := by
  induction bs generalizing a m with
  | nil => exact h
  | cons b bs ih => exact ih (wf_put (d := fun _ => 0) a b h) (a + 1)

/-- A write leaves every byte outside it as it was. -/
theorem get_writeBytes_out (m : Tab Byte) (a : Nat) (bs : List Byte) {k : Nat} (h : k < a ∨ a + bs.length ≤ k) :
    (writeBytes a bs m).get 0 k = m.get 0 k := by
  induction bs generalizing a m with
  | nil => rfl
  | cons b bs ih =>
    simp only [List.length_cons] at h
    rw [writeBytes, ih _ _ (by omega), get_put_ne]
    omega

/-- A byte that was written reads as written. -/
theorem get_writeBytes_in (m : Tab Byte) (a : Nat) (bs : List Byte) {i : Nat} (h : i < bs.length) : (writeBytes a bs m).get 0 (a + i) = bs[i] := by
  induction bs generalizing a i m with
  | nil => simp at h
  | cons b bs ih =>
    cases i with
    | zero => rw [writeBytes, get_writeBytes_out _ _ _ (by omega)]; simp
    | succ i =>
      have := ih (m.put 0 a b) (a + 1) (i := i) (by simpa using h)
      rw [writeBytes, show a + (i + 1) = a + 1 + i by omega, this]
      simp

/-- Bytes written read back. -/
theorem readBytes_writeBytes (m : Tab Byte) (a : Nat) (bs : List Byte) : readBytes (writeBytes a bs m) a bs.length = bs := by
  refine List.ext_getElem (by simp [readBytes]) fun i h1 h2 => ?_
  simp only [readBytes, List.getElem_map, List.getElem_range]
  exact get_writeBytes_in m a bs h2

/-- Bytes that lie outside a write read as before. -/
theorem readBytes_writeBytes_out (m : Tab Byte) (a : Nat) (bs : List Byte) {b n : Nat} (h : b + n ≤ a ∨ a + bs.length ≤ b) :
    readBytes (writeBytes a bs m) b n = readBytes m b n := by
  refine List.map_congr_left fun i hi => ?_
  rw [List.mem_range] at hi
  exact get_writeBytes_out m a bs (by omega)

/-! ### Operations that leave the bytes alone -/

@[simp] theorem foldl_stack {α : Type} (l : List α) (g : State → α → State) (s : State) (h : ∀ s a, (g s a).stack = s.stack) : (l.foldl g s).stack = s.stack := by
  induction l generalizing s with
  | nil => rfl
  | cons a l ih => simp [List.foldl, ih, h]
@[simp] theorem foldl_snd_stack {α β : Type} (l : List α) (g : β × State → α → β × State) (p : β × State) (h : ∀ p a, (g p a).2.stack = p.2.stack) :
    (l.foldl g p).2.stack = p.2.stack := by
  induction l generalizing p with
  | nil => rfl
  | cons a l ih => simp [List.foldl, ih, h]
@[simp] theorem foldl_fst_stack {α β : Type} (l : List α) (g : State × β → α → State × β) (p : State × β) (h : ∀ p a, (g p a).1.stack = p.1.stack) :
    (l.foldl g p).1.stack = p.1.stack := by
  induction l generalizing p with
  | nil => rfl
  | cons a l ih => simp [List.foldl, ih, h]
@[simp] theorem ite_stack (c : Prop) [Decidable c] (a b : State) : (if c then a else b).stack = if c then a.stack else b.stack := by split <;> rfl

@[simp] theorem State_setOdAt_stack : ∀ inst idx sub fld v s, (State.setOdAt inst idx sub fld v s).stack = s.stack := fun _ _ _ _ _ _ => rfl
@[simp] theorem State_setOd_stack : ∀ idx sub fld v s, (State.setOd idx sub fld v s).stack = s.stack := fun _ _ _ _ _ => rfl
@[simp] theorem State_bumpAt_stack : ∀ inst idx sub fld n s, (State.bumpAt inst idx sub fld n s).stack = s.stack := fun _ _ _ _ _ _ => rfl
@[simp] theorem State_bump_stack : ∀ idx sub fld n s, (State.bump idx sub fld n s).stack = s.stack := fun _ _ _ _ _ => rfl
@[simp] theorem State_setBlobAt_stack : ∀ inst idx sub v s, (State.setBlobAt inst idx sub v s).stack = s.stack := fun _ _ _ _ _ => rfl
@[simp] theorem State_setBlob_stack : ∀ idx sub v s, (State.setBlob idx sub v s).stack = s.stack := fun _ _ _ _ => rfl
@[simp] theorem State_setMask_stack : ∀ size idx sub i v s, (State.setMask size idx sub i v s).stack = s.stack := fun _ _ _ _ _ _ => rfl
@[simp] theorem State_spend_stack : ∀ n s, (State.spend n s).stack = s.stack := fun _ _ => rfl
@[simp] theorem State_emit_stack : ∀ o s, (State.emit o s).stack = s.stack := fun _ _ => rfl
@[simp] theorem State_sendToIsland_stack : ∀ urgent kind corr body s, (State.sendToIsland urgent kind corr body s).stack = s.stack := by
  intro urgent kind corr body s
  simp [State.sendToIsland]
@[simp] theorem State_sendToMain_stack : ∀ urgent kind corr body s, (State.sendToMain urgent kind corr body s).stack = s.stack := by
  intro urgent kind corr body s
  simp [State.sendToMain]
@[simp] theorem State_setPathQ_stack : ∀ p q s, (State.setPathQ p q s).stack = s.stack := by
  intro p q s
  simp [State.setPathQ]
@[simp] theorem State_offer_stack : ∀ p r s, (State.offer p r s).1.stack = s.stack := by
  intro p r s
  (simp only [State.offer]; (repeat' split) <;> simp_all)
@[simp] theorem State_holdForIsland_stack : ∀ r s, (State.holdForIsland r s).stack = s.stack := by
  intro r s
  simp [State.holdForIsland]
@[simp] theorem State_logRecord_stack : ∀ r s, (State.logRecord r s).stack = s.stack := by
  intro r s
  simp [State.logRecord]
@[simp] theorem State_offerAll_stack : ∀ r s, (State.offerAll r s).1.stack = s.stack := by
  intro r s
  simp [State.offerAll]
@[simp] theorem State_chimneyDrop_stack : ∀ s p, (State.chimneyDrop s p).stack = s.stack := by
  intro s p
  simp [State.chimneyDrop]
@[simp] theorem State_raise_stack : ∀ r s, (State.raise r s).stack = s.stack := by
  intro r s
  simp [State.raise]
@[simp] theorem State_journaled_stack : ∀ key n s, (State.journaled key n s).stack = s.stack := by
  intro key n s
  simp [State.journaled]
@[simp] theorem State_raiseIsland_stack : ∀ islandTime r s, (State.raiseIsland islandTime r s).stack = s.stack := by
  intro islandTime r s
  simp [State.raiseIsland]
@[simp] theorem State_setPort_stack : ∀ p x s, (State.setPort p x s).stack = s.stack := fun _ _ _ => rfl
@[simp] theorem State_modPort_stack : ∀ p f s, (State.modPort p f s).stack = s.stack := fun _ _ _ => rfl
@[simp] theorem State_pump_stack (p n : Nat) (s : State) : (s.pump p n).stack = s.stack := by
  induction n generalizing s with
  | zero => simp [State.pump]
  | succ n ih =>
    simp only [State.pump]
    (repeat' split) <;> simp [ih]
@[simp] theorem State_queueFrames_stack : ∀ p fs s, (State.queueFrames p fs s).stack = s.stack := by
  intro p fs s
  simp [State.queueFrames]
@[simp] theorem State_queueRetry_stack : ∀ p fs s, (State.queueRetry p fs s).stack = s.stack := by
  intro p fs s
  simp [State.queueRetry]
@[simp] theorem State_send_stack : ∀ m s, (State.send m s).2.stack = s.stack := by
  intro m s
  (simp only [State.send]; (repeat' split) <;> simp_all)
@[simp] theorem State_sendEach_stack (m : Message) (l : List Nat) (s : State) : (s.sendEach m l).stack = s.stack := by
  induction l generalizing s with
  | nil => simp [State.sendEach]
  | cons d l ih => simp [State.sendEach, ih]
@[simp] theorem State_notice_stack : ∀ type arg ctx step data dests s, (State.notice type arg ctx step data dests s).stack = s.stack := by
  intro type arg ctx step data dests s
  simp [State.notice]
@[simp] theorem State_setStep_stack : ∀ id x s, (State.setStep id x s).stack = s.stack := fun _ _ _ => rfl
@[simp] theorem State_modStep_stack : ∀ id f s, (State.modStep id f s).stack = s.stack := fun _ _ _ => rfl
@[simp] theorem State_sendStrings_stack (dest : Nat) (l : List (List Byte)) (s : State) : (s.sendStrings dest l).2.stack = s.stack := by
  unfold State.sendStrings
  have h (p : List Nat × State) : (l.foldl (fun acc b => (acc.1 ++ (acc.2.send { kind := 7, cls := 2, targets := [dest], payload := b }).1.toList,
      (acc.2.send { kind := 7, cls := 2, targets := [dest], payload := b }).2)) p).2.stack = p.2.stack := by
    induction l generalizing p with
    | nil => rfl
    | cons b l ih => exact (ih _).trans (State_send_stack _ _)
  exact h _
@[simp] theorem State_sendMirror_stack (type : Nat) (body : List Byte) (dest : Nat) (s : State) : (s.sendMirror type body dest).2.stack = s.stack :=
  State_sendStrings_stack dest _ s
@[simp] theorem State_mirrorTo_stack : ∀ type body dest s, (State.mirrorTo type body dest s).stack = s.stack := by
  intro type body dest s
  simp [State.mirrorTo]
@[simp] theorem State_mirrorToTwin_stack : ∀ step type body s, (State.mirrorToTwin step type body s).stack = s.stack := by
  intro step type body s
  (simp only [State.mirrorToTwin]; (repeat' split) <;> simp_all)
@[simp] theorem State_forward_stack : ∀ idx sub data dests s, (State.forward idx sub data dests s).stack = s.stack := by
  intro idx sub data dests s
  simp [State.forward]
@[simp] theorem State_rebuild_stack : ∀ c s, (State.rebuild c s).stack = s.stack := by
  intro c s
  (simp only [State.rebuild]; (repeat' split) <;> simp_all)

@[simp] theorem State_freeFrames_stack : ∀ c s, (State.freeFrames c s).stack = s.stack := fun _ _ => rfl
@[simp] theorem State_setCtx_stack : ∀ c x s, (State.setCtx c x s).stack = s.stack := fun _ _ _ => rfl
@[simp] theorem State_loseCtx_stack : ∀ c s, (State.loseCtx c s).stack = s.stack := by
  intro c s
  (simp only [State.loseCtx]; (repeat' split) <;> simp_all)
@[simp] theorem State_dropPages_stack : ∀ l s, (State.dropPages l s).stack = s.stack := by
  intro l s
  simp [State.dropPages]
@[simp] theorem State_retireFrame_stack : ∀ p s, (State.retireFrame p s).stack = s.stack := by
  intro p s
  (simp only [State.retireFrame]; (repeat' split) <;> simp_all)
@[simp] theorem State_retireAt_stack : ∀ a s, (State.retireAt a s).stack = s.stack := by
  intro a s
  (simp only [State.retireAt]; (repeat' split) <;> simp_all)
@[simp] theorem State_stackError_stack : ∀ line step s, (State.stackError line step s).stack = s.stack := by
  intro line step s
  simp [State.stackError]
@[simp] theorem State_correctLine_stack : ∀ line s, (State.correctLine line s).stack = s.stack := by
  intro line s
  simp [State.correctLine]
@[simp] theorem State_readLine_stack : ∀ line step s, (State.readLine line step s).2.stack = s.stack := by
  intro line step s
  (simp only [State.readLine]; (repeat' split) <;> simp_all)
@[simp] theorem State_readLines_stack : ∀ lines step s, (State.readLines lines step s).2.stack = s.stack := by
  intro lines step s
  simp [State.readLines]
@[simp] theorem State_readStackRow_stack : ∀ a step s, (State.readStackRow a step s).2.stack = s.stack := by
  intro a step s
  simp [State.readStackRow]
@[simp] theorem State_readStack_stack : ∀ a len step s, (State.readStack a len step s).2.2.stack = s.stack := by
  intro a len step s
  simp [State.readStack]

/-! ### The canonical form -/

/-- The stacks after reset list nothing. -/
theorem stackWf_reset : State.reset.stackWf = true := rfl

theorem stackWf_congr {s t : State} (h : t.stack = s.stack) (hs : s.stackWf = true) : t.stackWf = true := by unfold State.stackWf at *; rw [h]; exact hs

theorem stackWf_writeStack (a : Nat) (bs : List Byte) {s : State} (h : s.stackWf = true) : (s.writeStack a bs).stackWf = true := wf_writeBytes h a bs

theorem stackWf_writeStackRow (a : Nat) (c : List VCell) {s : State} (h : s.stackWf = true) : (s.writeStackRow a c).stackWf = true := wf_writeBytes h a _

theorem stackWf_readStack (a len step : Nat) {s : State} (h : s.stackWf = true) : (s.readStack a len step).2.2.stackWf = true :=
  stackWf_congr (State_readStack_stack a len step s) h

theorem stackWf_readStackRow (a step : Nat) {s : State} (h : s.stackWf = true) : (s.readStackRow a step).2.stackWf = true :=
  stackWf_congr (State_readStackRow_stack a step s) h

theorem stackWf_loseCtx (c : Nat) {s : State} (h : s.stackWf = true) : (s.loseCtx c).stackWf = true := stackWf_congr (State_loseCtx_stack c s) h

theorem stackWf_retireFrame (p : Nat) {s : State} (h : s.stackWf = true) : (s.retireFrame p).stackWf = true := stackWf_congr (State_retireFrame_stack p s) h

/-- What a main-side reset leaves of the stacks is canonical (21 R502). -/
theorem stackWf_filter (f : Nat × Byte → Bool) {s : State} (h : s.stackWf = true) : { s with stack := s.stack.filter f }.stackWf = true := wf_filter f h

/-- A read after a write gives the bytes written. -/
theorem readStack_writeStack (a : Nat) (bs : List Byte) (s : State) (step : Nat) : ((s.writeStack a bs).readStack a bs.length step).1 = bs := by
  have e : ((s.writeStack a bs).readStack a bs.length step).2.2.stack = writeBytes a bs s.stack := State_readStack_stack _ _ _ _
  have r : ((s.writeStack a bs).readStack a bs.length step).1 = readBytes ((s.writeStack a bs).readStack a bs.length step).2.2.stack a bs.length := rfl
  rw [r, e, readBytes_writeBytes]

end Sys2Proof.Laws
end

