-- ==== Sys2Proof/WellFormed.lean ====
section
/-! DEFINITION. WellFormed.lean: which commands an agent of the spec can send. Operands that the part itself judges and refuses (a value out
of its range, an image with a fault) are well formed; what no agent can send is not: a list whose count the message does not carry, a
payload beyond what its frame can hold, a test result for a converter that is not there. -/

namespace Sys2Proof

/-- No number twice. -/
def distinct : List Nat → Bool
  | [] => true
  | n :: l => !l.contains n && distinct l

/-- A mailbox access without a scatter list has its bytes in the data buffer (16 R389, Table 16-6). -/
def MailboxReq.ok (m : MailboxReq) : Bool := m.bulk != 0 || m.data.length ≤ 65536

/-- A NOA message carries at most 1,024 bytes (17 R419), and its offset and length lie in the total. -/
def NoaMsg.ok (m : NoaMsg) : Bool := m.data.length ≤ 1024 && (m.op == .read || m.offset.toNat + m.data.length ≤ m.total.toNat)

/-- A deck reference is found in its own phase (04 R102); converters are 0 to 66. -/
def TrimFound.ok (p : CalPhase) (t : TrimFound) : Bool := if p = .deckRef then t.conv == 67 else t.conv.toNat ≤ 66

/-- A node word for each node of the count (13 R310). -/
def TreeRec.ok (t : TreeRec) : Bool := t.nodes.length == t.count.toNat

/-- At most 8 token words, one for each of the count, a node for each step of the accepted path, and at most 8 guesses (14 R337). -/
def TokenMsg.ok (m : TokenMsg) : Bool := m.count.toNat ≤ 8 && m.guesses.length ≤ 8 && m.words.length == m.count.toNat && m.nodes.length == m.m.toNat

/-- The step header's accepted path and tree record (Table 14-7). -/
def StepHdr.ok (h : StepHdr) : Bool := h.nodes.length == h.m.toNat && h.tree.ok

/-- A step header block goes with the first frame of a transfer, and with no other (14 R335). -/
def TransportHdr.ok (h : TransportHdr) (b : Option StepHdr) : Bool := (b.isNone || h.first) && b.all StepHdr.ok

/-- One token slot has a K4 and a V4 code for each of its 128 elements (11 R266). -/
def KvSlot.ok (e : KvSlot) : Bool := e.k.length == 128 && e.v.length == 128

/-- A request record: its stage and mode are listed, and its path has its count (Table 15-5). -/
def ReqMirror.ok (r : ReqMirror) : Bool := r.stage.toNat ≤ 2 && r.nodes.length == r.m.toNat

/-- A COPY record's request or pages. -/
def CopyRec.ok : CopyRec → Bool
  | .request r => r.ok
  | .context _ c _ pages => c.tier.toNat ≤ 3 && pages.all fun p => p.2.all KvSlot.ok

/-- What each command can carry. -/
def wellFormed : Instr → Bool
  | .objectWrite _ op _ _ _ _ => op != .read
  | .mailboxGo _ m => m.ok
  | .noaRequest m => m.ok
  | .segmentedWriteTimeout _ => true
  | .drvIssue _ _ => true
  | .drvLatchLoad _ _ => true
  | .damperHoldRelease _ => true
  | .reissueWiden _ => true
  | .reissueSplit _ => true
  | .acc _ _ => true
  | .accDelivery _ _ _ => true
  | .arrayFence _ => true
  | .converterSettleFail _ _ _ => true
  | .remapWrite _ _ _ => true
  | .housekeepingRound => true
  | .housekeepingConversion _ _ _ _ => true
  | .calibrationIntervalExpired _ => true
  | .calibrateMasked _ => true
  | .calibrateAll _ => true
  | .calibrationRunStart => true
  | .calibrationMasterDone _ _ hearthTrims => distinct (hearthTrims.map (·.1.toNat))
  | .calibrationPhaseDone phase found => found.all fun t => t.ok phase
  | .calibrationGroupDone => true
  | .calibrationCoverGraceExpired _ => true
  | .trimUpdate _ => true
  | .calibrationImageWrite _ _ => true
  | .calibrationImageApplied => true
  | .steepHostDma _ => true
  | .steepFabric _ => true
  | .selfRefresh _ => true
  | .steepAbort _ => true
  | .steepSignatureVerify _ => true
  | .steepChunkArrival _ _ => true
  | .steepSourceTimeout => true
  | .steepArrayStart _ => true
  | .wearLimit _ => true
  | .programIteration _ _ outside => distinct (outside.map (·.toNat))
  | .kilnEnd _ => true
  | .finalVerifyDone _ outside => distinct (outside.map (·.toNat))
  | .arraySteepComplete _ => true
  | .programRecordArrival _ record _ _ _ => record.length == 96
  | .integrityCheckComplete _ => true
  | .switchCommand _ _ _ => true
  | .barrierRaise _ => true
  | .barrierLower _ => true
  | .drainLimitExpired => true
  | .copyComplete => true
  | .referenceLost => true
  | .referenceStable => true
  | .referenceSelectWrite _ _ => true
  | .coreFrequencyCeilingWrite _ _ => true
  | .spreadWrite _ _ _ => true
  | .clockEnableWrite _ _ => true
  | .ptp _ => true
  | .ptpHoldover => true
  | .cadenceEdge => true
  | .cadenceEdgeMissing => true
  | .cadenceLost => true
  | .stageLaunch _ => true
  | .stepAbandon _ => true
  | .holdNPulse => true
  | .holdNStuck => true
  | .kindle _ => true
  | .kindleComplete _ => true
  | .hearthBank _ => true
  | .outOfService _ _ => true
  | .returnToService _ _ => true
  | .programImageWrite _ _ => true
  | .programUnload _ => true
  | .fluSend _ _ => true
  | .fluReceive _ _ => true
  | .vecLd _ _ => true
  | .vecSt _ _ => true
  | .vecAdd _ _ => true
  | .vecSub _ _ => true
  | .vecMul _ _ => true
  | .vecFma _ _ => true
  | .vecMax _ _ => true
  | .vecMin _ _ => true
  | .vecSel _ _ => true
  | .vecCmp _ _ => true
  | .vecRsum _ _ => true
  | .vecRmax _ _ => true
  | .vecRsqs _ _ => true
  | .vecRsqrt _ _ => true
  | .vecRcp _ _ => true
  | .vecExp2 _ _ => true
  | .vecAct _ _ => true
  | .vecGlu _ _ => true
  | .vecWiden _ _ => true
  | .vecNarrowB4 _ _ => true
  | .vecNarrowB8 _ _ => true
  | .vecNarrowA4s _ _ => true
  | .vecFix _ _ => true
  | .vecFlt _ _ => true
  | .vecTopk _ _ => true
  | .vecBcast _ _ => true
  | .vecGset _ _ => true
  | .vecGadd _ _ => true
  | .vecGctx _ _ => true
  | .vecGlane _ _ => true
  | .vecLaneg _ _ => true
  | .dma _ _ => true
  | .dmaCopy _ _ => true
  | .dmaHearth _ _ => true
  | .dmaSet _ _ => true
  | .dmaStackRd _ _ => true
  | .dmaStackWr _ write => distinct (write.parity.map (·.1.toNat))
  | .dmaFabric _ write => distinct (write.parity.map (·.1.toNat))
  | .dmaComplete _ _ _ => true
  | .wai _ _ => true
  | .waiRelease _ => true
  | .waiTimeout _ => true
  | .sigLocal _ _ => true
  | .sigHearth _ _ => true
  | .sigSet _ _ => true
  | .sigAttn _ _ => true
  | .sigPart _ _ => true
  | .signalDepart _ _ => true
  | .signalArrival _ _ _ => true
  | .fenL _ _ => true
  | .fenD _ _ => true
  | .fenS _ _ => true
  | .fenRelease _ _ => true
  | .fenTimeout _ => true
  | .braAlways _ _ => true
  | .braNever _ _ => true
  | .braEq _ _ => true
  | .braNe _ _ => true
  | .braLt _ _ => true
  | .braGe _ _ => true
  | .braDec _ _ => true
  | .braBitset _ _ => true
  | .braBitclr _ _ => true
  | .hlt _ => true
  | .hearthHalt _ => true
  | .freezeEnd _ => true
  | .scrubPatrol _ cells => distinct (cells.map fun w => 4 * w.row.toNat + w.word.toNat)
  | .inboundWrite _ _ _ => true
  | .residentRegionWrite _ _ _ _ => true
  | .residentImageWrite _ _ => true
  | .flueMerge _ _ _ _ _ => true
  | .flueUnitComplete _ _ _ _ => true
  | .flueTreeWrite _ _ => true
  | .attentionStart _ _ _ => true
  | .attentionComplete _ _ _ _ => true
  | .stackScrub _ found => distinct (found.others.map (·.1.toNat))
  | .tierPause _ => true
  | .tierResume _ => true
  | .tierDemote _ => true
  | .tierDiscard _ => true
  | .tierRenew _ => true
  | .warmExpiry _ => true
  | .cellarExpiry _ => true
  | .tierMoveComplete _ _ => true
  | .dataAreaSizeWrite _ _ => true
  | .submissionDoorbell _ _ _ => true
  | .completionHeadDoorbell _ _ _ => true
  | .submit _ _ e => e.stops.length == 4
  | .cancel _ _ _ => true
  | .pause _ _ _ _ => true
  | .renew _ _ _ _ => true
  | .discard _ _ _ _ => true
  | .admission _ => true
  | .pendingDeadlineExpired _ => true
  | .bucketRefill => true
  | .tenantConfigWrite _ _ => true
  | .tokenSelection _ _ _ _ => true
  | .token m => m.ok
  | .grammarImageWrite _ _ => true
  | .draft _ _ => true
  | .tree _ _ tree => tree.ok
  | .draftWaitExpired _ => true
  | .specReport _ _ _ => true
  | .missLimit _ => true
  | .fallbackEnd _ => true
  | .mode _ _ => true
  | .rebuildComplete _ _ => true
  | .speculationConfigWrite _ _ _ _ => true
  | .trainingComplete _ _ _ => true
  | .trainingRetry _ => true
  | .ident _ _ => true
  | .identTimeout _ => true
  | .peerSession _ _ _ => true
  | .portDown _ => true
  | .data _ _ hdr stepHdr payload _ => payload.length % 8 == 0 && payload.length ≤ 4096 && hdr.ok stepHdr
  | .lack _ _ _ _ => true
  | .lnak _ _ => true
  | .idle _ => true
  | .linkReplayTimeout _ => true
  | .act _ _ => true
  | .repair _ _ _ => true
  | .mgmt _ m => m.ok
  | .ack _ _ => true
  | .nack _ _ _ => true
  | .transferIncompleteTimeout _ _ => true
  | .nobufRetry _ => true
  | .deliveryTimeout _ => true
  | .retryLimit _ => true
  | .portRetrain _ _ => true
  | .portDisable _ _ => true
  | .portEnable _ _ => true
  | .neighbourEntryWrite _ _ _ => true
  | .slip _ _ => true
  | .abandon _ _ _ => true
  | .replayLimit _ => true
  | .genFault _ _ => true
  | .genPointer _ _ => true
  | .genReport _ _ _ => true
  | .tier _ action => 1 ≤ action.toNat && action.toNat ≤ 5
  | .tierReport _ _ _ => true
  | .commit _ _ => true
  | .stageTableWrite _ _ => true
  | .stepCommit _ => true
  | .kvEntry _ _ entries => entries.all KvSlot.ok && distinct (entries.map (·.slot.toNat))
  | .kvCommit _ _ _ _ m nodes => nodes.length == m.toNat
  | .context _ c => c.tier.toNat ≤ 3
  | .request r => r.ok
  | .stepDone _ => true
  | .copy c => c.ok
  | .shadowIn _ hdr _ _ => hdr.ok
  | .shadowRun _ => true
  | .shadowOut _ _ _ => true
  | .entryTest _ => true
  | .mirrorHeartbeat _ _ role _ => role.toNat ≤ 3
  | .roleFailed _ _ _ => true
  | .roleTakeover _ _ _ => true
  | .roleJoin _ _ _ => true
  | .roleAssign _ _ _ => true
  | .recoveryComplete _ => true
  | .roleReport _ _ _ => true
  | .failureProbeTimeout _ => true
  | .roleDrain _ => true
  | .roleReturn _ => true
  | .roleRelease _ => true
  | .roleReplace _ => true
  | .pcieLinkUp _ rate width _ => 1 ≤ rate.toNat && rate.toNat ≤ 6 && [1, 2, 4, 8].contains width.toNat
  | .portReset _ => true
  | .functionLevelReset _ => true
  | .d3hotEntry _ => true
  | .bar2Read _ _ len => 1 ≤ len && len ≤ 4096
  | .bar2Write _ _ data => 1 ≤ data.length && data.length ≤ 512
  | .queuePairEnable _ => true
  | .queuePairDisable _ => true
  | .interruptCoalesceTimeout _ _ => true
  | .ownershipClaim _ => true
  | .ownershipRelease _ => true
  | .forcedTakeOver _ _ => true
  | .eventCauseClear _ _ => true
  | .eventRingDoorbell _ _ => true
  | .objRead _ _ _ _ _ => true
  | .objWrite _ _ _ op _ data => op != .read && data.length ≤ 1024
  | .objResult _ _ data => data.length ≤ 1024
  | .event rec => rec.length == 32
  | .calImage _ _ data => data.length ≤ 4096
  | .blobSegment _ _ _ offset total data => data.length ≤ 4096 && offset.toNat + data.length ≤ total.toNat
  | .mgmtFrame _ m => m.ok
  | .keyOp ephemeral _ _ wrapped => ephemeral.length == 133 && wrapped.length == 40
  | .bootImage _ data _ => data.length ≤ 4096
  | .heartbeat _ _ _ _ _ => true
  | .heartbeatTimer _ _ _ => true
  | .mainReset => true
  | .mainOff _ => true
  | .tempTrip _ => true
  | .barrierAck _ _ _ => true
  | .barrierResendTimeout _ => true
  | .urgentRepeat _ => true
  | .heartbeatMissing => true
  | .islandLost => true
  | .hangTimeout => true
  | .powerOn _ => true
  | .orderlyOff _ => true
  | .orderlyOffDrained => true
  | .mainSideResetCommand _ => true
  | .forcedPowerOff _ => true
  | .islandReset _ => true
  | .islandWatchdog => true
  | .getVersion _ => true
  | .getCapabilities _ => true
  | .negotiateAlgorithms _ _ => true
  | .getDigests _ => true
  | .getCertificate _ _ _ _ => true
  | .challenge _ _ nonce => nonce.length == 32
  | .getMeasurements _ _ _ nonce => nonce.length == 32
  | .keyExchange _ _ => true
  | .finish _ _ => true
  | .keyUpdate _ => true
  | .spdmHeartbeat _ => true
  | .endSession _ => true
  | .droopTrigger => true
  | .driveEventTrigger => true
  | .injectedSample codes => codes.length == 4
  | .damperGraceEnd => true
  | .damperStepUp => true
  | .damperStepDown => true
  | .pmbAlert => true
  | .pmbusRetry _ => true
  | .eventRingWrite _ => true
  | .sideBandDatagram => true
  | .sootRingWrite => true
  | .sootHeaderRewrite => true
  | .sootFreeze _ => true
  | .sootResume _ => true
  | .sootAutoResume => true
  | .errorLogClear _ => true
  | .unitFence _ => true
  | .testDue _ => true
  | .testOverdue _ => true
  | .routineTestStart _ => true
  | .deepTest _ _ => true
  | .testComplete _ _ => true
  | .coverPoll _ => true
  | .ownerKeyWrite _ _ _ => true
  | .publisherKeyWrite _ _ _ => true
  | .firmwareInstall _ => true
  | .firmwareActivate _ => true
  | .islandBoot => true
  | .trialCommit => true
  | .trialFail => true
  | .visoPowerOn => true
  | .mainSideReady => true
  | .powerGood _ => true
  | .powerGoodTimeout _ => true
  | .powerGoodLost _ => true
  | .powerUpRetry => true
  | .powerDownStep => true
  | .visoBrownOut _ => true
  | .bypass => true
  | .idcode => true
  | .samplePreload => true
  | .extest => true
  | .extestPulse => true
  | .extestTrain => true
  | .clamp => true
  | .highz => true
  | .tapReset => true
  | .holdNStuckCleared => true
  | .levelReadComplete _ _ => true
  | .mainSideResetReleased => true
  | .lackTimer _ => true
  | .idleTimer _ => true
  | .identRepeat _ => true
  | .hostReadCompletion _ _ data _ => data.length ≤ 4096
  | .sideBandLinkChange link => link.toNat ≤ 2
  | .icmpv6Request _ _ data => data.length ≤ 1232
  | .glideComplete => true
  | .setPointSettleWait => true

end Sys2Proof
end

