-- ==== Sys2Proof/Tests/Slice0.lean ====
section
/-! SUPPORT. Tests/Slice0.lean: witnesses for the hypotheses of every statement, and small tests of one step each. -/

namespace Sys2Proof.Tests

set_option Elab.async false

open Sys2Proof Sys2Proof.Machine

/-- A part whose island runs and whose side-band link is up. -/
def islandOn : State := { State.reset with islandRun := 1 }.setOd 0x1310 5 0 1

/-- A part whose main side is UP as well. -/
def on : State := islandOn.setOd 0x1300 3 0 2

/-- A part whose controlling host is host A. -/
def hosted : State := on.setOd 0x1100 1 0 0

/-- Host A's part with every clock enabled. -/
def clocked : State := hosted.setOd 0x2120 0 0 0x3FFF

/-- A submission entry of tenant 1 with one prompt token at address 4,096 and no grammar. -/
def entry1 : SubEntry :=
  { flags := 0, variant := 0, grammar := 255, tenant := 1, cls := 0, stopCount := 0, tag := 77, ctx := 0, promptCount := 1, promptAddr := 4096,
    deadline := BitVec.ofNat 64 (2 ^ 64 - 1), maxNew := 4, temperature := 0, topK := 0, topP := 0, biasCount := 0, startState := 0, seed := 0, biasAddr := 0,
    stops := [], reserved := false }

/-- A request of that entry on queue pair 1 of port A, with context 9 and its steps as given. -/
def request9 (phase : ReqPhase) (flights : List Flight) : Request :=
  { newRequest .a 1 entry1 0 0 with ctx := 9, phase := phase, flights := flights, holds := false, silent := true }

/-- Step 3 of a request, a chunk of one token. -/
def flight3 : Flight :=
  { step := 3, chunk := true, samples := true, free := false, first := 0, tree := { count := 1, levels := 1, source := 0, template := 0, nodes := [] }, m := 0,
    nodes := [], mode := 0, replays := 0, edge := 0 }

/-- A part with one request, number 4. -/
def with4 (s : State) (r : Request) : State := { s with requests := Tab.put none 4 (some r) [] }

/-- The hypotheses of TestPortInstructions are met by a part that is on, and by one that is ready. -/
theorem witness_TestPortInstructions :
    (on.mainState ≠ 0 ∧ on.ready = false) ∧ ({ on with ready := true }.mainState ≠ 0 ∧ { on with ready := true }.ready = true) := by decide

/-- A part whose island brings the rails up: enables and power-goods as given, the last step taken at reset. -/
def rising (enables goods : Nat) : State := { on.setOd 0x1300 3 0 1 with seq := { Sequencer.fresh with enables := enables, goods := goods }, tick := 200000000 }

/-- The hypotheses of RailsRiseInOrder: rail 0 enabled and not good; all six good; the rails fallen for 2 s. -/
theorem witness_RailsRiseInOrder :
    ((rising 1 0).islandRun = 1 ∧ (rising 1 0).seq.down = none ∧ (rising 1 0).mainState = 1 ∧ (rising 1 0).seq.released = false ∧
      bit (rising 1 0).seq.enables 0 = true ∧ bit (rising 1 0).seq.goods 0 = false ∧ topEnable (rising 1 0).seq.enables = some 0 ∧
      (rising 1 0).seq.stepAt + 3000000 ≤ (rising 1 0).elapsed) ∧
    (bit (rising 63 31).seq.enables 5 = true ∧ bit (rising 63 31).seq.goods 5 = false) ∧
    ((rising 63 63).seq.goods = 63 ∧ (rising 63 63).seq.stepAt + 4000000 ≤ (rising 63 63).elapsed) ∧
    (let s := { (rising 0 0).setOd 0x1300 3 0 0 with seq := { Sequencer.fresh with again := true } }
     s.mainState = 0 ∧ s.seq.enables = 0 ∧ s.seq.again = true ∧ s.seq.stepAt + 1000000000 ≤ s.elapsed) := by decide

/-- A part whose rails fall. -/
def falling (enables : Nat) : State := { on with seq := { Sequencer.fresh with enables := enables, goods := enables, down := some true } }

/-- A part that is UP with all its rails. -/
def railed : State := { on with seq := { Sequencer.fresh with enables := 63, goods := 63, released := true } }

/-- The hypotheses of RailsFallInReverse. -/
theorem witness_RailsFallInReverse :
    ((falling 63).islandRun = 1 ∧ (falling 63).seq.down = some true ∧ topEnable (falling 63).seq.enables = some 5 ∧
      setBit (falling 63).seq.enables 5 false ≠ 0) ∧
    (topEnable (falling 1).seq.enables = some 0 ∧ setBit (falling 1).seq.enables 0 false = 0) ∧
    (railed.mainState ≠ 0 ∧ railed.seq.down = none ∧ bit railed.seq.goods 5 = true ∧ railed.seq.lostAt = none ∧
      Accepted railed .sideBand .command 0x1300 2 [1] ∧ Accepted railed .sideBand .command 0x1300 1 [3] ∧ Accepted railed .sideBand .command 0x1300 1 [2] ∧
      railed.ready = false ∧ railed.onlyLive = false) ∧
    (let s := { railed with seq := { railed.seq with lostAt := some 0 } }
     s.seq.lostAt = some 0 ∧ s.elapsed ≤ 0 + 60000000000) ∧
    (let s := (railed.setOd 0x1300 3 0 5).setOd 0x4100 1 0 3
     s.mainState = 5 ∧ s.seq.down = none ∧ s.steep = none ∧ s.od 0x4100 1 0 = 3) ∧
    (islandOn.mainState = 0 ∧ Accepted islandOn .sideBand .command 0x1300 1 [1]) := by decide

/-- A part whose hearth 0 runs step 1 and has not issued yet: its next issue is at cycle 16. -/
def stoking : State := on.setHearth 0 { Hearth.fresh with phase := .running, step := 1, first := true, last := 16 }

def slot0 : IssueAt := { h := 0, delta := 1, fetch := .clean }

/-- A VEC word at a width. -/
def word (w : BitVec 2) : VecFields := { w := w, vd := 1, va := 2, vb := 3, vc := 4, imm := 5, upset := none }

/-- Hypotheses of VectorResultsFallDue: an issue at F16 and at I4 of the first and the last operation. -/
theorem witness_VectorResultsFallDue :
    (∀ vop ∈ [2, 5, 18, 24, 30], stoking.issuesAt slot0 (vecLow (word 3)) (128 + vop) 16 ∧ stoking.issuesAt slot0 (vecLow (word 0)) (128 + vop) 16) ∧
    (word 3).w = 3 ∧ (word 0).w.toNat < 2 ∧ (word 3).va.toNat ≠ 31 ∧ (word 3).vd.toNat ≠ 31 ∧ (word 3).imm.toNat < 512 ∧ (word 0).w ≠ 3 ∧
    2 ≤ (word 3).w.toNat := by decide

/-- Hypotheses of VectorLoadsAndStores: a free slot, a taken one, too many rows, TOPK after none and after one at cycle 8. -/
theorem witness_VectorLoadsAndStores :
    (let x := (stoking.atIssue slot0 (vecLow (word 3)) 128).hearth 0
     stoking.issuesAt slot0 (vecLow (word 3)) 128 16 ∧ stoking.issuesAt slot0 (vecLow (word 3)) 129 16 ∧ stoking.issuesAt slot0 (vecLow (word 3)) 152 16 ∧
     loadRows (word 3) ≤ 16 ∧ loadAddr (word 3) x + loadRows (word 3) ≤ 32768 ∧ x.loadFrame ≠ some 3 ∧ x.storeFrame ≠ some 3 ∧
     16 < loadRows { word 3 with imm := 0xFFFFF } ∧ x.topk = none ∧ 1 ≤ (word 3).imm.toNat % 512 ∧ (word 3).imm.toNat % 512 ≤ 256) ∧
    (let s := stoking.modHearth 0 fun x => { x with loadFrame := some 3, storeFrame := some 3, topk := some 8 }
     let x := (s.atIssue slot0 (vecLow (word 3)) 128).hearth 0
     s.issuesAt slot0 (vecLow (word 3)) 128 16 ∧ s.issuesAt slot0 (vecLow (word 3)) 129 16 ∧ s.issuesAt slot0 (vecLow (word 3)) 152 16 ∧
     x.loadFrame = some 3 ∧ x.storeFrame = some 3 ∧ x.topk = some 8 ∧ 16 < 8 + 16) := by decide

/-- Hypotheses of BranchesAndHalt. -/
theorem witness_BranchesAndHalt :
    (∀ ga ∈ [(0 : BitVec 4), 1], stoking.issuesAt slot0 (braLow { ga := ga, gb := 2, bit := 31, target := 7 }) 9 16) ∧ stoking.issuesAt slot0 0 10 16 := by
  decide

def wait0 (branch : Bool) : Wait := { event := 3, clr := true, timeout := 100, branch := branch, target := 9, cc := 20 }

/-- A part whose hearth 0 waits for flag 3. -/
def atWait (branch : Bool) : State := stoking.modHearth 0 fun x => { x with phase := .waiting, wait := some (wait0 branch), last := 20 }

/-- Hypotheses of WaitsReleaseOrTimeOut: a WAI issues; a flag set at cycle 30; no flag, with and without a branch. -/
theorem witness_WaitsReleaseOrTimeOut :
    stoking.issuesAt slot0 (waiLow { event := 3, clr := true, scale := true, tmo := 2, branch := true, target := 9 }) 6 16 ∧
    (let s := (atWait true).modHearth 0 fun x => { x with flags := x.flags.put 0 3 31 }
     (s.hearth 0).phase = .waiting ∧ (s.hearth 0).wait = some (wait0 true) ∧
     (let s' := s.runUntilFlag 0 3 100 ((s.hearth 0).calendar.length + 1)
      (s'.hearth 0).flagAt 3 = some 30 ∧ 30 ≤ (wait0 true).timeout ∧ (s'.hearth 0).phase = .waiting ∧
      (let u := s'.advance 0 31
       (u.hearth 0).afterFreeze 32 = 32 ∧ ((u.advance 0 32).hearth 0).phase = .waiting))) ∧
    (∀ b ∈ [true, false], ((atWait b).hearth 0).phase = .waiting ∧ ((atWait b).hearth 0).wait = some (wait0 b) ∧ (wait0 b).branch = b ∧
      (((atWait b).advance 0 100).hearth 0).flagAt 3 = none ∧ (((atWait b).advance 0 100).hearth 0).phase = .waiting) := by decide

def sig1 (rel : Bool) : SigFields := { rel := rel, event := 3, target := 1, desc := 40 }

/-- A part whose hearth 0 has a signal that may leave, with a flag of step `step` on its way to it; `set` has the flag set already. -/
def signalling (set : Bool) (step : Nat) : State :=
  (stoking.modStep 1 fun r => { r with phase := .running }).modHearth 0 fun x =>
    { x with signals := [{ kind := 1, event := 3, target := 1, desc := 0, cc := 10, seq := 0 }], waiting := [.signal 2 3 step],
             flags := if set then x.flags.put 0 3 5 else x.flags }

/-- Hypotheses of SignalsLeaveAndArrive. -/
theorem witness_SignalsLeaveAndArrive :
    (∀ b ∈ [true, false], stoking.issuesAt slot0 (sigLow (sig1 b)) 7 16 ∧ (sig1 b).rel = b) ∧
    (stoking.fetchRow 0 40 23).1.isSome = true ∧
    ((stoking.writeRow 0 40 [{ bits := 0, poison := true, bad := false }]).fetchRow 0 40 23).1 = none ∧
    firstSignal 3 [] (stoking.hearth 0).waiting = none ∧
    (let u := (signalling false 1).advance 0 20
     ((u.hearth 0).signals.find? fun g => (u.hearth 0).released g && decide (g.cc ≤ 20)) = some { kind := 1, event := 3, target := 1, desc := 0, cc := 10, seq := 0 }) ∧
    (∀ b ∈ [true, false],
      let s := signalling b 1
      firstSignal 3 [] (s.hearth 0).waiting = some (.signal 2 3 1) ∧ 1 = (s.hearth 0).step ∧ (s.stepRec 1).phase = .running ∧
      (((((s.modHearth 0 fun x => { x with waiting := [] }).advance 0 20).hearth 0).flagAt 3 = none) ↔ b = false)) ∧
    firstSignal 3 [] ((signalling false 9).hearth 0).waiting = some (.signal 2 3 9) ∧ 9 ≠ ((signalling false 9).hearth 0).step := by decide +kernel

def fence0 (scope timeout : Nat) : Fence :=
  { scope := scope, earliest := 24, timeout := timeout, cc := 20, seq := 0, rows := 1, sends := 0, landed := 0 }

/-- A part whose hearth 0 stands at a fence; `rows` stand in its inbound queue. -/
def atFence (timeout : Nat) (rows : List InRow) : State :=
  stoking.modHearth 0 fun x => { x with phase := .fencing, fence := some (fence0 0 timeout), last := 20, inbound := rows }

/-- A row that hearth 1 sent to hearth 0. -/
def row1 : InRow := { row := 5, cells := [], src := 2, xfer := 0, bulk := false, event := none, step := 1, serial := 0, start := 1, flit := 0 }

/-- Hypotheses of FencesReleaseOrTimeOut: a scope that is complete in time, one that is complete too late for a frame boundary, and one with
a row still to be written. -/
theorem witness_FencesReleaseOrTimeOut :
    stoking.issuesAt slot0 (fenLow { scale := false, tmo := 80 }) 8 16 ∧
    (∀ e ∈ [(100, true), (20, false)],
      let s := atFence e.1 []
      let u := (s.advance 0 23).advance 0 24
      (s.hearth 0).phase = .fencing ∧ (s.hearth 0).fence = some (fence0 0 e.1) ∧ s.fenceAt 0 (fence0 0 e.1) 30 = some 20 ∧
      ((s.advance 0 23).hearth 0).afterFreeze 24 = 24 ∧ (u.hearth 0).phase = .fencing ∧ (frameUp (max 24 20) ≤ e.1 ↔ e.2 = true) ∧
      (let v := s.advance 0 e.1
       (v.hearth 0).phase = .fencing ∧ v.fenceAt 0 (fence0 0 e.1) e.1 = some 20)) ∧
    (let s := atFence 100 [row1]
     s.fenceAt 0 (fence0 0 100) 30 = none ∧
     (let u := s.advance 0 100
      (u.hearth 0).phase = .fencing ∧ u.fenceAt 0 (fence0 0 100) 100 = none)) := by decide

/-- A part whose hearth 0 is past its HLT; `other` runs hearth 1 of the same step as well. -/
def pastHalt (other : Bool) : State :=
  let s := stoking.modHearth 0 fun x => { x with phase := .ended, hltAt := 90 }
  if other then s.setHearth 1 { Hearth.fresh with phase := .running, step := 1 } else s

/-- A part whose hearth 0 is in a freeze, within which the stoker fetches a poisoned row. -/
def failsInFreeze : State :=
  ((stoking.modStep 1 fun r => { r with phase := .running }).writeRow 0 40 [{ bits := 0, poison := true, bad := false }]).modHearth 0 fun x =>
    { x with freeze := some { start := 24, resume := 40 },
             calendar := [{ cc := 31, seq := 0, due := .attn { kind := 3, event := 3, target := 0, desc := 40, cc := 16, seq := 0 } }] }

/-- Hypotheses of HearthsHaltAndFreezesEnd. -/
theorem witness_HearthsHaltAndFreezesEnd :
    (∀ b ∈ [true, false],
      let s := pastHalt b
      (s.hearth 0).phase = .ended ∧ (s.hearth 0).queue0 = [] ∧ (s.hearth 0).queue1 = [] ∧ (s.hearth 0).groups = [] ∧ (s.hearth 0).calendar = [] ∧
      (((((s.advance 0 90).modHearth 0 fun x => { x with phase := .halted, haltAt := 90, haltTick := 0 }).showStoker 0 0).stillRunning 1 = []) ↔ b = false)) ∧
    (let s := (pastHalt false).modHearth 0 fun x => { x with queue0 := [{ row := 7, event := 3, seq := 0, desc := none, running := false, pos := 0, data := [], parity := [], ran := [], moved := false, wrote := 0, tids := [] }] }
     (s.hearth 0).phase = .ended ∧ (s.hearth 0).queue0 ≠ []) ∧
    (let s := stoking.modHearth 0 fun x => { x with freeze := some { start := 24, resume := 32 } }
     (s.hearth 0).freeze = some { start := 24, resume := 32 } ∧ ((s.advance 0 31).hearth 0).freeze = some { start := 24, resume := 32 }) ∧
    (failsInFreeze.hearth 0).freeze = some { start := 24, resume := 40 } ∧ ((failsInFreeze.advance 0 39).hearth 0).freeze = none := by decide +kernel

/-- Operands of FlueSumsDoNotDependOnOrder: a sum that wraps and one that does not, at the ends of the range. -/
theorem witness_FlueSumsDoNotDependOnOrder :
    (addLane (2 ^ 31 - 1, false) (1, false)).1.1 ≠ (2 ^ 31 - 1) + 1 ∧ (addLane (-(2 ^ 31), false) (0, false)).1.1 = -(2 ^ 31) + 0 := by decide

/-- A flue tree image of one tag: valid, SPARSE, to hearth 1 from hearth 0, led by hearth 0 with a bound of 4; as bytes of OD 0x3408. -/
def tree1 : List Byte := [0, 0, 1, 0] ++ List.replicate 60 0 ++ [3, 1, 0, 0, 4, 0, 0, 0, 1] ++ List.replicate 23 0

/-- A part whose hearth 0 may send tag 0, its port busy until cycle `busy`. -/
def sending0 (busy : Nat) : State := (stoking.setBlob 0x3408 0 tree1).modHearth 0 fun x => { x with g := x.g.put 0 15 2, flueUntil := busy }

def flu0 : FluFields := { tag := 0, dest := 1, addr := 32, len := 1, f16 := false }

/-- Hypotheses of FlueSendsAndReceives: a send by the lead, and one while the port is busy. -/
theorem witness_FlueSendsAndReceives :
    (∀ b ∈ [0, 20], (sending0 b).issuesAt slot0 (fluLow flu0) 3 16) ∧
    (let s' := (sending0 0).atIssue slot0 (fluLow flu0) 3
     (s'.hearth 0).flueUntil ≤ 16 ∧ s'.tagValid 0 = true ∧ s'.tagF16 0 = flu0.f16 ∧ s'.tagDest 0 = flu0.dest.toNat ∧
     bit (s'.tagContributors 0) 0 = true ∧ 0 ∉ (s'.hearth 0).sent ∧ flu0.addr.toNat + 16 * flu0.len.toNat ≤ 32768 ∧
     (s'.tagSparse 0 && leAt (s'.flueEntry 0) 3 1 == 0) = true ∧ (s'.hearth 0).gReg 15 % 256 ≠ 0 ∧
     (s'.hearth 0).gReg 15 % 256 ≤ leAt (s'.flueEntry 0) 4 1) ∧
    16 < (((sending0 20).atIssue slot0 (fluLow flu0) 3).hearth 0).flueUntil := by decide

/-- A flit of tag 0 at router 1. -/
def flit1 (input count : Nat) : Held :=
  { router := 1, input := input, flit := { tag := 0, unit := 0, index := 0, step := 1, lanes := [(5, false)], count := count, total := 0 } }

def router1 : HearthId := 1

/-- A part with such flits held and tag 0 FIXED from hearths 0 and 1 to hearth 1. -/
def merging (l : List Held) : State :=
  { on.setBlob 0x3408 0 ([0, 0, 1, 0] ++ List.replicate 60 0 ++ [1, 1, 0, 0, 0, 0, 0, 0, 3] ++ List.replicate 23 0) with flue := { flits := l, stores := [] } }

/-- A part whose merge store holds the one unit of tag 0 for hearth 1, its receive of `len` units armed. -/
def merged (len : Nat) : State :=
  let s := (merging []).setHearth 1 { Hearth.fresh with phase := .running, receives := [{ tag := 0, event := 4, addr := 64, len := len, cc := 30, written := [] }] }
  { s with flue := { flits := [], stores := [{ hearth := 1, tag := 0, unit := 0, step := 0, total := some 2,
                                                flits := (List.range 8).map fun i => { index := i, count := 2, lanes := [] } }] } }

/-- Hypotheses of FlueMergesAndDelivers. -/
theorem witness_FlueMergesAndDelivers :
    (merging []).heads 1 = [] ∧
    (let s := merging [flit1 0 1, flit1 1 1]
     (s.heads 1).filter (Held.is 0 0 0) = flit1 0 1 :: [flit1 1 1] ∧ s.flueRoom 1 (s.tagDest 0) (flit1 0 1).flit = true ∧
     s.tagSparse 0 = false ∧ (∀ n ∈ tagInputs (s.tagContributors 0) (s.tagDest 0) 1, ∃ e ∈ flit1 0 1 :: [flit1 1 1], e.input = n)) ∧
    (let s := { merging [flit1 0 1, flit1 1 1] with
                flue := { flits := [flit1 0 1, flit1 1 1],
                          stores := [{ hearth := 1, tag := 5, unit := 0, step := 0, total := none,
                                       flits := List.replicate 1024 { index := 1, count := 1, lanes := [] } }] } }
     s.flueRoom 1 (s.tagDest 0) (flit1 0 1).flit = false) ∧
    (let s := merging [flit1 0 1]
     (s.heads 1).filter (Held.is 0 0 0) = flit1 0 1 :: [] ∧
     s.tagSparse 0 = false ∧ ∃ n ∈ tagInputs (s.tagContributors 0) (s.tagDest 0) 1, ∀ e ∈ [flit1 0 1], e.input ≠ n) ∧
    (merged 1).flueLate 1 1 (flit1 0 1).flit = true ∧
    (∀ len ∈ [1, 2],
      let s := (merged len).advance 1 40
      (s.flue.stores.find? fun u => u.hearth == 1 && u.tag == 0 && u.unit == 0).isSome = true ∧
      ((s.hearth 1).receives.find? fun r => r.tag == 0 && !r.written.contains 0).isSome = true ∧
      (∀ u ∈ s.flue.stores, u.total = some 2 ∧ u.flits.length = s.tagFlits 0 ∧ ∀ e ∈ u.flits, e.count = 2)) ∧
    Accepted hosted .hostA .write 0x3408 0 (List.replicate 64 0) ∧ hosted.imageState = true ∧
    { hosted with ready := true }.imageState = false := by decide +kernel

/-- A descriptor of one row: kind, target, source row 64, target row 128, stack address 0. -/
def desc1 (kind : Nat) : List Byte :=
  [BitVec.ofNat 8 kind, 0, 1, 5, 64, 0, 128, 0, 1] ++ List.replicate 10 0 ++ [0x40] ++ List.replicate 44 0

/-- A transfer of the descriptor in row 7, with what has been fetched of it. -/
def transfer7 (d : Option Descriptor) : Transfer :=
  { row := 7, event := 3, seq := 0, desc := d, running := false, pos := 0, data := [], parity := [], ran := [], moved := false, wrote := 0, tids := [] }

/-- A part whose hearth 0 has that transfer at the front of engine 0; `cells` is row 64, its source. -/
def moving (d : Option Descriptor) (cells : List VCell) : State :=
  (stoking.writeRow 0 64 cells).modHearth 0 fun x => { x with queue0 := [transfer7 d] }

def dma0 : DmaFields := { eng := false, desc := 7, event := 3 }

/-- Hypotheses of DmaDescriptorsRun: an issue with room and without, a fetch that is good, refused and poisoned, every kind, and a FABRIC read
that is clean, poisoned and of scale 0xFF. -/
theorem witness_DmaDescriptorsRun :
    (stoking.issuesAt slot0 (dmaLow dma0) 5 16 ∧ (((stoking.atIssue slot0 (dmaLow dma0) 5).hearth 0).engine false).length < 16) ∧
    (let s := stoking.modHearth 0 fun x => { x with queue0 := List.replicate 16 (transfer7 none) }
     s.issuesAt slot0 (dmaLow dma0) 5 16 ∧ 16 ≤ (((s.atIssue slot0 (dmaLow dma0) 5).hearth 0).engine false).length) ∧
    (∀ e ∈ [(2, false, true), (6, false, true), (2, true, false)],
      let s := (moving none []).writeRow 0 7 (cellsOfBytes (desc1 e.1) e.2.1)
      let r := s.fetchRow 0 7 31
      (s.hearth 0).transfer 0 = some (false, transfer7 none) ∧ r.1.isSome = e.2.2 ∧ r.2.badDescriptor (descriptorOf (r.1.getD [])) = decide (e.1 = 6 ∨ e.2.1)) ∧
    (∀ k ∈ [0, 1, 2, 3, 4, 5],
      let d := descriptorOf (desc1 k)
      let u := (moving (some d) []).reachFetch 0 false
      (u.hearth 0).engine false = transfer7 (some d) :: [] ∧ (transfer7 (some d)).desc = some d ∧ (transfer7 (some d)).running = false ∧
      (transfer7 (some d)).moved = false ∧ (transfer7 (some d)).ran.all (u.descDone 0 (transfer7 (some d))) = true ∧ d.kind = k ∧
      u.retentionRoom (u.roomTaken + u.copySize 0 d) = true) ∧
    (∀ e ∈ [(false, false), (true, false), (false, true)],
      let d := descriptorOf (desc1 5)
      let r := (moving (some d) (List.replicate 32 { bits := 0, poison := e.1, bad := e.2 })).rowsRead .sending 0 37 64 1
      r.1.length = 1 ∧ ∀ row ∈ r.1, ∀ c ∈ row, c.poison = e.1 ∧ c.bad = e.2) ∧
    (∃ e ∈ [(0, ({ hop := 0, word := 3 } : FlitFault))], e.1 = (0 + 0) / 2) := by decide +kernel

/-- The same part, with one transfer retained. -/
def storeWith (payload : List Byte) : State :=
  let hdr : TransportHdr := { kind := 1, cls := 1, mcast := false, first := true, last := true, retry := false, reserved := false, src := 0, dst := 1, slot := 0,
                              tid := 1, len := 0, offset := 0, gen := 0, step := 9, mask := 0, kvGen := 0, rack := 0 }
  { moving (some (descriptorOf (desc1 5))) [] with
    retained := [{ step := 9, left := [], send := { hdr := hdr, stepHdr := none, payload := payload, port := 2, left := [], refused := [], tries := 0,
                                                    sentAt := 0, retryAt := none, hearth := 0, run := 0, acked := false } }] }

/-- Hypotheses of DmaDescriptorsRun: a FABRIC transfer that finds the store full (any copy of more than 128 MiB there). -/
theorem witness_DmaDescriptorsRun_full (payload : List Byte) (hp : 134217728 < payload.length) :
    let s := storeWith payload
    let d := descriptorOf (desc1 5)
    let u := s.reachFetch 0 false
    (u.hearth 0).engine false = transfer7 (some d) :: [] ∧ (transfer7 (some d)).ran.all (u.descDone 0 (transfer7 (some d))) = true ∧ d.kind = 5 ∧
    u.retentionRoom (u.roomTaken + u.copySize 0 d) = false := by
  refine ⟨rfl, rfl, by decide +kernel, ?_⟩
  have e : ((storeWith payload).reachFetch 0 false).retained = (storeWith payload).retained := rfl
  unfold State.retentionRoom
  rw [e]
  simp only [storeWith, List.map_cons, List.map_nil, List.sum_cons, List.sum_nil, decide_eq_false_iff_not]
  omega

/-- Hypotheses of DmaTransfersComplete: a front transfer that has moved and is done, one that has not moved, an empty queue. -/
theorem witness_DmaTransfersComplete :
    (∀ b ∈ [true, false],
      let s := (stoking.modHearth 0 fun x => { x with queue1 := [{ transfer7 none with ran := [descriptorOf (desc1 4)], moved := b }] }).advance 0 20
      ((s.hearth 0).engine true).length = 1 ∧ (∀ x ∈ (s.hearth 0).engine true, s.dmaDone 0 x = b)) ∧
    ((stoking.advance 0 20).hearth 0).engine true = [] := by decide

def drv0 : DrvFields := { bay := 0, desc := 0, lower := false, span := 0, slot := 0, first := 0, last := 9, vsrc := 0 }

/-- A part whose hearth 0 has a program with group 0 of site 0 in one segment and one block; its latch loaded as given, its ACC armed as given. -/
def driving (latch : Option Latch) (armed : List Armed) : State :=
  let o := blockOffset 0 + 65536
  let img := (List.replicate o (0 : Byte)) ++ [1, 0, 0, 0, 0, 0, 0, 0, 1, 0, 5, 0, 0, 0, 0, 0, 1] ++ List.replicate 15 0
  ((stoking.setBlob 0x3401 0 img).setSite 0 { Site.fresh with latchA := latch, latchB := latch }).modHearth 0 fun x => { x with armed := armed }

/-- A latch loaded at cycle 4. -/
def loaded4 : Latch := { step := 1, elems := [], scale := 255, ready := 4, busyUntil := none, seq := 0 }

/-- Hypotheses of IssueGroupsStart: free latches and none; ACC in time, absent, and too old; a damper without room. -/
theorem witness_IssueGroupsStart :
    (stoking.issuesAt slot0 (accLow { bay := 0, desc := 0, slot := 0 }) 2 16) ∧
    (let s := stoking.atIssue slot0 (drvLow drv0) 1
     stoking.issuesAt slot0 (drvLow drv0) 1 16 ∧ s.fits 0 (s.groupDesc 0 0).sites.length 16 = true ∧
     ((s.hearth 0).armed.find? fun a => a.bay == 0 && a.desc == 0) = none) ∧
    (let x := Hearth.fresh
     let g : Group := { bay := 1, desc := 0, slot := 0, layer := 0, span := 0, first := 0, last := 0, cc := 10, policy := 0, budget := 0, window := 100, nblk := 1,
                        nseg := 1, outBase := 0, sites := List.replicate 32 { site := 0, array := 0, seg := 0, blk := 0, elems := [], scale := 0, cause := 0,
                                                                              initial := [], cols := [], parts := [], used := 0, reissues := 0 },
                        delivered := false }
     let s := (on.setHearth 0 { x with phase := .running, first := true, last := 16, groups := [g] }).setOd 0x2404 0 0 4
     s.issuesAt slot0 (drvLow drv0) 1 16 ∧ (s.atIssue slot0 (drvLow drv0) 1).fits 0 1 16 = false) := by decide

/-- The hypotheses of a group that starts, met together. -/
theorem witness_IssueGroupsStart_starts :
    let arm : Armed := { bay := 0, desc := 0, slot := 0, cc := 10 }
    let s := driving (some loaded4) [arm]
    let s' := s.atIssue slot0 (drvLow drv0) 1
    s.issuesAt slot0 (drvLow drv0) 1 16 ∧ (s'.groupDesc 0 0).sites = [0] ∧ s'.fits 0 1 16 = true ∧
    ((s'.hearth 0).armed.find? fun a => a.bay == 0 && a.desc == 0) = some arm ∧ (s'.hearth 0).groups = [] ∧
    (s'.site 0).loaded 1 = some loaded4 ∧ loaded4.ready < 16 ∧ (latchFree 1 16 (s'.site 0).latchA || latchFree 1 16 (s'.site 0).latchB) = false := by
  decide +kernel

def flagged : ColConv := { code := 127, flag := 1, span := 0, invalid := false }

def conv0 : SiteConv :=
  { site := 0, array := 0, seg := 0, blk := 0, elems := [], scale := 255, cause := 0, initial := [flagged], cols := [flagged], parts := [], used := 0,
    reissues := 0 }

def group0 (policy : Nat) : Group :=
  { bay := 0, desc := 0, slot := 0, layer := 0, span := 0, first := 0, last := 9, cc := 20, policy := policy, budget := 2, window := 240, nblk := 1,
    nseg := 1, outBase := 64, sites := [conv0], delivered := false }

/-- A part whose hearth 0 has one group in flight, with a flagged column. -/
def converting (policy : Nat) : State := stoking.modHearth 0 fun x => { x with groups := [group0 policy] }

/-- A part whose hearth 0 holds a DRV. -/
def holding : State := stoking.modHearth 0 fun x => { x with held := some (slot0, drv0) }

/-- Hypotheses of ReissuesAndDelivery. -/
theorem witness_ReissuesAndDelivery :
    (let s := converting 1
     ((s.hearth 0).groups.find? fun g => !g.delivered && g.sites.any fun sc => sc.site == 0 && s.wantsWiden g sc) = some (group0 1) ∧
     ((group0 1).sites.find? fun sc => sc.site == 0 && s.wantsWiden (group0 1) sc) = some conv0) ∧
    (let s := converting 2
     s.nextSplit (group0 2) conv0 = some (0, 9, 1) ∧
     ((s.hearth 0).groups.find? fun g => !g.delivered && g.sites.any fun sc => sc.site == 0 && (s.nextSplit g sc).isSome) = some (group0 2) ∧
     ((group0 2).sites.find? fun sc => sc.site == 0 && (s.nextSplit (group0 2) sc).isSome) = some conv0) ∧
    ((converting 0).hearth 0).groups.find? (fun g => g.bay == 0 && !g.delivered) = some (group0 0) ∧
    (let s := holding
     (s.hearth 0).held = some (slot0, drv0) ∧ (s.hearth 0).phase = .running ∧ (s.hearth 0).freeze = none ∧
     (((List.range 256).map fun k => 8 * ((s.hearth 0).last / 8 + 1 + k)).find? (s.fits 0 (s.groupDesc 0 0).sites.length)) = some 24) := by
  decide +kernel

/-- A part whose array 0 has had `n` mismatches, where 3 within 100 issues fence. -/
def checked (n : Nat) : State :=
  let s := stoking.setOdAt 0 0x3105 0 0 0
  let s := s.modStep 1 fun r => { r with cfg := ((r.cfg.put 0 (odKey 0 0x3104 2 0) 3).put 0 (odKey 0 0x3104 3 0) 100) }
  { s with checks := s.checks.put CheckLog.fresh 0 { issues := 10, mismatches := List.replicate n 10 } }

/-- Hypotheses of ArraysFenceAndRemap. -/
theorem witness_ArraysFenceAndRemap :
    (let s := checked 3
     let cfg := (s.stepRec (s.hearth 0).step).cfg
     s.arrayState 0 = 0 ∧ (s.checks.get CheckLog.fresh 0).mismatches ≠ [] ∧ cfgOf cfg 0x3104 2 0 ≤ (s.checks.get CheckLog.fresh 0).recent (cfgOf cfg 0x3104 3 0)) ∧
    (let s := checked 2
     let cfg := (s.stepRec (s.hearth 0).step).cfg
     (s.checks.get CheckLog.fresh 0).recent (cfgOf cfg 0x3104 3 0) < cfgOf cfg 0x3104 2 0) ∧
    (converterColumn 3 2 = some 131 ∧
     ((converting 0).hearth 0).groups.find? (fun g => !g.delivered && g.sites.any fun sc => sc.site == 0 && sc.cause == 0) = some (group0 0)) ∧
    (let s := { converting 0 with settleFails := Tab.put [] 3 [(9, 0)] [] }
     let log := (s.settleFails.get [] 3).filter fun e => decide (s.now ≤ e.2 + 10000000000)
     (∃ e ∈ log, e.1 ≠ (s.hearth 0).step) ∧ s.convOut.get false 3 = false) ∧
    (stoking.setOdAt 0 0x3105 0 0 1).arrayState 0 = 1 ∧ (stoking.setOdAt 0 0x3107 0 1 2).recState 0 = 2 ∧
    (checked 0).arrayState 0 ≠ 1 ∧ (checked 0).recState 0 ≠ 2 ∧ (checked 0).arrayState 0 ≠ 3 ∧ (stoking.setOdAt 0 0x3105 0 0 3).arrayState 0 = 3 ∧
    ((stoking.setOdAt 0 0x3105 0 0 1).remapWaits.any fun e => e.1 == 0 && e.2.1 == physColumn ((stoking.setOdAt 0 0x3105 0 0 1).remapTable 0) 5) = false ∧
    (let s := { stoking with remapWaits := [(0, physColumn (stoking.remapTable 0) 5, 0)] }
     (s.remapWaits.any fun e => e.1 == 0 && e.2.1 == physColumn (s.remapTable 0) 5) = true) := by decide +kernel

/-- A part whose hearth 0 is WARM with patrol on, a row for its buffer row 5 in its inbound queue, rows 0 to 9 a region with these flag bits. -/
def inService (flags : Nat) : State :=
  (((hosted.setOd 0x3000 1 0 3).setOd 0x3406 1 0 1).setOd 0x3000 0x10 0 (flags * 2 ^ 29 + 9 * 2 ^ 16)).modHearth 0 fun x =>
    { x with inbound := [row1] }

/-- An image of no region: version 1, its two checksums. -/
def noRegions : List Byte :=
  let body : List Byte := [1, 0] ++ List.replicate 54 0 ++ leBytes 4 (crc32 [])
  body ++ leBytes 4 (crc32 body)

/-- Hypotheses of BuffersTakeWhatComes. -/
theorem witness_BuffersTakeWhatComes :
    ((inService 4).od 0x3000 1 0 = 3 ∧ (inService 4).od 0x3406 1 0 ≠ 0 ∧ ¬ (hosted.od 0x3000 1 0 = 3 ∨ hosted.od 0x3000 1 0 = 4) ∧
      ((inService 4).setOd 0x3406 1 0 0).od 0x3406 1 0 = 0) ∧
    (∀ f ∈ [4, 5],
      let u := ((inService f).advance 0 40).modHearth 0 fun x => { x with inbound := [] }
      (((inService f).advance 0 40).hearth 0).inbound = [row1] ∧ u.inRegion 0 5 (some 29) = (f == 5)) ∧
    ((hosted.advance 0 40).hearth 0).inbound = [] := by decide +kernel

/-- Hypotheses on the writes of BuffersTakeWhatComes: an entry that fits, one that meets another, images. -/
theorem witness_BuffersTakeWhatComes_writes :
    (Accepted hosted .hostA .write 0x3000 0x10 (leBytes 4 (2 ^ 31 + 5 * 2 ^ 16)) ∧ hosted.imageState = true ∧
      (let rs := hosted.regions 0 0 (2 ^ 31 + 5 * 2 ^ 16)
       disjoint rs = true ∧ (rs.map regionSize).sum ≤ 4096 ∧ (∀ e ∈ rs, regionBase e + regionSize e ≤ 32768) ∧
       hosted.loadRows 0 0 (2 ^ 31 + 5 * 2 ^ 16) ≤ 131072)) ∧
    disjoint ((inService 4).regions 0 1 (2 ^ 31 + 5 * 2 ^ 16)) = false ∧ { hosted with ready := true }.imageState = false ∧
    (Accepted hosted .hostA .write 0x3407 0 noRegions ∧ noRegions.length = 64 + 64 * hosted.loadRows 128 8 0 ∧ leAt noRegions 0 2 = 1 ∧
      leAt noRegions 2 2 = hosted.loadRegions ∧ leAt noRegions 56 4 = crc32 (noRegions.drop 64) ∧ leAt noRegions 60 4 = crc32 (noRegions.take 60)) := by
  decide +kernel

def ctx0 (t : Tier) : Ctx :=
  { tenant := 1, kvGen := 0, committed := 0, tier := t, lists := [], since := 0, used := 0, move := none, cellar := 0, cellarAt := 0, slotLen := 0 }

/-- A part with every block clock on, admitting or not, that knows context 7 in a tier for `sec` seconds, where both times to live are 1 s;
`room` configures a region. -/
def keeps7 (admitting : Bool) (t : Tier) (sec room : Nat) : State :=
  let s := (clocked.setCtx 7 (ctx0 t)).setTimer 7 (some { tier := t, since := 0, awaiting := [], lost := false })
  let s := (((if admitting then s else s.setOd 0x4100 2 0 5).setOd 0x5402 1 0 1).setOd 0x5402 2 0 1).setOd 0x5403 0 2 room
  { s with tick := 100000000 * sec }

/-- Hypotheses of TierActionsHere. -/
theorem witness_TierActionsHere :
    (∀ t ∈ [Tier.hot, .warm, .cellar], (keeps7 false t 0 0).enabled 10 = true ∧ ((keeps7 false t 0 0).setOd 0x2120 0 0 0).enabled 10 = false ∧ (keeps7 false t 0 0).ctx 7 = some (ctx0 t) ∧ (keeps7 false t 0 0).isAdmitting = false ∧ (ctx0 t).move = none) ∧
    (keeps7 false .warm 0 0).cellarRoom 7 = false ∧ (keeps7 false .warm 0 65536).cellarRoom 7 = true ∧ (keeps7 false .cellar 0 0).expired 7 .cellar = false ∧
    (keeps7 true .cellar 0 0).isAdmitting = true ∧ (keeps7 true .cellar 0 0).renewLate 7 = false ∧ (keeps7 true .cellar 1 0).renewLate 7 = true ∧
    (keeps7 true .cellar 0 0).expired 7 .cellar = false ∧
    (∀ r ∈ [0, 65536], (keeps7 true .warm 1 r).expired 7 .warm = true ∧ (keeps7 true .warm 1 r).od 0x5403 0 2 = r ∧
      ((keeps7 true .warm 1 r).ctx 7).bind (·.move) = none) ∧
    ((keeps7 true .warm 1 0).startDemote 7).expired 7 .warm = true ∧
    ((((keeps7 true .warm 1 0).startDemote 7).ctx 7).bind (·.move)).isSome = true ∧
    (keeps7 true .warm 0 0).expired 7 .warm = false ∧ (keeps7 true .cellar 1 0).expired 7 .cellar = true := by decide +kernel

/-- A part with every block clock on that moves context 7: kind 1 to CELLAR, 2 back. -/
def moves7 (kind : Nat) : State :=
  (hosted.setOd 0x2120 0 0 0x3FFF).setCtx 7 { ctx0 .warm with move := some { kind := kind, resume := false, discard := false } }

/-- A part that moves context 7 to CELLAR with one page, in frame 5, whose tag names context `owner`. -/
def paged7 (owner : Nat) : State :=
  ((hosted.setOd 0x2120 0 0 0x3FFF).setPage 5 { ctx := owner, tenant := 1, layer := 0, head := 0, first := 0, kScale := 0, vScale := 0, kvGen := 0,
                                                state := 2, written := 1, slots := [] }).setCtx 7
    { ctx0 .warm with move := some { kind := 1, resume := false, discard := false }, cellar := 6208, slotLen := 6208,
                      lists := [{ layer := 0, head := 0, die := 0, committed := 1, first := 0, before := 0, step := none, frames := Tab.put none 0 (some 5) [] }] }

/-- Hypotheses of TierMovesAndDataArea. -/
theorem witness_TierMovesAndDataArea :
    (∀ k ∈ [1, 2], (moves7 k).enabled 10 = true ∧ (moves7 k).ctx 7 = some { ctx0 .warm with move := some { kind := k, resume := false, discard := false } }) ∧
    (hosted.setOd 0x2120 0 0 0).enabled 10 = false ∧ ((moves7 2).restorePages 7 [[]]).1 = false ∧ ((moves7 2).restorePages 7 []).1 = true ∧
    (let s := paged7 7
     let x := (s.ctx 7).getD (ctx0 .hot)
     x.frameList = [5] ∧ x.move.isSome = true ∧ (∀ f ∈ x.frameList, (s.page f).any fun p => p.ctx == 7 && p.tenant == x.tenant && p.kvGen == x.kvGen) ∧
     ((x.frameList.foldl (fun s f => (s.readFrame f 0).2) s).ctx 7).any fun y => y.tier != .lost) ∧
    (let s := paged7 8
     let x := (s.ctx 7).getD (ctx0 .hot)
     x.frameList = 5 :: [] ∧ (s.page 5).all (fun p => p.ctx != 7) ∧
     ((((s.bump 0x5408 0 4 1).raise { kind := .tenant, path := pathUnit (1 + s.frameDie 5) 127 0 0, detail := x.tenant }).loseCtx 7).ctx 7).any
       fun y => y.tier == .lost) ∧
    { hosted with ready := true }.imageState = false ∧
    Accepted hosted .hostA .write 0x5401 0 (leBytes 4 2048) ∧ Accepted hosted .hostA .write 0x5401 0 (leBytes 4 2000) ∧ hosted.imageState = true := by
  decide +kernel

/-- A request of gang 0 for context 7 of tenant 1: one group, one position, output row 100. -/
def attn7 (tenant : Byte) : List Byte := [0, 0, 0, 0, 1, 1, 0, 0, 7, 0, 0, 0, tenant] ++ List.replicate 51 0

def attnReq (tenant : Byte) (started : Bool) : AttnReq :=
  { die := 0, hearth := 0, step := 1, event := 3, request := attn7 tenant, bound := 1000000, started := started, run := 0 }

def gang0 : BitVec 2 := 0
def die0 : BitVec 1 := 0

/-- A part whose hearth 0 runs step 1 and has that request in the gang's queue; it knows context 7 of tenant 1, HOT. -/
def attending (r : AttnReq) : State :=
  let s := (stoking.modStep 1 fun x => { x with phase := .running }).setCtx 7 (ctx0 .hot)
  { s with attnQueue := [r] }

/-- Hypotheses of AttentionRequestsAreServed. -/
theorem witness_AttentionRequestsAreServed :
    (∀ r ∈ [attnReq 1 false, attnReq 2 false, attnReq 1 true],
      ((attending r).reachAttn 0).attnQueue.filter (AttnReq.ofGang die0.toNat gang0.toNat) = r :: [] ∧
      ((attending r).reachAttn 0).isShadow r.step = false ∧ (attending r).attnLives r = true ∧ (attending { r with run := 9 }).attnLives { r with run := 9 } = false) ∧
    (let r := attnReq 2 false
     let s := (attending r).reachAttn 0
     (s.ctx (attnDesc r.request).ctx).isSome = true ∧ s.attnMismatch (attnDesc r.request) = true) ∧
    ((attending (attnReq 1 true)).attnQueue.find? fun r => r.ofGang die0.toNat gang0.toNat && r.started) = some (attnReq 1 true) ∧
    (let u := (attending (attnReq 1 true)).advance 0 50
     (u.hearth 0).accepted (gangSource 0 0) = true) ∧
    (let s := (attending (attnReq 1 true)).modHearth 0 fun x => { x with waiting := [.row { row1 with src := gangSource 0 0 }] }
     ((s.advance 0 50).hearth 0).accepted (gangSource 0 0) = false) ∧
    (stoking.reachAttn 0).attnQueue.filter (AttnReq.ofGang die0.toNat gang0.toNat) = [] ∧
    (stoking.upsetLine 5 .corrected).stackLine.get 0 5 = 3 ∧ (stoking.upsetLine 5 .uncorrectable).stackLine.get 0 5 = 1 ∧
    stoking.stackLine.get 0 5 = 0 := by decide +kernel

/-- A part whose hearth 5 was calibrated at time 0 and whose run is in a state, `sec` seconds after reset, with an interval of 1 s. -/
def aging (state sec : Nat) : State :=
  let s := ((on.setCal 5 40 1).setCal 5 2 state).setOd 0x2803 0 0 1
  { s with tick := 100000000 * sec, rackTime := BitVec.ofNat 64 (1000000000 * sec) }

def calRun0 (master : Bool) (phase : Nat) (waiting : List Nat) : CalRun := { waiting := waiting, group := [5], master := master, phase := phase }

/-- Hypotheses of CalibrationFallsDue. -/
theorem witness_CalibrationFallsDue :
    (∀ n ∈ [1, 2, 3], (aging n 2).tooOld 5 = true ∧ (aging n 2).calState 5 = n) ∧ (aging 1 1).tooOld 5 = false ∧
    (let s := (aging 2 2).setOd 0x2802 0 0 1
     s.cal 5 43 = 0 ∧ s.cal 5 41 + 1000000 * s.od 0x2802 0 0 ≤ s.elapsed) ∧
    (let s := (aging 2 0).setOd 0x2802 0 0 1
     s.elapsed < s.cal 5 41 + 1000000 * s.od 0x2802 0 0) ∧ ((aging 2 2).setCal 5 43 1).cal 5 43 ≠ 0 ∧
    Accepted clocked .hostA .command 0x2800 1 [1] ∧ Accepted clocked .hostA .command 0x2800 1 [2] ∧ clocked.calRun = none ∧
    (let s := { clocked with calRun := some (calRun0 false 0 []) }
     Accepted s .hostA .command 0x2800 1 [1] ∧ Accepted s .hostA .command 0x2800 1 [2] ∧ s.calRun ≠ none) ∧
    on.siteBusy 3 = false ∧ (converting 0).siteBusy 0 = true := by decide +kernel

/-- Hypotheses of CalibrationRunsInPhases. -/
theorem witness_CalibrationRunsInPhases :
    (let s := (((on.setOd 0x2120 0 0 0x3FFF).setCal 5 2 2).setOd 0x3005 1 0 1)
     s.enabled 13 = true ∧ s.mainUp = true ∧ s.calRun = none ∧ s.runnable ≠ []) ∧
    ((on.setOd 0x2120 0 0 0).enabled 13 = false ∧ State.reset.mainUp = false ∧ on.runnable = []) ∧
    (let s := { on with calRun := some (calRun0 false 0 [6]) }
     s.calRun = some (calRun0 false 0 [6]) ∧ s.calRun ≠ none ∧ (100 : Int).natAbs ≤ 20000 ∧ 20000 < (-20001 : Int).natAbs) ∧
    ((calRun0 true 1 []).phase = calOrder .gain ∧ (calRun0 true 1 []).phase ≠ calOrder .offset ∧ (calRun0 true 3 []).phase = 3) := by decide +kernel

/-- The header of an image of a part with serial 0. -/
def calHead : List Byte := sealed (leBytes 2 1 ++ leBytes 2 128 ++ leBytes 2 512 ++ leBytes 2 144 ++ List.replicate 52 0)

/-- Hypotheses of CalibrationImagesRestore: a header that passes but for the length of the whole, whose check is this one comparison. -/
theorem witness_CalibrationImagesRestore :
    Accepted hosted .hostA .write 0x2808 0 calHead ∧ hosted.ready = false ∧ hosted.calRun = none ∧ hosted.steep = none ∧ hosted.calImage = [] ∧
    hosted.calHeaderGood calHead = false ∧
    (isSealed (calHead.take 64) && leAt calHead 0 2 == 1 && leAt calHead 2 2 == 128 && leAt calHead 4 2 == 512 && leAt calHead 6 2 == 144 &&
      leAt calHead 8 8 == hosted.serial) = true ∧
    (let s := { hosted with ready := true }
     Accepted s .hostA .write 0x2808 0 [] ∧ s.ready = true ∧ s.od 0x4100 1 0 ≠ 3) ∧
    (let s := { hosted with calImage := [1] }
     Accepted s .hostA .write 0x2808 0 [] ∧ s.calImage ≠ []) ∧
    (let b := slice (blockAt 0) 73760 ([] : List Byte)
     leAt b 2 1 ≠ 1) := by decide +kernel

/-- Zeros behind a list of 64 bytes do not change what stands in it. -/
theorem leAt_front (b : List Byte) (n k len : Nat) (h : k + len ≤ b.length) : leAt (b ++ List.replicate n (0 : Byte)) k len = leAt b k len := by
  unfold leAt slice
  rw [List.drop_append_of_le_length (by omega), List.take_append_of_le_length (by rw [List.length_drop]; omega)]

/-- A whole image with that header passes R107, step 1. -/
theorem witness_calHeaderGood : hosted.calHeaderGood (calHead ++ List.replicate (calImageSize - 64) (0 : Byte)) = true := by
  have e : calHead.length = 64 := by decide +kernel
  have l : (calHead ++ List.replicate (calImageSize - 64) (0 : Byte)).length = calImageSize := by
    rw [List.length_append, List.length_replicate, e]; decide
  have t : (calHead ++ List.replicate (calImageSize - 64) (0 : Byte)).take 64 = calHead.take 64 := List.take_append_of_le_length (by omega)
  have k := witness_CalibrationImagesRestore.2.2.2.2.2.2.1
  unfold State.calHeaderGood
  rw [l, t, leAt_front _ _ 0 2 (by omega), leAt_front _ _ 2 2 (by omega), leAt_front _ _ 4 2 (by omega), leAt_front _ _ 6 2 (by omega),
    leAt_front _ _ 8 8 (by omega), show (calImageSize == calImageSize) = true from rfl, Bool.true_and]
  exact k

/-- A record of a class, of rack time 0. -/
def rec0 (cls : Nat) : Record :=
  { time := 0, path := 0, step := 0, pc := 0, opcode := 0, kind := 1, cls := cls, sev := 2, islandTime := false, coalesced := false, temp := 0, rail := 0,
    count := 1, detail := 0 }

/-- A part with every path open and its queues holding an EVENT before an ALARM; ring A of 64 records at an index, its link up. -/
def smoking (index : Nat) : State :=
  let s := ((clocked.setOd 0x6401 1 0 4096).setOd 0x6401 1 1 6).setOd 0x1200 1 0 (5 * 2 ^ 16)
  let q : PathQ := { queue := [rec0 1, rec0 0], alarmAt := none }
  { (s.setOd 0x1312 0 0 1).setOd 0x6400 1 0 64000 with
      path0 := q, path2 := q, path3 := q, tick := 200000000, rackTime := 2000000000,
      ringA := { index := index, head := 0, phase := true, sentAt := 0, unsignalled := false } }

/-- Hypotheses of RecordsLeaveTheChimney. -/
theorem witness_RecordsLeaveTheChimney :
    on.pathOpen 0 = false ∧
    (let s := smoking 5
     s.pathOpen 0 = true ∧ s.hostLink 0 = true ∧ nextRecord (s.pathQ 0).queue = some (rec0 0) ∧ s.ringSize 0 = 64 ∧
     (s.ringA.index + 64 - s.ringA.head) % 64 + 1 < 64 ∧ s.ringA.index + 1 < 64) ∧
    (let s := { smoking 63 with ringA := { index := 63, head := 5, phase := true, sentAt := 0, unsignalled := false } }
     s.pathOpen 0 = true ∧ s.hostLink 0 = true ∧ (s.ringA.index + 64 - s.ringA.head) % 64 + 1 < 64 ∧ s.ringSize 0 ≤ s.ringA.index + 1) ∧
    (let s := smoking 63
     s.ringSize 0 ≤ (s.ringA.index + 64 - s.ringA.head) % 64 + 1) ∧
    (let s := smoking 0
     let q := s.path2.queue
     (popRecords 16 q).1 = [rec0 0, rec0 1] ∧ (q.any fun r => decide (r.time + 100000000 ≤ s.now)) = true ∧
     8 * (142 + 32 * 2) ≤ s.fillSide.sideBits ∧ s.islandRun = 1 ∧ s.pathOpen 2 = true) ∧
    ((popRecords 16 on.path2.queue).1 = [] ∧ ({ smoking 0 with rackTime := 5 }.path2.queue.any fun r => decide (r.time + 100000000 ≤ 5)) = false ∧
      { smoking 0 with tick := 0, sideBits := 5 }.fillSide.sideBits < 8 * (142 + 32 * 2)) ∧ on.path3.queue = [] ∧
    (let s := (smoking 0).setOd 0x6402 0 2 8192
     nextRecord s.path3.queue = some (rec0 0) ∧ s.pathOpen 3 = true ∧ s.mainUp = true ∧ 4096 < s.sootOffset ∧ s.sootOffset + 32 < 4096 + 32 * 16777088) ∧
    (let s := (smoking 0).setOd 0x6402 0 2 (4096 + 32 * 16777087)
     4096 < s.sootOffset ∧ 4096 + 32 * 16777088 ≤ s.sootOffset + 32) ∧ ((smoking 0).setOd 0x6402 0 3 1).od 0x6402 0 3 ≠ 0 := by
  decide +kernel

/-- Hypotheses of SootRingAndLogObey. -/
theorem witness_SootRingAndLogObey :
    (smoking 0).pathOpen 3 = true ∧ (smoking 0).mainUp = true ∧ on.pathOpen 3 = false ∧ Accepted clocked .hostA .command 0x6404 0 [1] ∧
    Accepted clocked .hostA .command 0x6404 0 [2] ∧ Accepted clocked .hostA .command 0x6004 0 [1] ∧
    (let s := { clocked.setOd 0x6402 0 40 1 with ready := true, tick := 60000000000 }
     s.ready = true ∧ s.od 0x6402 0 40 = 1 ∧ s.readyAt + 600000000000 ≤ s.elapsed) ∧
    (on.ready = false ∧ on.od 0x6402 0 40 ≠ 1 ∧ on.elapsed < on.readyAt + 600000000000) := by decide +kernel

/-- A part whose hearth 5 is BANKED with its test in a state, `sec` seconds after its last pass, with interval 600 s and grace 60 s. -/
def testing5 (state sec : Nat) : State :=
  let s := (((clocked.setOd 0x6100 1 0 600).setOd 0x6100 3 0 60).setOd 0x6102 6 1 state).setOd 0x3005 1 0 1
  { s with rackTime := BitVec.ofNat 64 (1000000000 * sec), tick := 100000000 * sec }

/-- Hypotheses of TestsFallDueAndEnd. -/
theorem witness_TestsFallDueAndEnd :
    (∀ n ∈ [0, 1, 2, 4], (testing5 n 700).testState 5 = n) ∧
    (let s := testing5 0 700
     s.od 0x6102 6 0 + (s.od 0x6100 1 0 + s.od 0x6100 3 0) * 1000000000 ≤ s.now) ∧
    (let s := testing5 0 500
     s.now < s.od 0x6102 6 0 + (s.od 0x6100 1 0 + 0) * 1000000000) ∧
    ((testing5 1 700).deepWanted = [] ∧ (testing5 1 700).mayTest 5 = true ∧ on.mayTest 5 = false) ∧
    (testing5 1 700).testing.get 0 5 = 0 ∧
    (let s := { testing5 3 700 with testing := Tab.put 0 5 1 [] }
     s.testing.get 0 5 ≠ 0 ∧ s.deepWanted = [] ∧ s.od 0x6101 0 cmdState ≠ 1 ∧ Accepted s .hostA .command 0x6101 0 (leBytes 16 (32 : BitVec 128).toNat) ∧
     (∃ h ∈ (List.range 128).filter (bit (32 : BitVec 128).toNat), s.testing.get 0 h ≠ 0)) ∧ (1 : BitVec 3) ≠ 0 ∧
    (Accepted (testing5 0 0) .hostA .command 0x6101 0 (leBytes 16 (32 : BitVec 128).toNat) ∧ (List.range 128).filter (bit (32 : BitVec 128).toNat) = [5]) ∧
    (let l := { on with residueLog := Tab.put [] 9 [(1, 5), (2, 6)] [] }.residueLog.get [] 9
     ∃ a ∈ l, ∃ b ∈ l, a.1 ≠ b.1 ∧ a.2 ≤ b.2 ∧ b.2 ≤ a.2 + 10000000000) ∧
    (let l := { on with residueLog := Tab.put [] 9 [(1, 5), (1, 6), (2, 20000000000)] [] }.residueLog.get [] 9
     ∀ a ∈ l, ∀ b ∈ l, a.1 = b.1 ∨ b.2 < a.2 ∨ a.2 + 10000000000 < b.2) := by decide +kernel

/-- The bytes of a table entry: mode, in-service bits and both positions. -/
def entryBytes (mode service pos0 pos1 : Nat) : List Byte :=
  leBytes 1 1 ++ [0] ++ leBytes 1 mode ++ [0] ++ leBytes 1 service ++ List.replicate 3 0 ++ leBytes 8 pos0 ++ leBytes 8 pos1

/-- A ready admitting part, endpoint 0, alone in the one entry of its table. -/
def admitting : State :=
  let t := leBytes 2 1 ++ leBytes 2 1 ++ List.replicate 28 0 ++ entryBytes 0 1 0 0xFFFFFFFFFFFFFFFF
  { (clocked.setBlob 0x4110 0 t).setOd 0x4100 2 0 0 with ready := true, tick := 2000000000 }

/-- Hypotheses of CoverIsGiven. -/
theorem witness_CoverIsGiven :
    (on.ready = false ∧ admitting.isAdmitting = true ∧ admitting.ready = true) ∧
    (let d : CoverDue := { endpoint := 0, overdue := true, calHearths := 0 }
     d.overdue = true ∧ admitting.coverBy d.endpoint.toNat = none ∧ admitting.entryIndexOf d.endpoint.toNat = some 0 ∧
     (admitting.entryAt 0).any (fun e => e.serving.contains d.endpoint.toNat) = true) ∧ admitting.holdFor = none ∧
    (let s := { admitting with heldAt := some 0 }
     s.heldAt = some 0 ∧ 0 + 10000000000 ≤ s.elapsed) ∧
    (let s := { admitting with heldAt := some 15000000000, holdFor := some 9 }
     s.holdFor ≠ none ∧ s.elapsed < 15000000000 + 10000000000) := by decide +kernel

/-- A part whose reference is out of range (1) or lost (2), reset released, one second after reset with a stable time of 1 ms. -/
def referenced (state : Nat) : State :=
  { (on.setOd 0x2100 2 0 state).setOd 0x2100 3 0 1 with tick := 100000000, seq := { Sequencer.fresh with released := true } }

/-- A part at a core frequency and set point, a rise that waits or not, a glide under way or not. -/
def gliding (mhz setPoint : Nat) (waits : Option Nat) (under : Bool) : State :=
  { clocked with coreMhz := mhz, setPoint := setPoint, setPointAt := waits, gliding := under }

/-- What the core frequency would be under a ceiling of `n`. -/
def ceilingOf (s : State) (n : Nat) : Nat := min n (damperMhz ((s.setOd 0x2101 1 0 n).od 0x2404 0 0))

/-- Hypotheses of ReferenceAndFrequencyFollow. -/
theorem witness_ReferenceAndFrequencyFollow :
    (State.reset.mainState = 0 ∧ (on.setOd 0x2100 1 0 1).od 0x2100 1 0 = 1 ∧ on.mainState ≠ 0 ∧ on.od 0x2100 1 0 ≠ 1) ∧
    ((referenced 1).mainState ≠ 0 ∧ (referenced 1).seq.released = true ∧ (referenced 1).thermalHold = false ∧ (referenced 1).od 0x2100 2 0 ≠ 0 ∧
      (referenced 1).refSince + 1000000 * (referenced 1).od 0x2100 3 0 ≤ (referenced 1).elapsed) ∧
    ((referenced 0).od 0x2100 2 0 = 0 ∧ on.seq.released = false ∧ { on with thermalHold := true }.thermalHold = true ∧
      { referenced 1 with tick := 0 }.elapsed < (referenced 1).refSince + 1000000 * (referenced 1).od 0x2100 3 0) ∧
    ((∀ v ∈ [(0 : Byte), 1, 2], Accepted clocked .hostA .write 0x2100 1 [v]) ∧ Accepted { clocked with ready := true } .hostA .write 0x2100 1 [1] ∧
      clocked.ready = false) ∧
    (Accepted clocked .hostA .write 0x2101 1 (leBytes 2 (1499 : BitVec 16).toNat) ∧
      Accepted clocked .hostA .write 0x2101 1 (leBytes 2 (1500 : BitVec 16).toNat) ∧
      Accepted clocked .hostA .write 0x2101 1 (leBytes 2 (1501 : BitVec 16).toNat) ∧
      Accepted clocked .hostA .write 0x2101 1 (leBytes 2 (3000 : BitVec 16).toNat) ∧
      Accepted clocked .hostA .write 0x2101 1 (leBytes 2 (3001 : BitVec 16).toNat)) ∧
    ((1500 % 125 = 0 ∧ 3000 % 125 = 0 ∧ 1501 % 125 ≠ 0) ∧
      ((gliding 2000 2000 none true).gliding = true ∧ ceilingOf (gliding 2000 2000 none true) 1500 ≤ 2000) ∧
      (ceilingOf (gliding 1500 1500 (some 0) false) 1500 = 1500 ∧ (gliding 1500 1500 (some 0) false).setPointAt ≠ none) ∧
      (ceilingOf (gliding 1500 1500 none false) 1500 = 1500 ∧ (gliding 1500 1500 none false).gliding = false) ∧
      ceilingOf (gliding 2000 2000 none false) 1500 < 2000 ∧
      (1500 < ceilingOf (gliding 1500 3000 none false) 3000 ∧ ceilingOf (gliding 1500 3000 none false) 3000 ≤ 3000) ∧
      1500 < ceilingOf (gliding 1500 1500 none false) 3000 ∧
      clocked.pmbusFailed = false ∧ { clocked with pmbusFailed := true }.pmbusFailed = true) := by decide +kernel

/-- More hypotheses of ReferenceAndFrequencyFollow: settling, gliding, spread and enables. -/
theorem witness_ReferenceAndFrequencyFollow_more :
    ({ referenced 1 with setPointAt := some 0 }.setPointAt = some 0 ∧ 0 + 100000 ≤ (referenced 1).elapsed ∧ on.setPointAt = none ∧
      on.elapsed < 0 + 100000) ∧
    (let s := { on with coreMhz := 2000, setPoint := 2000, gliding := true }
     on.gliding = false ∧ s.gliding = true ∧ { s with freqTarget := 1500 }.freqTarget < s.setPoint ∧ s.setPointAt = none ∧
     s.setPoint ≤ { s with freqTarget := 2000 }.freqTarget) ∧
    (∀ v ∈ [(0 : Byte), 10, 11], Accepted clocked .hostA .write 0x2102 1 [v]) ∧ (clocked.setOd 0x2103 0 0 9).od 0x2103 0 0 < (10 : Byte).toNat ∧
    (11 : Byte).toNat ≤ (clocked.setOd 0x2103 0 0 11).od 0x2103 0 0 ∧
    (10 : Byte).toNat ≤ (clocked.setOd 0x2103 0 0 10).od 0x2103 0 0 ∧
    (∀ v ∈ [(29 : Byte), 30, 63, 64], Accepted clocked .hostA .write 0x2102 2 [v]) ∧
    Accepted clocked .hostA .write 0x2120 0 (leBytes 4 (0xFFFFFFFF : BitVec 32).toNat) ∧ clocked.onlyLive = false := by decide +kernel

/-- A part with one edge at tick 1,000 and a period of `p` tk, at a tick. -/
def edged (p tick : Nat) : State := { clocked.setOd 0x2200 1 0 p with edges := [(1000, 10000)], tick := tick }

/-- Endpoint 1 in the second of two entries, or endpoint 0 in the first; the parts' board partner holds the other. -/
def piped (ep : Nat) : State :=
  let t := leBytes 2 1 ++ leBytes 2 2 ++ List.replicate 28 0 ++ entryBytes 0 1 0 noEndpoint ++ [1, 1] ++ (entryBytes 0 1 2 noEndpoint).drop 2
  (clocked.setBlob 0x4110 0 t).setOd 0x4011 0 1 ep

/-- Hypotheses of TimeEdgesAndHoldAreKept. -/
theorem witness_TimeEdgesAndHoldAreKept :
    (on.enabled 4 = false ∧ clocked.enabled 4 = true ∧ clocked.od 0x2100 1 0 ≠ 1 ∧ clocked.mainState ≠ 0 ∧ (1000 : Int).natAbs ≤ 1000 ∧
      1000 < (-1001 : Int).natAbs ∧ clocked.ready = false ∧ { clocked with ready := true }.ready = true) ∧
    (let s := { clocked.setOd 0x2110 2 0 1 with tick := 800000000 }
     s.mainState ≠ 0 ∧ s.od 0x2110 2 0 ≠ 2 ∧ s.ptpAt + 8000000000 ≤ s.elapsed) ∧ (clocked.setOd 0x2110 2 0 2).od 0x2110 2 0 = 2 ∧ State.reset.mainState = 0 ∧ clocked.edges = [] ∧
    (∀ k ∈ [(0, 1100), (0, 66535), (0, 1099), (500, 1500), (500, 1400)], (edged k.1 k.2).lastEdge = some 1000 ∧ (edged k.1 k.2).od 0x2200 1 0 = k.1 ∧
      (edged k.1 k.2).od 0x2100 1 0 ≠ 1) ∧
    ((edged 500 1500).cadenceLost = false ∧ ({ edged 500 1500 with missed := 64 }.od 0x2202 0 0 ≤ 64) ∧ { on with cadenceLost := true }.cadenceLost = true) ∧
    (on.holdStuck = false ∧ on.holdUntil ≤ on.tick ∧ { on with holdStuck := true }.holdStuck = true ∧ on.tick < { on with holdUntil := 1 }.holdUntil) ∧
    ((piped 2).precedes (piped 2).partner = true ∧ (piped 2).twin ≠ some (piped 2).partner ∧ (piped 0).precedes (piped 0).partner = false) := by
  decide +kernel

/-- A program whose kindle set is hearth 0 and whose variant 0 starts at word 7. -/
def kindle0 : List Byte := patch (patch (patch (List.replicate 128 0) 16 [1]) (64 + 16) [1]) (64 + 40) [7, 0]

/-- The part alone in its table, in service, with that program, and step 1 waiting for its launch tick with a slip count. -/
def launching (k : Nat) (power : Nat) : State :=
  let s := (((admitting.setBlob 0x3401 0 kindle0).setOd 0x3402 0 0 1).setOd 0x3000 1 0 power).setCal 0 40 1
  { s with ready := true }.setStep 1 { StepRec.fresh with known := true, edgeTick := 0, k := k }

def step1 : BitVec 64 := 1
def hearth0 : HearthId := 0

/-- Hypotheses of StepsLaunchAndHearthsKindle. -/
theorem witness_StepsLaunchAndHearthsKindle :
    on.dueLaunch 1 = false ∧
    (let s := launching 3 1
     let u := s.settleEdge 1
     u.dueLaunch 1 = true ∧ u.mayLaunch (u.stepRec 1) = false ∧ (u.stepRec 1).k < (u.setOd 0x2203 0 0 4).od 0x2203 0 0 ∧
     (u.setOd 0x2203 0 0 3).od 0x2203 0 0 ≤ (u.stepRec 1).k ∧ u.runsSteps = true ∧ u.launchTick (u.stepRec 1) ≤ u.tick + u.od 0x2001 0 0 ∧
     s.kindleHearths = [0] ∧ s.power 0 = 1) ∧
    (let s := launching 0 3
     let u := s.settleEdge 1
     u.dueLaunch 1 = true ∧ u.mayLaunch (u.stepRec 1) = true ∧ u.checksGen = false ∧ u.headerAt (40 + 2 * ((u.stepRec 1).variant % 8)) 2 ≠ 0 ∧
     (u.stepRec 1).inputs = [] ∧ (u.stepRec 1).k ≤ u.od 0x2203 0 0) ∧
    (let s := launching 17 1
     let u := s.settleEdge 1
     u.dueLaunch 1 = true ∧ u.od 0x2203 0 0 < (u.stepRec 1).k ∧ (s.steps.get none 1).isSome = true ∧ (s.stepRec 1).phase = .waiting) ∧
    (on.settleEdge 1).runsSteps = false ∧
    (let s := on.setOd 0x3000 1 0 2
     s.power 0 = 2 ∧ (s.hearth 0).kindleAt ≤ s.tick) ∧
    (let s := on.setOd 0x3000 1 0 3
     s.hot 0 = true ∧ (s.hearth 0).phase = .idle ∧ s.wantedSoon 0 = false ∧ s.workHolds 0 = false) ∧ on.hot 0 = false ∧
    ((launching 0 3).onlyLive = true ∧ bit (launching 0 3).kindleSet 0 = true ∧ bit (launching 0 3).kindleSet 1 = false ∧ clocked.onlyLive = false) ∧
    Accepted (launching 0 3) .hostA .command (0x3000 + hearth0.toNat) 2 [1] ∧ Accepted clocked .hostA .command (0x3000 + hearth0.toNat) 2 [2] ∧
    (launching 0 3).power 0 ≠ 0 ∧ (clocked.setOd 0x3000 1 0 0).power 0 = 0 ∧
    Accepted (clocked.setOd 0x3000 1 0 0) .hostA .command (0x3000 + hearth0.toNat) 2 [2] ∧ clocked.power 0 ≠ 0 := by decide +kernel

/-- A part whose sensor 0 stands at a temperature of 1/16 °C, one second after reset, with T_req 80 °C, a grace of 1 ms and a request
standing since time 0. -/
def heated (t : Int) : State :=
  let s := ((clocked.setOd 0x2401 0 0 80).setOd 0x2402 0 0 1).setOd 0x2000 2 0 400
  { s.setOd 0x2000 3 0 500 with sensorUse := Tab.put 0 0 t [], tick := 100000000, slowDown := some 0 }

/-- Hypotheses of HousekeepingAndDamper. -/
theorem witness_HousekeepingAndDamper :
    (on.converterRuns 1 = false ∧ channelKnown 0x90 = false ∧ State.reset.mainState = 0 ∧ clocked.converterRuns 1 = true ∧ channelKnown 0xA0 = true ∧
      clocked.mainState ≠ 0 ∧ clocked.injected = none ∧ clocked.broken 5 = false ∧ ((1100 : Nat) : Int) - 1024 < (16 * clocked.od 0x2403 0 0 : Nat)) ∧
    ((clocked.setOd 0x2502 0 0 1).inForce 0x2502 0 0 = 1 ∧ clocked.inForce 0x2502 0 1 ≠ 1 ∧ (clocked.setOd 0x2502 0 1 1).inForce 0x2502 0 1 = 1 ∧
      clocked.driveArmed = false ∧ { clocked with driveArmed := true }.driveArmed = true) ∧
    ((clocked.setOd 0x2506 0 0 1).od 0x2506 0 0 ≠ 0 ∧ clocked.od 0x2506 0 0 = 0 ∧ ¬ clocked.roundAt + 250000 ≤ clocked.elapsed ∧
      ((clocked.setOd 0x2504 0 0 1).od 0x2504 0 0 = 1 ∧ ∀ h < 128, (clocked.setOd 0x2504 0 0 1).power h ≤ 1)) ∧
    ({ clocked with injected := some { kind := 1, left := [] } }.injected = some { kind := 1, left := [] } ∧
      { clocked with injected := some { kind := 1, left := [1, 0, 0, 0] } }.injected ≠ none ∧ [1, 0, 0, 0].getD 0 0 = 0 + 1) ∧
    (let s := heated 1280
     s.damperTest + 5000000 ≤ s.elapsed ∧ s.mainUp = true ∧ s.slowDown = some 0 ∧ 0 + 1000000 * s.od 0x2402 0 0 ≤ s.elapsed ∧ s.treq ≤ s.hottest.2 ∧
     s.damperTest < 0 + 1000000 * s.od 0x2402 0 0 ∧ s.treq - 48 < s.hottest.2) ∧
    (let s := heated 1232
     s.hottest.2 ≤ s.treq - 48 ∧ ¬ s.treq ≤ s.hottest.2 ∧ s.overPower = false ∧ s.powerFell = true ∧ s.damperAt + 50000000 ≤ s.elapsed) ∧
    ({ heated 0 with powerLog := [(0, 401)] }.overPower = true ∧ { heated 0 with powerLog := [(0, 401)] }.powerFell = false ∧ on.slowDown = none ∧
      on.elapsed < 0 + 1000000 * (heated 0).od 0x2402 0 0 ∧ on.elapsed < on.damperTest + 5000000 ∧ on.elapsed < on.damperAt + 50000000) := by
  decide +kernel

/-- A stage table of one entry that is head, token and main, of mode SINGLE, with sequence 5 and its checks. -/
def table1 : List Byte :=
  let body := [0, 0, 0, 11, 1, 0, 0, 0] ++ leBytes 8 0 ++ leBytes 8 noEndpoint
  let head := leBytes 2 1 ++ leBytes 2 1 ++ leBytes 4 5 ++ List.replicate 16 0 ++ leBytes 4 (crc32 body)
  head ++ leBytes 4 (crc32 head) ++ body

/-- Hypotheses of ProgramsAndTablesApply. -/
theorem witness_ProgramsAndTablesApply :
    Accepted clocked .hostA .write 0x3401 0 [1, 2] ∧ clocked.imageState = true ∧ Accepted clocked .hostA .command 0x3400 0 [1] ∧
    (let s := { (clocked.setOd 0x4100 1 0 1) with ready := true }
     Accepted s .hostA .write 0x3401 0 [1, 2] ∧ Accepted s .hostA .command 0x3400 0 [1] ∧ s.imageState = false) ∧
    (Accepted clocked .hostA .write 0x4110 0 [] ∧ tableFail [] (clocked.od 0x4111 0 0) = some 0xFFFF ∧
      Accepted clocked .hostA .write 0x4110 0 table1 ∧ tableFail table1 (clocked.od 0x4111 0 0) = none ∧ clocked.recovery = none ∧
      clocked.strandsEntry (entriesOf table1) = false) ∧
    ({ clocked with recovery := some { entry := 0, pos := 0, spare := 1, replace := false } }.recovery ≠ none) ∧
    (let s := clocked.setStep 1 { StepRec.fresh with phase := .halted }
     (s.stepRec 1).phase = .halted ∧ s.stepAcked 1 = true) ∧ (clocked.stepRec 1).phase ≠ .halted ∧
    (clocked.setOd 0x4102 0 0 2).od 0x4102 0 0 = 2 ∧ (clocked.setOd 0x4102 0 0 2).inService = false ∧ clocked.od 0x4102 0 0 ≠ 2 ∧
    (let s := (clocked.setBlob 0x4110 0 table1).setOd 0x4102 0 0 2
     s.od 0x4102 0 0 = 2 ∧ s.inService = true) ∧ judgeProgram [1, 2] (clocked.od 0x2102 1 0) ≠ none := by decide +kernel

/-- The admitting part with current generation 7; its one MAIN entry holds generation `g`. -/
def serving (g : Nat) : State :=
  ((admitting.setBlob 0x4110 0 table1).setOd 0x5000 1 0 7).setOd 0x5006 1 0 g

/-- Hypotheses of GenerationsSwitchAndHold. -/
theorem witness_GenerationsSwitchAndHold :
    (let d := leBytes 4 (8 : BitVec 32).toNat ++ leBytes 8 (5 : BitVec 64).toNat
     Accepted (serving 8) .hostA .command 0x5001 0 d ∧ (serving 8).currentGen = 7 ∧ (serving 8).rackHolds 8 = true ∧ (serving 7).rackHolds 8 = false) ∧
    (serving 8).isAdmitting = true ∧ ((serving 8).setOd 0x4100 2 0 5).isAdmitting = false ∧ (serving 8).twin ≠ some ((serving 8).sourceOf 0) ∧
    (serving 8).entryIndexOf ((serving 8).sourceOf 0) = some 0 ∧ (serving 8).entryIndexOf ((serving 8).sourceOf 9) = none ∧
    (serving 8).reqOfStep 3 = none ∧
    (let r := request9 .active [flight3]
     (with4 (serving 8) r).reqOfStep 3 = some (4, r) ∧ r.ctx = 9 ∧ r.ending = none ∧ { r with ending := some 2 }.ending = some 2) ∧
    (let s := { ((serving 8).setOd 0x5000 2 0 6).setOd 0x5018 2 0 1 with rackTime := 5000000 }
     s.od 0x5000 2 0 = 6 ∧ s.od 0x5000 3 0 + 1000000 * s.od 0x5018 2 0 ≤ s.now ∧ s.retiredGens.contains 6 = false) ∧
    (serving 8).od 0x5000 2 0 = 0 ∧ Accepted (serving 8) .hostA .command 0x5004 0 [1] ∧ Accepted (serving 8) .hostA .command 0x5004 0 [2] ∧
    (serving 8).od 0x5005 0 0 = 0 ∧ Accepted ((serving 8).setOd 0x5005 0 0 1) .hostA .command 0x5004 0 [1] ∧ ((serving 8).setOd 0x5005 0 0 1).od 0x5005 0 0 ≠ 0 ∧
    (serving 7).rackHolds (serving 7).currentGen = true ∧ (serving 8).anyFlight = false ∧ (serving 8).steps = [] ∧ Accepted (serving 7) .hostA .command 0x5004 0 [2] ∧
    (serving 8).rackHolds (serving 8).currentGen = false ∧ (serving 7).isAdmitting = true := by decide +kernel

/-- Host A's part with the link of port A up, aperture 0 open on the data area of M0, and a read of 4 bytes under way. -/
def linked (retried : Bool) : State :=
  let s := ((clocked.setOd 0x1200 1 0 (8 * 2 ^ 16 + 5 * 2 ^ 20)).setOd 0x1201 1 0 (2 ^ 30)).setOd 0x6401 1 1 6
  { s with reads := [{ port := .a, tag := 3, addr := 4096, len := 4, why := .prompt 4, retried := retried }] }

/-- Hypotheses of HostPortsServeTheirBars. -/
theorem witness_HostPortsServeTheirBars :
    (clocked.mainUp = true ∧ clocked.thermalHold = false ∧ 1 ≤ (6 : BitVec 4).toNat ∧ (6 : BitVec 4).toNat ≤ 6 ∧ (8 : BitVec 4).toNat ∈ [1, 2, 4, 8] ∧
      (3 : BitVec 4).toNat ∉ [1, 2, 4, 8] ∧ State.reset.mainUp = false) ∧
    (let s := linked false
     clocked.hostLink 0 = false ∧ s.hostLink 0 = true ∧ s.openQueues 0 = [] ∧ (s.steep.map fun j => (j.kind, hostNo j.port)) = none ∧
     (∀ r ∈ s.reads, r.why = .prompt 4) ∧ s.enabled 6 = true ∧ s.ringSize 0 = 64 ∧ s.od 0x1201 1 0 ≠ 0 ∧ s.od 0x1201 1 1 = 0 ∧
     2 ^ 30 + 64 < sootBase ∧ s.od 0x1100 1 0 = 0 ∧ s.reads.find? (fun r => r.port == .a && r.tag == (4 : BitVec 10).toNat) = none ∧
     (s.reads.find? fun r => r.port == .a && r.tag == (3 : BitVec 10).toNat) ≠ none) ∧
    ((linked false).setOd 0x2120 0 0 0).enabled 6 = false ∧ ((linked false).setOd 0x1201 1 0 sootBase).od 0x1201 1 0 = sootBase ∧
    (linked true).reads.all (·.retried) = true := by decide +kernel

/-- Port A's queue pair 1 in a state with rings of 16, its link as given; host A selects it. -/
def queued (state : Nat) (up : Bool) : State :=
  let s := (clocked.setOdAt 0 0x1210 1 0 0).setOdAt 0 0x1210 1 1 1
  let s := if up then s.setOd 0x1200 1 0 (8 * 2 ^ 16 + 5 * 2 ^ 20) else s
  ((((s.setOdAt 1 0x1210 2 3 4).setOdAt 1 0x1210 2 4 4).setOdAt 1 0x1210 2 5 1).setOdAt 1 0x1210 4 0 state)

/-- Hypotheses of QueuePairsAndOwnership. -/
theorem witness_QueuePairsAndOwnership :
    (let s := queued 0 true
     Accepted s .hostA .command 0x1210 3 [1] ∧ Accepted s .hostA .command 0x1210 3 [2] ∧ s.selectedQp .hostA = some 1 ∧ s.qpState 1 = 0 ∧
     s.queuesServe (qpPort 1) = true ∧ qpRecordGood (s.qpRecord 1) = true ∧ qpRecordGood ((s.setOdAt 1 0x1210 2 3 3).qpRecord 1) = false ∧
     (queued 0 false).queuesServe (qpPort 1) = false ∧ (s.setOdAt 0 0x1210 1 0 1).selectedQp .hostA = none ∧
     Accepted (s.setOdAt 0 0x1210 1 0 1) .hostA .command 0x1210 3 [1]) ∧
    (∀ n ∈ [1, 2, 3], (queued n true).qpState 1 = n) ∧
    ((queued 1 false).hostLink 0 = false ∧ (queued 1 true).hostLink 0 = true ∧ (queued 1 true).qpLives (qpKey (hostNo .a) 1) = true ∧
      (queued 0 true).qpLives (qpKey (hostNo .a) 1) = false ∧ (queued 1 true).subSize 1 = 16 ∧ (queued 1 true).compSize 1 = 16 ∧
      (queued 1 true).unread 1 = 0 ∧ ((queued 1 true).qp 1).tail = 0) ∧
    (let s := { ((queued 1 true).setOdAt 1 0x1210 2 8 5).modQp 1 (fun q => { q with unsignalled := 2 }) with tick := 10000 }
     (s.qp 1).unsignalled ≠ 0 ∧ s.qpCfg 1 8 ≠ 0 ∧ (s.qp 1).since + 1000 * s.qpCfg 1 8 ≤ s.elapsed ∧ s.qpLives 1 = true) ∧
    (Accepted clocked .hostA .command 0x1100 2 [1] ∧ clocked.controls .hostA = true ∧ Accepted clocked .hostB .command 0x1100 2 [1] ∧
      clocked.controls .hostB = false ∧ (clocked.setOd 0x1100 1 0 0xFF).claimOpen = true ∧
      Accepted (clocked.setOd 0x1100 1 0 0xFF) .hostB .command 0x1100 2 [1] ∧ (clocked.setOd 0x1100 1 0 0xFF).controls .hostB = false ∧ (queued 0 true).claimOpen = false ∧ Accepted (queued 0 true) .hostB .command 0x1100 2 [1] ∧
      Accepted clocked .hostA .command 0x1100 2 [2] ∧ Accepted clocked .hostB .command 0x1100 2 [2]) ∧
    (∀ v ∈ [(0 : Byte), 1, 2, 0xFE, 0xFF], Accepted clocked .sideBand .command 0x1100 3 [v]) ∧ clocked.od 0x1100 1 0 ≠ 1 := by decide +kernel

/-- The ready admitting part with queue pair 1 of port A ENABLED and one entry in it; tenant 1 is configured, a program has variant 0. -/
def submitting : State :=
  let s := { queued 1 true with ready := true }.modQp 1 (fun q => { q with tail := 1 })
  ((s.setOdAt 1 0x5801 0 0 1).setOdAt 1 0x5801 0 2 100).setOd 0x3402 0 5 1

/-- That part with request 4 in a phase, past its deadline or not, its generation held everywhere. -/
def waiting4 (phase : ReqPhase) (late : Bool) : State :=
  let r := { request9 phase [] with ctx := 0, entry := { entry1 with deadline := if late then 1 else entry1.deadline } }
  let s := with4 (((serving 7).setOdAt 1 0x5802 0 0 50).setOdAt 1 0x5801 0 0 1) r
  { s with rackTime := 1000 }

/-- Hypotheses of EntriesAreConsumedAndAdmitted. -/
theorem witness_EntriesAreConsumedAndAdmitted :
    clocked.mayConsume 1 = false ∧
    (let s := submitting
     s.mayConsume (qpKey (hostNo .a) 1) = true ∧ s.qpState 1 = 1 ∧ fieldsGood entry1 = true ∧ s.namesGood entry1 = true ∧
     s.odAt entry1.tenant.toNat 0x5801 0 0 ≠ 0 ∧ entry1.biasCount = 0 ∧ { entry1 with biasCount := 2 }.biasCount ≠ 0 ∧
     fieldsGood { entry1 with biasCount := 2 } = true ∧ fieldsGood { entry1 with maxNew := 0 } = false ∧
     s.reqList.find? (fun e => e.2.port == .a && e.2.entry.tag == 77 && e.2.phase != .ended) = none ∧ s.reqOfCtx 9 = none ∧ s.keptOf 9 = none) ∧
    (let s := with4 submitting (request9 .active [])
     s.mayConsume (qpKey (hostNo .a) 1) = true ∧ (s.reqList.find? fun e => e.2.port == .a && e.2.entry.tag == 77 && e.2.phase != .ended) ≠ none ∧
     s.reqOfCtx 9 ≠ none) ∧
    (let s := { submitting with kept := Tab.put none 9 (some { tenant := 1, gen := 0, kvGen := 0, history := [], m := 0, nodes := [] }) [] }
     s.mayConsume (qpKey (hostNo .a) 1) = true ∧ s.keptOf 9 ≠ none ∧ s.reqOfCtx 9 = none ∧ s.renewLate 9 = true ∧
     (s.setTimer 9 (some { tier := .cellar, since := 0, awaiting := [], lost := false })).renewLate 9 = false) ∧
    ((serving 7).req 4 = none) ∧
    (∀ b ∈ [false, true], ((waiting4 .pending b).req 4).any fun r => r.phase == .pending && !(waiting4 .pending b).earlierPending r && (waiting4 .pending b).admits &&
      pastDeadline r.entry (waiting4 .pending b).now == b && r.ctx == 0 && (waiting4 .pending b).odAt r.tenant 0x5801 0 0 != 0 &&
      decide ((min r.entry.promptCount.toNat ((waiting4 .pending b).odAt r.tenant 0x5801 0 2) : Nat) ≤ (waiting4 .pending b).level r.tenant)) ∧
    ((waiting4 .pending false).activeCount < (waiting4 .pending false).od 0x5805 0 0 ∧ (waiting4 .pending false).noRecord = false ∧
      ((waiting4 .pending false).setOd 0x5805 0 0 0).od 0x5805 0 0 ≤ (waiting4 .pending false).activeCount) ∧
    ((waiting4 .active true).req 4).any (fun r => r.phase == .active) ∧ ((waiting4 .reading true).req 4).any (fun r => r.phase == .reading) ∧
    (clocked.setOd 0x4100 2 0 5).isAdmitting = false ∧ submitting.isAdmitting = true ∧ submitting.tenants = [1] ∧
    (let good := leBytes 1 1 ++ leBytes 4 1000 ++ leBytes 4 100 ++ leBytes 1 0
     Accepted clocked .hostA .write 0x5801 0 good ∧ leAt good 0 1 = 1 ∧ leAt good 1 4 = 1000 ∧ leAt good 5 4 = 100 ∧ leAt good 9 1 = 0 ∧
     Accepted clocked .hostA .write 0x5801 0 (leBytes 1 2 ++ leBytes 9 0) ∧ 1 < leAt (leBytes 1 2 ++ leBytes 9 0) 0 1) := by
  refine ⟨?_, ?_, ?_, ?_, ?_, ?_, ?_, ?_, ?_, ?_, ?_, ?_, ?_⟩ <;> decide +kernel

def header3 : StepHdr :=
  { headEdge := 0, ctx := 9, tenant := 1, positions := 2, variant := 0, k := 0, cls := 0, ctxLen := 0, m := 0, nodes := [], tree :=
    { count := 2, levels := 1, source := 0, template := 0, nodes := [] } }

/-- The admitting part with request 4 whose step 3 is in flight and runs here with an enable mask. -/
def selecting (enables gram : Nat) : State :=
  let r := { request9 .active [{ flight3 with samples := false }] with entry := { entry1 with grammar := BitVec.ofNat 8 gram } }
  (with4 (serving 7) r).setStep 3 { StepRec.fresh with phase := .running, hdr := some header3, cfg := Tab.put (odDefault 0x2120 0 0) (odKey 0 0x2120 0 0) enables [] }

/-- A dictionary image: a list of one token, 5, of a vocabulary of 10. -/
def grammar1 : List Byte :=
  let body := leBytes 4 5
  let head := leBytes 2 1 ++ [1, 0] ++ leBytes 4 1 ++ leBytes 4 0 ++ leBytes 4 10 ++ leBytes 4 1 ++ leBytes 4 68 ++ List.replicate 32 0 ++ leBytes 4 (crc32 body)
  head ++ leBytes 4 (crc32 head) ++ body

/-- Hypotheses of TokensAreSelectedAndReturned. -/
theorem witness_TokensAreSelectedAndReturned :
    (on.stepRec 3).phase ≠ .running ∧
    (∀ e ∈ [(0, 255), (256, 0), (256, 255), (768, 0)], let s := selecting e.1 e.2
      (s.stepRec 3).phase = .running ∧ (s.stepRec 3).hdr = some header3 ∧ cfgOf (s.stepRec 3).cfg 0x2120 0 0 = e.1 ∧ (s.sampling 3 9 0).slot = e.2) ∧
    (header3.tree.source = 0 ∧ 1 < header3.tree.count.toNat ∧ header3.cls = 0) ∧
    (let s := selecting 256 255
     let p := s.sampling 3 9 0
     s.isShadow 3 = false ∧ p.temperature = 0 ∧ (s.candidates p p.gram [{ bits := 0x3C00, poison := false }]).any (fun l => l != []) = true ∧
     s.candidates p p.gram [{ bits := 0x3C00, poison := true }] = none) ∧
    ((serving 7).setOd 0x4100 2 0 5).isAdmitting = false ∧ (serving 7).isDraft = false ∧
    (let s := selecting 256 255
     s.isAdmitting = true ∧ s.isDraft = false ∧ (s.reqOfStep 3).map (·.1) = some 4 ∧
     (s.reqOfStep 3).any (fun e => e.2.ending == none && !pastDeadline e.2.entry s.now && e.2.flights == [{ flight3 with samples := false }])) ∧
    (let r := request9 .active [flight3]
     flight3.samples = true ∧ { r.entry with grammar := 255 }.grammar = 255 ∧ ((r.entry.stops.take r.entry.stopCount.toNat).map (·.toNat)).contains 5 = false ∧
     1 < r.entry.maxNew.toNat - r.returned) ∧
    ((serving 7).timer 7 = none ∧ (keeps7 true .hot 0 0).isAdmitting = true ∧ (keeps7 true .hot 0 0).timer 7 ≠ none ∧
      (∀ l ∈ [[], [1]], let t : TierTimer := { tier := .hot, since := 0, awaiting := l, lost := false }
        ((keeps7 true .hot 0 0).setTimer 7 (some t)).timer 7 = some t ∧ ((keeps7 true .hot 0 0).setTimer 7 (some t)).isAdmitting = true ∧
        ((keeps7 true .hot 0 0).setTimer 7 (some t)).reqOfCtx 7 = none) ∧ (keeps7 true .hot 0 0).reqOfCtx 7 = none) ∧
    (Accepted clocked .hostA .write 0x5C11 0 grammar1 ∧ gramGood grammar1 = true ∧ Accepted clocked .hostA .write 0x5C11 0 [1] ∧ gramGood [1] = false ∧
      clocked.isAdmitting = true ∧ (clocked.setOd 0x4011 0 1 2).isAdmitting = false ∧ Accepted (selecting 768 0) .hostA .write 0x5C11 0 grammar1 ∧
      clocked.tokenPair = [] ∧ ((selecting 768 0).reqList.any fun e => e.2.isActive && e.2.entry.grammar.toNat == 0) = true ∧ clocked.reqList = []) ∧
    (let s := with4 (serving 7) (request9 .active [{ flight3 with replays := 9 }])
     s.od 0x4105 0 0 < s.replaysOf 3 ∧ (s.reqOfStep 3).map (·.1) = some 4 ∧ clocked.reqOfStep 3 = none) := by decide +kernel

/-- A part that serves the draft model, with a sampler record of context 9 in a mode; also the admitting part where `admits` says so. -/
def drafting (mode miss left : Nat) (root : Option Nat) : State :=
  let t := patch table1 35 [12]
  let x := { Sampler.fresh with mode := mode, miss := miss, left := left, root := root, classT := true }
  { clocked.setBlob 0x4110 0 t with samplers := Tab.put none 9 (some x) [] }

/-- Request 4 of class T, generating, with no step in flight. -/
def speculating : Request := { request9 .active [] with entry := { entry1 with cls := 2 }, generating := true, lastStep := 3 }

/-- Hypotheses of SpeculationFollowsItsModes. -/
theorem witness_SpeculationFollowsItsModes :
    clocked.isDraft = false ∧
    (∀ n ∈ [0, 1, 2, 3], (drafting n 9 0 (some 5)).isDraft = true ∧
      (drafting n 9 0 (some 5)).sampler 9 = some { Sampler.fresh with mode := n, miss := 9, left := 0, root := some 5, classT := true }) ∧
    (drafting 3 0 0 none).sampler 9 = some { Sampler.fresh with mode := 3, miss := 0, left := 0, root := none, classT := true } ∧
    ((drafting 0 0 0 none).setOd 0x5C21 1 0 9).inForce 0x5C21 1 0 ≤ 9 ∧ 0 < ((drafting 0 0 0 none).setOd 0x5C21 1 0 9).inForce 0x5C21 1 0 ∧
    (drafting 0 0 0 none).recordOf 9 = none ∧ ((drafting 0 0 0 none).setOd 0x4100 2 0 5).isAdmitting = false ∧ ((drafting 0 0 0 none).setOd 0x4100 2 0 5).isDraft = true ∧
    (clocked.setOd 0x4100 2 0 5).isDraft = false ∧ 2 ≤ (2 : BitVec 4).toNat ∧
    (clocked.reqOfCtx 9 = none ∧ clocked.isAdmitting = true) ∧
    (let s := with4 clocked speculating
     s.reqOfCtx 9 = some (4, speculating) ∧ speculating.entry.cls = 2 ∧ speculating.flights = [] ∧ speculating.tree = none ∧ speculating.mode = 0 ∧
     speculating.tokensAt + (s.setOd 0x5C20 6 0 0).inForce 0x5C20 6 0 ≤ s.elapsed ∧ s.elapsed < speculating.tokensAt + (s.setOd 0x5C20 6 0 5).inForce 0x5C20 6 0) ∧
    ((with4 clocked { speculating with generating := false }).reqOfCtx 9).any (fun e => !e.2.generating) ∧
    (let data := leBytes ((odWidths 0x5C20 3).headD 1) (2 : BitVec 32).toNat
     Accepted clocked .hostA .write 0x5C20 3 data ∧ specRange false 3 = (2, 8)) ∧
    (let data := leBytes ((odWidths 0x5C21 1).headD 1) (65 : BitVec 32).toNat
     Accepted clocked .hostA .write 0x5C21 1 data ∧ specRange true 1 = (1, 64)) ∧
    (let data := leBytes ((odWidths 0x5C21 1).headD 1) (64 : BitVec 32).toNat
     Accepted clocked .hostA .write 0x5C21 1 data) := by decide +kernel

/-- An IDENT from a part: port 0, protocol 2.1, rack 0, an endpoint. -/
def identOf (endpoint : BitVec 16) (major : Byte) : IdentBody :=
  { kind := 1, port := 0, major := major, minor := 1, rack := 0, endpoint := endpoint, pair := 0, position := 0, features := 0, serial := 7, fwMajor := 0, fwMinor := 0, fwPatch := 0 }

/-- A part with a port in a state. -/
def ported (p v : Nat) : State := clocked.setPortState p v

/-- A neighbour entry of a kind, all its other fields wild. -/
def neighbour (kind : Byte) : List Byte := [kind, 0xFF, 0, 0, 0, 0, 0, 0, 0xFF, 0xFF, 0, 0, 0, 0, 0, 0, 0, 0, 0, 0]

def port1 : PortId := 1

/-- A part at an endpoint of a table whose one entry has positions 0 and 1 in service. -/
def twinned (endpoint : Nat) : State :=
  let t := leBytes 2 1 ++ leBytes 2 1 ++ List.replicate 28 0 ++ entryBytes 0 3 0 1
  (clocked.setBlob 0x4110 0 t).setOd 0x4011 0 1 endpoint

/-- Hypotheses of PortsTrainAndIdentify. -/
theorem witness_PortsTrainAndIdentify :
    (∀ v ∈ [0, 1, 2, 3, 4, 5], (ported 1 v).portState port1.toNat = v) ∧
    (let s := (ported 1 2).setOd (0x4000 + 1) 7 0 1
     s.portState 1 = 2 ∧ s.od (0x4000 + 1) 7 0 ≠ 0 ∧ (0x0F : BitVec 8).toNat % 16 = 15 ∧ (0xF0 : BitVec 8).toNat / 16 = 15 ∧ (0xF0 : BitVec 8) ≠ 0xFF) ∧
    (((ported 1 2).setOd (0x4000 + 1) 7 0 0).od (0x4000 + 1) 7 0 = 0 ∧ (ported 1 1).mainUp = true ∧ ((ported 1 1).port 1).trainAt = 0 ∧
      (let s := { ported 1 1 with tick := 100000001 }
       let a := s.modPort 1 fun x => { x with trainAt := 10 }
       let b := s.modPort 1 fun x => { x with trainAt := 20 }
       a.portState 1 = 1 ∧ (a.port 1).trainAt + 1000000000 ≤ a.elapsed ∧ b.portState 1 = 1 ∧ b.elapsed < (b.port 1).trainAt + 1000000000)) ∧
    (let s := { ported 1 3 with tick := 1000000 }
     s.portState 1 = 3 ∧ (s.port 1).trainAt + 10000000 ≤ s.elapsed ∧ (ported 1 3).elapsed < ((ported 1 3).port 1).trainAt + 10000000) ∧
    (∀ b ∈ [true, false],
      let s := ported 1 3
      let i := identOf 5 (if b then 2 else 1)
      let heard := (s.bump (0x4000 + 1) 6 1 1).modPort 1 fun x => { x with heardAt := s.elapsed }
      s.portState 1 = 3 ∧ heard.portState 1 = 3 ∧ (heard.putFields 0 (0x4000 + 1) 4 0 (identFields i)).identMatches 1 i = b) ∧
    (let s := (ported 1 4).modPort 1 fun x => { x with ident := some (identOf 5 2) }
     let heard := (s.bump (0x4000 + 1) 6 1 1).modPort 1 fun x => { x with heardAt := s.elapsed }
     s.portState 1 = 4 ∧ heard.portState 1 = 4 ∧ (heard.port 1).ident = some (identOf 5 2) ∧ (heard.port 1).ident ≠ some (identOf 6 2)) ∧
    (((ported 1 5).bump (0x4000 + 1) 6 1 1).modPort 1 fun x => { x with heardAt := 0 }).portState 1 = 5 ∧
    (let a := (twinned 1).setPortState 0 4
     let b := (twinned 0).setPortState 0 4
     a.portState 0 = 4 ∧ a.twin = some 0 ∧ (0 : Nat) = (a.retrain 0).admitting ∧ b.portState 0 = 4 ∧ b.twin = some 1 ∧ 1 ≠ (b.retrain 0).admitting) ∧
    (∀ c ∈ [(1 : Byte), 2, 3], Accepted (ported 1 4) .hostA .command (0x4000 + 1) 2 [c]) ∧
    ((ported 1 4).stepRunning = false ∧ (∀ o ∈ (ported 1 4).sending, o.port ≠ 1)) ∧
    (∀ v ∈ [0, 4], (((ported 1 v).setOd (0x4000 + 1) 1 41 0).setOd (0x4000 + 1) 1 42 0).portState 1 = v) ∧
    (∀ k ∈ [(4 : Byte), 3, 0], Accepted (ported 1 4) .hostA .write 0x4010 (1 + 1) (neighbour k)) := by decide +kernel

/-- The header of a PTP frame, transfer 5. -/
def hdr8 : TransportHdr :=
  { kind := 8, cls := 0, mcast := false, first := true, last := true, retry := false, reserved := false, src := 1, dst := 0, mask := 0, tid := 5, rack := 0,
    step := 0, slot := 0, gen := 0, kvGen := 0, len := 8, offset := 0 }

/-- A part with P1 UP that has sent frames 0 and 1 and has had nothing acknowledged. -/
def sentTwo (gap : Bool) (since : Nat := 15) : State :=
  let f (q : Nat) : LinkFrame := { hdr := hdr8, body := [], seq := q, replays := 0, passed := 0, rack := 0 }
  { (ported 1 4).modPort 1 fun x => { x with txSeq := 2, retry := [f 0, f 1], gap := gap, owed := [0, 2, 0], sinceAck := since } with tick := 100 }

/-- Hypotheses of FramesAreAcknowledgedAndReplayed. -/
theorem witness_FramesAreAcknowledgedAndReplayed :
    (¬ ((ported 1 3).portState 1 = 4 ∨ (ported 1 3).portState 1 = 5) ∧ (ported 1 5).portState 1 = 5 ∧ (sentTwo false).portState 1 = 4) ∧
    (∀ b ∈ [true, false],
      let s := sentTwo b
      let heard := (s.bump (0x4000 + 1) 6 1 1).modPort 1 fun x => { x with heardAt := (s.bump (0x4000 + 1) 6 1 1).elapsed }
      let x := heard.port 1
      (0 : BitVec 32).toNat = (x.rxSeq + 1) % 2 ^ 32 ∧ (3 : BitVec 32).toNat ≠ (x.rxSeq + 1) % 2 ^ 32 ∧ x.gap = b ∧
      2 ^ 31 ≤ (x.rxSeq + 2 ^ 32 - (3 : BitVec 32).toNat) % 2 ^ 32 ∧ (0xFFFFFFFF : BitVec 32).toNat ≠ (x.rxSeq + 1) % 2 ^ 32 ∧
      (x.rxSeq + 2 ^ 32 - (0xFFFFFFFF : BitVec 32).toNat) % 2 ^ 32 < 2 ^ 31 ∧
      (let y := { x with rxSeq := 0, gap := false, sinceAck := x.sinceAck + 1, owed := setAt 0 (x.owed.getD 0 0 + 1) x.owed }
       16 ≤ (((heard.setPort 1 y).takeData 1 hdr8 none [] false).port 1).sinceAck) ∧
      (let s := sentTwo b 14
       let heard := (s.bump (0x4000 + 1) 6 1 1).modPort 1 fun x => { x with heardAt := (s.bump (0x4000 + 1) 6 1 1).elapsed }
       let x := heard.port 1
       let y := { x with rxSeq := 0, gap := false, sinceAck := x.sinceAck + 1, owed := setAt 0 (x.owed.getD 0 0 + 1) x.owed }
       (((heard.setPort 1 y).takeData 1 hdr8 none [] false).port 1).sinceAck < 16)) ∧
    (((sentTwo false).port 1).retry ≠ [] ∧ ((sentTwo false).port 1).ackAt + 1000 ≤ (sentTwo false).elapsed ∧
      { sentTwo false with tick := 99 }.elapsed < ((sentTwo false).port 1).ackAt + 1000 ∧ ((ported 1 4).port 1).retry = []) ∧
    (((sentTwo false).port 1).lackAt + 200 ≤ (sentTwo false).elapsed ∧ { sentTwo false with tick := 19 }.elapsed < ((sentTwo false).port 1).lackAt + 200) := by
  decide +kernel

/-- A TOKEN transfer, id 5, to endpoints 1 and 2: attempts so far, and the endpoints that refused. -/
def sending5 (kind : Byte) (tries : Nat) (refused : List Nat) : Sending :=
  { hdr := { hdr8 with kind := kind }, stepHdr := none, payload := List.replicate 8 0, port := 1, left := [1, 2], refused := refused, tries := tries, sentAt := 0,
    retryAt := if refused = [] then none else some 100, hearth := 0, run := 0, acked := false }

def sendingPart (o : Sending) : State := { ported 1 4 with sending := [o], tick := 5000 }

/-- A transfer of eight bytes, accepted, its one frame not yet written. -/
def receiving5 : Receiving :=
  { src := 1, tid := 5, hdr := hdr8, stepHdr := none, port := 1, reserve := 1, shared := 0, since := 0, data := List.replicate 8 0, offsets := [],
    complete := false, poisoned := false }

def tid5 : BitVec 32 := 5

/-- Hypotheses of TransfersAreDeliveredOrFail. -/
theorem witness_TransfersAreDeliveredOrFail :
    ((ported 1 4).classReserve 0 - (((ported 1 4).holdings.filter fun h => h.port == 1 && h.cls == 0).map (·.reserve)).sum = 16 ∧
      (ported 1 4).classReserve 2 - (((ported 1 4).holdings.filter fun h => h.port == 1 && h.cls == 2).map (·.reserve)).sum = 128 ∧
      (ported 1 4).sharedUsed 0 (fun _ => true) + (129 - 128) ≤ (ported 1 4).sharedTotal ∧
      (ported 1 4).sharedUsed 0 (· == 2) + (129 - 128) ≤ (ported 1 4).inForce 0x4200 1 2 ∧
      ¬ (ported 1 4).sharedUsed 0 (· == 2) + (8000 - 128) ≤ (ported 1 4).inForce 0x4200 1 2 ∧ (0 : Nat) < (17 : Nat) - 16) ∧
    (let s := { ported 1 4 with receiving := [receiving5], tick := 1000 }
     (s.receiving.find? fun r => r.src % 65536 == (1 : BitVec 16).toNat && r.tid == tid5.toNat) = some receiving5 ∧
     receiving5.complete = false ∧ receiving5.since + 10000 ≤ s.elapsed) ∧
    (∀ r ∈ { ported 1 4 with receiving := [receiving5], tick := 999 }.receiving, (999 : Nat) * 10 < r.since + 10000) ∧
    (∀ o ∈ (ported 1 4).sending, o.hdr.tid ≠ tid5) ∧
    (∀ o ∈ [sending5 3 0 [], sending5 1 0 [2], sending5 1 32 [2], sending5 1 31 [2]], (sendingPart o).sendingOf tid5.toNat = some o ∧ o.target (1 : BitVec 16).toNat = some 1 ∧
      (∀ e ∈ o.left, e % 65536 ≠ (3 : BitVec 16).toNat) ∧ (o.left.filter fun e => !o.refused.contains e) ≠ [] ∧ o.sentAt + 50000 ≤ (sendingPart o).elapsed ∧
      (sendingPart o).od 0x4201 0 2 = 32 ∧ (sendingPart o).od 0x4201 0 3 ≤ 50000 ∧ (sendingPart o).od 0x4201 0 4 ≤ 50000) ∧
    ((∃ x ∈ ({ sendingPart (sending5 3 0 []) with suspects := [] }.strike tid5.toNat [1]).sending, x.hdr.tid = tid5) ∧
      (∀ x ∈ ({ sendingPart { sending5 3 0 [] with left := [1] } with suspects := [] }.strike tid5.toNat [1]).sending, x.hdr.tid ≠ tid5)) ∧
    ((sending5 1 0 [2]).retryAt = some 100 ∧ (100 : Nat) ≤ (sendingPart (sending5 1 0 [2])).elapsed ∧ (sending5 3 0 []).retryAt = none) ∧
    (let s := sendingPart (sending5 1 31 [2])
     let u := [1].foldl (fun s e => State.reportPosition e s) (s.modSending tid5.toNat fun x => { x with tries := x.tries + 1 })
     u.od 0x4201 0 2 ≤ 31 + 1 ∧ 30 + 1 < u.od 0x4201 0 2) := by decide +kernel

/-- Hypotheses of DuplicatesAreAcknowledgedAndDiscarded. -/
theorem witness_DuplicatesAreAcknowledgedAndDiscarded :
    (let s := { ported 1 4 with receiving := [receiving5] }
     s.receivingOf 1 5 = some receiving5 ∧ receiving5.complete = false ∧ 0 ∉ receiving5.offsets ∧
     ceilDiv receiving5.hdr.len.toNat 4096 ≤ receiving5.offsets.length + 1) ∧
    (let s := { ported 1 4 with completed := Tab.put [] 1 [5] [] }
     let q : BitVec 32 := 0
     let e : FrameFaults := { back := ⟨0, 0, 0⟩, parity := false, crc := false, corrected := 1, uncorrectable := false, ip := false }
     e.uncorrectable = false ∧ e.crc = false ∧ e.parity = false ∧ e.ip = false ∧
     s.portState port1.toNat = 4 ∧ q.toNat = ((s.port port1.toNat).rxSeq + 1) % 2 ^ 32 ∧ hdr8.kind ≠ 0x0A ∧ hdr8.kind ≠ 0x0B ∧ hdr8.mcast = false ∧
     hdr8.dst.toNat = s.endpoint % 65536 ∧ hdr8.tid.toNat ∈ s.completed.get [] (65536 * hdr8.rack.toNat + hdr8.src.toNat) ∧
     (let m := { hdr8 with mcast := true, mask := 1 }
      m.mask.toNat.testBit (s.endpoint % 65536) = true ∧ s.endpoint % 65536 < 64)) := by decide +kernel

/-- A complete ACT transfer of step 3 for slot 0 from endpoint 1, without a step header. -/
def act3 : Receiving :=
  { src := 1, tid := 5, hdr := { hdr8 with kind := 1, step := 3 }, stepHdr := none, port := 1, reserve := 1, shared := 0, since := 0, data := List.replicate 8 0,
    offsets := [0], complete := true, poisoned := false }

def slot3 : StepInput :=
  { slot := 0, src := 0, tid := 4, data := List.replicate 8 0, poisoned := false, port := 1, reserve := 1, shared := 0, forwarded := false, waiting := [] }

/-- Endpoint 1 of a table with a LOCKSTEP entry of endpoints 0 and 1, and one of flags `flags` with endpoint 2; step 3 as given. -/
def staged (flags : Nat) (r : StepRec) : State :=
  let t := leBytes 2 1 ++ leBytes 2 2 ++ List.replicate 28 0 ++ entryBytes 2 3 0 1 ++ setAt 3 (BitVec.ofNat 8 flags) (entryBytes 0 1 2 noEndpoint)
  (((clocked.setBlob 0x4110 0 t).setOd 0x4011 0 1 3).setOd 0x4100 2 0 3).setStep 3 r

def keptFor2 : Retained := { step := 3, left := [2], send := sending5 1 0 [] }

def endpoint2 : BitVec 16 := 2
def step3 : BitVec 64 := 3

/-- Hypotheses of StepInputsAndNoticesAreTaken. -/
theorem witness_StepInputsAndNoticesAreTaken :
    (∀ r ∈ (staged 0 StepRec.fresh).receiving, ¬ (r.src % 65536 = (1 : BitVec 16).toNat ∧ r.tid = tid5.toNat ∧ r.hdr.kind = 1 ∧ r.complete = true)) ∧
    (∀ i ∈ [[], [slot3]], ∀ ph ∈ [StepPhase.waiting, StepPhase.committed, StepPhase.failed],
      let s := { staged 0 { StepRec.fresh with phase := ph, inputs := i, boundary := 1 } with receiving := [act3] }
      (s.receiving.find? fun r => r.src % 65536 == (1 : BitVec 16).toNat && r.tid == tid5.toNat && r.hdr.kind == 1 && r.complete) = some act3 ∧
      (s.stepRec act3.hdr.step.toNat).phase = ph ∧ (s.stepRec 3).inputs = i ∧ act3.stepHdr = none ∧
      (ph ≠ .failed ∨ act3.since < (s.stepRec 3).boundary * 10)) ∧
    (slot3.slot = act3.hdr.slot.toNat ∧ slot3.src ≠ act3.src ∧ (staged 0 StepRec.fresh).shadowed 3 = false ∧ (staged 0 StepRec.fresh).replayDue 3 = false ∧
      (staged 0 { StepRec.fresh with phase := .failed }).replayDue 3 = true) ∧
    (let s := staged 0 StepRec.fresh
     s.entryIndexOf act3.src = some 0 ∧ ((s.entryAt 0).map (·.mode)) = some 2 ∧ s.entryIndexOf endpoint2.toNat = some 1 ∧ ((s.entryAt 1).map (·.mode)) = some 0) ∧
    (let s := staged 0 { StepRec.fresh with k := 2 }
     (2 : Byte).toNat ≤ (s.stepRec step3.toNat).k ∧ (s.stepRec step3.toNat).k < (3 : Byte).toNat) ∧
    (keptFor2.left ≠ [] ∧ keptFor2.step ≠ 4) ∧
    (let s := staged 0 StepRec.fresh
     (∀ e ∈ s.entries, 65536 * (s.endpoint / 65536) + (9 : BitVec 16).toNat ∉ e.members) ∧
     (∀ e ∈ s.entries, 65536 * (s.endpoint / 65536) + (3 : BitVec 16).toNat ∉ e.members) ∧ s.admitting = 3) ∧
    (∀ f ∈ [0, 8], ∀ a ∈ [2, 3],
      let s := (staged f StepRec.fresh).setOd 0x4100 2 0 a
      s.isAdmitting = decide (a = 3) ∧ ((s.entries.zipIdx.find? fun e => e.1.members.contains (65536 * (s.endpoint / 65536) + endpoint2.toNat)).map (·.2)) = some 1 ∧
      ((s.entries.zipIdx.find? fun e => e.1.members.contains (65536 * (s.endpoint / 65536) + endpoint2.toNat)).map (·.1.head)) = some (f == 8)) ∧
    (let s := staged 0 StepRec.fresh
     let t := { s with retained := [keptFor2] }
     (∃ r ∈ t.retained, r.step = 3 ∧ ∃ x ∈ r.left, x = 2) ∧ ¬ (s.od 0x2203 0 0 ≤ (s.stepRec 3).k) ∧ s.od 0x2203 0 0 ≤ ((staged 0 { StepRec.fresh with k := 255 }).stepRec 3).k ∧
     2 ∈ { t with suspects := [2] }.suspects ∧ 2 ∉ t.suspects) := by decide +kernel

/-- Copies that agree and copies that do not, in either format of their slot. -/
theorem witness_StepInputsAndNoticesAreTaken_compared :
    ((staged 0 StepRec.fresh).compare 3 0 slot3.data act3.data).2 = false ∧
    ((staged 0 StepRec.fresh).compare 3 0 (List.replicate 66 0xFF) (List.replicate 66 0)).2 = true := by
  unfold State.compare actBlocks
  cases Config.actB8 0 <;> decide +kernel

/-- Endpoint 1 of a MIRROR entry of which only endpoint 0 serves; with a context record 7 of a tier where given. -/
def standby (c : Option Ctx) : State :=
  let t := leBytes 2 1 ++ leBytes 2 1 ++ List.replicate 28 0 ++ entryBytes 1 1 0 1
  let s := (((clocked.setBlob 0x4110 0 t).setOd 0x4011 0 1 1).setOd 0x4100 1 0 2).setOd 0x4100 2 0 0
  match c with
  | some x => s.setCtx 7 x
  | none => s

def header7 : PageHdr := { ctx := 7, tenant := 1, layer := 0, head := 0, first := 0, kScale := 0, vScale := 0, kvGen := 7, state := 1, written := 0 }
def ctx7 : BitVec 32 := 7
def edit7 (tier : Byte) : ContextEdit := { tenant := 1, kvGen := 7, committed := 0, tier := tier, lists := [] }
def stepHdr3 : StepHdr :=
  { headEdge := 0, ctx := 7, tenant := 1, positions := 1, variant := 0, k := 0, cls := 0, ctxLen := 0, m := 0, nodes := [],
    tree := { count := 1, levels := 1, source := 0, template := 0, nodes := [] } }

def shadow3 (running ended : Bool) : Shadow := { Shadow.fresh 3 stepHdr3 with running := running, ended := ended }

/-- The standby with a program for its hearth 0 of a power state, and a shadow check of step 3. -/
def shadowing (power : Nat) (x : Shadow) : State :=
  { ((((standby none).setBlob 0x3401 0 kindle0).setOd 0x3402 0 0 1).setOd 0x3000 1 0 power).setCal 0 40 1 with shadow := some x }

/-- Hypotheses of StandbysMirrorAndShadow. -/
theorem witness_StandbysMirrorAndShadow :
    (clocked.takesMirror = false ∧ clocked.isAdmitting ≠ ((3 : BitVec 32) == 0) ∧ (standby none).takesMirror = true ∧ (standby none).isAdmitting = false ∧ ¬((standby none).ctx 7).all (·.tier == .warm) = false) ∧
    (let u := (standby none).haveCtx header7.ctx.toNat header7.tenant.toNat header7.kvGen.toNat
     ∃ x, u.ctx header7.ctx.toNat = some x ∧ (u.pageFrame (x.list 0 0) 0 0).isSome = true) ∧
    ((4 : BitVec 4) ≠ 0 ∧ (edit7 0).tier ≠ 3 ∧ (edit7 3).tier = 3 ∧ (standby none).inService = false ∧ (twinned 0).inService = true) ∧
    (∀ t ∈ [Tier.hot, Tier.lost], (standby (some (ctx0 t))).twin = some 0 ∧ ((standby (some (ctx0 t))).ctx ctx7.toNat).map (·.tier) = some t) ∧
    (let s := (twinned 0).setCtx 7 (ctx0 .lost)
     s.takesMirror = false ∧ ((s.ctx ctx7.toNat).map (·.tier)) = some Tier.lost ∧ s.twin.isSome = true) ∧
    ((standby none).od 0x4100 1 0 = 2 ∧ (standby none).shadow = none ∧ (shadowing 1 (shadow3 false false)).takesMirror = true ∧
      (shadowing 1 (shadow3 false false)).od 0x4100 1 0 = 2) ∧
    (∀ p ∈ [(false, false), (true, false), (true, true)], (shadowing 1 (shadow3 p.1 p.2)).shadow = some (shadow3 p.1 p.2) ∧
      (shadow3 p.1 p.2).step = step3.toNat ∧ (shadow3 p.1 p.2).running = p.1 ∧ (shadow3 p.1 p.2).ended = p.2) ∧
    (∀ p ∈ [1, 3], let s := shadowing p (shadow3 false false)
      s.shadowComplete (shadow3 false false) = true ∧ s.programLoaded = true ∧ (s.stepRec 3).hdr = none ∧ s.hearthsFree = (p == 3) ∧
      s.headerAt (40 + 2 * ((shadow3 false false).hdr.variant.toNat % 8)) 2 ≠ 0 ∧ s.kindleHearths = [0]) ∧
    ((standby none).ownEntry.map Entry.token).getD false = false ∧
    (let s := standby none
     (s.compareBlocks 3 [] []).2 = false ∧ (s.compareBlocks 3 (b4Blocks (List.replicate 9 0xFF)) (b4Blocks (List.replicate 9 0))).2 = true ∧
      (s.compareBlocks 3 (dataBlocks [] []) (dataBlocks [] [])).2 = false) := by decide +kernel

/-- Hypotheses of StandbysMirrorAndShadow: payloads of one slot that disagree, in either format. -/
theorem witness_StandbysMirrorAndShadow_slots :
    let s := standby none
    (s.compareBlocks 3 (dataBlocks [(0, List.replicate 297 0)] (List.replicate 297 0xFF)) (dataBlocks [(0, List.replicate 297 0)] (List.replicate 297 0))).2 = true := by
  simp only [dataBlocks, actBlocks]
  cases Config.actB8 0 <;> decide +kernel

/-- Hypotheses of StandbysMirrorAndShadow: a copy is asked of a part that holds the context, has lost it, or has no record. -/
theorem witness_StandbysMirrorAndShadow_asked :
    (∀ t ∈ [Tier.hot, Tier.lost], let s := standby (some (ctx0 t))
      (s.twin = some 0 ∧ s.ctx 7 = some (ctx0 t) ∧ s.inService = false ∧ (s.readCtx (ctx0 t)).ctx 7 = some (ctx0 t) ∧ (edit7 3).tier = 3)) ∧
    (standby none).ctx 7 = none ∧ clocked.twin = none ∧
    (let s := standby (some (ctx0 .lost)); (s.ctx 7).all (·.tier == .lost) = true ∧ (edit7 0).tier = 0 ∧ s.od 0x4102 0 0 = 0 ∧ s.twin.isSome = true) := by decide +kernel

/-- Hypotheses of StandbysMirrorAndShadow: a readable line is lost in the copy, and a serving part that has a twin. -/
theorem witness_StandbysMirrorAndShadow_served :
    (let s := ((twinned 0).setOd 0x4100 2 0 9)
     s.takesMirror = false ∧ s.isAdmitting = false) ∧ clocked.isAdmitting = true ∧
    (∀ h ∈ (shadowing 3 (shadow3 false false)).kindleHearths, ((shadowing 3 (shadow3 false false)).hearth h).calendar = []) ∧ (twinned 0).inService = true ∧ (twinned 0).twin.isSome = true := by decide +kernel

/-- Endpoint `own` of a table with a SPLIT entry of endpoints 1 and 2 for the main model and a LOCKSTEP one of endpoints 0 and 3; endpoint 0 admits, and
recovery is enabled. -/
def paired (own : Nat) (spares : List Nat) : State :=
  let t := leBytes 2 1 ++ leBytes 2 2 ++ List.replicate 28 0 ++ setAt 3 1 (entryBytes 3 3 1 2) ++ setAt 3 1 (entryBytes 2 3 0 3)
  let s := (((clocked.setBlob 0x4110 0 t).setOd 0x4011 0 1 own).setOd 0x4100 2 0 0).setOd 0x4116 0 0 1
  s.setSpares spares

def endpoint1 : BitVec 64 := 1

/-- Hypotheses of FailuresAreProbedAndDeclared. -/
theorem witness_FailuresAreProbedAndDeclared :
    ((paired 0 []).isAdmitting = true ∧ (paired 3 []).isAdmitting = false ∧ endpoint1.toNat ≠ (paired 0 []).endpoint ∧ endpoint1.toNat ≠ 0 ∧ (0 : BitVec 64).toNat = (paired 0 []).endpoint ∧ (paired 0 []).entryTest = none ∧ (paired 0 []).doubtful.contains 1 = false ∧
      { paired 0 [] with doubtful := [1] }.doubtful.contains 1 = true ∧ endpoint1.toNat = (paired 1 []).endpoint ∧ (paired 1 []).isAdmitting = false ∧
      (((paired 1 []).setOd 0x4100 2 0 1).isAdmitting = true ∧ ((paired 1 []).setOd 0x4100 2 0 1).endpoint = 1)) ∧
    ((∀ x ∈ (paired 0 []).probes, x.1 ≠ 1) ∧ (1, 5) ∈ { paired 0 [] with probes := [(1, 5)] }.probes ∧ 1 ∉ (paired 0 []).declared) ∧
    (let s := { paired 0 [] with probes := [(1, 0)] }
     (s.probes.find? fun p => p.1 == endpoint1.toNat) = some (1, 0) ∧ s.elapsed < 0 + 1000 * s.od 0x4106 0 0 ∧
     0 + 1000 * s.od 0x4106 0 0 ≤ { s with tick := 1000000000 }.elapsed) ∧
    ((paired 0 []).entryIndexOf 9 = none ∧ 9 ∉ (paired 0 []).spares ∧ (paired 0 []).spares.length < 16 ∧ 9 ∈ (paired 0 [9]).spares) ∧
    (∀ n ∈ [1, 3], ((paired 0 []).entryIndexOf n).isSome = true ∧ (((paired 0 []).entryIndexOf n).bind (paired 0 []).entryAt).isSome = true) ∧
    ((paired 3 []).twin = some 0 ∧ (paired 3 []).twin ≠ some 1 ∧ (paired 3 []).entryIndexOf 9 = none ∧ ((paired 3 []).entryIndexOf 1).isSome = true ∧
      ((((paired 0 []).entryIndexOf 1).bind (paired 0 []).entryAt).map (·.mode) = some 3 ∧ (((paired 0 []).entryIndexOf 3).bind (paired 0 []).entryAt).map (·.mode) = some 2)) ∧
    (let s := paired 3 []
     (1 : Nat) ≠ s.admitting ∧ (0 : Nat) = s.admitting ∧
     (((s.entryIndexOf 0).bind s.entryAt).bind fun e => e.members.find? fun m => m != 0 && !s.declared.contains m) = some 3 ∧
     3 = (((s.failPosition 0 1).setAdmitting 3).setBlob 0x4110 0 []).endpoint ∧ (s.failPosition 0 1).blob 0x4110 0 ≠ [] ∧
     ((s.failPosition 0 1).setAdmitting 3).endpoint ≠ 1) ∧
    (((paired 0 []).positionFails 1 1).isAdmitting = true ∧ ((paired 3 []).positionFails 1 1).isAdmitting = false) := by decide +kernel

/-- Hypotheses of FailuresAreProbedAndDeclared: recovery, and heartbeats. -/
theorem witness_FailuresAreProbedAndDeclared_recovery :
    ((paired 0 []).lostPlace = none ∧
      (let s := { paired 0 [9] with declared := [1] }
       s.recovery = none ∧ s.lostPlace = some (0, 0) ∧ s.od 0x4116 0 0 = 1 ∧ s.spares = 9 :: [])) ∧
    (let s := paired 0 []
     let u := (s.sendHeartbeat 3).loseCover 3
     let v := (s.sendHeartbeat 9).loseCover 9
     s.sourceOf (3 : BitVec 16).toNat = 3 ∧ ((u.entryIndexOf 3).bind u.entryAt).any (fun e => e.serving.contains 3) = true ∧ u.isAdmitting = true ∧
     ((v.entryIndexOf 9).bind v.entryAt).any (fun e => e.serving.contains 9) = false ∧ v.twin ≠ some 9) ∧
    (let s := twinned 0
     let t := leBytes 2 1 ++ leBytes 2 1 ++ List.replicate 28 0 ++ entryBytes 1 1 0 1
     let u := ((s.setBlob 0x4110 0 t).sendHeartbeat 1).loseCover 1
     ((u.entryIndexOf 1).bind u.entryAt).any (fun e => e.serving.contains 1) = false ∧ u.twin = some 1) := by decide +kernel

/-- A part of `paired` with a role. -/
def roled (own role : Nat) (spares : List Nat) : State := (paired own spares).setOd 0x4100 1 0 role

def recovering : Recovery := { entry := 1, pos := 1, spare := 9, replace := false }

/-- Hypotheses of RolesAreAssignedTestedAndGiven: a MIRROR entry to be tested. -/
theorem witness_RolesAreAssignedTestedAndGiven_mirror :
    let t := leBytes 2 1 ++ leBytes 2 1 ++ List.replicate 28 0 ++ entryBytes 1 1 0 1
    let s : State := { (clocked.setBlob 0x4110 0 t).setOd 0x4100 2 0 0 with doubtful := [0] }
    s.isAdmitting = true ∧ (s.entryAt (0 : BitVec 16).toNat).any (fun e => e.mode == 1 && e.members.all (fun m => !s.declared.contains m)) = true ∧
      0 ∈ s.doubtful ∧ s.entryTest = none ∧ 1 ∉ (roled 0 1 []).doubtful ∧ (roled 0 1 []).entryTest = none := by decide +kernel

/-- Hypotheses of RolesAreAssignedTestedAndGiven. -/
theorem witness_RolesAreAssignedTestedAndGiven :
    (let s := (roled 9 0 []).setBlob 0x4113 0 (leBytes 8 1 ++ leBytes 8 5 ++ leBytes 8 0)
     (9 : BitVec 64).toNat = s.endpoint ∧ s.od 0x4100 1 0 = 0 ∧
     (∀ b ∈ [true, false],
       let u := if b then s.beginSteep 1 .a else s
       let known := { u with assigned := some 0 }.setOd 0x4111 0 0 (max (u.od 0x4111 0 0) (if u.od 0x4111 0 0 = 0 then 0 else 1 - 1))
       u.endpoint = 9 ∧ u.od 0x4100 1 0 = 0 ∧
       (if b then (((known.setOd 0x5023 0 0 1).setOd 0x5023 0 1 5).applySteep 2 .a).1 ≠ 0 else (((known.setOd 0x5023 0 0 1).setOd 0x5023 0 1 5).applySteep 2 .a).1 = 0))) ∧
    ((roled 0 1 [9]).isAdmitting = true ∧ (roled 0 1 [9]).recovery = none ∧ (roled 0 1 [9]).entryIndexOf 3 = some 1 ∧ (roled 0 1 [9]).entryIndexOf 8 = none ∧
      ((roled 0 1 [9]).entryAt 1).isSome = true ∧ (roled 3 1 []).isAdmitting = false) ∧
    (let s := { roled 0 1 [9] with recovery := some recovering }
     s.isAdmitting = true ∧ recovering.entry = (1 : BitVec 16).toNat ∧ (s.entryAt recovering.entry).isSome = true ∧ recovering.entry ≠ (0 : BitVec 16).toNat) ∧
    (∀ t ∈ [none, some (1, 1), some (1, 2), some (0, 1)], ∀ a ∈ [0, 3],
      let s := { roled a 1 [] with entryTest := t, doubtful := [1] }
      s.isAdmitting = decide (a = 0) ∧ (s.entryAt (1 : BitVec 16).toNat).any (fun e => e.mode == 2 && e.members.all (fun m => !s.declared.contains m)) = true) ∧
    (∀ c ∈ [(1 : Byte), 2, 3, 4], Accepted (roled 0 1 []) .hostA .command 0x4101 0 [c]) ∧
    ((roled 0 2 []).od 0x4100 1 0 = 2 ∧ (((roled 0 2 []).setOd 0x4100 1 0 3).setPair 1).twin = some 3 ∧ Accepted (roled 0 2 []) .hostA .command 0x4101 0 [1]) ∧
    ((roled 0 1 []).onlyLive = false ∧ (roled 3 1 []).onlyLive = false ∧ (roled 1 1 []).onlyLive = true ∧ Accepted (roled 3 1 []) .hostA .command 0x4101 0 [1] ∧
      Accepted (roled 1 1 []) .hostA .command 0x4101 0 [1]) ∧
    ((roled 0 3 []).od 0x4100 1 0 = 3 ∧ (roled 0 3 []).calImage = [] ∧ Accepted (roled 0 3 []) .hostA .command 0x4101 0 [2] ∧ Accepted (roled 0 3 []) .hostA .command 0x4101 0 [3] ∧
      ((roled 0 3 []).setOd 0x4100 1 0 0).admitting = 0 ∧ (((roled 0 3 []).setOd 0x4100 2 0 1).setOd 0x4100 1 0 0).admitting ≠ 0 ∧
      Accepted ((roled 0 3 []).setOd 0x4100 2 0 1) .hostA .command 0x4101 0 [3]) ∧
    ((roled 0 1 []).inService = true ∧ (roled 0 1 []).spares = [] ∧ (roled 0 1 [9]).spares ≠ [] ∧ (roled 0 1 [9]).ownIndex.isSome = true ∧ (roled 0 1 [9]).ownEntry.isSome = true ∧
      (∀ x ∈ [(some recovering), none], Accepted { roled 0 1 [9] with recovery := x } .hostA .command 0x4101 0 [4]) ∧
      (roled 3 1 []).inService = true ∧ (roled 9 1 []).inService = false ∧ Accepted (roled 9 1 []) .hostA .command 0x4101 0 [4] ∧
      Accepted (roled 3 1 []) .hostA .command 0x4101 0 [4]) := by decide +kernel

/-- A main side out of reset whose code has begun to arrive `fails + 1` times. -/
def booting (fails : Nat) : State :=
  let s := (islandOn.setOd 0x1300 3 0 1).setOd 0x2100 2 0 0
  { s with seq := { s.seq with released := true }, boot := { s.boot with fails := fails } }

/-- A part that may serve, admitting or not. -/
def mayBeReady (ep : Nat) : State :=
  let s := ((clocked.setOd 0x2100 2 0 0).setOd 0x4100 2 0 ep).setOd 0x2110 2 0 1
  let t := (List.range 128).foldr (fun h s => State.setOd (0x3000 + h) 1 0 0 s) s
  { t with streamed := true, integrity := true, edges := [0, 0, 0, 0], cadenceLost := false }

/-- Hypotheses of MainSideStartsAndBeats. -/
theorem witness_MainSideStartsAndBeats :
    ((booting 0).seq.released = true ∧ (booting 0).thermalHold = false ∧ (booting 0).od 0x2100 2 0 = 0 ∧ (booting 0).mainState = 1 ∧ (booting 1).boot.fails ≠ 0 ∧
      clocked.mainState = 2) ∧
    (clocked.ready = false ∧ clocked.mayServe = false ∧ (mayBeReady 0).mayServe = true ∧ (mayBeReady 9).mayServe = true ∧ (mayBeReady 0).ready = false) ∧
    (∀ a ∈ [0, 9],
      let s := mayBeReady a
      let u := { s with ready := true, readyAt := s.elapsed }
      ((((u.setCause 0 2).setCause 1 2).raise { kind := .island, path := pathDie 0 0, detail := u.mainState, event := true }).reportGeneration.joinRole).isAdmitting = decide (a = 0)) ∧
    (State.reset.islandUp = false ∧ State.reset.mainRuns = false ∧ State.reset.thermalHold = false ∧ clocked.islandUp = true ∧ clocked.mainRuns = true) ∧
    (let late := { clocked with tick := 100001 }
     late.islandHeard + 1000000 < late.elapsed ∧ late.mainHeard + 1000000 < late.elapsed ∧ ¬ clocked.mainHeard + 1000000 < clocked.elapsed) ∧
    (clocked.mainState ≠ 0 ∧ (16 * clocked.od 0x2403 0 0 : Nat) ≤ (0x0700 : BitVec 16).toInt ∧ (0 : BitVec 16).toInt < 16 * clocked.od 0x2403 0 0 ∧ clocked.seq.down ≠ some true ∧
      { clocked with seq := { clocked.seq with down := some true } }.seq.down = some true ∧ State.reset.mainState = 0 ∧ clocked.criticalTemp ≤ (0x0700 : BitVec 16).toInt) ∧
    (((clocked.setOd 0x1300 3 0 3).mainState = 3 ∧ (clocked.setOd 0x1300 3 0 3).hangAlarmed = false ∧ (0 : BitVec 16).toInt < clocked.criticalTemp)) ∧
    (clocked.islandLost = false ∧ clocked.thermalHold = false ∧ { clocked with islandLost := true }.islandLost = true) ∧
    (clocked.laneMainNormal.unacked.length ≤ 32) := by decide +kernel

/-- A key statement: state, signer, counter, object and slot; any part, no floor, a zero key and signature. -/
def statement (state signer counter : Byte) (idx slot : Nat) : List Byte :=
  [state, signer, 0, 0, counter, 0, 0, 0] ++ List.replicate 12 0 ++ leBytes 2 idx ++ leBytes 1 slot ++ List.replicate 277 0

/-- An owned part: one registered owner key, in slot 1, and a registered publisher key. -/
def owned : State := (clocked.setOd 0x7001 1 0 1).setOd 0x5010 1 0 1

def slot1 : BitVec 2 := 0

/-- Hypotheses of KeysAndFirmwareAreTaken. -/
theorem witness_KeysAndFirmwareAreTaken :
    (let b := statement 1 0 1 0x7001 1
     clocked.stmtGood 0x7001 1 b = true ∧ clocked.stmtGood 0x7001 2 b = false ∧ Accepted clocked .hostA .write 0x7001 (slot1.toNat + 1) b ∧
     Accepted clocked .hostA .write 0x7001 ((1 : BitVec 2).toNat + 1) b ∧ clocked.ownerRegistered 1 = false) ∧
    (Accepted owned .hostA .write 0x7001 (slot1.toNat + 1) (statement 0 1 1 0x7001 1) ∧ owned.ownerRegistered 1 = true ∧
      ([1, 2, 3, 4].filter owned.ownerRegistered).length = 1 ∧ leAt (statement 0 1 1 0x7001 1) 0 1 = 0 ∧ owned.publishes = true) ∧
    (Accepted owned .hostA .write 0x5010 ((0 : BitVec 4).toNat + 1) (statement 1 0 1 0x5010 1) ∧ owned.stmtGood 0x5010 1 (statement 1 0 1 0x5010 1) = false) ∧
    (∀ t ∈ [0, 1], Accepted { clocked with trial := t } .hostA .command 0x7004 0 [1] ∧ Accepted { clocked with trial := t } .hostA .command 0x7004 0 [2]) ∧
    (clocked.trial = 0 ∧ clocked.firmwareGood (clocked.blob 0x7005 0) = false) ∧
    (∀ v ∈ [0, 1],
      let s := clocked.setOd 0x7003 0 (4 * (1 - clocked.activeSlot) + 3) v
      s.od 0x7003 0 (4 * (1 - s.activeSlot) + 3) = v ∧ s.trial = 0 ∧ Accepted s .hostA .command 0x7004 0 [2]) ∧
    (clocked.trial ≠ 2 ∧
      (let s := { clocked with trial := 2, ready := true, tick := 6000000000 }
       s.trial = 2 ∧ s.ready = true ∧ s.islandAt + 60000000000 ≤ s.elapsed)) := by decide +kernel

/-- A part with connection 0 in a phase of the negotiation. -/
def connected (phase : Nat) (exchange : Option SpdmRequester) (session : Option Session) : State :=
  clocked.setConn 0 { Conn.fresh with phase := phase, exchange := exchange, session := session }

def ownerKey1 : SpdmRequester := .ownerKey 0

/-- Hypotheses of SpdmRequestsAreAnswered. -/
theorem witness_SpdmRequestsAreAnswered :
    (State.reset.islandRun = 0 ∧ { clocked with islandRun := 2 }.islandRun = 2 ∧ clocked.islandRun = 1 ∧ (clocked.conn 0).phase < 1) ∧
    (∀ n ∈ [1, 2, 3], ((connected n none none).conn 0).phase = n ∧ (connected n none none).islandRun = 1) ∧
    ((connected 3 none none).certChain.length < (9 : BitVec 16).toNat ∧ (0 : BitVec 16).toNat ≤ (connected 3 none none).certChain.length ∧ (1 : Byte) ≠ 0 ∧
      8 < (9 : Byte).toNat ∧ (9 : Byte).toNat ≠ 255) ∧
    (let s := (connected 3 none none).setOd 0x7001 2 0 1
     s.mayOpen ownerKey1 = false ∧ s.unowned = false ∧ s.mayOpen (.ownerKey 1) = true ∧ (connected 3 none none).mayOpen ownerKey1 = true ∧ (connected 3 none none).unowned = true) ∧
    (((connected 3 none none).conn 0).exchange = none ∧ ((connected 3 (some ownerKey1) none).conn 0).exchange = some ownerKey1 ∧
      ((connected 3 (some ownerKey1) none).setConn 0 { (connected 3 (some ownerKey1) none).conn 0 with exchange := none }).mayOpen ownerKey1 = true ∧
      (let s := (connected 3 (some ownerKey1) none).setOd 0x7001 2 0 1
       (s.conn 0).exchange = some ownerKey1 ∧ (s.setConn 0 { s.conn 0 with exchange := none }).mayOpen ownerKey1 = false)) ∧
    (((connected 3 none none).conn 0).session = none ∧ ((connected 3 none (some (newSession ownerKey1 true))).conn 0).session.isSome = true) := by decide +kernel

/-- A NOA request outside every session: operation, object, continuation or not. -/
def noa (op : AccessOp) (index : BitVec 16) (sub : Byte) (more : Bool) (data : List Byte) : NoaMsg :=
  { session := none, seq := 1, op := op, more := more, index := index, sub := sub, offset := 0, length := 0, total := BitVec.ofNat 32 data.length, data := data, fabric := false }

/-- A part with a session on connection 0, and as many requests waiting in it as given. -/
def inSession (waits : Nat) : State :=
  let s := connected 3 none (some (newSession ownerKey1 true))
  { s with noaWaits := (List.range waits).map fun k => { corr := k, msg := { noa .read 0x2110 1 false [] with session := some 0, seq := BitVec.ofNat 32 (100 + k) } } }

def sessionNoa (op : AccessOp) (index : BitVec 16) (sub : Byte) (more : Bool) (data : List Byte) : NoaMsg :=
  { noa op index sub more data with session := some 0 }

/-- Hypotheses of AccessesAreJudgedAndAnswered. -/
theorem witness_AccessesAreJudgedAndAnswered :
    (odRow? 0x9999 1 = none ∧ (odRow? 0x2110 1).isSome = true) ∧
    (let q (op : AccessOp) (idx sub : Nat) (data : List Byte) : Req := { rq := .hostA, op := op, idx := idx, sub := sub, offset := 0, room := 2 ^ 32, data := data }
     clocked.judgeReq (q .write 0x2110 1 []) ≠ 0 ∧ clocked.judgeReq (q .read 0x2110 1 []) = 0 ∧ clocked.judgeReq (q .write 0x2402 0 [1, 0]) = 0 ∧
     clocked.judgeReq (q .command 0x6404 0 [1]) = 0 ∧ (clocked.applyCommand .hostA 0x6404 0 [1]).1 = 0 ∧ clocked.judgeReq (q .command 0x6404 0 [9]) = 0 ∧
     (clocked.applyCommand .hostA 0x6404 0 [9]).1 ≠ 0) ∧
    (clocked.hostLink 0 = false ∧ (linked false).hostLink 0 = true ∧
      (((linked false).perform { rq := .hostA, op := .read, idx := 0x2110, sub := 1, offset := 0, room := 8, data := [] }).1.data ≠ [])) ∧
    (State.reset.islandRun = 0 ∧ clocked.od 0x1310 5 0 ≠ 0 ∧ clocked.islandRun ≠ 0 ∧
      clocked.noaUnreadable (sessionNoa .read 0x2110 1 false []) = true ∧ clocked.noaUnreadable (noa .read 0x2110 1 false []) = false ∧
      clocked.keptResponse (noa .read 0x2110 1 false []) = none ∧ clocked.noaMay (noa .read 0x2110 1 false []) = false) ∧
    (let m := sessionNoa .read 0x2110 1 false []
     (inSession 0).keptResponse m = none ∧ (((inSession 0).respond m 0 8 []).keptResponse m).isSome = true ∧ (inSession 0).noaUnreadable m = false ∧ (inSession 0).noaMay m = true ∧
     ((inSession 7).noaWaits.filter fun w => w.msg.session == m.session).length < 8 ∧ 8 ≤ ((inSession 8).noaWaits.filter fun w => w.msg.session == m.session).length ∧
     (¬ ∃ w ∈ (inSession 8).noaWaits.filter fun w => w.msg.session == m.session, w.msg.seq = m.seq) ∧
     (∃ w ∈ (inSession 1).noaWaits.filter fun w => w.msg.session == m.session, w.msg.seq = { m with seq := 100 }.seq) ∧
     islandServes 0x2110 1 = false ∧ islandServes 0x1000 0 = true ∧ ((inSession 0).bump 0x1314 0 0 1).mainUp = true ∧ (State.reset.bump 0x1314 0 0 1).mainUp = false) ∧
    ((sessionNoa .write 0x5011 0 true [1]).more = true) ∧
    (let s := (ported 1 4).modPort 1 fun x => { x with ident := some (identOf 5 2) }
     s.islandUp = true ∧ s.portUp port1.toNat = true ∧ (s.port port1.toNat).ident = some (identOf 5 2) ∧ (identOf 5 2).kind = 1 ∧ (identOf 5 2).serial = 7 ∧
     (ported 1 4).islandUp = true ∧ ((ported 1 4).port port1.toNat).ident = none) ∧
    (2 < (3 : Byte).toNat ∧ clocked.islandRun ≠ 0 ∧ ¬ 2 < (1 : Byte).toNat ∧ (clocked.setOd 0x1310 5 0 0).od 0x1310 5 0 = 0) := by decide +kernel

/-- The island's part with a request that waits on the main side. -/
def waitingFor (m : NoaMsg) : State := { clocked with noaWaits := [{ corr := 4, msg := m }] }

/-- A forwarded value of OD 0x5C20.01, of a length. -/
def forwarded (total : BitVec 32) : NoaMsg := { noa .write 0x5C20 1 false [1] with total := total }

/-- Hypotheses of CrossingFramesActAtTheirEnd. -/
theorem witness_CrossingFramesActAtTheirEnd :
    (State.reset.mainRuns = false ∧ State.reset.islandUp = false ∧ clocked.mainRuns = true ∧ clocked.islandUp = true) ∧
    (([] : List Byte).length ≤ 32 ∧ 4096 < (List.replicate 4097 (0 : Byte)).length ∧ ([] : List Byte).length ≤ 1024 ∧ ([] : List Byte).length ≤ 4096 ∧ AccessOp.write ≠ .read) ∧
    (let r (i k : Nat) := (clocked.arrived true false).perform { rq := .sideBand, op := .read, idx := i, sub := k, offset := 0, room := min 8 1024, data := [] }
     ((r 0x2110 1).1.code = 0 ∧ isBlob 0x2110 1 = false) ∧ ((r 0x3401 0).1.code = 0 ∧ isBlob 0x3401 0 = true)) ∧
    (let s := (waitingFor (noa .write 0x2808 0 false [1])).arrived true false
     ((s.waitOn .write 0x2808 0).map fun w => w.msg.data.length).getD calImageSize = 1 ∧ (([] : List Byte).length < 1 ∧ 1 ≤ [(7 : Byte)].length)) ∧
    ((0 : BitVec 32).toNat ≤ ([] : List Byte).length ∧ ([] : List Byte).length < (1 : BitVec 32).toNat) ∧
    (clocked.isForwarded 9 (forwarded 1) = true ∧ clocked.isForwarded 9 (noa .read 0x2110 1 false []) = false ∧
      (forwarded 1).data.length < (forwarded 2).total.toNat ∧ (forwarded 1).total.toNat ≤ (forwarded 1).data.length) ∧
    ((∀ e ∈ clocked.mgmtFrom, e.1 ≠ none ∨ e.2.1 ≠ 1) ∧ ({ clocked with mgmtFrom := [(none, 1, 9)] }.mgmtFrom.find? fun e => e.1 == (noa .read 0x2110 1 false []).session && e.2.1 == 1) =
      some (none, 1, 9)) ∧
    ((∀ w ∈ clocked.noaWaits, w.corr ≠ 4) ∧
      ((waitingFor (noa .read 0x2110 1 false [])).noaWaits.find? fun w => w.corr == (4 : BitVec 32).toNat) = some { corr := 4, msg := noa .read 0x2110 1 false [] }) ∧
    ((clocked.arrived false false).waitOn .read 0x2808 0 = none ∧
      (((waitingFor (noa .read 0x2808 0 false [])).arrived false false).waitOn .read 0x2808 0).isSome = true ∧
      (((waitingFor (noa .read 0x3401 0 false [])).arrived false false).waitOn .read 0x3401 0).isSome = true) := by decide +kernel

/-- Hypotheses of EndsAreSupervisedAndReset. -/
theorem witness_EndsAreSupervisedAndReset :
    (let s := { clocked with tick := 1000000 }
     s.islandRun = 1 ∧ s.mainUp = true ∧ s.islandHeard + 10000000 ≤ s.elapsed ∧ s.mainHeard + 10000000 ≤ s.elapsed ∧ clocked.elapsed < clocked.mainHeard + 10000000) ∧
    (∀ r ∈ [0, 1],
      let s := { (clocked.setOd 0x1300 3 0 3).setOd 0x1302 2 0 r with tick := 1000000000 }
      s.islandRun = 1 ∧ s.mainState = 3 ∧ s.hangAlarmed = false ∧ s.islandHeard + 1000000 * s.od 0x1302 1 0 ≤ s.elapsed ∧ s.od 0x1302 2 0 = r) ∧
    (State.reset.mainState = 0 ∧ clocked.mainState ≠ 0) ∧
    (let u := clocked.failWaits
     clocked.ready = false ∧ u.ready = false ∧ u.steepRuns = false ∧ u.hostLink 0 = false ∧ u.hostLink 1 = false ∧ ((u.forget true).setOd 0x1300 3 0 4).od 0x1300 1 cmdState ≠ 1) ∧
    Accepted clocked .sideBand .command 0x1300 4 [1] ∧
    (State.reset.islandRun = 0 ∧ State.reset.seq.enables = 0 ∧ clocked.islandRun ≠ 0 ∧ clocked.trial ≠ 2 ∧ { clocked with trial := 2 }.trial = 2) ∧
    (let s := { clocked with trial := 2, tick := 1000000000 }
     s.trial = 2 ∧ s.islandRun = 1 ∧ s.ready = false ∧ s.boot.startAt + 10000000000 ≤ s.elapsed) ∧
    (islandVolatile 0x1314 0 = true) := by decide +kernel

/-- The head of an image of one layer and one chunk, for array 5: id 7, in clear. -/
def imageHead : List Byte :=
  leBytes 2 1 ++ leBytes 2 0 ++ leBytes 4 0 ++ leBytes 8 7 ++ leBytes 4 1 ++ leBytes 2 1 ++ leBytes 2 0 ++ leBytes 8 256 ++ leBytes 8 88 ++ leBytes 8 344 ++ leBytes 8 4096 ++
    List.replicate 200 0 ++ (leBytes 2 0 ++ leBytes 2 0 ++ leBytes 4 1 ++ leBytes 8 0) ++ (leBytes 4 5 ++ List.replicate 68 0) ++ List.replicate 132 0

/-- A steep of that image, from a source (kind 2) or host DMA (kind 1), verified or not. -/
def loadJob (kind : Nat) (verified : Bool) (head : List Byte) (arrays : List SteepArray) : SteepJob :=
  { kind := kind, startAt := 0, verified := verified, port := .a, scatter := [], todo := [], source := 1, image := 7, head := head, key := none, got := [],
    again := [], arrays := arrays, named := arrays.map (·.array), held := [], lastAt := 0, calFirst := [], worst := 0 }

def steepArray5 (phase : Nat) : SteepArray :=
  { array := 5, chunk := 0, layer := 0, gen := 1, format := 0, flags := 0, rows := [], scales := [], phase := phase, row := 0, iter := 0, failed := [] }

def loading (j : SteepJob) : State := { clocked with steep := some j, tick := 10000000 }

/-- A part that may begin a steep, with a list of `n` entries. -/
def maySteep (n : Nat) : State := clocked.setOd 0x5022 0 0 n

/-- Hypotheses of SteepsBeginAndLoad. -/
theorem witness_SteepsBeginAndLoad :
    (Accepted (maySteep 0) .hostA .command 0x5020 0 [1] ∧ Accepted (maySteep 1) .hostA .command 0x5020 0 [1] ∧ Accepted (maySteep 1) .hostA .command 0x5020 0 [2] ∧
      Accepted (maySteep 1) .hostA .command 0x5020 0 [3] ∧ Accepted (maySteep 1) .hostA .command 0x5020 0 [4]) ∧
    ((maySteep 0).od 0x5022 0 0 = 0 ∧ (maySteep 1).od 0x5022 0 0 = 1 ∧ (maySteep 1).islandLost = false ∧ (maySteep 1).steep = none ∧ (maySteep 1).reserveStaging.isSome = true) ∧
    (let s := { maySteep 1 with islandLost := true }
     Accepted s .hostA .command 0x5020 0 [1] ∧ Accepted s .hostA .command 0x5020 0 [2] ∧ Accepted s .hostA .command 0x5020 0 [3]) ∧
    (let s := { maySteep 1 with steep := some (loadJob 2 false [] []) }
     Accepted s .hostA .command 0x5020 0 [1] ∧ Accepted s .hostA .command 0x5020 0 [2] ∧ Accepted s .hostA .command 0x5020 0 [3] ∧ s.steep.isSome = true) ∧
    (let s := (maySteep 1).setOd 0x5026 0 0 (2 ^ 30)
     Accepted s .hostA .command 0x5020 0 [1] ∧ Accepted s .hostA .command 0x5020 0 [2] ∧ s.reserveStaging = none) ∧
    (let s := ((maySteep 1).setMask 16 0x5024 0 5 true).setOd 0x3110 (5 + 1) 0 (2 ^ 30)
     Accepted s .hostA .command 0x5020 0 [3] ∧ ∃ h ∈ (List.range 128).filter (s.mask 0x5024 0), s.driftPast h 0x3112 = true) ∧
    (headGood imageHead = true ∧ imgId imageHead = 7 ∧ imgChunks imageHead = 1 ∧ imgEncrypted imageHead = false ∧ headGood [] = false) ∧
    (let j := loadJob 2 false [] []
     j.kind ≠ 3 ∧ j.verified = false ∧ j.head = [] ∧ j.image = imgId imageHead) ∧
    (let j := loadJob 2 true imageHead []
     let full := (loading { j with held := [(3, [])] }).setOd 0x5026 0 0 0
     full.stagingFull j = true ∧ full.steep = some { j with held := [(3, [])] } ∧ (∃ e ∈ [((3 : Nat), ([] : List Byte))], e.1 = 3) ∧
     (0 : BitVec 32).toNat < imgChunks j.head ∧ (0 : BitVec 32).toNat ∉ j.got ∧ (loading j).stagingFull j = false ∧ j.got.length < imgChunks j.head ∧
     j.lastAt + 100000000 ≤ (loading j).elapsed ∧ ¬ (1 : BitVec 32).toNat < imgChunks j.head) ∧
    (let j := loadJob 2 true imageHead [steepArray5 0]
     (j.arrays.find? fun a => a.chunk == (0 : BitVec 32).toNat && a.phase ≤ 1) = some (steepArray5 0) ∧ imgId j.head = (7 : BitVec 64).toNat) := by decide +kernel

/-- A steep under way: array 5 in a phase and row, after some iterations, array 7 of its hearth still loading. -/
def programming (kind phase row iter : Nat) : State :=
  let x := { steepArray5 phase with row := row, iter := iter }
  { clocked with steep := some (loadJob kind true imageHead [x, { steepArray5 0 with array := 7 }]) }

/-- Hearth 0 is HOT, so that array 5 may start. -/
def startable (kind : Nat) : State := (programming kind 0 0 0).setOd 0x3000 1 0 3

def array5 : ArrayId := 5

/-- Hypotheses of ArraysAreProgrammedAndChecked. -/
theorem witness_ArraysAreProgrammedAndChecked :
    (clocked.steepArray array5.toNat = none) ∧
    (∀ p ∈ [0, 1, 2, 3, 4, 6], ((programming 2 p 0 0).steepArray array5.toNat).map (·.phase) = some p ∧ (programming 2 p 0 0).steep.isSome = true) ∧
    (∀ k ∈ [2, 3], (startable k).mayStart (loadJob k true imageHead [steepArray5 0, { steepArray5 0 with array := 7 }]) 5 = true ∧
      ((startable k).steepArray array5.toNat).map (·.phase) = some 0) ∧
    ((programming 2 0 0 0).mayStart (loadJob 2 true imageHead [steepArray5 0, { steepArray5 0 with array := 7 }]) 5 = false) ∧
    (∀ r ∈ [0, 1022, 1023], ∀ i ∈ [0, 22, 23], ((programming 2 1 r i).steepArray array5.toNat).map (fun x => (x.row, x.iter)) = some (r, i)) ∧
    ((∃ c ∈ ((([(5 : BitVec 10), 528]).map (·.toNat)).filter (· < 531)).eraseDups, c ≠ 528) ∧ (∀ c ∈ ((([(528 : BitVec 10), 600]).map (·.toNat)).filter (· < 531)).eraseDups, c = 528)) ∧
    ((programming 2 5 0 0).steepArray 5).map (·.phase) = some 5 ∧ (∃ e ∈ { programming 2 5 0 0 with remapWaits := [(5, 3, 0)] }.remapWaits, e.1 = 5) ∧
    ((programming 2 4 0 0).remapWaits = [] ∧
      (∃ y ∈ [{ steepArray5 4 with row := 0 }, { steepArray5 0 with array := 7 }], y.array / 1024 = array5.toNat / 1024 ∧ y.array ≠ array5.toNat ∧ y.phase ≠ 5)) ∧
    ((∀ e ∈ clocked.remapWaits, e.1 ≠ 5) ∧ (∃ e ∈ { clocked with remapWaits := [(5, 3, 0)] }.remapWaits, e.1 = 5) ∧
      { clocked with remapWaits := [(5, 3, 0)] }.steepArray 5 = none) ∧
    (clocked.ready = false ∧ clocked.mainUp = true ∧ State.reset.mainUp = false ∧ ([] : List Byte).length ≠ 96) ∧
    (∀ v ∈ [0, 1, 2],
      let r := leBytes 4 5 ++ leBytes 1 v ++ List.replicate 87 0
      let b := r ++ leBytes 4 (crc32 r)
      b.length = 96 ∧ isSealed b = true ∧ leAt b 4 1 = v) := by decide +kernel

/-- Hypotheses of StepRunsFrontCommand. -/
theorem witness_StepRunsFrontCommand :
    ({ clocked with pending := [.bypass, .highz] }.pending = .bypass :: [.highz]) ∧ clocked.pending = [] := by decide





/-- Hypotheses of StepsKeepWhatStaysOnLegal: a part whose rails rise and whose next command is the third power-good. -/
theorem witness_StepsKeepWhatStaysOnLegal :
    (let s := { rising 7 3 with pending := [.powerGood 2] }
     s.toAlwaysOnPart.legal = true ∧ ∃ t, step s = .next t ∧ t.seq.enables = 15) :=
  ⟨by decide, _, rfl, by decide⟩

/-! ### Well-formed commands -/

/-- A request record of request 1 that is pending. -/
def mirror1 : ReqMirror :=
  { req := 1, port := .a, qp := 1, entry := entry1, stage := 1, arrival := 0, order := 0, ctx := 9, gen := 0, kvGen := 0, prompt := [], bias := [], history := [],
    rest := [], refill := 0, generating := false, m := 0, nodes := [], guesses := [], returned := 0, grammar := 0, level := 0, mode := 0, miss := 0, fallback := 0 }

theorem test_ill_formed_object_write_read : wellFormed (.objectWrite .hostA .read 0x2110 1 0 []) = false := by decide +kernel

theorem test_ill_formed_mailbox_past_buffer : wellFormed (.mailboxGo .a { index := 0x3400, sub := 0, op := .write, length := 65537, bulk := 0, tag := 0, data := List.replicate 65537 0 }) = false := by decide +kernel

theorem test_ill_formed_noa_past_total : wellFormed (.noaRequest { session := none, seq := 1, op := .write, more := false, index := 0x2110, sub := 1, offset := 0, length := 2, total := 1, data := [1, 2], fabric := false }) = false := by decide +kernel

theorem test_ill_formed_mgmt_past_total : wellFormed (.mgmt 1 { session := none, seq := 1, op := .write, more := false, index := 0x2110, sub := 1, offset := 0, length := 2, total := 1, data := [1, 2], fabric := false }) = false := by decide +kernel

theorem test_ill_formed_mgmt_frame_past_total : wellFormed (.mgmtFrame true { session := none, seq := 1, op := .write, more := false, index := 0x2110, sub := 1, offset := 0, length := 2, total := 1, data := [1, 2], fabric := false }) = false := by decide +kernel

theorem test_ill_formed_hearth_trimmed_twice : wellFormed (.calibrationMasterDone 0 0 [(3, 1), (3, 2)]) = false := by decide +kernel

theorem test_ill_formed_deck_in_gain_phase : wellFormed (.calibrationPhaseDone .gain [{ site := 0, conv := 67, lower := false, value := 0 }]) = false := by decide +kernel

theorem test_ill_formed_column_outside_twice : wellFormed (.programIteration 0 0 [5, 5]) = false := by decide +kernel

theorem test_ill_formed_final_column_twice : wellFormed (.finalVerifyDone 0 [5, 5]) = false := by decide +kernel

theorem test_ill_formed_record_short : wellFormed (.programRecordArrival 0 [0] true [] 0) = false := by decide +kernel

theorem test_ill_formed_parity_row_twice : wellFormed (.dmaStackWr 0 ⟨false, [(3, ⟨0, 0⟩), (3, ⟨1, 2⟩)]⟩) = false := by decide +kernel

theorem test_ill_formed_fabric_row_twice : wellFormed (.dmaFabric 0 ⟨true, [(3, ⟨0, 0⟩), (3, ⟨1, 2⟩)]⟩) = false := by decide +kernel

theorem test_ill_formed_word_upset_twice : wellFormed (.scrubPatrol 0 [⟨1, 2, .corrected, true, false⟩, ⟨1, 2, .clean, true, false⟩]) = false := by decide +kernel

theorem test_ill_formed_line_upset_twice : wellFormed (.stackScrub 0 ⟨.clean, [(7, .corrected), (7, .clean)]⟩) = false := by decide +kernel

theorem test_ill_formed_submit_stops : wellFormed (.submit .a 1 entry1) = false := by decide +kernel

theorem test_ill_formed_token_count : wellFormed (.token { src := 1, step := 1, ctx := 1, count := 2, words := [], m := 0, nodes := [], guesses := [], grammarEnd := false }) = false := by decide +kernel

theorem test_ill_formed_tree_count : wellFormed (.tree 1 1 { count := 2, levels := 1, source := 0, template := 0, nodes := [] }) = false := by decide +kernel

/-- An IDLE that acknowledges frame 0 and returns credit of class STEP (R334, Table 14-3). -/
theorem test_idle_hands_back :
    (match exec (.idle ⟨1, ⟨0, 1, 3⟩⟩) (sentTwo false) with
     | .next s => ((s.port 1).retry.map (·.seq), (s.port 1).credit.getD 1 0)
     | _ => ([], 0)) = ([1], ((sentTwo false).port 1).credit.getD 1 0 + 3) := by decide +kernel

theorem test_ill_formed_data_not_octets : wellFormed (.data 0 1 hdr8 none [1] { back := ⟨0, 0, 0⟩, parity := false, crc := false, corrected := 0, uncorrectable := false, ip := false }) = false := by decide +kernel

theorem test_ill_formed_tier_action : wellFormed (.tier 1 6) = false := by decide +kernel

theorem test_ill_formed_kv_slot_short : wellFormed (.kvEntry 0 header7 [{ slot := 1, k := [], v := [], poison := false }]) = false := by decide +kernel

theorem test_ill_formed_kv_path : wellFormed (.kvCommit 1 0 0 0 2 [1]) = false := by decide +kernel

theorem test_ill_formed_context_tier : wellFormed (.context 1 { tenant := 0, kvGen := 0, committed := 0, tier := 4, lists := [] }) = false := by decide +kernel

theorem test_ill_formed_request_stage : wellFormed (.request { mirror1 with stage := 3 }) = false := by decide +kernel

theorem test_ill_formed_copy_tier : wellFormed (.copy (.context 1 { tenant := 0, kvGen := 0, committed := 0, tier := 4, lists := [] } 0 [])) = false := by decide +kernel

theorem test_ill_formed_shadow_path : wellFormed (.shadowIn 1 { stepHdr3 with m := 1 } 0 []) = false := by decide +kernel

theorem test_ill_formed_heartbeat_role : wellFormed (.mirrorHeartbeat 1 1 4 0) = false := by decide +kernel

theorem test_ill_formed_pcie_width : wellFormed (.pcieLinkUp .a 5 3 false) = false := by decide +kernel

theorem test_ill_formed_bar2_read_nothing : wellFormed (.bar2Read .a 0 0) = false := by decide +kernel

theorem test_ill_formed_bar2_write_nothing : wellFormed (.bar2Write .a 0 []) = false := by decide +kernel

theorem test_ill_formed_obj_write_read : wellFormed (.objWrite 0 0x2110 1 .read 0 []) = false := by decide +kernel

theorem test_ill_formed_obj_result_long : wellFormed (.objResult 0 0 (List.replicate 1025 0)) = false := by decide +kernel

theorem test_ill_formed_event_short : wellFormed (.event []) = false := by decide +kernel

theorem test_ill_formed_cal_image_long : wellFormed (.calImage true 0 (List.replicate 4097 0)) = false := by decide +kernel

theorem test_ill_formed_blob_past_total : wellFormed (.blobSegment true 0x3401 0 1 1 [7]) = false := by decide +kernel

theorem test_ill_formed_key_op_short : wellFormed (.keyOp [] 1 1 []) = false := by decide +kernel

theorem test_ill_formed_boot_image_long : wellFormed (.bootImage 0 (List.replicate 4097 0) false) = false := by decide +kernel

theorem test_ill_formed_challenge_nonce : wellFormed (.challenge 0 0 []) = false := by decide +kernel

theorem test_ill_formed_measurements_nonce : wellFormed (.getMeasurements 0 1 false []) = false := by decide +kernel

theorem test_ill_formed_injected_codes : wellFormed (.injectedSample []) = false := by decide +kernel

theorem test_ill_formed_host_read_long : wellFormed (.hostReadCompletion .a 0 (List.replicate 4097 0) true) = false := by decide +kernel

theorem test_ill_formed_side_band_mode : wellFormed (.sideBandLinkChange 3) = false := by decide +kernel

theorem test_ill_formed_icmp_long : wellFormed (.icmpv6Request true 0 (List.replicate 1233 0)) = false := by decide +kernel

theorem test_well_formed_samples : ([Instr.tier 1 5, .submit .a 1 { entry1 with stops := [0, 0, 0, 0] }, .event (List.replicate 32 0), .droopTrigger, .challenge 0 0 (List.replicate 32 0)].all wellFormed) = true := by decide +kernel

/-! Worked examples of the spec, and hand computations from its tables. -/

/-- The F16 values of Table 02-9. -/
def block9 : List VCell :=
  ([9, -23, 51, 2, -6, 37, -58, 14, 0, 26, -11, 44, -32, 7, 69, -3] : List Int).map fun n => cell (f16OfRat (decide (n < 0)) n 10) false

/-- 02, Table 02-9: the B4 column, with E = 0x7F. -/
theorem test_narrow_b4_example : narrowBlock 7 1 block9 = (0x7F, [1, -2, 5, 0, -1, 4, -6, 1, 0, 3, -1, 4, -3, 1, 7, 0]) := by decide +kernel

/-- 02, worked example: the smallest A4S scale that fits 12 is 1.625, word 0x057F. -/
theorem test_a4s_scale_example : fitA4s false 12 1 = 0x057F := by decide +kernel

/-- 02, worked example: 0.061732 is 0x7AFA as an S16 value. -/
theorem test_s16_example : s16OfRat 61732 1000000 = 0x7AFA := by decide +kernel

/-- 02, worked example: 23 × 0.0617676 × 1.625 rounds to F16 2.30859375. -/
theorem test_column_value_example : columnValue [(some 23, 0x057F)] 0x7AFA 0 = f16OfRat false 230859375 100000000 := by decide +kernel

/-- 04, worked example: v = 484 gives 29.8955, F16 29.890625; SAT gives v = 508, 31.3779, F16 31.375. -/
theorem test_column_value_sat_example :
    columnValue [(some 484, 0x007F)] 0x7AFA 0 = f16OfRat false 29890625 1000000 ∧
    columnValue [(some 508, 0x007F)] 0x7AFA 0 = f16OfRat false 31375 1000 := by decide +kernel

/-- 15, Table 15-8: hearths HOT by 4,915 and a scheduled tick of 4,548 give k = 8. -/
theorem test_replay_count_example : replayCount 4548 0 4915 = 8 := by decide +kernel

/-- 14, worked example: a chunk of 264,272 bytes needs 517 granules. -/
theorem test_granules_example : (ceilDiv 264272 512 == 517 && (on.findGranules 2 2 517).isSome) = true := by decide +kernel

/-- 11, example of R285: 2,256 pages as K3/V3 take 2,256 × 6,208 bytes of slots. -/
theorem test_slot_size_example : (on.setOd 0x5402 3 0 1).slotSize = 6208 := by decide +kernel

/-- 12, worked example: the LP code of a logit 0.5 below the largest is 12. -/
theorem test_logprob_example :
    logProb { temperature := 0, topK := 3, topP := 0, bias := [], slot := 255, gram := 0, seed := 0, seq := 0, logprob := true, mode := 0 }
      (12 * 2 ^ 149) (23 * 2 ^ 148) = 12 := by decide +kernel

/-- The part of Table 18-9: host A controls it, its island is LOST, and it holds the only live copy of its shard. -/
def part22 : State := { launching 0 3 with islandLost := true }

/-- 18, Table 18-9: the first three writes and the fourth. -/
theorem test_result_words_example :
    (part22.judge ⟨.hostB, .write, 0x2801, 0, 0, 1, [0x20], 1⟩ 1, part22.judge ⟨.hostA, .write, 0x2801, 0, 0, 4, [0x20, 0, 0, 0], 4⟩ 1,
     part22.judge ⟨.hostA, .write, 0x2801, 0, 0, 1, [0x20], 1⟩ 1, part22.judge ⟨.hostA, .write, 0x3009, 3, 0, 1, [1], 1⟩ 1) =
    (0x0001, 0x0003, 0x0305, 0x0001) := by decide +kernel

/-- 18, Table 18-9: taking the only live copy out of service answers 0x0105. -/
theorem test_only_copy_example : onlyCopy = 0x0105 := by decide +kernel

/-- 19, Table 19-9: caps 512, 256, 128 and 64 at levels 0 to 3. -/
theorem test_damper_caps_example : [0, 1, 2, 3].map damperCap = [512, 256, 128, 64] := by decide +kernel

/-- A step on an empty queue is one tick of 10 ns (log 2), and changes no register. -/
theorem test_idle_tick : (match step on with
    | .next t => t.elapsed == on.elapsed + 10 && t.dict == on.dict
    | _ => false) = true := by decide +kernel

/-- A step takes the command at the front and leaves the rest. -/
theorem test_step_takes_front : (match step { on with pending := [.holdNStuck, .cadenceEdge] } with
    | .next t => t.holdStuck && t.pending == [.cadenceEdge]
    | _ => false) = true := by decide +kernel

end Sys2Proof.Tests
end

section

/-! ## Every command completes (O57, O59)

A command answers a next state with the same queue in it. The proof keeps `Legal` (Laws/AlwaysOn.lean), which also holds the legal states of what
stays on: most commands are composed of operations of Laws/Keeps.lean, and the lemmas before `exec_completes` are about those that change what stays
on, perform an access, or take several steps. -/

namespace Sys2Proof.Proofs

open Sys2Proof.Machine Sys2Proof.Laws

/-! ### Bits of a word -/

theorem bit_eq_testBit (n i : Nat) : bit n i = n.testBit i := by
  rw [Nat.testBit_eq_decide_div_mod_eq]
  rfl

theorem add_two_pow_eq_or {n i : Nat} (h : n.testBit i = false) : n + 2 ^ i = n ||| 2 ^ i := by
  have low : n % 2 ^ (i + 1) = n % 2 ^ i := by
    simp only [Nat.testBit_eq_decide_div_mod_eq, decide_eq_false_iff_not, Nat.mod_two_ne_one] at h
    simp [Nat.mod_pow_succ, h]
  have lt : n % 2 ^ i < 2 ^ i := Nat.mod_lt _ (Nat.two_pow_pos i)
  have split : n = 2 ^ (i + 1) * (n / 2 ^ (i + 1)) + n % 2 ^ i := by rw [← low, Nat.div_add_mod]
  have hi := Nat.two_pow_add_eq_or_of_lt (Nat.lt_trans lt (Nat.pow_lt_pow_succ one_lt_two)) (n / 2 ^ (i + 1))
  have mid := Nat.two_pow_add_eq_or_of_lt (i := i + 1) (b := 2 ^ i + n % 2 ^ i) (by omega) (n / 2 ^ (i + 1))
  have bot := Nat.two_pow_add_eq_or_of_lt lt 1
  rw [Nat.mul_one] at bot
  calc n + 2 ^ i = 2 ^ (i + 1) * (n / 2 ^ (i + 1)) + (2 ^ i + n % 2 ^ i) := by omega
    _ = 2 ^ (i + 1) * (n / 2 ^ (i + 1)) ||| n % 2 ^ i ||| 2 ^ i := by rw [mid, bot, Nat.or_comm (2 ^ i), Nat.or_assoc]
    _ = n ||| 2 ^ i := by rw [← hi, ← split]

theorem testBit_setBit (n i j : Nat) (v : Bool) : (setBit n i v).testBit j = if i = j then v else n.testBit j := by
  unfold setBit
  rw [bit_eq_testBit]
  cases hb : n.testBit i <;> cases v
  · grind
  · rcases eq_or_ne i j with rfl | e <;> simp [add_two_pow_eq_or hb, *]
  · obtain ⟨m, rfl⟩ := Nat.exists_eq_add_of_le' (Nat.ge_two_pow_of_testBit hb)
    have hm : m.testBit i = false := by simpa [Nat.add_comm m, Nat.testBit_two_pow_add_eq] using hb
    have ho := congrArg (·.testBit j) (add_two_pow_eq_or hm)
    by_cases e : i = j
    · subst e; simpa using hm
    · simpa [Nat.testBit_two_pow, e] using ho.symm
  · grind

theorem setBit_bit (n i : Nat) : setBit n i (bit n i) = n := by
  unfold setBit
  split <;> simp [*]

theorem land_eq_left_iff {g e : Nat} : Nat.land g e = g ↔ ∀ j, g.testBit j = true → e.testBit j = true := by
  constructor
  · intro h j hj
    rw [← h] at hj
    exact (by simpa using hj : g.testBit j = true ∧ e.testBit j = true).2
  · intro h
    refine Nat.eq_of_testBit_eq fun j => ?_
    have := h j
    show (g &&& e).testBit j = _
    rw [Nat.testBit_and]
    cases hg : g.testBit j <;> simp_all

theorem land_setBit_setBit {g e : Nat} (k : Nat) {v w : Bool} (h : Nat.land g e = g) (hvw : v = true → w = true) :
    Nat.land (setBit g k v) (setBit e k w) = setBit g k v := by
  rw [land_eq_left_iff] at h ⊢
  intro j
  rw [testBit_setBit, testBit_setBit]
  split
  · exact hvw
  · exact h j

theorem land_setBit_goods {g e k : Nat} (h : Nat.land g e = g) (hb : bit e k = true) : Nat.land (setBit g k true) e = setBit g k true := by
  simpa [← hb, setBit_bit] using land_setBit_setBit k (v := true) (w := true) h id

theorem land_setBit_enables {g e : Nat} (k : Nat) (h : Nat.land g e = g) : Nat.land g (setBit e k true) = g := by
  simpa [setBit_bit] using land_setBit_setBit k (v := bit g k) (w := true) h fun _ => rfl

theorem land_clearBit_goods {g e : Nat} (k : Nat) (h : Nat.land g e = g) : Nat.land (setBit g k false) e = setBit g k false := by
  simpa [setBit_bit] using land_setBit_setBit k (v := false) (w := bit e k) h nofun

/-! ### The sequencer (22 R510, R511) -/

/-- The rails of a sequencer stand in order: the enables are the first ones, and no power-good is without its enable (22 R510, R511). -/
def InOrder (q : Sequencer) : Prop := Sequencer.ladder.contains q.enables = true ∧ Nat.land q.goods q.enables = q.goods

theorem inOrder_of_legal {s : State} (h : s.toAlwaysOnPart.legal = true) : InOrder s.seq := legal_enables h

theorem inOrder_fresh : InOrder Sequencer.fresh := ⟨rfl, rfl⟩

theorem ladder_next {e k : Nat} (h : Sequencer.ladder.contains e = true) (hk : k < 5) (hb : bit e k = true) :
    Sequencer.ladder.contains (setBit e (k + 1) true) = true :=
  (by decide : ∀ e ∈ Sequencer.ladder, ∀ k < 5, bit e k = true → Sequencer.ladder.contains (setBit e (k + 1) true) = true)
    e (List.contains_iff_mem.mp h) k hk hb

theorem ladder_withoutTop {e k : Nat} (h : Sequencer.ladder.contains e = true) (hk : topEnable e = some k) :
    Sequencer.ladder.contains (setBit e k false) = true :=
  (by decide : ∀ e ∈ Sequencer.ladder, ∀ k ∈ topEnable e, Sequencer.ladder.contains (setBit e k false) = true)
    e (List.contains_iff_mem.mp h) k hk

/-- The sequencer after a rail has fallen. -/
def railFallen (k now : Nat) (q : Sequencer) : Sequencer :=
  { q with enables := setBit q.enables k false, goods := setBit q.goods k false, stepAt := now }

theorem inOrder_railFallen {q : Sequencer} {k : Nat} (now : Nat) (hk : topEnable q.enables = some k) (h : InOrder q) : InOrder (railFallen k now q) :=
  ⟨ladder_withoutTop h.1 hk, land_setBit_setBit k h.2 nofun⟩

/-- What an operation that keeps the part that stays on does with another sequencer. -/
theorem legal_withSeq {s t : State} (h : t.pending = s.pending ∧ t.toAlwaysOnPart = s.toAlwaysOnPart) (q : Sequencer) (hq : InOrder s.seq → InOrder q) :
    Legal s { t with seq := q } := by
  refine ⟨h.1, fun l => ?_⟩
  obtain ⟨he, hg⟩ := hq (inOrder_of_legal l)
  exact legal_seq q (h.2 ▸ l) he hg

theorem powerGood_completes (n : BitVec 3) (s : State) : Completes (.powerGood n) s (Legal s) := by
  refine ⟨_, rfl, ?_⟩
  dsimp only
  split
  · exact .refl s
  next h =>
    have hb : bit s.seq.enables n.toNat = true := by simp_all
    split
    next h5 => exact legal_withSeq ⟨rfl, rfl⟩ _ fun ⟨he, hg⟩ => ⟨he, land_setBit_goods hg hb⟩
    next h5 =>
      have hk : n.toNat < 5 := by simp at h; omega
      exact legal_withSeq ⟨rfl, rfl⟩ _ fun ⟨he, hg⟩ => ⟨ladder_next he hk hb, land_setBit_enables _ (land_setBit_goods hg hb)⟩

theorem powerGoodTimeout_completes (n : BitVec 3) (s : State) : Completes (.powerGoodTimeout n) s (Legal s) := by
  refine ⟨_, rfl, legal_ite _ (.refl s) (Legal.trans ?_ (startPowerDown_legal ..))⟩
  exact legal_withSeq (State_railAlarm_keeps _ s) _ id

theorem powerGoodLost_completes (n : BitVec 3) (s : State) : Completes (.powerGoodLost n) s (Legal s) := by
  refine ⟨_, rfl, legal_ite _ (.refl s) (Legal.trans ?_ (startPowerDown_legal ..))⟩
  refine (Legal.of_keeps (t := (s.railAlarm n.toNat).sendOff true) (by simp)).trans ?_
  exact legal_withSeq ⟨rfl, rfl⟩ _ fun ⟨he, hg⟩ => ⟨he, land_clearBit_goods _ hg⟩

theorem powerDownStep_completes (s : State) : Completes .powerDownStep s (Legal s) := by
  refine ⟨_, rfl, ?_⟩
  split
  next k _ hk =>
    have falls : Legal s { s with seq := railFallen k s.elapsed s.seq } := legal_withSeq ⟨rfl, rfl⟩ _ (inOrder_railFallen _ hk)
    exact legal_ite _ (falls.trans (legal_withSeq (State_mainSideReset_keeps ..) _ id)) (falls.trans (.of_keeps (State_emit_keeps ..)))
  · exact legal_withSeq (State_mainSideReset_keeps ..) _ id
  · exact .refl s

theorem mainSideResetReleased_completes (s : State) : Completes .mainSideResetReleased s (Legal s) := by
  refine ⟨_, rfl, legal_ite _ (.refl s) (Legal.trans ?_ (.of_keeps (State_setOd_keeps ..)))⟩
  exact legal_withSeq (t := { s with refSince := s.elapsed }) ⟨rfl, rfl⟩ _ id

/-! ### Island and test port (21 R494; 22 R519) -/

theorem legal_withTrial {s t : State} {n : Nat} (hn : n ≤ 2) (h : Legal s t) : Legal s { t with trial := n } := by
  refine h.trans ⟨rfl, fun l => ?_⟩
  obtain ⟨h1, _, h3, h4⟩ := legal_bounds l
  exact legal_numbers _ n _ _ l h1 hn h3 h4

theorem trialCommit_completes (s : State) : Completes .trialCommit s (Legal s) := by
  have ends : Legal s { s with trial := 0 } := legal_withTrial (by omega) (.refl s)
  exact ⟨_, rfl, legal_ite _ (.refl s) (ends.trans (.of_keeps (by simp)))⟩

theorem islandBoot_completes (s : State) : Completes .islandBoot s (Legal s) := by
  have trialRuns : Legal s { s.runIsland (1 - s.activeSlot) with trial := 2 } := legal_withTrial (by omega) (runIsland_legal (by omega) s)
  have trialFails : Legal s ({ s.setSlotState (1 - s.activeSlot) 3 with trial := 0 }.islandRecord false).romBoot :=
    (legal_withTrial (by omega) (.of_keeps (State_setSlotState_keeps ..))).trans
      ((Legal.of_keeps (State_islandRecord_keeps ..)).trans (romBoot_legal _))
  have goesOn (t : State) (before : Nat) (c : Bool) : Legal t (if !t.islandUp then (if t.mainState = 0 then t else t.powerOff true)
      else if t.mainState = 0 then (if t.seq.again && t.seq.enables == 0 then t.startSequence else t)
      else if t.runSlot ≠ before || c then t.sendReset else t) :=
    legal_ite _ (legal_ite _ (.refl t) (powerOff_legal true t)) (legal_ite _ (legal_ite _ (startSequence_legal t) (.refl t))
      (legal_ite _ (.of_keeps (State_sendReset_keeps t)) (.refl t)))
  exact ⟨_, rfl, legal_ite _ (.refl s) ((legal_ite _ trialRuns (legal_ite _ trialFails (romBoot_legal s))).trans (goesOn ..))⟩

theorem visoBrownOut_completes (below2V : Bool) (s : State) : Completes (.visoBrownOut below2V) s (Legal s) := by
  have stops : Legal s { s with trial := if s.trial = 2 then 1 else s.trial } := by
    refine ⟨rfl, fun l => ?_⟩
    obtain ⟨h1, h2, h3, h4⟩ := legal_bounds l
    exact legal_numbers _ _ _ _ l h1 (by split <;> omega) h3 h4
  have emits (t : State) (l : List Nat) : (l.foldl (fun t k => if bit t.seq.enables k then t.emit (.rail k false) else t) t).pending = t.pending ∧
      (l.foldl (fun t k => if bit t.seq.enables k then t.emit (.rail k false) else t) t).toAlwaysOnPart = t.toAlwaysOnPart := by simp
  refine ⟨_, rfl, (stops.trans (islandReset_legal _)).trans (legal_ite _ (.refl _) ((Legal.of_keeps (emits _ [5, 4, 3, 2, 1, 0])).trans ?_))⟩
  exact legal_withSeq (State_mainSideReset_keeps ..) _ fun _ => inOrder_fresh

theorem tapReset_completes (s : State) : Completes .tapReset s (Legal s) := by
  refine ⟨_, rfl, rfl, fun l => ?_⟩
  obtain ⟨h1, h2, h3, _⟩ := legal_bounds l
  exact legal_numbers _ _ _ 1 l h1 h2 h3 (by omega)

theorem heartbeat_completes (toMain : Bool) (seq : BitVec 16) (st : Byte) (hottest : BitVec 16) (rackTime : BitVec 64) (s : State) :
    Completes (.heartbeat toMain seq st hottest rackTime) s (Legal s) := by
  refine ⟨_, rfl, legal_ite _ (legal_ite _ (.refl s) (Legal.trans (.of_keeps ?_) (mainTakes_legal ..)))
    (legal_ite _ (.refl s) (Legal.trans (.of_keeps ?_) (islandTakes_legal ..)))⟩ <;> simp

theorem heartbeatTimer_completes (toMain : Bool) (t140 t141 : BitVec 16) (s : State) :
    Completes (.heartbeatTimer toMain t140 t141) s (Legal s) := by
  refine ⟨_, rfl, legal_ite _ (legal_ite _ (.refl s) ?_) (.of_keeps (by simp))⟩
  exact (Legal.of_keeps (by simp)).trans ((islandTrip_legal ..).trans (islandTrip_legal ..))

/-! ### Accesses -/

theorem access_legal (rq : Requester) (op : AccessOp) (i x : Nat) (d : List Byte) {f : State → Nat × State} (s : State) (h : Legal s (f s).2) :
    Legal s (s.access rq op i x d f) := by
  have answers (t : State) (c : Nat) : Legal t (t.answer rq c) := .of_keeps (State_answer_keeps rq c t)
  refine legal_ite _ (answers s _) (legal_ite _ (h.trans (answers _ _)) (h.trans ?_))
  exact (legal_ite _ (.of_keeps (State_noteCommand_keeps ..)) (.refl _)).trans (answers _ _)

@[simp] theorem State_offCatalogue_keeps : ∀ s, (State.offCatalogue s).pending = s.pending ∧ (State.offCatalogue s).toAlwaysOnPart = s.toAlwaysOnPart := by
  intro s
  simp [State.offCatalogue]

theorem mailboxGo_completes (p : HostPort) (m : MailboxReq) (s : State) : Completes (.mailboxGo p m) s (Legal s) :=
  ⟨_, rfl, legal_ite _ (.refl s) (((perform_legal _ s).trans (.of_keeps (State_answer_keeps ..))).trans (.of_keeps (State_showMailbox_keeps ..)))⟩

/-- The main side performs an access that comes over the barrier. -/
theorem arrived_perform_legal (q : Req) (s : State) : Legal s ((s.arrived true false).perform q).2 :=
  (Legal.of_keeps (State_arrived_keeps true false s)).trans (perform_legal q _)

theorem objRead_completes (corr : BitVec 32) (idx : BitVec 16) (sub : Byte) (offset len : BitVec 32) (s : State) :
    Completes (.objRead corr idx sub offset len) s (Legal s) := by
  refine ⟨_, rfl, legal_ite _ (.refl s) ?_⟩
  dsimp only
  generalize hp : (s.arrived true false).perform _ = p
  have performs : Legal s p.2 := hp ▸ arrived_perform_legal _ s
  refine performs.trans (legal_ite _ (legal_ite _ ?_ ?_) ?_)
  · exact .of_keeps (State_sendToIsland_keeps ..)
  · exact .of_keeps (State_sendToIsland_keeps ..)
  · exact .of_keeps (State_sendResult_keeps ..)

theorem objWrite_completes (corr : BitVec 32) (idx : BitVec 16) (sub : Byte) (op : AccessOp) (offset : BitVec 32) (data : List Byte) (s : State) :
    Completes (.objWrite corr idx sub op offset data) s (Legal s) :=
  ⟨_, rfl, legal_ite _ (.refl s) (legal_ite _ (.of_keeps (State_offCatalogue_keeps s))
    ((arrived_perform_legal _ s).trans (.of_keeps (State_sendResult_keeps ..))))⟩

/-- An image that comes over the barrier in parts is kept while it is short, and then answers what waits for it. -/
theorem gathers_legal {s t u : State} (c : Prop) [Decidable c] (ht : t.pending = s.pending ∧ t.toAlwaysOnPart = s.toAlwaysOnPart)
    (hu : u.pending = s.pending ∧ u.toAlwaysOnPart = s.toAlwaysOnPart) (i k : Nat) (b : List Byte) : Legal s (if c then t else u.blobArrived i k b) :=
  legal_ite c (.of_keeps ht) ((Legal.of_keeps hu).trans (blobArrived_legal i k b u))

theorem mgmtFrame_completes (toMain : Bool) (m : NoaMsg) (s : State) : Completes (.mgmtFrame toMain m) s (Legal s) := by
  refine ⟨_, rfl, legal_ite _ (.refl s) (legal_ite _ (.of_keeps (State_offCatalogue_keeps s)) (legal_ite _ ?_ ?_))⟩
  · exact (Legal.of_keeps (State_arrived_keeps false false s)).trans (noaTakes_legal ..)
  · dsimp only
    split
    · exact .of_keeps (State_arrived_keeps true false s)
    · exact .of_keeps (by simp)

/-! ### Commands that keep what stays on, in several steps -/

/-- What a word finds when it goes by the result of its issue (08 R191 to R193). -/
theorem begin_legal {w : IssueAt} {low opcode : Nat} {s t : State} {x : Option Nat} (h : s.begin w low opcode = (x, t)) : Legal s t :=
  .of_keeps (by simpa [h] using State_begin_keeps w low opcode s)

theorem converterSettleFail_completes (site : SiteId) (conv : BitVec 7) (slot : BitVec 3) (s : State) :
    Completes (.converterSettleFail site conv slot) s (Legal s) := by
  refine ⟨_, rfl, ?_⟩
  extract_lets n h x key
  split
  · extract_lets lower g' t u log again v
    have raises : Legal s u := .of_keeps (by simp [u, t])
    have notes : Legal s v := raises.trans ⟨rfl, id⟩
    exact legal_ite _ (notes.trans ⟨rfl, id⟩) notes
  · exact .refl s

theorem tokenSelection_completes (step : BitVec 64) (logits heads : List (List Logit)) (upset : Option Upset) (s : State) :
    Completes (.tokenSelection step logits heads upset) s (Legal s) := by
  refine ⟨_, rfl, legal_ite _ (.refl s) ?_⟩
  split
  · refine legal_ite _ ?_ (legal_ite _ ?_ (legal_ite _ ?_ ?_))
    · exact .of_keeps (State_stokerFault_keeps ..)
    · exact .of_keeps (State_tokenFailure_keeps ..)
    · exact .of_keeps (State_tokenFailure_keeps ..)
    · exact .of_keeps (by simp)
  · exact .refl s

theorem context_completes (ctx : BitVec 32) (c : ContextEdit) (s : State) : Completes (.context ctx c) s (Legal s) := by
  refine ⟨_, rfl, legal_ite _ ?_ (.of_keeps (by simp))⟩
  split
  next t x _ _ =>
    have reads : Legal s (if x.tier = .hot ∨ x.tier = .warm then s.readCtx x else s) := .of_keeps (by simp)
    dsimp only
    split
    · exact reads.trans (.of_keeps (by simp))
    · exact reads
  · exact .of_keeps (by simp)
  · exact .refl s

theorem copy_completes (c : CopyRec) (s : State) : Completes (.copy c) s (Legal s) := by
  refine ⟨_, rfl, .of_keeps ?_⟩
  cases c <;> simp

theorem finish_completes (conn : BitVec 2) (verifies : Bool) (s : State) : Completes (.finish conn verifies) s (Legal s) := by
  refine ⟨_, rfl, .of_keeps (State_spdmAt_keeps _ _ _ _ fun t => ?_)⟩
  split <;> simp

theorem injectedSample_completes (codes : List (BitVec 12 × Bool)) (s : State) : Completes (.injectedSample codes) s (Legal s) := by
  refine ⟨_, rfl, ?_⟩
  split
  · exact .refl s
  · refine legal_ite _ (.refl s) (.of_keeps ⟨?_, ?_⟩)
    · exact foldl_pending _ _ _ fun t e => by split <;> simp
    · exact foldl_toAlwaysOnPart _ _ _ fun t e => by split <;> simp

theorem admission_completes (req : BitVec 32) (s : State) : Completes (.admission req) s (Legal s) := by
  have ends (outcome : Nat) : Legal s (s.finish req.toNat outcome [] 0 s.now) := .of_keeps (State_finish_keeps ..)
  refine ⟨_, rfl, ?_⟩
  dsimp only
  split
  · exact .refl s
  · exact legal_ite _ (.refl s) (legal_ite _ (ends 8) (legal_ite _ (ends 3) (legal_ite _ (legal_ite _ (ends 6) (.refl s))
      (legal_ite _ (.refl s) (legal_ite _ (ends 10) (.of_keeps (State_admitReq_keeps ..)))))))

theorem waiRelease_completes (h : HearthId) (s : State) : Completes (.waiRelease h) s (Legal s) := by
  refine ⟨_, rfl, ?_⟩
  dsimp only
  split
  · split
    · exact .of_keeps (by simp)
    · exact legal_ite _ (.of_keeps (by simp)) (legal_ite _ (.of_keeps (by simp)) (.of_keeps (by simp)))
  · exact .refl s

theorem damperHoldRelease_completes (h : HearthId) (s : State) : Completes (.damperHoldRelease h) s (Legal s) := by
  refine ⟨_, rfl, ?_⟩
  dsimp only
  split
  · exact .refl s
  · exact legal_ite _ (.refl s) (.of_keeps (by simp))

theorem flueMerge_completes (router : HearthId) (tag : BitVec 16) (unit : BitVec 6) (flit : BitVec 4) (upset : Option Upset) (s : State) :
    Completes (.flueMerge router tag unit flit upset) s (Legal s) := by
  refine ⟨_, rfl, ?_⟩
  dsimp only
  split
  · exact .refl s
  · exact legal_ite _ (.refl s) (legal_ite _ (.of_keeps (State_bump_keeps ..)) (legal_ite _ (.of_keeps (by simp)) (.of_keeps (by simp))))

theorem flueUnitComplete_completes (h : HearthId) (tag : BitVec 16) (unit : BitVec 6) (cc : Nat) (s : State) :
    Completes (.flueUnitComplete h tag unit cc) s (Legal s) := by
  have advances : Legal s (s.advance h.toNat cc) := .of_keeps (State_advance_keeps ..)
  refine ⟨_, rfl, advances.trans ?_⟩
  dsimp only
  split
  · split
    · exact .refl _
    · exact legal_ite _ (.refl _) (.of_keeps (by simp))
  · exact .refl _

theorem attentionComplete_completes (die : BitVec 1) (gang : BitVec 2) (latencyNs : BitVec 32) (cc : Nat) (s : State) :
    Completes (.attentionComplete die gang latencyNs cc) s (Legal s) := by
  refine ⟨_, rfl, ?_⟩
  split
  · exact .refl s
  · exact legal_ite _ (.of_keeps (by simp)) (.of_keeps (by simp))

theorem entryTest_completes (entry : BitVec 16) (s : State) : Completes (.entryTest entry) s (Legal s) := by
  refine ⟨_, rfl, ?_⟩
  dsimp only
  (repeat' split) <;> exact .of_keeps (by simp)

/-! ### Every command -/

/-- A command answers a next state with the same queue, in which what stays on is legal where it was. -/
theorem exec_completes (c : Instr) (s : State) : Completes c s (Legal s) := by
  cases c with
  -- the power sequence (22 R510 to R513)
  | powerGood => exact powerGood_completes ..
  | powerGoodTimeout => exact powerGoodTimeout_completes ..
  | powerGoodLost => exact powerGoodLost_completes ..
  | powerUpRetry => exact ⟨_, rfl, legal_ite _ (startSequence_legal s) (.refl s)⟩
  | powerDownStep => exact powerDownStep_completes ..
  | mainSideResetReleased => exact mainSideResetReleased_completes ..
  | visoPowerOn => exact ⟨_, rfl, legal_ite _ (.refl s) (legal_withSeq (State_mainSideReset_keeps ..) _ fun _ => inOrder_fresh)⟩
  | powerOn => exact ⟨_, rfl, access_legal _ _ _ _ _ s (applyPowerOn_legal s)⟩
  | forcedPowerOff => exact ⟨_, rfl, access_legal _ _ _ _ _ s (applyForcedOff_legal s)⟩
  | orderlyOffDrained => exact ⟨_, rfl, legal_ite _ (.refl s) (powerOff_legal false s)⟩
  | tempTrip => exact ⟨_, rfl, legal_ite _ (.refl s) (powerOff_legal true s)⟩
  -- island, firmware trial and heartbeats (21 R494; 17)
  | islandReset => exact ⟨_, rfl, access_legal _ _ _ _ _ s (islandReset_legal s)⟩
  | islandWatchdog => exact ⟨_, rfl, legal_ite _ (.refl s) (legal_ite _ (failTrial_legal s) (islandReset_legal s))⟩
  | islandBoot => exact islandBoot_completes ..
  | visoBrownOut => exact visoBrownOut_completes ..
  | firmwareActivate => exact ⟨_, rfl, access_legal _ _ _ _ _ s (applyActivate_legal s)⟩
  | trialCommit => exact trialCommit_completes ..
  | trialFail => exact ⟨_, rfl, legal_ite _ (failTrial_legal s) (.refl s)⟩
  | heartbeat => exact heartbeat_completes ..
  | heartbeatTimer => exact heartbeatTimer_completes ..
  -- the test port (22 R519)
  | bypass | idcode | samplePreload | extest | extestPulse | extestTrain | clamp | highz => exact ⟨_, rfl, tapLoads_legal (by omega) s⟩
  | tapReset => exact tapReset_completes ..
  -- accesses that may reach any object (18)
  | objectWrite => exact ⟨_, rfl, (perform_legal _ s).trans (.of_keeps (State_answer_keeps ..))⟩
  | mailboxGo => exact mailboxGo_completes ..
  | noaRequest => exact ⟨_, rfl, legal_ite _ (noaTakes_legal _ s) (.refl s)⟩
  | objRead => exact objRead_completes ..
  | objWrite => exact objWrite_completes ..
  | calImage | blobSegment =>
    refine ⟨_, rfl, legal_ite _ (.refl s) (legal_ite _ (.of_keeps (State_offCatalogue_keeps s)) (legal_ite _ ?_ (.of_keeps (by simp))))⟩
    exact gathers_legal _ (by simp) (by simp) _ _ _
  | mgmtFrame => exact mgmtFrame_completes ..
  -- what stays on and the queue are kept, in several steps
  | hlt | wai | drvIssue =>
    refine ⟨_, rfl, ?_⟩
    split
    next hx => exact begin_legal hx
    next hx => exact (begin_legal hx).trans (.of_keeps (by simp))
  | vecBcast =>
    refine ⟨_, rfl, .of_keeps (State_issueVec_keeps _ _ _ _ _ _ fun t u => ?_)⟩
    simp only [State_result_keeps, State_spend_keeps, true_and]
  | converterSettleFail => exact converterSettleFail_completes ..
  | tokenSelection => exact tokenSelection_completes ..
  | context => exact context_completes ..
  | copy => exact copy_completes ..
  | finish => exact finish_completes ..
  | injectedSample => exact injectedSample_completes ..
  | damperHoldRelease => exact damperHoldRelease_completes ..
  | waiRelease => exact waiRelease_completes ..
  | flueMerge => exact flueMerge_completes ..
  | flueUnitComplete => exact flueUnitComplete_completes ..
  | attentionComplete => exact attentionComplete_completes ..
  | admission => exact admission_completes ..
  | entryTest => exact entryTest_completes ..
  -- a record or a condition is looked up, and what is done with it is composed of operations of Laws/Keeps.lean
  | housekeepingConversion | calibrationMasterDone | calibrationPhaseDone | calibrationGroupDone | steepSourceTimeout | kilnEnd
  | cadenceEdge | pendingDeadlineExpired | draft | tree | draftWaitExpired | missLimit | fallbackEnd | mode | repair
  | ack | nack | transferIncompleteTimeout | nobufRetry | deliveryTimeout | retryLimit | replayLimit | genFault | shadowIn | shadowRun
  | shadowOut | recoveryComplete | failureProbeTimeout | barrierAck | damperGraceEnd | sootRingWrite | hostReadCompletion
  | setPointSettleWait =>
    refine ⟨_, rfl, ?_⟩
    (repeat' split) <;> exact .of_keeps (by simp)
  -- the same, after values and states that are named first
  | accDelivery | steepSignatureVerify | steepArrayStart | programIteration | finalVerifyDone | arraySteepComplete
  | dmaComplete | waiTimeout | signalDepart | signalArrival | fenRelease | fenTimeout | freezeEnd | inboundWrite
  | attentionStart | tierMoveComplete | cancel | token | rebuildComplete | peerSession | act | abandon
  | genReport | tierReport | roleJoin | roleAssign | bar2Read | bar2Write | levelReadComplete | objResult | event =>
    refine ⟨_, rfl, ?_⟩
    dsimp only
    (repeat' split) <;> exact .of_keeps (by simp)
  -- all others: compositions of operations of Laws/Keeps.lean
  | _ => exact ⟨_, rfl, .of_keeps (by simp)⟩

/-- Settles O59, by the case split over the commands in `exec_completes`. -/
theorem everyCommandCompletesAndKeepsTheQueue : Obligations.EveryCommandCompletesAndKeepsTheQueue := by
  intro c s
  obtain ⟨t, ht, keeps, _⟩ := exec_completes c s
  exact ⟨t, ht, keeps⟩

/-! ### A step -/

theorem step_of_pending_cons {s : State} {c : Instr} {rest : List Instr} (h : s.pending = c :: rest) : step s = exec c { s with pending := rest } := by
  unfold step
  rw [h]

theorem step_of_pending_nil {s : State} (h : s.pending = []) : step s = .next s.passTick := by
  unfold step
  rw [h]

/-- Settles O57: the idle tick is `passTick`. -/
theorem stepRunsFrontCommand : Obligations.StepRunsFrontCommand := by
  intro s
  exact ⟨fun _ _ => step_of_pending_cons, fun h => ⟨s.passTick, step_of_pending_nil h, rfl, rfl⟩⟩

end Sys2Proof.Proofs
end

section

/-! ## Flue sums (O11)

A lane of a flue sum is the balanced residue of the exact sum modulo 2^32 (`Int.bmod`), so its laws are the library's. Two lanes wrap at most once, and
a wrap moves the residue modulo 7 by 4 (R47): the adder's check tells wrapping sums from the others. -/

namespace Sys2Proof.Proofs

open Sys2Proof.Machine

/-- A lane is the balanced residue of the library, whose lemmas then give the laws of wrapping sums. -/
theorem toSigned_ofSigned {w : Nat} (hw : 0 < w) (i : Int) : toSigned w (ofSigned w i) = i.bmod (2 ^ w) := by
  obtain ⟨k, rfl⟩ : ∃ k, w = k + 1 := ⟨w - 1, by omega⟩
  have pow : 2 ^ (k + 1) = 2 * 2 ^ k := pow_succ' 2 k
  have pos : (0 : Int) < (2 ^ (k + 1) : Nat) := by positivity
  have lo := Int.emod_nonneg i pos.ne'
  have hi := Int.emod_lt_of_pos i pos
  have pattern : ofSigned (k + 1) i % 2 ^ (k + 1) = ofSigned (k + 1) i := Nat.mod_eq_of_lt (by unfold ofSigned; omega)
  unfold toSigned
  rw [pattern, Int.bmod_def]
  simp only [ofSigned, Nat.add_sub_cancel]
  split <;> split <;> omega

/-! ### The residue modulo 7 -/

theorem natCast_residue (x : Int) : (residue x : Int) = x % 7 := Int.toNat_of_nonneg (Int.emod_nonneg x (by decide))

theorem residue_add (x y : Int) : residue (x + y) = (residue x + residue y) % 7 := by
  zify
  simp only [natCast_residue, Int.emod_add_emod, Int.add_emod_emod]

/-- 2^32 is 4 modulo 7. -/
theorem residue_add_two_pow (x : Int) : residue (x + 2 ^ 32) = (residue x + 4) % 7 := residue_add x (2 ^ 32)

/-! ### What an adder answers -/

theorem addLane_sum (a b : Int × Bool) : (addLane a b).1.1 = (a.1 + b.1).bmod (2 ^ 32) := by
  unfold addLane
  dsimp only
  split <;> exact toSigned_ofSigned (by decide) _

theorem addLane_of_residue_eq {a b : Int × Bool} (h : residue (a.1 + b.1) = residue (addLane a b).1.1) :
    (addLane a b).2 = none ∧ (addLane a b).1.2 = (a.2 || b.2) := by
  rw [residue_add, addLane_sum, ← toSigned_ofSigned (by decide)] at h
  simp only [addLane, if_pos h, and_self]

theorem addLane_of_residue_ne {a b : Int × Bool} (h : residue (a.1 + b.1) ≠ residue (addLane a b).1.1) :
    (addLane a b).2 = some ((residue a.1 + residue b.1) % 7, residue (addLane a b).1.1) ∧ (addLane a b).1.2 = true := by
  rw [residue_add, addLane_sum, ← toSigned_ofSigned (by decide)] at h
  simp only [addLane, if_neg h, and_self]

/-! ### Sums of lanes -/

theorem bmod_mem_lane (x : Int) : x.bmod (2 ^ 32) ∈ Set.Ico (-(2 ^ 31)) (2 ^ 31) :=
  ⟨Int.le_bmod (by decide), Int.bmod_lt (by decide)⟩

/-- A sum of two lanes that does not fit wraps once, upwards or downwards. -/
theorem eq_add_two_pow_of_wraps {a b : Int} (ha : a ∈ Set.Ico (-(2 ^ 31)) (2 ^ 31)) (hb : b ∈ Set.Ico (-(2 ^ 31)) (2 ^ 31))
    (wraps : (a + b).bmod (2 ^ 32) ≠ a + b) :
    a + b = (a + b).bmod (2 ^ 32) + 2 ^ 32 ∨ (a + b).bmod (2 ^ 32) = a + b + 2 ^ 32 := by
  obtain ⟨loA, hiA⟩ := ha
  obtain ⟨loB, hiB⟩ := hb
  obtain ⟨lo, hi⟩ := bmod_mem_lane (a + b)
  obtain ⟨k, hk⟩ : (2 ^ 32 : Int) ∣ (a + b).bmod (2 ^ 32) - (a + b) := Int.dvd_bmod_sub_self
  omega

/-- Residues of a wrapping sum differ by 4 from those of its operands, one way or the other. -/
theorem residue_wraps {a b : Int} (ha : a ∈ Set.Ico (-(2 ^ 31)) (2 ^ 31)) (hb : b ∈ Set.Ico (-(2 ^ 31)) (2 ^ 31))
    (wraps : (a + b).bmod (2 ^ 32) ≠ a + b) :
    (residue ((a + b).bmod (2 ^ 32)) + 4) % 7 = residue (a + b) ∨ residue ((a + b).bmod (2 ^ 32)) = (residue (a + b) + 4) % 7 := by
  obtain above | below := eq_add_two_pow_of_wraps ha hb wraps
  · exact .inl (by rw [← residue_add_two_pow, ← above])
  · exact .inr (by rw [below, residue_add_two_pow])

/-- Settles O11: a sum is the balanced residue modulo 2^32 of the exact one, and a wrap moves its residue by 4, never to itself. -/
theorem flueSumsDoNotDependOnOrder : Obligations.FlueSumsDoNotDependOnOrder := by
  intro a b c ha hb _ p q sum
  have sum_eq (x y : Int) : sum x y = (x + y).bmod (2 ^ 32) := addLane_sum _ _
  refine ⟨⟨?range, ?congruent⟩, ?comm, ?assoc, ?fits, ?wraps⟩
  case range => exact sum_eq a b ▸ bmod_mem_lane _
  case congruent => exact sum_eq a b ▸ Int.dvd_bmod_sub_self
  case comm => rw [sum_eq, sum_eq, add_comm]
  case assoc => simp only [sum_eq, Int.bmod_add_bmod, Int.add_bmod_bmod, add_assoc]
  case fits =>
    intro fits
    exact addLane_of_residue_eq (congrArg residue fits.symm)
  case wraps =>
    intro wraps
    have shifted := residue_wraps ha hb (sum_eq a b ▸ wraps)
    rw [← sum_eq] at shifted
    have differ : residue (a + b) ≠ residue (sum a b) := by omega
    obtain ⟨told, poisoned⟩ := addLane_of_residue_ne (a := (a, p)) (b := (b, q)) differ
    refine ⟨told, poisoned, ?_⟩
    rw [residue_add] at shifted
    omega

end Sys2Proof.Proofs
end

section

/-! ## Issue groups (O16)

Starting the sites of a group and writing its records change no hearth, so a stoker that issues a DRV still runs when the group joins the live ones. What
a DRV does is said by one lemma for each outcome: it is held, it faults, or its group starts. -/

namespace Sys2Proof.Proofs

open Sys2Proof.Machine Sys2Proof.Laws

/-! ### Operations that change no hearth -/

theorem hearth_of_hearths {s t : State} (e : t.hearths = s.hearths) (h : Nat) : t.hearth h = s.hearth h := congrArg (·.get Hearth.fresh h) e

@[simp] theorem ite_hearths (c : Prop) [Decidable c] (s t : State) : (if c then s else t).hearths = if c then s.hearths else t.hearths :=
  apply_ite (·.hearths) c s t

theorem foldl_hearths {α : Type} {f : State → α → State} (keeps : ∀ s a, (f s a).hearths = s.hearths) (l : List α) (s : State) :
    (l.foldl f s).hearths = s.hearths := by
  induction l generalizing s with
  | nil => rfl
  | cons a l ih => exact (ih _).trans (keeps s a)

@[simp] theorem setSite_hearths (n : Nat) (y : Site) (s : State) : (s.setSite n y).hearths = s.hearths := rfl

@[simp] theorem range_hearths (slot fld n : Nat) (s : State) : (s.range slot fld n).hearths = s.hearths := by
  simp [State.range]

@[simp] theorem settleTrim_hearths (h t site : Nat) (s : State) : (s.settleTrim h t site).hearths = s.hearths := by
  simp [State.settleTrim]

@[simp] theorem startSite_hearths (h t : Nat) (g : Group) (lower : Bool) (ord site : Nat) (s : State) :
    (s.startSite h t g lower ord site).2.hearths = s.hearths := by
  simp [State.startSite]

@[simp] theorem startSites_hearths (h t : Nat) (g : Group) (lower : Bool) (ord : Nat) (sites : List Nat) (s : State) :
    (s.startSites h t g lower ord sites).2.hearths = s.hearths := by
  induction sites generalizing ord s with
  | nil => rfl
  | cons site rest ih => simp [State.startSites, ih]

@[simp] theorem raiseSites_hearths (h : Nat) (k : Kind) (detail : SiteConv → Nat) (found : List SiteConv) (s : State) :
    (s.raiseSites h k detail found).hearths = s.hearths := by
  cases found <;> simp [State.raiseSites]

@[simp] theorem issueRecords_hearths (h t : Nat) (lower : Bool) (scs : List SiteConv) (s : State) :
    (s.issueRecords h t lower scs).hearths = s.hearths := by
  unfold State.issueRecords
  dsimp only
  split <;> simp

/-! ### Latch loads -/

/-- Work that leaves the stoker's phase alone goes on to the next word. -/
theorem ne_faulted_of_issuesAt {s t : State} {w : IssueAt} {low op cc : Nat} (issues : s.issuesAt w low op cc)
    (phase : (t.hearth w.h.toNat).phase = ((s.atIssue w low op).hearth w.h.toNat).phase) : (t.hearth w.h.toNat).phase ≠ .faulted := by
  rw [phase, (begin_running issues).1]
  decide

theorem phase_modHearth {s : State} {h : Nat} {f : Hearth → Hearth} (keeps : (f (s.hearth h)).phase = (s.hearth h).phase) :
    ((s.modHearth h f).hearth h).phase = (s.hearth h).phase := by
  rw [hearth_modHearth, keeps]

theorem phase_foldl_schedule {α : Type} (h : Nat) (cc : α → Nat) (d : α → Due) (l : List α) (s : State) :
    ((l.foldl (fun s a => s.schedule h (cc a) (d a)) s).hearth h).phase = (s.hearth h).phase := by
  induction l generalizing s with
  | nil => rfl
  | cons a l ih => rw [List.foldl_cons, ih, hearth_schedule, at_phase]

/-- The sites of the group of a DRV. -/
def groupSites (s : State) (h : Nat) (f : DrvFields) : List Nat := (s.groupDesc h f.desc.toNat).sites.map (siteNo h f.bay.toNat)

/-- Whether a site has no latch that can take a load at a cycle. -/
def noLatch (s : State) (step t n : Nat) : Bool := !(latchFree step t (s.site n).latchA || latchFree step t (s.site n).latchB)

section Load

variable {s : State} {i : IssueAt} {f : DrvFields} {t : Nat} (issues : s.issuesAt i (drvLow f) 1 t)

include issues

theorem drvLatchLoad_faults :
    let h := i.h.toNat
    let s' := s.atIssue i (drvLow f) 1
    (∃ n ∈ groupSites s' h f, noLatch s' (s'.hearth h).step t n = true) →
    exec (.drvLatchLoad i f) s = .next (s'.stokerFault h .schedule t 1) := by
  intro h s' stuck
  have faults (u : State) : (if (groupSites s' h f).any (noLatch s' (s'.hearth h).step t) then s'.stokerFault h .schedule t 1 else u) =
      s'.stokerFault h .schedule t 1 := if_pos (List.any_eq_true.mpr stuck)
  refine congrArg _ ((issue_faulted issues ?_).trans (faults _))
  exact (congrArg (fun u => (u.hearth h).phase) (faults _)).trans (stokerFault_phase ..)

theorem drvLatchLoad_loads :
    let h := i.h.toNat
    let s' := s.atIssue i (drvLow f) 1
    let x := s'.hearth h
    let d := s'.groupDesc h f.desc.toNat
    let sites := groupSites s' h f
    let fresh : Latch := { step := x.step, elems := [], scale := 255, ready := t + d.nseg, busyUntil := none, seq := x.seq }
    (∀ n ∈ sites, noLatch s' x.step t n = false) →
    exec (.drvLatchLoad i f) s =
      .next (((List.range d.nseg).foldl (fun s j =>
        s.schedule h (t + j) (.latch ((sites.zipIdx.filter fun e => e.2 % d.nseg == j).map (·.1)) x.seq (f.vsrc.toNat + j / 2) (j % 2) d.scaleReg (d.seg0 + j)))
          (sites.foldl (fun s n => s.setSite n (((s.site n).load x.step t fresh).getD (s.site n))) s')).toNext h) := by
  intro h s' x d sites fresh free
  have loads (u v : State) : (if sites.any (noLatch s' x.step t) then u else v) = v := if_neg (by
    simp only [List.any_eq_true, not_exists, not_and, Bool.not_eq_true]
    exact free)
  have taken (l : List Nat) (u : State) : (l.foldl (fun s n => s.setSite n (((s.site n).load x.step t fresh).getD (s.site n))) u).hearths = u.hearths :=
    foldl_hearths (fun _ _ => setSite_hearths ..) l u
  refine congrArg _ ((issue_eq issues (ne_faulted_of_issuesAt issues ?_)).trans (congrArg (State.toNext h) (loads _ _)))
  refine (congrArg (fun u => (u.hearth h).phase) (loads _ _)).trans ?_
  rw [phase_foldl_schedule h (fun j => t + j), hearth_of_hearths (taken _ _)]

end Load

/-! ### Issuing a DRV -/

/-- Whether an ACC is armed for the bay and descriptor of a DRV. -/
def armedFor (f : DrvFields) (a : Armed) : Bool := a.bay == f.bay.toNat && a.desc == f.desc.toNat

/-- The group that a DRV starts at a cycle, before its sites start: its window counts with the budget of the slot that the ACC names. -/
def drivenGroup (s : State) (h t : Nat) (f : DrvFields) (arm : Armed) : Group :=
  let d := s.groupDesc h f.desc.toNat
  let cfg := (s.stepRec (s.hearth h).step).cfg
  { bay := f.bay.toNat, desc := f.desc.toNat, slot := f.slot.toNat, layer := s.slotLayer f.slot.toNat, span := f.span.toNat,
    first := f.first.toNat, last := f.last.toNat, cc := t, policy := s.slotPolicy f.slot.toNat cfg, budget := s.slotBudget f.slot.toNat cfg,
    window := frameUp (t + 88 + 64 * s.slotBudget arm.slot cfg), nblk := d.nblk, nseg := d.nseg, outBase := d.outBase, sites := [],
    delivered := false }

section Drive

variable {s : State} {h t : Nat} {f : DrvFields} {arm : Armed}

theorem driveGroup_unarmed (unarmed : (s.hearth h).armed.find? (armedFor f) = none) : s.driveGroup h t f = s.stokerFault h .schedule t 1 := by
  unfold armedFor at unarmed
  simp only [State.driveGroup, unarmed, State.scheduleFault]

variable (armed : (s.hearth h).armed.find? (armedFor f) = some arm)

include armed

theorem driveGroup_untimely (untimely : t ≤ arm.cc ∨ arm.cc + 64 < t) : s.driveGroup h t f = s.stokerFault h .schedule t 1 := by
  unfold armedFor at armed
  simp only [State.driveGroup, armed, if_pos untimely, State.scheduleFault]

theorem driveGroup_starts (after : arm.cc < t) (within : t ≤ arm.cc + 64) :
    let x := s.hearth h
    let g := drivenGroup s h t f arm
    let live := x.groups.filter fun e => decide (t < e.ends)
    let sites := groupSites s h f
    let started := s.startSites h t g f.lower 0 sites
    (x.armed.filter fun a => a.bay == g.bay).length + (live.filter fun e => e.bay == g.bay).length ≤ 2 →
    (∀ e ∈ live, e.ends ≤ g.window ∨ g.ends ≤ e.window) →
    (∀ n ∈ sites, ∃ l, (s.site n).loaded x.step = some l ∧ l.ready < t) →
    s.driveGroup h t f = (started.2.issueRecords h t f.lower started.1).modHearth h fun x =>
      { x with armed := x.armed.erase arm, groups := live ++ [{ g with sites := started.1 }] } := by
  intro x g live sites started few apart loaded
  have overlaps : ¬(live.any fun e => decide (e.window < g.ends) && decide (g.window < e.ends)) = true := by
    simp only [List.any_eq_true, Bool.and_eq_true, decide_eq_true_eq, not_exists, not_and, Nat.not_lt]
    intro e he hlt
    exact (apart e he).resolve_right (Nat.not_le.mpr hlt)
  have unloaded : ¬(sites.any fun n => match (s.site n).loaded x.step with
      | none => true
      | some l => decide (t < l.ready + 1)) = true := by
    simp only [List.any_eq_true, not_exists, not_and]
    intro n hn
    obtain ⟨l, hl, ready⟩ := loaded n hn
    simp only [hl, decide_eq_true_eq, Nat.not_lt]
    exact ready
  unfold State.driveGroup
  unfold armedFor at armed
  dsimp only
  rw [armed]
  exact (if_neg (by omega)).trans <| (if_neg (Nat.not_lt.mpr few)).trans <| (if_neg overlaps).trans (if_neg unloaded)

end Drive

section Issue

variable {s : State} {i : IssueAt} {f : DrvFields} {t : Nat} (issues : s.issuesAt i (drvLow f) 1 t)

include issues

theorem begin_eq_of_issuesAt : s.begin i (drvLow f) 1 = (some t, s.atIssue i (drvLow f) 1) := Prod.ext issues rfl

/-- A group that the damper has no room for is held at its DRV (R454). -/
theorem drvIssue_held
    (full : (s.atIssue i (drvLow f) 1).fits i.h.toNat ((s.atIssue i (drvLow f) 1).groupDesc i.h.toNat f.desc.toNat).sites.length t = false) :
    exec (.drvIssue i f) s = .next ((s.atIssue i (drvLow f) 1).modHearth i.h.toNat fun x => { x with held := some (i, f) }) := by
  simp only [exec, execDrvIssue, begin_eq_of_issuesAt issues, full, Bool.false_eq_true, if_false]

variable (room : (s.atIssue i (drvLow f) 1).fits i.h.toNat ((s.atIssue i (drvLow f) 1).groupDesc i.h.toNat f.desc.toNat).sites.length t = true)
  {u : State} (drives : (s.atIssue i (drvLow f) 1).driveGroup i.h.toNat t f = u)

include room drives

theorem drvIssue_faulted (faulted : (u.hearth i.h.toNat).phase = .faulted) : exec (.drvIssue i f) s = .next u := by
  simp only [exec, execDrvIssue, begin_eq_of_issuesAt issues, room, drives, faulted, beq_self_eq_true, if_true]

theorem drvIssue_toNext (runs : (u.hearth i.h.toNat).phase ≠ .faulted) : exec (.drvIssue i f) s = .next (u.toNext i.h.toNat) := by
  simp only [exec, execDrvIssue, begin_eq_of_issuesAt issues, room, drives, if_true, beq_iff_eq, if_neg runs]

end Issue

/-- Settles O16: one lemma for each outcome, and nothing but a fault changes the phase of a stoker that runs. -/
theorem issueGroupsStart : Obligations.IssueGroupsStart := by
  intro s i t h
  refine ⟨fun f issues => ?acc, fun f issues => ?drv⟩
  case acc => exact congrArg _ (issue_eq issues (ne_faulted_of_issuesAt issues (phase_modHearth rfl)))
  case drv =>
    refine ⟨drvLatchLoad_faults issues, drvLatchLoad_loads issues, drvIssue_held issues, fun room => ⟨?unarmed, fun arm armed => ⟨?untimely, ?starts⟩⟩⟩
    case unarmed =>
      intro unarmed
      exact drvIssue_faulted issues room (driveGroup_unarmed unarmed) (stokerFault_phase ..)
    case untimely =>
      intro untimely
      exact drvIssue_faulted issues room (driveGroup_untimely armed untimely) (stokerFault_phase ..)
    case starts =>
      intro after within few apart loaded started
      have kept : (started.2.issueRecords h t f.lower started.1).hearths = (s.atIssue i (drvLow f) 1).hearths :=
        (issueRecords_hearths ..).trans (startSites_hearths ..)
      refine drvIssue_toNext issues room (driveGroup_starts armed after within few apart loaded) (ne_faulted_of_issuesAt issues ?_)
      exact (phase_modHearth rfl).trans (congrArg Hearth.phase (hearth_of_hearths kept h))

end Sys2Proof.Proofs
end

section

/-! ## Re-issues and delivery (O17)

A conversion draws values and counts in its slot's range counters; no hearth changes by it, so a re-issue is the replacement of one site in its group. The
output window of a group is a list of calendar work known before the first row enters, since entering work moves no value that a later block is made of. -/

namespace Sys2Proof.Proofs

open Sys2Proof.Machine Sys2Proof.Laws

/-! ### What a conversion changes -/

theorem sameBut_mono {l m : List Part} {s t : State} (sub : l ⊆ m) (h : SameBut l s t) : SameBut m s t := by
  refine ⟨h.1, fun p hp => h.2 p ?_⟩
  simp only [List.contains_eq_mem, decide_eq_false_iff_not] at hp ⊢
  exact fun hl => hp (sub hl)

theorem sameBut_refl (l : List Part) (s : State) : SameBut l s s := ⟨rfl, fun p _ => by cases p <;> rfl⟩

theorem sameBut_spend (n : Nat) (s : State) : SameBut [.clock] s (s.spend n) :=
  ⟨rfl, fun p hp => by
    cases p with
    | clock => exact absurd hp (by decide)
    | _ => rfl⟩

theorem sameBut_modHearth (h : Nat) (f : Hearth → Hearth) (s : State) : SameBut [.hearth] s (s.modHearth h f) :=
  ⟨rfl, fun p hp => by
    cases p with
    | hearth => exact absurd hp (by decide)
    | _ => rfl⟩

theorem sameBut_range (l : List Part) (slot fld n : Nat) (s : State) : SameBut l s (s.range slot fld n) := by
  unfold State.range
  split <;> exact ⟨rfl, fun p _ => by cases p <;> rfl⟩

/-- A conversion's draws and the counts of its slot. -/
theorem sameBut_converted (slot n : Nat) (s : State) : SameBut [.clock] s (((s.spend convertDraws).range slot 2 1).range slot 1 n) :=
  sameBut_trans (sameBut_trans (sameBut_spend _ s) (sameBut_range _ ..)) (sameBut_range _ ..)

/-! ### WIDEN (R69) -/

theorem colAt_takeFlagged (old new : List ColConv) {p : Nat} (hp : p < 531) :
    colAt (takeFlagged old new) p = if (colAt old p).flag ≠ 0 ∧ (colAt old p).invalid = false then colAt new p else colAt old p := by
  conv_lhs => unfold colAt takeFlagged
  simp [hp]

theorem span_colAt_convert (s : State) (a : Nat) (elems : List (BitVec 4)) (scale first last span : Nat) {p : Nat} (hp : p < 531) :
    (colAt (s.convert a elems scale first last span) p).span = span := by
  simp [colAt, State.convert, hp]

section Widen

variable {s : State} {g : Group} {sc : SiteConv} (wants : s.wantsWiden g sc = true)

include wants

theorem used_lt_budget_of_wantsWiden : sc.used < g.budget := by
  simp only [State.wantsWiden, Bool.and_eq_true, decide_eq_true_eq] at wants
  exact wants.1.2

theorem widenSite_fst : (s.widenSite g sc).1 =
    { sc with cols := takeFlagged sc.cols (s.convert sc.array sc.elems sc.scale g.first g.last (g.span + sc.used + 1)), used := sc.used + 1,
              reissues := sc.reissues + 1 } := by
  simp [State.widenSite, wants]

end Widen

theorem sameBut_widenSite (g : Group) (sc : SiteConv) (s : State) : SameBut [.clock] s (s.widenSite g sc).2 := by
  unfold State.widenSite
  split
  · exact sameBut_refl ..
  · dsimp only
    exact sameBut_converted ..

/-! ### SPLIT (R70) -/

theorem used_add_two_le_budget_of_nextSplit {s : State} {g : Group} {sc : SiteConv} {r : Nat × Nat × Nat} (next : s.nextSplit g sc = some r) :
    sc.used + 2 ≤ g.budget := by
  unfold State.nextSplit at next
  dsimp only at next
  split at next
  case isTrue => cases next
  case isFalse splits => omega

theorem splitSite_fst {s : State} {g : Group} {sc : SiteConv} {first last level : Nat} (next : s.nextSplit g sc = some (first, last, level)) :
    ∃ a b, (s.splitSite g sc).1 = { sc with parts := sc.parts ++ [a, b], used := sc.used + 2, reissues := sc.reissues + 2 } ∧
      (a.first = first ∧ a.last = first + (last + 1 - first + 1) / 2 - 1 ∧ a.level = level) ∧
      (b.first = first + (last + 1 - first + 1) / 2 ∧ b.last = last ∧ b.level = level) := by
  unfold State.splitSite
  rw [next]
  exact ⟨_, _, rfl, ⟨rfl, rfl, rfl⟩, rfl, rfl, rfl⟩

theorem sameBut_splitSite (g : Group) (sc : SiteConv) (s : State) : SameBut [.clock] s (s.splitSite g sc).2 := by
  unfold State.splitSite
  split
  · exact sameBut_refl ..
  · simp only [halvesOf, List.foldl_cons, List.foldl_nil]
    exact sameBut_trans (sameBut_converted ..) (sameBut_converted ..)

/-! ### A site of a group is replaced -/

/-- The groups of a hearth with a site of one of them replaced. -/
def withSite (groups : List Group) (g : Group) (site : Nat) (sc : SiteConv) : List Group :=
  groups.map fun e => if e.bay = g.bay ∧ e.cc = g.cc then { g with sites := g.sites.map fun c => if c.site = site then sc else c } else e

section Reissue

variable {want : State → Group → SiteConv → Bool} {f : Group → SiteConv → State → SiteConv × State} {site : Nat} {s : State} {g : Group} {sc : SiteConv}
  (oldest : ((s.hearth (site / 512)).groups.find? fun g => !g.delivered && g.sites.any fun sc => sc.site == site && want s g sc) = some g)
  (first : (g.sites.find? fun sc => sc.site == site && want s g sc) = some sc)

include first

theorem want_of_find : want s g sc = true := by
  have found := List.find?_some first
  exact (Bool.and_eq_true_iff.mp found).2

include oldest

theorem reissueIn_eq : reissueIn want f site s =
    (f g sc s).2.modHearth (site / 512) fun x => { x with groups := withSite x.groups g site (f g sc s).1 } := by
  simp only [reissueIn, oldest, first, withSite]

variable (converts : SameBut [.clock] s (f g sc s).2)

include converts

theorem sameBut_reissueIn : SameBut [.clock, .hearth] s (reissueIn want f site s) := by
  rw [reissueIn_eq oldest first]
  exact sameBut_trans (sameBut_mono (by simp) converts) (sameBut_mono (by simp) (sameBut_modHearth ..))

theorem groups_reissueIn : ((reissueIn want f site s).hearth (site / 512)).groups = withSite (s.hearth (site / 512)).groups g site (f g sc s).1 := by
  rw [reissueIn_eq oldest first, hearth_modHearth, hearth_congr (converts.2 .hearth rfl)]

end Reissue

/-! ### Work of a calendar -/

/-- The work of a hearth's calendar with its cycles, in the order in which it falls due. -/
def calendarWork (x : Hearth) : List (Nat × Due) := x.calendar.map fun n => (n.cc, n.due)

theorem insertSlot_perm (n : Slot) (l : List Slot) : (insertSlot n l).Perm (n :: l) := by
  induction l with
  | nil => exact .refl _
  | cons m l ih =>
    unfold insertSlot
    split
    · exact .refl _
    · exact (ih.cons m).trans (.swap ..)

theorem calendarWork_at (cc : Nat) (d : Due) (x : Hearth) : (calendarWork (x.at cc d)).Perm ((cc, d) :: calendarWork x) := (insertSlot_perm _ _).map _

/-- Enter a list of work in order. -/
def enterWork (h : Nat) (l : List (Nat × Due)) (s : State) : State := l.foldl (fun s w => s.schedule h w.1 w.2) s

theorem calendarWork_enterWork (h : Nat) (l : List (Nat × Due)) (s : State) :
    (calendarWork ((enterWork h l s).hearth h)).Perm (l ++ calendarWork (s.hearth h)) := by
  induction l generalizing s with
  | nil => exact .refl _
  | cons w l ih =>
    have entered := calendarWork_at w.1 w.2 (s.hearth h)
    rw [← hearth_schedule] at entered
    exact ((ih _).trans (entered.append_left l)).trans List.perm_middle

theorem groups_enterWork (h : Nat) (l : List (Nat × Due)) (s : State) : ((enterWork h l s).hearth h).groups = (s.hearth h).groups := by
  induction l generalizing s with
  | nil => rfl
  | cons w l ih => exact (ih _).trans (by rw [hearth_schedule]; rfl)

/-! ### The output window (R77, R197) -/

/-- The results of a block as they enter its slot, poisoned in one lane group where the accumulator's residue mismatches. -/
def windowValues (s : State) (step : Nat) (g : Group) (upset : Option Upset) (b : Nat) : List VCell :=
  match upset with
  | some u => if u.expected ≠ u.found ∧ b = 0 then poisonGroup 0 u.lane.toNat (s.blockValues step g b) else s.blockValues step g b
  | none => s.blockValues step g b

/-- The rows of a block, in its slot of the window. -/
def windowRows (s : State) (step : Nat) (g : Group) (upset : Option Upset) (b : Nat) : List (Nat × Due) :=
  (chunksOf 32 16 (windowValues s step g upset b)).zipIdx.map fun e => (g.window + 8 * b + 2, .accRow (g.outBase + 16 * b + e.2) e.1 g.cc)

theorem length_chunksOf {α : Type} (n k : Nat) (l : List α) : (chunksOf n k l).length = k := by
  induction k generalizing l with
  | zero => rfl
  | succ k ih => simp [chunksOf, ih]

theorem length_windowRows (s : State) (step : Nat) (g : Group) (upset : Option Upset) (b : Nat) : (windowRows s step g upset b).length = 16 := by
  simp [windowRows, length_chunksOf]

theorem mem_windowRows (s : State) (step : Nat) (g : Group) (upset : Option Upset) (b : Nat) {e : Nat} (he : e < 16) :
    ∃ cells, (g.window + 8 * b + 2, Due.accRow (g.outBase + 16 * b + e) cells g.cc) ∈ windowRows s step g upset b := by
  have inside : e < (chunksOf 32 16 (windowValues s step g upset b)).length := by rwa [length_chunksOf]
  exact ⟨_, List.mem_map.mpr ⟨(_, e), List.mk_mem_zipIdx_iff_getElem?.mpr (List.getElem?_eq_getElem inside), rfl⟩⟩

/-- Entering work moves no value of a block. -/
theorem windowRows_enterWork (h : Nat) (l : List (Nat × Due)) (s : State) : windowRows (enterWork h l s) = windowRows s := by
  induction l generalizing s with
  | nil => rfl
  | cons w l ih => exact (ih _).trans rfl

theorem writeWindow_eq (h step : Nat) (g : Group) (upset : Option Upset) (s : State) :
    s.writeWindow h step g upset = enterWork h ((List.range g.nblk).flatMap (windowRows s step g upset)) s := by
  have blocks (l : List Nat) : ∀ t : State, windowRows t = windowRows s →
      l.foldl (fun t b => enterWork h (windowRows t step g upset b) t) t = enterWork h (l.flatMap (windowRows s step g upset)) t := by
    induction l with
    | nil => exact fun _ _ => rfl
    | cons b l ih =>
      intro t same
      rw [List.foldl_cons, ih _ ((windowRows_enterWork ..).trans same), same]
      simp [enterWork, List.foldl_append]
  rw [← blocks _ s rfl]
  unfold State.writeWindow enterWork windowRows
  simp only [List.foldl_map]
  rfl

/-! ### Delivery (R74 to R81) -/

theorem hearths_of_sameBut {s t : State} (h : SameBut [.clock] s t) : t.hearths = s.hearths := congrArg HearthPart.hearths (h.2 .hearth rfl)

@[simp] theorem widenSite_hearths (g : Group) (sc : SiteConv) (s : State) : (s.widenSite g sc).2.hearths = s.hearths :=
  hearths_of_sameBut (sameBut_widenSite ..)

@[simp] theorem splitSite_hearths (g : Group) (sc : SiteConv) (s : State) : (s.splitSite g sc).2.hearths = s.hearths :=
  hearths_of_sameBut (sameBut_splitSite ..)

@[simp] theorem finishSite_hearths (g : Group) (n : Nat) (sc : SiteConv) (s : State) : (s.finishSite g n sc).2.hearths = s.hearths := by
  induction n generalizing sc s with
  | zero => rfl
  | succ n ih => simp [State.finishSite, ih]

@[simp] theorem finishSites_hearths (g : Group) (scs : List SiteConv) (s : State) : (s.finishSites g scs).2.hearths = s.hearths := by
  induction scs generalizing s with
  | nil => rfl
  | cons sc rest ih => simp [State.finishSites, ih]

@[simp] theorem checkSite_hearths (step : Nat) (g : Group) (sc : SiteConv) (s : State) : (s.checkSite step g sc).hearths = s.hearths := by
  unfold State.checkSite
  split
  · rfl
  · split
    · simp
    · split
      · rfl
      · simp

@[simp] theorem raiseResidue_hearths (path step pc opcode : Nat) (u : Upset) (s : State) :
    (s.raiseResidue path step pc opcode u).hearths = s.hearths := by
  simp [State.raiseResidue]

@[simp] theorem toWorking_hearths (h : Nat) (s : State) : (s.toWorking h).hearths = s.hearths := by
  simp [State.toWorking]

/-- A group as a delivery leaves it, with the re-issues of its sites made. -/
def deliveredGroup (s : State) (g : Group) : Group := { g with sites := (s.finishSites g g.sites).1, delivered := true }

/-- A delivery of a group: its window is entered, and the group marked, in a state with the same hearths. -/
def Delivers (h : Nat) (g : Group) (s t : State) : Prop :=
  ∃ (u : State) (step : Nat) (upset : Option Upset),
    let g' := deliveredGroup s g
    u.hearths = s.hearths ∧ t = (((u.writeWindow h step g' upset).spend (512 * g.nblk)).modHearth h fun x =>
      { x with groups := x.groups.map fun e => if e.bay = g.bay ∧ e.cc = g.cc then g' else e }).toWorking h

theorem accDelivery_delivers {s : State} {hh : HearthId} {bay : BitVec 3} {g : Group} (upset : Option Upset)
    (oldest : ((s.hearth hh.toNat).groups.find? fun g => g.bay == bay.toNat && !g.delivered) = some g) :
    Completes (.accDelivery hh bay upset) s (Delivers hh.toNat g s) := by
  refine ⟨_, rfl, ?_⟩
  extract_lets h x
  split
  next absent => cases absent.symm.trans oldest
  next g₀ found =>
    obtain rfl : g₀ = g := Option.some.inj (found.symm.trans oldest)
    split
    next scs v finished =>
      obtain rfl : (s.finishSites g₀ g₀.sites).1 = scs := congrArg Prod.fst finished
      have finishes : v.hearths = s.hearths := congrArg (·.2.hearths) finished ▸ finishSites_hearths g₀ g₀.sites s
      extract_lets g' counted bad checked code recorded sampled upsets
      have counts : counted.hearths = s.hearths := (foldl_hearths (fun _ _ => by simp) _ _).trans finishes
      have checks : checked.hearths = s.hearths := (foldl_hearths (fun _ _ => checkSite_hearths ..) _ _).trans counts
      have samples : sampled.hearths = s.hearths := (raiseSites_hearths ..).trans checks
      have kept : upsets.hearths = s.hearths := by
        unfold upsets
        split
        · split
          · exact samples
          · exact (raiseResidue_hearths ..).trans samples
        · exact samples
      exact ⟨upsets, _, _, kept, rfl⟩

theorem groups_of_delivers {h : Nat} {g : Group} {s t : State} (d : Delivers h g s t) :
    (t.hearth h).groups = (s.hearth h).groups.map fun e => if e.bay = g.bay ∧ e.cc = g.cc then deliveredGroup s g else e := by
  obtain ⟨u, step, upset, kept, rfl⟩ := d
  rw [hearth_of_hearths (toWorking_hearths ..), hearth_modHearth, hearth_spend, writeWindow_eq]
  dsimp only
  rw [groups_enterWork, hearth_of_hearths kept]

/-- The work of a window is all that a delivery enters. -/
theorem calendarWork_of_delivers {h : Nat} {g : Group} {s t : State} (d : Delivers h g s t) :
    ∃ (u : State) (step : Nat) (upset : Option Upset), (calendarWork (t.hearth h)).Perm
      ((List.range g.nblk).flatMap (windowRows u step (deliveredGroup s g) upset) ++ calendarWork (s.hearth h)) := by
  obtain ⟨u, step, upset, kept, rfl⟩ := d
  refine ⟨u, step, upset, ?_⟩
  rw [hearth_of_hearths (toWorking_hearths ..), hearth_modHearth, hearth_spend, writeWindow_eq]
  exact hearth_of_hearths kept h ▸ calendarWork_enterWork ..

theorem pending_of_next {c : Instr} {s t : State} (runs : exec c s = .next t) : t.pending = s.pending := by
  obtain ⟨u, eq, keeps⟩ := everyCommandCompletesAndKeepsTheQueue c s
  cases runs.symm.trans eq
  exact keeps

/-! ### The end of a hold (R454) -/

theorem damperHoldRelease_drives {s : State} {hh : HearthId} {w : IssueAt} {f : DrvFields} {t : Nat}
    (held : (s.hearth hh.toNat).held = some (w, f)) (runs : (s.hearth hh.toNat).phase = .running) (unfrozen : (s.hearth hh.toNat).freeze = none)
    (room : (((List.range 256).map fun k => 8 * ((s.hearth hh.toNat).last / 8 + 1 + k)).find?
      (s.fits hh.toNat (s.groupDesc hh.toNat f.desc.toNat).sites.length)) = some t) :
    let h := hh.toNat
    let hold := t - (s.hearth h).last
    let u := (((s.advance h t).timeDamped hold).modHearth h fun x =>
      { x with held := none, last := t, armed := x.armed.map fun a => { a with cc := a.cc + hold } }).driveGroup h t f
    exec (.damperHoldRelease hh) s = .next (if (u.hearth h).phase = .faulted then u else u.toNext h) := by
  simp only [exec, execDamperHoldRelease, held, room, runs, unfrozen, beq_self_eq_true, Bool.and_self, Bool.not_true, Bool.false_eq_true, if_false,
    beq_iff_eq]

/-- Settles O17: a re-issue replaces the first conversion of its site that wants it, and the work of its window is all that a delivery enters. -/
theorem reissuesAndDelivery : Obligations.ReissuesAndDelivery := by
  intro s
  refine ⟨fun site g sc => ⟨fun oldest found => ?widen, fun first last level next ordered oldest found => ?split⟩, fun hh bay u g oldest => ?deliver,
    fun hh w f t held runs unfrozen room => damperHoldRelease_drives held runs unfrozen room⟩
  case widen =>
    have wants := want_of_find found
    have replaced := widenSite_fst wants
    have converts := sameBut_widenSite g sc s
    refine ⟨_, rfl, sameBut_reissueIn oldest found converts, _, groups_reissueIn oldest found converts, ?_⟩
    rw [replaced]
    refine ⟨rfl, used_lt_budget_of_wantsWiden wants, rfl, fun p hp stays => ?_, fun p hp flagged valid => ?_⟩
    · have kept : ¬((colAt sc.cols p).flag ≠ 0 ∧ (colAt sc.cols p).invalid = false) :=
        fun ⟨flagged, valid⟩ => stays.elim flagged (Bool.eq_false_iff.mp valid)
      rw [colAt_takeFlagged _ _ hp, if_neg kept]
    · rw [colAt_takeFlagged _ _ hp, if_pos ⟨flagged, valid⟩, span_colAt_convert _ _ _ _ _ _ _ hp]
  case split =>
    obtain ⟨a, b, replaced, ⟨firstA, lastA, levelA⟩, firstB, lastB, levelB⟩ := splitSite_fst next
    have converts := sameBut_splitSite g sc s
    refine ⟨_, rfl, sameBut_reissueIn oldest found converts, _, a, b, groups_reissueIn oldest found converts, ?_⟩
    rw [replaced]
    exact ⟨rfl, used_add_two_le_budget_of_nextSplit next, rfl, rfl, levelA, levelB, firstA, by omega, lastB⟩
  case deliver =>
    obtain ⟨t, runs, delivers⟩ := accDelivery_delivers u oldest
    obtain ⟨v, step, upset, entered⟩ := calendarWork_of_delivers delivers
    refine ⟨t, runs, pending_of_next runs, ⟨_, groups_of_delivers delivers⟩, ?length, fun b hb e he => ?row⟩
    case length => simpa [calendarWork, length_windowRows, Nat.mul_comm, Nat.add_comm] using entered.length_eq
    case row =>
      obtain ⟨cells, row⟩ := mem_windowRows v step (deliveredGroup s g) upset b he
      have inWork := entered.mem_iff.mpr (List.mem_append_left _ (List.mem_flatMap.mpr ⟨b, List.mem_range.mpr hb, row⟩))
      obtain ⟨n, hn, eq⟩ := List.mem_map.mp inWork
      exact ⟨n, hn, congrArg Prod.fst eq, cells, congrArg Prod.snd eq⟩

end Sys2Proof.Proofs
end

section

/-! ## Calibration falls due (O23; 04 R99, R100, R104)

A trigger meets a hearth that rests, one that is due or one whose run is in progress, and `calDue` has an equation for each. The status of a hearth is an
object of the dictionary, so reads after writes of OD 0x2805 come first. -/

namespace Sys2Proof.Proofs

open Sys2Proof.Machine Sys2Proof.Laws

/-! ### The status of a hearth (OD 0x2805) -/

@[simp] theorem cal_setCal_same (h f v : Nat) (s : State) : (s.setCal h f v).cal h f = v := od_setOd_same ..

theorem cal_setCal_ne {g h f k : Nat} (v : Nat) (hf : f < 64) (hk : k < 64) (ne : ¬(g = h ∧ f = k)) (s : State) :
    (s.setCal h k v).cal g f = s.cal g f := by
  refine od_setOd_ne s v ?_
  unfold odKey
  omega

theorem sameBut_setCal (l : List Part) (h f v : Nat) (s : State) : SameBut l s (s.setCal h f v) := ⟨rfl, fun p _ => by cases p <;> rfl⟩

/-! ### A hearth falls due (R100, R104) -/

section Due

variable {s : State} {h : Nat}

theorem calDue_of_running (running : s.calState h = 3) : s.calDue h = s.setCal h 44 1 := if_pos running

theorem calDue_of_due (due : s.calState h = 2) : s.calDue h = s := by
  simp [State.calDue, due]

theorem calDue_of_rests (notDue : s.calState h ≠ 2) (notRunning : s.calState h ≠ 3) :
    s.calDue h = ((s.setCal h 2 2).setCal h 41 (s.elapsed + 1)).setCal h 43 0 := by
  unfold State.calDue
  rw [if_neg notRunning, if_neg notDue]

theorem sameBut_calDue (h : Nat) (s : State) : SameBut [] s (s.calDue h) := by
  unfold State.calDue
  split
  · exact sameBut_setCal ..
  · split
    · exact sameBut_refl ..
    · exact sameBut_trans (sameBut_trans (sameBut_setCal ..) (sameBut_setCal ..)) (sameBut_setCal ..)

theorem trims_calDue (h : Nat) (s : State) : (s.calDue h).trims = s.trims := congrArg UpkeepPart.trims ((sameBut_calDue h s).2 .upkeep rfl)

/-- A hearth that falls due notes when, and its grace has not been alarmed. -/
theorem cal_calDue_of_rests (notDue : s.calState h ≠ 2) (notRunning : s.calState h ≠ 3) :
    (s.calDue h).calState h = 2 ∧ (s.calDue h).cal h 41 = s.elapsed + 1 ∧ (s.calDue h).cal h 43 = 0 := by
  rw [calDue_of_rests notDue notRunning]
  simp [State.calState, cal_setCal_ne]

end Due

theorem calibrationIntervalExpired_of_tooOld {s : State} {h : HearthId} (old : s.tooOld h.toNat = true) :
    exec (.calibrationIntervalExpired h) s = .next (s.calDue h.toNat) := congrArg _ (if_pos old)

/-! ### Commands of OD 0x2800 -/

theorem applyCalibrate_idle {s : State} (l : List Nat) (idle : s.calRun = none) :
    s.applyCalibrate l = (0, l.foldl (fun s h => s.calDue h) s) := by
  simp [State.applyCalibrate, idle]

theorem applyCalibrate_busy {s : State} (l : List Nat) (runs : s.calRun ≠ none) : s.applyCalibrate l = (codeBusy, s) :=
  if_pos (Option.isSome_iff_ne_none.mpr runs)

theorem exec_calibrateMasked (rq : Requester) (s : State) : exec (.calibrateMasked rq) s =
    .next (s.access rq .command 0x2800 1 [1] (State.applyCalibrate ((List.range 128).filter (s.mask 0x2800 2)))) := rfl

theorem exec_calibrateAll (rq : Requester) (s : State) : exec (.calibrateAll rq) s =
    .next (s.access rq .command 0x2800 1 [2] (State.applyCalibrate (List.range 128))) := rfl

/-- Settles O23: a trigger tells apart a hearth that rests, one that is due and one that runs. -/
theorem calibrationFallsDue : Obligations.CalibrationFallsDue := by
  intro s
  refine ⟨fun h => ⟨?falls, ?recorded, ?waits, ?young, ?alarmed, ?graced⟩, fun rq ok => ⟨fun idle => ?masked, fun runs => ?maskedBusy⟩,
    fun rq ok => ⟨fun idle => ?all, fun runs => ?allBusy⟩, fun site => ⟨fun free => ?taken, fun busy => ?converts⟩⟩
  case falls =>
    intro old notDue notRunning
    exact ⟨_, calibrationIntervalExpired_of_tooOld old, sameBut_calDue .., cal_calDue_of_rests notDue notRunning⟩
  case recorded =>
    intro old running
    rw [calibrationIntervalExpired_of_tooOld old, calDue_of_running running]
  case waits =>
    intro old due
    rw [calibrationIntervalExpired_of_tooOld old, calDue_of_due due]
  case young =>
    intro young
    exact congrArg _ (if_neg (by simp [young]))
  case alarmed =>
    intro due unalarmed past
    exact congrArg _ (if_pos ⟨due, unalarmed, past⟩)
  case graced =>
    intro graced
    refine congrArg _ (if_neg fun ⟨due, unalarmed, past⟩ => ?_)
    exact graced.elim (· due) fun later => later.elim (· unalarmed) past.not_gt
  case masked => rw [exec_calibrateMasked, access_commanded ok (applyCalibrate_idle _ idle)]
  case maskedBusy => rw [exec_calibrateMasked, access_refused (by decide) ok (applyCalibrate_busy _ runs)]
  case all => rw [exec_calibrateAll, access_commanded ok (applyCalibrate_idle _ idle)]
  case allBusy => rw [exec_calibrateAll, access_refused (by decide) ok (applyCalibrate_busy _ runs)]
  case taken => exact congrArg _ (if_neg (by simp [free]))
  case converts => exact congrArg _ (if_pos busy)

end Sys2Proof.Proofs
end

section

/-! ## Calibration runs (O24; 04 R101 to R104)

The start of a run is a fold that marks its hearths, and the kindles that follow touch neither the run nor the status of a hearth. The three reports of
a run are one equation for each of their branches. -/

namespace Sys2Proof.Proofs

open Sys2Proof.Machine Sys2Proof.Laws

/-! ### Kindles leave the status of every hearth and the run -/

theorem kindleHearth_calRun (h : Nat) (s : State) : (s.kindleHearth h).calRun = s.calRun := rfl

theorem kindleHearth_calState (h : Nat) {g : Nat} (hg : g < 128) (s : State) : (s.kindleHearth h).calState g = s.calState g := by
  have key (y f : Nat) (hy : y < 256) (hf : f < 64) : odKey 0 0x2805 (g + 1) 2 ≠ odKey 0 (0x3000 + h) y f := by
    unfold odKey
    omega
  calc (s.kindleHearth h).calState g
    _ = ((s.setOd (0x3000 + h) 1 0 2).bump (0x3000 + h) 3 0 1).od 0x2805 (g + 1) 2 := rfl
    _ = s.od 0x2805 (g + 1) 2 := by
      rw [od_bump_ne _ _ (key 3 0 (by decide) (by decide)), od_setOd_ne _ _ (key 1 0 (by decide) (by decide))]

theorem kindleThese_calRun (l : List Nat) (s : State) : (s.kindleThese l).calRun = s.calRun :=
  List.foldlRecOn _ _ (motive := fun t => t.calRun = s.calRun) rfl fun t kept h _ => (kindleHearth_calRun h t).trans kept

theorem kindleThese_calState (l : List Nat) {g : Nat} (hg : g < 128) (s : State) : (s.kindleThese l).calState g = s.calState g :=
  List.foldlRecOn _ _ (motive := fun t => t.calState g = s.calState g) rfl fun t kept h _ => (kindleHearth_calState h hg t).trans kept

theorem nextGroup_of_waiting {r : CalRun} (waits : r.waiting ≠ []) (s : State) : s.nextGroup r =
    { s with calRun := some { r with group := r.waiting.take 16, waiting := r.waiting.drop 16, phase := 0 } }.kindleThese (r.waiting.take 16) := by
  unfold State.nextGroup
  split
  next ended => exact absurd ended waits
  next => rfl

/-! ### The start of a run -/

/-- The hearths of a list as a run that starts takes them: RUNNING, with no trigger recorded. -/
def markRunning (l : List Nat) (s : State) : State := l.foldl (fun s h => (s.setCal h 2 3).setCal h 44 0) s

theorem calState_markRunning (l : List Nat) (g : Nat) (s : State) :
    (markRunning l s).calState g = if g ∈ l then 3 else s.calState g := by
  induction l generalizing s with
  | nil => rfl
  | cons h l ih =>
    have one : ((s.setCal h 2 3).setCal h 44 0).calState g = if g = h then 3 else s.calState g := by
      rw [State.calState, cal_setCal_ne 0 (by decide) (by decide) (by simp)]
      split
      next same => rw [same, cal_setCal_same]
      next other => rw [cal_setCal_ne 3 (by decide) (by decide) (other ·.1), State.calState]
    refine (ih _).trans ?_
    rw [one]
    grind

theorem lt_of_mem_runnable {s : State} {h : Nat} (mem : h ∈ s.runnable) : h < 128 := List.mem_range.mp (List.mem_of_mem_filter mem)

/-- The run that takes a list of hearths. -/
def runOf (l : List Nat) : CalRun := { waiting := l, group := [], master := false, phase := 0 }

theorem exec_calibrationRunStart (s : State) : exec .calibrationRunStart s =
    .next (if !s.enabled 13 || !s.mainUp || s.calRun.isSome || s.runnable.isEmpty then s
      else (markRunning s.runnable s).nextGroup (runOf s.runnable)) := rfl

theorem calibrationRunStart_starts {s : State} (enabled : s.enabled 13 = true) (up : s.mainUp = true) (idle : s.calRun = none) (any : s.runnable ≠ []) :
    exec .calibrationRunStart s = .next ((markRunning s.runnable s).nextGroup (runOf s.runnable)) := by
  rw [exec_calibrationRunStart, if_neg (by simp [enabled, up, idle, any])]

theorem calibrationRunStart_waits {s : State} (bars : s.enabled 13 = false ∨ s.mainUp = false ∨ s.calRun ≠ none ∨ s.runnable = []) :
    exec .calibrationRunStart s = .next s := by
  rw [exec_calibrationRunStart, if_pos]
  simpa [or_assoc, Option.isSome_iff_ne_none] using bars

/-! ### The reports of a run -/

/-- The hearths of a run that are not done yet. -/
def hearthsOf (r : CalRun) : List Nat := r.group ++ r.waiting

section Idle

variable {s : State} (idle : s.calRun = none)

include idle

theorem calibrationMasterDone_idle (ppm : Int) (m : BitVec 32) (l : List (HearthId × BitVec 16)) : exec (.calibrationMasterDone ppm m l) s = .next s := by
  change execCalibrationMasterDone ppm m l s = _
  rw [execCalibrationMasterDone, idle]

theorem calibrationPhaseDone_idle (p : CalPhase) (l : List TrimFound) : exec (.calibrationPhaseDone p l) s = .next s := by
  change execCalibrationPhaseDone p l s = _
  rw [execCalibrationPhaseDone, idle]

theorem calibrationGroupDone_idle : exec .calibrationGroupDone s = .next s := by
  change execCalibrationGroupDone s = _
  rw [execCalibrationGroupDone, idle]

end Idle

section Running

variable {s : State} {r : CalRun} (runs : s.calRun = some r)

include runs

theorem exec_calibrationMasterDone (ppm : Int) (m : BitVec 32) (l : List (HearthId × BitVec 16)) : exec (.calibrationMasterDone ppm m l) s =
    .next (if r.master then s
      else if 20000 < ppm.natAbs then
        ((hearthsOf r).foldl (fun s h => State.setCal h 2 2 s) { s.setOd 0x2809 0 0 (ofSigned 32 ppm) with calRun := none }).calRecord
          ((hearthsOf r).headD 0) true
      else
        { s.setOd 0x2809 0 0 (ofSigned 32 ppm) with
            calRun := some { r with master := true }, masterTrim := m.toNat,
            hearthTrim := (l.filter fun e => (hearthsOf r).contains e.1.toNat).foldl (fun t e => t.put 0 e.1.toNat e.2.toNat) s.hearthTrim }) := by
  change execCalibrationMasterDone ppm m l s = _
  rw [execCalibrationMasterDone, runs]
  rfl

theorem exec_calibrationPhaseDone (p : CalPhase) (l : List TrimFound) : exec (.calibrationPhaseDone p l) s =
    .next (if !r.master || r.phase != calOrder p then s
      else
        let found := (l.filter fun f => r.group.contains (f.site.toNat / 512)).foldl (fun s f => s.takeTrim p f) s
        let ended := if p = .deckRef then r.group.foldl (fun s h => s.setTCal h (s.calTemp h)) found else found
        { ended with calRun := some { r with phase := r.phase + 1 } }) := by
  change execCalibrationPhaseDone p l s = _
  rw [execCalibrationPhaseDone, runs]

theorem exec_calibrationGroupDone : exec .calibrationGroupDone s =
    .next (if r.phase ≠ 3 then s
      else
        let u := ((r.group.foldl (fun s h => ((s.setCal h 1 s.now).bump 0x2805 (h + 1) 3 1).calDone h) s).nextGroup r).endCover
        { u with steep := u.steep.map fun (j : SteepJob) => { j with calFirst := j.calFirst.filter fun h => !r.group.contains h } }.settleSteep) := by
  change execCalibrationGroupDone s = _
  rw [execCalibrationGroupDone, runs]

end Running

/-- Settles O24: a run starts with its first group, and each report of a run takes one branch of its equation. -/
theorem calibrationRunsInPhases : Obligations.CalibrationRunsInPhases := by
  intro s
  refine ⟨fun enabled up idle any => ?starts, calibrationRunStart_waits, fun idle => ?idle,
    fun r runs => ⟨fun ppm m l => ⟨?again, ?stored, ?off⟩, fun p l => ⟨fun master next => ?phase, fun early => ?outOfOrder⟩, ?done, ?early⟩⟩
  case starts =>
    have first : (markRunning s.runnable s).nextGroup (runOf s.runnable) = _ := nextGroup_of_waiting any _
    have runs := calibrationRunStart_starts enabled up idle any
    refine ⟨_, runs, pending_of_next runs, ?_, fun h mem => ?_⟩
    · rw [first, kindleThese_calRun]
      rfl
    · rw [first, kindleThese_calState _ (lt_of_mem_runnable mem)]
      exact (calState_markRunning ..).trans (if_pos mem)
  case idle => exact ⟨calibrationMasterDone_idle idle, calibrationPhaseDone_idle idle, calibrationGroupDone_idle idle⟩
  case again => exact fun master => by rw [exec_calibrationMasterDone runs, if_pos master]
  case stored =>
    intro master close
    rw [exec_calibrationMasterDone runs, if_neg (by simp [master]), if_neg (by omega)]
    rfl
  case off =>
    intro master far
    rw [exec_calibrationMasterDone runs, if_neg (by simp [master]), if_pos far]
    rfl
  case phase => rw [exec_calibrationPhaseDone runs, if_neg (by simp [master, next])]
  case outOfOrder => rw [exec_calibrationPhaseDone runs, if_pos (by simpa using early)]
  case done => exact fun last => by rw [exec_calibrationGroupDone runs, if_neg (by simp [last])]
  case early => exact fun before => by rw [exec_calibrationGroupDone runs, if_pos before]

end Sys2Proof.Proofs
end

section

/-! ## Calibration images (O25; 04 R105 to R107)

A write of an image has four answers, tested in order, and a hearth is restored only where each of its checks passes. -/

namespace Sys2Proof.Proofs

open Sys2Proof.Machine Sys2Proof.Laws

/-! ### The write of an image (R105, R106) -/

theorem exec_calibrationImageWrite (rq : Requester) (img : List Byte) (s : State) : exec (.calibrationImageWrite rq img) s =
    .next (s.access rq .write 0x2808 0 img (State.applyCalImage img)) := rfl

section Write

variable {s : State} (img : List Byte)

theorem applyCalImage_serving (ready : s.ready = true) (role : s.od 0x4100 1 0 ≠ 3) : s.applyCalImage img = (codeState, s) :=
  if_pos (by simp [ready, role])

variable (rests : s.ready = false ∨ s.od 0x4100 1 0 = 3)

include rests

theorem applyCalImage_rests : s.applyCalImage img =
    if s.calRun.isSome || s.steep.isSome || s.calImage != [] then (codeBusy, s)
    else if !s.calHeaderGood img then (codeFormat, s) else (0, { s with calImage := img }) :=
  if_neg (by simpa [or_iff_not_imp_left] using rests)

theorem applyCalImage_busy (busy : s.calRun ≠ none ∨ s.steep ≠ none ∨ s.calImage ≠ []) : s.applyCalImage img = (codeBusy, s) := by
  rw [applyCalImage_rests img rests, if_pos]
  simpa [or_assoc, Option.isSome_iff_ne_none] using busy

variable (noRun : s.calRun = none) (noSteep : s.steep = none) (noImage : s.calImage = [])

include noRun noSteep noImage

theorem applyCalImage_judged : s.applyCalImage img = if s.calHeaderGood img then (0, { s with calImage := img }) else (codeFormat, s) := by
  rw [applyCalImage_rests img rests, if_neg (by simp [noRun, noSteep, noImage])]
  cases s.calHeaderGood img <;> rfl

end Write

/-! ### The image is applied (R107) -/

theorem exec_calibrationImageApplied (s : State) : exec .calibrationImageApplied s =
    .next (if s.calImage = [] then s
      else ((List.range 128).foldl (fun (t : State) h => t.restoreHearth s.calImage h)
        { s with calImage := [], masterTrim := leAt s.calImage 24 4 }).calTriggers) := rfl

/-- The record of a site in the block of its hearth. -/
def siteIn (b : List Byte) (i : Nat) : List Byte := slice (32 + 144 * i) 144 b

/-- Every check of R107 on the block of a hearth passes. -/
def blockGood (s : State) (b : List Byte) (h : Nat) : Bool :=
  isSealed (b.take 32) && leAt b 2 1 == 1 &&
    (List.range 512).all fun i => isSealed (siteIn b i) && leAt (siteIn b i) 138 2 == s.steepSerial (512 * h + i)

theorem restoreHearth_of_bad {s : State} {img : List Byte} {h : Nat} (bad : blockGood s (slice (blockAt h) 73760 img) h = false) :
    s.restoreHearth img h = s.calDue h := if_pos (congrArg (!·) bad)

theorem blockGood_eq_false {s : State} {b : List Byte} {h : Nat} (bad : isSealed (b.take 32) = false ∨ leAt b 2 1 ≠ 1 ∨
    ∃ i < 512, isSealed (siteIn b i) = false ∨ leAt (siteIn b i) 138 2 ≠ s.steepSerial (512 * h + i)) : blockGood s b h = false := by
  rw [Bool.eq_false_iff]
  intro good
  simp only [blockGood, Bool.and_eq_true, List.all_eq_true, List.mem_range, beq_iff_eq] at good
  obtain ⟨⟨head, valid⟩, sites⟩ := good
  obtain unsealed | invalid | ⟨i, hi, unsealed | other⟩ := bad
  · exact Bool.eq_false_iff.mp unsealed head
  · exact invalid valid
  · exact Bool.eq_false_iff.mp unsealed (sites i hi).1
  · exact other (sites i hi).2

/-- Settles O25: a block that fails a check makes its hearth due, which changes no trim. -/
theorem calibrationImagesRestore : Obligations.CalibrationImagesRestore := by
  intro s
  refine ⟨fun rq img ok => ⟨fun ready role => ?serving, fun rests => ⟨fun busy => ?busy, fun noRun noSteep noImage => ⟨fun bad => ?bad, fun good => ?taken⟩⟩⟩,
    fun empty => ?empty, fun held => ?applied, fun img h bad => ⟨restoreHearth_of_bad (blockGood_eq_false bad), trims_calDue h s⟩⟩
  case serving => rw [exec_calibrationImageWrite, access_refused (by decide) ok (applyCalImage_serving img ready role)]
  case busy => rw [exec_calibrationImageWrite, access_refused (by decide) ok (applyCalImage_busy img rests busy)]
  case bad =>
    have judged := applyCalImage_judged img rests noRun noSteep noImage
    rw [bad] at judged
    rw [exec_calibrationImageWrite, access_refused (by decide) ok judged]
  case taken =>
    have judged := applyCalImage_judged img rests noRun noSteep noImage
    rw [good] at judged
    rw [exec_calibrationImageWrite, access_written ok judged]
  case empty => rw [exec_calibrationImageApplied, if_pos empty]
  case applied => rw [exec_calibrationImageApplied, if_neg held]

end Sys2Proof.Proofs
end

section

/-! ## Steeps begin and load (O55; 05 R112 to R118, R128, R131)

A steep command is refused by the first bar that stands, and each bar has an equation of its own. While a steep runs, what arrives for it is an equation
over its job: a head is judged, a chunk does not count, is held, or is taken in a job that no longer holds it. -/

namespace Sys2Proof.Proofs

open Sys2Proof.Machine Sys2Proof.Laws

/-! ### Commands that begin a steep (OD 0x5020; R113, R115, R118) -/

theorem exec_steepHostDma (rq : Requester) (s : State) : exec (.steepHostDma rq) s =
    .next (s.access rq .command 0x5020 0 [1] (State.applyHostSteep rq)) := rfl

theorem exec_steepFabric (rq : Requester) (s : State) : exec (.steepFabric rq) s = .next (s.access rq .command 0x5020 0 [2] (State.applySteep 2 .a)) := rfl

theorem exec_selfRefresh (rq : Requester) (s : State) : exec (.selfRefresh rq) s = .next (s.access rq .command 0x5020 0 [3] State.applyRefresh) := rfl

theorem exec_steepAbort (rq : Requester) (s : State) : exec (.steepAbort rq) s =
    .next (s.access rq .command 0x5020 0 [4] fun s => (0, s.steepFails 9)) := rfl

section Access

variable {i : Instr} {rq : Requester} {x y : Nat} {d : List Byte} {f : State → Nat × State} {s t : State}
  (performs : exec i s = .next (s.access rq .command x y d f)) (ok : Accepted s rq .command x y d)

include performs ok

/-- A command whose object refuses it answers its code. -/
theorem exec_answers {c : Nat} (hc : c ≠ 0) (refuses : f s = (c, s)) : exec i s = .next (s.answer rq c) := by
  rw [performs, access_refused hc ok refuses]

/-- A command that its object performs is shown. -/
theorem exec_commands (does : f s = (0, t)) : exec i s = .next (t.commanded rq x y d) := by
  rw [performs, access_commanded ok does]

end Access

/-- A steep begun with the frames of its staging. -/
def begun (kind : Nat) (p : HostPort) (f : Nat × Nat) (s : State) : State := { s.beginSteep kind p with staging := f }.relieve

/-- The host port of a requester's lists. -/
def portOf (rq : Requester) : HostPort := if rq = .hostB then .b else .a

/-- A list of OD 0x5022 that is too short or too long (R115). -/
def listBad (s : State) : Prop := s.od 0x5022 0 0 = 0 ∨ 4096 < s.od 0x5022 0 0

section Begin

variable {s : State} (kind : Nat) (p : HostPort)

theorem applySteep_lost (lost : s.islandLost = true) : s.applySteep kind p = (islandLostReason, s) := if_pos lost

variable (here : s.islandLost = false)

include here

theorem applySteep_here : s.applySteep kind p = if s.steep.isSome then (codeBusy, s) else
    match s.reserveStaging with
    | none => (codeResource, s)
    | some f => (0, begun kind p f s) :=
  if_neg (by simp [here])

theorem applySteep_busy (runs : s.steep.isSome = true) : s.applySteep kind p = (codeBusy, s) := by
  rw [applySteep_here kind p here, if_pos runs]

theorem applySteep_full (idle : s.steep = none) (full : s.reserveStaging = none) : s.applySteep kind p = (codeResource, s) := by
  rw [applySteep_here kind p here, if_neg (by simp [idle]), full]

theorem applySteep_begins (idle : s.steep = none) {f : Nat × Nat} (room : s.reserveStaging = some f) :
    s.applySteep kind p = (0, begun kind p f s) := by
  rw [applySteep_here kind p here, if_neg (by simp [idle]), room]

end Begin

section HostList

variable {s : State} {rq : Requester}

theorem applyHostSteep_sideBand : s.applyHostSteep .sideBand = (codeAccess, s) := rfl

variable (host : rq ≠ .sideBand)

include host

theorem applyHostSteep_badList (bad : listBad s) : s.applyHostSteep rq = (codeFormat, s) := (if_neg host).trans (if_pos bad)

variable (good : ¬ listBad s)

include good

theorem applyHostSteep_listed : s.applyHostSteep rq =
    let begins := s.applySteep 1 (portOf rq)
    if begins.1 ≠ 0 then begins
    else (0, begins.2.hostRead (portOf rq) (begins.2.od 0x5021 0 0) (16 * s.od 0x5022 0 0) .scatter) :=
  (if_neg host).trans (if_neg good)

theorem applyHostSteep_refused {c : Nat} (hc : c ≠ 0) (refused : s.applySteep 1 (portOf rq) = (c, s)) : s.applyHostSteep rq = (c, s) := by
  rw [applyHostSteep_listed host good, refused]
  exact if_pos hc

theorem applyHostSteep_begins {t : State} (begins : s.applySteep 1 (portOf rq) = (0, t)) :
    s.applyHostSteep rq = (0, t.hostRead (portOf rq) (t.od 0x5021 0 0) (16 * s.od 0x5022 0 0) .scatter) := by
  rw [applyHostSteep_listed host good, begins]
  rfl

end HostList

/-! ### Self-refresh (R128, R129) -/

/-- The hearths of OD 0x5024. -/
def maskedHearths (s : State) : List Nat := (List.range 128).filter (s.mask 0x5024 0)

/-- An array of a self-refresh, before its level read. -/
def refreshOf (s : State) (a : Nat) : SteepArray :=
  { array := a, chunk := 0, layer := s.recLayer a, gen := s.recGen a, format := s.recFormat a, flags := s.recFlags a, rows := [], scales := [],
    phase := 0, row := 0, iter := 0, failed := [] }

/-- The arrays that a self-refresh takes. -/
def refreshArrays (s : State) : List Nat := (maskedHearths s).flatMap s.completeArrays

/-- A self-refresh begun, with its arrays or the failure that bars them. -/
def refreshBegun (s : State) : State :=
  let u := s.beginSteep 3 .a
  if u.steepRefusal (refreshArrays s) ≠ 0 then u.steepFails (u.steepRefusal (refreshArrays s))
  else
    ((((u.modSteep fun j => { j with arrays := (refreshArrays s).map (refreshOf u) }).setOd 0x5025 0 0 2).setOd 0x5025 0 2 (refreshArrays s).length).heat
      (refreshArrays s)).steepProgress

section Refresh

variable {s : State}

theorem applyRefresh_lost (lost : s.islandLost = true) : s.applyRefresh = (islandLostReason, s) := if_pos lost

variable (here : s.islandLost = false)

include here

theorem applyRefresh_busy (runs : s.steep.isSome = true) : s.applyRefresh = (codeBusy, s) := (if_neg (by simp [here])).trans (if_pos runs)

variable (idle : s.steep = none)

include idle

theorem applyRefresh_here : s.applyRefresh = if (maskedHearths s).any fun h => s.driftPast h 0x3112 then (codeState, s) else (0, refreshBegun s) := by
  refine (if_neg (by simp [here])).trans ((if_neg (by simp [idle])).trans (if_congr Iff.rfl rfl ?_))
  exact (apply_ite (Prod.mk 0) _ _ _).symm

theorem applyRefresh_drifted (past : ∃ h ∈ maskedHearths s, s.driftPast h 0x3112 = true) : s.applyRefresh = (codeState, s) := by
  rw [applyRefresh_here here idle, if_pos (List.any_eq_true.mpr past)]

theorem applyRefresh_begins (within : ∀ h ∈ maskedHearths s, s.driftPast h 0x3112 = false) : s.applyRefresh = (0, refreshBegun s) := by
  rw [applyRefresh_here here idle, if_neg (by simpa using within)]

end Refresh

/-! ### What arrives for a steep that runs -/

theorem modSteep_of_some {s : State} {j : SteepJob} (runs : s.steep = some j) (f : SteepJob → SteepJob) :
    s.modSteep f = { s with steep := some (f j) } := by
  simp [State.modSteep, runs]

/-- Nothing of an image is awaited, and no steep fails, where none runs. -/
theorem steep_idle {s : State} (idle : s.steep = none) (outcome : Nat) : s.steepFails outcome = s ∧ (∀ h, exec (.steepSignatureVerify h) s = .next s) ∧
    (∀ i b, exec (.steepChunkArrival i b) s = .next s) ∧ exec .steepSourceTimeout s = .next s ∧ ∀ p i c, exec (.repair p i c) s = .next s := by
  refine ⟨?_, fun h => ?_, fun i b => ?_, ?_, fun p i c => ?_⟩
  · rw [State.steepFails, idle]
  · change execSteepSignatureVerify h s = _
    rw [execSteepSignatureVerify, idle]
  · change execSteepChunkArrival i b s = _
    rw [execSteepChunkArrival, State.takeChunk, idle]
  · change execSteepSourceTimeout s = _
    rw [execSteepSourceTimeout, idle]
  · change execRepair p i c s = _
    rw [execRepair, idle]

/-- A job whose image's head has passed its checks. -/
def headed (s : State) (j : SteepJob) (head : List Byte) : SteepJob := { j with head := head, lastAt := s.elapsed }

/-- The island is asked for the content key of an image (21 R487). -/
def keyAsked (u : State) (head w : List Byte) : State :=
  u.sendToIsland false 8 0 (slice 56 133 head ++ leBytes 8 (imgId head) ++ leBytes 8 u.serial ++ w)

/-- A chunk counts: the image is verified and the chunk still missing (R113). -/
def Counts (j : SteepJob) (n : Nat) : Prop := j.kind ≠ 3 ∧ j.verified = true ∧ n < imgChunks j.head ∧ n ∉ j.got

/-- A job as a chunk comes to it that it no longer holds. -/
def takenIn (s : State) (j : SteepJob) (n : Nat) : SteepJob := { j with lastAt := s.elapsed, held := j.held.filter fun e => e.1 != n }

/-- The array that a good chunk brings to staging. -/
def stagedArray (j : SteepJob) (n : Nat) (rows : List (List Byte)) (scales : List Byte) : SteepArray :=
  let e := chunkEntry j.head n
  { array := e.array, chunk := n, layer := e.layer, gen := (((layerEntries j.head).find? fun l => l.1 == e.layer).map (·.2.1)).getD 0, format := e.format,
    flags := e.flags % 2, rows := rows, scales := scales, phase := 0, row := 0, iter := 0, failed := [] }

/-- A source is silent: a head or chunks are to come, staging is not full, and none has come for 100 ms (R117). -/
def Silent (s : State) (j : SteepJob) : Prop :=
  j.kind ≠ 3 ∧ (j.verified = false ∨ j.got.length < imgChunks j.head) ∧ s.stagingFull j = false ∧ j.lastAt + 100000000 ≤ s.elapsed

/-- The chunk that a repair asks for, where staging still holds it. -/
def stagedChunk (j : SteepJob) (chunk : Nat) : Option SteepArray := j.arrays.find? fun a => a.chunk == chunk && a.phase ≤ 1

/-- A chunk as published, made again from staging (R111). -/
def chunkAgain (image : Nat) (a : SteepArray) : List Byte :=
  leBytes 4 a.array ++ leBytes 1 a.format ++ leBytes 1 a.flags ++ leBytes 2 a.layer ++ leBytes 4 a.gen ++ leBytes 4 a.chunk ++ leBytes 8 image ++
    List.replicate 40 0 ++ a.rows.flatten ++ a.scales ++ List.replicate 16 0

section Runs

variable {s : State} {j : SteepJob} (runs : s.steep = some j)

include runs

/-! The head (R112, R114) -/

theorem exec_steepSignatureVerify (head : List Byte) : exec (.steepSignatureVerify head) s =
    .next (if j.kind = 3 ∨ j.verified = true ∨ j.head ≠ [] then s
      else if !headGood head || (j.kind == 2 && imgId head != j.image) then s.steepFails 3
      else if !s.signatureGood head then s.steepFails 1
      else
        let u := { s with steep := some (headed s j head) }
        if !imgEncrypted head then u.openLoading
        else match u.recipient head with
          | none => u.steepFails 2
          | some w => keyAsked u head w) := by
  change execSteepSignatureVerify head s = _
  rw [execSteepSignatureVerify, runs]
  dsimp only
  rw [modSteep_of_some runs]
  rfl

theorem steepSignatureVerify_again {head : List Byte} (again : j.kind = 3 ∨ j.verified = true ∨ j.head ≠ []) :
    exec (.steepSignatureVerify head) s = .next s := by
  rw [exec_steepSignatureVerify runs, if_pos again]

variable {head : List Byte} (image : j.kind ≠ 3) (unverified : j.verified = false) (first : j.head = [])

include image unverified first

theorem steepSignatureVerify_badHead (bad : headGood head = false ∨ (j.kind = 2 ∧ imgId head ≠ j.image)) :
    exec (.steepSignatureVerify head) s = .next (s.steepFails 3) := by
  rw [exec_steepSignatureVerify runs, if_neg (by simp [image, unverified, first]), if_pos (by simpa using bad)]

theorem steepSignatureVerify_goodHead (good : headGood head = true) (own : j.kind = 2 → imgId head = j.image) :
    let u := { s with steep := some (headed s j head) }
    exec (.steepSignatureVerify head) s = .next (if s.signatureGood head = false then s.steepFails 1
      else if imgEncrypted head then ((u.recipient head).map (keyAsked u head)).getD (u.steepFails 2) else u.openLoading) := by
  intro u
  rw [exec_steepSignatureVerify runs, if_neg (by simp [image, unverified, first]), if_neg (by simpa [good] using own)]
  cases s.signatureGood head with
  | false => rfl
  | true =>
    cases imgEncrypted head with
    | false => rfl
    | true =>
      dsimp only [Bool.not_true]
      cases u.recipient head <;> rfl

end Runs

section Chunk

variable {s : State} {j : SteepJob} (runs : s.steep = some j) {n : Nat} {b : List Byte}

include runs

/-! Chunks (R113, R116, R117) -/

theorem takeChunk_discarded (not : ¬ Counts j n) : s.takeChunk n b = s := by
  unfold State.takeChunk
  rw [runs]
  refine if_pos ?_
  simp only [Counts, not_and_or, not_not, not_lt] at not
  simpa using not

variable (counts : Counts j n)

include counts

theorem takeChunk_counted : s.takeChunk n b =
    if s.stagingFull j then (if j.held.any (fun e => e.1 == n) then s else { s with steep := some { j with held := j.held ++ [(n, b)] } })
    else
      let u := { s with steep := some (takenIn s j n) }
      match chunkContents j.head j.key n b with
      | .error e => if j.kind = 1 ∧ e = 3 then u.steepFails 3 else if j.again.contains n then u.steepFails 4 else u.askAgain n j
      | .ok (rows, scales) =>
        State.readOn (State.steepProgress
          { u with steep := some { takenIn s j n with got := j.got ++ [n], arrays := j.arrays ++ [stagedArray j n rows scales] } }) := by
  obtain ⟨image, verified, named, missing⟩ := counts
  unfold State.takeChunk
  rw [runs]
  dsimp only
  rw [if_neg (by simp [image, verified, named, missing]), modSteep_of_some runs, modSteep_of_some runs]
  rfl

theorem takeChunk_held_once (full : s.stagingFull j = true) (held : ∃ e ∈ j.held, e.1 = n) : s.takeChunk n b = s := by
  rw [takeChunk_counted runs counts, if_pos full, if_pos (by simpa using held)]

theorem takeChunk_held (full : s.stagingFull j = true) (new : ∀ e ∈ j.held, e.1 ≠ n) :
    s.takeChunk n b = { s with steep := some { j with held := j.held ++ [(n, b)] } } := by
  rw [takeChunk_counted runs counts, if_pos full, if_neg (by simpa [List.any_eq_true] using fun x h => new (n, x) h rfl)]

theorem takeChunk_bad (room : s.stagingFull j = false) {e : Nat} (bad : chunkContents j.head j.key n b = .error e) :
    let u := { s with steep := some (takenIn s j n) }
    s.takeChunk n b = if j.kind = 1 ∧ e = 3 then u.steepFails 3 else if j.again.contains n then u.steepFails 4 else u.askAgain n j := by
  rw [takeChunk_counted runs counts, if_neg (by simp [room]), bad]

theorem takeChunk_good (room : s.stagingFull j = false) {rows : List (List Byte)} {scales : List Byte}
    (good : chunkContents j.head j.key n b = .ok (rows, scales)) :
    s.takeChunk n b = State.readOn (State.steepProgress
      { s with steep := some { takenIn s j n with got := j.got ++ [n], arrays := j.arrays ++ [stagedArray j n rows scales] } }) := by
  rw [takeChunk_counted runs counts, if_neg (by simp [room]), good]

end Chunk

section Source

variable {s : State} {j : SteepJob} (runs : s.steep = some j)

include runs

/-! Silence (R117) and repairs (R115, R116) -/

theorem exec_steepSourceTimeout : exec .steepSourceTimeout s =
    .next (if j.kind != 3 && (!j.verified || decide (j.got.length < imgChunks j.head)) && !s.stagingFull j && decide (j.lastAt + 100000000 ≤ s.elapsed)
      then s.steepFails 5 else s) := by
  change execSteepSourceTimeout s = _
  rw [execSteepSourceTimeout, runs]

theorem steepSourceTimeout_silent (silent : Silent s j) : exec .steepSourceTimeout s = .next (s.steepFails 5) := by
  obtain ⟨image, awaits, room, late⟩ := silent
  rw [exec_steepSourceTimeout runs, if_pos (by simp [image, awaits, room, late])]

theorem steepSourceTimeout_heard (heard : ¬ Silent s j) : exec .steepSourceTimeout s = .next s := by
  rw [exec_steepSourceTimeout runs, if_neg (fun due => heard (by simpa [Silent, and_assoc] using due))]

variable (src : BitVec 16) {image : BitVec 64} {chunk : BitVec 32}

theorem repair_declined (unstaged : imgId j.head ≠ image.toNat ∨ imgEncrypted j.head = true ∨ stagedChunk j chunk.toNat = none) :
    exec (.repair src image chunk) s = .next s := by
  change execRepair src image chunk s = _
  rw [execRepair, runs]
  refine congrArg _ ?_
  dsimp only
  split
  next => rfl
  next own =>
    obtain other | hidden | absent := unstaged
    · exact absurd (.inl other) own
    · exact absurd (.inr hidden) own
    · rw [stagedChunk] at absent
      rw [absent]

theorem repair_answered {a : SteepArray} (own : imgId j.head = image.toNat) (clear : imgEncrypted j.head = false)
    (staged : stagedChunk j chunk.toNat = some a) : exec (.repair src image chunk) s =
      .next (s.send { kind := 5, cls := 2, targets := [65536 * (s.endpoint / 65536) + src.toNat], payload := chunkAgain image.toNat a }).2 := by
  rw [stagedChunk] at staged
  change execRepair src image chunk s = _
  rw [execRepair, runs]
  dsimp only
  rw [if_neg (by simp [own, clear]), staged]
  rfl

end Source

/-- Settles O55: each command that begins a steep is refused by the first bar that stands, and what arrives is judged by the job. -/
theorem steepsBeginAndLoad : Obligations.SteepsBeginAndLoad := by
  intro s
  refine ⟨fun rq => ⟨fun ok => ⟨?sideBand, ?badList, fun host low high => ?hostDma⟩, fun ok => ?fabric, fun ok => ?refresh, fun ok => ?abort⟩,
    fun idle => steep_idle idle 9, fun j runs => ⟨fun head => ⟨steepSignatureVerify_again runs, fun image unverified first =>
      ⟨steepSignatureVerify_badHead runs image unverified first, steepSignatureVerify_goodHead runs image unverified first⟩⟩,
      fun i b => ⟨?discarded, ?full, ?taken⟩, ⟨steepSourceTimeout_silent runs, steepSourceTimeout_heard runs⟩,
      fun src image chunk => ⟨repair_declined runs src, fun a => repair_answered runs src⟩⟩⟩
  case sideBand =>
    rintro rfl
    exact exec_answers (exec_steepHostDma ..) ok (by decide) applyHostSteep_sideBand
  case badList => exact fun host bad => exec_answers (exec_steepHostDma ..) ok (by decide) (applyHostSteep_badList host bad)
  case hostDma =>
    have good : ¬ listBad s := fun bad => bad.elim low.ne' high.not_gt
    have answers {c : Nat} (hc : c ≠ 0) (bar : s.applySteep 1 (portOf rq) = (c, s)) : exec (.steepHostDma rq) s = .next (s.answer rq c) :=
      exec_answers (exec_steepHostDma ..) ok hc (applyHostSteep_refused host good hc bar)
    exact ⟨fun lost => answers (by decide) (applySteep_lost _ _ lost), fun here runs => answers (by decide) (applySteep_busy _ _ here runs),
      fun here idle full => answers (by decide) (applySteep_full _ _ here idle full),
      fun f here idle room => exec_commands (exec_steepHostDma ..) ok (applyHostSteep_begins host good (applySteep_begins _ _ here idle room))⟩
  case fabric =>
    have answers {c : Nat} := exec_answers (c := c) (exec_steepFabric rq s) ok
    exact ⟨fun lost => answers (by decide) (applySteep_lost _ _ lost), fun here runs => answers (by decide) (applySteep_busy _ _ here runs),
      fun here idle full => answers (by decide) (applySteep_full _ _ here idle full),
      fun f here idle room => exec_commands (exec_steepFabric ..) ok (applySteep_begins _ _ here idle room)⟩
  case refresh =>
    have answers {c : Nat} := exec_answers (c := c) (exec_selfRefresh rq s) ok
    exact ⟨fun lost => answers (by decide) (applyRefresh_lost lost), fun here runs => answers (by decide) (applyRefresh_busy here runs),
      fun here idle past => answers (by decide) (applyRefresh_drifted here idle past),
      fun here idle within => exec_commands (exec_selfRefresh ..) ok (applyRefresh_begins here idle within)⟩
  case abort => exact exec_commands (exec_steepAbort ..) ok rfl
  case discarded => exact fun not => congrArg _ (takeChunk_discarded runs not)
  case full =>
    exact fun counts full => ⟨fun held => congrArg _ (takeChunk_held_once runs counts full held),
      fun new => congrArg _ (takeChunk_held runs counts full new)⟩
  case taken =>
    intro counts room
    cases contents : chunkContents j.head j.key i.toNat b with
    | error e => exact congrArg _ (takeChunk_bad runs counts room contents)
    | ok body => exact congrArg _ (takeChunk_good runs counts room contents)

end Sys2Proof.Proofs
end

section

/-! ## What the upkeep of the stage leaves to the arrays (03 R55; 06 R134, R135)

A change of an array's state lets the layer slots, the stage generation, the drafts and the pair follow, and these report over the fabric. All of it
leaves the arrays as they were: `arrayView` is what an array is seen by, and each operation under `refreshStage` keeps it. -/

namespace Sys2Proof.Proofs

open Sys2Proof.Machine Sys2Proof.Laws

/-- Time, the hearth die with its weights and scales, the stacks' bytes, the steep and the waiting remaps, and of each array its state and its program
record. -/
structure ArrayView where
  clock : ClockPart
  hearth : HearthPart
  upkeep : UpkeepPart
  stack : Tab Byte
  state : Nat → Nat
  record : Nat → Fin 64 → Nat

def arrayView (s : State) : ArrayView where
  clock := s.toClockPart
  hearth := s.toHearthPart
  upkeep := s.toUpkeepPart
  stack := s.stack
  state := s.arrayState
  record a f := s.odAt a 0x3107 0 f

/-! ### The dictionary -/

/-- Keys of array states and of program records. -/
def ArrayKey (k : Nat) : Prop := ∃ a x f, (x = 0x3105 ∨ x = 0x3107) ∧ f < 64 ∧ k = odKey a x 0 f

/-- Fields of other objects have other keys. -/
theorem not_arrayKey {x y f : Nat} (h : x < 65536 ∧ y < 256 ∧ f < 64 ∧ x ≠ 0x3105 ∧ x ≠ 0x3107) : ¬ ArrayKey (odKey 0 x y f) := by
  rintro ⟨a, x', g, hx', hg, eq⟩
  unfold odKey at eq
  omega

/-- Those keys are of subindex 0. -/
theorem not_arrayKey_sub {x y f : Nat} (h : 0 < y ∧ y < 256 ∧ f < 64) : ¬ ArrayKey (odKey 0 x y f) := by
  rintro ⟨a, x', g, hx', hg, eq⟩
  unfold odKey at eq
  omega

theorem arrayView_congr {s t : State} (clock : t.toClockPart = s.toClockPart) (hearth : t.toHearthPart = s.toHearthPart)
    (upkeep : t.toUpkeepPart = s.toUpkeepPart) (stack : t.stack = s.stack)
    (objects : ∀ {a x f : Nat}, x = 0x3105 ∨ x = 0x3107 → f < 64 → t.odAt a x 0 f = s.odAt a x 0 f) : arrayView t = arrayView s := by
  have state : t.arrayState = s.arrayState := funext fun a => objects (.inl rfl) (by decide)
  have record : (fun (a : Nat) (f : Fin 64) => t.odAt a 0x3107 0 f) = fun (a : Nat) (f : Fin 64) => s.odAt a 0x3107 0 f :=
    funext fun a => funext fun f => objects (.inr rfl) f.isLt
  unfold arrayView
  rw [clock, hearth, upkeep, stack, state, record]

theorem arrayView_setOd {x y f : Nat} (other : ¬ ArrayKey (odKey 0 x y f)) (v : Nat) (s : State) : arrayView (s.setOd x y f v) = arrayView s :=
  arrayView_congr rfl rfl rfl rfl fun hx hf => odAt_setOdAt_ne s v fun eq => other ⟨_, _, _, hx, hf, eq.symm⟩

theorem arrayView_bump {x y f : Nat} (other : ¬ ArrayKey (odKey 0 x y f)) (n : Nat) (s : State) : arrayView (s.bump x y f n) = arrayView s :=
  arrayView_setOd other _ s

/-! ### Composition -/

theorem arrayView_ite (c : Prop) [Decidable c] {s t u : State} (ht : arrayView t = arrayView s) (hu : arrayView u = arrayView s) :
    arrayView (if c then t else u) = arrayView s := by
  split <;> assumption

theorem arrayView_foldl {α : Type} {f : State → α → State} (keeps : ∀ s a, arrayView (f s a) = arrayView s) (l : List α) (s : State) :
    arrayView (l.foldl f s) = arrayView s :=
  List.foldlRecOn l f (motive := fun t => arrayView t = arrayView s) rfl fun t kept a _ => (keeps t a).trans kept

/-! ### Records and the journal -/

theorem arrayView_of_quiet {s t : State} (q : Quiet s t) : arrayView t = arrayView s := by
  refine arrayView_congr q.clock q.hearth q.upkeep (congrArg MemoryPart.stack q.memory) fun hx hf => ?_
  exact q.od _ _ 0 _ (by omega) (by decide) hf (by obtain rfl | rfl := hx <;> rfl)

theorem arrayView_raise (r : Raise) (s : State) : arrayView (s.raise r) = arrayView s := arrayView_of_quiet (quiet_raise r s)

theorem arrayView_journaled (k n : Nat) (s : State) : arrayView (s.journaled k n) = arrayView s :=
  arrayView_ite _ rfl (arrayView_ite _ rfl (arrayView_raise ..))

/-! ### The fabric's sending side -/

theorem arrayView_emit (o : Out) (s : State) : arrayView (s.emit o) = arrayView s := rfl

theorem arrayView_setPort (p : Nat) (x : Port) (s : State) : arrayView (s.setPort p x) = arrayView s := rfl

theorem arrayView_pump (p n : Nat) (s : State) : arrayView (s.pump p n) = arrayView s := by
  have sent (s : State) (x : Port) (o : Out) : arrayView (((s.setPort p x).bump (0x4000 + p) 6 0 1).emit o) = arrayView s :=
    (arrayView_emit o _).trans ((arrayView_bump (not_arrayKey_sub (by decide)) 1 _).trans (arrayView_setPort p x s))
  induction n generalizing s with
  | zero => rfl
  | succ n ih =>
    unfold State.pump
    dsimp only
    split
    · rfl
    · split
      · rfl
      · exact (ih _).trans (sent ..)

theorem arrayView_queueFrames (p : Nat) (fs : List LinkFrame) (s : State) : arrayView (s.queueFrames p fs) = arrayView s := arrayView_pump ..

theorem arrayView_send (m : Message) (s : State) : arrayView (s.send m).2 = arrayView s := by
  have counts {f : Nat} (hf : f < 64) (t : State) : arrayView (t.bump 0x4202 0 f 1) = arrayView t :=
    arrayView_bump (not_arrayKey (by omega)) 1 t
  unfold State.send
  split
  · rfl
  · dsimp only
    split
    · split
      · rfl
      · exact (arrayView_raise ..).trans (counts (by decide) s)
    · exact (arrayView_queueFrames ..).trans (counts (by decide) _)

theorem arrayView_sendEach (m : Message) (l : List Nat) (s : State) : arrayView (s.sendEach m l) = arrayView s := by
  induction l generalizing s with
  | nil => rfl
  | cons d l ih => exact (ih _).trans (arrayView_send _ s)

theorem arrayView_notice (type arg ctx step : Nat) (data : List Byte) (dests : List Nat) (s : State) :
    arrayView (s.notice type arg ctx step data dests) = arrayView s := arrayView_sendEach ..

theorem arrayView_reportGeneration (s : State) : arrayView s.reportGeneration = arrayView s := arrayView_notice ..

theorem arrayView_sendStrings (dest : Nat) (l : List (List Byte)) (s : State) : arrayView (s.sendStrings dest l).2 = arrayView s :=
  List.foldlRecOn l _ (motive := fun (acc : _ × State) => arrayView acc.2 = arrayView s) rfl fun _ kept _ _ => (arrayView_send ..).trans kept

theorem arrayView_sendCopies (t : Nat) (bodies : List (List Byte)) (s : State) : arrayView (s.sendCopies t bodies) = arrayView s :=
  arrayView_foldl (fun _ _ => arrayView_sendStrings ..) bodies s

/-! ### Contexts and their frames (06 R139; 11 R264) -/

theorem arrayView_discardCtx (c : Nat) (s : State) : arrayView (s.discardCtx c) = arrayView s := by
  unfold State.discardCtx
  split
  · rfl
  · exact arrayView_bump (not_arrayKey (by decide)) 1 _

theorem arrayView_rebuild (c : Nat) (s : State) : arrayView (s.rebuild c) = arrayView s := by
  unfold State.rebuild
  split
  · refine arrayView_ite _ rfl ((arrayView_notice ..).trans ?_)
    exact arrayView_bump (not_arrayKey (by decide)) 1 _
  · rfl

theorem arrayView_rebuildAll (s : State) : arrayView s.rebuildAll = arrayView s :=
  arrayView_ite _ rfl (arrayView_foldl (fun _ _ => arrayView_ite _ ((arrayView_discardCtx ..).trans (arrayView_rebuild ..)) rfl) _ s)

theorem arrayView_loseCtx (c : Nat) (s : State) : arrayView (s.loseCtx c) = arrayView s := by
  unfold State.loseCtx
  split
  · rfl
  · refine arrayView_ite _ rfl ((arrayView_rebuild ..).trans ?_)
    exact arrayView_bump (not_arrayKey (by decide)) 1 _

theorem arrayView_dropPages (l : List (Nat × Nat)) (s : State) : arrayView (s.dropPages l) = arrayView s :=
  arrayView_foldl (fun _ _ => arrayView_loseCtx ..) l _

/-- The error counters of the stacks (OD 0x5408). -/
theorem arrayView_bump_stack {f : Nat} (hf : f < 64) (s : State) : arrayView (s.bump 0x5408 0 f 1) = arrayView s :=
  arrayView_bump (not_arrayKey (by omega)) 1 s

theorem arrayView_retireFrame (p : Nat) (s : State) : arrayView (s.retireFrame p) = arrayView s := by
  have counted := arrayView_bump_stack (f := 8) (by decide) s
  refine arrayView_ite _ rfl (arrayView_ite _ ?_ (arrayView_ite _ ?_ ?_)) <;> refine (arrayView_dropPages ..).trans ?_
  · exact (arrayView_journaled ..).trans counted
  · exact (arrayView_journaled ..).trans counted
  · exact (arrayView_raise ..).trans counted

theorem arrayView_retireAt (addr : Nat) (s : State) : arrayView (s.retireAt addr) = arrayView s := by
  unfold State.retireAt
  split
  · exact arrayView_retireFrame ..
  · rfl

theorem arrayView_stackError (line step : Nat) (s : State) : arrayView (s.stackError line step) = arrayView s :=
  (arrayView_retireAt ..).trans ((arrayView_raise ..).trans (arrayView_bump_stack (by decide) s))

theorem arrayView_correctLine (line : Nat) (s : State) : arrayView (s.correctLine line) = arrayView s :=
  (arrayView_raise ..).trans (arrayView_bump_stack (by decide) s)

theorem arrayView_readLine (line step : Nat) (s : State) : arrayView (s.readLine line step).2 = arrayView s := by
  unfold State.readLine
  dsimp only
  split
  · exact arrayView_stackError line step s
  · split
    · exact arrayView_correctLine line s
    · rfl

theorem arrayView_readFrame (f step : Nat) (s : State) : arrayView (s.readFrame f step).2 = arrayView s :=
  List.foldlRecOn _ _ (motive := fun (acc : _ × State) => arrayView acc.2 = arrayView s) rfl fun _ kept _ _ => (arrayView_readLine ..).trans kept

theorem arrayView_readCtx (x : Ctx) (s : State) : arrayView (s.readCtx x) = arrayView s :=
  arrayView_foldl (fun _ _ => arrayView_readFrame ..) _ s

/-! ### The pair (06 R144, R146) -/

theorem arrayView_setPair (v : Nat) (s : State) : arrayView (s.setPair v) = arrayView s :=
  arrayView_setOd (not_arrayKey (by decide)) v s

theorem arrayView_startSync (s : State) : arrayView s.startSync = arrayView s := by
  have synced (ep : Nat) : arrayView ((s.setPair 2).noteSyncing ep) = arrayView s :=
    arrayView_ite _ (arrayView_setPair 2 s) (arrayView_setPair 2 s)
  unfold State.startSync
  dsimp only
  split
  · refine (arrayView_sendCopies ..).trans ((arrayView_setOd (not_arrayKey (by decide)) _ _).trans ?_)
    refine (arrayView_foldl (fun t e => ?_) _ _).trans (synced _)
    cases e.2 with
    | none => rfl
    | some x => exact arrayView_readCtx x t
  · exact synced _

theorem arrayView_settlePair (s : State) : arrayView s.settlePair = arrayView s := by
  have noted (v : Nat) : arrayView (s.setOd 0x5007 0 0 v) = arrayView s :=
    arrayView_setOd (not_arrayKey (by decide)) v s
  unfold State.settlePair
  split
  · rfl
  · refine arrayView_ite _ rfl (arrayView_ite _ (arrayView_ite _ ?_ (noted _)) (arrayView_ite _ ?_ (noted _)))
    · exact (arrayView_setPair ..).trans (noted _)
    · exact (arrayView_startSync _).trans (noted _)

/-! ### The stage (R134, R135) -/

/-- The layer slots and their range counters (OD 0x5002, 0x3120). -/
theorem arrayView_setOd_slot {x n f : Nat} (hx : x = 0x5002 ∨ x = 0x3120) (hn : n < 64) (hf : f < 64) (v : Nat) (s : State) :
    arrayView (s.setOd x (n + 1) f v) = arrayView s :=
  arrayView_setOd (not_arrayKey (by omega)) v s

theorem arrayView_clearRange {n : Nat} (hn : n < 64) (layer : Nat) (s : State) : arrayView (s.clearRange n layer) = arrayView s := by
  refine arrayView_ite _ rfl (List.foldlRecOn _ _ (motive := fun t => arrayView t = arrayView s) rfl fun t kept f hf => ?_)
  have := List.mem_range.mp hf
  exact (arrayView_setOd_slot (.inr rfl) hn (by omega) 0 t).trans kept

theorem arrayView_setLayerSlot {n : Nat} (hn : n < 64) (layer : Nat) (v : Nat × Nat × Nat) (s : State) :
    arrayView (s.setLayerSlot n layer v) = arrayView s := by
  have slot {f : Nat} (hf : f < 64) (v : Nat) (t : State) : arrayView (t.setOd 0x5002 (n + 1) f v) = arrayView t :=
    arrayView_setOd_slot (.inl rfl) hn hf v t
  exact (slot (by decide) _ _).trans ((slot (by decide) _ _).trans ((slot (by decide) _ _).trans ((slot (by decide) _ _).trans
    (arrayView_clearRange hn layer s))))

theorem arrayView_refreshStage (s : State) : arrayView s.refreshStage = arrayView s := by
  unfold State.refreshStage
  extract_lets old slots g p t
  have slotted : arrayView slots = arrayView s := by
    refine arrayView_ite _ (List.foldlRecOn _ _ (motive := fun u => arrayView u = arrayView s) rfl fun u kept n hn => ?_) rfl
    exact (arrayView_setLayerSlot (List.mem_range.mp hn) ..).trans kept
  have staged : arrayView t = arrayView s := by
    have stage {f : Nat} (hf : f < 64) (v : Nat) (u : State) : arrayView (u.setOd 0x5003 0 f v) = arrayView u :=
      arrayView_setOd (not_arrayKey (by omega)) v u
    exact (stage (by decide) _ _).trans ((stage (by decide) _ _).trans slotted)
  refine arrayView_ite _ staged ((arrayView_settlePair _).trans (arrayView_ite _ ?_ ?_))
  · exact (arrayView_rebuildAll _).trans ((arrayView_reportGeneration t).trans staged)
  · exact (arrayView_reportGeneration t).trans staged

end Sys2Proof.Proofs
end

section

/-! ## Arrays are programmed and checked (O56; 05 R119 to R132)

Each report about an array of a steep is an equation over its entry in the job. What ARRAY_STEEP_COMPLETE stores is read back through `arrayView`, which
the upkeep of the stage keeps; the end of an array keeps it too while another array of the steep has not ended. -/

namespace Sys2Proof.Proofs

open Sys2Proof.Machine Sys2Proof.Laws

/-! ### Reads of what an array is seen by -/

section View

variable {s t : State} (same : arrayView t = arrayView s)

include same

theorem clock_of_view : t.toClockPart = s.toClockPart := congrArg ArrayView.clock same

theorem hearth_of_view : t.toHearthPart = s.toHearthPart := congrArg ArrayView.hearth same

theorem upkeep_of_view : t.toUpkeepPart = s.toUpkeepPart := congrArg ArrayView.upkeep same

theorem stack_of_view : t.stack = s.stack := congrArg ArrayView.stack same

theorem arrayState_of_view (a : Nat) : t.arrayState a = s.arrayState a := congrFun (congrArg ArrayView.state same) a

theorem record_of_view (a : Nat) {f : Nat} (hf : f < 64) : t.odAt a 0x3107 0 f = s.odAt a 0x3107 0 f :=
  congrFun (congrFun (congrArg ArrayView.record same) a) ⟨f, hf⟩

end View

theorem arrayView_sealRecord (a : Nat) (s : State) : arrayView (s.sealRecord a) = arrayView (s.setOdAt a 0x3107 0 15 (crc32 (s.recordBody a))) :=
  arrayView_journaled ..

theorem arrayView_setArrayState (a v : Nat) (s : State) : arrayView (s.setArrayState a v) = arrayView (s.setOdAt a 0x3105 0 0 v) :=
  (arrayView_refreshStage _).trans (arrayView_journaled ..)

/-- A field of an object after a write of another of its fields. -/
theorem odAt_setOdAt_field (s : State) (a x y : Nat) {f g : Nat} (v : Nat) (ne : f ≠ g) : (s.setOdAt a x y g v).odAt a x y f = s.odAt a x y f :=
  odAt_setOdAt_ne s v (by unfold odKey; omega)

/-- A field of a program record after a write of an array's state. -/
theorem record_setOdAt_state (s : State) (a b v : Nat) {f : Nat} (hf : f < 64) : (s.setOdAt b 0x3105 0 0 v).odAt a 0x3107 0 f = s.odAt a 0x3107 0 f :=
  odAt_setOdAt_ne s v (by unfold odKey; omega)

theorem record_sealRecord (a : Nat) {f : Nat} (hf : f < 64) (ne : f ≠ 15) (s : State) : (s.sealRecord a).odAt a 0x3107 0 f = s.odAt a 0x3107 0 f :=
  (record_of_view (arrayView_sealRecord a s) a hf).trans (odAt_setOdAt_field s a 0x3107 0 _ ne)

/-! ### Scales as a list of writes -/

theorem get_foldl_put (key val : Nat → Nat) (inj : Function.Injective key) (k : Nat) (m : Tab Nat) {l : Nat} (hl : l < k) :
    ((List.range k).foldl (fun m i => m.put 0 (key i) (val i)) m).get 0 (key l) = val l := by
  induction k with
  | zero => omega
  | succ k ih =>
    rw [List.range_succ, List.foldl_append, List.foldl_cons, List.foldl_nil]
    obtain rfl | before := Nat.lt_succ_iff_lt_or_eq.mp hl |>.symm
    · exact get_put_same ..
    · rw [get_put_ne _ _ _ (fun eq => before.ne (inj eq)), ih before]

/-! ### What ARRAY_STEEP_COMPLETE stores (R124 to R126) -/

/-- The scale store of an array is written, and a free seed drawn. -/
def scaled (n : Nat) (x : SteepArray) (s : State) : State :=
  State.spend 1 { s with scales := (List.range 512).foldl (fun m l => m.put 0 (n * 512 + l) (leAt x.scales (2 * l) 2)) s.scales }

/-- The fields of a program record that says COMPLETE (Table 05-7). -/
def recordFields (n : Nat) (x : SteepArray) (seed : Nat) (s : State) : State :=
  (((((s.setOdAt n 0x3107 0 1 2).setOdAt n 0x3107 0 3 x.flags).setOdAt n 0x3107 0 9 seed).setOdAt n 0x3107 0 11 s.now).setOdAt n 0x3107 0 12
    (payloadDigest x.rows x.scales)).setOdAt n 0x3107 0 13 (sampleCrc x.rows seed)

/-- The program record of an array says COMPLETE, and carries its check. -/
def recorded (n : Nat) (x : SteepArray) (seed : Nat) (s : State) : State := (recordFields n x seed s).sealRecord n

/-- What is stored of an array before it ends. -/
def stored (n : Nat) (x : SteepArray) (s : State) : State :=
  ((recorded n x (Config.freeWord s.free % 65536) (scaled n x s)).setArrayState n 0).bump 0x5025 0 4 1

/-- An array is stored in `t`, out of `s`. -/
structure StoredIn (n : Nat) (x : SteepArray) (s t : State) : Prop where
  free : t.free = s.free + 1
  complete : t.recState n = 2
  seed : t.odAt n 0x3107 0 9 = Config.freeWord s.free % 65536
  time : t.odAt n 0x3107 0 11 = s.now
  serving : t.arrayState n = 0
  scales : ∀ l, l < 512 → t.scales.get 0 (n * 512 + l) = leAt x.scales (2 * l) 2
  weights : t.weights = s.weights
  stack : t.stack = s.stack

theorem StoredIn.of_view {n : Nat} {x : SteepArray} {s t u : State} (h : StoredIn n x s t) (same : arrayView u = arrayView t) : StoredIn n x s u where
  free := (congrArg ClockPart.free (clock_of_view same)).trans h.free
  complete := (record_of_view same n (by decide)).trans h.complete
  seed := (record_of_view same n (by decide)).trans h.seed
  time := (record_of_view same n (by decide)).trans h.time
  serving := (arrayState_of_view same n).trans h.serving
  scales l hl := (congrArg (·.scales.get 0 (n * 512 + l)) (hearth_of_view same)).trans (h.scales l hl)
  weights := (congrArg HearthPart.weights (hearth_of_view same)).trans h.weights
  stack := (stack_of_view same).trans h.stack

/-- A change of the job touches nothing that is stored. -/
theorem StoredIn.modArray {n : Nat} {x : SteepArray} {s t : State} (h : StoredIn n x s t) (a : Nat) (f : SteepArray → SteepArray) :
    StoredIn n x s (t.modArray a f) :=
  ⟨h.free, h.complete, h.seed, h.time, h.serving, h.scales, h.weights, h.stack⟩

theorem record_recorded (n : Nat) (x : SteepArray) (seed : Nat) (s : State) :
    (recorded n x seed s).odAt n 0x3107 0 1 = 2 ∧ (recorded n x seed s).odAt n 0x3107 0 9 = seed ∧
      (recorded n x seed s).odAt n 0x3107 0 11 = s.now := by
  simp [recorded, recordFields, record_sealRecord, odAt_setOdAt_field]

theorem recorded_clock (n : Nat) (x : SteepArray) (seed : Nat) (s : State) : (recorded n x seed s).toClockPart = s.toClockPart :=
  (clock_of_view (arrayView_sealRecord ..)).trans rfl

theorem recorded_hearth (n : Nat) (x : SteepArray) (seed : Nat) (s : State) : (recorded n x seed s).toHearthPart = s.toHearthPart :=
  (hearth_of_view (arrayView_sealRecord ..)).trans rfl

theorem recorded_upkeep (n : Nat) (x : SteepArray) (seed : Nat) (s : State) : (recorded n x seed s).toUpkeepPart = s.toUpkeepPart :=
  (upkeep_of_view (arrayView_sealRecord ..)).trans rfl

theorem recorded_stack (n : Nat) (x : SteepArray) (seed : Nat) (s : State) : (recorded n x seed s).stack = s.stack :=
  (stack_of_view (arrayView_sealRecord ..)).trans rfl

theorem scaled_scales (n : Nat) (x : SteepArray) (s : State) {l : Nat} (hl : l < 512) :
    (scaled n x s).scales.get 0 (n * 512 + l) = leAt x.scales (2 * l) 2 := by
  unfold scaled State.spend
  dsimp only
  exact get_foldl_put (fun l => n * 512 + l) (fun l => leAt x.scales (2 * l) 2) (add_right_injective _) 512 s.scales hl

theorem scaled_weights (n : Nat) (x : SteepArray) (s : State) : (scaled n x s).weights = s.weights := by
  unfold scaled State.spend
  dsimp only

theorem arrayView_stored (n : Nat) (x : SteepArray) (s : State) :
    arrayView (stored n x s) = arrayView ((recorded n x (Config.freeWord s.free % 65536) (scaled n x s)).setOdAt n 0x3105 0 0 0) :=
  (arrayView_bump (not_arrayKey (by decide)) 1 _).trans (arrayView_setArrayState ..)

theorem stored_storedIn (n : Nat) (x : SteepArray) (s : State) : StoredIn n x s (stored n x s) := by
  have view := arrayView_stored n x s
  obtain ⟨complete, seed, time⟩ := record_recorded n x (Config.freeWord s.free % 65536) (scaled n x s)
  have record {f : Nat} (hf : f < 64) := (record_of_view view n hf).trans (record_setOdAt_state _ n n 0 hf)
  have hearth : (stored n x s).toHearthPart = (scaled n x s).toHearthPart := (hearth_of_view view).trans (recorded_hearth ..)
  exact {
    free := congrArg ClockPart.free ((clock_of_view view).trans (recorded_clock ..))
    complete := (record (by decide)).trans complete
    seed := (record (by decide)).trans seed
    time := (record (by decide)).trans time
    serving := (arrayState_of_view view n).trans (odAt_setOdAt_same ..)
    scales := fun l hl => by rw [congrArg HearthPart.scales hearth, scaled_scales n x s hl]
    weights := by rw [congrArg HearthPart.weights hearth, scaled_weights]
    stack := (stack_of_view view).trans (recorded_stack ..) }

theorem stored_upkeep (n : Nat) (x : SteepArray) (s : State) : (stored n x s).toUpkeepPart = s.toUpkeepPart :=
  (upkeep_of_view (arrayView_stored n x s)).trans (recorded_upkeep ..)

theorem stored_pending (n : Nat) (x : SteepArray) (s : State) : (stored n x s).pending = s.pending := by
  simp [stored, recorded, recordFields, scaled]

/-! ### The end of an array (R126, R129) -/

theorem arrayView_steepDrift {h : Nat} (hh : h < 128) (s : State) : arrayView (s.steepDrift h) = arrayView s := by
  have drift {f : Nat} (hf : f < 64) (v : Nat) (t : State) : arrayView (t.setOd 0x3110 (h + 1) f v) = arrayView t :=
    arrayView_setOd (not_arrayKey (by omega)) v t
  have unmasked (t : State) : arrayView (t.setMask 16 0x3113 0 h false) = arrayView t := rfl
  exact (unmasked _).trans ((drift (by decide) _ _).trans ((drift (by decide) _ _).trans (drift (by decide) _ _)))

theorem arrayView_settleDrift {h : Nat} (hh : h < 128) (s : State) : arrayView (s.settleDrift h) = arrayView s := by
  unfold State.settleDrift
  split
  · rfl
  · exact arrayView_ite _ (arrayView_steepDrift hh s) rfl

/-- While an array of a steep has not ended, its progress shows in OD 0x5025 alone. -/
theorem arrayView_steepProgress {s : State} {j : SteepJob} (runs : s.steep = some j) (more : ∃ y ∈ j.arrays, y.phase ≠ 5) :
    arrayView s.steepProgress = arrayView s := by
  have shown {f : Nat} (hf : f < 64) (v : Nat) (t : State) : arrayView (t.setOd 0x5025 0 f v) = arrayView t :=
    arrayView_setOd (not_arrayKey (by omega)) v t
  have counted (v w : Nat) : arrayView ((s.setOd 0x5025 0 3 v).setOd 0x5025 0 7 w) = arrayView s :=
    (shown (by decide) _ _).trans (shown (by decide) _ _)
  unfold State.steepProgress
  rw [runs]
  refine arrayView_ite _ (counted ..) ?_
  rw [if_pos (by simpa using more)]
  exact (shown (by decide) _ _).trans (counted ..)

theorem arrayView_endArray {n : Nat} (hn : n < 131072) {s : State} {j : SteepJob} (runs : s.steep = some j)
    (more : ∃ y ∈ j.arrays, y.array ≠ n ∧ y.phase ≠ 5) : arrayView (s.endArray n) = arrayView (s.modArray n fun x => { x with phase := 5 }) := by
  have drift := arrayView_settleDrift (h := n / 1024) (by omega) (s.modArray n fun x => { x with phase := 5 })
  have ends : (s.modArray n fun x => { x with phase := 5 }).steep =
      some { j with arrays := j.arrays.map fun x => if x.array = n then { x with phase := 5 } else x } := by
    rw [State.modArray, State.modSteep, runs]
    rfl
  obtain ⟨y, mem, other, running⟩ := more
  refine (arrayView_steepProgress ((congrArg UpkeepPart.steep (upkeep_of_view drift)).trans ends) ⟨y, ?_, running⟩).trans drift
  exact List.mem_map.mpr ⟨y, mem, if_neg other⟩

theorem runRemaps_of_nil {s : State} (waits : s.remapWaits = []) (a : Nat) : s.runRemaps a = s := by
  simp only [State.runRemaps, waits, List.filter_nil, List.foldl_nil]
  rw [← waits]

/-! ### Reports about an array that no steep holds -/

theorem array_not_held {s : State} {a : ArrayId} (absent : s.steepArray a.toNat = none) :
    exec (.steepArrayStart a) s = .next s ∧ (∀ r o, exec (.programIteration a r o) s = .next s) ∧ exec (.kilnEnd a) s = .next s ∧
      (∀ o, exec (.finalVerifyDone a o) s = .next s) ∧ exec (.arraySteepComplete a) s = .next s := by
  refine ⟨?_, fun r o => ?_, ?_, fun o => ?_, ?_⟩
  · change execSteepArrayStart a s = _
    unfold execSteepArrayStart
    dsimp only
    rw [absent]
    cases s.steep <;> rfl
  · change execProgramIteration a r o s = _
    unfold execProgramIteration
    dsimp only
    rw [absent]
  · change execKilnEnd a s = _
    rw [execKilnEnd, absent]
  · change execFinalVerifyDone a o s = _
    unfold execFinalVerifyDone
    dsimp only
    rw [absent]
  · change execArraySteepComplete a s = _
    unfold execArraySteepComplete
    dsimp only
    rw [absent]

/-- Remaps wait for an array (Table 05-8). -/
def remapWaiting (s : State) (n : Nat) : Bool := s.remapWaits.any fun e => e.1 == n

theorem remapWaiting_iff {s : State} {n : Nat} : remapWaiting s n = true ↔ ∃ e ∈ s.remapWaits, e.1 = n := by
  simp [remapWaiting]

theorem not_remapWaiting {s : State} {n : Nat} (noWait : ∀ e ∈ s.remapWaits, e.1 ≠ n) : ¬ remapWaiting s n = true :=
  fun waits => let ⟨e, mem, eq⟩ := remapWaiting_iff.mp waits; noWait e mem eq

theorem levelReadComplete_not_held {s : State} {a : ArrayId} (absent : s.steepArray a.toNat = none) (rows : List (List Byte)) :
    exec (.levelReadComplete a rows) s = .next (if remapWaiting s a.toNat then s.repairRead a.toNat rows else s) := by
  change execLevelReadComplete a rows s = _
  unfold execLevelReadComplete
  dsimp only
  rw [absent]
  cases s.steep <;> rfl

/-! ### Reports about an array of a steep (R119 to R124, R129) -/

/-- The columns of an array that a report names (Table 03-2). -/
def columnsOf (outside : List (BitVec 10)) : List Nat := (outside.map (·.toNat)).filter (· < 531)

/-- Columns of an array fail one after another (R122, R123). -/
def failColumns (n : Nat) (l : List Nat) (s : State) : State := l.foldl (fun t c => t.failColumn n c) s

/-- A row has its cells, and the columns that failed so far are noted. -/
def rowEnded (n : Nat) (x : SteepArray) (failed : List Nat) (s : State) : State :=
  (s.writeCells n x.row (x.rows.getD x.row [])).modArray n fun x => { x with row := x.row + 1, iter := 0, failed := failed }

/-- The columns of an array that have failed once a row ends. -/
def failedOf (x : SteepArray) (outside : List (BitVec 10)) : List Nat := (x.failed ++ columnsOf outside).eraseDups

/-- The rows of an array are done: spares take the failed columns, and staging that was full has room again. -/
def rowsEnded (n : Nat) (failed : List Nat) (u : State) : State :=
  ((failColumns n failed u).afterSpares n 2).stagingRoom (u.steep.any fun j => u.stagingFull j)

/-- The kiln of an array has ended, and a run of its hearth falls due. -/
def kilnEnded (n : Nat) (s : State) : State :=
  ({ s with kilnAt := s.kilnAt.put 0 n (s.elapsed + 1) }.modArray n fun x => { x with phase := 3 }).calDue (n / 1024)

section Held

variable {s : State} {a : ArrayId} {x : SteepArray} (holds : s.steepArray a.toNat = some x)

include holds

theorem exec_programIteration (row : BitVec 10) (outside : List (BitVec 10)) : exec (.programIteration a row outside) s =
    .next (if x.phase ≠ 1 ∨ x.row ≠ row.toNat then s
      else if outside ≠ [] ∧ x.iter + 1 < 24 then s.modArray a.toNat fun x => { x with iter := x.iter + 1 }
      else if x.row + 1 < 1024 then rowEnded a.toNat x (failedOf x outside) s
      else rowsEnded a.toNat (failedOf x outside) (rowEnded a.toNat x (failedOf x outside) s)) := by
  change execProgramIteration a row outside s = _
  unfold execProgramIteration
  dsimp only
  rw [holds]
  rfl

theorem exec_kilnEnd : exec (.kilnEnd a) s = .next (if x.phase ≠ 2 then s else kilnEnded a.toNat s) := by
  change execKilnEnd a s = _
  rw [execKilnEnd, holds]
  rfl

theorem exec_finalVerifyDone (outside : List (BitVec 10)) : exec (.finalVerifyDone a outside) s =
    .next (if x.phase ≠ 3 then s
      else (failColumns a.toNat (columnsOf outside).eraseDups s).afterSpares a.toNat
        (if (columnsOf outside).eraseDups.any fun c => c != 528 then 2 else 4)) := by
  change execFinalVerifyDone a outside s = _
  unfold execFinalVerifyDone
  dsimp only
  rw [holds]
  dsimp only
  rw [apply_ite (State.afterSpares a.toNat · (failColumns a.toNat (columnsOf outside).eraseDups s))]
  rfl

theorem exec_arraySteepComplete : exec (.arraySteepComplete a) s =
    .next (if x.phase ≠ 4 then s else ((stored a.toNat x s).endArray a.toNat).runRemaps a.toNat) := by
  change execArraySteepComplete a s = _
  unfold execArraySteepComplete
  dsimp only
  rw [holds]
  rfl

/-- What is stored stays so at the end of the array, while no remap waits and another array of the steep has not ended. -/
theorem arraySteepComplete_stores {j : SteepJob} (runs : s.steep = some j) (scaleStore : x.phase = 4) (noRemap : s.remapWaits = [])
    (more : ∃ y ∈ j.arrays, y.array / 1024 = a.toNat / 1024 ∧ y.array ≠ a.toNat ∧ y.phase ≠ 5) :
    Completes (.arraySteepComplete a) s (StoredIn a.toNat x s) := by
  have upkeep := stored_upkeep a.toNat x s
  have runs' : (stored a.toNat x s).steep = some j := (congrArg UpkeepPart.steep upkeep).trans runs
  obtain ⟨y, mem, -, other, running⟩ := more
  have view := arrayView_endArray a.isLt runs' ⟨y, mem, other, running⟩
  have noRemap' : ((stored a.toNat x s).endArray a.toNat).remapWaits = [] :=
    (congrArg UpkeepPart.remapWaits (upkeep_of_view view)).trans ((congrArg UpkeepPart.remapWaits upkeep).trans noRemap)
  refine ⟨_, exec_arraySteepComplete holds, ?_⟩
  rw [if_neg (by simp [scaleStore]), runRemaps_of_nil noRemap']
  exact ((stored_storedIn a.toNat x s).modArray ..).of_view view

variable {j : SteepJob} (runs : s.steep = some j)

include runs

theorem exec_steepArrayStart : exec (.steepArrayStart a) s =
    .next (if x.phase ≠ 0 ∨ j.verified = false ∨ s.mayStart j a.toNat = false then s
      else if j.kind = 3 then (s.wear a.toNat).modArray a.toNat fun x => { x with phase := 6 } else (s.wear a.toNat).startProgram x) := by
  change execSteepArrayStart a s = _
  unfold execSteepArrayStart
  dsimp only
  rw [holds, runs]

theorem exec_levelReadComplete (rows : List (List Byte)) : exec (.levelReadComplete a rows) s =
    .next (if x.phase = 6 then s.refreshRead x rows
      else if x.phase = 5 ∧ remapWaiting s a.toNat = true then s.repairRead a.toNat rows else s) := by
  change execLevelReadComplete a rows s = _
  unfold execLevelReadComplete
  dsimp only
  rw [holds, runs]
  rfl

end Held

/-! ### The check at start-up (R130) -/

/-- A record of 96 bytes whose check is right. -/
def recordGood (b : List Byte) : Bool := b.length == 96 && isSealed b

theorem recordGood_iff {b : List Byte} : recordGood b = true ↔ b.length = 96 ∧ isSealed b = true := by
  simp [recordGood]

/-- The state that a record gives its array: 1 STEEPING, 2 COMPLETE (Table 05-7). -/
def recordState (b : List Byte) : Nat := leAt b 4 1

/-- A record is counted, and kept where it is good. -/
def recordKept (n : Nat) (b : List Byte) (s : State) : State := (if recordGood b then s.putValue n 0x3107 0 b else s).bump 0x5029 0 0 1

/-- What the rows found give matches the record: all rows where OD 0x5028 is 1, else the sample rows. -/
def rowsMatch (n : Nat) (rows : List (List Byte)) (u : State) : Bool :=
  if u.od 0x5028 0 0 = 1 then u.odAt n 0x3107 0 12 == payloadDigest rows (u.scalePlane n) else u.odAt n 0x3107 0 13 == crc32 rows.flatten

theorem rowsMatch_iff {n : Nat} {rows : List (List Byte)} {u : State} : rowsMatch n rows u = true ↔
    if u.od 0x5028 0 0 = 1 then u.odAt n 0x3107 0 12 = payloadDigest rows (u.scalePlane n) else u.odAt n 0x3107 0 13 = crc32 rows.flatten := by
  unfold rowsMatch
  split <;> exact beq_iff_eq

/-- What fences the array of a record: the record itself, its scales, a steep that did not end, or rows that do not match. -/
def recordFences (n : Nat) (b : List Byte) (scalesGood : Bool) (rows : List (List Byte)) (u : State) : Bool :=
  !recordGood b || !scalesGood || recordState b == 1 || (recordState b == 2 && !rowsMatch n rows u)

/-- A steep that did not end is shown as its outcome (OD 0x5025). -/
def recordShown (b : List Byte) (u : State) : State := if recordState b = 1 ∧ recordGood b = true then u.setOd 0x5025 0 1 10 else u

/-- An array of a bad record is fenced, unless it is RETIRED, and counted. -/
def fencedAt (n : Nat) (u : State) : State := if u.arrayState n ≠ 3 then (u.setArrayState n 2).bump 0x5029 0 1 1 else u

/-- A record has been checked. -/
def recordChecked (n : Nat) (b : List Byte) (scalesGood : Bool) (rows : List (List Byte)) (s : State) : State :=
  let u := recordKept n b s
  if recordFences n b scalesGood rows u then fencedAt n (recordShown b u) else recordShown b u

/-- Cells of a hearth outside the margin are counted and ask for its refresh, once. -/
def marginNoted (n m : Nat) (w : State) : State :=
  let w := w.bump 0x5029 0 2 m
  if w.mask 0x3113 0 (n / 1024) then w
  else (w.setMask 16 0x3113 0 (n / 1024) true).raise { kind := .refresh, path := pathUnit 0 (n / 1024) 7 0, detail := n / 1024 }

section Record

variable {n : Nat} {b : List Byte} {scalesGood : Bool} {rows : List (List Byte)} {s : State}

theorem recordChecked_bad (bad : ¬ recordGood b = true) : recordChecked n b scalesGood rows s = fencedAt n (s.bump 0x5029 0 0 1) := by
  simp [recordChecked, recordFences, recordShown, recordKept, bad]

theorem recordChecked_badScales (ended : recordState b ≠ 1) (bad : scalesGood = false) :
    recordChecked n b scalesGood rows s = fencedAt n (recordKept n b s) := by
  simp [recordChecked, recordFences, recordShown, ended, bad]

variable (good : recordGood b = true)

include good

theorem recordKept_good : recordKept n b s = (s.putValue n 0x3107 0 b).bump 0x5029 0 0 1 := by
  rw [recordKept, if_pos good]

theorem recordChecked_steeping (steeping : recordState b = 1) :
    recordChecked n b scalesGood rows s = fencedAt n ((recordKept n b s).setOd 0x5025 0 1 10) := by
  simp [recordChecked, recordFences, recordShown, good, steeping]

variable (scales : scalesGood = true)

include scales

theorem recordChecked_complete (complete : recordState b = 2) :
    recordChecked n b scalesGood rows s = if rowsMatch n rows (recordKept n b s) = true then recordKept n b s else fencedAt n (recordKept n b s) := by
  simp only [recordChecked, recordFences, recordShown, good, scales, complete]
  cases rowsMatch n rows (recordKept n b s) <;> rfl

theorem recordChecked_other (ended : recordState b ≠ 1) (other : recordState b ≠ 2) : recordChecked n b scalesGood rows s = recordKept n b s := by
  simp [recordChecked, recordFences, recordShown, good, ended, scales, other]

end Record

theorem startUp_over {s : State} (ended : s.ready = true ∨ s.mainUp = false) :
    (∀ a b g r m, exec (.programRecordArrival a b g r m) s = .next s) ∧ ∀ d, exec (.integrityCheckComplete d) s = .next s := by
  have bars : (s.ready || !s.mainUp) = true := by simpa using ended
  exact ⟨fun a b g r m => congrArg Host.Outcome.next (if_pos bars), fun d => congrArg Host.Outcome.next (if_pos bars)⟩

section StartUp

variable {s : State} (notReady : s.ready = false) (up : s.mainUp = true)

include notReady up

theorem exec_programRecordArrival (a : ArrayId) (b : List Byte) (scalesGood : Bool) (rows : List (List Byte)) (m : BitVec 32) :
    exec (.programRecordArrival a b scalesGood rows m) s =
      .next (if recordGood b && recordState b == 2 && m.toNat != 0 then marginNoted a.toNat m.toNat (recordChecked a.toNat b scalesGood rows s)
        else recordChecked a.toNat b scalesGood rows s) := by
  have fences (c : Bool) (u : State) : (if c && u.arrayState a.toNat != 3 then (u.setArrayState a.toNat 2).bump 0x5029 0 1 1 else u) =
      if c then fencedAt a.toNat u else u := by
    cases c <;> simp [fencedAt]
  change execProgramRecordArrival a b scalesGood rows m s = _
  unfold execProgramRecordArrival
  dsimp only
  rw [if_neg (by simp [notReady, up]), fences]
  rfl

theorem programRecordArrival_checks (a : ArrayId) (b : List Byte) (scalesGood : Bool) (rows : List (List Byte)) :
    exec (.programRecordArrival a b scalesGood rows 0) s = .next (recordChecked a.toNat b scalesGood rows s) := by
  rw [exec_programRecordArrival notReady up, if_neg (by simp)]

theorem integrityCheckComplete_ends (d : BitVec 32) : exec (.integrityCheckComplete d) s =
    .next (({ s with integrity := true, streamed := true }.setOd 0x5029 0 3 d.toNat).refreshStage.calTriggers) :=
  congrArg Host.Outcome.next (if_neg (by simp [notReady, up]))

end StartUp

/-- Settles O56: each report takes one branch of its equation, and what an array's completion stores is kept by all that follows. -/
theorem arraysAreProgrammedAndChecked : Obligations.ArraysAreProgrammedAndChecked := by
  intro s a
  refine ⟨array_not_held, rfl, fun j x runs holds => ⟨?waits, ?starts, fun row outside => ⟨?otherRow, fun programming sameRow => ⟨?again, ?rowEnds⟩⟩,
    ?noKiln, ?kiln, fun outside => ⟨?noVerify, ?replaced, ?verified⟩, ?noStore, ?stores, ?storesMore, fun rows => ⟨?refresh, ?repair, ?noRead⟩⟩,
    fun absent rows => ⟨?noWaits, ?waiting⟩, fun rows => rfl, ?ready, fun notReady up => ⟨fun b scalesGood rows => ⟨?bad, fun good => ?good, ?margin⟩,
    integrityCheckComplete_ends notReady up⟩⟩
  case waits => exact fun bars => by rw [exec_steepArrayStart holds runs, if_pos bars]
  case starts =>
    intro staged verified may
    rw [exec_steepArrayStart holds runs, if_neg (by simp [staged, verified, may])]
    exact ⟨fun refresh => by rw [if_pos refresh], fun image => by rw [if_neg image]⟩
  case otherRow => exact fun other => by rw [exec_programIteration holds, if_pos other]
  case again =>
    intro left before
    rw [exec_programIteration holds, if_neg (by simp [programming, sameRow]), if_pos ⟨left, before⟩]
  case rowEnds =>
    intro ends
    rw [exec_programIteration holds, if_neg (by simp [programming, sameRow]), if_neg (by rintro ⟨left, before⟩; exact ends.elim left before.not_ge)]
    exact ⟨fun more => by rw [if_pos more]; rfl, fun last => by rw [if_neg last.not_gt]; rfl⟩
  case noKiln => exact fun other => by rw [exec_kilnEnd holds, if_pos other]
  case kiln => exact fun kiln => by rw [exec_kilnEnd holds, if_neg (by simp [kiln])]; rfl
  case noVerify => exact fun other => by rw [exec_finalVerifyDone holds, if_pos other]
  case replaced =>
    intro verify found
    rw [exec_finalVerifyDone holds, if_neg (by simp [verify]), if_pos (by simpa [columnsOf] using found)]
    rfl
  case verified =>
    intro verify onlyCheck
    rw [exec_finalVerifyDone holds, if_neg (by simp [verify]), if_neg (by simpa [columnsOf] using onlyCheck)]
    rfl
  case noStore => exact fun other => by rw [exec_arraySteepComplete holds, if_pos other]
  case stores =>
    intro scaleStore
    obtain ⟨free, complete, seed, time, serving, scales, weights, stack⟩ := stored_storedIn a.toNat x s
    refine ⟨_, exec_arraySteepComplete holds, stored a.toNat x s, if_neg (by simp [scaleStore]), stored_pending .., free, complete, seed, time, serving,
      scales, weights, stack, congrArg UpkeepPart.remapWaits (stored_upkeep ..)⟩
  case storesMore =>
    intro scaleStore noRemap more
    obtain ⟨t, ends, free, complete, seed, -, serving, scales, weights, stack⟩ := arraySteepComplete_stores holds runs scaleStore noRemap more
    exact ⟨t, ends, pending_of_next ends, free, complete, seed, serving, scales, weights, stack⟩
  case refresh => exact fun reading => by rw [exec_levelReadComplete holds runs, if_pos reading]
  case repair =>
    intro ended waits
    rw [exec_levelReadComplete holds runs, if_neg (by simp [ended]), if_pos ⟨ended, remapWaiting_iff.mpr waits⟩]
  case noRead =>
    intro notReading idle
    rw [exec_levelReadComplete holds runs, if_neg notReading,
      if_neg fun ⟨ended, waits⟩ => idle.elim (· ended) fun noWait => not_remapWaiting noWait waits]
  case noWaits => exact fun noWait => by rw [levelReadComplete_not_held absent, if_neg (not_remapWaiting noWait)]
  case waiting => exact fun waits => by rw [levelReadComplete_not_held absent, if_pos (remapWaiting_iff.mpr waits)]
  case ready =>
    intro ended
    obtain ⟨records, complete⟩ := startUp_over ended
    exact ⟨records a, complete⟩
  case bad =>
    intro bad
    rw [programRecordArrival_checks notReady up, recordChecked_bad (mt recordGood_iff.mp bad)]
    rfl
  case good =>
    have good := recordGood_iff.mpr good
    rw [programRecordArrival_checks notReady up, ← recordKept_good good]
    refine ⟨fun steeping => ?steeping, fun ended bad => ?badScales, fun complete scales => ?complete, fun ended other scales => ?other⟩
    case steeping => rw [recordChecked_steeping good steeping]; rfl
    case badScales => rw [recordChecked_badScales ended bad]; rfl
    case complete =>
      rw [recordChecked_complete good scales complete]
      exact congrArg _ (if_congr rowsMatch_iff rfl rfl)
    case other => rw [recordChecked_other good scales ended other]
  case margin =>
    intro m w cells checked
    obtain rfl : recordChecked a.toNat b scalesGood rows s = w :=
      Host.Outcome.next.inj ((programRecordArrival_checks notReady up a b scalesGood rows).symm.trans checked)
    have nonzero : m.toNat ≠ 0 := fun zero => cells (BitVec.eq_of_toNat_eq zero)
    refine ⟨fun good complete => ?noted, fun other => ?unnoted⟩
    case noted =>
      have complete : recordState b = 2 := complete
      rw [exec_programRecordArrival notReady up, if_pos (by simp [recordGood_iff.mpr good, complete, nonzero])]
      rfl
    case unnoted =>
      rw [exec_programRecordArrival notReady up, if_neg]
      intro counts
      simp only [Bool.and_eq_true, beq_iff_eq] at counts
      exact other.elim (· (recordGood_iff.mp counts.1.1)) (· counts.1.2)

end Sys2Proof.Proofs
end

section

/-! ## What sending a transfer leaves as it was (14 R335, R341)

A transfer changes the fabric, counts in the objects of its port and in OD 0x4202, and may raise a record. `SendsOnly` says what it leaves, for every
operation from the ports up to a forwarded object. -/

namespace Sys2Proof.Proofs

open Sys2Proof.Machine Sys2Proof.Laws

/-- The objects that a transfer counts in: those of the ports, OD 0x4202, and those of a record. -/
def isSent (x : Nat) : Bool := isLogged x || x == 0x4202 || decide (0x4000 ≤ x ∧ x < 0x4008)

/-- `t` differs from `s` at most by transfers that were sent. -/
structure SendsOnly (s t : State) : Prop where
  parts : SameBut [.fabric, .island] s t
  od : ∀ i x y f, x < 65536 → y < 256 → f < 64 → isSent x = false → t.odAt i x y f = s.odAt i x y f
  blob : ∀ i x y, x < 65536 → y < 256 → x ≠ 0x6001 → x ≠ 0x6002 → t.blobAt i x y = s.blobAt i x y

theorem SendsOnly.trans {s t u : State} (h : SendsOnly s t) (k : SendsOnly t u) : SendsOnly s u where
  parts := sameBut_trans h.parts k.parts
  od i x y f hx hy hf notSent := (k.od i x y f hx hy hf notSent).trans (h.od i x y f hx hy hf notSent)
  blob i x y hx hy h1 h2 := (k.blob i x y hx hy h1 h2).trans (h.blob i x y hx hy h1 h2)

theorem sendsOnly_of_quiet {s t : State} (quiet : Quiet s t) : SendsOnly s t where
  parts := sameBut_quiet _ rfl quiet
  od i x y f hx hy hf notSent := quiet.od i x y f hx hy hf (by simp_all [isSent])
  blob := quiet.blob

theorem SendsOnly.refl (s : State) : SendsOnly s s := sendsOnly_of_quiet (.refl s)

/-- A change of the fabric part alone. -/
theorem sendsOnly_fabric (s : State) (x : FabricPart) : SendsOnly s { s with toFabricPart := x } where
  parts := ⟨rfl, fun p other => by cases p with
    | fabric => cases other
    | _ => rfl⟩
  od _ _ _ _ _ _ _ _ := rfl
  blob _ _ _ _ _ _ _ := rfl

theorem sendsOnly_bump {x y f : Nat} (sent : isSent x = true) (hx : x < 65536) (hy : y < 256) (hf : f < 64) (n : Nat) (s : State) :
    SendsOnly s (s.bump x y f n) where
  parts := ⟨rfl, fun p _ => by cases p <;> rfl⟩
  od i x' y' f' hx' hy' hf' notSent := by
    refine odAt_bumpAt_ne s n (odKey_ne hf' hf hy' hy hx' hx ?_)
    rintro ⟨_, rfl, _⟩
    simp_all
  blob _ _ _ _ _ _ _ := rfl

theorem sendsOnly_foldl {α : Type} {f : State → α → State} (sends : ∀ s a, SendsOnly s (f s a)) (l : List α) (s : State) :
    SendsOnly s (l.foldl f s) :=
  List.foldlRecOn l f (motive := SendsOnly s) (.refl s) fun t sent a _ => sent.trans (sends t a)

/-! ### Ports -/

theorem sendsOnly_pump {p : Nat} (hp : p < 8) (n : Nat) (s : State) : SendsOnly s (s.pump p n) := by
  have port : isSent (0x4000 + p) = true := by
    simp only [isSent, Bool.or_eq_true, decide_eq_true_eq]
    exact .inr (by omega)
  have sent (s : State) (x : Port) (o : Out) : SendsOnly s (((s.setPort p x).bump (0x4000 + p) 6 0 1).emit o) :=
    ((sendsOnly_fabric s _).trans (sendsOnly_bump port (by omega) (by decide) (by decide) 1 _)).trans (sendsOnly_of_quiet (quiet_emit o _))
  induction n generalizing s with
  | zero => exact .refl s
  | succ n ih =>
    unfold State.pump
    dsimp only
    split
    · exact .refl s
    · split
      · exact .refl s
      · exact (sent ..).trans (ih _)

theorem sendsOnly_queueFrames {p : Nat} (hp : p < 8) (fs : List LinkFrame) (s : State) : SendsOnly s (s.queueFrames p fs) :=
  (sendsOnly_fabric s _).trans (sendsOnly_pump hp _ _)

theorem leafPort_lt {s : State} {dest tid p : Nat} (leaf : s.leafPort dest tid = some p) : p < 8 := by
  unfold State.leafPort at leaf
  dsimp only at leaf
  split at leaf
  · cases leaf
  · have among : p ∈ [2, 3, 4, 5, 6, 7] := List.mem_of_mem_filter (List.mem_of_getElem? leaf)
    simp at among
    omega

theorem choosePort_lt {s : State} {targets : List Nat} {tid p : Nat} (chosen : s.choosePort targets tid = some p) : p < 8 := by
  unfold State.choosePort at chosen
  split at chosen
  · cases chosen
  · split at chosen
    · cases chosen
    · split at chosen
      · cases chosen; decide
      · split at chosen
        · cases chosen; decide
        · exact leafPort_lt chosen
  · exact leafPort_lt chosen

/-- A part has ports 0 to 7. -/
theorem pathFor_lt {s : State} {kind : Nat} {payload : List Byte} {mcast : Bool} {dests : List Nat} {tid p : Nat}
    (path : s.pathFor kind payload mcast dests tid = some p) : p < 8 := by
  unfold State.pathFor at path
  split at path
  · split at path
    · exact leafPort_lt path
    · split at path
      · split at path
        · exact leafPort_lt path
        · cases path
      · obtain chosen | ⟨-, quarantined⟩ := Option.or_eq_some_iff.mp path
        · exact choosePort_lt chosen
        · split at quarantined
          · exact List.mem_range.mp (List.mem_of_find?_eq_some quarantined)
          · cases quarantined
  · exact choosePort_lt path

/-! ### Transfers -/

theorem sendsOnly_send (m : Message) (s : State) : SendsOnly s (s.send m).2 := by
  have counts {f : Nat} (hf : f < 64) (t : State) : SendsOnly t (t.bump 0x4202 0 f 1) :=
    sendsOnly_bump rfl (by decide) (by decide) hf 1 t
  unfold State.send
  split
  · exact sendsOnly_of_quiet (quiet_emit ..)
  · dsimp only
    split
    · split
      · exact .refl s
      · exact (counts (by decide) s).trans (sendsOnly_of_quiet (quiet_raise ..))
    next path => exact ((sendsOnly_fabric s _).trans (counts (by decide) _)).trans (sendsOnly_queueFrames (pathFor_lt path) ..)

theorem sendsOnly_sendEach (m : Message) (l : List Nat) (s : State) : SendsOnly s (s.sendEach m l) := by
  induction l generalizing s with
  | nil => exact .refl s
  | cons d l ih => exact (sendsOnly_send _ s).trans (ih _)

theorem sendsOnly_forward (idx sub : Nat) (data : List Byte) (dests : List Nat) (s : State) : SendsOnly s (s.forward idx sub data dests) :=
  sendsOnly_foldl (fun _ _ => sendsOnly_sendEach ..) _ s

end Sys2Proof.Proofs
end

section

/-! ## Generations switch and hold (O35; 06 R140 to R151)

The barrier follows the stages: what it judges by, `SameStages`, outlives every change of its own state and all that is sent and raised about it. So a
barrier that the host lowers while a stage lacks the current generation is raised again, and is HELD where nothing is in flight. -/

namespace Sys2Proof.Proofs

open Sys2Proof.Machine Sys2Proof.Laws

/-! ### What the barrier judges by (R143, R151) -/

/-- The two states hold the same table, reports, pointer, requests and steps. -/
structure SameStages (s t : State) : Prop where
  entries : t.entries = s.entries
  report : ∀ i pos, pos < 2 → t.genReport i pos = s.genReport i pos
  current : t.currentGen = s.currentGen
  admitting : t.isAdmitting = s.isAdmitting
  requests : t.requests = s.requests
  steps : t.steps = s.steps

theorem SameStages.trans {s t u : State} (h : SameStages s t) (k : SameStages t u) : SameStages s u where
  entries := k.entries.trans h.entries
  report i pos hp := (k.report i pos hp).trans (h.report i pos hp)
  current := k.current.trans h.current
  admitting := k.admitting.trans h.admitting
  requests := k.requests.trans h.requests
  steps := k.steps.trans h.steps

/-- The objects that the barrier judges by: the part's own address, the admitting part, the pointer and the map. -/
def isStaged (x : Nat) : Prop := x = 0x4011 ∨ x = 0x4100 ∨ x = 0x5000 ∨ x = 0x5006

theorem sameStages_of_od {s t : State} (table : t.blob 0x4110 0 = s.blob 0x4110 0) (requests : t.requests = s.requests) (steps : t.steps = s.steps)
    (od : ∀ i x y f, isStaged x → y < 256 → f < 64 → t.odAt i x y f = s.odAt i x y f) : SameStages s t where
  entries := congrArg entriesOf table
  report i pos hp := Prod.ext (od _ _ _ _ (by simp [isStaged]) (by simp only [mapRow]; omega) (by omega))
    (od _ _ _ _ (by simp [isStaged]) (by simp only [mapRow]; omega) (by omega))
  current := od 0 0x5000 1 0 (by simp [isStaged]) (by decide) (by decide)
  admitting := by
    unfold State.isAdmitting State.admitting State.endpoint State.od
    rw [od 0 0x4100 2 0, od 0 0x4011 0 0, od 0 0x4011 0 1] <;> simp [isStaged]
  requests := requests
  steps := steps

theorem sameStages_of_sends {s t : State} (sent : SendsOnly s t) : SameStages s t := by
  refine sameStages_of_od (sent.blob _ _ _ (by decide) (by decide) (by decide) (by decide)) (congrArg ServingPart.requests (sent.parts.2 .serving rfl))
    (congrArg HearthPart.steps (sent.parts.2 .hearth rfl)) fun i x y f staged hy hf => sent.od i x y f ?_ hy hf ?_
  · unfold isStaged at staged
    omega
  · obtain rfl | rfl | rfl | rfl := staged <;> rfl

theorem sameStages_setOd_barrier (v : Nat) (s : State) : SameStages s (s.setOd 0x5005 0 0 v) :=
  sameStages_of_od rfl rfl rfl fun i x y f staged hy hf => by
    unfold isStaged at staged
    exact odAt_setOdAt_ne s v (odKey_ne hf (by decide) hy (by decide) (by omega) (by decide) (by omega))

section Same

variable {s t : State} (same : SameStages s t)

include same

theorem SameStages.rackHolds (g : Nat) : t.rackHolds g = s.rackHolds g := by
  have holds : t.entryHolds g = s.entryHolds g := by
    funext e
    unfold State.entryHolds
    rw [same.report _ 0 (by decide), same.report _ 1 (by decide)]
  unfold State.rackHolds State.mainEntries
  rw [same.entries, holds]

theorem SameStages.anyFlight : t.anyFlight = s.anyFlight := by
  unfold State.anyFlight State.reqList
  rw [same.requests]

end Same

/-- No step of any request is in flight (R151): the admitting part's requests have none, and none runs or is halted here. -/
def NoneInFlight (s : State) : Prop := s.anyFlight = false ∧ ∀ e ∈ s.steps, ∀ r, e.2 = some r → r.phase ≠ .running ∧ r.phase ≠ .halted

theorem SameStages.noneInFlight {s t : State} (same : SameStages s t) : NoneInFlight t ↔ NoneInFlight s := by
  unfold NoneInFlight
  rw [same.anyFlight, same.steps]

/-! ### The state of the barrier (OD 0x5005) -/

/-- The barrier takes a state; HELD and its end are told. -/
theorem setBarrier_eq (v : Nat) (s : State) : s.setBarrier v =
    let t := s.setOd 0x5005 0 0 v
    if s.isAdmitting = true ∧ s.od 0x5005 0 0 ≠ v ∧ (s.od 0x5005 0 0 = 2 ∨ v = 2) then
      t.forward 0x5005 0 (leBytes 1 (if v = 2 then 2 else 0)) (t.allParts.filter (· != t.endpoint))
    else t := by
  unfold State.setBarrier
  exact if_congr (by simp [and_assoc]) rfl rfl

theorem setBarrier_raised {s : State} (opened : s.od 0x5005 0 0 = 0) : s.setBarrier 1 = s.setOd 0x5005 0 0 1 := by
  rw [setBarrier_eq]
  exact if_neg (by simp [opened])

theorem setBarrier_opened {s : State} (here : s.isAdmitting = true) : s.setBarrier 0 =
    let t := s.setOd 0x5005 0 0 0
    if s.od 0x5005 0 0 = 2 then t.forward 0x5005 0 [0] (t.allParts.filter (· != t.endpoint)) else t := by
  rw [setBarrier_eq]
  exact if_congr ⟨fun ⟨_, _, held⟩ => held.resolve_right (by decide), fun held => ⟨here, by omega, .inl held⟩⟩ rfl rfl

/-- The barrier of `t` is in state `v`; what it judges by, and who raised it, are as in `s`. -/
structure SetsBarrier (v : Nat) (s t : State) : Prop where
  stages : SameStages s t
  state : t.od 0x5005 0 0 = v
  auto : t.barrierAuto = s.barrierAuto

theorem SetsBarrier.sends {v : Nat} {s t u : State} (sets : SetsBarrier v s t) (sent : SendsOnly t u) : SetsBarrier v s u where
  stages := sets.stages.trans (sameStages_of_sends sent)
  state := (sent.od 0 0x5005 0 0 (by decide) (by decide) (by decide) rfl).trans sets.state
  auto := (congrArg ServingPart.barrierAuto (sent.parts.2 .serving rfl)).trans sets.auto

theorem SetsBarrier.trans {v w : Nat} {s t u : State} (h : SetsBarrier v s t) (k : SetsBarrier w t u) : SetsBarrier w s u :=
  ⟨h.stages.trans k.stages, k.state, k.auto.trans h.auto⟩

theorem sets_setOd_barrier (v : Nat) (s : State) : SetsBarrier v s (s.setOd 0x5005 0 0 v) :=
  ⟨sameStages_setOd_barrier v s, od_setOd_same .., rfl⟩

theorem sets_setBarrier (v : Nat) (s : State) : SetsBarrier v s (s.setBarrier v) := by
  rw [setBarrier_eq]
  dsimp only
  split
  · exact (sets_setOd_barrier v s).sends (sendsOnly_forward ..)
  · exact sets_setOd_barrier v s

/-- A RAISED barrier is HELD where nothing is in flight, else it stays as it is. -/
theorem settleBarrier_cases (s : State) : s.od 0x5005 0 0 = 1 ∧ NoneInFlight s ∧ s.settleBarrier = s.setBarrier 2 ∨
    ¬ (s.od 0x5005 0 0 = 1 ∧ NoneInFlight s) ∧ s.settleBarrier = s := by
  unfold State.settleBarrier
  split
  next held =>
    simp only [Bool.and_eq_true, decide_eq_true_eq, Bool.not_eq_true', List.any_eq_false] at held
    obtain ⟨⟨raised, noFlight⟩, noStep⟩ := held
    refine .inl ⟨raised, ⟨noFlight, fun e he r hr => ?_⟩, rfl⟩
    simpa [hr] using noStep e he
  next stays =>
    refine .inr ⟨fun ⟨raised, noFlight, noStep⟩ => stays ?_, rfl⟩
    simp only [Bool.and_eq_true, decide_eq_true_eq, Bool.not_eq_true', List.any_eq_false]
    refine ⟨⟨raised, noFlight⟩, fun e he => ?_⟩
    split
    next r hr => simpa using noStep e he r hr
    · decide

/-! ### Retirement (R150) -/

theorem retire_refused {s : State} {g : Nat} (bad : g = 0 ∨ g = s.currentGen ∨ s.retiredGens.contains g = true) : s.retire g = s := if_pos bad

theorem retire_told {s : State} {g : Nat} (nonzero : g ≠ 0) (other : g ≠ s.currentGen) (new : s.retiredGens.contains g = false) : s.retire g =
    { s with retiredGens := s.retiredGens ++ [g] }.forward 0x5000 2 (leBytes 4 g) (s.allParts.filter (· != s.endpoint)) := by
  unfold State.retire State.noteRetired
  rw [if_neg (by simp_all), if_neg (by simp_all)]

theorem sets_retire {v : Nat} {s t : State} (sets : SetsBarrier v s t) (g : Nat) : SetsBarrier v s (t.retire g) := by
  by_cases bad : g = 0 ∨ g = t.currentGen ∨ t.retiredGens.contains g = true
  · rwa [retire_refused bad]
  · obtain ⟨nonzero, other, new⟩ : g ≠ 0 ∧ g ≠ t.currentGen ∧ t.retiredGens.contains g = false := by simpa using bad
    rw [retire_told nonzero other new]
    have noted : SetsBarrier v t { t with retiredGens := t.retiredGens ++ [g] } :=
      ⟨sameStages_of_od rfl rfl rfl fun _ _ _ _ _ _ _ => rfl, sets.state, rfl⟩
    exact sets.trans (noted.sends (sendsOnly_forward ..))

theorem sets_settleRetire {v : Nat} {s t : State} (sets : SetsBarrier v s t) : SetsBarrier v s t.settleRetire := by
  unfold State.settleRetire
  dsimp only
  split
  · exact sets_retire sets _
  · exact sets

/-! ### The barrier follows the stages (R143) -/

theorem autoBarrier_holds {s : State} (auto : s.barrierAuto = false) (holds : s.currentGen = 0 ∨ s.rackHolds s.currentGen = true) :
    s.autoBarrier = s := by
  unfold State.autoBarrier
  split
  · rfl
  next stages =>
    have held : s.rackHolds s.currentGen = true := holds.resolve_left (by simp_all)
    rw [if_neg (by simp [held]), if_neg (by simp [auto])]

/-- The record of a barrier that the admitting part raises by itself. -/
def lackRaise : Raise := { kind := .admission, path := pathDie 5 0, detail := 1, alarm := true }

theorem autoBarrier_lacks {s : State} (here : s.isAdmitting = true) (auto : s.barrierAuto = false) (opened : s.od 0x5005 0 0 = 0)
    (nonzero : s.currentGen ≠ 0) (lacks : s.rackHolds s.currentGen = false) :
    s.autoBarrier = (({ s with barrierAuto := true }.setBarrier 1).raise lackRaise).settleBarrier.settleRetire := by
  unfold State.autoBarrier
  rw [if_neg (by simp [here, nonzero]), if_pos (by simp [lacks, auto, opened])]
  rfl

/-- A barrier that opens while a stage lacks the current generation is raised again, and is HELD where nothing is in flight. -/
theorem sets_autoBarrier_of_lacks {s : State} (here : s.isAdmitting = true) (auto : s.barrierAuto = false) (opened : s.od 0x5005 0 0 = 0)
    (nonzero : s.currentGen ≠ 0) (lacks : s.rackHolds s.currentGen = false) :
    ∃ v, (v = 2 ∧ NoneInFlight s ∨ v = 1 ∧ ¬ NoneInFlight s) ∧ SetsBarrier v { s with barrierAuto := true } s.autoBarrier := by
  rw [autoBarrier_lacks here auto opened nonzero lacks]
  generalize raised : ({ s with barrierAuto := true }.setBarrier 1).raise lackRaise = t
  have sets : SetsBarrier 1 { s with barrierAuto := true } t := raised ▸ (sets_setBarrier 1 _).sends (sendsOnly_of_quiet (quiet_raise ..))
  obtain ⟨_, idle, held⟩ | ⟨flies, stays⟩ := settleBarrier_cases t
  · rw [held]
    exact ⟨2, .inl ⟨rfl, sets.stages.noneInFlight.mp idle⟩, sets_settleRetire (sets.trans (sets_setBarrier 2 t))⟩
  · rw [stays]
    exact ⟨1, .inr ⟨rfl, fun idle => flies ⟨sets.state, sets.stages.noneInFlight.mpr idle⟩⟩, sets_settleRetire sets⟩

/-! ### A command that was performed -/

/-- A command shows in its own object alone. -/
theorem od_commanded_ne {x y f x' y' : Nat} (other : x ≠ x') (hx : x < 65536 ∧ x' < 65536) (hy : y < 256 ∧ y' < 256) (hf : f < 64)
    (rq : Requester) (d : List Byte) (s : State) : (s.commanded rq x' y' d).od x y f = s.od x y f := by
  have shown {g : Nat} (hg : g < 64) (v : Nat) (t : State) : (t.setOd x' y' g v).od x y f = t.od x y f :=
    od_setOd_ne t v (odKey_ne hf hg hy.1 hy.2 hx.1 hx.2 (by omega))
  show (s.noteCommand x' y' d).od x y f = _
  unfold State.noteCommand cmdValue cmdResult cmdState
  dsimp only
  split <;> simp only [shown, Nat.reduceLT]

theorem barrierAuto_commanded (rq : Requester) (x y : Nat) (d : List Byte) (s : State) : (s.commanded rq x y d).barrierAuto = s.barrierAuto := by
  show (s.noteCommand x y d).barrierAuto = _
  unfold State.noteCommand
  dsimp only
  split <;> rfl

theorem pending_of_exec {i : Instr} {s t : State} (runs : exec i s = .next t) : t.pending = s.pending := by
  obtain ⟨u, next, keeps, _⟩ := exec_completes i s
  obtain rfl := Host.Outcome.next.inj (runs.symm.trans next)
  exact keeps

/-! ### Commands of OD 0x5001 and OD 0x5004 (R142, R151) -/

theorem exec_switchCommand (rq : Requester) (g : BitVec 32) (t : BitVec 64) (s : State) : exec (.switchCommand rq g t) s =
    .next (s.access rq .command 0x5001 0 (leBytes 4 g.toNat ++ leBytes 8 t.toNat) (State.applySwitch g.toNat t.toNat)) := rfl

theorem exec_barrierRaise (rq : Requester) (s : State) : exec (.barrierRaise rq) s =
    .next (s.access rq .command 0x5004 0 [1] (State.applyBarrier 1)) := rfl

theorem exec_barrierLower (rq : Requester) (s : State) : exec (.barrierLower rq) s =
    .next (s.access rq .command 0x5004 0 [2] (State.applyBarrier 2)) := rfl

theorem applySwitch_refused {s : State} {g : Nat} (earliest : Nat) (bad : g = 0 ∨ g = s.currentGen ∨ s.rackHolds g = false) :
    s.applySwitch g earliest = (codeState, s) := if_pos bad

theorem applySwitch_taken {s : State} {g : Nat} (earliest : Nat) (nonzero : g ≠ 0) (other : g ≠ s.currentGen) (held : s.rackHolds g = true) :
    s.applySwitch g earliest = (0, { s with switchTo := some (g, earliest) }) := if_neg (by simp [*])

/-- A host's command takes the barrier out of the part's own hands. -/
def byHost (s : State) : State := { s with barrierAuto := false }

theorem applyBarrier_raise_opened {s : State} (opened : s.od 0x5005 0 0 = 0) :
    s.applyBarrier 1 = (0, ((byHost s).setOd 0x5005 0 0 1).settleBarrier.settleRetire) :=
  congrArg (Prod.mk 0) ((if_pos opened).trans (congrArg State.settleDrain (setBarrier_raised (s := byHost s) opened)))

theorem applyBarrier_raise_closed {s : State} (closed : s.od 0x5005 0 0 ≠ 0) : s.applyBarrier 1 = (0, byHost s) :=
  congrArg (Prod.mk 0) (if_neg closed)

theorem applyBarrier_lower (s : State) : s.applyBarrier 2 = (0, ((byHost s).setBarrier 0).autoBarrier) := rfl

theorem sameStages_byHost_setBarrier (v : Nat) (s : State) : SameStages s ((byHost s).setBarrier v) :=
  .trans (t := byHost s) (sameStages_of_od rfl rfl rfl fun _ _ _ _ _ _ _ => rfl) (sets_setBarrier v _).stages

section Lower

variable {s : State} {rq : Requester} (ok : Accepted s rq .command 0x5004 0 [2])

include ok

theorem barrierLower_opens (holds : s.currentGen = 0 ∨ s.rackHolds s.currentGen = true) : exec (.barrierLower rq) s =
    .next (((byHost s).setBarrier 0).commanded rq 0x5004 0 [2]) := by
  have same := sameStages_byHost_setBarrier 0 s
  have stays : ((byHost s).setBarrier 0).autoBarrier = (byHost s).setBarrier 0 :=
    autoBarrier_holds (sets_setBarrier 0 (byHost s)).auto (by rwa [same.current, same.rackHolds])
  rw [exec_barrierLower, access_commanded ok ((applyBarrier_lower s).trans (congrArg (Prod.mk 0) stays))]

theorem barrierLower_lacks (here : s.isAdmitting = true) (nonzero : s.currentGen ≠ 0) (lacks : s.rackHolds s.currentGen = false) :
    Completes (.barrierLower rq) s fun t => t.pending = s.pending ∧ t.barrierAuto = true ∧ (t.od 0x5005 0 0 = 1 ∨ t.od 0x5005 0 0 = 2) ∧
      (t.od 0x5005 0 0 = 2 ↔ NoneInFlight s) := by
  have same := sameStages_byHost_setBarrier 0 s
  obtain ⟨-, opened, auto⟩ := sets_setBarrier 0 (byHost s)
  obtain ⟨v, judged, sets⟩ := sets_autoBarrier_of_lacks (same.admitting.trans here) auto opened (by rwa [same.current])
    (by rwa [same.current, same.rackHolds])
  have runs := exec_barrierLower rq s
  rw [access_commanded ok (applyBarrier_lower s)] at runs
  refine ⟨_, runs, pending_of_exec runs, (barrierAuto_commanded ..).trans sets.auto, ?_⟩
  rw [od_commanded_ne (by decide) (by decide) (by decide) (by decide), sets.state, ← same.noneInFlight]
  obtain ⟨rfl, idle⟩ | ⟨rfl, flies⟩ := judged
  · simp [idle]
  · simp [flies]

end Lower

/-! ### What other parts and hosts report (R140, R141, R147, R150) -/

theorem exec_genPointer (g : BitVec 32) (t : BitVec 64) (s : State) : exec (.genPointer g t) s =
    .next (if s.isAdmitting = true ∨ g.toNat = s.currentGen then s
      else (({ s with retiredGens := s.retiredGens.filter (· != g.toNat) }.setOd 0x5000 2 0 s.currentGen).setOd 0x5000 1 0 g.toNat).setOd
        0x5000 3 0 t.toNat) := rfl

section Report

variable {s : State} {src : BitVec 16} (g p : BitVec 32) (alien : s.twin ≠ some (s.sourceOf src.toNat))

include alien

theorem genReport_elsewhere (away : s.isAdmitting = false ∨ s.entryIndexOf (s.sourceOf src.toNat) = none) : exec (.genReport src g p) s = .next s := by
  show execGenReport src g p s = _
  unfold execGenReport
  dsimp only
  rw [if_neg alien]
  split
  next here found => simp [here, found] at away
  · rfl

theorem genReport_kept {i : Nat} (here : s.isAdmitting = true) (found : s.entryIndexOf (s.sourceOf src.toNat) = some i) : exec (.genReport src g p) s =
    .next (s.setReport i (if (s.entryAt i).map (·.pos0) = some (s.sourceOf src.toNat) then 0 else 1) g.toNat p.toNat).autoBarrier := by
  show execGenReport src g p s = _
  unfold execGenReport
  dsimp only
  rw [if_neg alien]
  simp only [here, found]

end Report

/-- A generation fault of the admitting part's own request. -/
theorem genFault_of_request {s : State} {step : BitVec 64} {n : Nat} {r : Request} (ctx : BitVec 32) (here : s.isAdmitting = true)
    (found : s.reqOfStep step.toNat = some (n, r)) : exec (.genFault step ctx) s =
    .next (if r.ctx ≠ ctx.toNat then s else ((s.discardSteps n [step.toNat]).restartSpec n).settleDrain) := by
  show execGenFault step ctx s = _
  unfold execGenFault
  rw [found, if_neg (by simp [here])]

theorem genFault_of_none {s : State} {step : BitVec 64} (ctx : BitVec 32) (absent : s.isAdmitting = false ∨ s.reqOfStep step.toNat = none) :
    exec (.genFault step ctx) s = .next s := by
  show execGenFault step ctx s = _
  unfold execGenFault
  obtain away | unknown := absent
  · rw [if_pos (by simp [away])]
  · rw [unknown, ite_self]

/-- One step of a request is discarded: a request that was ending, or whose deadline has passed, ends. -/
theorem discardSteps_single (n step : Nat) (s : State) : s.discardSteps n [step] =
    let u := s.abandonEverywhere step
    match u.req n with
    | none => u
    | some r => match r.ending.or (if pastDeadline r.entry u.now = true then some 3 else none) with
      | some o => u.finish n o [] step u.now
      | none => (u.modReq n fun (r : Request) => { r with flights := r.flights.map fun f => if [step].contains f.step then { f with step := 0 } else f
          }).oldGeneration n := by
  unfold State.discardSteps
  simp only [List.foldl_cons, List.foldl_nil, ne_eq, reduceCtorEq, not_false_eq_true, true_and, List.headD_cons] <;> rfl

theorem exec_drainLimitExpired (s : State) : exec .drainLimitExpired s =
    .next (if s.isAdmitting && decide (s.od 0x5000 3 0 + 1000000 * s.od 0x5018 2 0 ≤ s.now) then s.retire (s.od 0x5000 2 0) else s) := rfl

/-- Settles O35: each command takes one branch of its equation, and what the barrier judges by outlives every change of its own state. -/
theorem generationsSwitchAndHold : Obligations.GenerationsSwitchAndHold := by
  intro s
  refine ⟨fun rq g t ok => ⟨fun bad => ?refused, fun nonzero other held => ?waits⟩,
    fun g t => ⟨fun same => ?pointerSame, fun away other => ?pointerMoves⟩,
    fun src g p alien => ⟨genReport_elsewhere g p alien, fun i here found => ?reported⟩,
    fun step ctx => ⟨genFault_of_none ctx, fun n r here found => ⟨fun other => ?otherCtx, fun same => ?discarded⟩⟩,
    ⟨fun here past nonzero other new => ?retires, fun stays => ?retained⟩,
    fun rq ok => ⟨fun opened => ?raised, fun closed => ?closed⟩,
    fun rq ok here => ⟨fun holds => ?opens, barrierLower_lacks ok here⟩⟩
  case refused => rw [exec_switchCommand, access_refused (by decide) ok (applySwitch_refused _ bad)]
  case waits => rw [exec_switchCommand, access_commanded ok (applySwitch_taken _ nonzero other held)]
  case pointerSame => rw [exec_genPointer, if_pos same]
  case pointerMoves => rw [exec_genPointer, if_neg (by simp [away, other])]
  case reported => exact genReport_kept g p alien here found
  case otherCtx => rw [genFault_of_request ctx here found, if_pos other]
  case discarded =>
    rw [genFault_of_request ctx here found, if_neg (by simp [same]), discardSteps_single]
    rfl
  case retires => rw [exec_drainLimitExpired, if_pos (by simp [here, past]), retire_told nonzero other new]
  case retained =>
    rw [exec_drainLimitExpired]
    obtain away | early | bad := stays
    · rw [if_neg (by simp [away])]
    · rw [if_neg (by simp [early])]
    · rw [retire_refused bad, ite_self]
  case raised => rw [exec_barrierRaise, access_commanded ok (applyBarrier_raise_opened opened)]; rfl
  case closed => rw [exec_barrierRaise, access_commanded ok (applyBarrier_raise_closed closed)]; rfl
  case opens => rw [barrierLower_opens ok holds, setBarrier_opened (s := byHost s) here]; rfl

end Sys2Proof.Proofs
end

section

/-! ## Reference, core frequency, spread and enables (O30; 07 R158 to R167; 22 R509)

A change of the ceiling meets one of seven situations of the core frequency, and `retarget` has an equation for each. A write of an object has an
equation for each of its answers. A block that a running step uses stays in force because what `holdBlocks` keeps is a mask that names it. -/

namespace Sys2Proof.Proofs

open Sys2Proof.Machine Sys2Proof.Laws

/-! ### Writes -/

section Write

variable {i : Instr} {rq : Requester} {x y : Nat} {d : List Byte} {f : State → Nat × State} {s t : State}
  (performs : exec i s = .next (s.access rq .write x y d f)) (ok : Accepted s rq .write x y d)

include performs ok

/-- A write that its object refuses answers its code. -/
theorem write_answers {c : Nat} (hc : c ≠ 0) (refuses : f s = (c, s)) : exec i s = .next (s.answer rq c) := by
  rw [performs, access_refused hc ok refuses]

/-- A write that its object takes is answered OK. -/
theorem write_taken (takes : f s = (0, t)) : exec i s = .next (t.written rq) := by
  rw [performs, access_written ok takes]

end Write

/-! ### The reference (R158 to R160) -/

theorem isLocal_iff {s : State} : s.isLocal = true ↔ s.od 0x2100 1 0 = 1 := beq_iff_eq

theorem exec_referenceSelectWrite (rq : Requester) (v : Byte) (s : State) : exec (.referenceSelectWrite rq v) s =
    .next (s.access rq .write 0x2100 1 [v] (State.applyReferenceSelect v.toNat)) := rfl

section ReferenceSelect

variable {s : State} {v : Nat}

theorem applyReferenceSelect_serving (ready : s.ready = true) : s.applyReferenceSelect v = (codeState, s) := if_pos ready

variable (starts : s.ready = false)

include starts

theorem applyReferenceSelect_unknown (high : 1 < v) : s.applyReferenceSelect v = (codeRange, s) :=
  (if_neg (by simp [starts])).trans (if_pos high)

theorem applyReferenceSelect_resets (known : v ≤ 1) : s.applyReferenceSelect v = (0, (s.setOd 0x2100 1 0 v).mainSideReset false 4) :=
  (if_neg (by simp [starts])).trans (if_neg known.not_gt)

end ReferenceSelect

/-! ### The core frequency (R161, R162, R509) -/

section Retarget

variable {s : State} {f : Nat} (target : s.targetMhz = f)

include target

/-- A glide under way turns to a frequency that its set point serves. -/
theorem retarget_turns (glides : s.gliding = true) (served : f ≤ s.setPoint) (settled : s.setPointAt = none) :
    s.retarget = { s with freqTarget := f } := by
  subst target
  exact if_pos ⟨glides, served, settled⟩

variable (turnsNot : s.gliding = false ∨ s.setPoint < f ∨ s.setPointAt ≠ none)

include turnsNot

/-- Without a glide that turns, the target is compared with the frequency in effect and the set point. -/
theorem retarget_compares : s.retarget =
    if s.gliding = false ∧ f = s.coreMhz ∧ s.setPointAt.isSome = true then { s.writeSetPoint f with freqTarget := f, setPointAt := none }
    else if f ≤ s.coreMhz then { s with freqTarget := f, setPointAt := none, gliding := decide (f < s.coreMhz) }
    else if f ≤ s.setPoint then (if s.setPointAt.isSome then s else { s with freqTarget := f, gliding := true })
    else if s.pmbusFailed then s
    else { s.writeSetPoint f with setPointAt := some s.elapsed } := by
  subst target
  refine if_neg fun ⟨glides, served, settled⟩ => ?_
  obtain rests | above | waits := turnsNot
  · exact Bool.false_ne_true (rests.symm.trans glides)
  · exact above.not_ge served
  · exact waits settled

theorem retarget_turnedBack (same : f = s.coreMhz) (rests : s.gliding = false) (waits : s.setPointAt ≠ none) :
    s.retarget = { s.writeSetPoint f with freqTarget := f, setPointAt := none } := by
  rw [retarget_compares target turnsNot, if_pos ⟨rests, same, Option.isSome_iff_ne_none.mpr waits⟩]

theorem retarget_stays (same : f = s.coreMhz) (unforced : s.gliding = true ∨ s.setPointAt = none) :
    s.retarget = { s with freqTarget := f, setPointAt := none, gliding := false } := by
  rw [retarget_compares target turnsNot, if_neg, if_pos same.le, decide_eq_false same.ge.not_gt]
  rintro ⟨rests, -, waits⟩
  obtain glides | settled := unforced
  · exact Bool.false_ne_true (rests.symm.trans glides)
  · simp [settled] at waits

theorem retarget_falls (below : f < s.coreMhz) : s.retarget = { s with freqTarget := f, setPointAt := none, gliding := true } := by
  rw [retarget_compares target turnsNot, if_neg (fun h => below.ne h.2.1), if_pos below.le, decide_eq_true below]

variable (above : s.coreMhz < f)

include above

theorem retarget_risesWithin (served : f ≤ s.setPoint) :
    s.retarget = if s.setPointAt = none then { s with freqTarget := f, gliding := true } else s := by
  rw [retarget_compares target turnsNot, if_neg (fun h => above.ne' h.2.1), if_neg above.not_ge, if_pos served]
  cases s.setPointAt <;> rfl

variable (unserved : s.setPoint < f)

include unserved

theorem retarget_risesPast (acknowledged : s.pmbusFailed = false) : s.retarget = { s.writeSetPoint f with setPointAt := some s.elapsed } := by
  rw [retarget_compares target turnsNot, if_neg (fun h => above.ne' h.2.1), if_neg above.not_ge, if_neg unserved.not_ge, if_neg (by simp [acknowledged])]

theorem retarget_waitsForRegulator (failed : s.pmbusFailed = true) : s.retarget = s := by
  rw [retarget_compares target turnsNot, if_neg (fun h => above.ne' h.2.1), if_neg above.not_ge, if_neg unserved.not_ge, if_pos failed]

end Retarget

theorem exec_coreFrequencyCeilingWrite (rq : Requester) (m : BitVec 16) (s : State) : exec (.coreFrequencyCeilingWrite rq m) s =
    .next (s.access rq .write 0x2101 1 (leBytes 2 m.toNat) (State.applyCeiling m.toNat)) := rfl

theorem applyCeiling_refused {s : State} {n : Nat} (bad : n < 1500 ∨ 3000 < n ∨ n % 125 ≠ 0) : s.applyCeiling n = (codeRange, s) := if_pos bad

theorem applyCeiling_retargets {s : State} {n : Nat} (low : 1500 ≤ n) (high : n ≤ 3000) (unit : n % 125 = 0) :
    s.applyCeiling n = (0, (s.setOd 0x2101 1 0 n).retarget) := if_neg (by omega)

theorem targetMhz_setOd_ceiling (n : Nat) (s : State) :
    (s.setOd 0x2101 1 0 n).targetMhz = min n (damperMhz ((s.setOd 0x2101 1 0 n).od 0x2404 0 0)) := by
  rw [State.targetMhz, od_setOd_same]

theorem exec_setPointSettleWait {s : State} {t : Nat} (waits : s.setPointAt = some t) : exec .setPointSettleWait s =
    .next (if s.pmbusFailed || decide (s.elapsed < t + 100000) then s
      else { s with freqTarget := min s.setPoint s.targetMhz, setPointAt := none, gliding := true }) := by
  change execSetPointSettleWait s = _
  rw [execSetPointSettleWait, waits]

theorem setPointSettleWait_waits {s : State}
    (early : s.setPointAt = none ∨ s.pmbusFailed = true ∨ ∃ t, s.setPointAt = some t ∧ s.elapsed < t + 100000) :
    exec .setPointSettleWait s = .next s := by
  cases written : s.setPointAt with
  | none =>
    change execSetPointSettleWait s = _
    rw [execSetPointSettleWait, written]
  | some t =>
    rw [exec_setPointSettleWait written, if_pos]
    simpa [written] using early

theorem exec_glideComplete (s : State) : exec .glideComplete s =
    .next (if !s.gliding then s
      else
        let u := { s with coreMhz := s.freqTarget, gliding := false }
        (if s.freqTarget < s.setPoint ∧ s.setPointAt = none then u.writeSetPoint s.freqTarget else u).retarget) := rfl

/-- The frequency whose set point is written again after a failure: a rise's target, else the one in effect. -/
def rewriteMhz (s : State) : Nat := if s.coreMhz < s.targetMhz then s.targetMhz else s.coreMhz

/-- That set point is written again, after the first failure with a DAMPER event. -/
def rewritten (s : State) : State := (if s.pmbusFailed then s else s.damperEvent).emit (.pmbus 0 (boundMv (Config.setPointMv (rewriteMhz s))))

theorem exec_pmbusRetry_unacked (s : State) : exec (.pmbusRetry false) s = .next { rewritten s with pmbusFailed := true, setPointAt := none } := rfl

theorem exec_pmbusRetry_acked (s : State) : exec (.pmbusRetry true) s =
    .next { rewritten s with pmbusFailed := false, setPoint := rewriteMhz s,
                             setPointAt := if (rewritten s).coreMhz < rewriteMhz s then some (rewritten s).elapsed else none } := rfl

theorem rewritten_again {s : State} (failed : s.pmbusFailed = true) : rewritten s = s.emit (.pmbus 0 (boundMv (Config.setPointMv (rewriteMhz s)))) :=
  congrArg (State.emit _) (if_pos failed)

theorem rewritten_first {s : State} (works : s.pmbusFailed = false) :
    rewritten s = s.damperEvent.emit (.pmbus 0 (boundMv (Config.setPointMv (rewriteMhz s)))) :=
  congrArg (State.emit _) (if_neg (by simp [works]))

/-! ### Spread (R164) -/

theorem exec_spreadDepth (rq : Requester) (v : Byte) (s : State) : exec (.spreadWrite rq false v) s =
    .next (s.access rq .write 0x2102 1 [v] (State.applySpreadDepth v.toNat)) := congrArg Host.Outcome.next (if_neg Bool.false_ne_true)

theorem exec_spreadRate (rq : Requester) (v : Byte) (s : State) : exec (.spreadWrite rq true v) s =
    .next (s.access rq .write 0x2102 2 [v] (State.applySpreadRate v.toNat)) := congrArg Host.Outcome.next (if_pos rfl)

section Spread

variable {s : State} {v : Nat}

theorem applySpreadDepth_past (past : s.od 0x2103 0 0 < v) : s.applySpreadDepth v = (codeState, s) := if_pos past

theorem applySpreadDepth_unknown (within : v ≤ s.od 0x2103 0 0) (high : 10 < v) : s.applySpreadDepth v = (codeRange, s) :=
  (if_neg within.not_gt).trans (if_pos high)

theorem applySpreadDepth_set (within : v ≤ s.od 0x2103 0 0) (low : v ≤ 10) : s.applySpreadDepth v = (0, s.setOd 0x2102 1 0 v) :=
  (if_neg within.not_gt).trans (if_neg low.not_gt)

theorem applySpreadRate_unknown (bad : v < 30 ∨ 63 < v) : s.applySpreadRate v = (codeRange, s) := if_pos bad

theorem applySpreadRate_set (low : 30 ≤ v) (high : v ≤ 63) : s.applySpreadRate v = (0, s.setOd 0x2102 2 0 v) := if_neg (by omega)

end Spread

/-! ### Clock enables (R166, R167) -/

theorem exec_clockEnableWrite (rq : Requester) (v : BitVec 32) (s : State) : exec (.clockEnableWrite rq v) s =
    .next (s.access rq .write 0x2120 0 (leBytes 4 v.toNat) (State.applyClockEnable v.toNat)) := rfl

/-- The blocks that the loaded program says it uses (08 Table 08-4). -/
def blocksUsed (s : State) : Nat := if s.programLoaded then s.headerAt 32 4 else 0

theorem applyClockEnable_set {s : State} (v : Nat) (other : s.onlyLive = false) : s.applyClockEnable v =
    (0, ((s.holdBlocks (Nat.land v 0x3FFE) (blocksUsed s)).setOd 0x2120 0 0 (Nat.land v 0x3FFE)).resumeMoves) := if_neg (by simp [other])

/-- The blocks that a write keeps in force for the step that runs: those kept before, and those it clears that the step uses. -/
def heldBlocks (v used : Nat) (s : State) : Nat :=
  Nat.lor (s.rwbOld.get 0 (odKey 0 0x2120 0 0) - 1) (Nat.land (s.od 0x2120 0 0) (Nat.land used (0x3FFE - v)))

theorem holdBlocks_keeps {s : State} {v used : Nat} (runs : s.stepRunning = true) (any : heldBlocks v used s ≠ 0) :
    (s.holdBlocks v used).rwbOld.get 0 (odKey 0 0x2120 0 0) = heldBlocks v used s + 1 := by
  have keeps : s.holdBlocks v used = { s with rwbOld := s.rwbOld.put 0 (odKey 0 0x2120 0 0) (heldBlocks v used s + 1) } :=
    if_pos (by rw [runs, Bool.true_and]; exact bne_iff_ne.mpr any)
  simp only [keeps, get_put_same]

theorem inForce_of_kept {s : State} {x y f k : Nat} (kept : s.rwbOld.get 0 (odKey 0 x y f) = k + 1) : s.inForce x y f = k := by
  simp [State.inForce, kept]

theorem inForce_of_unkept {s : State} {x y f : Nat} (unkept : s.rwbOld.get 0 (odKey 0 x y f) = 0) : s.inForce x y f = s.od x y f := by
  simp [State.inForce, unkept]

theorem enabled_iff {s : State} {b : Nat} :
    s.enabled b = true ↔ (s.od 0x2120 0 0).testBit b = true ∨ (s.inForce 0x2120 0 0).testBit b = true := by
  simp [State.enabled, State.enableSet, bit_eq_testBit]

/-- The complement of a mask of enables within bits 1 to 13. -/
theorem testBit_cleared {v b : Nat} (low : 1 ≤ b) (high : b < 14) (clear : (Nat.land v 0x3FFE).testBit b = false) :
    (0x3FFE - Nat.land v 0x3FFE).testBit b = true := by
  generalize hw : Nat.land v 0x3FFE = w at clear ⊢
  have within : w ≤ 0x3FFE := hw ▸ Nat.and_le_right
  have even : w % 2 = 0 := by
    have first : (Nat.land v 0x3FFE).testBit 0 = false := by
      rw [show Nat.land v 0x3FFE = v &&& 0x3FFE from rfl, Nat.testBit_and]
      simp
    rw [hw, Nat.testBit_zero] at first
    simpa using first
  obtain ⟨c, rfl⟩ : ∃ c, b = c + 1 := ⟨b - 1, by omega⟩
  have half : (w + 1) / 2 = w / 2 := by omega
  rw [show 0x3FFE - w = 2 ^ 14 - (w + 1 + 1) by omega, Nat.testBit_two_pow_sub_succ (by omega), Nat.testBit_succ, half, ← Nat.testBit_succ, clear]
  simpa using high

/-- An enabled block that the step uses is kept when a write clears it. -/
theorem testBit_heldBlocks {s : State} {v used b : Nat} (on : s.enabled b = true) (uses : used.testBit b = true)
    (cleared : (0x3FFE - v).testBit b = true) : (heldBlocks v used s).testBit b = true := by
  have bits : (heldBlocks v used s).testBit b = ((s.rwbOld.get 0 (odKey 0 0x2120 0 0) - 1).testBit b || (s.od 0x2120 0 0).testBit b) := by
    show (_ ||| _ &&& (used &&& (0x3FFE - v))).testBit b = _
    rw [Nat.testBit_or, Nat.testBit_and, Nat.testBit_and, uses, cleared, Bool.and_true, Bool.and_true]
  rw [bits, Bool.or_eq_true]
  obtain set | held := enabled_iff.mp on
  · exact .inr set
  · cases kept : s.rwbOld.get 0 (odKey 0 0x2120 0 0) with
    | zero => exact .inr (inForce_of_unkept kept ▸ held)
    | succ k => exact .inl (inForce_of_kept kept ▸ held)

/-- A block in force that a running step uses stays in force (R167). -/
theorem enabled_holdBlocks {s : State} {v used b : Nat} (runs : s.stepRunning = true) (low : 1 ≤ b) (high : b < 14) (uses : used.testBit b = true)
    (on : s.enabled b = true) : ((s.holdBlocks (Nat.land v 0x3FFE) used).setOd 0x2120 0 0 (Nat.land v 0x3FFE)).enabled b = true := by
  refine enabled_iff.mpr ?_
  rw [od_setOd_same]
  refine Decidable.or_iff_not_imp_left.mpr fun clear => ?_
  have held := testBit_heldBlocks on uses (testBit_cleared low high (Bool.eq_false_iff.mpr clear))
  have any : heldBlocks (Nat.land v 0x3FFE) used s ≠ 0 := fun none => by rw [none, Nat.zero_testBit] at held; cases held
  have kept : ((s.holdBlocks (Nat.land v 0x3FFE) used).setOd 0x2120 0 0 (Nat.land v 0x3FFE)).rwbOld.get 0 (odKey 0 0x2120 0 0) = _ :=
    holdBlocks_keeps runs any
  rwa [inForce_of_kept kept]

/-- Settles O30: a write has an equation for each answer, and `retarget` one for each situation of the core frequency. -/
theorem referenceAndFrequencyFollow : Obligations.ReferenceAndFrequencyFollow := by
  intro s
  refine ⟨fun stays => ?unlost, fun on other => ?lost, fun on released cool unlocked late => ?locked, fun stays => ?unstable,
    fun rq v ok => ⟨fun ready => ?selectServing, fun high starts => ?selectUnknown, fun known starts => ?selectApplied⟩,
    fun rq m ok => ⟨fun bad => ?ceilingRefused, fun low high unit => ?ceiling⟩, fun t waits taken late => ?settled, setPointSettleWait_waits,
    fun rests => ?noGlide, fun glides => ⟨fun above settled => ?glideLowers, fun stays => ?glideEnds⟩, fun failed => ⟨?retryAgain, ?retryTaken⟩,
    fun works => ?firstFailure, fun off => ?noAlert, fun on => ?alert,
    fun rq v ok => ⟨fun high within => ?depthUnknown, fun past => ?depthPast, fun low within => ?depthSet⟩,
    fun rq v ok => ⟨fun bad => ?rateUnknown, fun low high => ?rateSet⟩,
    fun rq v ok other => ⟨?enables, fun runs b low high uses on => ?inForce⟩⟩
  case unlost => exact congrArg _ (if_pos (by simpa [isLocal_iff] using stays))
  case lost => exact congrArg _ (if_neg (by simp [isLocal_iff, on, other]))
  case locked => exact congrArg _ (if_neg (by simp [on, released, cool, unlocked, late]))
  case unstable => exact congrArg _ (if_pos stays)
  case selectServing => exact write_answers (exec_referenceSelectWrite ..) ok (by decide) (applyReferenceSelect_serving ready)
  case selectUnknown => exact write_answers (exec_referenceSelectWrite ..) ok (by decide) (applyReferenceSelect_unknown starts high)
  case selectApplied => exact write_taken (exec_referenceSelectWrite ..) ok (applyReferenceSelect_resets starts known)
  case ceilingRefused => exact write_answers (exec_coreFrequencyCeilingWrite ..) ok (by decide) (applyCeiling_refused bad)
  case ceiling =>
    have target := targetMhz_setOd_ceiling m.toNat s
    have takes {t : State} (retargets : (s.setOd 0x2101 1 0 m.toNat).retarget = t) : exec (.coreFrequencyCeilingWrite rq m) s = .next (t.written rq) :=
      retargets ▸ write_taken (exec_coreFrequencyCeilingWrite ..) ok (applyCeiling_retargets low high unit)
    exact ⟨fun glides served settled => takes (retarget_turns target glides served settled), fun turnsNot =>
      ⟨fun same rests waits => takes (retarget_turnedBack target turnsNot same rests waits),
      fun same unforced => takes (retarget_stays target turnsNot same unforced), fun below => takes (retarget_falls target turnsNot below),
      fun above served => takes (retarget_risesWithin target turnsNot above served),
      fun above unserved works => takes (retarget_risesPast target turnsNot above unserved works),
      fun above unserved failed => takes (retarget_waitsForRegulator target turnsNot above unserved failed)⟩⟩
  case settled => rw [exec_setPointSettleWait waits, if_neg (by simp [taken, late])]
  case noGlide => rw [exec_glideComplete, if_pos (by simp [rests])]
  case glideLowers =>
    rw [exec_glideComplete, if_neg (by simp [glides])]
    exact congrArg (fun u => Host.Outcome.next (State.retarget u)) (if_pos ⟨above, settled⟩)
  case glideEnds =>
    rw [exec_glideComplete, if_neg (by simp [glides])]
    refine congrArg (fun u => Host.Outcome.next (State.retarget u)) (if_neg fun ⟨above, settled⟩ => ?_)
    exact stays.elim above.not_ge (· settled)
  case retryAgain =>
    rw [exec_pmbusRetry_unacked, rewritten_again failed]
    exact congrArg (fun b => Host.Outcome.next
      { s.emit (.pmbus 0 (boundMv (Config.setPointMv (rewriteMhz s)))) with pmbusFailed := b, setPointAt := none }) failed.symm
  case retryTaken =>
    rw [exec_pmbusRetry_acked, rewritten_again failed]
    rfl
  case firstFailure =>
    rw [exec_pmbusRetry_unacked, rewritten_first works]
    rfl
  case noAlert => exact congrArg _ (if_pos off)
  case alert => exact congrArg _ (if_neg on)
  case depthUnknown => exact write_answers (exec_spreadDepth ..) ok (by decide) (applySpreadDepth_unknown within high)
  case depthPast => exact write_answers (exec_spreadDepth ..) ok (by decide) (applySpreadDepth_past past)
  case depthSet => exact write_taken (exec_spreadDepth ..) ok (applySpreadDepth_set within low)
  case rateUnknown => exact write_answers (exec_spreadRate ..) ok (by decide) (applySpreadRate_unknown bad)
  case rateSet => exact write_taken (exec_spreadRate ..) ok (applySpreadRate_set low high)
  case enables => exact write_taken (exec_clockEnableWrite ..) ok (applyClockEnable_set v.toNat other)
  case inForce => exact enabled_holdBlocks runs low high (bit_eq_testBit .. ▸ uses) on

end Sys2Proof.Proofs
end

section

/-! ## Rack time, edges and HOLD_N (O31; 07 R169 to R177)

A delay request leaves time and readiness alone, so that what is done with an offset is judged by the state before it. An edge, received or missed, is an
equation for each of a part that makes its own edges and one that takes them, with the edge before it or none. -/

namespace Sys2Proof.Proofs

open Sys2Proof.Machine Sys2Proof.Laws

/-! ### Rack time (R169 to R171) -/

theorem pump_ready (p n : Nat) (s : State) : (s.pump p n).ready = s.ready := by
  induction n generalizing s with
  | zero => rfl
  | succ n ih =>
    unfold State.pump
    dsimp only
    split
    · rfl
    · split
      · rfl
      · exact (ih _).trans rfl

theorem delayRequest_ready (s : State) : s.delayRequest.ready = s.ready := (pump_ready ..).trans rfl

theorem delayRequest_clock (s : State) : s.delayRequest.toClockPart = s.toClockPart := (clock_of_view (arrayView_queueFrames ..)).trans rfl

/-- What an offset shows in OD 0x2110 and in the time of the last Sync. -/
def offsetNoted (o : Int) (s : State) : State :=
  ({ s with ptpAt := s.elapsed }.setOd 0x2110 4 0 (ofSigned 32 o)).setOd 0x2110 2 0 (if o.natAbs ≤ 20 then 1 else 0)

theorem exec_ptp (o : Int) (s : State) : exec (.ptp o) s =
    .next (if !s.enabled 4 || s.isLocal || s.mainState = 0 || !s.portUp s.ptpPort then s
      else
        let u := offsetNoted o s.delayRequest
        if o.natAbs ≤ 1000 then { u with slew := -o }
        else if u.ready then { u with slew := -o }.clockAlarm 1
        else { u with slew := 0, rackTime := u.rackTime + BitVec.ofNat 64 (ofSigned 64 (-o)) }.clockAlarm 1) := rfl

theorem ptp_ignored {s : State} (o : Int)
    (bars : s.enabled 4 = false ∨ s.od 0x2100 1 0 = 1 ∨ s.mainState = 0 ∨ s.portUp s.ptpPort = false) : exec (.ptp o) s = .next s := by
  rw [exec_ptp, if_pos]
  simpa [or_assoc, isLocal_iff] using bars

section Offset

variable {s : State} {o : Int} (enabled : s.enabled 4 = true) (other : s.od 0x2100 1 0 ≠ 1) (on : s.mainState ≠ 0)
  (up : s.portUp s.ptpPort = true)

include enabled other on up

theorem ptp_measures : exec (.ptp o) s =
    .next (let u := offsetNoted o s.delayRequest
      if o.natAbs ≤ 1000 then { u with slew := -o }
      else if s.ready then { u with slew := -o }.clockAlarm 1
      else { u with slew := 0, rackTime := s.rackTime + BitVec.ofNat 64 (ofSigned 64 (-o)) }.clockAlarm 1) := by
  have ready : (offsetNoted o s.delayRequest).ready = s.ready := delayRequest_ready s
  have time : (offsetNoted o s.delayRequest).rackTime = s.rackTime := congrArg (·.rackTime) (delayRequest_clock s)
  rw [exec_ptp, if_neg (by simp [enabled, isLocal_iff, other, on, up])]
  dsimp only
  rw [ready, time]

theorem ptp_slews (small : o.natAbs ≤ 1000) : exec (.ptp o) s = .next { offsetNoted o s.delayRequest with slew := -o } := by
  rw [ptp_measures enabled other on up, if_pos small]

theorem ptp_alarms (large : 1000 < o.natAbs) (ready : s.ready = true) :
    exec (.ptp o) s = .next ({ offsetNoted o s.delayRequest with slew := -o }.clockAlarm 1) := by
  rw [ptp_measures enabled other on up, if_neg large.not_ge, if_pos ready]

theorem ptp_stepsTime (large : 1000 < o.natAbs) (starts : s.ready = false) : exec (.ptp o) s =
    .next ({ offsetNoted o s.delayRequest with slew := 0, rackTime := s.rackTime + BitVec.ofNat 64 (ofSigned 64 (-o)) }.clockAlarm 1) := by
  rw [ptp_measures enabled other on up, if_neg large.not_ge, if_neg (by simp [starts])]

end Offset

theorem exec_ptpHoldover (s : State) : exec .ptpHoldover s =
    .next (if s.mainState != 0 && s.od 0x2110 2 0 != 2 && decide (s.ptpAt + 8000000000 ≤ s.elapsed) then { s.setOd 0x2110 2 0 2 with slew := 0 }
      else s) := rfl

/-! ### Edges received (R172, R173) -/

theorem lastEdge_nil {s : State} (first : s.edges = []) : s.lastEdge = none := by
  simp [State.lastEdge, first]

theorem cadenceEdge_ignored {s : State} (bars : s.mainState = 0 ∨ s.od 0x2100 1 0 = 1) : exec .cadenceEdge s = .next s :=
  congrArg _ (if_pos (by simpa [isLocal_iff] using bars))

section Edge

variable {s : State} (on : s.mainState ≠ 0) (other : s.od 0x2100 1 0 ≠ 1)

include on other

theorem cadenceEdge_first (first : s.edges = []) : exec .cadenceEdge s = .next ((s.bump 0x2204 0 0 1).atEdge s.tick) := by
  change execCadenceEdge s = _
  rw [execCadenceEdge, if_neg (by simp [on, isLocal_iff, other]), lastEdge_nil first]

theorem cadenceEdge_later {t : Nat} (last : s.lastEdge = some t) : exec .cadenceEdge s =
    .next (if s.od 0x2200 1 0 = 0 then
        if s.tick - t < 100 ∨ 65535 < s.tick - t then s.bump 0x2204 0 2 1
        else ((s.setOd 0x2200 1 0 (s.tick - t)).bump 0x2204 0 0 1).atEdge s.tick
      else if s.tick = t + s.od 0x2200 1 0 then ({ s with grid := [], missed := 0 }.goodEdge.bump 0x2204 0 0 1).atEdge s.tick
      else s.offGrid) := by
  change execCadenceEdge s = _
  rw [execCadenceEdge, if_neg (by simp [on, isLocal_iff, other]), last]
  rfl

end Edge

/-! ### Edges made and missed (R158, R173) -/

/-- A part in LOCAL has made an edge, and one that takes edges has missed one. -/
def ownEdge (s : State) : State := (s.setOd 0x2200 1 0 (s.od 0x2200 2 0)).bump 0x2204 0 0 1
def missedEdge (s : State) : State := { s with missed := s.missed + 1, goodEdges := 0 }.bump 0x2204 0 1 1

/-- The edge a part makes comes a period after the last one, the first at once. -/
theorem atEdge_after {u : State} {t : Nat} (last : u.lastEdge = some t) (p : Nat) :
    u.atEdge ((u.lastEdge.map (· + p)).getD u.tick) = u.atEdge (t + p) := by
  rw [last]
  rfl

theorem atEdge_first {u : State} (first : u.lastEdge = none) (p : Nat) : u.atEdge ((u.lastEdge.map (· + p)).getD u.tick) = u.atEdge u.tick := by
  rw [first]
  rfl

theorem cadenceEdgeMissing_off {s : State} (off : s.mainState = 0) : exec .cadenceEdgeMissing s = .next s := congrArg _ (if_pos off)

section Missing

variable {s : State} (on : s.mainState ≠ 0)

include on

theorem cadenceEdgeMissing_local_first (own : s.od 0x2100 1 0 = 1) (first : s.edges = []) :
    exec .cadenceEdgeMissing s = .next ((ownEdge s).atEdge s.tick) := by
  have kept : (ownEdge s).lastEdge = none := lastEdge_nil first
  change execCadenceEdgeMissing s = _
  rw [execCadenceEdgeMissing, if_neg on, lastEdge_nil first]
  simp only [isLocal_iff.mpr own, if_true, Bool.not_true, Bool.false_eq_true, if_false]
  exact congrArg _ (atEdge_first kept _)

variable {t : Nat} (last : s.lastEdge = some t)

include last

theorem cadenceEdgeMissing_local (own : s.od 0x2100 1 0 = 1) (period : s.od 0x2200 2 0 ≠ 0) : exec .cadenceEdgeMissing s =
    .next (if t + s.od 0x2200 2 0 ≤ s.tick then (ownEdge s).atEdge (t + s.od 0x2200 2 0) else s) := by
  have kept : (ownEdge s).lastEdge = some t := last
  change execCadenceEdgeMissing s = _
  rw [execCadenceEdgeMissing, if_neg on, last]
  simp only [isLocal_iff.mpr own, if_true, bne_iff_ne.mpr period, Bool.true_and, Bool.not_eq_true', decide_eq_false_iff_not, ite_not]
  exact congrArg _ (if_congr Iff.rfl (atEdge_after kept _) rfl)

theorem cadenceEdgeMissing_counted (other : s.od 0x2100 1 0 ≠ 1) : exec .cadenceEdgeMissing s =
    .next (if s.od 0x2200 1 0 = 0 ∨ s.tick < t + s.od 0x2200 1 0 then s else (missedEdge s).atEdge (t + s.od 0x2200 1 0)) := by
  have kept : (missedEdge s).lastEdge = some t := last
  have away : s.isLocal = false := Bool.eq_false_iff.mpr fun own => other (isLocal_iff.mp own)
  change execCadenceEdgeMissing s = _
  rw [execCadenceEdgeMissing, if_neg on, last]
  simp only [away, Bool.false_eq_true, if_false]
  have early : (!(s.period != 0 && decide (t + s.period ≤ s.tick))) = true ↔ s.od 0x2200 1 0 = 0 ∨ s.tick < t + s.od 0x2200 1 0 := by
    change (!(s.od 0x2200 1 0 != 0 && decide (t + s.od 0x2200 1 0 ≤ s.tick))) = true ↔ _
    simp
  exact congrArg _ (if_congr early rfl (atEdge_after kept _))

end Missing

/-! ### Cadence LOST and HOLD_N (R173, R177) -/

theorem exec_cadenceLost (s : State) : exec .cadenceLost s =
    .next (if s.cadenceLost || decide (s.missed < s.od 0x2202 0 0) then s else { s with cadenceLost := true, goodEdges := 0 }.clockAlarm 2) := rfl

theorem exec_holdNPulse (s : State) : exec .holdNPulse s =
    .next (if s.holdStuck || (decide (s.tick < s.holdUntil) && s.tick + 2 != s.holdUntil) then s
      else if s.precedes s.partner && s.twin != some s.partner then s.slipNext else s.bump 0x2204 0 6 1) := rfl

theorem holdNPulse_taken {s : State} (free : s.holdStuck = false) (foreign : s.holdUntil ≤ s.tick ∨ s.tick + 2 = s.holdUntil) :
    exec .holdNPulse s =
      .next (if s.precedes s.partner && s.twin != some s.partner then s.slipNext else s.bump 0x2204 0 6 1) := by
  rw [exec_holdNPulse, if_neg]
  obtain ended | both := foreign
  · simp [free, ended.not_gt]
  · simp [free, both]

/-- Settles O31: an offset, an edge received or missed and a pulse have an equation for each case of the state they meet. -/
theorem timeEdgesAndHoldAreKept : Obligations.TimeEdgesAndHoldAreKept := by
  intro s
  refine ⟨fun o => ⟨ptp_ignored o, fun enabled other on up => ⟨ptp_slews enabled other on up, ptp_alarms enabled other on up,
      ptp_stepsTime enabled other on up⟩⟩, fun on shown late => ?holdover, fun stays => ?noHoldover,
    fun off => ⟨cadenceEdge_ignored (.inl off), cadenceEdgeMissing_off off⟩,
    fun own => ⟨cadenceEdge_ignored (.inr own), fun on period => ⟨cadenceEdgeMissing_local_first on own, fun t last => ⟨fun due => ?ownEdge,
      fun early => ?ownEarly⟩⟩⟩,
    fun on other => ⟨cadenceEdge_first on other, fun t last => ⟨fun first low high => ?period, fun first outside => ?noPeriod,
      fun known predicted => ?predicted, fun known off => ?offGrid, fun known due => ?missed, fun early => ?notMissed⟩⟩,
    fun held limit => ?lost, fun stays => ?notLost, fun ignored => ?pulseIgnored,
    fun free foreign => ⟨fun upstream single => ?pulseSlips, fun others => ?pulseCounted⟩, fun free => ?stuck, fun stuck => ?stuckAgain, rfl⟩
  case holdover => rw [exec_ptpHoldover, if_pos (by simp [on, shown, late])]
  case noHoldover => rw [exec_ptpHoldover, if_neg (by simpa [imp_iff_not_or, or_assoc] using stays)]
  case ownEdge => rw [cadenceEdgeMissing_local on last own period, if_pos due]; rfl
  case ownEarly => rw [cadenceEdgeMissing_local on last own period, if_neg early.not_ge]
  case period => rw [cadenceEdge_later on other last, if_pos first, if_neg (by omega)]
  case noPeriod => rw [cadenceEdge_later on other last, if_pos first, if_pos outside]
  case predicted => rw [cadenceEdge_later on other last, if_neg known, if_pos predicted]
  case offGrid => rw [cadenceEdge_later on other last, if_neg known, if_neg off]
  case missed => rw [cadenceEdgeMissing_counted on last other, if_neg (by omega)]; rfl
  case notMissed => rw [cadenceEdgeMissing_counted on last other, if_pos early]
  case lost => rw [exec_cadenceLost, if_neg (by simp [held, limit])]
  case notLost => rw [exec_cadenceLost, if_pos (by simpa using stays)]
  case pulseIgnored => rw [exec_holdNPulse, if_pos (by simpa using ignored)]
  case pulseSlips => rw [holdNPulse_taken free foreign, if_pos (by simp [upstream, single])]; rfl
  case pulseCounted => rw [holdNPulse_taken free foreign, if_neg (by simpa [imp_iff_not_or] using others)]
  case stuck => exact congrArg _ (if_neg (by simp [free]))
  case stuckAgain => exact congrArg _ (if_pos stuck)

end Sys2Proof.Proofs
end

section

/-! ## Steps launch and hearths kindle (O32; 07 R175 to R183; 08 R187, R190)

Before a hearth's stoker starts, the rows that wait in its calendar are written, and a repair may find no spare and take a hearth OFF. While a step runs
none of its kindle set goes OFF, so `Launching` holds along the launch: what the hearths of the kindle set work on stays as it is until each is started.
Kindles change the power of the hearths they kindle alone. -/

namespace Sys2Proof.Proofs

open Sys2Proof.Machine Sys2Proof.Laws

/-! ### Steps that are due (R175, R176, R179) -/

section OverSlips

variable {s : State} {r : StepRec}

theorem overSlips_of_past (past : s.od 0x2203 0 0 < r.k) : s.overSlips r = true := by
  simp [State.overSlips, past]

theorem overSlips_of_stuck (stuck : s.mayLaunch r = false) (full : s.od 0x2203 0 0 ≤ r.k) : s.overSlips r = true := by
  simp [State.overSlips, stuck, full]

theorem overSlips_of_below (below : r.k < s.od 0x2203 0 0) : s.overSlips r = false := by
  simp [State.overSlips, below.le, below]

theorem overSlips_of_may (may : s.mayLaunch r = true) (within : r.k ≤ s.od 0x2203 0 0) : s.overSlips r = false := by
  simp [State.overSlips, may, within]

end OverSlips

theorem stepAbandon_waits {s : State} {step : BitVec 64}
    (stays : (s.dueLaunch step.toNat = false ∨ s.mayLaunch (s.stepRec step.toNat) = true) ∧ (s.stepRec step.toNat).k ≤ s.od 0x2203 0 0 ∨
      (s.stepRec step.toNat).k < s.od 0x2203 0 0) : exec (.stepAbandon step) s = .next s := by
  refine congrArg Host.Outcome.next (if_neg ?_)
  obtain ⟨early | may, within⟩ | below := stays
  · simp [early, within]
  · simp [overSlips_of_may may within, within]
  · simp [overSlips_of_below below, below.le]

section Due

variable {s : State} {step : BitVec 64} {u : State} {r : StepRec} (settled : s.settleEdge step.toNat = u)

include settled

theorem stageLaunch_early (early : u.dueLaunch step.toNat = false) : exec (.stageLaunch step) s = .next u := by
  subst settled
  exact congrArg Host.Outcome.next (if_pos (by simp [early]))

variable (record : u.stepRec step.toNat = r) (due : u.dueLaunch step.toNat = true)

include record due

theorem stageLaunch_due : exec (.stageLaunch step) s =
    .next (if u.overSlips r then u.giveUp step.toNat
      else if !u.mayLaunch r then u.originateSlip step.toNat false
      else if u.checksGen && !passes r.gen r.kvGen (u.od 0x5003 0 0) (u.od 0x5003 0 1) then u.generationFault step.toNat
      else u.launch step.toNat) := by
  subst settled record
  exact congrArg Host.Outcome.next (if_neg (by simp [due]))

theorem stageLaunch_givesUp (past : u.overSlips r = true) : exec (.stageLaunch step) s = .next (u.giveUp step.toNat) := by
  rw [stageLaunch_due settled record due, if_pos past]

variable (within : u.overSlips r = false)

include within

theorem stageLaunch_slips (stuck : u.mayLaunch r = false) : exec (.stageLaunch step) s = .next (u.originateSlip step.toNat false) := by
  rw [stageLaunch_due settled record due, if_neg (by simp [within]), if_pos (by simp [stuck])]

variable (may : u.mayLaunch r = true)

include may

theorem stageLaunch_faults (checks : u.checksGen = true) (bad : passes r.gen r.kvGen (u.od 0x5003 0 0) (u.od 0x5003 0 1) = false) :
    exec (.stageLaunch step) s = .next (u.generationFault step.toNat) := by
  rw [stageLaunch_due settled record due, if_neg (by simp [within]), if_neg (by simp [may]), if_pos (by simp [checks, bad])]

theorem stageLaunch_launches (good : u.checksGen = false ∨ passes r.gen r.kvGen (u.od 0x5003 0 0) (u.od 0x5003 0 1) = true) :
    exec (.stageLaunch step) s = .next (u.launch step.toNat) := by
  rw [stageLaunch_due settled record due, if_neg (by simp [within]), if_neg (by simp [may]), if_neg]
  obtain free | pass := good
  · simp [free]
  · simp [pass]

end Due

/-- A step's edge is settled in its record alone. -/
theorem settleEdge_steps (id : Nat) (s : State) : ∃ steps, s.settleEdge id = { s with steps := steps } := by
  unfold State.settleEdge
  dsimp only
  split
  · exact ⟨s.steps, rfl⟩
  · split
    · exact ⟨_, rfl⟩
    · exact ⟨s.steps, rfl⟩

/-! ### What the hearths of the kindle set work on -/

/-- What a hearth's stoker is at, and its registers and flags. -/
structure Work where
  phase : Phase
  step : Nat
  pc : Nat
  flags : Tab Nat
  g : Tab Nat
  v : Tab (BitVec 16)

def workOf (x : Hearth) : Work := { phase := x.phase, step := x.step, pc := x.pc, flags := x.flags, g := x.g, v := x.v }

/-- The two states have the same time, steps, upkeep and loaded program. -/
structure SameRun (s t : State) : Prop where
  clock : t.toClockPart = s.toClockPart
  upkeep : t.toUpkeepPart = s.toUpkeepPart
  steps : t.steps = s.steps
  loaded : t.od 0x3402 0 0 = s.od 0x3402 0 0
  image : t.blob 0x3401 0 = s.blob 0x3401 0

/-- And the hearths of the kindle set stand at the same work. -/
structure Launching (s t : State) : Prop extends SameRun s t where
  work : ∀ h, bit s.kindleSet h = true → workOf (t.hearth h) = workOf (s.hearth h)

/-- The kindle set is a matter of the loaded program. -/
theorem kindleSet_congr {s t : State} (loaded : t.od 0x3402 0 0 = s.od 0x3402 0 0) (image : t.blob 0x3401 0 = s.blob 0x3401 0) :
    t.kindleSet = s.kindleSet := by
  unfold State.kindleSet State.programLoaded State.headerAt State.firstProgram State.progAt
  rw [loaded, image]

section SameRun

variable {s t : State} (same : SameRun s t)

include same

theorem SameRun.kindleSet : t.kindleSet = s.kindleSet := kindleSet_congr same.loaded same.image

theorem SameRun.stepRunning : t.stepRunning = s.stepRunning := by
  unfold State.stepRunning
  rw [same.steps]

theorem SameRun.stepRec (id : Nat) : t.stepRec id = s.stepRec id := by
  unfold State.stepRec
  rw [same.steps]

end SameRun

theorem SameRun.refl (s : State) : SameRun s s := ⟨rfl, rfl, rfl, rfl, rfl⟩

theorem SameRun.trans {s t u : State} (h : SameRun s t) (k : SameRun t u) : SameRun s u :=
  ⟨k.clock.trans h.clock, k.upkeep.trans h.upkeep, k.steps.trans h.steps, k.loaded.trans h.loaded, k.image.trans h.image⟩

theorem Launching.refl (s : State) : Launching s s := ⟨.refl s, fun _ _ => rfl⟩

theorem Launching.trans {s t u : State} (h : Launching s t) (k : Launching t u) : Launching s u :=
  ⟨h.toSameRun.trans k.toSameRun, fun g held => (k.work g (h.kindleSet ▸ held)).trans (h.work g held)⟩

/-- A change that leaves every hearth as it was. -/
theorem SameRun.launching {s t : State} (same : SameRun s t) (hearths : t.hearths = s.hearths) : Launching s t :=
  ⟨same, fun h _ => congrArg workOf (hearth_of_hearths hearths h)⟩

theorem launching_of_quiet {s t : State} (quiet : Quiet s t) : Launching s t :=
  SameRun.launching ⟨quiet.clock, quiet.upkeep, congrArg HearthPart.steps quiet.hearth, quiet.od _ _ _ _ (by decide) (by decide) (by decide) rfl,
    quiet.blob _ _ _ (by decide) (by decide) (by decide) (by decide)⟩ (congrArg HearthPart.hearths quiet.hearth)

theorem launching_setOd {x y f : Nat} (other : odKey 0 0x3402 0 0 ≠ odKey 0 x y f) (v : Nat) (s : State) : Launching s (s.setOd x y f v) :=
  SameRun.launching ⟨rfl, rfl, rfl, od_setOd_ne s v other, rfl⟩ rfl

/-- A change of the hearth die's stores that leaves its hearths and steps as they were. -/
theorem launching_stores {s : State} {p : HearthPart} (hearths : p.hearths = s.hearths) (steps : p.steps = s.steps) :
    Launching s { s with toHearthPart := p } :=
  SameRun.launching ⟨rfl, rfl, steps, rfl, rfl⟩ hearths

/-- A change of one hearth that leaves its work as it was. -/
theorem launching_modHearth {h : Nat} {f : Hearth → Hearth} {s : State} (keeps : workOf (f (s.hearth h)) = workOf (s.hearth h)) :
    Launching s (s.modHearth h f) := by
  refine ⟨⟨rfl, rfl, rfl, rfl, rfl⟩, fun g _ => ?_⟩
  obtain rfl | other := eq_or_ne g h
  · rw [hearth_modHearth, keeps]
  · rw [hearth_modHearth_ne other]

theorem launching_writeRow (h row : Nat) (cells : List VCell) (s : State) : Launching s (s.writeRow h row cells) :=
  launching_stores rfl rfl

theorem launching_foldl {α : Type} {f : State → α → State} {s : State} (l : List α)
    (keeps : ∀ t, SameRun s t → ∀ a ∈ l, Launching t (f t a)) : Launching s (l.foldl f s) :=
  List.foldlRecOn l f (motive := Launching s) (.refl s) fun t kept a mem => kept.trans (keeps t kept.toSameRun a mem)

theorem launching_writeRows (h row : Nat) (l : List (List VCell)) (s : State) : Launching s (s.writeRows h row l) := by
  induction l generalizing row s with
  | nil => exact .refl s
  | cons cells l ih => exact (launching_writeRow ..).trans (ih ..)

theorem launching_writeBack (key : Nat) (s : State) : Launching s (s.writeBack key) := by
  unfold State.writeBack
  dsimp only
  split <;> exact launching_stores rfl rfl

theorem launching_landRow (h cc : Nat) (r : InRow) (s : State) : Launching s (s.landRow h cc r) := by
  have lands := (launching_writeRow h r.row r.cells s).trans (launching_modHearth (h := h)
    (f := fun x => { x with fence := x.fence.map fun g => if r.serial < g.rows then { g with landed := max g.landed cc } else g }) rfl)
  unfold State.landRow
  dsimp only
  split
  · exact lands.trans (launching_modHearth rfl)
  · exact lands

/-! ### Hearths that go OFF while a step runs (R181) -/

theorem launching_emptied {h : Nat} {s : State} (free : bit s.kindleSet h = false) : Launching s (s.setHearth h Hearth.fresh) := by
  refine ⟨⟨rfl, rfl, rfl, rfl, rfl⟩, fun g held => ?_⟩
  have other : g ≠ h := fun same => by simp [← same, held] at free
  exact congrArg workOf (hearth_modHearth_ne other (fun _ => Hearth.fresh) s)

/-- A hearth outside the kindle set goes OFF: no stage serves from it, so nothing is reported (R183). -/
theorem launching_hearthOff {h : Nat} (fault : Bool) {s : State} (free : bit s.kindleSet h = false) : Launching s (s.hearthOff h fault) := by
  have off := launching_setOd (x := 0x3000 + h) (y := 1) (f := 0) (by unfold odKey; omega) 0 s
  have emptied := off.trans (launching_emptied (h := h) (by rw [off.kindleSet, free]))
  have dropped (t : State) : Launching t (t.dropRows h fun _ => false) := launching_stores rfl rfl
  have shown := (emptied.trans (dropped _)).trans (launching_setOd (x := 0x3405) (y := h + 1) (f := 0) (by unfold odKey; omega) 0 _)
  generalize hu : State.setOd 0x3405 (h + 1) 0 0 _ = u at shown
  have cleared : Launching s { u with writeBacks := u.writeBacks.filter fun e => e.1 / 16 != h } :=
    shown.trans (launching_stores rfl rfl)
  unfold State.hearthOff
  dsimp only
  rw [hu]
  generalize hv : (if fault = true then _ else _) = v
  have raised : Launching s v := by
    subst hv
    split
    · exact cleared.trans (launching_of_quiet (quiet_raise ..))
    · exact cleared
  rw [if_neg (by simp [raised.kindleSet, free])]
  exact raised

theorem launching_settleOff {s : State} (runs : s.stepRunning = true) : Launching s s.settleOff := by
  have noted : Launching s { s with offPending := s.offPending.filter fun e => s.heldByStep e.1 } := launching_stores rfl rfl
  refine noted.trans (launching_foldl _ fun t same e mem => launching_hearthOff e.2 ?_)
  have free : (!(bit s.kindleSet e.1 && s.stepRunning)) = true := (List.mem_filter.mp mem).2
  rw [(noted.toSameRun.trans same).kindleSet]
  simpa [runs] using free

theorem launching_takeOff (h : Nat) (fault : Bool) {s : State} (runs : s.stepRunning = true) : Launching s (s.takeOff h fault) := by
  unfold State.takeOff
  split
  · exact .refl s
  · have noted : Launching s { s with offPending := s.offPending ++ [(h, fault)] } := launching_stores rfl rfl
    exact noted.trans (launching_settleOff runs)

theorem launching_journaled (key n : Nat) (s : State) : Launching s (s.journaled key n) := by
  have full : Launching s { s with journalFull := true } := SameRun.launching ⟨rfl, rfl, rfl, rfl, rfl⟩ rfl
  unfold State.journaled
  split
  · exact .refl s
  · split
    · exact SameRun.launching ⟨rfl, rfl, rfl, rfl, rfl⟩ rfl
    · exact full.trans (launching_of_quiet (quiet_raise ..))

theorem launching_moveRow (h row : Nat) (s : State) : Launching s (s.moveRow h row) :=
  launching_foldl _ fun _ _ _ _ => launching_stores rfl rfl

theorem launching_setBlob {x y : Nat} (other : odKey 0 0x3401 0 0 ≠ odKey 0 x y 0) (b : List Byte) (s : State) : Launching s (s.setBlob x y b) :=
  SameRun.launching ⟨rfl, rfl, rfl, rfl, blobAt_setBlobAt_ne s b other⟩ rfl

/-- A repair that finds no spare row takes its hearth OFF at the boundary alone (09 R224). -/
theorem launching_repair (h row w : Nat) {s : State} (runs : s.stepRunning = true) : Launching s (s.repair h row w) := by
  unfold State.repair
  dsimp only
  split
  · exact launching_stores rfl rfl
  · split
    · exact .refl s
    · split
      · exact launching_takeOff h true runs
      · generalize hm : State.moveRow h row _ = t
        have moved : Launching s t := hm ▸ (((launching_setBlob (by unfold odKey; omega) _ s).trans (launching_journaled ..)).trans
          (launching_setOd (by unfold odKey; omega) _ _)).trans (launching_moveRow ..)
        split
        · split
          · exact moved.trans (launching_writeRow ..)
          · exact moved
        · exact moved

theorem launching_settleRows (h : Nat) {s : State} (runs : s.stepRunning = true) : Launching s (s.settleRows h) := by
  refine launching_foldl _ fun t same n _ => ?_
  split
  · exact launching_landRow ..
  · exact launching_writeRow ..
  · exact launching_writeRows ..
  · exact launching_writeBack ..
  · exact launching_repair _ _ _ (same.stepRunning.trans runs)
  · exact .refl t

/-! ### The start of a run (R175, R187, R190) -/

/-- A stoker of the kindle set issues its first instruction. -/
def startHearth (step entry : Nat) (ctx : List Nat) (s : State) (h : Nat) : State :=
  ((s.settleRows h).modHearth h (Hearth.launch step entry ctx)).showStoker h 1

/-- What a hearth works on at the start of a run: fresh flags and scalar registers, its vector registers as they were. -/
def startOf (step entry : Nat) (x : Hearth) : Work := { phase := .running, step := step, pc := entry, flags := [], g := [], v := x.v }

section Start

variable {s : State} (runs : s.stepRunning = true) (step entry : Nat) (ctx : List Nat)

include runs

theorem sameRun_startHearth (h : Nat) : SameRun s (startHearth step entry ctx s h) := by
  have settled := (launching_settleRows h runs).toSameRun
  have started (t : State) (f : Hearth → Hearth) : SameRun t (t.modHearth h f) := ⟨rfl, rfl, rfl, rfl, rfl⟩
  have shown (f v : Nat) (t : State) := (launching_setOd (x := 0x3405) (y := h + 1) (f := f) (by unfold odKey; omega) v t).toSameRun
  exact ((settled.trans (started ..)).trans (shown ..)).trans (shown ..)

theorem work_startHearth {h g : Nat} (held : bit s.kindleSet g = true) :
    workOf ((startHearth step entry ctx s h).hearth g) = if g = h then startOf step entry (s.hearth g) else workOf (s.hearth g) := by
  have settled := (launching_settleRows h runs).work g held
  show workOf (((s.settleRows h).modHearth h (Hearth.launch step entry ctx)).hearth g) = _
  split
  next same =>
    subst same
    rw [hearth_modHearth]
    exact congrArg (fun w => Work.mk .running step entry [] [] w.v) settled
  next other => rw [hearth_modHearth_ne other, settled]

/-- Every stoker of a list is started once its own rows are written, and none of the kindle set is touched but its own. -/
theorem startHearths (l : List Nat) :
    SameRun s (l.foldl (startHearth step entry ctx) s) ∧ ∀ g, bit s.kindleSet g = true →
      workOf ((l.foldl (startHearth step entry ctx) s).hearth g) = if g ∈ l then startOf step entry (s.hearth g) else workOf (s.hearth g) := by
  induction l generalizing s with
  | nil => exact ⟨.refl s, fun _ _ => rfl⟩
  | cons h l ih =>
    have same := sameRun_startHearth runs step entry ctx h
    obtain ⟨sameRest, workRest⟩ := ih (same.stepRunning.trans runs)
    refine ⟨same.trans sameRest, fun g held => ?_⟩
    have first := work_startHearth runs step entry ctx (h := h) held
    have vector : startOf step entry ((startHearth step entry ctx s h).hearth g) = startOf step entry (s.hearth g) := by
      refine congrArg (Work.mk .running step entry [] []) ((congrArg Work.v first).trans ?_)
      split <;> rfl
    rw [List.foldl_cons, workRest g (same.kindleSet ▸ held), vector, first]
    grind

end Start

/-- A step's record at its launch. -/
def launchedRec (s : State) (r : StepRec) : StepRec :=
  { r with phase := .running, launched := some s.tick, cfg := s.snapshot.1, remaps := s.snapshot.2, fencedSeen := [], convSeen := [] }

/-- A step is about to start its stokers: its record says that it runs, and the latches of its hearths are free. -/
def runNoted (step : Nat) (s : State) : State :=
  { s with driveArmed := true, latches := s.latches.filter fun e => !bit s.kindleSet (e.1 / 512) }.modStep step (launchedRec s)

/-- An entry that an unlisted key does not read as is listed. -/
theorem mem_of_get {α : Type} {d v : α} {k : Nat} {m : Tab α} (found : Tab.get d k m = v) (listed : v ≠ d) : (k, v) ∈ m := by
  induction m with
  | nil => exact absurd found.symm listed
  | cons e m ih =>
    obtain ⟨k', v'⟩ := e
    rw [Tab.get] at found
    split at found
    next same => exact same ▸ found ▸ List.mem_cons_self
    next => exact List.mem_cons_of_mem _ (ih found)

theorem runNoted_record (step : Nat) (s : State) : (runNoted step s).steps.get none step = some (launchedRec s (s.stepRec step)) := by
  simp only [runNoted, State.modStep, State.setStep, get_put_same]
  rfl

theorem runNoted_stepRec (step : Nat) (s : State) : (runNoted step s).stepRec step = launchedRec s (s.stepRec step) :=
  congrArg (·.getD StepRec.fresh) (runNoted_record step s)

theorem runNoted_running (step : Nat) (s : State) : (runNoted step s).stepRunning = true :=
  List.any_eq_true.mpr ⟨_, mem_of_get (runNoted_record step s) nofun, rfl⟩

section StartRun

variable (step : Nat) (s : State)

/-- The word at which a step's run starts: the entry point of its variant (R190). -/
def entryOf : Nat := s.headerAt (40 + 2 * ((s.stepRec step).variant % 8)) 2

/-- The state once every stoker of the kindle set has started. -/
def allStarted : State :=
  s.kindleHearths.foldl (startHearth step (entryOf step s) (((runNoted step s).stepRec step).context step)) (runNoted step s)

theorem allStarted_starts : SameRun (runNoted step s) (allStarted step s) ∧
    ∀ h ∈ s.kindleHearths, workOf ((allStarted step s).hearth h) = startOf step (entryOf step s) (s.hearth h) := by
  obtain ⟨same, work⟩ := startHearths (runNoted_running step s) step (entryOf step s) (((runNoted step s).stepRec step).context step)
    s.kindleHearths
  exact ⟨same, fun h mem => (work h (List.mem_filter.mp mem).2).trans (if_pos mem)⟩

theorem startRun_starts (entry : entryOf step s ≠ 0) (noInput : (s.stepRec step).inputs = []) : s.startRun step = allStarted step s := by
  have record : (allStarted step s).stepRec step = launchedRec s (s.stepRec step) :=
    ((allStarted_starts step s).1.stepRec step).trans (runNoted_stepRec step s)
  have inputs : ((allStarted step s).stepRec step).inputs = [] := by rw [record]; exact noInput
  have starts : s.startRun step =
      ((allStarted step s).stepRec step).inputs.foldl (fun s i => s.forwardInput step i) (allStarted step s) :=
    if_neg entry
  rw [starts, inputs]
  rfl

end StartRun

/-- A launch starts the kindle set: what is said of its hearths is one equation of their work. -/
theorem launch_starts {id : Nat} {u : State} (entry : entryOf id u ≠ 0) (noInput : (u.stepRec id).inputs = []) :
    (u.launch id).driveArmed = true ∧ ((u.launch id).stepRec id).phase = .running ∧ ((u.launch id).stepRec id).launched = some u.tick ∧
      ∀ h ∈ u.kindleHearths, workOf ((u.launch id).hearth h) = startOf id (entryOf id u) (u.hearth h) := by
  have counts {x f : Nat} (other : odKey 0 0x3402 0 0 ≠ odKey 0 x 0 f) (t : State) : SameRun t (t.bump x 0 f 1) :=
    (launching_setOd other _ t).toSameRun
  have counted := (counts (x := 0x2204) (f := 3) (by decide) u).trans (counts (x := 0x3404) (f := 0) (by decide) _)
  have hearths : ((u.bump 0x2204 0 3 1).bump 0x3404 0 0 1).kindleHearths = u.kindleHearths := by
    rw [State.kindleHearths, counted.kindleSet, State.kindleHearths]
  have starts : u.launch id = allStarted id ((u.bump 0x2204 0 3 1).bump 0x3404 0 0 1) := startRun_starts id _ entry noInput
  obtain ⟨same, work⟩ := allStarted_starts id ((u.bump 0x2204 0 3 1).bump 0x3404 0 0 1)
  have record := (same.stepRec id).trans (runNoted_stepRec ..)
  rw [starts]
  exact ⟨congrArg (·.driveArmed) same.upkeep, congrArg (·.phase) record, congrArg (·.launched) record, hearths ▸ work⟩

/-! ### Kindling (R182) -/

/-- `t` is as `s` in all that a kindle depends on but the tests of hearths. -/
structure SameKindle (s t : State) : Prop where
  power : ∀ g, t.power g = s.power g
  loaded : t.od 0x3402 0 0 = s.od 0x3402 0 0
  program : t.blob 0x3401 0 = s.blob 0x3401 0
  image : t.calImage = s.calImage
  going : t.offPending = s.offPending

theorem SameKindle.refl (s : State) : SameKindle s s := ⟨fun _ => rfl, rfl, rfl, rfl, rfl⟩

theorem SameKindle.trans {s t u : State} (h : SameKindle s t) (k : SameKindle t u) : SameKindle s u :=
  ⟨fun g => (k.power g).trans (h.power g), k.loaded.trans h.loaded, k.program.trans h.program, k.image.trans h.image, k.going.trans h.going⟩

theorem sameKindle_setOd {x y f : Nat} (other : ∀ g, odKey 0 (0x3000 + g) 1 0 ≠ odKey 0 x y f)
    (unloaded : odKey 0 0x3402 0 0 ≠ odKey 0 x y f) (v : Nat) (s : State) : SameKindle s (s.setOd x y f v) :=
  ⟨fun g => od_setOd_ne s v (other g), od_setOd_ne s v unloaded, rfl, rfl, rfl⟩

theorem sameKindle_abortTest (h : Nat) (s : State) : SameKindle s (s.abortTest h) := by
  have shown {f : Nat} (low : 0 < f) (high : f < 64) (v : Nat) (t : State) : SameKindle t (t.setOd 0x6102 (h + 1) f v) :=
    sameKindle_setOd (fun g => by unfold odKey; omega) (by unfold odKey; omega) v t
  have counted (v : Nat) (t : State) : SameKindle t (t.setOd 0x6103 0 0 v) :=
    sameKindle_setOd (fun g => by unfold odKey; omega) (by unfold odKey; omega) v t
  have ended : SameKindle s { s with testing := s.testing.put 0 h 0 } := ⟨fun _ => rfl, rfl, rfl, rfl, rfl⟩
  unfold State.abortTest
  split
  · exact .refl s
  · exact ((ended.trans (shown (by decide) (by decide) _ _)).trans (shown (by decide) (by decide) _ _)).trans (counted _ _)

theorem testing_abortTest (h g : Nat) (s : State) : (s.abortTest h).testing.get 0 g = if g = h then 0 else s.testing.get 0 g := by
  unfold State.abortTest
  split
  next untested => split <;> simp_all
  next =>
    show Tab.get 0 g (Tab.put 0 h 0 s.testing) = _
    split
    next same => rw [same, get_put_same]
    next other => rw [get_put_ne _ _ _ other]

/-- The tests of a list of hearths end. -/
theorem endTests (l : List Nat) (s : State) : SameKindle s (l.foldl (fun s h => s.abortTest h) s) ∧
    ∀ g, (l.foldl (fun s h => s.abortTest h) s).testing.get 0 g = if g ∈ l then 0 else s.testing.get 0 g := by
  induction l generalizing s with
  | nil => exact ⟨.refl s, fun _ => rfl⟩
  | cons h l ih =>
    obtain ⟨same, testing⟩ := ih (s.abortTest h)
    refine ⟨(sameKindle_abortTest h s).trans same, fun g => ?_⟩
    rw [List.foldl_cons, testing, testing_abortTest]
    grind

theorem power_kindleHearth (h g : Nat) (s : State) : (s.kindleHearth h).power g = if g = h then 2 else s.power g := by
  show ((s.setOd (0x3000 + h) 1 0 2).bump (0x3000 + h) 3 0 1).od (0x3000 + g) 1 0 = _
  rw [od_bump_ne _ _ (by unfold odKey; omega)]
  split
  next same => rw [same, od_setOd_same]
  next other => exact od_setOd_ne s 2 (by unfold odKey; omega)

/-- The hearths of a list are kindled. -/
theorem kindleEach (l : List Nat) (s : State) : (l.foldl (fun s h => s.kindleHearth h) s).testing = s.testing ∧
    ∀ g, (l.foldl (fun s h => s.kindleHearth h) s).power g = if g ∈ l then 2 else s.power g := by
  induction l generalizing s with
  | nil => exact ⟨rfl, fun _ => rfl⟩
  | cons h l ih =>
    obtain ⟨testing, power⟩ := ih (s.kindleHearth h)
    refine ⟨testing.trans rfl, fun g => ?_⟩
    rw [List.foldl_cons, power, power_kindleHearth]
    grind

/-- A hearth of the kindle set is kindled now: it is BANKED, no calibration image waits, and it is not being taken OFF (04 R106, Table 07-5). -/
def kindlesNow (s : State) (h : Nat) : Bool := s.power h == 1 && s.calImage == [] && !s.offPending.any fun e => e.1 == h

theorem kindlesNow_iff {s : State} {h : Nat} (banked : s.power h = 1) :
    kindlesNow s h = true ↔ s.calImage = [] ∧ ¬ (s.offPending.any fun e => e.1 == h) = true := by
  simp only [kindlesNow, banked, beq_self_eq_true, Bool.true_and, Bool.and_eq_true, beq_iff_eq, Bool.not_eq_true', Bool.not_eq_true]

theorem kindleSetNow_kindles (s : State) : (∀ h ∈ s.kindleHearths, s.kindleSetNow.testing.get 0 h = 0) ∧
    ∀ g, s.kindleSetNow.power g = if g ∈ s.kindleHearths ∧ kindlesNow s g = true then 2 else s.power g := by
  obtain ⟨same, testing⟩ := endTests s.kindleHearths s
  have kindle : State.kindleSetNow s = ((s.kindleHearths.foldl (fun s h => s.abortTest h) s).kindleHearths.filter
      (kindlesNow (s.kindleHearths.foldl (fun s h => s.abortTest h) s))).foldl (fun s h => s.kindleHearth h)
      (s.kindleHearths.foldl (fun s h => s.abortTest h) s) := rfl
  generalize s.kindleHearths.foldl (fun s h => s.abortTest h) s = u at same testing kindle
  obtain ⟨kept, power⟩ := kindleEach (u.kindleHearths.filter (kindlesNow u)) u
  have hearths : u.kindleHearths = s.kindleHearths := by
    rw [State.kindleHearths, kindleSet_congr same.loaded same.program, State.kindleHearths]
  have now (g : Nat) : kindlesNow u g = kindlesNow s g := by
    unfold kindlesNow
    rw [same.power, same.image, same.going]
  rw [kindle]
  refine ⟨fun h mem => ?_, fun g => ?_⟩
  · rw [kept, testing, if_pos mem]
  · rw [power, same.power]
    exact if_congr (by rw [List.mem_filter, hearths, now]) rfl rfl

section Kindle

variable {s u : State} {step : BitVec 64} (settled : s.settleEdge step.toNat = u)

include settled

theorem kindle_elsewhere (away : u.runsSteps = false) : exec (.kindle step) s = .next u := by
  subst settled
  exact congrArg Host.Outcome.next (if_pos (by simp [away]))

/-- A kindle whose tick has come kindles the kindle set, and a step that is known here is marked. -/
theorem kindle_kindles (here : u.runsSteps = true)
    (come : (u.stepRec step.toNat).known = true → u.launchTick (u.stepRec step.toNat) +
      (if (u.stepRec step.toNat).hdr.isNone then 50 * u.partnerSlips else 0) ≤ u.tick + u.od 0x2001 0 0) :
    exec (.kindle step) s = .next (if (u.kindleSetNow.steps.get none step.toNat).isSome
      then u.kindleSetNow.modStep step.toNat fun r => { r with kindled := true } else u.kindleSetNow) := by
  subst settled
  refine congrArg Host.Outcome.next (if_neg ?_)
  simpa [here] using come

end Kindle

/-- What a kindle whose tick has come shows, the step's edge being settled in its record alone. -/
theorem kindle_shows {s : State} {step : BitVec 64} (here : (s.settleEdge step.toNat).runsSteps = true)
    (come : let u := s.settleEdge step.toNat
      let r := u.stepRec step.toNat
      r.known = true → u.launchTick r + (if r.hdr.isNone then 50 * s.partnerSlips else 0) ≤ u.tick + u.od 0x2001 0 0) :
    Completes (.kindle step) s fun t => (∀ h ∈ s.kindleHearths, t.testing.get 0 h = 0) ∧
      ∀ g, t.power g = if g ∈ s.kindleHearths ∧ kindlesNow s g = true then 2 else s.power g := by
  obtain ⟨steps, settled⟩ := settleEdge_steps step.toNat s
  have shown : (∀ h ∈ s.kindleHearths, (s.settleEdge step.toNat).kindleSetNow.testing.get 0 h = 0) ∧
      ∀ g, (s.settleEdge step.toNat).kindleSetNow.power g = if g ∈ s.kindleHearths ∧ kindlesNow s g = true then 2 else s.power g := by
    rw [settled]
    exact kindleSetNow_kindles { s with steps := steps }
  have slips : (s.settleEdge step.toNat).partnerSlips = s.partnerSlips := by rw [settled]
  refine ⟨_, kindle_kindles rfl here (slips ▸ come), ?_⟩
  split
  · exact shown
  · exact shown

theorem exec_kindleComplete (hh : HearthId) (s : State) : exec (.kindleComplete hh) s =
    .next (if s.power hh.toNat = 2 ∧ (s.hearth hh.toNat).kindleAt ≤ s.tick then s.setOd (0x3000 + hh.toNat) 1 0 s.workingState else s) := rfl

/-! ### Banking (R181) -/

/-- Whether a hearth's stoker has nothing in progress. -/
def atRest (x : Hearth) : Prop := x.phase = .idle ∨ x.phase = .halted ∨ x.phase = .faulted

/-- A hearth that goes back to BANKED, free again when its banking ends. -/
def bankedOf (x : Hearth) (tick : Nat) : Hearth :=
  { Hearth.fresh with bankedAt := tick + 40, kindleAt := x.kindleAt, patrol := x.patrol, inbound := x.inbound, waiting := x.waiting }

theorem hearthBank_banks {s : State} {hh : HearthId} (hot : s.hot hh.toNat = true) (rests : atRest (s.hearth hh.toNat))
    (unwanted : s.wantedSoon hh.toNat = false) (free : s.workHolds hh.toNat = false) :
    let u := s.settleRows hh.toNat
    exec (.hearthBank hh) s = .next (if u.power hh.toNat = 0 then u
      else (u.setOd (0x3000 + hh.toNat) 1 0 1).modHearth hh.toNat fun _ => bankedOf (s.hearth hh.toNat) u.tick) := by
  refine congrArg Host.Outcome.next (if_neg ?_)
  obtain phase | phase | phase := rests <;> simp [phase, hot, unwanted, free]

theorem hearthBank_stays {s : State} {hh : HearthId} (bars : s.hot hh.toNat = false ∨ (s.hearth hh.toNat).phase = .running ∨
    s.wantedSoon hh.toNat = true ∨ s.workHolds hh.toNat = true) : exec (.hearthBank hh) s = .next s := by
  refine congrArg Host.Outcome.next (if_pos ?_)
  obtain cold | phase | wanted | held := bars
  · simp [cold]
  · simp [phase]
  · simp [wanted]
  · simp [held]

/-! ### Out of service and back (R181, R183) -/

theorem exec_outOfService (rq : Requester) (hh : HearthId) (s : State) : exec (.outOfService rq hh) s =
    .next (s.access rq .command (0x3000 + hh.toNat) 2 [1] (State.applyOutOfService hh.toNat)) := rfl

theorem exec_returnToService (rq : Requester) (hh : HearthId) (s : State) : exec (.returnToService rq hh) s =
    .next (s.access rq .command (0x3000 + hh.toNat) 2 [2] (State.applyReturn hh.toNat)) := rfl

section Service

variable {s : State} {h : Nat}

theorem applyOutOfService_only (only : s.onlyLive = true) (held : bit s.kindleSet h = true) : s.applyOutOfService h = (onlyCopy, s) :=
  if_pos (by simp [only, held])

theorem applyOutOfService_goes (spared : s.onlyLive = false ∨ bit s.kindleSet h = false) (on : s.power h ≠ 0) :
    s.applyOutOfService h = (0, s.takeOff h false) := by
  unfold State.applyOutOfService
  rw [if_neg, if_neg on]
  obtain other | outside := spared
  · simp [other]
  · simp [outside]

theorem applyReturn_off (off : s.power h = 0) : s.applyReturn h =
    (0, ((s.setOd (0x3000 + h) 1 0 1).modHearth h fun x => { x with bankedAt := s.tick + 100000 }).loadResident h) := if_pos off

theorem applyReturn_on (on : s.power h ≠ 0) : s.applyReturn h = (0, s) := if_neg on

end Service

/-- Settles O32: a due step takes one branch of its equation, a launch starts the work of its kindle set, and a kindle changes the power of those it
kindles alone. -/
theorem stepsLaunchAndHearthsKindle : Obligations.StepsLaunchAndHearthsKindle := by
  intro s
  refine ⟨fun step => ?steps, fun hh => ⟨fun kindles ended => ?complete, fun stays => ?incomplete, hearthBank_banks, hearthBank_stays⟩,
    fun rq hh ok => ⟨fun only held => ?refused, fun spared on => ?off⟩, fun rq hh ok => ⟨fun off => ?returns, fun on => ?inService⟩⟩
  case steps =>
    refine ⟨stageLaunch_early rfl, fun due past => stageLaunch_givesUp rfl rfl due (overSlips_of_past past),
      fun due stuck => ⟨fun full => stageLaunch_givesUp rfl rfl due (overSlips_of_stuck stuck full),
        fun below => stageLaunch_slips rfl rfl due (overSlips_of_below below) stuck⟩,
      fun due may within => stageLaunch_faults rfl rfl due (overSlips_of_may may within) may,
      fun due may within good entry noInput => ?launches, ⟨fun due stuck full => ?abandonsDue, fun known waits past => ?abandonsWaiting,
        stepAbandon_waits⟩, kindle_elsewhere rfl, fun here come hold => ?kindles⟩
    case launches =>
      have runs := stageLaunch_launches rfl rfl due (overSlips_of_may may within) may good
      obtain ⟨armed, running, launched, work⟩ := launch_starts entry noInput
      refine ⟨_, runs, pending_of_exec runs, armed, running, launched, fun h mem => ?_⟩
      have begun := work h mem
      obtain ⟨steps, settled⟩ := settleEdge_steps step.toNat s
      have vector : ((s.settleEdge step.toNat).hearth h).v = (s.hearth h).v := by
        rw [settled]
        rfl
      exact ⟨congrArg Work.phase begun, congrArg Work.step begun, congrArg Work.pc begun, congrArg Work.flags begun, congrArg Work.g begun,
        (congrArg Work.v begun).trans vector⟩
    case abandonsDue => exact congrArg Host.Outcome.next (if_pos (by simp [due, overSlips_of_stuck stuck full]))
    case abandonsWaiting => exact congrArg Host.Outcome.next (if_pos (by simp [known, waits, past]))
    case kindles =>
      obtain ⟨t, runs, tests, power⟩ := kindle_shows here fun known => by
        split
        next absent => exact hold (Option.isNone_iff_eq_none.mp absent) known
        next => exact come known
      refine ⟨t, runs, pending_of_exec runs, fun h mem => ⟨tests h mem, fun banked => ?_⟩, fun h _ outside => ?_⟩
      · rw [power, banked]
        exact if_congr ((and_iff_right mem).trans (kindlesNow_iff banked)) rfl rfl
      · rw [power, if_neg fun ⟨mem, _⟩ => outside mem]
  case complete => rw [exec_kindleComplete, if_pos ⟨kindles, ended⟩]; rfl
  case incomplete => rw [exec_kindleComplete, if_neg fun ⟨kindles, ended⟩ => stays.elim (· kindles) ended.not_gt]
  case refused => exact exec_answers (exec_outOfService ..) ok (by decide) (applyOutOfService_only only held)
  case off => exact exec_commands (exec_outOfService ..) ok (applyOutOfService_goes spared on)
  case returns => exact exec_commands (exec_returnToService ..) ok (applyReturn_off off)
  case inService => exact exec_commands (exec_returnToService ..) ok (applyReturn_on on)

end Sys2Proof.Proofs
end

section

/-! ## The instructions of a stoker (08 R191 to R193, R207)

An instruction that issues does its work at its cycle and, unless the work stops the stoker, goes on to the next word. Every family of instructions below
is an equation of its work, put into one of these. -/

namespace Sys2Proof.Proofs

open Sys2Proof.Machine Sys2Proof.Laws

section Issued

variable {s u : State} {w : IssueAt} {low op t : Nat} (issues : s.issuesAt w low op t)

include issues

theorem begin_of_issuesAt : s.begin w low op = (some t, s.atIssue w low op) := Prod.ext issues rfl

variable {go : Nat → State → State}

/-- Work that leaves the phase alone is followed by the next word. -/
theorem issue_goesOn (does : go t (s.atIssue w low op) = u)
    (phase : (u.hearth w.h.toNat).phase = ((s.atIssue w low op).hearth w.h.toNat).phase) : s.issue w low op go = u.toNext w.h.toNat := by
  subst does
  exact issue_eq issues (ne_faulted_of_issuesAt issues phase)

/-- Work that is a stoker fault is followed by nothing. -/
theorem issue_faults {k : Kind} {detail opcode : Nat}
    (does : go t (s.atIssue w low op) = (s.atIssue w low op).stokerFault w.h.toNat k detail opcode) :
    s.issue w low op go = (s.atIssue w low op).stokerFault w.h.toNat k detail opcode := by
  rw [issue_faulted issues (by rw [does, stokerFault_phase]), does]

end Issued

theorem phase_schedule (h cc : Nat) (d : Due) (s : State) : ((s.schedule h cc d).hearth h).phase = (s.hearth h).phase := by
  rw [hearth_schedule, at_phase]

end Sys2Proof.Proofs
end

section

/-! ## Vector operations (O4, O5; 08 R187, R193, R198)

A VEC instruction whose width is listed does its work, another is ILLEGAL. With no residue mismatch the work of an arithmetic operation is one or two
entries in the calendar. -/

namespace Sys2Proof.Proofs

open Sys2Proof.Machine Sys2Proof.Laws

section Vec

variable {s : State} {i : IssueAt} {f : VecFields} {vop t : Nat} (issues : s.issuesAt i (vecLow f) (128 + vop) t)
  {ws : Widths} {go : Nat → State → State}

include issues

theorem issueVec_illegal (unlisted : ws.allows f.w.toNat = false) :
    s.issueVec i f vop ws go = (s.atIssue i (vecLow f) (128 + vop)).stokerFault i.h.toNat .illegal (vecLow f) (128 + vop) :=
  issue_faults issues (if_neg (by simp [unlisted]))

variable (listed : ws.allows f.w.toNat = true)

include listed

theorem issueVec_goesOn {u : State} (does : go t (s.atIssue i (vecLow f) (128 + vop)) = u)
    (phase : (u.hearth i.h.toNat).phase = ((s.atIssue i (vecLow f) (128 + vop)).hearth i.h.toNat).phase) :
    s.issueVec i f vop ws go = u.toNext i.h.toNat :=
  issue_goesOn issues ((if_pos listed).trans does) phase

theorem issueVec_faults {k : Kind} {detail opcode : Nat} (does : go t (s.atIssue i (vecLow f) (128 + vop)) =
      (s.atIssue i (vecLow f) (128 + vop)).stokerFault i.h.toNat k detail opcode) :
    s.issueVec i f vop ws go = (s.atIssue i (vecLow f) (128 + vop)).stokerFault i.h.toNat k detail opcode :=
  issue_faults issues ((if_pos listed).trans does)

theorem issueVec_enters {u : State} {cc : Nat} {d : Due} (does : go t (s.atIssue i (vecLow f) (128 + vop)) = u.schedule i.h.toNat cc d)
    (phase : (u.hearth i.h.toNat).phase = ((s.atIssue i (vecLow f) (128 + vop)).hearth i.h.toNat).phase) :
    s.issueVec i f vop ws go = u.enter i.h.toNat cc d :=
  issueVec_goesOn issues listed does ((phase_schedule ..).trans phase)

theorem issueVec_enters2 {u : State} {cc : Nat} {d e : Due}
    (does : go t (s.atIssue i (vecLow f) (128 + vop)) = (u.schedule i.h.toNat cc d).schedule i.h.toNat cc e)
    (phase : (u.hearth i.h.toNat).phase = ((s.atIssue i (vecLow f) (128 + vop)).hearth i.h.toNat).phase) :
    s.issueVec i f vop ws go = u.enter2 i.h.toNat cc d e :=
  issueVec_goesOn issues listed does ((phase_schedule ..).trans ((phase_schedule ..).trans phase))

end Vec

/-- A result with no residue mismatch falls due as it is. -/
theorem result_clean {i : IssueAt} {f : VecFields} (clean : f.upset = none) (vop t lat : Nat) (w : VWrite) (s : State) :
    s.result i f vop t lat w = s.schedule i.h.toNat (t + lat) (.vreg w) := by
  simp only [State.result, clean]

theorem f16_allows {f : VecFields} (wide : f.w = 3) : Widths.f16.allows f.w.toNat = true := by rw [wide]; rfl

theorem f16_refuses {f : VecFields} (other : f.w ≠ 3) : Widths.f16.allows f.w.toNat = false :=
  beq_eq_false_iff_ne.mpr fun eq => other (BitVec.eq_of_toNat_eq eq)

theorem narrow_allows {w : Nat} (low : w < 2) : Widths.narrow.allows w = true := decide_eq_true low

theorem narrow_refuses {w : Nat} (high : 2 ≤ w) : Widths.narrow.allows w = false := decide_eq_false high.not_gt

theorem laneImm_of_lt {imm : Nat} (low : imm < 512) (s : State) (h r : Nat) : s.laneImm h r imm = (s.hearth h).lane r imm := if_pos low

/-- Settles O4: each operation enters its result by `issueVec_enters` or `issueVec_enters2`, and a width that is not its own by `issueVec_illegal`. -/
theorem vectorResultsFallDue : Obligations.VectorResultsFallDue := by
  intro s i f t clean at' x a b vd imm two issues gives gives2 spends
  have enters {c : Instr} {vop lat : Nat} {ws : Widths} {go : Nat → State → State} {w : VWrite} (runs : exec c s = .next (s.issueVec i f vop ws go))
      (listed : ws.allows f.w.toNat = true) (does : go t (at' vop) = (at' vop).result i f vop t lat w) : gives c vop lat (.vreg w) :=
    fun issued => runs.trans (congrArg _ (issueVec_enters issued listed (does.trans (result_clean clean ..)) rfl))
  have enters2 {c : Instr} {vop lat : Nat} {ws : Widths} {go : Nat → State → State} {w v : VWrite} (runs : exec c s = .next (s.issueVec i f vop ws go))
      (listed : ws.allows f.w.toNat = true)
      (does : go t (at' vop) = ((at' vop).result i f vop t lat w).schedule i.h.toNat (t + lat) (.vreg v)) : gives2 c vop lat (.vreg w) (.vreg v) :=
    fun issued => runs.trans (congrArg _ (issueVec_enters2 issued listed (does.trans (by rw [result_clean clean])) rfl))
  have sets {c : Instr} {vop lat g v : Nat} {go : Nat → State → State} (runs : exec c s = .next (s.issueVec i f vop .ignored go))
      (does : go t (at' vop) = (at' vop).scalarResult i.h.toNat t lat g v) : gives c vop lat (.greg (g % 16) (v % 2 ^ 32)) :=
    fun issued => runs.trans (congrArg _ (issueVec_enters issued rfl does rfl))
  have spent {c : Instr} {vop lat : Nat} {ws : Widths} {d : Due} {go : Nat → State → State} (runs : exec c s = .next (s.issueVec i f vop ws go))
      (listed : ws.allows f.w.toNat = true) (does : go t (at' vop) = ((at' vop).spend 1).schedule i.h.toNat (t + lat) d) : spends c vop lat d :=
    fun issued => runs.trans (congrArg _ (issueVec_enters issued listed does rfl))
  have illegal {c : Instr} {vop : Nat} {go : Nat → State → State} (runs : exec c s = .next (s.issueVec i f vop .f16 go)) (other : f.w ≠ 3)
      (issued : issues vop) : exec c s = .next ((at' vop).stokerFault i.h.toNat .illegal (vecLow f) (128 + vop)) :=
    runs.trans (congrArg _ (issueVec_illegal issued (f16_refuses other)))
  refine ⟨?anyWidth, fun wide => ?f16, fun low => enters rfl (narrow_allows low) rfl, ?lanes, ?otherWidth, fun high issued => ?widen⟩
  case anyWidth =>
    exact ⟨enters rfl rfl rfl, enters rfl rfl rfl, enters rfl rfl rfl, enters rfl rfl rfl, enters rfl rfl rfl, enters rfl rfl rfl,
      enters rfl rfl rfl, enters rfl rfl rfl, enters rfl rfl rfl, enters rfl rfl rfl⟩
  case f16 =>
    have listed := f16_allows wide
    refine ⟨enters rfl listed rfl, enters rfl listed rfl, enters rfl listed rfl, enters rfl listed rfl, enters rfl listed rfl, enters rfl listed rfl,
      ?narrows, fun low => enters2 rfl listed (if_neg low), fun low => ⟨enters2 rfl listed (if_neg low), enters rfl listed (if_neg low)⟩⟩
    simp only [List.forall_mem_cons]
    exact ⟨enters2 rfl listed rfl, enters2 rfl listed rfl, fun _ none => nomatch none⟩
  case lanes =>
    refine ⟨sets rfl rfl, sets rfl rfl, sets rfl rfl, fun low => ⟨spent rfl rfl ?glane, spent rfl rfl ?bcast, spent rfl rfl ?laneg⟩⟩
    case glane => rw [laneImm_of_lt low]; rfl
    case bcast => rw [result_clean clean, laneImm_of_lt low]
    case laneg => dsimp only; rw [result_clean clean, if_pos low]
  case otherWidth =>
    simp only [List.forall_mem_cons]
    exact ⟨illegal rfl, illegal rfl, illegal rfl, illegal rfl, illegal rfl, illegal rfl, illegal rfl, illegal rfl, illegal rfl, illegal rfl,
      illegal rfl, illegal rfl, fun _ none => nomatch none⟩
  case widen => exact congrArg _ (issueVec_illegal issued (narrow_refuses high))

/-! ### TOPK and its 16 cycles (R198) -/

/-- Whether the TOPK before is less than 16 cycles old. -/
def topkSoon (x : Hearth) (t : Nat) : Bool := match x.topk with
  | some p => decide (t < p + 16)
  | none => false

theorem topkSoon_of_last {x : Hearth} {t p : Nat} (last : x.topk = some p) (soon : t < p + 16) : topkSoon x t = true := by
  simp only [topkSoon, last, soon, decide_true]

theorem topkSoon_of_late {x : Hearth} {t : Nat} (late : ∀ p, x.topk = some p → p + 16 ≤ t) : topkSoon x t = false := by
  unfold topkSoon
  split
  next p last => exact decide_eq_false (late p last).not_gt
  next => rfl

/-- The lanes that a TOPK picks; for a number of them that is not stated, some number (R198). -/
def topkCount (f : VecFields) (s : State) : Nat :=
  if 1 ≤ f.imm.toNat % 512 ∧ f.imm.toNat % 512 ≤ 256 then f.imm.toNat % 512 else Config.freeWord s.free % 256 + 1

/-- What a TOPK that issues at a cycle does. -/
def topkWork (i : IssueAt) (f : VecFields) (t : Nat) (s : State) : State :=
  let h := i.h.toNat
  let r := topk (s.free + 1) (topkCount f s) ((s.hearth h).lanes f.va.toNat)
  if topkSoon (s.hearth h) t then s.stokerFault h .schedule t 152
  else (((s.spend 1024).modHearth h fun x => { x with topk := some t }).result i f 24 t 16 (vw f.vd.toNat 0 r.1)).schedule h (t + 16)
    (.vreg (vw f.vd.toNat 256 r.2))

theorem exec_vecTopk (i : IssueAt) (f : VecFields) (s : State) : exec (.vecTopk i f) s = .next (s.issueVec i f 24 .f16 (topkWork i f)) := rfl

/-! ### Loads and stores (R198, R215) -/

/-- Settles O5: a load or store past its bars takes its slot, and TOPK, once `topkWork` is in its branch, enters its two results. -/
theorem vectorLoadsAndStores : Obligations.VectorLoadsAndStores := by
  intro s i f t h at' x frame rows
  refine ⟨fun issued => ⟨?ldMany, ?ldBarred, ?ldRuns⟩, fun issued => ⟨?stMany, ?stBarred, ?stRuns⟩, fun issued wide clean => ⟨?early, ?topk⟩⟩
  case ldMany => exact fun many => congrArg _ (issueVec_faults (vop := 0) issued rfl (if_pos many))
  case ldBarred => exact fun few bar => congrArg _ (issueVec_faults (vop := 0) issued rfl ((if_neg few.not_gt).trans (if_pos bar)))
  case ldRuns =>
    exact fun few inside free =>
      congrArg _ (issueVec_enters (vop := 0) issued rfl ((if_neg few.not_gt).trans (if_neg (not_or.mpr ⟨inside.not_gt, free⟩))) (phase_modHearth rfl))
  case stMany => exact fun many => congrArg _ (issueVec_faults (vop := 1) issued rfl (if_pos many))
  case stBarred => exact fun few bar => congrArg _ (issueVec_faults (vop := 1) issued rfl ((if_neg few.not_gt).trans (if_pos bar)))
  case stRuns =>
    exact fun few inside free =>
      congrArg _ (issueVec_enters (vop := 1) issued rfl ((if_neg few.not_gt).trans (if_neg (not_or.mpr ⟨inside.not_gt, free⟩))) (phase_modHearth rfl))
  case early =>
    exact fun p last soon => (exec_vecTopk ..).trans
      (congrArg _ (issueVec_faults (vop := 24) issued (f16_allows wide) (if_pos (topkSoon_of_last last soon))))
  case topk =>
    intro late low high r
    have count : topkCount f (at' 24) = f.imm.toNat % 512 := if_pos ⟨low, high⟩
    have work : topkWork i f t (at' 24) = ((((at' 24).spend 1024).modHearth h fun x => { x with topk := some t }).schedule h (t + 16)
        (.vreg (vw f.vd.toNat 0 r.1))).schedule h (t + 16) (.vreg (vw f.vd.toNat 256 r.2)) := by
      rw [topkWork, count, topkSoon_of_late late, result_clean clean]
      rfl
    exact (exec_vecTopk ..).trans (congrArg _ (issueVec_enters2 (vop := 24) issued (f16_allows wide) work (phase_modHearth rfl)))

end Sys2Proof.Proofs
end

section

/-! ## Branches, HLT and the halt of a hearth (O6, O10; 08 R192, R201, R205, R206, R223) -/

namespace Sys2Proof.Proofs

open Sys2Proof.Machine Sys2Proof.Laws

/-! ### Branches (R201) -/

/-- A branch that issues changes its hearth alone. -/
theorem bra_of_issuesAt {s : State} {i : IssueAt} {f : BraFields} {t : Nat} (issues : s.issuesAt i (braLow f) 9 t) (pre : Hearth → Hearth)
    (taken : Hearth → Bool) : s.bra i f pre taken = (s.atIssue i (braLow f) 9).modHearth i.h.toNat fun x =>
      { pre x with pc := if taken (pre x) then f.target.toNat else (pre x).pc + 1 } := by
  rw [State.bra, begin_of_issuesAt issues]

theorem setG_pc (n v : Nat) (x : Hearth) : (x.setG n v).pc = x.pc := by
  unfold Hearth.setG
  split <;> rfl

theorem not_condLt (a b : Nat) : (!condLt a b) = decide (toSigned 32 b ≤ toSigned 32 a) := by
  rw [condLt, ← decide_not]
  exact decide_eq_decide.mpr not_lt

/-- Settles O6: a branch is `bra_of_issuesAt` with the condition of its kind. -/
theorem branchesAndHalt : Obligations.BranchesAndHalt := by
  intro s i f t h s' a b goes
  refine ⟨fun issued => ?branches, fun issued => ?hlt⟩
  case hlt =>
    refine congrArg Host.Outcome.next ?_
    rw [begin_of_issuesAt issued]
  case branches =>
    have branch (c : Nat → Nat → Bool) : s.bra i f id (fun x => c (x.gReg f.ga.toNat) (x.gReg f.gb.toNat)) = goes (c a b) :=
      bra_of_issuesAt issued id _
    have next {c : Instr} {u v : State} (runs : exec c s = .next u) (eq : u = v) : exec c s = .next v := runs.trans (congrArg _ eq)
    refine ⟨next rfl (branch fun _ _ => true), next rfl (branch fun _ _ => false), next rfl (branch condEq), next rfl ?ne,
      next rfl (branch condLt), next rfl ?ge, next rfl (branch fun a _ => condBit a f.bit.toNat), next rfl (branch fun a _ => !condBit a f.bit.toNat), next rfl ?dec⟩
    case ne => exact (branch fun a b => !condEq a b).trans (congrArg goes decide_not.symm)
    case ge => exact (branch fun a b => !condLt a b).trans (congrArg goes (not_condLt a b))
    case dec =>
      refine (bra_of_issuesAt issued _ _).trans (congrArg (fun g => s'.modHearth h g) (funext fun x => ?_))
      dsimp only
      rw [setG_pc]
      simp only [bne_iff_ne, ite_not]

/-! ### The halt of a hearth (R205) -/

/-- The calendar does nothing where it is empty. -/
theorem advance_of_empty {s : State} {h : Nat} (empty : (s.hearth h).calendar = []) (cc : Nat) :
    s.advance h cc = s.modHearth h fun x => { x with now := max x.now cc } := by
  have stays : s.runTo h cc (s.hearth h).workLeft = s := by
    rw [Hearth.workLeft, State.runTo, empty]
  rw [State.advance, stays]

/-- A hearth halted at a cycle, its halt shown. -/
def haltedAt (h idle : Nat) (s : State) : State :=
  (s.modHearth h fun x => { x with phase := .halted, haltAt := idle, haltTick := s.tick }).showStoker h 0

theorem hearthHalt_halts {s : State} {hh : HearthId} (ended : (s.hearth hh.toNat).phase = .ended) (none0 : (s.hearth hh.toNat).queue0 = [])
    (none1 : (s.hearth hh.toNat).queue1 = []) (delivered : (s.hearth hh.toNat).groups = []) (empty : (s.hearth hh.toNat).calendar = []) :
    let idle := max (s.hearth hh.toNat).hltAt (s.hearth hh.toNat).busy
    let t := haltedAt hh.toNat idle (s.advance hh.toNat idle)
    exec (.hearthHalt hh) s = .next (if t.stillRunning (s.hearth hh.toNat).step = [] then t.stepHalts (s.hearth hh.toNat).step else t) := by
  intro idle t
  have stays : ((s.advance hh.toNat idle).hearth hh.toNat).phase = .ended := by
    rw [advance_of_empty empty, phase_modHearth rfl, ended]
  refine congrArg Host.Outcome.next ?_
  simp only [ended, none0, none1, delivered, empty, List.any_nil, List.foldl_nil, ne_eq, not_true_eq_false, Bool.false_eq_true, or_self, if_false]
  exact if_neg (not_not.mpr stays)

/-! ### The end of a freeze (R223) -/

section Freeze

variable {s : State} {hh : HearthId} {f : Freeze} (frozen : (s.hearth hh.toNat).freeze = some f)

include frozen

theorem freezeEnd_failed (failed : ((s.advance hh.toNat (f.resume - 1)).hearth hh.toNat).freeze = none) :
    exec (.freezeEnd hh) s = .next (s.advance hh.toNat (f.resume - 1)) := by
  refine congrArg Host.Outcome.next ?_
  dsimp only
  rw [frozen]
  dsimp only
  rw [failed]

theorem freezeEnd_ends {f' : Freeze} (still : ((s.advance hh.toNat (f.resume - 1)).hearth hh.toNat).freeze = some f') :
    exec (.freezeEnd hh) s = .next ((s.advance hh.toNat (f.resume - 1)).modHearth hh.toNat fun x =>
      { x with freeze := none, last := x.last + (if x.last < f'.start then f'.resume - f'.start else 0) }) := by
  refine congrArg Host.Outcome.next ?_
  dsimp only
  rw [frozen]
  dsimp only
  rw [still]
  simp only [add_ite, Nat.add_zero]

end Freeze

/-- Settles O10: the calendar of a hearth past its HLT is empty, so its halt is `hearthHalt_halts`; a freeze that has ended on the way leaves none. -/
theorem hearthsHaltAndFreezesEnd : Obligations.HearthsHaltAndFreezesEnd := by
  intro s hh h
  refine ⟨fun ended none0 none1 delivered empty => ⟨fun more => ?goesOn, fun last => ?ends⟩, fun ended queued => ?queued, fun f frozen =>
    ⟨fun _ => freezeEnd_ends frozen, freezeEnd_failed frozen⟩⟩
  case goesOn => exact (hearthHalt_halts ended none0 none1 delivered empty).trans (congrArg _ (if_neg more))
  case ends => exact (hearthHalt_halts ended none0 none1 delivered empty).trans (congrArg _ (if_pos last))
  case queued => exact congrArg Host.Outcome.next (if_pos (.inr (.inl queued)))

end Sys2Proof.Proofs
end

section

/-! ## Waits (O7; 08 R202)

A wait that finds its flag in time takes the hearth to its release; what it shows on the way is in OD 0x3405 alone. -/

namespace Sys2Proof.Proofs

open Sys2Proof.Machine Sys2Proof.Laws

/-- A hearth released from its wait at a cycle. -/
def releasedAt (w : Wait) (r : Nat) (x : Hearth) : Hearth :=
  let y := if w.clr then x.clearFlag w.event else x
  { y with phase := .running, wait := none, last := r, pc := y.pc + 1 }

theorem releasedAt_eq (w : Wait) (r : Nat) (x : Hearth) : releasedAt w r x =
    { (if w.clr then x.clearFlag w.event else x) with phase := .running, wait := none, last := r, pc := x.pc + 1 } := by
  unfold releasedAt
  cases w.clr <;> rfl

/-- The wait of a hearth is over at a cycle: the hearth is released, and OD 0x3405 shows it and the longest wait. -/
def waitOver (h : Nat) (w : Wait) (r : Nat) (s : State) : State :=
  let t := s.modHearth h (releasedAt w r)
  (t.showStoker h 1).setOd 0x3405 (h + 1) 5 (max (t.od 0x3405 (h + 1) 5) (min (r - w.cc) 0xFFFFFFFF))

theorem hearth_waitOver (h : Nat) (w : Wait) (r : Nat) (s : State) : (waitOver h w r s).hearth h = releasedAt w r (s.hearth h) := hearth_modHearth ..

/-- The hearth shows RUNNING, state 1. -/
theorem od_waitOver {h : Nat} (hh : h < 128) (w : Wait) (r : Nat) (s : State) : (waitOver h w r s).od 0x3405 (h + 1) 0 = 1 := by
  have other {f : Nat} (hf : f < 64) (ne : 0 ≠ f) (v : Nat) (u : State) : (u.setOd 0x3405 (h + 1) f v).od 0x3405 (h + 1) 0 = u.od 0x3405 (h + 1) 0 :=
    od_setOd_ne u v (odKey_ne (by decide) hf (by omega) (by omega) (by decide) (by decide) (by omega))
  unfold waitOver State.showStoker
  rw [other (by decide) (by decide), other (by decide) (by decide), od_setOd_same]

theorem flagAt_releasedAt {w : Wait} (clears : w.clr = true) (r : Nat) (x : Hearth) : (releasedAt w r x).flagAt w.event = none := by
  simp only [Hearth.flagAt, releasedAt, Hearth.clearFlag, clears, get_put_same, if_true]

section Waiting

variable {s : State} {hh : HearthId} {w : Wait} (waiting : (s.hearth hh.toNat).phase = .waiting) (wait : (s.hearth hh.toNat).wait = some w)

include waiting wait

theorem waiRelease_releases {c : Nat} :
    let s' := s.runUntilFlag hh.toNat w.event w.timeout ((s.hearth hh.toNat).calendar.length + 1)
    let u := s'.advance hh.toNat (w.release c - 1)
    let r := (u.hearth hh.toNat).afterFreeze (w.release c)
    let v := u.advance hh.toNat r
    (s'.hearth hh.toNat).flagAt w.event = some c → c ≤ w.timeout → (s'.hearth hh.toNat).phase = .waiting → (v.hearth hh.toNat).phase = .waiting →
    exec (.waiRelease hh) s = .next (waitOver hh.toNat w r v) := by
  intro s' u r v set inTime still waits
  refine congrArg Host.Outcome.next ?_
  dsimp only
  rw [waiting, wait]
  dsimp only
  rw [set]
  exact (if_neg (not_or.mpr ⟨inTime.not_gt, not_not.mpr still⟩)).trans (if_neg (not_not.mpr waits))

section Timeout

variable (still : ((s.advance hh.toNat w.timeout).hearth hh.toNat).phase = .waiting)
  (unset : ∀ c, ((s.advance hh.toNat w.timeout).hearth hh.toNat).flagAt w.event = some c → w.timeout < c)

include still unset

/-- The flag is not set by the timeout: it counts, and its action follows. -/
theorem waiTimeout_counts :
    let s' := s.advance hh.toNat w.timeout
    let t := s'.bump 0x3405 (hh.toNat + 1) 4 1
    exec (.waiTimeout hh) s = .next (if w.branch then (t.modHearth hh.toNat fun x =>
      { x with phase := .running, wait := none, last := (s'.hearth hh.toNat).afterFreeze w.timeout, pc := w.target }).showStoker hh.toNat 1
      else t.stokerFault hh.toNat .timeout w.event 6) := by
  intro s' t
  refine congrArg Host.Outcome.next ?_
  dsimp only
  rw [waiting, wait]
  refine if_neg ?_
  rw [still]
  split
  next c set => simp [(unset c set).not_ge]
  next => decide

end Timeout

end Waiting

/-- Settles O7: a wait that finds its flag in time ends in `waitOver`; one that does not counts its timeout, whose action follows. -/
theorem waitsReleaseOrTimeOut : Obligations.WaitsReleaseOrTimeOut := by
  intro s i f t hh w h
  refine ⟨fun issued => ?waits, fun waiting wait => ⟨?releases, fun unset still => ⟨fun branch => ?branches, fun halt => ?faults⟩⟩⟩
  case waits =>
    refine congrArg Host.Outcome.next ?_
    rw [begin_of_issuesAt issued]
    rfl
  case releases =>
    intro s' c set inTime still due u r waits
    have runs : exec (.waiRelease hh) s = .next (waitOver h w r (u.advance h r)) := waiRelease_releases waiting wait set inTime still waits
    have released : (waitOver h w r (u.advance h r)).hearth h = releasedAt w r ((u.advance h r).hearth h) := hearth_waitOver ..
    refine ⟨_, runs, ?_, fun clears => ?_, od_waitOver hh.isLt .., pending_of_exec runs⟩
    · rw [released, releasedAt_eq]
    · rw [released, flagAt_releasedAt clears]
  case branches => exact (waiTimeout_counts waiting wait still unset).trans (congrArg _ (if_pos branch))
  case faults => exact (waiTimeout_counts waiting wait still unset).trans (congrArg _ (if_neg (ne_true_of_eq_false halt)))

end Sys2Proof.Proofs
end

section

/-! ## Fences (O9; 08 R204; 09 R236)

A fence that issues is said once for its three scopes. Whether it has released by its timeout is `releasedBy`, which the cycle of completion decides. -/

namespace Sys2Proof.Proofs

open Sys2Proof.Machine Sys2Proof.Laws

/-- The fence of a scope that a hearth waits at from a cycle on. -/
def fenceOf (scope t : Nat) (f : FenFields) (x : Hearth) : Fence :=
  { scope := scope, earliest := t + fenceLead scope, timeout := t + timeoutCc f.scale f.tmo.toNat, cc := t, seq := x.seq, rows := x.serial,
    sends := x.sent.length, landed := 0 }

theorem fen_stops {s : State} {i : IssueAt} {f : FenFields} {t : Nat} (issues : s.issuesAt i (fenLow f) 8 t) (scope : Nat) :
    let s' := s.atIssue i (fenLow f) 8
    s.fen scope i f = (s'.modHearth i.h.toNat fun x =>
      { x with phase := .fencing, fence := some (fenceOf scope t f (s'.hearth i.h.toNat)) }).showStoker i.h.toNat 2 := by
  intro s'
  rw [State.fen, begin_of_issuesAt issues]
  rfl

/-- Whether a fence has released by its timeout (R204). -/
def releasedBy (s : State) (h : Nat) (g : Fence) : Bool := (s.fenceAt h g g.timeout).any fun c => decide (g.release c ≤ g.timeout)

theorem releasedBy_eq_false {s : State} {h : Nat} {g : Fence} (late : ∀ c, s.fenceAt h g g.timeout = some c → g.timeout < g.release c) :
    releasedBy s h g = false := by
  cases complete : s.fenceAt h g g.timeout with
  | none => rw [releasedBy, complete, Option.any_none]
  | some c => rw [releasedBy, complete, Option.any_some, decide_eq_false (late c complete).not_ge]

theorem releasedBy_eq_true {s : State} {h : Nat} {g : Fence} {c : Nat} (complete : s.fenceAt h g g.timeout = some c)
    (inTime : g.release c ≤ g.timeout) : releasedBy s h g = true := by
  rw [releasedBy, complete, Option.any_some, decide_eq_true inTime]

section Fencing

variable {s : State} {hh : HearthId} {g : Fence} (fencing : (s.hearth hh.toNat).phase = .fencing) (fence : (s.hearth hh.toNat).fence = some g)

include fencing fence

theorem fenRelease_incomplete {cc : Nat} (incomplete : s.fenceAt hh.toNat g cc = none) : exec (.fenRelease hh cc) s = .next s := by
  refine congrArg Host.Outcome.next ?_
  dsimp only
  rw [fencing, fence]
  dsimp only
  rw [incomplete]

theorem fenRelease_complete {cc c : Nat} (complete : s.fenceAt hh.toNat g cc = some c) :
    let u := s.advance hh.toNat (g.release c - 1)
    let r := (u.hearth hh.toNat).afterFreeze (g.release c)
    let s' := u.advance hh.toNat r
    exec (.fenRelease hh cc) s = .next (if g.timeout < g.release c then s
      else if (s'.hearth hh.toNat).phase ≠ .fencing then s'
      else (s'.modHearth hh.toNat fun x => { x with phase := .running, fence := none, last := r, pc := x.pc + 1 }).showStoker hh.toNat 1) := by
  refine congrArg Host.Outcome.next ?_
  dsimp only
  rw [fencing, fence]
  dsimp only
  rw [complete]

/-- At its timeout a fence faults, unless it has released or the step has failed. -/
theorem exec_fenTimeout :
    let s' := s.advance hh.toNat g.timeout
    exec (.fenTimeout hh) s = .next (if (s'.hearth hh.toNat).phase ≠ .fencing ∨ releasedBy s' hh.toNat g = true then s'
      else s'.stokerFault hh.toNat .timeout (0x100 + g.scope) 8) := by
  intro s'
  refine congrArg Host.Outcome.next ?_
  dsimp only
  rw [fencing, fence, releasedBy]
  dsimp only
  cases s'.fenceAt hh.toNat g g.timeout <;> rfl

end Fencing

/-- Settles O9: the scopes issue alike, and a release and a timeout are each one equation over the cycle of completion. -/
theorem fencesReleaseOrTimeOut : Obligations.FencesReleaseOrTimeOut := by
  intro s i f t cc hh g
  refine ⟨fun issued => ?stops, fun fencing fence => ⟨fun c complete => ⟨fun inTime still => ?releases, fun late => ?tooLate⟩,
    fun incomplete => ?incomplete, fun still => ⟨fun unreleased => ?faults, fun c complete inTime => ?released⟩⟩⟩
  case stops =>
    simp only [List.forall_mem_cons]
    exact ⟨congrArg _ (fen_stops issued 0), congrArg _ (fen_stops issued 1), congrArg _ (fen_stops issued 2), fun _ none => nomatch none⟩
  case releases => exact (fenRelease_complete fencing fence complete).trans (congrArg _ ((if_neg inTime.not_gt).trans (if_neg (not_not.mpr still))))
  case tooLate => exact (fenRelease_complete fencing fence complete).trans (congrArg _ (if_pos late))
  case incomplete => exact fenRelease_incomplete fencing fence incomplete
  case faults =>
    exact (exec_fenTimeout fencing fence).trans
      (congrArg _ (if_neg (not_or.mpr ⟨not_not.mpr still, ne_true_of_eq_false (releasedBy_eq_false unreleased)⟩)))
  case released => exact (exec_fenTimeout fencing fence).trans (congrArg _ (if_pos (.inr (releasedBy_eq_true complete inTime))))

end Sys2Proof.Proofs
end

section

/-! ## Flue sends and receives (O12; 08 R199; 10 R253, R254)

A send is barred by the first of its checks that fails; a send that passes them enters one read for each unit. -/

namespace Sys2Proof.Proofs

open Sys2Proof.Machine Sys2Proof.Laws

/-- Whether a hearth leads a sparse tag, and so tells how many contribute (R253). -/
def leads (s : State) (h tag : Nat) : Bool := s.tagSparse tag && leAt (s.flueEntry tag) 3 1 == h

/-- The total that a lead tells with its send, from g15. -/
def leadTotal (s : State) (h tag : Nat) : Nat := if leads s h tag then (s.hearth h).gReg 15 % 256 else 0

/-- What bars a send at a cycle (R199, R253, R254). -/
def sendBarred (s : State) (h t : Nat) (f : FluFields) : Bool :=
  let x := s.hearth h
  let tag := f.tag.toNat
  decide (t < x.flueUntil) || !s.tagValid tag || s.tagF16 tag != f.f16 || s.tagDest tag != f.dest.toNat ||
    !bit (s.tagContributors tag) h || x.sent.contains tag || decide (32768 < f.addr.toNat + 16 * f.len.toNat) ||
    (leads s h tag && (leadTotal s h tag == 0 || decide (leAt (s.flueEntry tag) 4 1 < leadTotal s h tag)))

/-- The reads of a send's units, in the flue-out slots from the next frame on. -/
def flueReads (h t total : Nat) (f : FluFields) (s : State) : State :=
  (List.range f.len.toNat).foldl (fun s u =>
    s.schedule h (8 * (t / 8 + 1 + u) + 4) (.flueOut f.tag.toNat u (f.addr.toNat + 16 * u) total f.f16)) s

theorem exec_fluSend (i : IssueAt) (f : FluFields) (s : State) : exec (.fluSend i f) s = .next (s.issue i (fluLow f) 3 fun t s =>
    if sendBarred s i.h.toNat t f then s.stokerFault i.h.toNat .schedule t 3
    else flueReads i.h.toNat t (leadTotal s i.h.toNat f.tag.toNat) f (s.modHearth i.h.toNat fun x =>
      { x with flueUntil := 8 * (t / 8 + 1 + f.len.toNat), sent := x.sent ++ [f.tag.toNat] })) := rfl

theorem sendBarred_of {s : State} {h t : Nat} {f : FluFields} (bar : t < (s.hearth h).flueUntil ∨ s.tagValid f.tag.toNat = false ∨
    f.tag.toNat ∈ (s.hearth h).sent ∨ 32768 < f.addr.toNat + 16 * f.len.toNat) : sendBarred s h t f = true := by
  obtain busy | invalid | sent | outside := bar
  · simp [sendBarred, busy]
  · simp [sendBarred, invalid]
  · simp [sendBarred, sent]
  · simp [sendBarred, outside]

theorem sendBarred_eq_false {s : State} {h t : Nat} {f : FluFields} (free : (s.hearth h).flueUntil ≤ t) (valid : s.tagValid f.tag.toNat = true)
    (format : s.tagF16 f.tag.toNat = f.f16) (dest : s.tagDest f.tag.toNat = f.dest.toNat) (contributes : bit (s.tagContributors f.tag.toNat) h = true)
    (unsent : f.tag.toNat ∉ (s.hearth h).sent) (inside : f.addr.toNat + 16 * f.len.toNat ≤ 32768)
    (told : leads s h f.tag.toNat = true → leadTotal s h f.tag.toNat ≠ 0 ∧ leadTotal s h f.tag.toNat ≤ leAt (s.flueEntry f.tag.toNat) 4 1) :
    sendBarred s h t f = false := by
  simp only [sendBarred, Bool.or_eq_false_iff, decide_eq_false_iff_not, Bool.not_eq_false', bne_eq_false_iff_eq, Bool.and_eq_false_imp,
    beq_eq_false_iff_ne, List.contains_eq_mem]
  exact ⟨⟨⟨⟨⟨⟨⟨free.not_gt, valid⟩, format⟩, dest⟩, contributes⟩, unsent⟩, inside.not_gt⟩, fun leads => ⟨(told leads).1, (told leads).2.not_gt⟩⟩

/-- Settles O12: the bars of a send are `sendBarred`, and its reads leave the stoker's phase alone. -/
theorem flueSendsAndReceives : Obligations.FlueSendsAndReceives := by
  intro s i f t issued h s' x tag lead total frame
  refine ⟨fun free valid format dest contributes unsent inside told => ?sends, fun bar => ?barred, ?receives⟩
  case sends =>
    have passes : sendBarred s' h t f = false := sendBarred_eq_false free valid format dest contributes unsent inside told
    refine (exec_fluSend ..).trans (congrArg _ (issue_goesOn issued (if_neg (ne_true_of_eq_false passes)) ?_))
    exact (phase_foldl_schedule h (fun u => 8 * (frame + u) + 4) ..).trans (phase_modHearth rfl)
  case barred => exact (exec_fluSend ..).trans (congrArg _ (issue_faults issued (if_pos (sendBarred_of bar))))
  case receives => exact congrArg _ (issue_goesOn issued rfl (phase_modHearth rfl))

end Sys2Proof.Proofs
end

section

/-! ## Signals (O8; 08 R202, R203; 10 R246, R259)

A SIG that issues is kept or leaves; what it does when it leaves is an equation for each kind, and none changes the phase of a stoker. A signal that
arrives is taken from what waits at its hearth before it is judged. -/

namespace Sys2Proof.Proofs

open Sys2Proof.Machine Sys2Proof.Laws

/-! ### What leaves a hearth running -/

/-- A change of any hearth that keeps its phase keeps that of every hearth. -/
theorem phase_modHearth_any {s : State} {g : Nat} {f : Hearth → Hearth} (keeps : ∀ x, (f x).phase = x.phase) (h : Nat) :
    ((s.modHearth g f).hearth h).phase = (s.hearth h).phase := by
  by_cases same : h = g
  · rw [same, hearth_modHearth, keeps]
  · rw [hearth_modHearth_ne same]

theorem phase_foldl {α : Type} {f : State → α → State} {h : Nat} (keeps : ∀ s a, ((f s a).hearth h).phase = (s.hearth h).phase) (l : List α) (s : State) :
    ((l.foldl f s).hearth h).phase = (s.hearth h).phase :=
  List.foldlRecOn l f (motive := fun t => (t.hearth h).phase = (s.hearth h).phase) rfl fun t kept a _ => (keeps t a).trans kept

theorem fetchIn_phase (row cc : Nat) (d : Due) (x : Hearth) : (x.fetchIn row cc d).phase = x.phase :=
  List.foldlRecOn _ _ (motive := fun y : Hearth => y.phase = x.phase) rfl fun _ kept _ _ => kept

theorem phase_signalTo (src event step : Nat) (dests : List Nat) (s : State) (h : Nat) :
    ((s.signalTo src event step dests).hearth h).phase = (s.hearth h).phase :=
  phase_foldl (fun _ _ => phase_modHearth_any (f := fun x => { x with waiting := x.waiting ++ [.signal src event step] }) (fun _ => rfl) h) dests s

theorem phase_sendSignal (h : Nat) (g : Signal) (cc : Nat) (s : State) : ((s.sendSignal h g cc).hearth h).phase = (s.hearth h).phase := by
  unfold State.sendSignal
  dsimp only
  split
  · exact phase_schedule ..
  · split
    · exact phase_signalTo ..
    · split
      · exact phase_signalTo ..
      · split
        · exact phase_modHearth (fetchIn_phase ..)
        · rfl

/-! ### SIG (R203) -/

section Sig

variable {s : State} {i : IssueAt} {f : SigFields} {t : Nat} (issues : s.issuesAt i (sigLow f) 7 t)

/-- The signal of a SIG that issues at a cycle. -/
def signalOf (kind h t : Nat) (f : SigFields) (s : State) : Signal :=
  { kind := kind, event := f.event.toNat, target := f.target.toNat, desc := f.desc.toNat, cc := t, seq := (s.hearth h).seq }

include issues

theorem sig_kept (rel : f.rel = true) (kind : Nat) :
    let s' := s.atIssue i (sigLow f) 7
    s.sig kind i f = (s'.modHearth i.h.toNat fun x => { x with signals := x.signals ++ [signalOf kind i.h.toNat t f s'], seq := x.seq + 1 }).toNext i.h.toNat :=
  issue_goesOn issues (if_pos rel) (phase_modHearth rfl)

theorem sig_leaves (rel : f.rel = false) (kind : Nat) :
    let s' := s.atIssue i (sigLow f) 7
    s.sig kind i f = (s'.sendSignal i.h.toNat (signalOf kind i.h.toNat t f s') t).toNext i.h.toNat :=
  issue_goesOn issues (if_neg (ne_true_of_eq_false rel)) (phase_sendSignal ..)

end Sig

/-! ### SIGNAL_DEPART (R203) -/

section Depart

variable {s : State} {hh : HearthId} {cc : Nat} {g : Signal} (found : (((s.advance hh.toNat cc).hearth hh.toNat).signals.find?
  fun g => ((s.advance hh.toNat cc).hearth hh.toNat).released g && decide (g.cc ≤ cc)) = some g)

/-- A hearth without a signal that it kept. -/
def letGo (h : Nat) (g : Signal) (s : State) : State := s.modHearth h fun x => { x with signals := x.signals.erase g }

include found

theorem signalDepart_sends {parity : Option FlitFault} (sends : parity = none ∨ g.kind ≠ 4) :
    exec (.signalDepart hh ⟨cc, parity⟩) s = .next ((letGo hh.toNat g (s.advance hh.toNat cc)).sendSignal hh.toNat g cc) := by
  refine congrArg Host.Outcome.next ?_
  dsimp only
  rw [found]
  cases parity with
  | none => rfl
  | some e => exact if_neg (sends.resolve_left nofun)

theorem signalDepart_lost (part : g.kind = 4) (e : FlitFault) :
    let u := s.advance hh.toNat cc
    exec (.signalDepart hh ⟨cc, some e⟩) s =
      .next ((letGo hh.toNat g u).meshParity (routeOut hh.toNat edgeN) e (u.hearth hh.toNat).step) := by
  refine congrArg Host.Outcome.next ?_
  dsimp only
  rw [found]
  exact if_pos part

end Depart

/-! ### SIGNAL_ARRIVAL (R202, R246, R259) -/

section Arrival

variable {s : State} {hh : HearthId} {ev : BitVec 6} {cc : Nat} {p : Packet}
  (first : firstSignal ev.toNat [] (s.hearth hh.toNat).waiting = some p)

/-- What stood behind a signal that was taken may be accepted. -/
def goesOn (h cc : Nat) (s : State) : State := s.acceptRows h cc (s.hearth h).waiting.length

/-- A hearth without a packet that waited there. -/
def taken (h : Nat) (p : Packet) (s : State) : State := s.modHearth h fun x => { x with waiting := x.waiting.erase p }

include first

theorem signalArrival_bad (e : FlitFault) : exec (.signalArrival hh ⟨ev, some e⟩ cc) s =
    .next (goesOn hh.toNat cc ((taken hh.toNat p s).meshParity (routeTo (p.src - 1) hh.toNat) e p.step)) := by
  refine congrArg Host.Outcome.next ?_
  dsimp only
  rw [first]
  rfl

theorem signalArrival_other (other : p.step ≠ (s.hearth hh.toNat).step) :
    exec (.signalArrival hh ⟨ev, none⟩ cc) s = .next (goesOn hh.toNat cc (taken hh.toNat p s)) := by
  refine congrArg Host.Outcome.next ?_
  dsimp only
  rw [first]
  dsimp only
  rw [if_neg (by rw [hearth_modHearth]; exact fun own => other own.1)]
  rfl

theorem signalArrival_own (own : p.step = (s.hearth hh.toNat).step) (runs : (s.stepRec p.step).phase = .running) :
    exec (.signalArrival hh ⟨ev, none⟩ cc) s =
      .next (goesOn hh.toNat cc (((taken hh.toNat p s).advance hh.toNat cc).setFlag hh.toNat ev.toNat cc)) := by
  refine congrArg Host.Outcome.next ?_
  dsimp only
  rw [first]
  dsimp only
  rw [if_pos (by rw [hearth_modHearth]; exact ⟨own, runs⟩)]
  rfl

end Arrival

theorem setFlag_clear {s : State} {h e : Nat} (clear : (s.hearth h).flagAt e = none) (cc : Nat) :
    s.setFlag h e cc = s.modHearth h fun x => { x with flags := x.flags.put 0 e (cc + 1) } := by
  rw [State.setFlag, clear]

theorem setFlag_set {s : State} {h e : Nat} (set : (s.hearth h).flagAt e ≠ none) (cc : Nat) : s.setFlag h e cc = s.bump 0x3404 0 5 1 := by
  obtain ⟨c, set⟩ := Option.ne_none_iff_exists'.mp set
  rw [State.setFlag, set]

/-- Settles O8: each kind of signal leaves by `sig_leaves`, and one that arrives is taken, judged and followed by what stood behind it. -/
theorem signalsLeaveAndArrive : Obligations.SignalsLeaveAndArrive := by
  intro s i f t hh ev cc h s' sig step
  refine ⟨fun issued => ⟨fun rel => ?kept, fun rel => ?leaves⟩, fun g seq => ⟨?poisoned, ?requested⟩, ?departs, ?noSignal, ?arrives, fun way e step u => rfl⟩
  case kept =>
    have kept := sig_kept issued rel
    simp only [List.forall_mem_cons]
    exact ⟨congrArg _ (kept 0), congrArg _ (kept 1), congrArg _ (kept 2), congrArg _ (kept 3), congrArg _ (kept 4), fun _ none => nomatch none⟩
  case leaves =>
    have leaves := sig_leaves issued rel
    exact ⟨congrArg _ (leaves 0), congrArg _ (leaves 1), congrArg _ (leaves 2), congrArg _ (leaves 4), congrArg _ (leaves 3)⟩
  case poisoned =>
    intro s1 fetched
    show s.runAttn h cc g = _
    rw [State.runAttn, fetched]
  case requested =>
    intro row s1 fetched
    show s.runAttn h cc g = _
    rw [State.runAttn, fetched]
  case departs =>
    exact fun g found => ⟨signalDepart_sends found (.inl rfl), fun e =>
      ⟨fun other => signalDepart_sends found (.inr other), fun part => signalDepart_lost found part e⟩⟩
  case noSignal =>
    intro none bad
    refine congrArg Host.Outcome.next ?_
    dsimp only
    rw [none]
  case arrives =>
    intro p first u v goesOn
    exact ⟨signalArrival_bad first, fun own runs =>
      ⟨fun clear => (signalArrival_own first own runs).trans (congrArg (Host.Outcome.next ∘ goesOn) (setFlag_clear clear cc)),
        fun set => (signalArrival_own first own runs).trans (congrArg (Host.Outcome.next ∘ goesOn) (setFlag_set set cc))⟩, signalArrival_other first⟩

end Sys2Proof.Proofs
end

section

/-! ## DMA descriptors run (O14; 08 R200; 09 R222, R225, R230 to R234)

A DMA enters the fetch of its descriptor in a stoker slot of a later frame; a fetched descriptor is refused or becomes the transfer's; a descriptor of a
command's kind starts, and its read slots deliver its rows by its kind. -/

namespace Sys2Proof.Proofs

open Sys2Proof.Machine Sys2Proof.Laws

/-! ### The slot of a fetch (R216, R230) -/

theorem mem_insertSlot {n m : Slot} {l : List Slot} : m ∈ insertSlot n l ↔ m = n ∨ m ∈ l :=
  ((insertSlot_perm n l).mem_iff).trans List.mem_cons

theorem mem_calendar_at (cc : Nat) (d : Due) (x : Hearth) : { cc := cc, seq := x.seq, due := d } ∈ (x.at cc d).calendar :=
  mem_insertSlot.mpr (.inl rfl)

theorem mem_calendar_at_of_mem {n : Slot} {x : Hearth} (mem : n ∈ x.calendar) (cc : Nat) (d : Due) : n ∈ (x.at cc d).calendar :=
  mem_insertSlot.mpr (.inr mem)

/-- A stoker slot lies whole frames after the first that would do. -/
theorem stokerSlot_eq (x : Hearth) (stands : Due → Bool) (slot : Nat) : ∃ k, x.stokerSlot stands slot = slot + 8 * k := by
  unfold Hearth.stokerSlot
  dsimp only
  cases found : List.find? _ _ with
  | none => exact ⟨0, rfl⟩
  | some c =>
    obtain ⟨k, -, eq⟩ := List.mem_map.mp (List.mem_of_find?_eq_some found)
    exact ⟨k, eq.symm⟩

/-- The stoker fetches in slot 7 of a frame after the one it is in. -/
theorem fetchIn_slot (row t : Nat) (d : Due) (x : Hearth) : ∃ e ∈ (x.fetchIn row t d).calendar, e.due = d ∧ e.cc % 8 = 7 ∧ t / 8 < e.cc / 8 := by
  obtain ⟨k, slot⟩ := stokerSlot_eq x (fun w => w.fetchBank == some (row % 16)) (8 * (t / 8 + 1) + 7)
  unfold Hearth.fetchIn
  dsimp only
  refine List.foldlRecOn _ _ (motive := fun y : Hearth => ∃ e ∈ y.calendar, e.due = d ∧ e.cc % 8 = 7 ∧ t / 8 < e.cc / 8) ⟨_, mem_calendar_at .., rfl, ?_⟩
    fun y ⟨e, mem, is⟩ _ _ => ⟨e, mem_calendar_at_of_mem mem .., is⟩
  rw [slot]
  dsimp only
  omega

/-! ### Queueing a descriptor (R200) -/

theorem setEngine_phase (eng : Bool) (q : List Transfer) (x : Hearth) : (x.setEngine eng q).phase = x.phase := by
  cases eng <;> rfl

/-- The transfer that a DMA queues. -/
def transferOf (f : DmaFields) (x : Hearth) : Transfer :=
  { row := f.desc.toNat, event := f.event.toNat, seq := x.seq, desc := none, running := false, pos := 0, data := [], parity := [], ran := [],
    moved := false, wrote := 0, tids := [] }

/-- A DMA queues its transfer last. -/
def queuedIn (h : Nat) (f : DmaFields) (s : State) : State :=
  let x := s.hearth h
  s.setHearth h { x.setEngine f.eng (x.engine f.eng ++ [transferOf f x]) with seq := x.seq + 1 }

theorem queuedIn_phase (h : Nat) (f : DmaFields) (s : State) : ((queuedIn h f s).hearth h).phase = (s.hearth h).phase := by
  rw [queuedIn, hearth_setHearth]
  exact setEngine_phase ..

theorem exec_dma (i : IssueAt) (f : DmaFields) (s : State) : exec (.dma i f) s = .next (s.issue i (dmaLow f) 5 fun t s =>
    if 16 ≤ ((s.hearth i.h.toNat).engine f.eng).length then s.stokerFault i.h.toNat .schedule t 5
    else (queuedIn i.h.toNat f s).modHearth i.h.toNat (Hearth.fetchIn f.desc.toNat t (.fetch f.desc.toNat (s.hearth i.h.toNat).seq))) := rfl

/-! ### Fetching a descriptor (R222, R231, R234) -/

section Fetch

variable {s u : State} {h cc row n : Nat} {eng : Bool} {t : Transfer} (queued : (s.hearth h).transfer n = some (eng, t))

include queued

theorem runFetch_poisoned (fetched : s.fetchRow h row cc = (none, u)) : s.runFetch h cc row n = u.failFetch h row 5 := by
  rw [State.runFetch, queued]
  dsimp only
  rw [fetched]

theorem runFetch_fetched {b : List Byte} (fetched : s.fetchRow h row cc = (some b, u)) : s.runFetch h cc row n =
    if u.badDescriptor (descriptorOf b) then u.refuseDma h cc eng t else u.modTransfer h n fun t => { t with desc := some (descriptorOf b) } := by
  rw [State.runFetch, queued]
  dsimp only
  rw [fetched]

end Fetch

/-! ### Starting a descriptor (R230, R365) -/

section Start

variable {s : State} {h kind : Nat} {eng : Bool} {t : Transfer} {rest : List Transfer} {d : Descriptor} {flits : List (Nat × FlitFault)}
  (front : ((s.reachFetch h eng).hearth h).engine eng = t :: rest) (fetched : t.desc = some d)

include front fetched

theorem startDma_otherKind (other : d.kind ≠ kind) : s.startDma kind h eng flits = s.reachFetch h eng := by
  unfold State.startDma
  dsimp only
  rw [front]
  dsimp only
  rw [fetched]
  exact if_pos (by simp [other])

section Own

variable (own : d.kind = kind) (rests : t.running = false) (unmoved : t.moved = false)
  (chained : t.ran.all ((s.reachFetch h eng).descDone h t) = true)

include own rests unmoved chained

theorem startDma_ownKind :
    let u := s.reachFetch h eng
    let now := (u.hearth h).now
    s.startDma kind h eng flits = if kind = 3 then (u.readStackRows h t d).dmaMoved h now eng t.seq d
      else if kind = 5 ∧ u.retentionRoom (u.roomTaken + u.copySize h d) = false then u.bump 0x4107 0 6 1
      else (u.modTransfer h t.seq fun t => { t with running := true, parity := flits }).wakeDma h now := by
  unfold State.startDma
  dsimp only
  rw [front]
  dsimp only
  rw [fetched]
  exact if_neg (by simp [own, rests, unmoved, chained])

/-- A descriptor whose rows the engine reads runs from now on. -/
theorem startDma_runs (fromBuffer : kind ≠ 3)
    (room : kind = 5 → (s.reachFetch h eng).retentionRoom ((s.reachFetch h eng).roomTaken + (s.reachFetch h eng).copySize h d) = true) :
    let u := s.reachFetch h eng
    s.startDma kind h eng flits = (u.modTransfer h t.seq fun t => { t with running := true, parity := flits }).wakeDma h (u.hearth h).now :=
  (startDma_ownKind front fetched own rests unmoved chained).trans
    ((if_neg fromBuffer).trans (if_neg fun ⟨five, full⟩ => Bool.noConfusion ((room five).symm.trans full)))

end Own

end Start

/-! ### Rows read for a descriptor (R225, R230 to R233, R241) -/

/-- The first row that a FABRIC transfer must not send: with a poisoned word or a block of scale 0xFF (R225). -/
def unsendable (d : Descriptor) (rows : List (List VCell)) : Option (List VCell × Nat) :=
  if d.kind = 5 then rows.zipIdx.find? fun r => r.1.any fun c => c.poison || c.bad else none

/-- A flit of the rows read meets a parity error on its way to the edge. -/
def flitHit (t : Transfer) (d : Descriptor) (n : Nat) : Bool := d.kind == 5 && (List.range n).any fun i => t.parity.any fun e => e.1 == (t.pos + i) / 2

theorem unsendable_eq_none {d : Descriptor} {rows : List (List VCell)}
    (clean : d.kind = 5 → ∀ row ∈ rows, ∀ c ∈ row, c.poison = false ∧ c.bad = false) : unsendable d rows = none := by
  unfold unsendable
  split
  next fabric =>
    refine List.find?_eq_none.mpr fun r mem => ?_
    simp only [List.any_eq_true, Bool.or_eq_true, not_exists, not_and, not_or, Bool.not_eq_true]
    exact clean fabric r.1 (List.fst_mem_of_mem_zipIdx mem)
  next => rfl

theorem unsendable_first {d : Descriptor} {row : List VCell} (fabric : d.kind = 5) (rest : List (List VCell))
    (bad : ∃ c ∈ row, c.poison = true ∨ c.bad = true) : unsendable d (row :: rest) = some (row, 0) := by
  unfold unsendable
  rw [if_pos fabric, List.zipIdx_cons, List.find?_cons_of_pos]
  simpa using bad

theorem flitHit_iff {t : Transfer} {d : Descriptor} {n : Nat} :
    flitHit t d n = true ↔ d.kind = 5 ∧ ∃ i < n, ∃ e ∈ t.parity, e.1 = (t.pos + i) / 2 := by
  simp [flitHit]

section Chunk

variable {s u : State} {h cc : Nat} {eng : Bool} {t : Transfer} {d : Descriptor} {rows : List (List VCell)}
  (read : s.rowsRead (if d.kind = 5 then .sending else .engine) h cc (d.src + t.pos) (min 16 (d.rows - t.pos)) = (rows, u))

include read

theorem dmaChunk_unsendable {r : List VCell × Nat} (bad : unsendable d rows = some r) : s.dmaChunk h cc eng t d =
    (u.stokerRaise h (if r.1.any (·.poison) then .buffer else .format) (pathUnit 0 h 4 (flagNat eng)) (d.src + t.pos + r.2) 5).failStep
      (u.hearth h).step := by
  unfold State.dmaChunk
  unfold unsendable at bad
  dsimp only
  rw [read]
  dsimp only
  rw [bad]

variable (clean : unsendable d rows = none)

include clean

theorem dmaChunk_hit (hit : flitHit t d (min 16 (d.rows - t.pos)) = true) : s.dmaChunk h cc eng t d =
    (rows.zipIdx.foldl (fun s r => (s.edgeRow h (if d.target < 4 then edgeN else edgeS) t (t.pos + r.2) r.1).2) u).failStep (u.hearth h).step := by
  unfold State.dmaChunk
  unfold unsendable at clean
  dsimp only
  rw [read]
  dsimp only
  rw [clean]
  exact if_pos hit

theorem dmaChunk_delivers (whole : flitHit t d (min 16 (d.rows - t.pos)) = false) :
    let n := min 16 (d.rows - t.pos)
    let v := (u.dmaDeliver h cc t d rows).modTransfer h t.seq fun t => { t with pos := t.pos + n }
    s.dmaChunk h cc eng t d = if d.rows ≤ t.pos + n then (v.dmaLeave h t.seq d).dmaMoved h cc eng t.seq d else v := by
  unfold State.dmaChunk
  unfold unsendable at clean
  dsimp only
  rw [read]
  dsimp only
  rw [clean]
  exact if_neg (ne_true_of_eq_false whole)

end Chunk

/-- The rows of a HEARTH descriptor go to its one destination. -/
theorem dmaDeliver_hearth {d : Descriptor} (one : d.kind = 1) (h cc : Nat) (t : Transfer) (rows : List (List VCell)) (u : State) :
    u.dmaDeliver h cc t d rows = u.sendRows d.target cc (meshRows h t.seq (u.hearth h).step d t.pos rows) := by
  simp [State.dmaDeliver, State.dmaDests, one]

/-- Settles O14: a fetch, a start and a read slot are each one equation for each of their outcomes. -/
theorem dmaDescriptorsRun : Obligations.DmaDescriptorsRun := by
  intro s
  refine ⟨fun i f t issued => ⟨fun room => ⟨?queues, ?slot⟩, fun full => ?full⟩, fun h cc row n seq eng t u queued => ⟨?poisoned, fun b fetched => ⟨?taken, ?refused⟩⟩,
    ?starts, ?chunk⟩
  case queues =>
    exact (exec_dma ..).trans (congrArg _ (issue_goesOn issued (if_neg room.not_ge) ((phase_modHearth (fetchIn_phase ..)).trans (queuedIn_phase ..))))
  case slot =>
    rw [hearth_modHearth]
    exact fetchIn_slot ..
  case full => exact (exec_dma ..).trans <| congrArg _ (issue_faults issued (if_pos full))
  case poisoned => exact runFetch_poisoned queued
  case taken => exact fun good => (runFetch_fetched queued fetched).trans (if_neg (ne_true_of_eq_false good))
  case refused => exact fun bad => (runFetch_fetched queued fetched).trans (if_pos bad)
  case starts =>
    intro hh eng write t rest d h u now flits starts same front fetched rests unmoved chained
    subst same
    have runs {kind : Nat} (parity : List (Nat × FlitFault)) (own : d.kind = kind) (fromBuffer : kind ≠ 3)
        (room : kind = 5 → u.retentionRoom (u.roomTaken + u.copySize h d) = true) : s.startDma kind h write.eng parity = starts parity :=
      startDma_runs front fetched own rests unmoved chained fromBuffer room
    have idle {kind : Nat} (parity : List (Nat × FlitFault)) : d.kind ≠ kind → s.startDma kind h write.eng parity = u := startDma_otherKind front fetched
    refine ⟨fun own => ?copy, fun own => ?hearth, fun own => ?set, fun own => ?stackRd, fun own => ?stackWr, fun own => ⟨fun room => ?fabric, fun full => ?full⟩, ?others⟩
    case copy => exact congrArg _ (runs [] own (by decide) nofun)
    case hearth => exact congrArg _ (runs [] own (by decide) nofun)
    case set => exact congrArg _ (runs [] own (by decide) nofun)
    case stackRd => exact congrArg _ ((startDma_ownKind front fetched own rests unmoved chained).trans (if_pos rfl))
    case stackWr => exact congrArg _ (runs flits own (by decide) nofun)
    case fabric => exact congrArg _ (runs flits own (by decide) fun _ => room)
    case full => exact congrArg _ ((startDma_ownKind front fetched own rests unmoved chained).trans ((if_neg (by decide)).trans (if_pos ⟨rfl, full⟩)))
    case others =>
      simp only [List.forall_mem_cons]
      exact ⟨fun other => congrArg _ (idle [] other), fun other => congrArg _ (idle [] other), fun other => congrArg _ (idle [] other),
        fun other => congrArg _ (idle [] other), fun other => congrArg _ (idle flits other), fun other => congrArg _ (idle flits other), fun _ none => nomatch none⟩
  case chunk =>
    intro h cc eng t d rows u n read clean hit
    refine ⟨fun sends => ?delivers, fun fabric ok struck => ?struck, fun one => dmaDeliver_hearth one .., fun row rest fabric eq poisoned => ?poisoned,
      fun row rest fabric eq unpoisoned marked => ?marked⟩
    case delivers =>
      exact dmaChunk_delivers read (unsendable_eq_none fun fabric => (sends fabric).1)
        (Bool.eq_false_iff.mpr fun hit => (sends (flitHit_iff.mp hit).1).2 (flitHit_iff.mp hit).2)
    case struck => exact dmaChunk_hit read (unsendable_eq_none fun _ => ok) (flitHit_iff.mpr ⟨fabric, struck⟩)
    case poisoned =>
      subst eq
      obtain ⟨c, mem, bad⟩ := poisoned
      refine (dmaChunk_unsendable read (unsendable_first fabric rest ⟨c, mem, .inl bad⟩)).trans ?_
      rw [if_pos (List.any_eq_true.mpr ⟨c, mem, bad⟩), Nat.add_zero]
    case marked =>
      subst eq
      obtain ⟨c, mem, bad⟩ := marked
      refine (dmaChunk_unsendable read (unsendable_first fabric rest ⟨c, mem, .inr bad⟩)).trans ?_
      rw [if_neg (by simpa using unpoisoned), Nat.add_zero]

end Sys2Proof.Proofs
end

section

/-! ## Programs and tables apply (O34; 06 R146; 08 R188, R189, R524; 15 R360 to R364)

An unloaded program stays unloaded because the upkeep of the stage that follows writes only objects of its own, `Upkeeps`. A step that commits stays
committed because what settles after it sends, lowers ports that nothing is started on, and sets the role; none of it changes the steps. -/

namespace Sys2Proof.Proofs

open Sys2Proof.Machine Sys2Proof.Laws

/-! ### The objects that the upkeep of the stage writes (06 R134 to R146; 11 R264) -/

/-- Range counters, pair, layer slots, stage generation, the twin's, tiers, stacks and drafts, and what a transfer counts in. -/
def isUpkept (x : Nat) : Bool := isSent x || [0x3120, 0x4102, 0x5002, 0x5003, 0x5007, 0x5407, 0x5408, 0x5C22].contains x

/-- `t` has every object of `s` but those. -/
structure Upkeeps (s t : State) : Prop where
  od : ∀ x y f, x < 65536 → y < 256 → f < 64 → isUpkept x = false → t.od x y f = s.od x y f
  blob : ∀ x y, x < 65536 → y < 256 → x ≠ 0x6001 → x ≠ 0x6002 → t.blob x y = s.blob x y

theorem upkeeps_of_dict {s t : State} (dict : t.dict = s.dict) (blobs : t.blobs = s.blobs) : Upkeeps s t where
  od x y f _ _ _ _ := odAt_congr dict 0 x y f
  blob x y _ _ _ _ := congrArg (·.get [] (odKey 0 x y 0)) blobs

theorem Upkeeps.refl (s : State) : Upkeeps s s := upkeeps_of_dict rfl rfl

/-- An operation after what was kept before it. -/
theorem Upkeeps.after {s t u : State} (k : Upkeeps t u) (h : Upkeeps s t) : Upkeeps s u where
  od x y f hx hy hf other := (k.od x y f hx hy hf other).trans (h.od x y f hx hy hf other)
  blob x y hx hy h1 h2 := (k.blob x y hx hy h1 h2).trans (h.blob x y hx hy h1 h2)

/-- A change beside the objects and the blobs, after what was kept before it. -/
theorem Upkeeps.stores {s t u : State} (h : Upkeeps s t) (dict : u.dict = t.dict) (blobs : u.blobs = t.blobs) : Upkeeps s u :=
  (upkeeps_of_dict dict blobs).after h

theorem upkeeps_of_sends {s t : State} (sent : SendsOnly s t) : Upkeeps s t where
  od x y f hx hy hf other := sent.od 0 x y f hx hy hf (Bool.or_eq_false_iff.mp other).1
  blob := sent.blob 0

theorem upkeeps_raise (r : Raise) (s : State) : Upkeeps s (s.raise r) := upkeeps_of_sends (sendsOnly_of_quiet (quiet_raise r s))

theorem upkeeps_setOd {x y f : Nat} (own : isUpkept x = true) (hx : x < 65536) (hy : y < 256) (hf : f < 64) (v : Nat) (s : State) :
    Upkeeps s (s.setOd x y f v) where
  od x' y' f' hx' hy' hf' other := by
    refine od_setOd_ne s v (odKey_ne hf' hf hy' hy hx' hx ?_)
    rintro ⟨_, rfl, _⟩
    exact Bool.noConfusion (own.symm.trans other)
  blob _ _ _ _ _ _ := rfl

theorem upkeeps_ite (c : Prop) [Decidable c] {s t u : State} (ht : Upkeeps s t) (hu : Upkeeps s u) : Upkeeps s (if c then t else u) := by
  split <;> assumption

theorem upkeeps_foldl {α : Type} {f : State → α → State} (l : List α) (keeps : ∀ s, ∀ a ∈ l, Upkeeps s (f s a)) (s : State) :
    Upkeeps s (l.foldl f s) :=
  List.foldlRecOn l f (motive := Upkeeps s) (.refl s) fun t kept a mem => (keeps t a mem).after kept

/-! ### Contexts, frames and lines -/

theorem upkeeps_notice (type arg ctx step : Nat) (data : List Byte) (dests : List Nat) (s : State) :
    Upkeeps s (s.notice type arg ctx step data dests) := upkeeps_of_sends (sendsOnly_sendEach ..)

/-- The counters of the tiers, the stacks and the drafts. -/
theorem upkeeps_bump {x f : Nat} (own : x = 0x5407 ∨ x = 0x5408 ∨ x = 0x5C22) (hf : f < 64) (s : State) : Upkeeps s (s.bump x 0 f 1) :=
  upkeeps_setOd (by obtain rfl | rfl | rfl := own <;> rfl) (by omega) (by decide) hf _ s

theorem upkeeps_discardCtx (c : Nat) (s : State) : Upkeeps s (s.discardCtx c) := by
  unfold State.discardCtx
  split
  · exact .refl s
  · exact (upkeeps_bump (.inl rfl) (by decide) _).after (upkeeps_of_dict rfl rfl)

theorem upkeeps_rebuild (c : Nat) (s : State) : Upkeeps s (s.rebuild c) := by
  unfold State.rebuild
  split
  · refine upkeeps_ite _ (.refl s) ((upkeeps_notice ..).after ?_)
    exact (upkeeps_bump (.inr (.inr rfl)) (by decide) _).after (upkeeps_of_dict rfl rfl)
  · exact .refl s

theorem upkeeps_rebuildAll (s : State) : Upkeeps s s.rebuildAll :=
  upkeeps_ite _ (.refl s) (upkeeps_foldl _ (fun t e _ => upkeeps_ite _ ((upkeeps_discardCtx ..).after (upkeeps_rebuild e.1 t)) (.refl t)) s)

theorem upkeeps_loseCtx (c : Nat) (s : State) : Upkeeps s (s.loseCtx c) := by
  unfold State.loseCtx
  split
  · exact .refl s
  · refine upkeeps_ite _ (.refl s) ((upkeeps_rebuild ..).after ?_)
    exact (upkeeps_bump (.inl rfl) (by decide) _).after (upkeeps_of_dict rfl rfl)

theorem upkeeps_dropPages (l : List (Nat × Nat)) (s : State) : Upkeeps s (s.dropPages l) :=
  (upkeeps_foldl l (fun t e _ => upkeeps_loseCtx e.2 t) _).after (upkeeps_of_dict rfl rfl)

theorem upkeeps_journaled (k n : Nat) (s : State) : Upkeeps s (s.journaled k n) :=
  upkeeps_ite _ (.refl s) (upkeeps_ite _ (upkeeps_of_dict rfl rfl) ((upkeeps_raise ..).after (upkeeps_of_dict rfl rfl)))

theorem upkeeps_retireFrame (p : Nat) (s : State) : Upkeeps s (s.retireFrame p) := by
  have counted : Upkeeps s (s.bump 0x5408 0 8 1) := upkeeps_bump (.inr (.inl rfl)) (by decide) s
  unfold State.retireFrame
  dsimp only
  refine upkeeps_ite _ (.refl s) (upkeeps_ite _ ?_ (upkeeps_ite _ ?_ ?_)) <;> refine (upkeeps_dropPages ..).after ?_
  · exact (upkeeps_journaled ..).after (counted.stores rfl rfl)
  · exact (upkeeps_journaled ..).after (counted.stores rfl rfl)
  · exact (upkeeps_raise ..).after (counted.stores rfl rfl)

theorem upkeeps_stackError (line step : Nat) (s : State) : Upkeeps s (s.stackError line step) := by
  have noted (r : Raise) : Upkeeps s ((s.bump 0x5408 0 7 1).raise r) := (upkeeps_raise ..).after (upkeeps_bump (.inr (.inl rfl)) (by decide) s)
  unfold State.stackError State.retireAt
  split
  · exact (upkeeps_retireFrame ..).after (noted _)
  · exact noted _

theorem upkeeps_readLine (line step : Nat) (s : State) : Upkeeps s (s.readLine line step).2 := by
  unfold State.readLine
  dsimp only
  split
  · exact upkeeps_stackError ..
  · split
    · exact (upkeeps_raise ..).after (upkeeps_bump (.inr (.inl rfl)) (by decide) s)
    · exact .refl s

theorem upkeeps_readFrame (f step : Nat) (s : State) : Upkeeps s (s.readFrame f step).2 :=
  List.foldlRecOn _ _ (motive := fun (acc : Bool × State) => Upkeeps s acc.2) (.refl s) fun acc kept l _ => (upkeeps_readLine l step acc.2).after kept

theorem upkeeps_readCtx (x : Ctx) (s : State) : Upkeeps s (s.readCtx x) :=
  upkeeps_foldl _ (fun t f _ => upkeeps_readFrame f 0 t) s

/-! ### The pair and the stage -/

theorem upkeeps_mirrorTo (type : Nat) (body : List Byte) (dest : Nat) (s : State) : Upkeeps s (s.mirrorTo type body dest) :=
  List.foldlRecOn _ _ (motive := fun (acc : List Nat × State) => Upkeeps s acc.2) (.refl s) fun _ kept _ _ => (upkeeps_of_sends (sendsOnly_send ..)).after kept

theorem upkeeps_sendCopies (dest : Nat) (l : List (List Byte)) (s : State) : Upkeeps s (s.sendCopies dest l) :=
  upkeeps_foldl _ (fun t b _ => upkeeps_mirrorTo 6 b dest t) s

theorem upkeeps_setPair (v : Nat) (s : State) : Upkeeps s (s.setPair v) := upkeeps_setOd rfl (by decide) (by decide) (by decide) v s

theorem upkeeps_startSync (s : State) : Upkeeps s s.startSync := by
  have synced (ep : Nat) : Upkeeps s ((s.setPair 2).noteSyncing ep) :=
    upkeeps_ite _ (upkeeps_setPair 2 s) ((upkeeps_setPair 2 s).stores rfl rfl)
  unfold State.startSync
  dsimp only
  split
  · refine (upkeeps_sendCopies ..).after ((upkeeps_setOd rfl (by decide) (by decide) (by decide) _ _).after ?_)
    refine (upkeeps_foldl _ (fun t e _ => ?_) _).after (synced _)
    cases e.2 with
    | none => exact .refl t
    | some x => exact upkeeps_readCtx x t
  · exact synced _

theorem upkeeps_settlePair (s : State) : Upkeeps s s.settlePair := by
  have noted (v : Nat) : Upkeeps s (s.setOd 0x5007 0 0 v) := upkeeps_setOd rfl (by decide) (by decide) (by decide) v s
  unfold State.settlePair
  split
  · exact .refl s
  · refine upkeeps_ite _ (.refl s) (upkeeps_ite _ (upkeeps_ite _ ?_ (noted _)) (upkeeps_ite _ ?_ (noted _)))
    · exact (upkeeps_setPair ..).after (noted _)
    · exact (upkeeps_startSync _).after (noted _)

theorem upkeeps_setLayerSlot {n : Nat} (hn : n < 64) (layer : Nat) (v : Nat × Nat × Nat) (s : State) : Upkeeps s (s.setLayerSlot n layer v) := by
  have slot {x f : Nat} (own : x = 0x5002 ∨ x = 0x3120) (hf : f < 64) (v : Nat) (t : State) : Upkeeps t (t.setOd x (n + 1) f v) :=
    upkeeps_setOd (by obtain rfl | rfl := own <;> rfl) (by omega) (by omega) hf v t
  have cleared : Upkeeps s (s.clearRange n layer) :=
    upkeeps_ite _ (.refl s) (upkeeps_foldl _ (fun t f mem => slot (.inr rfl) (Nat.lt_trans (List.mem_range.mp mem) (by decide)) 0 t) s)
  have set {f : Nat} (hf : f < 64) (v : Nat) (t : State) : Upkeeps t (t.setOd 0x5002 (n + 1) f v) := slot (.inl rfl) hf v t
  exact (set (by decide) _ _).after ((set (by decide) _ _).after ((set (by decide) _ _).after ((set (by decide) _ _).after cleared)))

theorem upkeeps_refreshStage (s : State) : Upkeeps s s.refreshStage := by
  unfold State.refreshStage
  extract_lets old slots g p t
  have slotted : Upkeeps s slots :=
    upkeeps_ite _ (upkeeps_foldl _ (fun t n mem => upkeeps_setLayerSlot (List.mem_range.mp mem) _ _ t) s) (.refl s)
  have stage {f : Nat} (hf : f < 64) (v : Nat) (u : State) : Upkeeps u (u.setOd 0x5003 0 f v) := upkeeps_setOd rfl (by decide) (by decide) hf v u
  have staged : Upkeeps s t := (stage (by decide) _ _).after ((stage (by decide) _ _).after slotted)
  have reported : Upkeeps s t.reportGeneration := (upkeeps_notice ..).after staged
  exact upkeeps_ite _ staged ((upkeeps_settlePair _).after (upkeeps_ite _ ((upkeeps_rebuildAll _).after reported) reported))

/-! ### What settles when a step has committed (06 R150, R151; 14 R347; 15 R377) -/

theorem steps_of_sends {s t : State} (sent : SendsOnly s t) : t.steps = s.steps := congrArg HearthPart.steps (sent.parts.2 .hearth rfl)

theorem steps_settleDrain (s : State) : s.settleDrain.steps = s.steps := by
  have here : SetsBarrier (s.od 0x5005 0 0) s s := ⟨sameStages_of_sends (.refl s), rfl, rfl⟩
  unfold State.settleDrain
  obtain ⟨_, _, held⟩ | ⟨_, stays⟩ := settleBarrier_cases s
  · rw [held]
    exact (sets_settleRetire (sets_setBarrier 2 s)).stages.steps
  · rw [stays]
    exact (sets_settleRetire here).stages.steps

theorem hearthPart_putFields (i x y n : Nat) (l : List Nat) (s : State) : (s.putFields i x y n l).toHearthPart = s.toHearthPart := by
  induction l generalizing n s with
  | nil => rfl
  | cons v l ih => exact ih (n + 1) _

theorem steps_clearLink (p v : Nat) (s : State) : (s.clearLink p v).steps = s.steps :=
  congrArg HearthPart.steps ((hearthPart_putFields ..).trans (hearthPart_putFields ..))

theorem steps_moveAnswer (f : LinkFrame) (s : State) : (s.moveAnswer f).steps = s.steps := by
  unfold State.moveAnswer
  split
  · rfl
  next chosen => exact steps_of_sends (sendsOnly_queueFrames (choosePort_lt chosen) ..)

/-- A port that nothing is started on moves no transfer to another port. -/
theorem steps_lowerPort {p : Nat} {s : State} (idle : s.portBusy p = false) (v : Nat) : (s.lowerPort p v).steps = s.steps := by
  have none : (s.sending.filter fun o => o.port == p && ((s.port p).retry ++ (s.port p).queue).any fun f =>
      !f.isAnswer && f.hdr.tid == o.hdr.tid) = [] := by
    refine List.filter_eq_nil_iff.mpr fun o mem => ?_
    simp [List.any_eq_false.mp idle o mem]
  unfold State.lowerPort
  dsimp only
  rw [none]
  exact List.foldlRecOn _ _ (motive := fun u => u.steps = s.steps) (steps_clearLink p v s) fun u kept f _ => (steps_moveAnswer f u).trans kept

theorem steps_settlePorts (s : State) : s.settlePorts.steps = s.steps := by
  unfold State.settlePorts
  refine List.foldlRecOn _ _ (motive := fun (u : State) => u.steps = s.steps) rfl fun u kept p _ => ?_
  split
  next lowers =>
    simp only [Bool.and_eq_true, Bool.not_eq_true'] at lowers
    obtain ⟨_, idle⟩ := lowers
    exact (steps_lowerPort (s := (u.setOd (0x4000 + p) 1 41 0).setOd (0x4000 + p) 1 42 1) idle 0).trans kept
  · exact kept

theorem steps_settleRole (s : State) : s.settleRole.steps = s.steps := by
  unfold State.settleRole
  split
  · rfl
  · split
    · rfl
    · split <;> rfl

theorem stepRec_of_steps {s t : State} (same : t.steps = s.steps) (id : Nat) : t.stepRec id = s.stepRec id :=
  congrArg (fun steps => (steps.get none id).getD StepRec.fresh) same

theorem stepRec_modStep_same (id : Nat) (f : StepRec → StepRec) (s : State) : (s.modStep id f).stepRec id = f (s.stepRec id) := by
  unfold State.modStep State.setStep
  exact congrArg (Option.getD · StepRec.fresh) (get_put_same none (some (f (s.stepRec id))) id s.steps)

/-- A committed step has released its inputs, configurations and remaps, and waits for no acknowledgement. -/
def committed (r : StepRec) : StepRec := { r with phase := .committed, inputs := [], cfg := [], remaps := [], tids := [] }

theorem exec_stepCommit (step : BitVec 64) (s : State) : exec (.stepCommit step) s =
    .next (if (s.stepRec step.toNat).phase ≠ .halted || !s.stepAcked step.toNat then s
    else ((s.notice 0x0A 0 0 step.toNat (leBytes 1 ((s.ownEntry.map (·.stage)).getD 0)) (s.stepRec step.toNat).sources).modStep step.toNat
      committed).settleDrain.settlePorts.settleRole) := rfl

theorem stepCommit_commits {step : BitVec 64} {s : State} (halted : (s.stepRec step.toNat).phase = .halted) (acked : s.stepAcked step.toNat = true) :
    Completes (.stepCommit step) s fun t => t.pending = s.pending ∧ t.stepRec step.toNat = committed (s.stepRec step.toNat) := by
  have runs := exec_stepCommit step s
  rw [if_neg (by simp [halted, acked])] at runs
  refine ⟨_, runs, pending_of_exec runs, ?_⟩
  rw [stepRec_of_steps ((steps_settleRole _).trans ((steps_settlePorts _).trans (steps_settleDrain _))), stepRec_modStep_same]
  exact congrArg committed (stepRec_of_steps (steps_of_sends (sendsOnly_sendEach ..)) _)

/-! ### Programs and tables -/

theorem exec_programImageWrite (rq : Requester) (img : List Byte) (s : State) : exec (.programImageWrite rq img) s =
    .next (s.access rq .write 0x3401 0 img (State.applyProgram img)) := rfl

theorem applyProgram_barred (img : List Byte) {s : State} (barred : s.imageState = false) :
    s.applyProgram img = (codeState, s.showLoad 1 0xFF 0xFFFFFFFF) := if_pos (by rw [barred]; rfl)

theorem applyProgram_loads {img : List Byte} {s : State} (may : s.imageState = true) (good : judgeProgram img (s.od 0x2102 1 0) = none) :
    s.applyProgram img = (0, s.loadProgram img) := by
  simp only [State.applyProgram, may, good, Bool.not_true, Bool.false_eq_true, if_false]

theorem applyProgram_fails {img : List Byte} {s : State} {f : LoadFail} (may : s.imageState = true)
    (bad : judgeProgram img (s.od 0x2102 1 0) = some f) : s.applyProgram img = (codeFormat, s.showLoad f.result f.hearth f.word) := by
  simp only [State.applyProgram, may, bad, Bool.not_true, Bool.false_eq_true, if_false]

/-- The program is no longer loaded: state, id and variants of OD 0x3402 are 0, and the image is empty. -/
def noProgram (s : State) : State := (((s.setBlob 0x3401 0 []).setOd 0x3402 0 0 0).setOd 0x3402 0 4 0).setOd 0x3402 0 5 0

/-- No layer slot is used. -/
def noSlots (s : State) : State := { s with usedSlots := [] }

theorem od_noSlots (x y f : Nat) (s : State) : (noSlots s).od x y f = s.od x y f := odAt_congr (t := noSlots s) (s := s) rfl 0 x y f

/-- The part without a program, before the upkeep of its stage; the spread limit is 10 again. -/
def unprogrammed (s : State) : State := (noSlots (noProgram s)).setOd 0x2103 0 0 10

theorem exec_programUnload (rq : Requester) (s : State) : exec (.programUnload rq) s = .next (s.access rq .command 0x3400 0 [1] State.applyUnload) := rfl

theorem applyUnload_barred {s : State} (barred : s.imageState = false) : s.applyUnload = (codeState, s) := if_pos (by rw [barred]; rfl)

theorem applyUnload_unloads {s : State} (may : s.imageState = true) : s.applyUnload = (0, (unprogrammed s).refreshStage) :=
  if_neg (by rw [may]; decide)

theorem od_noProgram_loaded (s : State) : (noProgram s).od 0x3402 0 0 = 0 := by
  have field {f : Nat} (hf : f < 64) (other : f ≠ 0) (v : Nat) (t : State) : (t.setOd 0x3402 0 f v).od 0x3402 0 0 = t.od 0x3402 0 0 :=
    od_setOd_ne t v (odKey_ne (by decide) hf (by decide) (by decide) (by decide) (by decide) (by omega))
  exact (field (by decide) (by decide) _ _).trans ((field (by decide) (by decide) _ _).trans (od_setOd_same ..))

theorem od_unprogrammed_loaded (s : State) : (unprogrammed s).od 0x3402 0 0 = 0 := by
  have other : odKey 0 0x3402 0 0 ≠ odKey 0 0x2103 0 0 :=
    odKey_ne (by decide) (by decide) (by decide) (by decide) (by decide) (by decide) (by decide)
  unfold unprogrammed
  rw [od_setOd_ne _ _ other, od_noSlots, od_noProgram_loaded]

theorem blob_commanded (rq : Requester) (x y : Nat) (d : List Byte) (s : State) (x' y' : Nat) : (s.commanded rq x y d).blob x' y' = s.blob x' y' := by
  show (s.noteCommand x y d).blob x' y' = _
  unfold State.noteCommand
  dsimp only
  split <;> rfl

theorem usedSlots_commanded (rq : Requester) (x y : Nat) (d : List Byte) (s : State) : (s.commanded rq x y d).usedSlots = s.usedSlots := by
  show (s.noteCommand x y d).usedSlots = _
  unfold State.noteCommand
  dsimp only
  split <;> rfl

/-- PROGRAM_UNLOAD where an image may be written: the program and all that was of it is gone. -/
theorem programUnload_unloads {rq : Requester} {s : State} (ok : Accepted s rq .command 0x3400 0 [1]) (may : s.imageState = true) :
    Completes (.programUnload rq) s fun t => t.pending = s.pending ∧ t.programLoaded = false ∧ t.usedSlots = [] ∧
      t.blob 0x3401 0 = [] ∧ t.od 0x2103 0 0 = 10 ∧ t.results.get 0 (rqNo rq) = 0 := by
  have runs := exec_commands (exec_programUnload rq s) ok (applyUnload_unloads may)
  have kept := upkeeps_refreshStage (unprogrammed s)
  have loaded : ((unprogrammed s).refreshStage.commanded rq 0x3400 0 [1]).od 0x3402 0 0 = 0 := by
    rw [od_commanded_ne (by decide) (by decide) (by decide) (by decide), kept.od _ _ _ (by decide) (by decide) (by decide) rfl, od_unprogrammed_loaded]
  refine ⟨_, runs, pending_of_exec runs, beq_eq_false_iff_ne.mpr (by rw [loaded]; decide), ?_, ?_, ?_, answer_results ..⟩
  · rw [usedSlots_commanded]
    exact congrArg HearthPart.usedSlots (hearth_of_view (arrayView_refreshStage (unprogrammed s)))
  · rw [blob_commanded, kept.blob _ _ (by decide) (by decide) (by decide) (by decide)]
    exact blobAt_setBlobAt_same s 0 0x3401 0 []
  · rw [od_commanded_ne (by decide) (by decide) (by decide) (by decide), kept.od _ _ _ (by decide) (by decide) (by decide) rfl]
    exact od_setOd_same ..

theorem exec_stageTableWrite (rq : Requester) (img : List Byte) (s : State) : exec (.stageTableWrite rq img) s =
    .next (s.access rq .write 0x4110 0 img (State.applyTableWrite img)) := rfl

theorem applyTableWrite_fails {img : List Byte} {s : State} {i : Nat} (bad : tableFail img (s.od 0x4111 0 0) = some i) :
    s.applyTableWrite img = (codeFormat, s.showTable 1 i) := by
  simp only [State.applyTableWrite, bad, refuse]

section GoodTable

variable {img : List Byte} {s : State} (good : tableFail img (s.od 0x4111 0 0) = none)

include good

theorem applyTableWrite_recovering (recovering : s.recovery ≠ none) : s.applyTableWrite img = (codeBusy, s.showTable 3 0xFFFF) := by
  simp only [State.applyTableWrite, good, Option.isSome_iff_ne_none.mpr recovering, if_true, refuse]

theorem applyTableWrite_strands (calm : s.recovery = none) (strands : s.strandsEntry (entriesOf img) = true) :
    s.applyTableWrite img = (onlyCopy, s.showTable 2 0xFFFF) := by
  simp [State.applyTableWrite, good, calm, strands, refuse]

theorem applyTableWrite_takes (calm : s.recovery = none) (covers : s.strandsEntry (entriesOf img) = false) :
    s.applyTableWrite img = (0, (s.showTable 0 0xFFFF).issueTable img) := by
  simp [State.applyTableWrite, good, calm, covers]

end GoodTable

/-! ### The end of a copy (15 R377) -/

/-- The part whose pair has its copy: PAIRED, and neither its twin nor itself is SYNCING any more. -/
def paired (s : State) : State :=
  ({ s with declared := s.declared.filter (fun d => s.twin != some d),
            syncing := s.syncing.filter fun d => s.twin != some d && d != s.endpoint }.setOd 0x4102 0 0 0).setOd 0x4102 0 3 0

theorem exec_copyComplete (s : State) : exec .copyComplete s =
    .next (if s.od 0x4102 0 0 ≠ 2 then s else if (paired s).inService = true then paired s
      else (paired s).sendJoined ((paired s).ownIndex.getD 0xFFFF)) := rfl

/-- Settles O34, with an equation for each answer of an image or a table; an unloaded program stays unloaded through the upkeep of the stage, and a
committed step through what settles after it. -/
theorem programsAndTablesApply : Obligations.ProgramsAndTablesApply := by
  unfold Obligations.ProgramsAndTablesApply
  intro s
  refine ⟨fun rq img ok => ⟨fun barred => ?_, fun may good => ?_, fun may f bad => ?_⟩, fun rq ok => ⟨fun barred => ?_, fun may => ?_⟩,
    fun rq img ok => ⟨fun i bad => ?_, fun good => ⟨fun recovering => ?_, fun calm strands => ?_, fun calm covers => ?_⟩⟩,
    fun step => ⟨fun halted acked => ?_, fun stays => ?_⟩, fun other => ?_, fun syncing => ⟨fun served => ?_, fun unserved => ?_⟩⟩
  · rw [exec_programImageWrite, access_refused (by decide) ok (applyProgram_barred img barred)]
  · exact write_taken (exec_programImageWrite rq img s) ok (applyProgram_loads may good)
  · rw [exec_programImageWrite, access_refused (by decide) ok (applyProgram_fails may bad)]
  · exact exec_answers (exec_programUnload rq s) ok (by decide) (applyUnload_barred barred)
  · exact programUnload_unloads ok may
  · rw [exec_stageTableWrite, access_refused (by decide) ok (applyTableWrite_fails bad)]
    rfl
  · rw [exec_stageTableWrite, access_refused (by decide) ok (applyTableWrite_recovering good recovering)]
    rfl
  · rw [exec_stageTableWrite, access_refused (by decide) ok (applyTableWrite_strands good calm strands)]
    rfl
  · exact write_taken (exec_stageTableWrite rq img s) ok (applyTableWrite_takes good calm covers)
  · obtain ⟨t, runs, pending, record⟩ := stepCommit_commits halted acked
    exact ⟨t, runs, pending, record ▸ rfl, record ▸ rfl⟩
  · rw [exec_stepCommit, if_pos]
    rcases stays with running | unacked
    · simp [running]
    · simp [unacked]
  · rw [exec_copyComplete, if_pos other]
  · rw [exec_copyComplete, if_neg (not_not.mpr syncing), if_pos (show (paired s).inService = true from served)]
    rfl
  · rw [exec_copyComplete, if_neg (not_not.mpr syncing), if_neg (Bool.eq_false_iff.mp (show (paired s).inService = false from unserved))]
    rfl

end Sys2Proof.Proofs
end

section

/-! ## DMA transfers complete (O15; 08 R200, R202; 09 R232)

An engine without a front transfer, or with one that has not reached its completion points, does nothing more than run on; a done one leaves. -/

namespace Sys2Proof.Proofs

open Sys2Proof.Machine

theorem doneAt_eq (t : Transfer) (cc : Nat) : t.doneAt cc = if ∀ d ∈ t.ran, d.kind = 0 then t.wrote else cc :=
  if_congr (by simp) rfl rfl

/-- The part whose engine has completed its front transfer: it has left the queue, and its event is set. -/
def transferLeft (h : Nat) (eng : Bool) (cc : Nat) (t : Transfer) (rest : List Transfer) (s : State) : State :=
  (s.modHearth h fun x =>
    { x.setEngine eng rest with finished := if t.ran.any (fun d => d.kind == 5) then x.finished ++ [t] else x.finished,
                                busy := max x.busy (t.doneAt cc) }).setFlag h t.event (t.doneAt cc)

section Complete

variable {s : State} {hh : HearthId} {eng : Bool} {cc : Nat}

theorem dmaComplete_empty (empty : ((s.advance hh.toNat cc).hearth hh.toNat).engine eng = []) :
    exec (.dmaComplete hh eng cc) s = .next (s.advance hh.toNat cc) := by
  refine congrArg Host.Outcome.next ?_
  dsimp only
  rw [empty]

theorem dmaComplete_front {t : Transfer} {rest : List Transfer} (front : ((s.advance hh.toNat cc).hearth hh.toNat).engine eng = t :: rest) :
    exec (.dmaComplete hh eng cc) s = .next (if !(s.advance hh.toNat cc).dmaDone hh.toNat t then s.advance hh.toNat cc
      else transferLeft hh.toNat eng cc t rest (s.advance hh.toNat cc)) := by
  refine congrArg Host.Outcome.next ?_
  dsimp only
  rw [front]
  rfl

end Complete

/-- Settles O15, by whether the engine has a front transfer and whether that is done. -/
theorem dmaTransfersComplete : Obligations.DmaTransfersComplete := by
  intro s hh eng cc h s'
  refine ⟨fun x rest front => ?_, dmaComplete_empty⟩
  intro at_
  refine ⟨fun done => ?left, fun undone => ?stays⟩
  case left =>
    rw [dmaComplete_front front, if_neg (by simp [s', h, done]), transferLeft, doneAt_eq]
  case stays => rw [dmaComplete_front front, if_pos (by simp [s', h, undone])]

end Sys2Proof.Proofs
end

section

/-! ## Buffers take what comes (O19; 08 R189; 09 R221, R227, R229, R233, R239; 10 R241)

A patrol read may repair a word, and a repair without a spare takes hearths OFF, so a pass writes the hearth die, sends and raises; its row is counted
from the one it began at, whatever the reads do. An inbound row keeps its slot because COPY rows that make room for it only enter the calendar. -/

namespace Sys2Proof.Proofs

open Sys2Proof.Machine Sys2Proof.Laws

/-! ### What a patrol read changes (R220 to R224) -/

/-- The parts that a patrol read writes: the hearth die, and those a record or a report leaves through. -/
def patrolParts : List Part := [.hearth, .fabric, .island]

theorem sameBut_ite {l : List Part} {s t u : State} (c : Prop) [Decidable c] (ht : SameBut l s t) (hu : SameBut l s u) :
    SameBut l s (if c then t else u) := by
  split <;> assumption

theorem sameBut_foldl {α : Type} {l : List Part} {f : State → α → State} (keeps : ∀ s a, SameBut l s (f s a)) (as : List α) (s : State) :
    SameBut l s (as.foldl f s) :=
  List.foldlRecOn as f (motive := SameBut l s) (sameBut_refl l s) fun t kept a _ => sameBut_trans kept (keeps t a)

theorem sameBut_setOd (l : List Part) (x y f v : Nat) (s : State) : SameBut l s (s.setOd x y f v) := ⟨rfl, fun p _ => by cases p <;> rfl⟩

theorem sameBut_bump (l : List Part) (x y f n : Nat) (s : State) : SameBut l s (s.bump x y f n) := sameBut_setOd ..

theorem sameBut_setBlob (l : List Part) (x y : Nat) (b : List Byte) (s : State) : SameBut l s (s.setBlob x y b) :=
  ⟨rfl, fun p _ => by cases p <;> rfl⟩

theorem patrol_raise (r : Raise) (s : State) : SameBut patrolParts s (s.raise r) := sameBut_quiet _ rfl (quiet_raise r s)

/-- A change of objects and of the hearth die alone. -/
theorem patrol_stores (s : State) (r : RecordPart) (p : HearthPart) : SameBut patrolParts s { s with toRecordPart := r, toHearthPart := p } :=
  ⟨rfl, fun q other => by
    cases q with
    | hearth => exact absurd other (by decide)
    | _ => rfl⟩

theorem patrol_modHearth (h : Nat) (f : Hearth → Hearth) (s : State) : SameBut patrolParts s (s.modHearth h f) := patrol_stores ..

theorem patrol_mirrorTo (type : Nat) (body : List Byte) (dest : Nat) (s : State) : SameBut patrolParts s (s.mirrorTo type body dest) :=
  List.foldlRecOn _ _ (motive := fun (acc : List Nat × State) => SameBut patrolParts s acc.2) (sameBut_refl ..) fun _ kept _ _ =>
    sameBut_trans kept (sameBut_mono (by decide) (sendsOnly_send ..).parts)

theorem patrol_reportFailed (s : State) : SameBut patrolParts s s.reportFailed := by
  have noted : SameBut patrolParts s { s with selfFailed := true } := patrol_stores ..
  unfold State.reportFailed
  dsimp only
  split
  · exact sameBut_refl ..
  · split
    · exact sameBut_trans (sameBut_trans noted (patrol_mirrorTo ..)) (patrol_mirrorTo ..)
    · exact sameBut_trans noted (patrol_mirrorTo ..)

/-- A hearth is out of service, and nothing of it is left. -/
def emptied (h : Nat) (s : State) : State :=
  let s := (((s.setOd (0x3000 + h) 1 0 0).setHearth h Hearth.fresh).dropRows h (fun _ => false)).setOd 0x3405 (h + 1) 0 0
  { s with writeBacks := s.writeBacks.filter fun e => e.1 / 16 != h }

theorem patrol_hearthOff (h : Nat) (fault : Bool) (s : State) : SameBut patrolParts s (s.hearthOff h fault) := by
  have off : SameBut patrolParts s (emptied h s) := patrol_stores ..
  have told := sameBut_ite (fault = true) (sameBut_trans off (patrol_raise { kind := .fence, path := pathUnit 0 h 0 0, detail := 3 } _)) off
  exact sameBut_ite _ (sameBut_trans told (patrol_reportFailed _)) told

theorem patrol_settleOff (s : State) : SameBut patrolParts s s.settleOff := by
  have noted : SameBut patrolParts s { s with offPending := s.offPending.filter fun e => s.heldByStep e.1 } := patrol_stores ..
  exact sameBut_trans noted (sameBut_foldl (fun t (e : Nat × Bool) => patrol_hearthOff e.1 e.2 t) _ _)

theorem patrol_takeOff (h : Nat) (fault : Bool) (s : State) : SameBut patrolParts s (s.takeOff h fault) :=
  sameBut_ite _ (sameBut_refl ..) (sameBut_trans (patrol_stores s s.toRecordPart _) (patrol_settleOff _))

theorem patrol_journaled (k n : Nat) (s : State) : SameBut patrolParts s (s.journaled k n) := by
  have island (i : IslandPart) : SameBut patrolParts s { s with toIslandPart := i } :=
    ⟨rfl, fun q other => by
      cases q with
      | island => exact absurd other (by decide)
      | _ => rfl⟩
  exact sameBut_ite _ (sameBut_refl ..) (sameBut_ite _ (island _) (sameBut_trans (island _) (patrol_raise ..)))

theorem patrol_moveRow (h row : Nat) (s : State) : SameBut patrolParts s (s.moveRow h row) :=
  sameBut_foldl (fun t _ => patrol_stores t t.toRecordPart _) _ _

theorem patrol_writeRow (h row : Nat) (cells : List VCell) (s : State) : SameBut patrolParts s (s.writeRow h row cells) :=
  patrol_stores ..

theorem patrol_writeBack (key : Nat) (s : State) : SameBut patrolParts s (s.writeBack key) :=
  sameBut_ite _ (patrol_stores ..) (patrol_stores ..)

theorem patrol_repair (h row w : Nat) (s : State) : SameBut patrolParts s (s.repair h row w) := by
  unfold State.repair
  dsimp only
  split
  · exact patrol_stores ..
  · split
    · exact sameBut_refl ..
    · split
      · exact patrol_takeOff ..
      · generalize spare : State.moveRow h row _ = t
        have moved : SameBut patrolParts s t := spare ▸ sameBut_trans (sameBut_trans (sameBut_trans (sameBut_setBlob ..) (patrol_journaled ..))
          (sameBut_bump ..)) (patrol_moveRow ..)
        split
        · exact sameBut_ite _ (sameBut_trans moved (patrol_writeRow ..)) moved
        · exact moved

theorem patrol_inStokerSlot {go : State → State} (goes : ∀ s, SameBut patrolParts s (go s)) (h cc bank : Nat) (d : Due) (s : State) :
    SameBut patrolParts s (s.inStokerSlot h cc bank d go) :=
  sameBut_ite _ (patrol_modHearth ..) (goes s)

/-- The scrub reads a word: unlike an engine it freezes no hearth. -/
theorem patrol_wordRead (h row w cc : Nat) (s : State) : SameBut patrolParts s (s.wordRead h row w cc .scrub) := by
  unfold State.wordRead
  dsimp only
  refine sameBut_ite _ ?corrected (sameBut_ite _ ?uncorrectable (sameBut_ite _ (sameBut_bump ..) (sameBut_refl ..)))
  case corrected =>
    have noted := sameBut_trans (sameBut_bump patrolParts (0x3000 + h) 4 0 1 s)
      (patrol_raise { kind := .corrected, path := pathUnit 0 h 3 (row % 16), detail := 0 } _)
    refine sameBut_ite _ noted (sameBut_ite _ ?_ (sameBut_trans noted (sameBut_bump ..)))
    exact sameBut_trans (sameBut_trans noted (patrol_stores _ _ _)) (patrol_inStokerSlot (patrol_writeBack _) ..)
  case uncorrectable =>
    rw [if_neg (by simp), if_neg (by simp)]
    exact sameBut_trans (sameBut_trans (sameBut_trans (sameBut_bump ..) (patrol_raise ..)) (patrol_stores _ _ _))
      (patrol_inStokerSlot (patrol_repair _ _ _) ..)

/-! ### SCRUB_PATROL (R221) -/

/-- `t` differs from `s` in stores of the hearth die alone: its hearths are as they were. -/
def StoresOnly (s t : State) : Prop := t.hearths = s.hearths ∧ t = { s with toHearthPart := t.toHearthPart }

theorem StoresOnly.trans {s t u : State} (h : StoresOnly s t) (k : StoresOnly t u) : StoresOnly s u := by
  obtain ⟨hearths, eq⟩ := h
  obtain ⟨hearths', eq'⟩ := k
  refine ⟨hearths'.trans hearths, eq'.trans ?_⟩
  rw [eq]

theorem storesOnly_ite (c : Prop) [Decidable c] {s t u : State} (ht : StoresOnly s t) (hu : StoresOnly s u) : StoresOnly s (if c then t else u) := by
  split <;> assumption

theorem storesOnly_upsetWord (h : Nat) (u : WordUpset) (s : State) : StoresOnly s (s.upsetWord h u) := by
  have stuck (v : Tab Nat) : StoresOnly s (if u.permanent then { s with bufStuck := v } else s) := storesOnly_ite _ ⟨rfl, rfl⟩ ⟨rfl, rfl⟩
  exact storesOnly_ite _ (stuck _) ((stuck _).trans ⟨rfl, rfl⟩)

/-- What the cells of words turn out to hold. -/
def upsetWords (h : Nat) (cells : List WordUpset) (s : State) : State := cells.foldl (fun s u => s.upsetWord h u) s

theorem storesOnly_upsetWords (h : Nat) (cells : List WordUpset) (s : State) : StoresOnly s (upsetWords h cells s) :=
  List.foldlRecOn cells _ (motive := StoresOnly s) ⟨rfl, rfl⟩ fun t kept u _ => kept.trans (storesOnly_upsetWord h u t)

/-- The scrub reads row `p` of each bank. -/
def scrubRows (h p : Nat) (s : State) : State :=
  (List.range 16).foldl (fun s b => (List.range 4).foldl (fun s w => s.wordRead h (16 * p + b) w (s.hearth h).now .scrub) s) s

/-- The scrub has read row `p` of each bank, and goes on to the next; past the last it counts a pass. -/
def patrolled (h p : Nat) (s : State) : State :=
  let t := (scrubRows h p s).modHearth h fun x => { x with patrol := (p + 1) % 2048 }
  if p = 2047 then t.bump (0x3000 + h) 4 7 1 else t

theorem patrol_patrolled (h p : Nat) (s : State) : SameBut patrolParts s (patrolled h p s) := by
  have reads : SameBut patrolParts s (scrubRows h p s) :=
    sameBut_foldl (fun t b => sameBut_foldl (fun t w => patrol_wordRead h (16 * p + b) w (t.hearth h).now t) _ t) _ s
  have moves := sameBut_trans reads (patrol_modHearth h (fun x => { x with patrol := (p + 1) % 2048 }) _)
  exact sameBut_ite _ (sameBut_trans moves (sameBut_bump ..)) moves

theorem patrol_of_patrolled (h p : Nat) (s : State) : ((patrolled h p s).hearth h).patrol = (p + 1) % 2048 := by
  have counted (t : State) (n : Nat) : (t.bump (0x3000 + h) 4 7 n).hearth h = t.hearth h := rfl
  unfold patrolled
  dsimp only
  split
  · rw [counted, hearth_modHearth]
  · rw [hearth_modHearth]

theorem exec_scrubPatrol (hh : HearthId) (cells : List WordUpset) (s : State) : exec (.scrubPatrol hh cells) s =
    .next (if (s.od (0x3000 + hh.toNat) 1 0 ≠ 3 ∧ s.od (0x3000 + hh.toNat) 1 0 ≠ 4) ∨ s.od 0x3406 1 0 = 0 then upsetWords hh.toNat cells s
      else patrolled hh.toNat (s.hearth hh.toNat).patrol (upsetWords hh.toNat cells s)) := by
  obtain ⟨hearths, stores⟩ := storesOnly_upsetWords hh.toNat cells s
  have on : (upsetWords hh.toNat cells s).od 0x3406 1 0 = s.od 0x3406 1 0 := by rw [stores]; rfl
  rw [← on, ← hearth_of_hearths hearths]
  rfl

/-! ### INBOUND_WRITE (R229, R233; 10 R241) -/

/-- A DMA write slot lies whole frames after the first that would do. -/
theorem inboundSlot_eq (x : Hearth) (row cc : Nat) : ∃ k, x.inboundSlot row cc = slotFrom 6 cc + 8 * k := by
  unfold Hearth.inboundSlot
  dsimp only
  cases found : List.find? _ _ with
  | none => exact ⟨0, rfl⟩
  | some c =>
    obtain ⟨k, -, eq⟩ := List.mem_map.mp (List.mem_of_find?_eq_some found)
    exact ⟨k, eq.symm⟩

/-- An inbound row stands in a DMA write slot: the COPY rows that make room for it only enter other slots. -/
theorem placeInbound_slot (r : InRow) (cc : Nat) (x : Hearth) :
    ∃ n ∈ (Hearth.placeInbound r cc x).calendar, n.due = .inbound r ∧ n.cc % 8 = 6 ∧ cc ≤ n.cc := by
  obtain ⟨k, slot⟩ := inboundSlot_eq x r.row cc
  unfold Hearth.placeInbound
  dsimp only
  refine List.foldlRecOn _ _ (motive := fun y : Hearth => ∃ n ∈ y.calendar, n.due = .inbound r ∧ n.cc % 8 = 6 ∧ cc ≤ n.cc)
    ⟨_, mem_calendar_at .., rfl, ?_⟩ fun y ⟨n, mem, is⟩ m _ => ?_
  · rw [slot, slotFrom]
    dsimp only
    omega
  · split
    · exact ⟨n, mem_calendar_at_of_mem mem .., is⟩
    · exact ⟨n, mem, is⟩

/-- What follows when a row has left the inbound queue: rows that wait are accepted, and a step's inputs with them. -/
def inboundGoesOn (h cc : Nat) (s : State) : State := (s.acceptRows h cc (s.hearth h).waiting.length).settleInputs h cc (s.hearth h).step

/-- A row for a PROTECT region is discarded. -/
def discarded (h cc : Nat) (r : InRow) (s : State) : State :=
  ((s.bump (0x3000 + h) 4 6 1).raise { kind := .protect, path := pathUnit 0 h 3 (r.row % 16), detail := r.row, step := r.step }).modHearth h fun x =>
    { x with fence := x.fence.map fun g => if r.serial < g.rows then { g with landed := max g.landed cc } else g }

theorem writeInbound_eq (h cc : Nat) (r : InRow) (s : State) : s.writeInbound h cc r =
    if s.inRegion h r.row (some 29) then discarded h cc r s else s.modHearth h (Hearth.placeInbound r cc) := rfl

section Inbound

variable {s : State} {hh : HearthId} {cc : Nat}

theorem inboundWrite_empty (empty : ((s.advance hh.toNat cc).hearth hh.toNat).inbound = []) (b : Option FlitFault) :
    exec (.inboundWrite hh cc b) s = .next (s.advance hh.toNat cc) := by
  refine congrArg Host.Outcome.next ?_
  dsimp only
  rw [empty]

theorem inboundWrite_front {r : InRow} {rest : List InRow} (front : ((s.advance hh.toNat cc).hearth hh.toNat).inbound = r :: rest)
    (b : Option FlitFault) :
    let w := ((s.advance hh.toNat cc).modHearth hh.toNat fun x => { x with inbound := rest }).parityRow hh.toNat b r
    exec (.inboundWrite hh cc b) s = .next (inboundGoesOn hh.toNat cc (w.2.writeInbound hh.toNat cc w.1)) := by
  refine congrArg Host.Outcome.next ?_
  dsimp only
  rw [front]
  rfl

end Inbound

/-! ### RESIDENT_REGION_WRITE and RESIDENT_IMAGE_WRITE (R227, R239; 08 R189) -/

theorem exec_residentRegionWrite (rq : Requester) (hh : HearthId) (entry : BitVec 3) (v : BitVec 32) (s : State) :
    exec (.residentRegionWrite rq hh entry v) s = .next (s.access rq .write (0x3000 + hh.toNat) (0x10 + entry.toNat) (leBytes 4 v.toNat)
      (State.applyRegion hh.toNat entry.toNat v.toNat)) := rfl

/-- An entry as it is stored: its reserved bits are 0. -/
def storedEntry (v : Nat) : Nat := v % 2 ^ 32 - field (v % 2 ^ 32) 28 27 * 2 ^ 27 - field (v % 2 ^ 32) 15 15 * 2 ^ 15

theorem applyRegion_eq (h i v : Nat) (s : State) : s.applyRegion h i v =
    let rs := s.regions h i (storedEntry v)
    if !s.imageState then (codeState, s)
    else if !disjoint rs || decide (4096 < (rs.map regionSize).sum) || rs.any (fun e => decide (32768 < regionBase e + regionSize e)) ||
        decide (131072 < s.loadRows h i (storedEntry v)) then (codeRange, s)
    else (0, s.setOd (0x3000 + h) (0x10 + i) 0 (storedEntry v)) := rfl

section Region

variable {h i v : Nat} {s : State}

theorem applyRegion_barred (barred : s.imageState = false) : s.applyRegion h i v = (codeState, s) := if_pos (by rw [barred]; rfl)

variable (may : s.imageState = true)

include may

theorem applyRegion_meets (meets : disjoint (s.regions h i (storedEntry v)) = false) : s.applyRegion h i v = (codeRange, s) := by
  simp [applyRegion_eq, may, meets]

theorem applyRegion_fits (apart : disjoint (s.regions h i (storedEntry v)) = true)
    (few : ((s.regions h i (storedEntry v)).map regionSize).sum ≤ 4096)
    (within : ∀ e ∈ s.regions h i (storedEntry v), regionBase e + regionSize e ≤ 32768) (loads : s.loadRows h i (storedEntry v) ≤ 131072) :
    s.applyRegion h i v = (0, s.setOd (0x3000 + h) (0x10 + i) 0 (storedEntry v)) := by
  rw [applyRegion_eq]
  dsimp only
  rw [if_neg (by simp [may]), if_neg (by simpa [apart, few, loads] using within)]

end Region

theorem exec_residentImageWrite (rq : Requester) (img : List Byte) (s : State) : exec (.residentImageWrite rq img) s =
    .next (s.access rq .write 0x3407 0 img (State.applyResidentImage img)) := rfl

/-- An image for the LOAD regions of the part (Table 09-9). -/
def goodImage (img : List Byte) (s : State) : Prop :=
  img.length = 64 + 64 * s.loadRows 128 8 0 ∧ leAt img 0 2 = 1 ∧ leAt img 2 2 = s.loadRegions ∧ leAt img 56 4 = crc32 (img.drop 64) ∧
    leAt img 60 4 = crc32 (img.take 60)

section Image

variable {img : List Byte} {s : State} (may : s.imageState = true)

include may

theorem applyResidentImage_stores (good : goodImage img s) : s.applyResidentImage img = (0, s.setBlob 0x3407 0 img) := by
  obtain ⟨length, version, count, body, head⟩ := good
  refine (if_neg (by simp [may])).trans (if_neg ?_)
  simp [length, version, count, body, head]

theorem applyResidentImage_refuses (bad : ¬ goodImage img s) : s.applyResidentImage img = (codeFormat, s) := by
  refine (if_neg (by simp [may])).trans (if_pos ?_)
  simpa only [goodImage, not_and_or] using bad

end Image

/-- Settles O19: a patrol writes the hearth die and reports, an inbound row goes by its region, a write by the first of its checks that fails. -/
theorem buffersTakeWhatComes : Obligations.BuffersTakeWhatComes := by
  intro s
  refine ⟨fun hh cells => ?scrub, fun hh cc => ⟨inboundWrite_empty, fun r rest front b => ?inbound⟩, fun rq hh entry v ok => ?region,
    fun rq img ok may => ?image⟩
  case scrub =>
    intro h st
    refine ⟨fun serves on => ?passes, fun rests => ?rests⟩
    case passes =>
      have runs := exec_scrubPatrol hh cells s
      rw [if_neg (show ¬ ((st ≠ 3 ∧ st ≠ 4) ∨ s.od 0x3406 1 0 = 0) by omega)] at runs
      have noted : SameBut patrolParts s (upsetWords h cells s) := (storesOnly_upsetWords h cells s).2 ▸ patrol_stores s s.toRecordPart _
      exact ⟨_, runs, sameBut_mono (by decide) (sameBut_trans noted (patrol_patrolled ..)), patrol_of_patrolled ..⟩
    case rests =>
      rw [exec_scrubPatrol, if_pos (show (st ≠ 3 ∧ st ≠ 4) ∨ s.od 0x3406 1 0 = 0 by omega)]
      rfl
  case inbound =>
    intro u at_ v r' goesOn
    have runs := inboundWrite_front front b
    have found : u.parityRow hh.toNat b r = (r', v) := by cases b <;> rfl
    have kept : r'.row = r.row ∧ r'.step = r.step ∧ r'.serial = r.serial := by cases b <;> exact ⟨rfl, rfl, rfl⟩
    obtain ⟨row, step, serial⟩ := kept
    dsimp only at runs
    rw [found, writeInbound_eq, row] at runs
    refine ⟨fun bars => ?_, fun free => ⟨?_, placeInbound_slot ..⟩⟩
    · rw [runs, if_pos bars, discarded, row, step, serial]
      rfl
    · rw [runs, if_neg (Bool.eq_false_iff.mp free)]
      rfl
  case region =>
    have writes := exec_residentRegionWrite rq hh entry v s
    exact ⟨fun barred => write_answers writes ok (by decide) (applyRegion_barred barred),
      fun may meets => write_answers writes ok (by decide) (applyRegion_meets may meets),
      fun may apart few within loads => write_taken writes ok (applyRegion_fits may apart few within loads)⟩
  case image =>
    have writes := exec_residentImageWrite rq img s
    exact ⟨fun good => write_taken writes ok (applyResidentImage_stores may good),
      fun bad => write_answers writes ok (by decide) (applyResidentImage_refuses may bad)⟩

end Sys2Proof.Proofs
end

section

/-! ## Flue merges and delivers (O13; 10 R245, R249, R252, R253, R257, R258)

A merge depends only on the flits that stand first at the router's inputs and carry what is named; a unit that is whole enters the calendar whole
frames after the one in which it came; a tree image is judged where the part may take one. -/

namespace Sys2Proof.Proofs

open Sys2Proof.Machine Sys2Proof.Laws

/-! ### Adding flits (R252, R257) -/

/-- Counts add with the lanes. -/
theorem count_mergeFlits (f : Flit) (l : List Flit) : (mergeFlits f l).1.count = f.count + (l.map (·.count)).sum := by
  induction l generalizing f with
  | nil => rfl
  | cons g l ih =>
    calc (mergeFlits f (g :: l)).1.count = (addFlits f g).1.count + (l.map (·.count)).sum := ih _
      _ = f.count + ((g :: l).map (·.count)).sum := by rw [List.map_cons, List.sum_cons, ← Nat.add_assoc]; rfl

/-! ### FLUE_MERGE (R245, R252, R253) -/

/-- The flits that leave together of those that stand first: SPARSE at most two, FIXED all. -/
def takenFlits (s : State) (tag : Nat) (l : List Held) : List Held := if s.tagSparse tag then l.take 2 else l

theorem takenFlits_cons (s : State) (tag : Nat) (first : Held) (rest : List Held) :
    takenFlits s tag (first :: rest) = first :: (takenFlits s tag (first :: rest)).drop 1 := by
  unfold takenFlits
  split <;> rfl

/-- A tag may leave a router: it is SPARSE, or has a flit at every input that carries it. -/
def mayMerge (s : State) (r tag : Nat) (l : List Held) : Bool :=
  s.tagSparse tag || (tagInputs (s.tagContributors tag) (s.tagDest tag) r).all fun inp => l.any fun e => e.input == inp

theorem mayMerge_of {s : State} {r tag : Nat} {l : List Held} (may : s.tagSparse tag = true ∨
    ∀ n ∈ tagInputs (s.tagContributors tag) (s.tagDest tag) r, ∃ e ∈ l, e.input = n) : mayMerge s r tag l = true := by
  obtain sparse | complete := may
  · simp [mayMerge, sparse]
  · simpa [mayMerge] using Or.inr complete

theorem mayMerge_eq_false {s : State} {r tag : Nat} {l : List Held} (fixed : s.tagSparse tag = false)
    (lacks : ∃ n ∈ tagInputs (s.tagContributors tag) (s.tagDest tag) r, ∀ e ∈ l, e.input ≠ n) : mayMerge s r tag l = false := by
  simpa [mayMerge, fixed] using lacks

/-- Some flits leave a router as one. -/
def mergeOn (r tag : Nat) (first : Held) (taken : List Held) (s : State) : State :=
  let sum := mergeFlits first.flit ((taken.drop 1).map (·.flit))
  let step := (s.hearth (s.tagDest tag)).step
  let left : State := { s with flue := { s.flue with flits := taken.foldl (fun l e => l.erase e) s.flue.flits } }
  ((left.bump 0x340A 0 0 (taken.length - 1)).flueResidue r step sum.2).forwardFlit r (s.tagDest tag) step none sum.1

section Merge

variable {s : State} {r : HearthId} {tag : BitVec 16} {unit : BitVec 6} {flit : BitVec 4}

theorem flueMerge_absent (absent : (s.heads r.toNat).filter (Held.is tag.toNat unit.toNat flit.toNat) = []) :
    exec (.flueMerge r tag unit flit none) s = .next s := by
  refine congrArg Host.Outcome.next ?_
  dsimp only
  rw [absent]

theorem flueMerge_front {first : Held} {rest : List Held}
    (front : (s.heads r.toNat).filter (Held.is tag.toNat unit.toNat flit.toNat) = first :: rest) (same : ∀ e ∈ rest, e.flit.step = first.flit.step) :
    exec (.flueMerge r tag unit flit none) s = .next
      (if !mayMerge s r.toNat tag.toNat (first :: rest) then s
      else if !s.flueRoom r.toNat (s.tagDest tag.toNat) first.flit then s.bump 0x340A 0 6 1
      else mergeOn r.toNat tag.toNat first (takenFlits s tag.toNat (first :: rest)) s) := by
  have all : rest.filter (fun e => e.flit.step == first.flit.step) = rest := List.filter_eq_self.mpr fun e mem => beq_iff_eq.mpr (same e mem)
  refine congrArg Host.Outcome.next ?_
  dsimp only
  rw [front]
  dsimp only
  rw [all, mayMerge, Bool.not_or]
  exact if_congr Iff.rfl rfl (if_congr Iff.rfl rfl (ite_self _))

end Merge

/-! ### FLUE_UNIT_COMPLETE (R257) -/

/-- A flue-in slot lies whole frames after the first that follows. -/
theorem flueInSlot_eq (x : Hearth) (cc : Nat) : ∃ k, x.flueInSlot cc = 8 * (cc / 8 + 1) + 3 + 8 * k := by
  unfold Hearth.flueInSlot
  dsimp only
  cases found : List.find? _ _ with
  | none => exact ⟨0, rfl⟩
  | some c =>
    obtain ⟨k, -, eq⟩ := List.mem_map.mp (List.mem_of_find?_eq_some found)
    exact ⟨k, eq.symm⟩

theorem flueInSlot_slot (x : Hearth) (cc : Nat) : x.flueInSlot cc % 8 = 3 ∧ cc / 8 < x.flueInSlot cc / 8 := by
  obtain ⟨k, slot⟩ := flueInSlot_eq x cc
  omega

/-- A unit has left the merge store. -/
def unitTaken (h tag unit : Nat) (s : State) : State :=
  { s with flue := { s.flue with stores := s.flue.stores.filter fun v => !StoreUnit.at h tag unit v } }

/-- The receive notes a unit, and with its last one ends. -/
def receiveNotes (h unit : Nat) (r : Receive) (s : State) : State :=
  let r' := { r with written := r.written ++ [unit] }
  s.modHearth h fun x =>
    { x with receives := if r.len ≤ r.written.length + 1 then x.receives.erase r else x.receives.map fun e => if e = r then r' else e }

/-- A unit whose flits all count its total is neither in excess nor short. -/
theorem counts_whole {l : List StoreFlit} {total : Nat} (counts : ∀ e ∈ l, e.count = total) :
    ((l.map (·.count)).any fun n => decide (total < n)) = false ∧ ((l.map (·.count)).all fun n => decide (total ≤ n)) = true := by
  constructor
  · simpa using fun e mem => (counts e mem).le
  · simpa using fun e mem => (counts e mem).ge

theorem flueUnitComplete_whole {s : State} {hh : HearthId} {tag : BitVec 16} {unit : BitVec 6} {cc total : Nat} {u : StoreUnit} {r : Receive}
    (stored : (s.advance hh.toNat cc).flue.stores.find? (StoreUnit.at hh.toNat tag.toNat unit.toNat) = some u)
    (armed : (((s.advance hh.toNat cc).hearth hh.toNat).receives.find? fun r => r.tag == tag.toNat && !r.written.contains unit.toNat) = some r)
    (told : u.total = some total) (whole : u.flits.length = (s.advance hh.toNat cc).tagFlits tag.toNat) (counts : ∀ e ∈ u.flits, e.count = total) :
    let s1 := unitTaken hh.toNat tag.toNat unit.toNat (s.advance hh.toNat cc)
    let slot := (s1.hearth hh.toNat).flueInSlot (max cc r.cc)
    let rows : Due := .flueIn tag.toNat (r.addr + 16 * unit.toNat) ((s.advance hh.toNat cc).unitRows tag.toNat false u)
    let written := (receiveNotes hh.toNat unit.toNat r s1).schedule hh.toNat slot rows
    exec (.flueUnitComplete hh tag unit cc) s =
      .next (if r.len ≤ r.written.length + 1 then written.schedule hh.toNat slot (.setFlag r.event) else written) := by
  obtain ⟨noExcess, full⟩ := counts_whole counts
  refine congrArg Host.Outcome.next ?_
  dsimp only
  rw [stored, armed]
  dsimp only
  rw [told]
  dsimp only
  simp only [noExcess, full, whole, beq_self_eq_true, Bool.and_true, Bool.or_false, Bool.not_true, Bool.false_eq_true, ↓reduceIte, decide_eq_true_eq,
    List.length_append, List.length_singleton]
  rfl

/-! ### FLUE_TREE_WRITE (R249) -/

theorem exec_flueTreeWrite (rq : Requester) (img : List Byte) (s : State) : exec (.flueTreeWrite rq img) s =
    .next (s.access rq .write 0x3408 0 img fun s =>
      (if (s.applyFlueTree img).1 = 0 then 0 else if (s.applyFlueTree img).1 = 1 then codeState else codeFormat, (s.applyFlueTree img).2)) := rfl

theorem applyFlueTree_barred (img : List Byte) {s : State} (barred : s.imageState = false) :
    s.applyFlueTree img = (1, (s.setOd 0x3409 0 1 1).setOd 0x3409 0 2 0xFFFF) := by
  unfold State.applyFlueTree
  rw [barred]
  rfl

theorem applyFlueTree_good {img : List Byte} {s : State} (may : s.imageState = true) (good : s.judgeFlueTree img = (0, 0)) :
    s.applyFlueTree img =
      (0, ((((s.setOd 0x3409 0 1 0).setOd 0x3409 0 2 0).setBlob 0x3408 0 img).setOd 0x3409 0 0 1).setOd 0x3409 0 3 (leAt img 2 2)) := by
  unfold State.applyFlueTree
  rw [may, if_pos rfl, good]
  rfl

/-- Settles O13: a merge by what may leave and where there is room, a whole unit by its receive, an image by its judgement. -/
theorem flueMergesAndDelivers : Obligations.FlueMergesAndDelivers := by
  intro s
  refine ⟨fun r tag unit flit => flueMerge_absent, fun r tag unit flit first rest front same => ?merge, fun r dest step f late => if_pos late,
    fun hh tag unit cc total u r => ?unit, fun rq img ok => ⟨fun may good => ?takes, fun barred => ?bars⟩⟩
  case merge =>
    intro dest inputs taken sum step
    have runs := flueMerge_front front same
    refine ⟨?counts, fun may => ⟨fun room => ?moves, fun full => ?stalls⟩, fun fixed lacks => ?waits⟩
    case counts =>
      have split : taken = first :: taken.drop 1 := takenFlits_cons s tag.toNat first rest
      calc sum.1.count = first.flit.count + (((taken.drop 1).map (·.flit)).map (·.count)).sum := count_mergeFlits ..
        _ = ((first :: taken.drop 1).map (·.flit.count)).sum := by rw [List.map_map, List.map_cons, List.sum_cons]; rfl
        _ = (taken.map (·.flit.count)).sum := by rw [← split]
    case moves =>
      rw [runs, mayMerge_of may, room]
      rfl
    case stalls =>
      rw [runs, mayMerge_of may, full]
      rfl
    case waits =>
      rw [runs, mayMerge_eq_false fixed lacks]
      rfl
  case unit =>
    intro h s' mine stored armed told whole counts rows s1 slot
    have runs := flueUnitComplete_whole stored armed told whole counts
    refine ⟨flueInSlot_slot .., fun last => ?_, fun more => ?_⟩
    · refine runs.trans (congrArg _ ((if_pos last).trans ?_))
      simp only [receiveNotes, if_pos last]
      rfl
    · refine runs.trans (congrArg _ ((if_neg more.not_ge).trans ?_))
      simp only [receiveNotes, if_neg more.not_ge]
      rfl
  case takes => exact write_taken (exec_flueTreeWrite rq img s) ok (by rw [applyFlueTree_good may good]; rfl)
  case bars =>
    refine (exec_flueTreeWrite rq img s).trans (congrArg _ (access_refused (by decide) ok ?_))
    rw [applyFlueTree_barred img barred]
    rfl

end Sys2Proof.Proofs
end

section

/-! ## What keeps the attention requests (11 R270)

The queue of a gang changes when a request is fetched, starts or is done, and when its step is dropped. No other operation on the way from a request
to its results changes it: transfers and records, contexts and frames, arrays, what waits for a step boundary, reads of a buffer. -/

namespace Sys2Proof.Proofs

open Sys2Proof.Machine Sys2Proof.Laws

@[simp] theorem ite_attnQueue (c : Prop) [Decidable c] (s t : State) : (if c then s else t).attnQueue = if c then s.attnQueue else t.attnQueue := by
  split <;> rfl

@[simp] theorem foldl_attnQueue {α : Type} {f : State → α → State} (keeps : ∀ s a, (f s a).attnQueue = s.attnQueue) (l : List α) (s : State) :
    (l.foldl f s).attnQueue = s.attnQueue :=
  List.foldlRecOn l f (motive := fun t => t.attnQueue = s.attnQueue) rfl fun t kept a _ => (keeps t a).trans kept

/-- The same of a fold that answers something beside the state. -/
@[simp] theorem foldl_snd_attnQueue {α β : Type} {f : β × State → α → β × State} (keeps : ∀ p a, (f p a).2.attnQueue = p.2.attnQueue) (l : List α)
    (p : β × State) : (l.foldl f p).2.attnQueue = p.2.attnQueue :=
  List.foldlRecOn l f (motive := fun q => q.2.attnQueue = p.2.attnQueue) rfl fun q kept a _ => (keeps q a).trans kept

theorem attnQueue_of_sameBut {l : List Part} {s t : State} (same : SameBut l s t) (beside : l.contains .memory = false) : t.attnQueue = s.attnQueue :=
  congrArg MemoryPart.attnQueue (same.2 .memory beside)

/-! ### Transfers -/

@[simp] theorem notice_attnQueue (type arg ctx step : Nat) (data : List Byte) (dests : List Nat) (s : State) :
    (s.notice type arg ctx step data dests).attnQueue = s.attnQueue := attnQueue_of_sameBut (sendsOnly_sendEach ..).parts rfl

@[simp] theorem mirrorTo_attnQueue (type : Nat) (body : List Byte) (dest : Nat) (s : State) : (s.mirrorTo type body dest).attnQueue = s.attnQueue :=
  attnQueue_of_sameBut (patrol_mirrorTo ..) rfl

@[simp] theorem mirrorToTwin_attnQueue (step type : Nat) (body : List Byte) (s : State) : (s.mirrorToTwin step type body).attnQueue = s.attnQueue := by
  have sent (t : Nat) : (s.sendMirror type body t).2.attnQueue = s.attnQueue := mirrorTo_attnQueue type body t s
  unfold State.mirrorToTwin
  split
  · simp [sent]
  · rfl

@[simp] theorem mirrorCtx_attnQueue (c : Nat) (s : State) : (s.mirrorCtx c).attnQueue = s.attnQueue := by
  unfold State.mirrorCtx
  split <;> simp

/-! ### Contexts, frames and lines (R262 to R269) -/

@[simp] theorem modCtx_attnQueue (c : Nat) (f : Ctx → Ctx) (s : State) : (s.modCtx c f).attnQueue = s.attnQueue := by
  unfold State.modCtx
  split <;> rfl

@[simp] theorem freeFrames_attnQueue (c : Nat) (s : State) : (s.freeFrames c).attnQueue = s.attnQueue := rfl

@[simp] theorem discardCtx_attnQueue (c : Nat) (s : State) : (s.discardCtx c).attnQueue = s.attnQueue := by
  unfold State.discardCtx
  split <;> rfl

@[simp] theorem rebuild_attnQueue (c : Nat) (s : State) : (s.rebuild c).attnQueue = s.attnQueue := by
  unfold State.rebuild
  split <;> simp

@[simp] theorem rebuildAll_attnQueue (s : State) : s.rebuildAll.attnQueue = s.attnQueue := by
  simp [State.rebuildAll]

@[simp] theorem loseCtx_attnQueue (c : Nat) (s : State) : (s.loseCtx c).attnQueue = s.attnQueue := by
  unfold State.loseCtx
  split <;> simp

@[simp] theorem dropPages_attnQueue (l : List (Nat × Nat)) (s : State) : (s.dropPages l).attnQueue = s.attnQueue := by
  simp [State.dropPages]

@[simp] theorem journaled_attnQueue (k n : Nat) (s : State) : (s.journaled k n).attnQueue = s.attnQueue :=
  attnQueue_of_sameBut (patrol_journaled ..) rfl

@[simp] theorem retireFrame_attnQueue (p : Nat) (s : State) : (s.retireFrame p).attnQueue = s.attnQueue := by
  simp [State.retireFrame]

@[simp] theorem retireAt_attnQueue (addr : Nat) (s : State) : (s.retireAt addr).attnQueue = s.attnQueue := by
  unfold State.retireAt
  split <;> simp

@[simp] theorem readLine_attnQueue (line step : Nat) (s : State) : (s.readLine line step).2.attnQueue = s.attnQueue := by
  simp [State.readLine, State.stackError, State.correctLine]

@[simp] theorem readLines_attnQueue (l : List Nat) (step : Nat) (s : State) : (s.readLines l step).2.attnQueue = s.attnQueue := by
  simp [State.readLines]

@[simp] theorem readFrame_attnQueue (f step : Nat) (s : State) : (s.readFrame f step).2.attnQueue = s.attnQueue := readLines_attnQueue ..

@[simp] theorem readCtx_attnQueue (x : Ctx) (s : State) : (s.readCtx x).attnQueue = s.attnQueue := by
  simp [State.readCtx]

/-! ### Arrays and the stage (03 R82 to R85; 06 R134 to R146) -/

@[simp] theorem noteSyncing_attnQueue (ep : Nat) (s : State) : (s.noteSyncing ep).attnQueue = s.attnQueue := by
  simp [State.noteSyncing]

@[simp] theorem startSync_attnQueue (s : State) : s.startSync.attnQueue = s.attnQueue := by
  have read (t : State) (e : Nat × Option Ctx) : ((e.2.map fun x => t.readCtx x).getD t).attnQueue = t.attnQueue := by
    cases e.2 <;> simp
  unfold State.startSync
  dsimp only
  split <;> simp [State.sendCopies, State.setPair, read]

@[simp] theorem settlePair_attnQueue (s : State) : s.settlePair.attnQueue = s.attnQueue := by
  unfold State.settlePair
  split <;> simp [State.setPair]

@[simp] theorem refreshStage_attnQueue (s : State) : s.refreshStage.attnQueue = s.attnQueue := by
  simp [State.refreshStage, State.setLayerSlot, State.clearRange, State.reportGeneration]

@[simp] theorem setArrayState_attnQueue (a v : Nat) (s : State) : (s.setArrayState a v).attnQueue = s.attnQueue := by
  simp [State.setArrayState]

@[simp] theorem retireArray_attnQueue (a : Nat) (s : State) : (s.retireArray a).attnQueue = s.attnQueue := by
  simp [State.retireArray, State.failOver]

@[simp] theorem wear_attnQueue (a : Nat) (s : State) : (s.wear a).attnQueue = s.attnQueue := by
  simp [State.wear, State.noteWear, State.sealRecord]

@[simp] theorem remapColumn_attnQueue (a col cause : Nat) (s : State) : (s.remapColumn a col cause).attnQueue = s.attnQueue := by
  unfold State.remapColumn
  dsimp only
  split
  · rfl
  · split <;> simp [State.copyColumn]

@[simp] theorem remapOrWait_attnQueue (a col cause : Nat) (s : State) : (s.remapOrWait a col cause).attnQueue = s.attnQueue := by
  simp [State.remapOrWait]

@[simp] theorem dropConverter_attnQueue (site conv : Nat) (s : State) : (s.dropConverter site conv).attnQueue = s.attnQueue := by
  simp [State.dropConverter]

/-! ### What waits for a step boundary (08 R207, R209, R210) -/

@[simp] theorem toWorking_attnQueue (h : Nat) (s : State) : (s.toWorking h).attnQueue = s.attnQueue := by
  simp [State.toWorking]

@[simp] theorem retarget_attnQueue (s : State) : s.retarget.attnQueue = s.attnQueue := by
  simp [State.retarget, State.writeSetPoint]

@[simp] theorem settleRwb_attnQueue (s : State) : s.settleRwb.attnQueue = s.attnQueue := by
  simp [State.settleRwb, State.settleDamper, State.damperEvent]

@[simp] theorem hearthOff_attnQueue (h : Nat) (fault : Bool) (s : State) : (s.hearthOff h fault).attnQueue = s.attnQueue :=
  attnQueue_of_sameBut (patrol_hearthOff ..) rfl

@[simp] theorem reportFailed_attnQueue (s : State) : s.reportFailed.attnQueue = s.attnQueue := attnQueue_of_sameBut (patrol_reportFailed s) rfl

@[simp] theorem fenceUnit_attnQueue (path : Nat) (s : State) : (s.fenceUnit path).attnQueue = s.attnQueue := by
  simp [State.fenceUnit]

@[simp] theorem settleOff_attnQueue (s : State) : s.settleOff.attnQueue = s.attnQueue := attnQueue_of_sameBut (patrol_settleOff s) rfl

@[simp] theorem applyBoundary_attnQueue (s : State) : s.applyBoundary.attnQueue = s.attnQueue := by
  simp [State.applyBoundary]

@[simp] theorem adoptGrid_attnQueue (s : State) : s.adoptGrid.attnQueue = s.attnQueue := by
  unfold State.adoptGrid
  split <;> simp

@[simp] theorem boundary_attnQueue (step : Nat) (phase : StepPhase) (s : State) : (s.boundary step phase).attnQueue = s.attnQueue := by
  unfold State.boundary
  dsimp only
  split <;> simp [State.clearFlue, State.dropLone]

/-! ### Stoppage and reads of a buffer (08 R207; 09 R220 to R224) -/

@[simp] theorem writeBack_attnQueue (key : Nat) (s : State) : (s.writeBack key).attnQueue = s.attnQueue := attnQueue_of_sameBut (patrol_writeBack ..) rfl

@[simp] theorem repair_attnQueue (h row w : Nat) (s : State) : (s.repair h row w).attnQueue = s.attnQueue := attnQueue_of_sameBut (patrol_repair ..) rfl

@[simp] theorem settleCells_attnQueue (h : Nat) (s : State) : (s.settleCells h).attnQueue = s.attnQueue :=
  foldl_attnQueue (fun t n => by split <;> simp) _ s

@[simp] theorem stopHearths_attnQueue (step : Nat) (s : State) : (s.stopHearths step).attnQueue = s.attnQueue := by
  simp [State.stopHearths, State.showStoker]

@[simp] theorem freezeHearth_attnQueue (h cc : Nat) (s : State) : (s.freezeHearth h cc).attnQueue = s.attnQueue := by
  simp [State.freezeHearth, State.giveUpRunning, State.abandonNotice, State.originateSlip]

@[simp] theorem wordRead_attnQueue (h row w cc : Nat) (who : ReadBy) (s : State) : (s.wordRead h row w cc who).attnQueue = s.attnQueue := by
  simp [State.wordRead, State.inStokerSlot]

@[simp] theorem rowsRead_attnQueue (who : ReadBy) (h cc row n : Nat) (s : State) : (s.rowsRead who h cc row n).2.attnQueue = s.attnQueue := by
  induction n generalizing row s with
  | zero => rfl
  | succ n ih => simp [State.rowsRead, State.rowRead, ih]

@[simp] theorem gangRead_attnQueue (h row n : Nat) (s : State) : (s.gangRead h row n).2.attnQueue = s.attnQueue := rowsRead_attnQueue ..

end Sys2Proof.Proofs
end

section

/-! ## Attention requests are served (O22; 10 R259; 11 R263, R264, R269 to R279, R283, R285)

What a request computes are its output rows, 128 lanes each, and every lane poisoned where its tags are not the context's; what it does beside leaves the
other requests alone. A request is done when the hearth has accepted its rows. A scrub reads a line as its cells hold it. -/

namespace Sys2Proof.Proofs

open Sys2Proof.Machine Sys2Proof.Laws

/-! ### Computing a request leaves the queue alone (R270 to R276) -/

@[simp] theorem tenantRecord_attnQueue (die step : Nat) (d : AttnDesc) (s : State) : (s.tenantRecord die step d).attnQueue = s.attnQueue := by
  simp [State.tenantRecord]

@[simp] theorem newCtx_attnQueue (c tenant kvGen : Nat) (s : State) : (s.newCtx c tenant kvGen).attnQueue = s.attnQueue := by
  unfold State.newCtx
  extract_lets t
  have room : t.attnQueue = s.attnQueue := by
    simp only [t, ite_attnQueue]
    split
    · rfl
    · split <;> simp [State.tierReport]
  split
  · exact room
  · exact (mirrorCtx_attnQueue ..).trans room

@[simp] theorem moveEntry_attnQueue (c : Nat) (l : PageList) (src dst : Nat) (s : State) : (s.moveEntry c l src dst).attnQueue = s.attnQueue := by
  unfold State.moveEntry
  dsimp only
  repeat' split
  all_goals simp [State.poisonSlot]

@[simp] theorem commitList_attnQueue (c layer head f m : Nat) (nodes : List Nat) (s : State) :
    (s.commitList c layer head f m nodes).attnQueue = s.attnQueue := by
  unfold State.commitList
  dsimp only
  repeat' split
  all_goals simp

@[simp] theorem firstRequest_attnQueue (step : Nat) (d : AttnDesc) (s : State) : (s.firstRequest step d).attnQueue = s.attnQueue := by
  unfold State.firstRequest
  split <;> simp

theorem openPages_attnQueue {die : Nat} {d : AttnDesc} {l : List Nat} {s t : State} (opens : s.openPages die d l = some t) :
    t.attnQueue = s.attnQueue := by
  induction l generalizing s with
  | nil => exact congrArg (fun u : State => u.attnQueue) (Option.some.inj opens).symm
  | cons n l ih =>
    unfold State.openPages at opens
    dsimp only at opens
    split at opens
    · cases opens
    · split at opens
      · cases opens
      · split at opens
        · exact ih opens
        · split at opens
          · cases opens
          · exact (ih opens).trans (by simp)

@[simp] theorem writePage_attnQueue (step c f : Nat) (l : List (Nat × Option (List (Int × Nat)) × Option (List (Int × Nat)))) (s : State) :
    (s.writePage step c f l).attnQueue = s.attnQueue := by
  unfold State.writePage
  split <;> simp

@[simp] theorem writeEntries_attnQueue (step die h : Nat) (d : AttnDesc) (s : State) : (s.writeEntries step die h d).2.attnQueue = s.attnQueue := by
  unfold State.writeEntries
  split
  · rfl
  next t opens =>
    refine (foldl_attnQueue (fun u n => ?_) _ _).trans ?_
    · split <;> simp
    · simpa using openPages_attnQueue opens

@[simp] theorem seePage_attnQueue (step die : Nat) (d : AttnDesc) (n : Nat) (s : State) : (s.seePage step die d n).2.2.attnQueue = s.attnQueue := by
  unfold State.seePage
  dsimp only
  split <;> simp

@[simp] theorem seePages_attnQueue (step die : Nat) (d : AttnDesc) (l : List Nat) (s : State) : (s.seePages step die d l).2.2.attnQueue = s.attnQueue := by
  induction l generalizing s with
  | nil => rfl
  | cons n l ih => simp [State.seePages, ih]

@[simp] theorem attend_attnQueue (step die h : Nat) (d : AttnDesc) (s : State) : (s.attend step die h d).2.attnQueue = s.attnQueue := by
  simp [State.attend]

/-! ### Output rows (R273 to R275) -/

theorem length_invalidRow (poison : Bool) (seed : Nat) : (invalidRow poison seed).length = 128 := List.length_replicate ..

theorem length_outputRow (q : Query) (factor : Option (Int × Nat)) (see : Nat → Bool) (pages : List SeenPage) (seed : Nat) :
    (outputRow q factor see pages seed).length = 128 := by
  unfold outputRow
  dsimp only
  repeat' split
  all_goals simp [length_invalidRow]

/-- Rows of 128 lanes, as many as a request has. -/
def WholeRows (d : AttnDesc) (rows : List (List VCell)) : Prop := rows.length = d.rows ∧ ∀ l ∈ rows, l.length = 128

theorem wholeRows_replicate (d : AttnDesc) (seed : Nat) : WholeRows d (List.replicate d.rows (invalidRow true seed)) :=
  ⟨List.length_replicate .., fun l mem => by rw [List.eq_of_mem_replicate mem, length_invalidRow]⟩

theorem wholeRows_map (d : AttnDesc) {row : Nat → List VCell} (lanes : ∀ i, (row i).length = 128) : WholeRows d ((List.range d.rows).map row) := by
  refine ⟨by rw [List.length_map, List.length_range], fun l mem => ?_⟩
  obtain ⟨i, -, rfl⟩ := List.mem_map.mp mem
  exact lanes i

theorem wholeRows_ite {d : AttnDesc} (c : Prop) [Decidable c] {a b : List (List VCell) × State} (ha : WholeRows d a.1) (hb : WholeRows d b.1) :
    WholeRows d (if c then a else b).1 := by
  split <;> assumption

theorem attend_wholeRows (step die h : Nat) (d : AttnDesc) (s : State) : WholeRows d (s.attend step die h d).1 :=
  have poisoned : WholeRows d (List.replicate d.rows (invalidRow true s.free)) := wholeRows_replicate ..
  wholeRows_ite _ poisoned (wholeRows_ite _ poisoned (wholeRows_ite _ poisoned (wholeRows_map d fun _ => length_outputRow ..)))

/-- Tags that are not the context's poison every lane (R269, R285). -/
theorem attend_mismatch {s : State} {d : AttnDesc} (wrong : s.attnMismatch d = true) (step die h : Nat) :
    ∀ l ∈ (s.attend step die h d).1, ∀ c ∈ l, c.poison = true := by
  have rows : (s.attend step die h d).1 = List.replicate d.rows (invalidRow true s.free) := by
    unfold State.attend
    rw [if_pos wrong]
  intro l hl c hc
  rw [rows] at hl
  rw [List.eq_of_mem_replicate hl] at hc
  rw [List.eq_of_mem_replicate hc]

/-! ### ATTENTION_START (R270, R285; 10 R259) -/

/-- A request for a handle with no record opens one where it starts at token 0. -/
def opened (d : AttnDesc) (s : State) : State := if (s.ctx d.ctx).isNone && d.first == 0 then s.newCtx d.ctx d.tenant d.kvGen else s

@[simp] theorem opened_attnQueue (d : AttnDesc) (s : State) : (opened d s).attnQueue = s.attnQueue := by
  simp [opened]

theorem opened_pending (d : AttnDesc) (s : State) : (opened d s).pending = s.pending := by
  simp [opened]

theorem opened_eq {d : AttnDesc} {s : State} (goesOn : (s.ctx d.ctx).isSome = true ∨ d.first ≠ 0) : opened d s = s := by
  refine if_neg ?_
  obtain known | later := goesOn
  · simp [Option.isSome_iff_ne_none.mp known]
  · simp [later]

/-- A request is counted, and marked started. -/
def startedIn (r : AttnReq) (d : AttnDesc) (s : State) : State :=
  let s := s.bump 0x5408 0 0 1
  let s := if 8388608 < d.rows * (d.first + d.p) then s.bump 0x5408 0 1 1 else s
  { s with attnQueue := s.attnQueue.map fun e => if e = r then { e with started := true } else e }

theorem startedIn_attnQueue (r : AttnReq) (d : AttnDesc) (s : State) :
    (startedIn r d s).attnQueue = s.attnQueue.map fun e => if e = r then { e with started := true } else e := by
  simp [startedIn]

theorem startedIn_pending (r : AttnReq) (d : AttnDesc) (s : State) : (startedIn r d s).pending = s.pending := by
  simp [startedIn]

/-- A gang serves a request of a run that is no shadow's, and finds no wrong sum. -/
theorem serveRequest_own {s : State} {r : AttnReq} (own : s.isShadow r.step = false) (dn gang : Nat) :
    let d := attnDesc r.request
    let a := (opened d s).attend r.step dn r.hearth d
    let v := startedIn r d a.2
    s.serveRequest dn gang r none =
      (if v.attnLives r then v.sendRows r.hearth (v.hearth r.hearth).now (d.outRows (gangSource dn gang) r.step a.1) else v).relieve := by
  unfold State.serveRequest
  simp only [own, Bool.not_false, Bool.true_and, Bool.false_eq_true, ↓reduceIte]
  rfl

section Start

variable {s : State} {die : BitVec 1} {gang : BitVec 2}

theorem attentionStart_idle (idle : (s.reachAttn die.toNat).attnQueue.filter (AttnReq.ofGang die.toNat gang.toNat) = []) (found : AttnFaults) :
    exec (.attentionStart die gang found) s = .next (s.reachAttn die.toNat) := by
  refine congrArg Host.Outcome.next ?_
  dsimp only
  rw [idle]

variable {r : AttnReq} {rest : List AttnReq}
  (front : (s.reachAttn die.toNat).attnQueue.filter (AttnReq.ofGang die.toNat gang.toNat) = r :: rest)

include front

theorem attentionStart_started (started : r.started = true) (found : AttnFaults) :
    exec (.attentionStart die gang found) s = .next (s.reachAttn die.toNat) := by
  refine congrArg Host.Outcome.next ?_
  dsimp only
  rw [front]
  exact if_pos started

variable (waits : r.started = false)

include waits

theorem attentionStart_parity (u : Option Upset) (f : FlitFault) : exec (.attentionStart die gang ⟨u, some f⟩) s = .next
    (({ s.reachAttn die.toNat with attnQueue := (s.reachAttn die.toNat).attnQueue.erase r } : State).meshParity
      (routeOut r.hearth (stackEdge r.die)) f r.step) := by
  refine congrArg Host.Outcome.next ?_
  dsimp only
  rw [front]
  exact if_neg (Bool.eq_false_iff.mp waits)

theorem attentionStart_serves (u : Option Upset) : exec (.attentionStart die gang ⟨u, none⟩) s = .next
    ((s.reachAttn die.toNat).serveRequest die.toNat gang.toNat r u) := by
  refine congrArg Host.Outcome.next ?_
  dsimp only
  rw [front]
  exact if_neg (Bool.eq_false_iff.mp waits)

end Start

/-! ### ATTENTION_COMPLETE (R279) -/

section Complete

variable {s : State} {die : BitVec 1} {gang : BitVec 2} {r : AttnReq}
  (front : (s.attnQueue.find? fun r => r.ofGang die.toNat gang.toNat && r.started) = some r)

/-- A request leaves the queue: the longest latency is kept, and one beyond the bound is counted. -/
def requestDone (r : AttnReq) (ns : Nat) (s : State) : State :=
  let v := { s with attnQueue := s.attnQueue.erase r }.setOd 0x5408 0 3 (max (s.od 0x5408 0 3) ns)
  if r.bound < ns * 134400 then v.bump 0x5408 0 2 1 else v

include front

theorem attentionComplete_dead (dead : s.attnLives r = false) (ns : BitVec 32) (cc : Nat) :
    exec (.attentionComplete die gang ns cc) s = .next (requestDone r ns.toNat s) := by
  refine congrArg Host.Outcome.next ?_
  dsimp only
  rw [front]
  dsimp only
  simp only [dead, Bool.false_and, Bool.false_eq_true, ↓reduceIte]
  rfl

variable (lives : s.attnLives r = true)

include lives

theorem attentionComplete_waits {cc : Nat}
    (more : ((s.advance r.hearth cc).hearth r.hearth).accepted (gangSource die.toNat gang.toNat) = false) (ns : BitVec 32) :
    exec (.attentionComplete die gang ns cc) s = .next (s.advance r.hearth cc) := by
  refine congrArg Host.Outcome.next ?_
  dsimp only
  rw [front]
  dsimp only
  simp only [lives, more, Bool.not_false, Bool.and_self, ↓reduceIte]

theorem attentionComplete_done {cc : Nat}
    (all : ((s.advance r.hearth cc).hearth r.hearth).accepted (gangSource die.toNat gang.toNat) = true) (ns : BitVec 32) :
    exec (.attentionComplete die gang ns cc) s = .next ((requestDone r ns.toNat (s.advance r.hearth cc)).setFlag r.hearth r.event cc) := by
  refine congrArg Host.Outcome.next ?_
  dsimp only
  rw [front]
  dsimp only
  simp only [lives, all, Bool.not_true, Bool.and_false, Bool.false_eq_true, ↓reduceIte]
  rfl

end Complete

/-! ### STACK_SCRUB (R263, R264) -/

/-- What a line holds once errors have arisen in its cells: what reads worse stays. -/
theorem stackLine_upsetLine (n : Nat) (found : ReadState) (s : State) : (s.upsetLine n found).stackLine.get 0 n = (match found with
    | .clean => s.stackLine.get 0 n
    | .corrected => if s.stackLine.get 0 n = 0 then 3 else s.stackLine.get 0 n
    | .uncorrectable => if s.stackLine.get 0 n = 2 then 2 else 1) := by
  unfold State.upsetLine
  dsimp only
  cases found with
  | clean => rfl
  | corrected => dsimp only; split <;> simp
  | uncorrectable => dsimp only; split <;> simp [*]

/-- The last line of a stack ends a pass. -/
def passEnds (n : Nat) (s : State) : State := if n % 2 ^ 31 = 2 ^ 31 - 1 then s.bump 0x5408 0 9 1 else s

/-- The patrol has read a line. -/
def scrubbed (n : Nat) (s : State) : State :=
  if s.stackLine.get 0 n = 3 then { s.correctLine n with stackLine := s.stackLine.put 0 n 0 }
  else if s.stackLine.get 0 n = 1 then (s.stackError n 0).relieve else s

theorem exec_stackScrub (line : BitVec 32) (found : LineScrub) (s : State) : exec (.stackScrub line found) s = .next (passEnds line.toNat
    (scrubbed line.toNat ((found.others.foldl (fun s e => s.upsetLine e.1.toNat e.2) s).upsetLine line.toNat found.found))) := rfl

/-- Settles O22: a request's results are those of `State.attend`, which leaves the queue alone; the rest is by what its command finds. -/
theorem attentionRequestsAreServed : Obligations.AttentionRequestsAreServed := by
  intro s
  refine ⟨fun die gang r rest => ?start, fun die gang idle u b => attentionStart_idle idle _, fun die gang ns cc r front => ?complete,
    fun line found others => ?scrub⟩
  case start =>
    intro s' front d
    refine ⟨fun started u b => attentionStart_started front started _, attentionStart_parity front, fun waits own => ?serves⟩
    case serves =>
      have serves := attentionStart_serves front waits none
      rw [serveRequest_own own] at serves
      obtain ⟨count, lanes⟩ := attend_wholeRows r.step die.toNat r.hearth d (opened d s')
      refine ⟨_, startedIn r d ((opened d s').attend r.step die.toNat r.hearth d).2, count, lanes, ?pending, ?queue, fun wrong goesOn => ?poison,
        fun lives => ?lives, fun dead => ?dead⟩
      case pending =>
        calc (startedIn r d ((opened d s').attend r.step die.toNat r.hearth d).2).pending
          _ = ((opened d s').attend r.step die.toNat r.hearth d).2.pending := startedIn_pending ..
          _ = (opened d s').pending := (State_attend_keeps ..).1
          _ = s'.pending := opened_pending d s'
          _ = s.pending := (State_reachAttn_keeps ..).1
      case queue => rw [startedIn_attnQueue, attend_attnQueue, opened_attnQueue]
      case poison =>
        rw [opened_eq goesOn]
        exact attend_mismatch wrong r.step die.toNat r.hearth
      case lives => rw [serves, if_pos lives]
      case dead => rw [serves, if_neg (Bool.eq_false_iff.mp dead)]
  case complete =>
    exact ⟨fun lives => ⟨fun more => attentionComplete_waits front lives more ns, fun all => attentionComplete_done front lives all ns⟩,
      fun dead => attentionComplete_dead front dead ns cc⟩
  case scrub =>
    intro n u v pass
    have runs := exec_stackScrub line ⟨found, others⟩ s
    refine ⟨stackLine_upsetLine n found u, fun notBad notSoft => ?_, fun soft => ?_, fun bad => ?_⟩
    · rw [runs]
      exact congrArg (fun t => Host.Outcome.next (pass t)) ((if_neg notSoft).trans (if_neg notBad))
    · rw [runs]
      exact congrArg (fun t => Host.Outcome.next (pass t)) (if_pos soft)
    · rw [runs]
      exact congrArg (fun t => Host.Outcome.next (pass t)) ((if_neg (by rw [bad]; decide)).trans (if_pos bad))

end Sys2Proof.Proofs
end

section

/-! ## Tier actions (O20; 11 R280 to R283, R285; 07 R522)

A tier action is noted and told by the admitting part, waits where KVMOVE is clear and it would move the context, and else is carried out. -/

namespace Sys2Proof.Proofs

open Sys2Proof.Machine Sys2Proof.Laws

/-! ### Where an action is carried out (R281, R522) -/

section Where

variable {s : State} {n : Nat}

theorem tierAction_elsewhere (elsewhere : s.isAdmitting = false) (a n : Nat) : s.tierAction a n = s.tierHere a n := by
  simp [State.tierAction, elsewhere]

theorem tierAction_admitting (admits : s.isAdmitting = true) (a n : Nat) :
    s.tierAction a n = ((s.noteTier a n).notice 6 a n 0 [] (s.allParts.filter (· != s.endpoint))).tierHere a n := by
  simp [State.tierAction, admits]

theorem tierHere_enabled (on : s.enabled 10 = true) (a n : Nat) : s.tierHere a n = s.tierNow a n := by
  simp [State.tierHere, on]

theorem tierHere_waits {a : Nat} (off : s.enabled 10 = false) (due : s.moveDue a n = true) :
    s.tierHere a n = { s with tierWaits := s.tierWaits ++ [(a, n)] } := by
  simp [State.tierHere, off, due]

/-- DISCARD and RENEW are no moves between tiers. -/
theorem tierHere_noMove {a : Nat} (noMove : 3 < a) (n : Nat) (s : State) : s.tierHere a n = s.tierNow a n := by
  have stays : s.moveDue a n = false := by
    unfold State.moveDue
    split
    · rfl
    · simp [noMove]
  simp [State.tierHere, stays]

theorem exec_tier (c : BitVec 32) (a : Byte) (s : State) :
    exec (.tier c a) s = .next ((if a = 2 ∨ a = 4 then s.rebuild c.toNat else s).tierHere a.toNat c.toNat) := rfl

/-- A command of the admitting part and the notice that carries its action do the same elsewhere; a resume and a discard are told apart, as they take
the draft context along. -/
theorem exec_tier_either (elsewhere : s.isAdmitting = false) {c : BitVec 32} {a : Byte} (noDraft : ¬ (a = 2 ∨ a = 4)) {i : Instr}
    (runs : exec i s = .next (s.tierAction a.toNat c.toNat)) : ∀ j ∈ [i, .tier c a], exec j s = .next (s.tierHere a.toNat c.toNat) := by
  rw [tierAction_elsewhere elsewhere] at runs
  have told := exec_tier c a s
  rw [if_neg noDraft] at told
  simp [runs, told]

end Where

/-! ### What an action does with a context of a tier (Table 11-5) -/

section Acts

variable {s : State} {n : Nat} {x : Ctx} (held : s.ctx n = some x)

include held

theorem pauseHere_hot (hot : x.tier = .hot) : s.pauseHere n = ((s.setTier n .warm 2).bump 0x5407 0 1 1).relieve := by
  simp [State.pauseHere, held, hot]

theorem pauseHere_other (other : x.tier ≠ .hot) : s.pauseHere n = s := by
  simp [State.pauseHere, held, other]

theorem resumeHere_warm (warm : x.tier = .warm) (rests : x.move = none) :
    s.resumeHere n = ((s.setTier n .hot 1).bump 0x5407 0 2 1).tierReport n 0 := by
  simp [State.resumeHere, held, warm, rests]

theorem demoteHere_warm (warm : x.tier = .warm) (rests : x.move = none) :
    s.demoteHere n = if s.cellarRoom n = true then s.startDemote n else (s.discardCtx n).tierReport n 2 := by
  simp [State.demoteHere, held, warm, rests]

theorem demoteHere_other (other : x.tier ≠ .warm) : s.demoteHere n = s := by
  simp [State.demoteHere, held, other]

theorem renewHere_cellar (cellar : x.tier = .cellar) : s.renewHere n = s.modCtx n fun x => { x with since := s.elapsed } := by
  simp [State.renewHere, held, cellar]

/-! What would move it waits while KVMOVE is clear (R522). -/

theorem moveDue_pause (hot : x.tier = .hot) : s.moveDue 1 n = true := by
  simp [State.moveDue, held, hot]

theorem moveDue_resume (warm : x.tier = .warm) : s.moveDue 2 n = true := by
  simp [State.moveDue, held, warm]

theorem moveDue_demote (warm : x.tier = .warm) : s.moveDue 3 n = true := by
  simp [State.moveDue, held, warm]

end Acts

/-! ### Timers of the admitting part (R281, R282) -/

/-- A renewal is late where the CELLAR timer ends in this millisecond or earlier, or the context has no timer (Table 11-7). -/
theorem renewLate_iff {s : State} {n : Nat} : s.renewLate n = true ↔
    ∀ x, s.timer n = some x → x.tier = .cellar ∧ (x.since + s.ttl .cellar) / 1000000 ≤ s.elapsed / 1000000 := by
  unfold State.renewLate
  split <;> simp_all

theorem exec_tierPause (c : BitVec 32) (s : State) : exec (.tierPause c) s = .next (s.tierAction 1 c.toNat) := rfl

theorem exec_tierDemote (c : BitVec 32) (s : State) : exec (.tierDemote c) s = .next (s.tierAction 3 c.toNat) := rfl

theorem exec_tierResume (c : BitVec 32) (s : State) : exec (.tierResume c) s = .next (s.tierAction 2 c.toNat) := rfl

theorem exec_tierDiscard (c : BitVec 32) (s : State) : exec (.tierDiscard c) s = .next (s.tierAction 4 c.toNat) := rfl

theorem exec_tierRenew (c : BitVec 32) (s : State) :
    exec (.tierRenew c) s = .next (if (s.isAdmitting && s.renewLate c.toNat) = true then s else s.tierAction 5 c.toNat) := rfl

theorem exec_warmExpiry (c : BitVec 32) (others : Bool) (s : State) : exec (.warmExpiry ⟨c, others⟩) s = .next (
    if (!s.expired c.toNat .warm || ((s.ctx c.toNat).bind (·.move)).isSome) = true then s
    else (s.bump 0x5407 0 5 1).tierAction (if (others && s.od 0x5403 0 2 != 0) = true then 3 else 4) c.toNat) := rfl

theorem exec_cellarExpiry (c : BitVec 32) (s : State) : exec (.cellarExpiry c) s = .next (
    if (!s.expired c.toNat .cellar) = true then s else (s.bump 0x5407 0 5 1).tierAction 4 c.toNat) := rfl

section Elsewhere

variable {s : State} {c : BitVec 32} (elsewhere : s.isAdmitting = false)

include elsewhere

theorem exec_pause_either : ∀ i ∈ [Instr.tierPause c, .tier c 1], exec i s = .next (s.tierHere 1 c.toNat) :=
  exec_tier_either elsewhere (by decide) (exec_tierPause c s)

theorem exec_demote_either : ∀ i ∈ [Instr.tierDemote c, .tier c 3], exec i s = .next (s.tierHere 3 c.toNat) :=
  exec_tier_either elsewhere (by decide) (exec_tierDemote c s)

theorem exec_renew_either : ∀ i ∈ [Instr.tierRenew c, .tier c 5], exec i s = .next (s.tierHere 5 c.toNat) :=
  exec_tier_either elsewhere (by decide) (by rw [exec_tierRenew, elsewhere]; rfl)

theorem exec_resume_elsewhere : exec (.tierResume c) s = .next (s.tierHere 2 c.toNat) := by
  rw [exec_tierResume, tierAction_elsewhere elsewhere]

end Elsewhere

/-- Settles O20: where the action is carried out, then what it does with a context of the tier. -/
theorem tierActionsHere : Obligations.TierActionsHere := by
  intro s c
  refine ⟨fun elsewhere => ⟨fun on x held => ?acts, fun off x held => ?waits, fun x held cellar => ?renews, fun a draft => ?draft, ?discards⟩,
    fun admits => ?admits, fun ended others => ?warm, fun runs others => ?warmRuns, fun ended => ?cellar, fun runs => ?cellarRuns⟩
  case acts =>
    have now (a : Nat) : s.tierHere a c.toNat = s.tierNow a c.toNat := tierHere_enabled on a c.toNat
    have pause := exec_pause_either (c := c) elsewhere
    have demote := exec_demote_either (c := c) elsewhere
    rw [now] at pause demote
    refine ⟨fun hot => ?_, fun other => ?_, fun warm rests => ⟨?_, fun room => ?_, fun full => ?_⟩, fun other => ?_⟩
    · rw [← pauseHere_hot held hot]
      exact pause
    · exact fun i mem => (pause i mem).trans (congrArg _ (pauseHere_other held other))
    · rw [exec_resume_elsewhere elsewhere, now, ← resumeHere_warm held warm rests]
      rfl
    · exact fun i mem => (demote i mem).trans (congrArg _ ((demoteHere_warm held warm rests).trans (if_pos room)))
    · exact fun i mem => (demote i mem).trans (congrArg _ ((demoteHere_warm held warm rests).trans (if_neg (Bool.eq_false_iff.mp full))))
    · exact fun i mem => (demote i mem).trans (congrArg _ (demoteHere_other held other))
  case waits =>
    intro waits
    have wait {a : Nat} (due : s.moveDue a c.toNat = true) : s.tierHere a c.toNat = waits a := tierHere_waits off due
    refine ⟨fun hot => ?_, fun warm => ⟨?_, ?_⟩⟩
    · rw [← wait (moveDue_pause held hot)]
      exact exec_pause_either elsewhere
    · rw [← wait (moveDue_resume held warm)]
      exact exec_resume_elsewhere elsewhere
    · rw [← wait (moveDue_demote held warm)]
      exact exec_demote_either elsewhere
  case renews =>
    rw [← renewHere_cellar held cellar]
    exact fun i mem => (exec_renew_either elsewhere i mem).trans (congrArg _ (tierHere_noMove (by decide) c.toNat s))
  case draft => rw [exec_tier, if_pos draft]
  case discards =>
    rw [exec_tierDiscard, tierAction_elsewhere elsewhere, tierHere_noMove (by decide)]
    rfl
  case admits =>
    intro told
    have acts (a : Nat) : s.tierAction a c.toNat = told a := tierAction_admitting admits a c.toNat
    have renew := exec_tierRenew c s
    rw [admits, Bool.true_and, acts] at renew
    rw [exec_tierPause, exec_tierResume, exec_tierDemote, exec_tierDiscard, acts, acts, acts, acts]
    refine ⟨rfl, rfl, rfl, rfl, fun inTime => ?_, fun late => ?_⟩
    · rw [renew, if_neg (mt renewLate_iff.mp inTime)]
    · rw [renew, if_pos (renewLate_iff.mpr late)]
  case warm =>
    intro moves
    have runs := exec_warmExpiry c others s
    rw [ended, Bool.not_true, Bool.false_or] at runs
    refine ⟨fun moving => ?_, fun rests noRegion => ?_, fun rests every region => ?_⟩
    · rw [runs, if_pos moving]
    · rw [runs, if_neg rests, if_neg (by rcases noRegion with none | none <;> simp [none])]
    · rw [runs, if_neg rests, if_pos (by simp [every, region])]
  case warmRuns => rw [exec_warmExpiry, runs]; rfl
  case cellar => rw [exec_cellarExpiry, ended]; rfl
  case cellarRuns => rw [exec_cellarExpiry, runs]; rfl

end Sys2Proof.Proofs
end

section

/-! ## Tier moves and the data area (O21; 11 R262, R269, R284, R285, R287; 07 R522)

The statement comes down to its clause on a demotion of a context whose page list is empty, `EmptyDemotionCompletes`. That clause holds where the
table of contexts is in canonical form, and fails where it lists the context twice: the pool is then relieved by the second entry's tier. -/

namespace Sys2Proof.Proofs

open Sys2Proof.Machine Sys2Proof.Laws

/-! ### TIER_MOVE_COMPLETE (R522) -/

/-- A context stands HOT again with every page read back. -/
def restored (n : Nat) (s : State) : State :=
  let v := ((s.setTier n .hot 1).bump 0x5407 0 4 1).bump 0x5407 0 2 1
  ((v.modCtx n fun x => { x with move := none, cellar := 0, cellarAt := 0, slotLen := 0, used := v.elapsed }).tierReport n 0).relieve

section MoveComplete

variable {s : State} {c : BitVec 32} {slots : List (List Byte)}

theorem exec_tierMoveComplete (c : BitVec 32) (slots : List (List Byte)) (s : State) :
    exec (.tierMoveComplete c slots) s = execTierMoveComplete c slots s := rfl

theorem tierMoveComplete_waits (idle : s.enabled 10 = false ∨ s.ctx c.toNat = none) : exec (.tierMoveComplete c slots) s = .next s := by
  rw [exec_tierMoveComplete]
  rcases idle with off | unknown
  · simp [execTierMoveComplete, off]
  · simp [execTierMoveComplete, unknown]

variable (on : s.enabled 10 = true) {x : Ctx} (held : s.ctx c.toNat = some x)

include on held

theorem tierMoveComplete_rests (rests : x.move = none) : exec (.tierMoveComplete c slots) s = .next s := by
  rw [exec_tierMoveComplete]
  simp [execTierMoveComplete, on, held, rests]

variable {m : Move} (moves : x.move = some m)

include moves

theorem tierMoveComplete_demotion (down : m.kind = 1) : exec (.tierMoveComplete c slots) s = .next (s.endDemote c.toNat x m).relieve := by
  rw [exec_tierMoveComplete]
  simp [execTierMoveComplete, on, held, moves, down]

theorem tierMoveComplete_fails (back : m.kind ≠ 1) (fails : (s.restorePages c.toNat slots).1 = false) :
    exec (.tierMoveComplete c slots) s = .next ((s.restorePages c.toNat slots).2.cellarFailure c.toNat) := by
  rw [exec_tierMoveComplete]
  simp [execTierMoveComplete, on, held, moves, back, fails]

theorem tierMoveComplete_restores (back : m.kind ≠ 1) (taken : (s.restorePages c.toNat slots).1 = true) :
    exec (.tierMoveComplete c slots) s = .next (restored c.toNat (s.restorePages c.toNat slots).2) := by
  rw [exec_tierMoveComplete]
  simp [execTierMoveComplete, on, held, moves, back, taken, restored]

end MoveComplete

/-! ### The end of a demotion (R269, R284) -/

/-- A frame holds a page with the tags of a context (R269). -/
def Tagged (s : State) (n : Nat) (x : Ctx) (f : Nat) : Prop := ∃ p, s.page f = some p ∧ p.ctx = n ∧ p.tenant = x.tenant ∧ p.kvGen = x.kvGen

/-- The comparison before a page is read. -/
def tagsMatch (s : State) (n : Nat) (x : Ctx) (f : Nat) : Bool := (s.page f).any fun p => p.ctx == n && p.tenant == x.tenant && p.kvGen == x.kvGen

theorem tagsMatch_iff {s : State} {n : Nat} {x : Ctx} {f : Nat} : tagsMatch s n x f = true ↔ Tagged s n x f := by
  simp [tagsMatch, Tagged, Option.any_eq_true, and_assoc]

/-- A frame of other tags is found: it is recorded, and the context is LOST. -/
def foreignFound (n : Nat) (x : Ctx) (f : Nat) (s : State) : State :=
  ((s.bump 0x5408 0 4 1).raise { kind := .tenant, path := pathUnit (1 + s.frameDie f) 127 0 0, detail := x.tenant }).loseCtx n

/-- The pages of a context leave as CELLAR slots, side by side from an address on. -/
def slotsWritten (port : HostPort) (base : Nat) (x : Ctx) (s : State) : State :=
  (s.pagesOfCtx x).zipIdx.foldl (fun s p => s.emit (.hostWrite port (base + p.2 * x.slotLen) (p.1.slotOut (x.slotLen == 6208)))) s

/-- A context has its pages in CELLAR alone. -/
def cellared (n : Nat) (s : State) : State :=
  ((((s.freeFrames n).setTier n .cellar 3).bump 0x5407 0 3 1).reachTier n .cellar).modCtx n fun x =>
    { x with move := none, lists := x.lists.map fun l => { l with frames := [] } }

section EndDemote

variable {s : State} {n : Nat} {x y : Ctx} {m : Move}

theorem endDemote_foreign {f : Nat} (found : x.frameList.find? (fun f => !tagsMatch s n x f) = some f)
    (held : (foreignFound n x f s).ctx n = some y) (lost : y.tier = .lost) : s.endDemote n x m = (foreignFound n x f s).tierReport n 1 := by
  unfold State.endDemote
  dsimp only
  rw [show x.frameList.find? (fun f => !(s.page f).any fun p => p.ctx == n && p.tenant == x.tenant && p.kvGen == x.kvGen) = some f from found]
  dsimp only
  rw [show (((s.bump 0x5408 0 4 1).raise _).loseCtx n).ctx n = some y from held]
  exact if_pos lost

theorem endDemote_writes (own : ∀ f ∈ x.frameList, Tagged s n x f) (held : (s.readCtx x).ctx n = some y) (reads : y.tier ≠ .lost)
    (stays : m.resume = false) (kept : m.discard = false) : s.endDemote n x m =
      cellared n (slotsWritten (if s.od 0x5403 0 0 = 0 then .a else .b) (s.od 0x5403 0 1 + x.cellarAt) x (s.readCtx x)) := by
  have no_foreign : x.frameList.find? (fun f => !tagsMatch s n x f) = none :=
    List.find?_eq_none.mpr fun f mem => by simpa using tagsMatch_iff.mpr (own f mem)
  unfold State.endDemote
  dsimp only
  rw [show x.frameList.find? (fun f => !(s.page f).any fun p => p.ctx == n && p.tenant == x.tenant && p.kvGen == x.kvGen) = none from no_foreign]
  dsimp only
  rw [show (x.frameList.foldl (fun s f => (s.readFrame f 0).2) s).ctx n = some y from held]
  dsimp only
  rw [if_neg reads, kept, stays]
  rfl

/-- The reads of its lines leave the region where it is. -/
theorem readCtx_cellarBase (x : Ctx) (s : State) : (s.readCtx x).od 0x5403 0 1 = s.od 0x5403 0 1 :=
  (upkeeps_readCtx x s).od 0x5403 0 1 (by decide) (by decide) (by decide) (by decide)

/-- Writes to host memory leave the region where it is: each may read its base anew. -/
theorem foldl_hostWrite_base (port : HostPort) (x : Ctx) (l : List (Page × Nat)) {base : Nat} {u : State} (there : u.od 0x5403 0 1 = base) :
    l.foldl (fun s p => s.emit (.hostWrite port (s.od 0x5403 0 1 + x.cellarAt + p.2 * x.slotLen) (p.1.slotOut (x.slotLen == 6208)))) u =
      l.foldl (fun s p => s.emit (.hostWrite port (base + x.cellarAt + p.2 * x.slotLen) (p.1.slotOut (x.slotLen == 6208)))) u := by
  induction l generalizing u with
  | nil => rfl
  | cons p l ih =>
    rw [List.foldl_cons, List.foldl_cons, there]
    exact ih there

end EndDemote

/-! ### DATA_AREA_SIZE_WRITE (R262, R287) -/

theorem exec_dataAreaSizeWrite (rq : Requester) (mib : BitVec 32) (s : State) : exec (.dataAreaSizeWrite rq mib) s =
    .next (s.access rq .write 0x5401 0 (leBytes 4 mib.toNat) (State.applyDataArea mib.toNat)) := rfl

section DataArea

variable {s : State} {mib : Nat}

theorem applyDataArea_barred (barred : s.imageState = false) : s.applyDataArea mib = (codeState, s) := by
  simp [State.applyDataArea, barred, refuse]

theorem applyDataArea_range (may : s.imageState = true) (out : mib < 1024 ∨ 16384 < mib ∨ mib % 1024 ≠ 0) :
    s.applyDataArea mib = (codeRange, s) := by
  unfold State.applyDataArea
  rw [if_neg (by simp [may]), if_pos out]
  rfl

theorem applyDataArea_takes (may : s.imageState = true) (low : 1024 ≤ mib) (high : mib ≤ 16384) (whole : mib % 1024 = 0) :
    s.applyDataArea mib = (0, ({ s with ctxs := [], pages := [] }.bump 0x5407 0 6 s.ctxCount).setOd 0x5401 0 0 mib) := by
  unfold State.applyDataArea
  rw [if_neg (by simp [may]), if_neg (by omega)]

end DataArea

/-! ### What the statement comes down to -/

/-- A demotion of a context whose page list is empty leaves it in CELLAR with no move and no page. -/
def EmptyDemotionCompletes (s : State) : Prop :=
  ∀ (c : BitVec 32) (slots : List (List Byte)) (x : Ctx) (m : Move), s.enabled 10 = true → s.ctx c.toNat = some x → x.move = some m →
    m.kind = 1 → m.resume = false → m.discard = false → x.lists = [] → x.tier ≠ .lost →
    Completes (.tierMoveComplete c slots) s fun t =>
      t.pending = s.pending ∧ (∃ y, t.ctx c.toNat = some y ∧ y.tier = .cellar ∧ y.move = none ∧ y.cellarAt = x.cellarAt) ∧
      ∀ f p, t.page f = some p → p.ctx ≠ c.toNat

/-- All other clauses of the statement hold in every state. -/
theorem tierMovesAndDataArea_iff : Obligations.TierMovesAndDataArea ↔ ∀ s, EmptyDemotionCompletes s := by
  refine ⟨fun holds s c slots x m on held moves => ((((holds s).1 c slots).2 on x held).2 m moves).2.1, fun empties s => ?_⟩
  refine ⟨fun c slots => ⟨tierMoveComplete_waits, fun on x held => ⟨tierMoveComplete_rests on held, fun m moves => ?_⟩⟩,
    fun rq mib ok => ⟨fun may low high whole => ?takes, fun may out => ?range, fun barred => ?barred⟩⟩
  case takes => exact write_taken (exec_dataAreaSizeWrite rq mib s) ok (applyDataArea_takes may low high whole)
  case range => exact write_answers (exec_dataAreaSizeWrite rq mib s) ok (by decide) (applyDataArea_range may out)
  case barred => exact write_answers (exec_dataAreaSizeWrite rq mib s) ok (by decide) (applyDataArea_barred barred)
  refine ⟨fun down stays kept own y still reads => ?writes, empties s c slots x m on held moves, fun f rest down frames foreign => ?foreign,
    tierMoveComplete_fails on held moves, tierMoveComplete_restores on held moves⟩
  case writes =>
    rw [tierMoveComplete_demotion on held moves down, endDemote_writes own still reads stays kept]
    exact congrArg (fun t => Host.Outcome.next (cellared c.toNat t).relieve) (foldl_hostWrite_base _ x _ (readCtx_cellarBase x s)).symm
  case foreign =>
    intro v y gone lost
    have found : x.frameList.find? (fun f => !tagsMatch s c.toNat x f) = some f := by
      rw [frames]
      exact List.find?_cons_of_pos (by simpa using mt tagsMatch_iff.mp foreign)
    rw [tierMoveComplete_demotion on held moves down, endDemote_foreign found gone lost]
    rfl

/-! ### A table in canonical form -/

/-- A key of a rising table has one entry. -/
theorem get_of_mem {α : Type} {d v : α} {k : Nat} {m : Tab α} (rises : Tab.rising none m = true) (listed : (k, v) ∈ m) : Tab.get d k m = v := by
  have above {l : Nat} {m : Tab α} (rises : Tab.rising (some l) m = true) : ∀ e ∈ m, l < e.1 := by
    induction m generalizing l with
    | nil => simp
    | cons e m ih =>
      simp only [Tab.rising, Bool.and_eq_true, decide_eq_true_eq] at rises
      rintro e' (_ | ⟨_, mem⟩)
      · exact rises.1
      · exact rises.1.trans (ih rises.2 e' mem)
  induction m with
  | nil => cases listed
  | cons e m ih =>
    simp only [Tab.rising, Bool.true_and] at rises
    rcases listed with _ | ⟨_, mem⟩
    · simp [Tab.get]
    · rw [Tab.get, if_neg (above rises _ mem).ne']
      exact ih (rising_lower rises) mem

theorem rising_put {α : Type} [DecidableEq α] (d v : α) (k : Nat) {m : Tab α} (rises : Tab.rising none m = true) :
    Tab.rising none (Tab.put d k v m) = true := by
  unfold Tab.put
  split
  · exact rising_del rises
  · exact rising_ins v (by simp) rises

/-- The least recently used context of a tier is an entry of that tier. -/
theorem lruCtx_listed {s : State} {t : Tier} {ok : Ctx → Bool} {c : Nat} (found : s.lruCtx t ok = some c) :
    ∃ x, (c, some x) ∈ s.ctxs ∧ x.tier = t := by
  obtain ⟨b, best, rfl⟩ := Option.map_eq_some_iff.mp found
  refine List.foldlRecOn s.ctxs _ (motive := fun best => ∀ b : Nat × Nat, best = some b → ∃ x, (b.1, some x) ∈ s.ctxs ∧ x.tier = t)
    (by simp) ?_ b best
  rintro best ih ⟨k, v⟩ mem b
  cases v with
  | none => exact ih b
  | some x =>
    dsimp only
    split
    next fits =>
      have taken : some (k, x.used) = some b → ∃ x, (b.1, some x) ∈ s.ctxs ∧ x.tier = t := fun eq => by
        cases eq
        exact ⟨x, mem, fits.1⟩
      split
      · exact taken
      · split
        · exact taken
        · exact ih b
    next => exact ih b

/-! ### A context without pages -/

/-- Each context has one entry; that of context `n` satisfies `P`, and no page is its own. -/
structure Pageless (n : Nat) (P : Ctx → Prop) (s : State) : Prop where
  rises : Tab.rising none s.ctxs = true
  held : ∃ y, s.ctx n = some y ∧ P y
  free : ∀ f p, (f, some p) ∈ s.pages → p.ctx ≠ n

section Pageless

variable {n : Nat} {P : Ctx → Prop} {s t : State}

theorem Pageless.congr (h : Pageless n P s) (ctxs : t.ctxs = s.ctxs) (pages : t.pages = s.pages) : Pageless n P t where
  rises := ctxs ▸ h.rises
  held := by
    unfold State.ctx
    rw [ctxs]
    exact h.held
  free := pages ▸ h.free

theorem Pageless.memory (h : Pageless n P s) (same : t.toMemoryPart = s.toMemoryPart) : Pageless n P t :=
  h.congr (congrArg MemoryPart.ctxs same) (congrArg MemoryPart.pages same)

/-- An entry of another context than one that `P` excludes. -/
theorem Pageless.ne_of_not (h : Pageless n P s) {c : Nat} {x : Ctx} (listed : (c, some x) ∈ s.ctxs) (other : ¬ P x) : n ≠ c := by
  rintro rfl
  obtain ⟨y, held, fits⟩ := h.held
  cases held.symm.trans (get_of_mem h.rises listed)
  exact other fits

theorem Pageless.setCtx_ne (h : Pageless n P s) {c : Nat} (other : n ≠ c) (x : Ctx) : Pageless n P (s.setCtx c x) where
  rises := rising_put none (some x) c h.rises
  held := by simpa only [State.ctx, State.setCtx, get_put_ne _ _ _ other] using h.held
  free := h.free

theorem Pageless.modCtx_ne (h : Pageless n P s) {c : Nat} (other : n ≠ c) (f : Ctx → Ctx) : Pageless n P (s.modCtx c f) := by
  unfold State.modCtx
  split
  · exact h.setCtx_ne other _
  · exact h

/-- A change of the context's own entry. -/
theorem Pageless.modCtx_own (h : Pageless n P s) {f : Ctx → Ctx} {Q : Ctx → Prop} (turns : ∀ y, P y → Q (f y)) :
    Pageless n Q (s.modCtx n f) := by
  obtain ⟨y, held, fits⟩ := h.held
  unfold State.modCtx
  rw [held]
  dsimp only
  exact ⟨rising_put none (some (f y)) n h.rises, ⟨f y, get_put_same none (some (f y)) n s.ctxs, turns y fits⟩, h.free⟩

theorem Pageless.discardCtx_ne (h : Pageless n P s) {c : Nat} (other : n ≠ c) : Pageless n P (s.discardCtx c) := by
  unfold State.discardCtx
  split
  · exact h
  · refine Pageless.congr (s := { s.freeFrames c with ctxs := s.ctxs.put none c none }) ⟨rising_put none none c h.rises, ?_, ?_⟩ rfl rfl
    · simpa only [State.ctx, get_put_ne _ _ _ other] using h.held
    · exact fun f p mem => h.free f p (List.mem_of_mem_filter mem)

theorem Pageless.markPages (h : Pageless n P s) (c code : Nat) : Pageless n P (s.markPages c code) := by
  refine ⟨h.rises, h.held, fun f p mem => ?_⟩
  obtain ⟨⟨g, q⟩, listed, eq⟩ := List.mem_map.mp mem
  cases q with
  | none => cases eq
  | some q =>
    have own := h.free g q listed
    dsimp only at eq
    split at eq <;> cases eq <;> exact own

theorem mirrorCtx_memoryPart (c : Nat) (s : State) : (s.mirrorCtx c).toMemoryPart = s.toMemoryPart := by
  have sent (body : List Byte) (t : Nat) : (s.sendMirror 3 body t).2.toMemoryPart = s.toMemoryPart :=
    (patrol_mirrorTo 3 body t s).2 .memory rfl
  unfold State.mirrorCtx
  split
  · unfold State.mirrorToTwin
    split
    · dsimp only
      split
      · exact sent ..
      · exact sent ..
    · rfl
  · rfl

theorem Pageless.reachTier (h : Pageless n P s) (c : Nat) (t : Tier) : Pageless n P (s.reachTier c t) := by
  unfold State.reachTier
  split
  · split
    · exact h.congr rfl rfl
    · exact h
  · exact h

/-- A context that is not WARM keeps its entry while the pool is relieved (R283). -/
theorem Pageless.relievePool (h : Pageless n P s) (notWarm : ∀ y, P y → y.tier ≠ .warm) (fuel : Nat) : Pageless n P (s.relievePool fuel) := by
  induction fuel generalizing s with
  | zero => exact h
  | succ fuel ih =>
    unfold State.relievePool
    split
    · exact h
    · split
      · exact h
      next c found =>
        obtain ⟨x, listed, warm⟩ := lruCtx_listed found
        have other : n ≠ c := h.ne_of_not listed fun fits => notWarm x fits warm
        refine ih ?_
        split
        · exact h.modCtx_ne other _
        · exact (h.discardCtx_ne other).memory ((sendsOnly_sendEach ..).parts.2 .memory rfl)

end Pageless

/-- In CELLAR at a place of the region, without a move. -/
def InCellar (place : Nat) (y : Ctx) : Prop := y.tier = .cellar ∧ y.move = none ∧ y.cellarAt = place

/-- The frames are free and the tier is CELLAR (R284). -/
theorem pageless_cellared {n : Nat} {x : Ctx} {s : State} (rises : Tab.rising none s.ctxs = true) (held : s.ctx n = some x) :
    Pageless n (InCellar x.cellarAt) (cellared n s) := by
  have freed : Pageless n (· = x) (s.freeFrames n) :=
    ⟨rises, ⟨x, held, rfl⟩, fun f p mem => by simpa using (List.mem_filter.mp mem).2⟩
  have moved := freed.modCtx_own (f := fun y => { y with tier := .cellar, since := s.elapsed })
    (Q := fun y => y.tier = .cellar ∧ y.cellarAt = x.cellarAt) (by rintro _ rfl; exact ⟨rfl, rfl⟩)
  have told := (moved.markPages n 3).memory (mirrorCtx_memoryPart n _)
  have counted := told.congr (t := ((s.freeFrames n).setTier n .cellar 3).bump 0x5407 0 3 1) rfl rfl
  refine (counted.reachTier n .cellar).modCtx_own ?_
  rintro y ⟨tier, place⟩
  exact ⟨tier, rfl, place⟩

/-- In canonical form the table lists each context once, and the clause holds. -/
theorem emptyDemotionCompletes_of_rising {s : State} (rises : Tab.rising none s.ctxs = true) : EmptyDemotionCompletes s := by
  intro c slots x m on held moves down stays kept empty here
  have noFrames : x.frameList = [] := by simp [Ctx.frameList, empty]
  have reads : s.readCtx x = s := by simp [State.readCtx, noFrames]
  have writes (port : HostPort) (base : Nat) : slotsWritten port base x s = s := by simp [slotsWritten, State.pagesOfCtx, noFrames]
  have ends : s.endDemote c.toNat x m = cellared c.toNat s := by
    rw [endDemote_writes (by simp [noFrames]) (by rwa [reads]) here stays kept, reads, writes]
  refine ⟨_, tierMoveComplete_demotion on held moves down, ?_⟩
  rw [ends]
  have cellar := (pageless_cellared rises held).relievePool (fun y inCellar => by simp [inCellar.1]) (cellared c.toNat s).ctxs.length
  refine ⟨?_, cellar.held, fun f p found => cellar.free f p (mem_of_get found nofun)⟩
  simp [cellared]

/-! ### A table that lists a context twice -/

/-- Context 7 without pages, WARM, with or without a move. -/
def emptyWarm (move : Option Move) : Ctx :=
  { tenant := 1, kvGen := 0, committed := 0, tier := .warm, lists := [], since := 0, used := 0, move := move, cellar := 0,
    cellarAt := 0, slotLen := 0 }

/-- A part with KVMOVE set and a low-water mark above every pool, whose table lists context 7 twice: on its way to CELLAR, and WARM. -/
def listedTwice : State :=
  { (State.reset.setOd 0x2120 0 0 (2 ^ 10)).setOd 0x5400 3 0 (2 ^ 25) with
    ctxs := [(7, some (emptyWarm (some { kind := 1, resume := false, discard := false }))), (7, some (emptyWarm none))] }

/-- The pool is relieved by the second entry, which discards the context that has just come to CELLAR. -/
theorem listedTwice_discards : (match exec (.tierMoveComplete 7 []) listedTwice with
    | .next t => (t.ctx 7).isNone
    | _ => false) = true := by decide +kernel

/-- Refutes O21: the state is any, so its table of contexts may list one twice; of a context with an empty page list, the demotion that completes is
then followed by its discard. -/
theorem not_tierMovesAndDataArea : ¬ Obligations.TierMovesAndDataArea := by
  intro holds
  obtain ⟨t, runs, -, ⟨y, held, -⟩, -⟩ :=
    tierMovesAndDataArea_iff.mp holds listedTwice 7 [] _ _ (by decide +kernel) rfl rfl rfl rfl rfl rfl (by decide)
  have discards := listedTwice_discards
  rw [runs] at discards
  have gone : (t.ctx 7).isNone = true := discards
  rw [show t.ctx 7 = some y from held] at gone
  cases gone

end Sys2Proof.Proofs
end

section

/-! ## What stays on is legal after every step (O60) -/

namespace Sys2Proof.Proofs

open Sys2Proof.Machine Sys2Proof.Laws

/-- Settles O60: the command in front keeps what stays on legal (`exec_completes`), and the idle tick touches none of it. -/
theorem stepsKeepWhatStaysOnLegal : Obligations.StepsKeepWhatStaysOnLegal := by
  intro s t legal steps
  cases queue : s.pending with
  | nil =>
    rw [step_of_pending_nil queue] at steps
    cases steps
    exact legal
  | cons c rest =>
    rw [step_of_pending_cons queue] at steps
    obtain ⟨u, runs, _, keeps⟩ := exec_completes c { s with pending := rest }
    rw [steps] at runs
    cases runs
    exact keeps legal

end Sys2Proof.Proofs
end

section

/-! ## The test port (O1; 22 R519)

An instruction acts as itself where the part is not ready to serve or the instruction is one of the first three, and as BYPASS otherwise. -/

namespace Sys2Proof.Proofs

open Sys2Proof.Machine Sys2Proof.Laws

theorem tapLoads_on {s : State} (on : s.mainState ≠ 0) (i : Nat) :
    s.tapLoads i = { s with tapInstr := s.tapActs i }.emit (.tap (s.tapActs i) (tapCaptured (s.tapActs i))) := if_neg on

theorem tapActs_itself {s : State} {i : Nat} (itself : s.ready = false ∨ i ≤ 2) : s.tapActs i = i := by
  unfold State.tapActs
  obtain unready | low := itself
  · simp [unready]
  · simp [low]

theorem tapActs_bypass {s : State} {i : Nat} (ready : s.ready = true) (high : 2 < i) : s.tapActs i = 0 := by
  simp [State.tapActs, ready, high]

theorem tapLoads_itself {s : State} (on : s.mainState ≠ 0) {i : Nat} (itself : s.ready = false ∨ i ≤ 2) :
    s.tapLoads i = { s with tapInstr := i }.emit (.tap i (tapCaptured i)) := by
  rw [tapLoads_on on, tapActs_itself itself]

theorem tapLoads_bypass {s : State} (on : s.mainState ≠ 0) (ready : s.ready = true) {i : Nat} (high : 2 < i) :
    s.tapLoads i = { s with tapInstr := 0 }.emit (.tap 0 [false]) := by
  rw [tapLoads_on on, tapActs_bypass ready high]
  rfl

/-- Settles O1: each of the eight commands loads its instruction, which acts as itself or as BYPASS. -/
theorem testPortInstructions : Obligations.TestPortInstructions := by
  intro s
  refine ⟨fun on => ⟨congrArg _ (tapLoads_itself on (.inr ?_)), congrArg _ (tapLoads_itself on (.inr ?_)), congrArg _ (tapLoads_itself on (.inr ?_)),
    fun unready => ?unready, fun ready => ?ready⟩, rfl⟩
  case unready =>
    have itself (i : Nat) := congrArg (Host.Outcome.next (φ := Fault) (ρ := Refusal)) (tapLoads_itself on (i := i) (.inl unready))
    exact ⟨itself 3, itself 4, itself 5, itself 6, itself 7⟩
  case ready =>
    have bypass {i : Nat} (high : 2 < i) := congrArg (Host.Outcome.next (φ := Fault) (ρ := Refusal)) (tapLoads_bypass on ready high)
    intro c member
    simp only [List.mem_cons, List.not_mem_nil, or_false] at member
    obtain rfl | rfl | rfl | rfl | rfl := member
    · exact bypass (i := 3) (by omega)
    · exact bypass (i := 4) (by omega)
    · exact bypass (i := 5) (by omega)
    · exact bypass (i := 6) (by omega)
    · exact bypass (i := 7) (by omega)
  all_goals omega

end Sys2Proof.Proofs
end

section

/-! ## The values after reset (O58) -/

namespace Sys2Proof.Proofs

open Sys2Proof.Machine Sys2Proof.Laws

/-- An object that nothing has written since reset reads as its default. -/
theorem od_reset (x y f : Nat) : State.reset.od x y f = odDefault x y f := rfl

/-- Settles O58: the fields are those of `State.reset`, and the objects read as their defaults. -/
theorem resetLeavesTheSpecsValues : Obligations.ResetLeavesTheSpecsValues := by
  refine ⟨rfl, rfl, rfl, rfl, ?mainOff, rfl, rfl, rfl, rfl, rfl, rfl, rfl, rfl, rfl, rfl, by decide, ?missLimit, ?fallback, ?delivery⟩
  case mainOff => exact (od_reset ..).trans (by decide)
  case missLimit => exact (od_reset ..).trans (by decide)
  case fallback => exact (od_reset ..).trans (by decide)
  case delivery => decide

end Sys2Proof.Proofs
end

section

/-! ## The rails rise and fall (O2, O3; 22 R510 to R512; 17 R406, R411)

A command of the sequencer has an equation for the situation in which it acts. `powerOff` is the one way down that the island takes of itself or by
command. -/

namespace Sys2Proof.Proofs

open Sys2Proof.Machine Sys2Proof.Laws

/-! ### Up (R510) -/

section Rise

variable {s : State} {n : BitVec 3} (runs : s.islandRun = 1) (falls : s.seq.down = none)

include runs falls

/-- What POWER_GOOD, its timeout and the release of the reset wait for. -/
theorem sequences (starts : s.mainState = 1) (held : s.seq.released = false) : s.islandUp = true ∧ s.sequencing = true := by
  simp [State.islandUp, State.sequencing, runs, falls, starts, held]

section Good

variable (starts : s.mainState = 1) (held : s.seq.released = false) (on : bit s.seq.enables n.toNat = true)
  (notGood : bit s.seq.goods n.toNat = false)

include starts held notGood

theorem powerGoodTimeout_fails (top : topEnable s.seq.enables = some n.toNat) (late : s.seq.stepAt + 3000000 ≤ s.elapsed) :
    exec (.powerGoodTimeout n) s =
      .next ({ s.railAlarm n.toNat with seq := { s.seq with fails := s.seq.fails + 1 } }.startPowerDown true (decide (s.seq.fails + 1 < 3))) := by
  obtain ⟨up, sequencing⟩ := sequences runs falls starts held
  exact congrArg _ (if_neg (by simp [up, sequencing, top, notGood, late]))

include on

theorem powerGood_raises (low : n.toNat < 5) : exec (.powerGood n) s =
    .next ({ s with seq := { s.seq with goods := setBit s.seq.goods n.toNat true, enables := setBit s.seq.enables (n.toNat + 1) true,
                                        stepAt := s.elapsed } }.emit (.rail (n.toNat + 1) true)) := by
  obtain ⟨up, sequencing⟩ := sequences runs falls starts held
  refine congrArg _ ((if_neg ?_).trans (if_neg low.ne))
  simp [up, sequencing, on, notGood, low.le]

theorem powerGood_last (last : n.toNat = 5) :
    exec (.powerGood n) s = .next { s with seq := { s.seq with goods := setBit s.seq.goods 5 true, stepAt := s.elapsed } } := by
  obtain ⟨up, sequencing⟩ := sequences runs falls starts held
  rw [last] at on notGood
  refine congrArg _ ((if_neg ?_).trans ((if_pos last).trans (by rw [last])))
  simp [up, sequencing, on, notGood, last]

end Good

theorem mainSideResetReleased_releases (starts : s.mainState = 1) (held : s.seq.released = false) (good : s.seq.goods = 63)
    (settled : s.seq.stepAt + 4000000 ≤ s.elapsed) : exec .mainSideResetReleased s =
      .next ({ s with seq := { s.seq with released := true, fails := 0 }, refSince := s.elapsed }.setOd 0x2100 2 0 1) := by
  obtain ⟨up, sequencing⟩ := sequences runs falls starts held
  exact congrArg _ (if_neg (by simp [up, sequencing, good, settled]))

theorem powerUpRetry_starts (off : s.mainState = 0) (down : s.seq.enables = 0) (again : s.seq.again = true)
    (waited : s.seq.stepAt + 1000000000 ≤ s.elapsed) : exec .powerUpRetry s = .next s.startSequence :=
  congrArg _ (if_pos (by simp [State.islandUp, runs, falls, off, down, again, waited]))

end Rise

theorem sameBut_withSeq {l : List Part} (island : l.contains .island = true) (stays : l.contains .alwaysOn = true) {s t : State} (quiet : Quiet s t)
    (q : Sequencer) : SameBut l s { t with seq := q } := by
  refine sameBut_trans (sameBut_quiet l island quiet) ⟨rfl, fun p other => ?_⟩
  cases p with
  | alwaysOn => exact (Bool.false_ne_true (other.symm.trans stays)).elim
  | _ => rfl

/-- Settles O2: `powerGood_raises`, `powerGood_last`, `powerGoodTimeout_fails`, `mainSideResetReleased_releases` and `powerUpRetry_starts` say what is
done while the sequencer runs. -/
theorem railsRiseInOrder : Obligations.RailsRiseInOrder := by
  intro s n runs falls
  refine ⟨fun starts held => ⟨fun on notGood => ⟨powerGood_raises runs falls starts held on notGood, powerGood_last runs falls starts held on notGood,
    fun top late => ?timeout⟩, mainSideResetReleased_releases runs falls starts held⟩, fun off down again waited => ?retry⟩
  case timeout =>
    refine ⟨_, powerGoodTimeout_fails runs falls starts held notGood top late, ?_, sameBut_withSeq rfl rfl (quiet_raiseIsland ..) _⟩
    have now : (s.railAlarm n.toNat).elapsed = s.elapsed := congrArg (fun c => c.tick * 10) (quiet_raiseIsland ..).clock
    simp only [State.startPowerDown, ← now, held]
    rfl
  case retry =>
    simp only [powerUpRetry_starts runs falls off down again waited, State.startSequence, falls]

/-! ### Down (R406, R411, R511, R512) -/

section Fall

variable {s : State}

theorem powerDownStep_lowers {f : Bool} {k : Nat} (falls : s.seq.down = some f) (top : topEnable s.seq.enables = some k)
    (more : setBit s.seq.enables k false ≠ 0) :
    exec .powerDownStep s = .next ({ s with seq := railFallen k s.elapsed s.seq }.emit (.rail k false)) := by
  change execPowerDownStep s = _
  unfold execPowerDownStep
  rw [falls, top]
  exact congrArg _ (if_neg more)

theorem powerDownStep_last {f : Bool} {k : Nat} (falls : s.seq.down = some f) (top : topEnable s.seq.enables = some k)
    (last : setBit s.seq.enables k false = 0) : exec .powerDownStep s =
      .next { ({ s with seq := railFallen k s.elapsed s.seq }.emit (.rail k false)).mainSideReset true 0 with
        seq := { railFallen k s.elapsed s.seq with down := none } } := by
  change execPowerDownStep s = _
  unfold execPowerDownStep
  rw [falls, top]
  exact congrArg _ (if_pos last)

theorem quiet_sendOff (forced : Bool) (s : State) : Quiet s (s.sendOff forced) := quiet_sendToMain ..

theorem sameBut_startPowerDown {l : List Part} (island : l.contains .island = true) (stays : l.contains .alwaysOn = true) (forced again : Bool)
    (s : State) : SameBut l s (s.startPowerDown forced again) := sameBut_withSeq island stays (.refl s) _

theorem sameBut_powerOff (forced : Bool) (s : State) : SameBut [.island, .alwaysOn] s (s.powerOff forced) := by
  unfold State.powerOff
  have ends : SameBut [.island, .alwaysOn] s (if s.od 0x1300 1 cmdState = 1 then s.endCommand 0x1300 1 0 else s) := by
    split
    · exact ⟨rfl, fun p _ => by cases p <;> rfl⟩
    · exact sameBut_refl ..
  exact sameBut_trans ends (sameBut_trans (sameBut_quiet _ rfl (quiet_sendOff ..)) (sameBut_startPowerDown rfl rfl ..))

theorem powerOff_seq (forced : Bool) (s : State) :
    (s.powerOff forced).seq = { s.seq with down := some forced, again := false, stepAt := s.elapsed, released := false } := by
  have keeps (t : State) : (t.sendOff forced).seq = t.seq ∧ (t.sendOff forced).elapsed = t.elapsed :=
    ⟨congrArg AlwaysOnPart.seq (quiet_sendOff forced t).alwaysOn, congrArg (fun c => c.tick * 10) (quiet_sendOff forced t).clock⟩
  unfold State.powerOff
  simp only [State.startPowerDown, keeps]
  split <;> rfl

theorem tempTrip_powersOff {n : BitVec 16} (runs : s.islandRun = 1) (sensor : n.toNat ≤ 141) (on : s.mainState ≠ 0) :
    exec (.tempTrip n) s = .next (s.powerOff true) := congrArg _ (if_neg (by simp [State.islandUp, runs, sensor, on]))

theorem orderlyOffDrained_powersOff (drains : s.mainState = 5) (falls : s.seq.down = none) (noSteep : s.steep = none)
    (role : s.od 0x4100 1 0 = 3) : exec .orderlyOffDrained s = .next (s.powerOff false) :=
  congrArg _ (if_neg (by simp [drains, falls, noSteep, role]))

/-- The loss of a rail's power-good, and whether the loss before it was within 60 s. -/
def lostAgain (s : State) : Bool :=
  match s.seq.lostAt with
  | some t => decide (s.elapsed ≤ t + 60000000000)
  | none => false

/-- What POWER_GOOD_LOST leaves in the sequencer before the fall starts. -/
def railLost (k now : Nat) (q : Sequencer) : Sequencer := { q with goods := setBit q.goods k false, lostAt := some now }

theorem quiet_railLost (k : Nat) (s : State) : Quiet s ((s.railAlarm k).sendOff true) := (quiet_raiseIsland ..).trans (quiet_sendOff ..)

theorem powerGoodLost_falls {n : BitVec 3} (runs : s.islandRun = 1) (on : s.mainState ≠ 0) (falls : s.seq.down = none)
    (good : bit s.seq.goods n.toNat = true) : exec (.powerGoodLost n) s =
      .next (({ (s.railAlarm n.toNat).sendOff true with seq := railLost n.toNat s.elapsed s.seq }).startPowerDown true (!lostAgain s)) := by
  have seq := congrArg AlwaysOnPart.seq (quiet_railLost n.toNat s).alwaysOn
  have now : ((s.railAlarm n.toNat).sendOff true).elapsed = s.elapsed := congrArg (fun c => c.tick * 10) (quiet_railLost n.toNat s).clock
  refine congrArg _ ((if_neg (by simp [State.islandUp, runs, on, falls, good])).trans ?_)
  dsimp only
  rw [seq, now]
  rfl

theorem seq_startPowerDown (forced again : Bool) (s : State) : (s.startPowerDown forced again).seq =
    { s.seq with down := some forced, again := again, stepAt := s.elapsed, released := false } := rfl

theorem lostAgain_first (never : s.seq.lostAt = none) : lostAgain s = false := by simp [lostAgain, never]

theorem lostAgain_soon {a : Nat} (before : s.seq.lostAt = some a) (soon : s.elapsed ≤ a + 60000000000) : lostAgain s = true := by
  simp [lostAgain, before, soon]

end Fall

/-! ### Commands of OD 0x1300 (R406) -/

section Command

variable {s : State}

theorem applyForcedOff_on (on : s.mainState ≠ 0) : s.applyForcedOff = (0, s.powerOff true) := if_neg on

theorem applyPowerOn_off (off : s.mainState = 0) :
    s.applyPowerOn = (0, { s with seq := { s.seq with fails := 0, lostAt := none } }.startSequence) := if_neg (not_not.mpr off)

theorem applyMainReset_on (on : s.mainState ≠ 0) : s.applyMainReset = (0, s.sendReset) := if_neg on

theorem applyOrderlyOff_unready (on : s.mainState ≠ 0) (spared : s.onlyLive = false) (unready : s.ready = false) :
    s.applyOrderlyOff = (0, (s.setOd 0x1300 3 0 5).setOd 0x1300 1 cmdState 1) := by
  simp [State.applyOrderlyOff, on, spared, unready]

end Command

/-- Settles O3: the enables fall by `powerDownStep_lowers` and `powerDownStep_last`; what starts the fall is `powerOff`, but for a power-good that is
lost. -/
theorem railsFallInReverse : Obligations.RailsFallInReverse := by
  intro s runs
  refine ⟨fun f k falls top => ⟨powerDownStep_lowers falls top, fun last => ?last⟩, fun n sensor on => ?trip, fun drains falls noSteep role => ?drained,
    fun n on falls good => ?lost, fun rq => ⟨fun ok on => ?forced, fun ok off => ?powerOn, fun ok on => ?reset, fun ok on spared unready => ?orderly⟩⟩
  case last =>
    obtain ⟨pending, stays⟩ := State_mainSideReset_keeps true 0 ({ s with seq := railFallen k s.elapsed s.seq }.emit (.rail k false))
    exact ⟨_, powerDownStep_last falls top last, last, rfl, pending, (congrArg AlwaysOnPart.islandRun stays).trans rfl⟩
  case trip => exact ⟨_, tempTrip_powersOff runs sensor on, powerOff_seq .., sameBut_powerOff ..⟩
  case drained => exact ⟨_, orderlyOffDrained_powersOff drains falls noSteep role, powerOff_seq .., sameBut_powerOff ..⟩
  case lost =>
    refine ⟨_, powerGoodLost_falls runs on falls good, rfl, rfl, rfl, fun never => ?_, fun a before soon => ?_,
      sameBut_trans (sameBut_withSeq rfl rfl (quiet_railLost n.toNat s) _) (sameBut_startPowerDown rfl rfl ..)⟩
    · rw [seq_startPowerDown, lostAgain_first never]
      rfl
    · rw [seq_startPowerDown, lostAgain_soon before soon]
      rfl
  case forced => exact congrArg _ (access_commanded ok (applyForcedOff_on on))
  case powerOn => exact congrArg _ (access_commanded ok (applyPowerOn_off off))
  case reset => exact congrArg _ (access_commanded ok (applyMainReset_on on))
  case orderly => exact congrArg _ (access_commanded ok (applyOrderlyOff_unready on spared unready))

end Sys2Proof.Proofs
end

section

/-! ## Records leave the chimney, and the soot ring (O26, O27; 20 R469, R478 to R483)

Each of the three paths has an equation for the record that leaves and one for the situations in which none does. -/

namespace Sys2Proof.Proofs

open Sys2Proof.Machine Sys2Proof.Laws

/-! ### The queue (R478) -/

theorem popRecord_some {q : List Record} {x : Record} (next : nextRecord q = some x) : popRecord q = some (x, q.erase x) := by
  simp [popRecord, next]

theorem popRecord_none {q : List Record} (next : nextRecord q = none) : popRecord q = none := by simp [popRecord, next]

/-! ### Event rings (R480) -/

section Ring

variable {s : State} {p : HostPort}

theorem eventRingWrite_closed (closed : s.pathOpen (hostNo p) = false ∨ s.hostLink (hostNo p) = false) : exec (.eventRingWrite p) s = .next s :=
  congrArg _ (if_neg (by obtain shut | unlinked := closed <;> simp [*]))

theorem eventRingWrite_open (opened : s.pathOpen (hostNo p) = true) (linked : s.hostLink (hostNo p) = true) :
    exec (.eventRingWrite p) s = .next ((s.writeRing (hostNo p)).signalRing (hostNo p)) :=
  congrArg _ (if_pos (by simp [opened, linked]))

/-- The write index of a ring after a record: the next slot, or the first one with the phase turned. -/
def ringAfter (size : Nat) (r : EventRing) : EventRing :=
  { r with index := if decide (size ≤ r.index + 1) then 0 else r.index + 1,
           phase := if decide (size ≤ r.index + 1) then !r.phase else r.phase, unsignalled := true }

theorem ringAfter_next {size : Nat} {r : EventRing} (more : r.index + 1 < size) :
    ringAfter size r = { r with index := r.index + 1, unsignalled := true } := by
  simp [ringAfter, more]

theorem ringAfter_wraps {size : Nat} {r : EventRing} (last : size ≤ r.index + 1) :
    ringAfter size r = { r with index := 0, phase := !r.phase, unsignalled := true } := by
  simp [ringAfter, last]

variable {n : Nat}

theorem writeRing_stays (bars : nextRecord (s.pathQ n).queue = none ∨
    s.ringSize n ≤ ((s.eventRing n).index + s.ringSize n - (s.eventRing n).head) % s.ringSize n + 1) : s.writeRing n = s := by
  unfold State.writeRing
  split
  · rfl
  next taken =>
    obtain empty | full := bars
    · rw [popRecord_none empty] at taken
      cases taken
    · exact if_pos full

theorem writeRing_writes {x : Record} (next : nextRecord (s.pathQ n).queue = some x)
    (room : ((s.eventRing n).index + s.ringSize n - (s.eventRing n).head) % s.ringSize n + 1 < s.ringSize n) : s.writeRing n =
      ((((s.setQueue n ((s.pathQ n).queue.erase x)).countSent n x).emit
        (.hostWrite (hostOf n) (s.od 0x6401 (n + 1) 0 + 32 * (s.eventRing n).index) (x.bytes (s.eventRing n).phase))).setEventRing n
          (ringAfter (s.ringSize n) (s.eventRing n))).bump 0x1200 (n + 1) 8 32 := by
  unfold State.writeRing
  rw [popRecord_some next]
  exact if_neg room.not_ge

end Ring

/-! ### Side-band datagrams (R481) -/

section SideBand

variable {s : State} {l : List Record}

theorem sideBandDatagram_fills (bars : (popRecords 16 s.path2.queue).1 = [] ∨
    ¬(16 ≤ s.path2.queue.length ∨ (s.path2.queue.any fun r => decide (r.time + 100000000 ≤ s.now)) = true) ∨
    s.fillSide.sideBits < 8 * (142 + 32 * (popRecords 16 s.path2.queue).1.length) ∨ s.islandRun ≠ 1 ∨ s.pathOpen 2 = false) :
    exec .sideBandDatagram s = .next s.fillSide := by
  refine congrArg _ (if_pos ?_)
  obtain none | undue | poor | stopped | closed := bars
  · exact .inl none
  · refine .inr (.inl ?_)
    rw [not_or, not_le, Bool.not_eq_true] at undue
    exact (Bool.or_eq_false_iff).mpr ⟨decide_eq_false undue.1.not_ge, undue.2⟩
  · exact .inr (.inr (.inl poor))
  · exact .inr (.inr (.inr (.inl stopped)))
  · exact .inr (.inr (.inr (.inr closed)))

theorem sideBandDatagram_sends (some : (popRecords 16 s.path2.queue).1 ≠ [])
    (due : 16 ≤ s.path2.queue.length ∨ (s.path2.queue.any fun r => decide (r.time + 100000000 ≤ s.now)) = true)
    (paid : 8 * (142 + 32 * (popRecords 16 s.path2.queue).1.length) ≤ s.fillSide.sideBits) (runs : s.islandRun = 1) (opened : s.pathOpen 2 = true) :
    exec .sideBandDatagram s = .next (
      let l := (popRecords 16 s.path2.queue).1
      let v := l.foldl (State.countSent 2) (s.fillSide.setQueue 2 (popRecords 16 s.path2.queue).2)
      { v with sideBits := v.sideBits - 8 * (142 + 32 * l.length) }.emit (.datagram l)) := by
  refine congrArg _ (if_neg ?_)
  rintro (none | undue | poor | stopped | closed)
  · exact some none
  · obtain ⟨few, young⟩ := (Bool.or_eq_false_iff).mp undue
    obtain many | old := due
    · exact of_decide_eq_false few many
    · exact Bool.false_ne_true (young.symm.trans old)
  · exact paid.not_gt poor
  · exact stopped runs
  · exact Bool.false_ne_true (closed.symm.trans opened)

end SideBand

/-! ### The soot ring (R482, R483) -/

section Soot

variable {s : State}

theorem sootRingWrite_stays (bars : s.path3.queue = [] ∨ s.pathOpen 3 = false ∨ s.mainUp = false) : exec .sootRingWrite s = .next s := by
  change execSootRingWrite s = _
  unfold execSootRingWrite
  split
  · rfl
  next taken =>
    refine congrArg _ (if_pos ?_)
    obtain empty | closed | down := bars
    · rw [empty] at taken
      cases taken
    · simp [closed]
    · simp [down]

/-- The soot ring after a record at an offset: moved on, or wrapped. -/
def sootAfter (o : Nat) (s : State) : State :=
  if o + 32 < 4096 + 32 * sootSlots then s.setOd 0x6402 0 2 (o + 32) else (s.setOd 0x6402 0 2 4096).bump 0x6402 0 3 1

theorem sootAfter_next {o : Nat} (more : o + 32 < 4096 + 32 * 16777088) (s : State) : sootAfter o s = s.setOd 0x6402 0 2 (o + 32) := by
  unfold sootAfter sootSlots
  exact if_pos more

theorem sootAfter_wraps {o : Nat} (last : 4096 + 32 * 16777088 ≤ o + 32) (s : State) :
    sootAfter o s = (s.setOd 0x6402 0 2 4096).bump 0x6402 0 3 1 := by
  unfold sootAfter sootSlots
  exact if_neg last.not_gt

theorem sootRingWrite_writes {x : Record} (next : nextRecord s.path3.queue = some x) (opened : s.pathOpen 3 = true) (up : s.mainUp = true)
    (started : 4096 < s.sootOffset ∨ s.od 0x6402 0 3 ≠ 0) : exec .sootRingWrite s =
      .next (sootAfter s.sootOffset (((s.setQueue 3 (s.path3.queue.erase x)).countSent 3 x).writeStack (sootBase + s.sootOffset) (x.bytes false))) := by
  change execSootRingWrite s = _
  unfold execSootRingWrite
  have notFirst : ¬(s.sootOffset = 4096 ∧ s.od 0x6402 0 3 = 0) := by omega
  rw [popRecord_some next]
  refine congrArg _ ((if_neg (by simp [opened, up])).trans ?_)
  dsimp only
  rw [if_neg notFirst]
  rfl

theorem sootHeaderRewrite_writes (opened : s.pathOpen 3 = true) (up : s.mainUp = true) : exec .sootHeaderRewrite s = .next s.rewriteHeader :=
  congrArg _ (if_pos (by simp [opened, up]))

theorem sootHeaderRewrite_stays (bars : s.pathOpen 3 = false ∨ s.mainUp = false) : exec .sootHeaderRewrite s = .next s :=
  congrArg _ (if_neg (by obtain closed | down := bars <;> simp [*]))

theorem exec_sootFreeze (rq : Requester) (ok : Accepted s rq .command 0x6404 0 [1]) :
    exec (.sootFreeze rq) s = .next ((s.setFrozen true).commanded rq 0x6404 0 [1]) := congrArg Host.Outcome.next (access_commanded ok rfl)

theorem exec_sootResume (rq : Requester) (ok : Accepted s rq .command 0x6404 0 [2]) :
    exec (.sootResume rq) s = .next ((s.setFrozen false).commanded rq 0x6404 0 [2]) := congrArg Host.Outcome.next (access_commanded ok rfl)

theorem exec_errorLogClear (rq : Requester) (ok : Accepted s rq .command 0x6004 0 [1]) :
    exec (.errorLogClear rq) s = .next (s.clearLog.commanded rq 0x6004 0 [1]) := congrArg Host.Outcome.next (access_commanded ok rfl)

theorem sootAutoResume_resumes (ready : s.ready = true) (frozen : s.od 0x6402 0 40 = 1) (late : s.readyAt + 600000000000 ≤ s.elapsed) :
    exec .sootAutoResume s = .next (s.setFrozen false) := congrArg _ (if_pos (by simp [ready, frozen, late]))

theorem sootAutoResume_stays (bars : s.ready = false ∨ s.od 0x6402 0 40 ≠ 1 ∨ s.elapsed < s.readyAt + 600000000000) :
    exec .sootAutoResume s = .next s := by
  refine congrArg _ (if_neg ?_)
  obtain unready | other | early := bars
  · simp [unready]
  · simp [other]
  · simp [early]

end Soot

/-- Settles O26: what leaves each path is the next record of its queue, and `writeRing_writes`, `sideBandDatagram_sends` and `sootRingWrite_writes` say
where it goes. -/
theorem recordsLeaveTheChimney : Obligations.RecordsLeaveTheChimney := by
  intro s
  refine ⟨fun p => ⟨eventRingWrite_closed, fun opened linked => ⟨fun bars => ?ringStays, fun x next room => ⟨fun more => ?ringNext, fun last => ?ringWraps⟩⟩⟩,
    ⟨sideBandDatagram_sends, sideBandDatagram_fills⟩, sootRingWrite_stays,
    fun x next opened up started => ⟨fun more => ?sootNext, fun last => ?sootWraps⟩⟩
  case ringStays => rw [eventRingWrite_open opened linked, writeRing_stays bars]
  case ringNext => rw [eventRingWrite_open opened linked, writeRing_writes next room, ringAfter_next more]
  case ringWraps => rw [eventRingWrite_open opened linked, writeRing_writes next room, ringAfter_wraps last]
  case sootNext => exact (sootRingWrite_writes next opened up started).trans (congrArg Host.Outcome.next (sootAfter_next more _))
  case sootWraps => exact (sootRingWrite_writes next opened up started).trans (congrArg Host.Outcome.next (sootAfter_wraps last _))

/-- Settles O27: a freeze, a resume and the resume after start-up are `setFrozen`; the header is rewritten by `rewriteHeader`. -/
theorem sootRingAndLogObey : Obligations.SootRingAndLogObey := by
  intro s
  exact ⟨sootHeaderRewrite_writes, sootHeaderRewrite_stays, exec_sootFreeze, exec_sootResume, sootAutoResume_resumes, sootAutoResume_stays,
    exec_errorLogClear⟩

end Sys2Proof.Proofs
end

section

/-! ## Tests fall due and end (O28; 15 R372; 20 R472)

A deep test of R372 tells, by `entryTested`, that a failure takes the position out of service. The mark ends with the last of its tests, so a test that
ends without a finding changes it as well: the state that the statement gives keeps it. -/

namespace Sys2Proof.Proofs

open Sys2Proof.Machine Sys2Proof.Laws

/-- The part while the deep test of hearth 0 runs that the admitting part asked for as a test of its entry (15 R372). -/
def entryUnderTest : State := { State.reset with testing := [(0, 2)], entryTested := true }

/-- The last test of an entry ends its mark. -/
theorem entryTested_testComplete : ∃ t, exec (.testComplete 0 []) entryUnderTest = .next t ∧ t.entryTested = false := ⟨_, rfl, by decide⟩

/-- A test without a finding, as the statement has it, keeps the mark: nothing that it names changes it. -/
theorem entryTested_stated (u : State) (away : u.coveredAway = false) (n : Nat) :
    (((u.setOd 0x6102 (n + 1) 1 0).setOd 0x6102 (n + 1) 0 u.now).endCover).entryTested = u.entryTested := by
  unfold State.endCover
  rw [if_neg (by simpa using fun h => by simp [away] at h)]
  rfl

/-- Refutes O28: in `entryUnderTest` the test that ends was asked for as one of its entry, and TEST_COMPLETE clears `entryTested`, which the stated next
state leaves set. -/
theorem not_testsFallDueAndEnd : ¬ Obligations.TestsFallDueAndEnd := by
  intro holds
  obtain ⟨hearths, -⟩ := holds entryUnderTest
  obtain ⟨-, -, -, -, -, -, completes⟩ := hearths 0
  obtain ⟨clean, -⟩ := completes (by decide) rfl (by decide)
  obtain ⟨t, runs, cleared⟩ := entryTested_testComplete
  rw [runs] at clean
  injection clean with same
  rw [same, entryTested_stated _ rfl] at cleared
  exact absurd cleared (by decide)

end Sys2Proof.Proofs
end

section

/-! ## Cover is given (O29; 20 R473)

COVER_POLL first gives what has a twin its cover by tables, then what is left one hold. Where nothing due has a twin, the tables fall away. -/

namespace Sys2Proof.Proofs

open Sys2Proof.Machine Sys2Proof.Laws

section Cover

variable {s : State} {l : List CoverDue}

/-- Work is due on a part that serves its entry, and no twin can take its place. -/
def DueAlone (s : State) (d : CoverDue) : Prop :=
  (d.overdue = true ∨ d.calHearths ≠ 0) ∧ s.coverBy d.endpoint.toNat = none ∧
    ∃ i e, s.entryIndexOf d.endpoint.toNat = some i ∧ s.entryAt i = some e ∧ e.serving.contains d.endpoint.toNat = true

/-- No hold stands, and none was granted in the last 10 s. -/
def holdFree (s : State) : Bool :=
  s.holdFor.isNone && (match s.heldAt with
    | some t => decide (t + 10000000000 ≤ s.elapsed)
    | none => true)

theorem coverPoll_elsewhere (away : s.isAdmitting = false ∨ s.ready = false) (l : List CoverDue) : exec (.coverPoll l) s = .next s :=
  congrArg Host.Outcome.next (if_pos (by obtain other | unready := away <;> simp [*]))

/-- What is due and has no twin asks for a hold. -/
theorem coverPoll_alone (here : s.isAdmitting = true) (ready : s.ready = true) (alone : ∀ d ∈ l, DueAlone s d) : exec (.coverPoll l) s =
    .next (if l = [] ∨ holdFree s = false then s
      else { s with holdFor := some (s.holdEdges ((l.map coverNeed).foldl max 0)), heldAt := some s.elapsed }.bump 0x6103 0 3 1) := by
  have due : (l.filter fun d => (d.overdue || d.calHearths != 0) && ((s.entryIndexOf d.endpoint.toNat).bind s.entryAt).any fun e =>
      e.serving.contains d.endpoint.toNat) = l := by
    refine List.filter_eq_self.mpr fun d member => ?_
    obtain ⟨work, -, i, e, index, entry, serves⟩ := alone d member
    rw [index, Option.bind_some, entry, Option.any_some, serves]
    simpa using work
  have noTwin : l.filterMap (fun d => s.coverBy d.endpoint.toNat) = [] :=
    List.filterMap_eq_nil_iff.mpr fun d member => (alone d member).2.1
  have left : (l.filter fun d => (s.coverBy d.endpoint.toNat).isNone) = l :=
    List.filter_eq_self.mpr fun d member => by simp [(alone d member).2.1]
  refine congrArg Host.Outcome.next ((if_neg (by simp [here, ready])).trans ?_)
  dsimp only
  rw [due, noTwin]
  simp only [List.foldl_nil, left]
  rfl

theorem coverPoll_nil (s : State) : exec (.coverPoll []) s = .next s := by
  by_cases here : s.isAdmitting = true
  · by_cases ready : s.ready = true
    · exact (coverPoll_alone here ready (by simp)).trans (congrArg Host.Outcome.next (if_pos (.inl rfl)))
    · exact coverPoll_elsewhere (.inr (by simpa using ready)) []
  · exact coverPoll_elsewhere (.inl (by simpa using here)) []

theorem holdFree_of (none : s.holdFor = none) (rested : ∀ t, s.heldAt = some t → t + 10000000000 ≤ s.elapsed) : holdFree s = true := by
  unfold holdFree
  rw [none]
  split
  next t held => simpa using rested t held
  · rfl

theorem not_holdFree_of (bars : s.holdFor ≠ none ∨ ∃ t, s.heldAt = some t ∧ s.elapsed < t + 10000000000) : holdFree s = false := by
  unfold holdFree
  obtain stands | ⟨t, held, recent⟩ := bars
  · simp [stands]
  · simp [held, recent]

end Cover

/-- Settles O29: with nothing but `DueAlone` in the list, `coverPoll_alone` leaves the hold, and `holdFree` judges it. -/
theorem coverIsGiven : Obligations.CoverIsGiven := by
  intro s
  refine ⟨coverPoll_elsewhere, coverPoll_nil s, fun here ready l some alone => ⟨fun none rested => ?granted, fun bars => ?barred⟩⟩
  case granted =>
    have free := holdFree_of none rested
    exact (coverPoll_alone here ready alone).trans (congrArg Host.Outcome.next (if_neg (by simp [some, free])))
  case barred => exact (coverPoll_alone here ready alone).trans (congrArg Host.Outcome.next (if_pos (.inr (not_holdFree_of bars))))

end Sys2Proof.Proofs
end

section

/-! ## Arrays fence and remap (O18; 03 R80 to R86, R523; 05 Table 05-8) -/

namespace Sys2Proof.Proofs

open Sys2Proof.Machine Sys2Proof.Laws

/-! ### ARRAY_FENCE (R80) -/

section Fence

variable {s : State} {a : ArrayId}

/-- The configuration in force for the step that runs on an array's hearth (08 R210). -/
def fenceCfg (s : State) (a : ArrayId) : Tab Nat := (s.stepRec (s.hearth (a.toNat / 1024)).step).cfg

/-- The mismatches of an array within the fence window. -/
def recentMismatches (s : State) (a : ArrayId) : Nat := (s.checks.get CheckLog.fresh a.toNat).recent (cfgOf (fenceCfg s a) 0x3104 3 0)

theorem arrayFence_fences (serves : s.arrayState a.toNat = 0) (some : (s.checks.get CheckLog.fresh a.toNat).mismatches ≠ [])
    (reached : cfgOf (fenceCfg s a) 0x3104 2 0 ≤ recentMismatches s a) : exec (.arrayFence a) s =
      .next ((((s.setArrayState a.toNat 2).raise { kind := .fence, path := pathSite a.toNat, detail := 0, step := (s.hearth (a.toNat / 1024)).step }).failOver
        (a.toNat / 1024)).settleOff) := congrArg Host.Outcome.next (if_pos ⟨serves, reached, some⟩)

theorem arrayFence_waits (below : recentMismatches s a < cfgOf (fenceCfg s a) 0x3104 2 0) : exec (.arrayFence a) s = .next s :=
  congrArg Host.Outcome.next (if_neg fun ⟨_, reached, _⟩ => below.not_ge reached)

end Fence

/-! ### CONVERTER_SETTLE_FAIL (R523) -/

section Settle

/-- A group after a column of a site did not settle. -/
def unsettledGroup (n col : Nat) (g : Group) : Group := { g with sites := g.sites.map fun sc => if sc.site = n then sc.unsettle col else sc }

/-- A hearth after a column of a site did not settle. -/
def unsettledIn (n col : Nat) (g : Group) (x : Hearth) : Hearth :=
  { x with groups := x.groups.map fun e => if e.bay = g.bay ∧ e.cc = g.cc then unsettledGroup n col g else e }

/-- The part once the column is invalid and the record is written. -/
def unsettled (n conv col : Nat) (g : Group) (s : State) : State :=
  (s.modHearth (n / 512) (unsettledIn n col g)).raise
    { kind := .converter, path := pathColumn (2 * n + (if g.sites.any fun sc => sc.site == n && sc.array % 2 == 1 then 1 else 0)) (768 + conv),
      detail := 1, step := (s.hearth (n / 512)).step, pc := 0xFFFF, opcode := 1 }

/-- The failures of a converter in the last 10 s. -/
def recentFails (s : State) (key : Nat) : List (Nat × Nat) := (s.settleFails.get [] key).filter fun e => decide (s.now ≤ e.2 + 10000000000)

/-- A failure is noted; the second one in another step takes the converter up for the next boundary. -/
def failNoted (key step : Nat) (s : State) : State :=
  let t := { s with settleFails := s.settleFails.put [] key (recentFails s key ++ [(step, s.now)]) }
  if (recentFails s key).any (fun e => e.1 != step) && !t.convOut.get false key && !t.convPending.contains key then
    { t with convPending := t.convPending ++ [key] }
  else t

variable {s : State} {site : SiteId} {conv : BitVec 7} {slot : BitVec 3} {col : Nat} {g : Group}

theorem converterSettleFail_notes (converts : converterColumn conv.toNat slot.toNat = some col)
    (flies : ((s.hearth (site.toNat / 512)).groups.find? fun g => !g.delivered && g.sites.any fun sc => sc.site == site.toNat && sc.cause == 0) = some g) :
    exec (.converterSettleFail site conv slot) s =
      .next (failNoted (site.toNat * 128 + conv.toNat) (s.hearth (site.toNat / 512)).step (unsettled site.toNat conv.toNat col g s)) := by
  change execConverterSettleFail site conv slot s = _
  simp only [execConverterSettleFail, converts, flies]
  rfl

variable (n c key step : Nat)

theorem unsettled_groups : ((unsettled n c col g s).hearth (n / 512)).groups = (unsettledIn n col g (s.hearth (n / 512))).groups := by
  simp [unsettled]

/-- The record and the mark of the column touch neither the converters nor the time. -/
theorem unsettled_keeps : (unsettled n c col g s).settleFails = s.settleFails ∧ (unsettled n c col g s).convPending = s.convPending ∧
    (unsettled n c col g s).convOut = s.convOut ∧ (unsettled n c col g s).now = s.now := by
  have quiet := quiet_raise { kind := .converter, path := pathColumn (2 * n + (if g.sites.any fun sc => sc.site == n && sc.array % 2 == 1 then 1 else 0)) (768 + c),
                              detail := 1, step := (s.hearth (n / 512)).step, pc := 0xFFFF, opcode := 1 } (s.modHearth (n / 512) (unsettledIn n col g))
  exact ⟨(congrArg HearthPart.settleFails quiet.hearth).trans rfl, (congrArg HearthPart.convPending quiet.hearth).trans rfl,
    (congrArg HearthPart.convOut quiet.hearth).trans rfl,
    congrArg (fun p => p.rackTime.toNat) quiet.clock⟩

theorem recentFails_unsettled : recentFails (unsettled n c col g s) key = recentFails s key := by
  obtain ⟨fails, -, -, now⟩ := unsettled_keeps (s := s) (col := col) (g := g) n c
  simp only [recentFails, fails, now]

theorem failNoted_hearths (s : State) : (failNoted key step s).hearths = s.hearths := by
  unfold failNoted
  dsimp only
  split <;> rfl

theorem failNoted_log (s : State) : (failNoted key step s).settleFails.get [] key = recentFails s key ++ [(step, s.now)] := by
  unfold failNoted
  dsimp only
  split <;> exact get_put_same ..

theorem convPending_failNoted_same {s : State} (same : ∀ e ∈ recentFails s key, e.1 = step) : (failNoted key step s).convPending = s.convPending := by
  have no : (recentFails s key).any (fun e => e.1 != step) = false := by simpa using same
  simp [failNoted, no]

theorem mem_convPending_failNoted {s : State} (other : ∃ e ∈ recentFails s key, e.1 ≠ step) (serves : s.convOut.get false key = false) :
    key ∈ (failNoted key step s).convPending := by
  have again : (recentFails s key).any (fun e => e.1 != step) = true := by simpa using other
  unfold failNoted
  simp only [again, serves, Bool.not_false, Bool.true_and]
  split
  · simp
  next listed => simpa using listed

end Settle

/-! ### REMAP_WRITE (R82, R84, R85; 05 Table 05-8) -/

section Remap

variable {s : State} {a col cause : Nat}

theorem remapOrWait_retired (retired : s.arrayState a = 3) : s.remapOrWait a col cause = s := if_pos retired

theorem remapOrWait_waits (live : s.arrayState a ≠ 3) (bars : s.arrayState a = 1 ∨ (cause = 1 ∧ s.recState a = 2)) : s.remapOrWait a col cause =
    if (s.remapWaits.any fun e => e.1 == a && e.2.1 == col) = true then s else { s with remapWaits := s.remapWaits ++ [(a, col, cause)] } :=
  (if_neg live).trans (if_pos bars)

theorem remapOrWait_remaps (live : s.arrayState a ≠ 3) (free : ¬(s.arrayState a = 1 ∨ (cause = 1 ∧ s.recState a = 2))) :
    s.remapOrWait a col cause = s.remapColumn a col cause := (if_neg live).trans (if_neg free)

theorem cause_eq_one {inService : Bool} : (if inService then 1 else 0) = 1 ↔ inService = true := by cases inService <;> decide

theorem exec_remapWrite (a : ArrayId) (col : BitVec 9) (inService : Bool) : exec (.remapWrite a col inService) s =
    .next (s.remapOrWait a.toNat (physColumn (s.remapTable a.toNat) col.toNat) (if inService then 1 else 0)).settleOff := rfl

end Remap

/-- Settles O18: an array fences at its count, a settle failure is noted by `failNoted`, and a remap goes by the state of its array (`remapOrWait`). -/
theorem arraysFenceAndRemap : Obligations.ArraysFenceAndRemap := by
  intro s
  refine ⟨fun a => ⟨arrayFence_fences, arrayFence_waits⟩, fun site conv slot col g converts flies => ?settle,
    fun a col inService => ⟨fun retired => ?retired, fun live bars => ⟨fun listed => ?listed, fun unlisted => ?unlisted⟩, fun live rests free => ?remaps⟩⟩
  case settle =>
    have runs := converterSettleFail_notes converts flies
    obtain ⟨-, pending, out, now⟩ := unsettled_keeps (s := s) (col := col) (g := g) site.toNat conv.toNat
    refine ⟨_, runs, pending_of_next runs, ?groups, ?log, fun same => ?same, fun other serves => ?other⟩
    case groups => rw [hearth_of_hearths (failNoted_hearths ..), unsettled_groups]; rfl
    case log => rw [failNoted_log, recentFails_unsettled, now]; rfl
    case same => rw [convPending_failNoted_same _ _ (by rwa [recentFails_unsettled]), pending]
    case other => exact mem_convPending_failNoted _ _ (by rwa [recentFails_unsettled]) (by rwa [out])
  case retired => rw [exec_remapWrite, remapOrWait_retired retired]
  case listed => rw [exec_remapWrite, remapOrWait_waits live (by rwa [cause_eq_one]), if_pos listed]
  case unlisted => rw [exec_remapWrite, remapOrWait_waits live (by rwa [cause_eq_one]), if_neg (Bool.not_eq_true _ ▸ unlisted)]
  case remaps =>
    rw [exec_remapWrite, remapOrWait_remaps live]
    rw [cause_eq_one]
    rintro (steeped | ⟨fault, complete⟩)
    · exact rests steeped
    · obtain early | other := free
      · exact Bool.false_ne_true (early.symm.trans fault)
      · exact other complete

end Sys2Proof.Proofs
end

section

/-! ## Housekeeping and the damper (O33; 19 R443 to R453)

A conversion is stored by `resultStored`, after which a sensor's reading is taken. The damper's two tests that raise C share `testUp`. The end of a round
leaves C alone. -/

namespace Sys2Proof.Proofs

open Sys2Proof.Machine Sys2Proof.Laws

/-! ### Results (R443, R444, R449) -/

/-- A result before a sensor's reading is taken: the latest of its channel, the last 16 of its converter, the buffer. -/
def resultStored (conv kind chan code : Nat) (ovr : Bool) (s : State) : State :=
  let w := resultWord code ovr
  let s := { s with hkLatest := s.hkLatest.put 0 chan w }
  let old := s.blob 0x2505 0 ++ List.replicate (128 - (s.blob 0x2505 0).length) 0
  let s := s.setBlob 0x2505 0 (patch old (32 * conv) (slice (32 * conv + 2) 30 old ++ leBytes 2 w))
  (if ovr then s.bump 0x2506 0 2 1 else s).bufferRecord conv kind chan w

section Result

variable {s : State} {conv kind chan code n : Nat} {ovr : Bool}

theorem storeResult_channel (beyond : 139 < chan) : s.storeResult conv kind chan code ovr = resultStored conv kind chan code ovr s :=
  if_neg beyond.not_ge

theorem storeResult_sensor (sensor : chan ≤ 139) :
    s.storeResult conv kind chan code ovr = (resultStored conv kind chan code ovr s).takeReading chan ((code : Int) - 1024) ovr := if_pos sensor

theorem bufferRecord_island (conv kind chan w : Nat) (s : State) : (s.bufferRecord conv kind chan w).toIslandPart = s.toIslandPart := by
  unfold State.bufferRecord
  split
  · rfl
  · dsimp only
    split <;> rfl

theorem od_bufferRecord (conv kind chan w : Nat) (s : State) {x : Nat} (other : x ≠ 0x2506) (low : x < 65536) :
    (s.bufferRecord conv kind chan w).od x 0 0 = s.od x 0 0 := by
  unfold State.bufferRecord
  split
  · rfl
  · dsimp only
    split
    · rfl
    · exact od_bump_ne _ _ (odKey_ne (by omega) (by omega) (by omega) (by omega) low (by omega) fun same => other same.2.1)

theorem blobs_bufferRecord (conv kind chan w : Nat) (s : State) : (s.bufferRecord conv kind chan w).blobs = s.blobs := by
  unfold State.bufferRecord
  split
  · rfl
  · dsimp only
    split <;> rfl

/-- A result is the latest of its channel, and no other channel's. -/
theorem resultStored_island :
    (resultStored conv kind chan code ovr s).toIslandPart = { s.toIslandPart with hkLatest := s.hkLatest.put 0 chan (resultWord code ovr) } := by
  unfold resultStored
  dsimp only
  rw [bufferRecord_island]
  cases ovr <;> rfl

theorem od_resultStored {x : Nat} (other : x ≠ 0x2506) (low : x < 65536) : (resultStored conv kind chan code ovr s).od x 0 0 = s.od x 0 0 := by
  unfold resultStored
  dsimp only
  rw [od_bufferRecord _ _ _ _ _ other low]
  cases ovr
  · rfl
  · exact od_bump_ne _ _ (odKey_ne (by omega) (by omega) (by omega) (by omega) low (by omega) fun same => other same.2.1)

theorem broken_resultStored : (resultStored conv kind chan code ovr s).broken n = s.broken n := by
  have kept : (resultStored conv kind chan code ovr s).blob 0x2408 0 = s.blob 0x2408 0 := by
    unfold resultStored State.blob State.blobAt
    dsimp only
    rw [blobs_bufferRecord]
    cases ovr <;> exact get_put_ne _ _ _ (by decide) _
  unfold State.broken State.mask
  rw [kept]

end Result

section Reading

variable {s : State} {n : Nat} {t : Int}

theorem badReading_inRange (low : -320 ≤ t) (high : t ≤ 2160) : badReading t false = false := by
  simp [badReading, low, high]

/-- A good reading below the critical temperature is the sensor's value in use (R456, R458). -/
theorem takeReading_good (works : s.broken n = false) (good : badReading t false = false) (below : t < (16 * s.od 0x2403 0 0 : Nat)) :
    s.takeReading n t false =
      { s with sensorUse := s.sensorUse.put 0 n t, roundSeen := s.roundSeen ++ [(n, true)] }.setOd 0x2410 (n + 1) 0 (milli t) := by
  have critical : ({ s with sensorUse := s.sensorUse.put 0 n t, roundSeen := s.roundSeen ++ [(n, true)] }.setOd 0x2410 (n + 1) 0 (milli t)).od 0x2403 0 0 =
      s.od 0x2403 0 0 := od_setOd_ne _ _ (by unfold odKey; omega)
  unfold State.takeReading
  rw [if_neg (by simp [works])]
  simp only [good, Bool.false_eq_true, false_and, if_false, Bool.not_false]
  exact if_neg fun h => (critical ▸ h.2).not_gt below

end Reading

/-! ### HOUSEKEEPING_CONVERSION -/

section Conversion

variable {s : State} {conv : BitVec 2} {chan : Byte} {code : BitVec 12} {ovr : Bool}

theorem housekeepingConversion_ignored (bars : s.converterRuns conv.toNat = false ∨ channelKnown chan.toNat = false ∨ s.mainState = 0) :
    exec (.housekeepingConversion conv chan code ovr) s = .next s :=
  congrArg Host.Outcome.next (if_pos (by obtain stopped | unknown | off := bars <;> simp [*]))

variable (runs : s.converterRuns conv.toNat = true) (known : channelKnown chan.toNat = true) (on : s.mainState ≠ 0)

include runs known on

/-- A conversion that counts is a regular one or one of the injected sequence. -/
theorem housekeepingConversion_counts : exec (.housekeepingConversion conv chan code ovr) s =
    .next (match s.injected with
      | none => s.storeResult conv.toNat 0 chan.toNat code.toNat ovr
      | some j =>
        let n := j.left.getD conv.toNat 0
        if n = 0 then s.storeResult conv.toNat 0 chan.toNat code.toNat ovr
        else
          let left := j.left.set conv.toNat (n - 1)
          { s with injected := if left.all (· == 0) then none else some { j with left := left } }.storeResult conv.toNat j.kind chan.toNat code.toNat ovr) :=
  congrArg Host.Outcome.next (if_neg (by simp [runs, known, on]))

theorem housekeepingConversion_regular (regular : s.injected = none) :
    exec (.housekeepingConversion conv chan code ovr) s = .next (s.storeResult conv.toNat 0 chan.toNat code.toNat ovr) := by
  rw [housekeepingConversion_counts runs known on, regular]

variable {j : Injected} (sequence : s.injected = some j)

include sequence

theorem housekeepingConversion_done (done : j.left.getD conv.toNat 0 = 0) :
    exec (.housekeepingConversion conv chan code ovr) s = .next (s.storeResult conv.toNat 0 chan.toNat code.toNat ovr) := by
  rw [housekeepingConversion_counts runs known on, sequence]
  exact congrArg Host.Outcome.next (if_pos done)

theorem housekeepingConversion_injected {n : Nat} (left : j.left.getD conv.toNat 0 = n + 1) :
    exec (.housekeepingConversion conv chan code ovr) s =
      .next ({ s with injected := if (j.left.set conv.toNat n).all (· == 0) then none else some { j with left := j.left.set conv.toNat n } }.storeResult
        conv.toNat j.kind chan.toNat code.toNat ovr) := by
  rw [housekeepingConversion_counts runs known on, sequence]
  dsimp only
  rw [left, if_neg n.succ_ne_zero, Nat.add_sub_cancel]

end Conversion

theorem channelKnown_sensor {c : Nat} (sensor : c ≤ 139) : channelKnown c = true := by
  simp [channelKnown, sensor]

/-! ### Triggers and injected sequences (R446 to R448) -/

section Injected

variable {s : State}

/-- An injected sequence begins. -/
def injectedBegins (kind : Nat) (s : State) : State := { s with injected := some { kind := kind, left := [] } }.bump 0x2506 0 1 1

theorem inject_begins (none : s.injected = none) (on : s.mainState ≠ 0) (kind : Nat) : s.inject kind = injectedBegins kind s :=
  if_neg (by simp [none, on])

theorem inject_discarded (bars : s.injected ≠ none ∨ s.mainState = 0) (kind : Nat) : s.inject kind = s :=
  if_pos (by
    obtain runs | off := bars
    · simp [Option.isSome_iff_ne_none.mpr runs]
    · simp [off])

theorem droopTrigger_enabled (enabled : s.inForce 0x2502 0 0 = 1) : exec .droopTrigger s = .next (s.inject 1) :=
  congrArg Host.Outcome.next (if_pos enabled)

theorem droopTrigger_disabled (disabled : s.inForce 0x2502 0 0 ≠ 1) : exec .droopTrigger s = .next s := congrArg Host.Outcome.next (if_neg disabled)

theorem driveEventTrigger_again (spent : s.driveArmed = false) : exec .driveEventTrigger s = .next s :=
  congrArg Host.Outcome.next (if_pos (by simp [spent]))

theorem driveEventTrigger_enabled (armed : s.driveArmed = true) (enabled : s.inForce 0x2502 0 1 = 1) :
    exec .driveEventTrigger s = .next ({ s with driveArmed := false }.inject 2) :=
  congrArg Host.Outcome.next ((if_neg (by simp [armed])).trans (if_pos enabled))

theorem driveEventTrigger_disabled (armed : s.driveArmed = true) (disabled : s.inForce 0x2502 0 1 ≠ 1) :
    exec .driveEventTrigger s = .next { s with driveArmed := false } :=
  congrArg Host.Outcome.next ((if_neg (by simp [armed])).trans (if_neg disabled))

theorem injectedSample_discarded (codes : List (BitVec 12 × Bool)) (bars : s.injected = none ∨ ∃ j, s.injected = some j ∧ j.left ≠ []) :
    exec (.injectedSample codes) s = .next s := by
  change execInjectedSample codes s = _
  unfold execInjectedSample
  obtain none | ⟨j, sequence, sampled⟩ := bars
  · rw [none]
  · rw [sequence]
    exact congrArg Host.Outcome.next (if_pos sampled)

/-- The injected list of each converter that runs, as its channels. -/
def injectedLists (s : State) : List (List Nat) :=
  (List.range 4).map fun c => if s.converterRuns c then channelsOf (seqEntries s.injectedNow 8 c) else []

theorem injectedSample_samples {j : Injected} (codes : List (BitVec 12 × Bool)) (sequence : s.injected = some j) (unsampled : j.left = []) :
    exec (.injectedSample codes) s =
      .next ((codes.zip ((injectedLists s).map List.head?)).zipIdx.foldl (fun u e => match e.1.2 with
        | some chan => u.storeResult e.2 j.kind chan e.1.1.1.toNat e.1.1.2
        | none => u) { s with injected := if ((injectedLists s).map fun l => l.length - 1).all (· == 0) then none
                                          else some { j with left := (injectedLists s).map fun l => l.length - 1 } }) := by
  change execInjectedSample codes s = _
  unfold execInjectedSample
  rw [sequence]
  exact congrArg Host.Outcome.next (if_neg (not_not.mpr unsampled))

end Injected

/-! ### Rounds (R442, R447, R449, R450) -/

theorem damperLevel_of_sameBut {l : List Part} {s t : State} (same : SameBut l s t) (beside : l.contains .upkeep = false) :
    t.damperLevel = s.damperLevel := congrArg UpkeepPart.damperLevel (same.2 .upkeep beside)

theorem foldl_damperLevel {α : Type} {f : State → α → State} (keeps : ∀ s a, (f s a).damperLevel = s.damperLevel) (l : List α) (s : State) :
    (l.foldl f s).damperLevel = s.damperLevel :=
  List.foldlRecOn l f (motive := fun t => t.damperLevel = s.damperLevel) rfl fun t kept a _ => (keeps t a).trans kept

section Round

variable (s : State)

@[simp] theorem raise_damperLevel (r : Raise) : (s.raise r).damperLevel = s.damperLevel := damperLevel_of_sameBut (patrol_raise r s) rfl

@[simp] theorem brokenHearth_damperLevel (n : Nat) : (s.brokenHearth n).damperLevel = s.damperLevel := by
  unfold State.brokenHearth
  split
  · exact damperLevel_of_sameBut (patrol_takeOff ..) rfl
  · rfl

@[simp] theorem markBroken_damperLevel (n : Nat) : (s.markBroken n).damperLevel = s.damperLevel := by
  unfold State.markBroken
  split
  · rfl
  · simp only [brokenHearth_damperLevel, raise_damperLevel]
    rfl

@[simp] theorem settleRound_damperLevel : s.settleRound.damperLevel = s.damperLevel := by
  unfold State.settleRound
  dsimp only
  refine foldl_damperLevel (fun t n => ?_) _ _
  split
  · rfl
  · split
    · exact markBroken_damperLevel ..
    · rfl

@[simp] theorem brokenValues_damperLevel : s.brokenValues.damperLevel = s.damperLevel := by
  unfold State.brokenValues
  refine foldl_damperLevel (fun t n => ?_) _ _
  dsimp only
  split
  · exact brokenHearth_damperLevel ..
  · rfl

@[simp] theorem withdraw_damperLevel : s.withdraw.damperLevel = s.damperLevel := by
  unfold State.withdraw
  split
  · exact raise_damperLevel ..
  · rfl

@[simp] theorem slowDownRequest_damperLevel : s.slowDownRequest.damperLevel = s.damperLevel := by
  unfold State.slowDownRequest
  split
  · exact raise_damperLevel ..
  · exact withdraw_damperLevel s

@[simp] theorem compensate_damperLevel : s.compensate.damperLevel = s.damperLevel := by
  unfold State.compensate
  refine foldl_damperLevel (fun t h => ?_) _ _
  split <;> rfl

@[simp] theorem calTriggers_damperLevel : s.calTriggers.damperLevel = s.damperLevel := by
  unfold State.calTriggers
  refine foldl_damperLevel (fun t h => ?_) _ _
  split
  · exact damperLevel_of_sameBut (sameBut_calDue ..) rfl
  · rfl

@[simp] theorem adviseRefresh_damperLevel (h : Nat) : (s.adviseRefresh h).damperLevel = s.damperLevel := by
  unfold State.adviseRefresh
  have alarmed (t : State) (r : Raise) : ((t.setOd 0x3110 (h + 1) 41 1).raise r).damperLevel = t.damperLevel := raise_damperLevel ..
  have advised (r : Raise) : ((s.setMask 16 0x3113 0 h true).raise r).damperLevel = s.damperLevel := raise_damperLevel ..
  dsimp only
  split <;> split
  · exact (alarmed ..).trans (advised _)
  · exact advised _
  · exact alarmed ..
  · rfl

@[simp] theorem updateDrift_damperLevel : s.updateDrift.damperLevel = s.damperLevel := by
  unfold State.updateDrift
  dsimp only
  refine foldl_damperLevel (fun t h => ?_) _ _
  split
  · rfl
  · exact adviseRefresh_damperLevel ..

/-- The end of a round leaves the damper level that the part computes. -/
theorem endRound_damperLevel : s.endRound.damperLevel = s.damperLevel := by
  have shown (t : State) : ((t.setOd 0x2400 1 0 (milli t.hottest.2)).setOd 0x2400 2 0 t.hottest.1).takePower.damperLevel = t.damperLevel := rfl
  simp only [State.endRound, updateDrift_damperLevel, calTriggers_damperLevel, compensate_damperLevel, slowDownRequest_damperLevel, shown,
    brokenValues_damperLevel, settleRound_damperLevel]

/-- The round before has ended; the first round ends none. -/
def roundEnded : State := if s.od 0x2506 0 0 = 0 then s else s.endRound

/-- The result buffer then named holds for the round that starts. -/
def bufferTaken : State :=
  if s.hkBuffer = (s.od 0x2503 0 0, s.od 0x2503 0 1) then s else { s with hkBuffer := (s.od 0x2503 0 0, s.od 0x2503 0 1), hkOffset := 0 }

/-- A round starts. -/
def roundStarts : State := { s with roundAt := s.elapsed, hkSlow := s.wantsSlow }.bump 0x2506 0 0 1

theorem bufferTaken_eq : ∃ o, bufferTaken s = { s with hkBuffer := (s.od 0x2503 0 0, s.od 0x2503 0 1), hkOffset := o } := by
  unfold bufferTaken
  split
  next same => exact ⟨s.hkOffset, by rw [← same]⟩
  · exact ⟨0, rfl⟩

theorem wantsSlow_iff : s.wantsSlow = true ↔ s.od 0x2504 0 0 = 1 ∧ ∀ h < 128, s.power h ≤ 1 := by
  simp [State.wantsSlow]

end Round

section Rounds

variable {s : State}

theorem roundDue_first (first : s.od 0x2506 0 0 = 0) : s.roundDue = true := by simp [State.roundDue, first]

theorem roundDue_late (late : s.roundAt + (if s.hkSlow = true then 1000000 else 250000) ≤ s.elapsed) : s.roundDue = true := by
  simp [State.roundDue, late]

theorem roundDue_early (later : s.od 0x2506 0 0 ≠ 0) (early : s.elapsed < s.roundAt + (if s.hkSlow = true then 1000000 else 250000)) :
    s.roundDue = false := by
  simp [State.roundDue, later, early]

theorem housekeepingRound_ignored (bars : s.mainState = 0 ∨ s.roundDue = false) : exec .housekeepingRound s = .next s :=
  congrArg Host.Outcome.next (if_pos bars)

theorem housekeepingRound_starts (on : s.mainState ≠ 0) (due : s.roundDue = true) :
    exec .housekeepingRound s = .next (roundStarts (bufferTaken (roundEnded s))) :=
  congrArg Host.Outcome.next (if_neg (by simp [on, due]))

end Rounds

/-! ### The damper (R451 to R453) -/

section Damper

variable {s : State}

/-- The grace of the standing request is over, and the hottest sensor asks for more (R453). -/
def HotPast (s : State) (t : Nat) : Prop := ∃ since, s.slowDown = some since ∧ since + 1000000 * s.od 0x2402 0 0 ≤ t ∧ s.treq ≤ s.hottest.2

/-- C one higher, at most 7. -/
def damperRaised (s : State) : State :=
  { s with damperTest := s.elapsed, damperLevel := min 7 (s.damperLevel + 1), damperAt := s.elapsed }.settleDamper

theorem testUp_raises (asks : HotPast s s.elapsed ∨ s.overPower = true) : s.testUp = damperRaised s := by
  unfold State.testUp
  refine if_pos ?_
  obtain ⟨since, request, past, hot⟩ | power := asks
  · refine (Bool.or_eq_true ..).mpr (.inl ?_)
    simp [State.graceEnd, request, past, hot]
  · exact (Bool.or_eq_true ..).mpr (.inr power)

theorem testUp_keeps (cool : ¬HotPast s s.elapsed) (within : s.overPower = false) : s.testUp = { s with damperTest := s.elapsed } := by
  unfold State.testUp
  refine if_neg fun asks => ?_
  obtain ended | power := (Bool.or_eq_true ..).mp asks
  · unfold State.graceEnd at ended
    cases request : s.slowDown with
    | none => simp [request] at ended
    | some since =>
      simp only [request, Option.map_some, Bool.and_eq_true, decide_eq_true_eq] at ended
      exact cool ⟨since, request, ended⟩
  · exact Bool.false_ne_true (within.symm.trans power)

theorem damperStepUp_tests (due : s.damperTest + 5000000 ≤ s.elapsed) (up : s.mainUp = true) : exec .damperStepUp s = .next s.testUp :=
  congrArg Host.Outcome.next (if_pos ⟨due, up⟩)

theorem damperStepUp_waits (bars : s.elapsed < s.damperTest + 5000000 ∨ s.mainUp = false) : exec .damperStepUp s = .next s := by
  refine congrArg Host.Outcome.next (if_neg fun ⟨due, up⟩ => ?_)
  obtain early | down := bars
  · exact due.not_gt early
  · exact Bool.false_ne_true (down.symm.trans up)

theorem damperGraceEnd_requested {since : Nat} (request : s.slowDown = some since) : exec .damperGraceEnd s =
    .next (if since + 1000000 * s.od 0x2402 0 0 ≤ s.elapsed ∧ s.damperTest < since + 1000000 * s.od 0x2402 0 0 then s.testUp else s) := by
  change execDamperGraceEnd s = _
  unfold execDamperGraceEnd State.graceEnd
  rw [request]
  rfl

theorem damperGraceEnd_unrequested (none : s.slowDown = none) : exec .damperGraceEnd s = .next s := by
  change execDamperGraceEnd s = _
  unfold execDamperGraceEnd State.graceEnd
  rw [none]
  rfl

theorem damperStepDown_tests (due : s.damperAt + 50000000 ≤ s.elapsed) (up : s.mainUp = true) : exec .damperStepDown s =
    .next (if s.hottest.2 ≤ s.treq - 48 ∧ s.powerFell = true then
      { s with damperAt := s.elapsed, damperLevel := s.damperLevel - 1 }.settleDamper.withdraw else { s with damperAt := s.elapsed }) :=
  congrArg Host.Outcome.next (if_neg (by simp [due, up]))

theorem damperStepDown_waits (bars : s.elapsed < s.damperAt + 50000000 ∨ s.mainUp = false) : exec .damperStepDown s = .next s :=
  congrArg Host.Outcome.next (if_pos bars)

end Damper

/-- Settles O33: conversions by `housekeepingConversion_counts` and `resultStored`, triggers by `inject`, rounds by `housekeepingRound_starts`, and the
damper by `testUp`. -/
theorem housekeepingAndDamper : Obligations.HousekeepingAndDamper := by
  intro s
  refine ⟨fun conv chan code ovr => ⟨housekeepingConversion_ignored, fun runs known on => ⟨housekeepingConversion_regular runs known on,
      fun j sequence => ⟨housekeepingConversion_done runs known on sequence, fun n => housekeepingConversion_injected runs known on sequence⟩⟩,
      fun runs known on regular beyond => ?channel, fun runs sensor on regular works clear low high below => ?sensor⟩,
    ⟨fun enabled none on => ?droop, fun bars => ?droopNot, driveEventTrigger_again, fun armed enabled none on => ?drive, fun armed bars => ?driveNot⟩,
    injectedSample_discarded, fun j codes sequence unsampled => injectedSample_samples codes sequence unsampled,
    ⟨fun off => housekeepingRound_ignored (.inl off), fun later early => housekeepingRound_ignored (.inr (roundDue_early later early)),
      fun on due => ?round⟩,
    ⟨fun due up => ⟨fun asks => ?raise, fun cool within => ?stay⟩, damperStepUp_waits, fun since request past untested hot => ?grace, fun bars => ?graceNot,
      fun due up => ⟨fun cool fell => ?lower, fun bars => ?lowerNot⟩, damperStepDown_waits⟩⟩
  case channel =>
    have done := housekeepingConversion_regular (code := code) (ovr := ovr) runs known on regular
    rw [storeResult_channel beyond] at done
    have island := resultStored_island (s := s) (conv := conv.toNat) (kind := 0) (chan := chan.toNat) (code := code.toNat) (ovr := ovr)
    have latest := congrArg IslandPart.hkLatest island
    refine ⟨_, done, pending_of_next done, ?_, fun k other => ?_, (congrArg IslandPart.sensorUse island).trans rfl⟩
    · exact (congrArg (·.get 0 chan.toNat) latest).trans (get_put_same ..)
    · exact (congrArg (·.get 0 k) latest).trans (get_put_ne _ _ _ other _)
  case sensor =>
    have done := housekeepingConversion_regular (code := code) (ovr := ovr) runs (channelKnown_sensor sensor) on regular
    subst clear
    have island := resultStored_island (s := s) (conv := conv.toNat) (kind := 0) (chan := chan.toNat) (code := code.toNat) (ovr := false)
    rw [storeResult_sensor sensor, takeReading_good (broken_resultStored.trans works) (badReading_inRange (by omega) (by omega))
      (by rwa [od_resultStored (by decide) (by decide)])] at done
    have latest := congrArg IslandPart.hkLatest island
    have uses := congrArg IslandPart.sensorUse island
    refine ⟨_, done, pending_of_next done, ?_, get_put_same .., fun k other => ?_⟩
    · exact (congrArg (·.get 0 chan.toNat) latest).trans (get_put_same ..)
    · exact (get_put_ne _ _ _ other _).trans (congrArg (·.get 0 k) uses)
  case droop => rw [droopTrigger_enabled enabled, inject_begins none on]; rfl
  case droopNot =>
    by_cases enabled : s.inForce 0x2502 0 0 = 1
    · rw [droopTrigger_enabled enabled, inject_discarded (bars.resolve_left (not_not.mpr enabled))]
    · exact droopTrigger_disabled enabled
  case drive => rw [driveEventTrigger_enabled armed enabled, inject_begins (s := { s with driveArmed := false }) none on]; rfl
  case driveNot =>
    by_cases enabled : s.inForce 0x2502 0 1 = 1
    · rw [driveEventTrigger_enabled armed enabled, inject_discarded (s := { s with driveArmed := false }) (bars.resolve_left (not_not.mpr enabled))]
    · exact driveEventTrigger_disabled armed enabled
  case round =>
    have done := housekeepingRound_starts on (due.elim roundDue_first roundDue_late)
    obtain ⟨o, taken⟩ := bufferTaken_eq (roundEnded s)
    rw [taken] at done
    refine ⟨_, done, pending_of_next done, rfl, ?_, rfl, rfl, ?_, wantsSlow_iff (roundEnded s)⟩
    · exact (od_bump_same ..).trans (congrArg (min _) (by decide))
    · change (roundEnded s).damperLevel = s.damperLevel
      unfold roundEnded
      split
      · rfl
      · exact endRound_damperLevel s
  case raise => rw [damperStepUp_tests due up, testUp_raises asks]; rfl
  case stay => rw [damperStepUp_tests due up, testUp_keeps cool within]
  case grace => rw [damperGraceEnd_requested request, if_pos ⟨past, untested⟩, testUp_raises (.inl ⟨since, request, past, hot⟩)]; rfl
  case graceNot =>
    obtain none | ⟨since, request, early⟩ := bars
    · exact damperGraceEnd_unrequested none
    · rw [damperGraceEnd_requested request, if_neg fun h => early.not_ge h.1]
  case lower => rw [damperStepDown_tests due up, if_pos ⟨cool, fell⟩]
  case lowerNot =>
    rw [damperStepDown_tests due up, if_neg]
    rintro ⟨cool, fell⟩
    obtain hot | stays := bars
    · exact cool.not_gt hot
    · exact Bool.false_ne_true (stays.symm.trans fell)

end Sys2Proof.Proofs
end

section

/-! ## BAR2 past the data area (O36; 11 R269; 16 R391)

An access through an open aperture reaches the data areas and the soot ring alone, whatever OD 0x5401 was when the aperture was opened. The statement has
every open aperture answer. -/

namespace Sys2Proof.Proofs

open Sys2Proof.Machine Sys2Proof.Laws

/-- Port A's link is up, and its first aperture is open at the second 16 MiB of M0 from which the data area has been cut back (OD 0x5401). -/
def apertureBeyondData : State :=
  ((State.reset.setOd 0x1200 1 0 (8 * 2 ^ 16 + 5 * 2 ^ 20)).setOd 0x1201 1 0 (2 ^ 30 + 2 ^ 24)).setOd 0x5401 0 0 16

/-- The access is outside the data area, so the part aborts it. -/
theorem bar2Read_apertureBeyondData :
    exec (.bar2Read .a 0 1) apertureBeyondData = .next ((apertureBeyondData.bump 0x1200 1 3 1).emit (.completerAbort .a)) := by
  have linked : apertureBeyondData.hostLink 0 = true := by decide
  have outside : apertureBeyondData.apertureAddr 0 0 1 = none := by decide
  change execBar2Read .a 0 1 apertureBeyondData = _
  unfold execBar2Read
  dsimp only [hostNo]
  rw [show (0 : BitVec 30).toNat = 0 from rfl, outside, linked]
  rfl

/-- Refutes O36: in `apertureBeyondData` BAR2_READ ends in a Completer Abort, where the statement has a completion. -/
theorem not_hostPortsServeTheirBars : ¬ Obligations.HostPortsServeTheirBars := by
  intro holds
  obtain ⟨-, ports⟩ := holds apertureBeyondData
  obtain ⟨-, -, -, -, bar2, -⟩ := ports .a
  obtain ⟨-, served⟩ := bar2 0 1 []
  obtain ⟨-, read, -, -⟩ := served (by decide)
  have completes := read (by decide) (by decide) (.inl (by decide))
  rw [bar2Read_apertureBeyondData] at completes
  injection completes with same
  have left := congrArg (fun t => t.out.getLast?) same
  simp only [emit_out, List.getLast?_concat] at left
  cases left

end Sys2Proof.Proofs
end

section

/-! ## Queue pairs and the controlling host (O37; 16 R387, R392 to R398)

A command of OD 0x1210 or 0x1100 has an equation for each of its answers, and a doorbell one for each judgement of its value. -/

namespace Sys2Proof.Proofs

open Sys2Proof.Machine Sys2Proof.Laws

/-! ### Commands (18 R427) -/

section Command

variable {i : Instr} {rq : Requester} {x y : Nat} {d : List Byte} {f : State → Nat × State} {s t : State}
  (performs : exec i s = .next (s.access rq .command x y d f)) (ok : Accepted s rq .command x y d)

include performs ok

/-- A command that its object refuses answers its code. -/
theorem command_answers {c : Nat} (hc : c ≠ 0) (refuses : f s = (c, t)) : exec i s = .next (t.answer rq c) := by
  rw [performs, access_refused hc ok refuses]

/-- A command that its object takes is shown, and answered OK. -/
theorem command_taken (takes : f s = (0, t)) : exec i s = .next (t.commanded rq x y d) := by
  rw [performs, access_commanded ok takes]

end Command

/-! ### Enable and disable (R387, R392, R393) -/

theorem exec_queuePairEnable (rq : Requester) (s : State) :
    exec (.queuePairEnable rq) s = .next (s.access rq .command 0x1210 3 [1] (State.applyQpEnable rq)) := rfl

theorem exec_queuePairDisable (rq : Requester) (s : State) :
    exec (.queuePairDisable rq) s = .next (s.access rq .command 0x1210 3 [2] (State.applyQpDisable rq)) := rfl

section Pair

variable {s : State} {rq : Requester} {k : Nat}

theorem applyQpEnable_foreign (foreign : s.selectedQp rq = none) : s.applyQpEnable rq = (codeAccess, s) := by
  simp only [State.applyQpEnable, foreign, refuse]

theorem applyQpDisable_foreign (foreign : s.selectedQp rq = none) : s.applyQpDisable rq = (codeAccess, s) := by
  simp only [State.applyQpDisable, foreign, refuse]

/-- A queue pair that starts: ENABLED with empty rings. -/
def qpStarted (k : Nat) (s : State) : State :=
  ((({ s with qps := s.qps.put QPair.fresh k QPair.fresh }.setQpStat k 0 1).setQpStat k 1 0).setQpStat k 2 0).setQpStat k 3 0

variable (selected : s.selectedQp rq = some k)

include selected

theorem applyQpEnable_selected : s.applyQpEnable rq =
    if s.qpState k ≠ 0 then (codeState, s)
    else if !s.queuesServe (qpPort k) then (linkReason, s.linkTooSlow (qpPort k))
    else if !qpRecordGood (s.qpRecord k) then (codeRange, s)
    else (0, qpStarted k s) := by
  simp only [State.applyQpEnable, selected, refuse]
  rfl

theorem applyQpEnable_open (live : s.qpState k ≠ 0) : s.applyQpEnable rq = (codeState, s) := by
  rw [applyQpEnable_selected selected, if_pos live]

theorem applyQpEnable_unserved (disabled : s.qpState k = 0) (unserved : s.queuesServe (qpPort k) = false) :
    s.applyQpEnable rq = (linkReason, s.linkTooSlow (qpPort k)) := by
  rw [applyQpEnable_selected selected, if_neg (not_not.mpr disabled), unserved]
  rfl

theorem applyQpEnable_badRecord (disabled : s.qpState k = 0) (serves : s.queuesServe (qpPort k) = true) (bad : qpRecordGood (s.qpRecord k) = false) :
    s.applyQpEnable rq = (codeRange, s) := by
  rw [applyQpEnable_selected selected, if_neg (not_not.mpr disabled), serves, bad]
  rfl

theorem applyQpEnable_starts (disabled : s.qpState k = 0) (serves : s.queuesServe (qpPort k) = true) (good : qpRecordGood (s.qpRecord k) = true) :
    s.applyQpEnable rq = (0, qpStarted k s) := by
  rw [applyQpEnable_selected selected, if_neg (not_not.mpr disabled), serves, good]
  rfl

theorem applyQpDisable_selected : s.applyQpDisable rq =
    if s.qpState k = 3 then (0, s.setQpStat k 0 0)
    else if s.qpState k = 1 then (0, ((s.setQpStat k 0 2).writeBlock k).drained k)
    else (0, s) := by
  simp only [State.applyQpDisable, selected]

end Pair

/-! ### What a started pair shows -/

theorem qpStat_setQpStat_same (k f v : Nat) (s : State) : (s.setQpStat k f v).qpStat k f = v := odAt_setOdAt_same ..

theorem qpStat_setQpStat_ne {f g : Nat} (k v : Nat) (s : State) (ne : g ≠ f) : (s.setQpStat k f v).qpStat k g = s.qpStat k g :=
  odAt_setOdAt_ne s v (by unfold odKey; omega)

/-- Showing a command of OD 0x1210.03 leaves the status of every queue pair. -/
theorem qpStat_commanded {f : Nat} (rq : Requester) (d : List Byte) (k : Nat) (s : State) (low : f < 64) :
    (s.commanded rq 0x1210 3 d).qpStat k f = s.qpStat k f := by
  have other (t : State) (g v : Nat) (high : g < 64) : (t.setOd 0x1210 3 g v).qpStat k f = t.qpStat k f :=
    odAt_setOdAt_ne t v (odKey_ne low high (by omega) (by omega) (by omega) (by omega) (by omega))
  change (State.noteCommand 0x1210 3 d s).qpStat k f = _
  unfold State.noteCommand
  dsimp only
  split
  · rw [other _ _ _ (by decide), other _ _ _ (by decide)]
  · rw [other _ _ _ (by decide), other _ _ _ (by decide), other _ _ _ (by decide)]

theorem qps_commanded (rq : Requester) (x y : Nat) (d : List Byte) (s : State) : (s.commanded rq x y d).qps = s.qps := by
  change (State.noteCommand x y d s).qps = _
  unfold State.noteCommand
  dsimp only
  split <;> rfl

theorem qpStat_qpStarted (k : Nat) (s : State) : (qpStarted k s).qpStat k 0 = 1 ∧ (qpStarted k s).qpStat k 1 = 0 ∧ (qpStarted k s).qpStat k 2 = 0 ∧
    (qpStarted k s).qpStat k 3 = 0 := by
  unfold qpStarted
  refine ⟨?_, ?_, ?_, qpStat_setQpStat_same ..⟩
  · rw [qpStat_setQpStat_ne _ _ _ (by omega), qpStat_setQpStat_ne _ _ _ (by omega), qpStat_setQpStat_ne _ _ _ (by omega), qpStat_setQpStat_same]
  · rw [qpStat_setQpStat_ne _ _ _ (by omega), qpStat_setQpStat_ne _ _ _ (by omega), qpStat_setQpStat_same]
  · rw [qpStat_setQpStat_ne _ _ _ (by omega), qpStat_setQpStat_same]

/-! ### Doorbells (R393, R396) -/

section Doorbell

variable {s : State} {p : HostPort} {n : Byte} {v : BitVec 32}

/-- A tail beyond the ring, or past the part's head. -/
def tailBad (s : State) (k v : Nat) : Bool :=
  decide (s.subSize k ≤ v) || decide (s.subSize k ≤ ((s.qp k).tail + s.subSize k - s.qpStat k 1) % s.subSize k + (v + s.subSize k - (s.qp k).tail) % s.subSize k)

/-- A head beyond the ring, or past the part's tail. -/
def headBad (s : State) (k v : Nat) : Bool :=
  decide (s.compSize k ≤ v) || decide (s.unread k < (v + s.compSize k - (s.qp k).head) % s.compSize k)

theorem tailBad_iff {k v : Nat} : tailBad s k v = true ↔ s.subSize k ≤ v ∨
    s.subSize k ≤ ((s.qp k).tail + s.subSize k - s.qpStat k 1) % s.subSize k + (v + s.subSize k - (s.qp k).tail) % s.subSize k := by
  simp only [tailBad, Bool.or_eq_true, decide_eq_true_eq]

theorem headBad_iff {k v : Nat} : headBad s k v = true ↔ s.compSize k ≤ v ∨ s.unread k < (v + s.compSize k - (s.qp k).head) % s.compSize k := by
  simp only [headBad, Bool.or_eq_true, decide_eq_true_eq]

def withTail (k v : Nat) (s : State) : State := s.modQp k fun q => { q with tail := v }
def withHead (k v : Nat) (s : State) : State := s.modQp k fun q => { q with head := v }

theorem doorbells_unlinked (down : s.hostLink (hostNo p) = false) :
    exec (.submissionDoorbell p n v) s = .next s ∧ exec (.completionHeadDoorbell p n v) s = .next s :=
  ⟨congrArg Host.Outcome.next (if_pos (by simp [down])), congrArg Host.Outcome.next (if_pos (by simp [down]))⟩

variable (linked : s.hostLink (hostNo p) = true)

include linked

/-- A tail is taken; a bad one of a pair that still writes entries ends it in ERROR. -/
theorem submissionDoorbell_linked : exec (.submissionDoorbell p n v) s =
    .next (let k := qpKey (hostNo p) n.toNat
           if s.qpLives k && tailBad s k v.toNat then (withTail k v.toNat s).qpError k else withTail k v.toNat s) :=
  congrArg Host.Outcome.next (if_neg (by simp [linked]))

/-- A head is taken; of a pair that still writes entries a bad one ends it in ERROR, and a good one serves requests that wait. -/
theorem completionHeadDoorbell_linked : exec (.completionHeadDoorbell p n v) s =
    .next (let k := qpKey (hostNo p) n.toNat
           if !s.qpLives k then withHead k v.toNat s
           else if headBad s k v.toNat then (withHead k v.toNat s).qpError k else (withHead k v.toNat s).serveSlots k) :=
  congrArg Host.Outcome.next (if_neg (by simp [linked]))

end Doorbell

theorem exec_interruptCoalesceTimeout (p : HostPort) (n : Byte) (s : State) : exec (.interruptCoalesceTimeout p n) s =
    .next (let k := qpKey (hostNo p) n.toNat
           if (s.qp k).unsignalled ≠ 0 ∧ s.qpCfg k 8 ≠ 0 ∧ (s.qp k).since + 1000 * s.qpCfg k 8 ≤ s.elapsed ∧ s.qpLives k = true then s.signalQp k else s) := rfl

/-! ### The controlling host (R397, R398) -/

section Owner

theorem exec_ownershipClaim (rq : Requester) (s : State) :
    exec (.ownershipClaim rq) s = .next (s.access rq .command 0x1100 2 [1] (State.applyClaim rq)) := rfl

theorem exec_ownershipRelease (rq : Requester) (s : State) :
    exec (.ownershipRelease rq) s = .next (s.access rq .command 0x1100 2 [2] (State.applyRelease rq)) := rfl

theorem exec_forcedTakeOver (rq : Requester) (v : Byte) (s : State) :
    exec (.forcedTakeOver rq v) s = .next (s.access rq .command 0x1100 3 [v] (State.applyTakeOver v.toNat)) := rfl

variable {s : State} {rq : Requester}

theorem applyClaim_own (own : s.controls rq = true) : s.applyClaim rq = (0, s) := if_pos own

theorem applyClaim_open (other : s.controls rq = false) (free : s.claimOpen = true) : s.applyClaim rq = (0, s.setOwner (rqNo rq)) :=
  (if_neg (by simp [other])).trans (if_pos free)

theorem applyClaim_held (other : s.controls rq = false) (held : s.claimOpen = false) : s.applyClaim rq = (codeState, s) :=
  (if_neg (by simp [other])).trans (if_neg (by simp [held]))

theorem applyRelease_own (own : s.controls rq = true) : s.applyRelease rq = (0, s.setOwner 0xFF) := if_pos own

theorem applyRelease_foreign (other : s.controls rq = false) : s.applyRelease rq = (codeAccess, s) := if_neg (by simp [other])

theorem applyTakeOver_known {v : Nat} (known : v < 2 ∨ v = 0xFF) : s.applyTakeOver v = (0, s.setOwner v) := if_pos known

theorem applyTakeOver_unknown {v : Nat} (high : 2 ≤ v) (some : v ≠ 0xFF) : s.applyTakeOver v = (codeRange, s) :=
  if_neg fun known => known.elim high.not_gt some

theorem od_setCause (p b x y f : Nat) (s : State) : (s.setCause p b).od x y f = s.od x y f := by
  unfold State.setCause
  dsimp only
  split <;> rfl

theorem bit_setCause_same (p b : Nat) (s : State) : bit ((s.setCause p b).eventCause.get 0 p) b = true := by
  unfold State.setCause
  dsimp only
  split
  next set => exact set
  · change bit (Tab.get 0 p (Tab.put 0 p _ _)) b = true
    rw [get_put_same, bit_eq_testBit, testBit_setBit, if_pos rfl]

theorem eventCause_setCause_ne {p q : Nat} (ne : q ≠ p) (b : Nat) (s : State) : (s.setCause p b).eventCause.get 0 q = s.eventCause.get 0 q := by
  unfold State.setCause
  dsimp only
  split
  · rfl
  · exact get_put_ne _ _ _ ne _

theorem od_journaled {x y f : Nat} (hx : x < 65536) (hy : y < 256) (hf : f < 64) (other : isLogged x = false) (key n : Nat) (s : State) :
    (s.journaled key n).od x y f = s.od x y f := by
  unfold State.journaled
  split
  · rfl
  · split
    · rfl
    · exact (quiet_raise _ { s with journalFull := true }).od 0 x y f hx hy hf other

/-- A new owner is shown, and signalled on both ports (R397). -/
theorem setOwner_shows {v : Nat} (new : s.od 0x1100 1 0 ≠ v) : (s.setOwner v).od 0x1100 1 0 = v ∧
    bit ((s.setOwner v).eventCause.get 0 0) 1 = true ∧ bit ((s.setOwner v).eventCause.get 0 1) 1 = true := by
  rw [State.setOwner, if_neg new]
  refine ⟨?_, ?_, bit_setCause_same ..⟩
  · rw [od_setCause, od_setCause, od_journaled (by omega) (by omega) (by omega) rfl, od_setOd_same]
  · rw [eventCause_setCause_ne (by omega), bit_setCause_same]

end Owner

/-- Settles O37: the commands by their objects' answers, the doorbells by `tailBad` and `headBad`, the controlling host by `setOwner`. -/
theorem queuePairsAndOwnership : Obligations.QueuePairsAndOwnership := by
  intro s
  refine ⟨fun rq ok => ⟨fun foreign => ?enableForeign, fun k selected => ⟨fun live => ?enableOpen, fun disabled unserved => ?enableUnserved,
      fun disabled serves bad => ?enableBad, fun disabled serves good => ?enable⟩⟩,
    fun rq ok => ⟨fun foreign => ?disableForeign, fun k selected => ⟨fun error => ?disableError, fun enabled => ?drains, fun rests => ?disableRests⟩⟩,
    fun p n v => ⟨doorbells_unlinked, fun linked => ⟨fun dead => ?dead, fun good => ?tailGood, fun lives bad => ?tailBad, fun lives good => ?headGood,
      fun lives bad => ?headBad⟩, fun waits => ?signal, fun rests => ?noSignal⟩,
    fun rq ok => ⟨fun own => command_taken (exec_ownershipClaim rq s) ok (applyClaim_own own),
      fun other free => command_taken (exec_ownershipClaim rq s) ok (applyClaim_open other free),
      fun other held => command_answers (exec_ownershipClaim rq s) ok (by decide) (applyClaim_held other held)⟩,
    fun rq ok => ⟨fun own => command_taken (exec_ownershipRelease rq s) ok (applyRelease_own own),
      fun other => command_answers (exec_ownershipRelease rq s) ok (by decide) (applyRelease_foreign other)⟩,
    fun rq v ok => ⟨fun known => command_taken (exec_forcedTakeOver rq v s) ok (applyTakeOver_known known),
      fun high some => command_answers (exec_forcedTakeOver rq v s) ok (by decide) (applyTakeOver_unknown high some)⟩,
    fun v new => setOwner_shows new⟩
  case enableForeign => exact command_answers (exec_queuePairEnable rq s) ok (by decide) (applyQpEnable_foreign foreign)
  case enableOpen => exact command_answers (exec_queuePairEnable rq s) ok (by decide) (applyQpEnable_open selected live)
  case enableUnserved => exact command_answers (exec_queuePairEnable rq s) ok (by decide) (applyQpEnable_unserved selected disabled unserved)
  case enableBad => exact command_answers (exec_queuePairEnable rq s) ok (by decide) (applyQpEnable_badRecord selected disabled serves bad)
  case enable =>
    have done := command_taken (exec_queuePairEnable rq s) ok (applyQpEnable_starts selected disabled serves good)
    obtain ⟨state, head, tail, held⟩ := qpStat_qpStarted k s
    refine ⟨_, done, pending_of_next done, (qpStat_commanded _ _ _ _ (by omega)).trans state, (qpStat_commanded _ _ _ _ (by omega)).trans head,
      (qpStat_commanded _ _ _ _ (by omega)).trans tail, (qpStat_commanded _ _ _ _ (by omega)).trans held, ?_, answer_results ..⟩
    unfold State.qp
    rw [qps_commanded]
    exact get_put_same QPair.fresh QPair.fresh k s.qps
  case disableForeign => exact command_answers (exec_queuePairDisable rq s) ok (by decide) (applyQpDisable_foreign foreign)
  case disableError =>
    exact command_taken (exec_queuePairDisable rq s) ok ((applyQpDisable_selected selected).trans (if_pos error))
  case drains =>
    refine command_taken (exec_queuePairDisable rq s) ok ((applyQpDisable_selected selected).trans ?_)
    rw [if_neg (by omega), if_pos enabled]
  case disableRests =>
    refine command_taken (exec_queuePairDisable rq s) ok ((applyQpDisable_selected selected).trans ?_)
    rw [if_neg (by omega), if_neg (by omega)]
  case dead =>
    rw [submissionDoorbell_linked linked, completionHeadDoorbell_linked linked]
    dsimp only
    rw [dead]
    exact ⟨rfl, rfl⟩
  case tailGood =>
    rw [submissionDoorbell_linked linked]
    refine congrArg Host.Outcome.next (if_neg fun bad => good (tailBad_iff.mp ?_))
    exact (Bool.and_eq_true_iff.mp bad).2
  case tailBad =>
    rw [submissionDoorbell_linked linked]
    exact congrArg Host.Outcome.next (if_pos (Bool.and_eq_true_iff.mpr ⟨lives, tailBad_iff.mpr bad⟩))
  case headGood =>
    rw [completionHeadDoorbell_linked linked]
    exact congrArg Host.Outcome.next ((if_neg (by simp [lives])).trans (if_neg fun bad => good (headBad_iff.mp bad)))
  case headBad =>
    rw [completionHeadDoorbell_linked linked]
    exact congrArg Host.Outcome.next ((if_neg (by simp [lives])).trans (if_pos (headBad_iff.mpr bad)))
  case signal =>
    rw [exec_interruptCoalesceTimeout]
    exact congrArg Host.Outcome.next (if_pos waits)
  case noSignal =>
    rw [exec_interruptCoalesceTimeout]
    exact congrArg Host.Outcome.next (if_neg rests)

end Sys2Proof.Proofs
end

section

/-! ## Ring entries and admission (O38; 12 R289 to R297, R307)

Consuming an entry moves the head of its ring and writes the status block: it touches the dictionary's objects of ports, queue pairs and serving counters,
what leaves the part, and the pair's signalling (`RingOnly`). What an entry is judged by is therefore as it was before. -/

namespace Sys2Proof.Proofs

open Sys2Proof.Machine Sys2Proof.Laws

/-! ### What consuming an entry leaves (R289, R393, R394) -/

/-- The objects that consuming an entry writes: OD 0x1200, 0x1210 and 0x5803. -/
def isRing (x : Nat) : Bool := x == 0x1200 || x == 0x1210 || x == 0x5803

/-- `t` differs from `s` at most in the ring objects, in what has left the part, and in the queue pairs' signalling. -/
structure RingOnly (s t : State) : Prop where
  shape : ∃ d o q, t = { s with dict := d, out := o, qps := q }
  od : ∀ i x y f, x < 65536 → y < 256 → f < 64 → isRing x = false → t.odAt i x y f = s.odAt i x y f

theorem RingOnly.refl (s : State) : RingOnly s s := ⟨⟨s.dict, s.out, s.qps, rfl⟩, fun _ _ _ _ _ _ _ _ => rfl⟩

theorem RingOnly.trans {s t u : State} (h : RingOnly s t) (k : RingOnly t u) : RingOnly s u := by
  obtain ⟨⟨_, _, _, rfl⟩, ht⟩ := h
  obtain ⟨⟨d, o, q, rfl⟩, hu⟩ := k
  exact ⟨⟨d, o, q, rfl⟩, fun i x y f hx hy hf other => (hu i x y f hx hy hf other).trans (ht i x y f hx hy hf other)⟩

theorem ringOnly_setOdAt {x y f : Nat} (ring : isRing x = true) (hx : x < 65536) (hy : y < 256) (hf : f < 64) (i v : Nat) (s : State) :
    RingOnly s (s.setOdAt i x y f v) := by
  refine ⟨⟨_, s.out, s.qps, rfl⟩, fun j x' y' f' hx' hy' hf' other => odAt_setOdAt_ne s v (odKey_ne hf' hf hy' hy hx' hx ?_)⟩
  rintro ⟨-, rfl, -⟩
  exact Bool.false_ne_true (other.symm.trans ring)

theorem ringOnly_emit (o : Out) (s : State) : RingOnly s (s.emit o) := ⟨⟨s.dict, _, s.qps, rfl⟩, fun _ _ _ _ _ _ _ _ => rfl⟩

theorem ringOnly_signalQp (k : Nat) (s : State) : RingOnly s (s.signalQp k) := ⟨⟨s.dict, _, _, rfl⟩, fun _ _ _ _ _ _ _ _ => rfl⟩

section Consume

variable {k : Nat} (port : qpPort k < 2)

include port

theorem ringOnly_writeBlock (s : State) : RingOnly s (s.writeBlock k) := by
  have written (o : Out) : RingOnly s ((s.emit o).bump 0x1200 (qpPort k + 1) 8 64) :=
    (ringOnly_emit o s).trans (ringOnly_setOdAt rfl (by omega) (by omega) (by omega) ..)
  unfold State.writeBlock
  dsimp only
  split
  · exact (written _).trans (ringOnly_signalQp ..)
  · exact written _

theorem qpStat_writeBlock (f : Nat) (low : f < 64) (s : State) : (s.writeBlock k).qpStat k f = s.qpStat k f := by
  have written (o : Out) : ((s.emit o).bump 0x1200 (qpPort k + 1) 8 64).qpStat k f = s.qpStat k f :=
    odAt_bumpAt_ne (s.emit o) 64 (odKey_ne low (by omega) (by omega) (by omega) (by omega) (by omega) (by omega))
  unfold State.writeBlock
  dsimp only
  split
  · exact written _
  · exact written _

theorem ringOnly_consume (s : State) : RingOnly s (s.consume k) :=
  ((ringOnly_setOdAt rfl (by omega) (by omega) (by omega) ..).trans (ringOnly_setOdAt rfl (by omega) (by omega) (by omega) ..)).trans
    ((ringOnly_setOdAt rfl (by omega) (by omega) (by omega) ..).trans (ringOnly_writeBlock port _))

/-- Consuming an entry moves the head and counts; the pair's state and its requests stay. -/
theorem qpStat_consume {f : Nat} (low : f < 5) (other : f ≠ 1) (s : State) : (s.consume k).qpStat k f = s.qpStat k f := by
  unfold State.consume
  rw [qpStat_writeBlock port f (by omega)]
  have counted (t : State) : (t.bump 0x5803 0 0 1).qpStat k f = t.qpStat k f :=
    odAt_bumpAt_ne t 1 (odKey_ne (by omega) (by omega) (by omega) (by omega) (by omega) (by omega) (by omega))
  have taken (t : State) : (t.bumpAt k 0x1210 4 5 1).qpStat k f = t.qpStat k f :=
    odAt_bumpAt_ne t 1 (odKey_ne (by omega) (by omega) (by omega) (by omega) (by omega) (by omega) (by omega))
  rw [counted, taken, qpStat_setQpStat_ne _ _ _ other]

end Consume

theorem qpPort_qpKey (p : HostPort) (n : Byte) : qpPort (qpKey (hostNo p) n.toNat) < 2 := by
  have := n.isLt
  cases p <;> simp only [hostNo, qpKey, qpPort] <;> omega

/-! ### What entries are judged by -/

section Judged

variable {s t : State} (only : RingOnly s t)

include only

theorem RingOnly.reqList : t.reqList = s.reqList := by
  obtain ⟨_, _, _, rfl⟩ := only.shape
  rfl

theorem RingOnly.keptOf (c : Nat) : t.keptOf c = s.keptOf c := by
  obtain ⟨_, _, _, rfl⟩ := only.shape
  rfl

theorem RingOnly.now : t.now = s.now := by
  obtain ⟨_, _, _, rfl⟩ := only.shape
  rfl

theorem RingOnly.reqOfCtx (c : Nat) : t.reqOfCtx c = s.reqOfCtx c := congrArg (List.find? _) only.reqList

theorem RingOnly.renewLate (c : Nat) : t.renewLate c = s.renewLate c := by
  have ttl : t.ttl .cellar = s.ttl .cellar := congrArg (1000000000 * ·) (only.od 0 0x5402 2 0 (by omega) (by omega) (by omega) rfl)
  obtain ⟨⟨_, _, _, rfl⟩, -⟩ := only
  unfold State.renewLate
  rw [ttl]
  rfl

theorem RingOnly.grammar (slot : Nat) : t.grammar slot = s.grammar slot := by
  obtain ⟨_, _, _, rfl⟩ := only.shape
  rfl

theorem RingOnly.kept : t.kept = s.kept := by
  obtain ⟨_, _, _, rfl⟩ := only.shape
  rfl

theorem RingOnly.blobs : t.blobs = s.blobs := by
  obtain ⟨_, _, _, rfl⟩ := only.shape
  rfl

end Judged

/-- What an entry names exists by the byte strings, the kept contexts and objects that consuming one does not write. -/
theorem namesGood_congr {s t : State} (blobs : t.blobs = s.blobs) (kept : t.kept = s.kept)
    (od : ∀ x y f, x < 65536 → y < 256 → f < 64 → isRing x = false → t.od x y f = s.od x y f) (e : SubEntry) : t.namesGood e = s.namesGood e := by
  have blob (i x y : Nat) : t.blobAt i x y = s.blobAt i x y := congrArg (·.get [] (odKey i x y 0)) blobs
  have grammar (slot : Nat) : t.grammar slot = s.grammar slot := blob ..
  have keptOf (c : Nat) : t.keptOf c = s.keptOf c := congrArg (·.get none c) kept
  have entries : t.entries = s.entries := congrArg entriesOf (blob ..)
  have endpoint : t.endpoint = s.endpoint := by
    unfold State.endpoint
    rw [od 0x4011 0 0 (by omega) (by omega) (by omega) rfl, od 0x4011 0 1 (by omega) (by omega) (by omega) rfl]
  unfold State.namesGood State.allParts
  simp only [grammar, keptOf, entries, endpoint, od 0x3402 0 5 (by omega) (by omega) (by omega) rfl,
    od 0x4111 0 0 (by omega) (by omega) (by omega) rfl]

/-! ### SUBMIT (R289, R290) -/

section Submit

/-- The start state of the grammar that an entry names. -/
def entryGrammar (e : SubEntry) (s : State) : Nat :=
  if e.grammar = 255 then 0 else if e.startState.toNat = 0xFFFFFFFF then gramStart (s.grammar e.grammar.toNat) else e.startState.toNat

/-- The next numbers of requests and of their order. -/
def numbered (id order : Nat) (s : State) : State := { s with nextReq := id, nextOrder := order }

theorem ringOnly_setQpStat {f : Nat} (low : f < 64) (k v : Nat) (s : State) : RingOnly s (s.setQpStat k f v) :=
  ringOnly_setOdAt rfl (by omega) (by omega) low k v s

/-- A request holds a slot of the completion ring, and the pair counts it. -/
def slotHeld (k held : Nat) (s : State) : State := (s.holdSlot k).setQpStat k 4 held

theorem ringOnly_slotHeld (k held : Nat) (s : State) : RingOnly s (slotHeld k held s) :=
  (ringOnly_setQpStat (f := 3) (by omega) k _ s).trans (ringOnly_setQpStat (f := 4) (by omega) k held _)

theorem qpState_slotHeld (k held : Nat) (s : State) : (slotHeld k held s).qpState k = s.qpState k :=
  (qpStat_setQpStat_ne k held (s.holdSlot k) (by omega)).trans (qpStat_setQpStat_ne k _ s (by omega))

/-- The part once an entry is consumed (`u`) and its request is in the table, as the request of number `id` and order `order`, with `held` slots counted. -/
def submitted (p : HostPort) (n : Byte) (e : SubEntry) (gram id order held : Nat) (u : State) : State :=
  (slotHeld (qpKey (hostNo p) n.toNat) (held + 1) (numbered (id + 1) (order + 1) u)).setReq id (some (newRequest p n.toNat e order gram))

/-- What becomes of a request that has entered the table. -/
def submitJudged (p : HostPort) (k id : Nat) (e : SubEntry) (s : State) : State :=
  if s.qpState k = 2 then s.finish id 12 [] 0 s.now
  else if !(fieldsGood e && s.namesGood e) then s.finish id 7 [] 0 s.now
  else if s.odAt e.tenant.toNat 0x5801 0 0 = 0 then s.finish id 8 [] 0 s.now
  else
    let s := s.hostRead p e.promptAddr.toNat (4 * e.promptCount.toNat) (.prompt id)
    if e.biasCount = 0 then s else s.hostRead p e.biasAddr.toNat (8 * e.biasCount.toNat) (.bias id)

variable {s u : State} {p : HostPort} {n : Byte} {e : SubEntry} {g id order held : Nat}

theorem submitted_od (only : RingOnly s u) (i x y f : Nat) (hx : x < 65536) (hy : y < 256) (hf : f < 64) (other : isRing x = false) :
    (submitted p n e g id order held u).odAt i x y f = s.odAt i x y f := by
  have slot := (ringOnly_slotHeld (qpKey (hostNo p) n.toNat) (held + 1) (numbered (id + 1) (order + 1) u)).od i x y f hx hy hf other
  have consumed := only.od i x y f hx hy hf other
  exact slot.trans consumed

theorem submitted_namesGood (only : RingOnly s u) : (submitted p n e g id order held u).namesGood e = s.namesGood e :=
  namesGood_congr (t := submitted p n e g id order held u) only.blobs only.kept (submitted_od only 0) e

theorem submitted_now (only : RingOnly s u) : (submitted p n e g id order held u).now = s.now := by
  obtain ⟨⟨d, o, q, rfl⟩, -⟩ := only
  rfl

/-- The status of a queue pair is in the dictionary. -/
theorem qpStat_congr {s t : State} (h : t.dict = s.dict) (k f : Nat) : t.qpStat k f = s.qpStat k f := odAt_congr h ..

theorem dict_submitted : (submitted p n e g id order held u).dict =
    (slotHeld (qpKey (hostNo p) n.toNat) (held + 1) (numbered (id + 1) (order + 1) u)).dict := rfl

theorem dict_numbered (a b : Nat) (u : State) : (numbered a b u).dict = u.dict := rfl

theorem submitted_qpState :
    (submitted p n e g id order held u).qpState (qpKey (hostNo p) n.toNat) = u.qpState (qpKey (hostNo p) n.toNat) :=
  (qpStat_congr dict_submitted _ 0).trans ((qpState_slotHeld _ _ _).trans (qpStat_congr (dict_numbered ..) _ 0))

theorem execSubmit_consumed (may : s.mayConsume (qpKey (hostNo p) n.toNat) = true) (hu : s.consume (qpKey (hostNo p) n.toNat) = u) :
    execSubmit p n e s = .next (submitJudged p (qpKey (hostNo p) n.toNat) u.nextReq e
      (submitted p n e (entryGrammar e u) u.nextReq u.nextOrder
        ((numbered (u.nextReq + 1) (u.nextOrder + 1) u).qpStat (qpKey (hostNo p) n.toNat) 4) u)) := by
  unfold execSubmit submitJudged submitted slotHeld numbered entryGrammar
  simp only [may, hu, Bool.not_true, Bool.false_eq_true, if_false]

theorem exec_submit (may : s.mayConsume (qpKey (hostNo p) n.toNat) = true) :
    exec (.submit p n e) s = .next (submitJudged p (qpKey (hostNo p) n.toNat) s.nextReq e
      (submitted p n e (entryGrammar e s) s.nextReq s.nextOrder (s.qpStat (qpKey (hostNo p) n.toNat) 4) (s.consume (qpKey (hostNo p) n.toNat)))) := by
  have only := ringOnly_consume (qpPort_qpKey p n) s
  have slots := qpStat_consume (qpPort_qpKey p n) (f := 4) (by omega) (by omega) s
  have grammar : entryGrammar e (s.consume (qpKey (hostNo p) n.toNat)) = entryGrammar e s := by
    unfold entryGrammar
    rw [only.grammar]
  have numbers : (s.consume (qpKey (hostNo p) n.toNat)).nextReq = s.nextReq ∧ (s.consume (qpKey (hostNo p) n.toNat)).nextOrder = s.nextOrder := by
    obtain ⟨d, o, q, shape⟩ := only.shape
    rw [shape]
    exact ⟨rfl, rfl⟩
  have done := execSubmit_consumed (e := e) may rfl
  rw [qpStat_congr (dict_numbered ..), numbers.1, numbers.2, grammar, slots] at done
  exact done

/-- The request of an ENABLED pair is judged by the entry's fields and by what it names. -/
theorem submitJudged_enabled {id order held : Nat} (only : RingOnly s u) (enabled : u.qpState (qpKey (hostNo p) n.toNat) = 1) :
    submitJudged p (qpKey (hostNo p) n.toNat) id e (submitted p n e g id order held u) =
      if !(fieldsGood e && s.namesGood e) then (submitted p n e g id order held u).finish id 7 [] 0 s.now
      else if s.odAt e.tenant.toNat 0x5801 0 0 = 0 then (submitted p n e g id order held u).finish id 8 [] 0 s.now
      else if e.biasCount = 0 then (submitted p n e g id order held u).hostRead p e.promptAddr.toNat (4 * e.promptCount.toNat) (.prompt id)
      else ((submitted p n e g id order held u).hostRead p e.promptAddr.toNat (4 * e.promptCount.toNat) (.prompt id)).hostRead p
        e.biasAddr.toNat (8 * e.biasCount.toNat) (.bias id) := by
  unfold submitJudged
  rw [submitted_qpState, enabled, submitted_namesGood only, submitted_now only, submitted_od only _ _ _ _ (by omega) (by omega) (by omega) rfl]
  rfl

end Submit

/-! ### CANCEL and the tier entries (R293, R295, R297) -/

section Entries

variable {s : State} {p : HostPort} {n : Byte}

/-- While the ring may not be consumed, none of its entries does anything. -/
theorem exec_entry_barred (may : s.mayConsume (qpKey (hostNo p) n.toNat) = false) (e : SubEntry) (tag : EntryTag) (ctx : BitVec 32) :
    ∀ c ∈ [Instr.submit p n e, .cancel p n tag, .pause p n tag ctx, .renew p n tag ctx, .discard p n tag ctx], exec c s = .next s := by
  have barred : (!s.mayConsume (qpKey (hostNo p) n.toNat)) = true := by simp [may]
  simp only [List.forall_mem_cons, List.not_mem_nil, false_imp_iff, implies_true, and_true]
  exact ⟨congrArg Host.Outcome.next (if_pos barred), congrArg Host.Outcome.next (if_pos barred), congrArg Host.Outcome.next (if_pos barred),
    congrArg Host.Outcome.next (if_pos barred), congrArg Host.Outcome.next (if_pos barred)⟩

/-- The requests of a port that an entry's tag names. -/
def taggedBy (p : HostPort) (tag : EntryTag) (e : Nat × Request) : Bool := e.2.port == p && e.2.entry.tag == tag.tag && e.2.phase != .ended

/-- What CANCEL does once its entry is consumed. -/
def cancelled (p : HostPort) (k : Nat) (tag : EntryTag) (s : State) : State :=
  if tag.reserved then s.plainEntry k tag.tag.toNat 0 7
  else match s.reqList.find? (taggedBy p tag) with
  | none => s.bump 0x5803 0 17 1
  | some (id, _) => (s.endAtBoundary id 4).settleDrain

theorem exec_cancel (may : s.mayConsume (qpKey (hostNo p) n.toNat) = true) (tag : EntryTag) :
    exec (.cancel p n tag) s = .next (cancelled p (qpKey (hostNo p) n.toNat) tag (s.consume (qpKey (hostNo p) n.toNat))) := by
  have taken : ¬ (!s.mayConsume (qpKey (hostNo p) n.toNat)) = true := by simp [may]
  exact congrArg Host.Outcome.next (if_neg taken)

/-- What a tier entry does once it is consumed: nothing consuming it did bears on how it is judged. -/
theorem tierEntry_consumed {u : State} (only : RingOnly s u) (k : Nat) (tag : EntryTag) (c action : Nat) :
    u.tierEntry k tag c action =
      if tag.reserved then u.plainEntry k tag.tag.toNat c 7
      else if action ≠ 5 ∧ (s.reqOfCtx c).isSome then u.plainEntry k tag.tag.toNat c 12
      else if (s.keptOf c).isNone && (s.reqOfCtx c).isNone then u.plainEntry k tag.tag.toNat c 7
      else if action = 5 ∧ s.renewLate c = true then u.plainEntry k tag.tag.toNat c 7
      else (if action = 4 then { u.tierAction action c with kept := (u.tierAction action c).kept.put none c none } else u.tierAction action c).plainEntry
        k tag.tag.toNat c 14 := by
  unfold State.tierEntry
  rw [only.reqOfCtx, only.keptOf, only.renewLate]

theorem cancelled_unknown {k : Nat} {tag : EntryTag} (fair : tag.reserved = false) (unknown : s.reqList.find? (taggedBy p tag) = none) :
    cancelled p k tag s = s.bump 0x5803 0 17 1 := by
  simp [cancelled, fair, unknown]

theorem cancelled_known {k id : Nat} {tag : EntryTag} {r : Request} (fair : tag.reserved = false)
    (known : s.reqList.find? (taggedBy p tag) = some (id, r)) : cancelled p k tag s = (s.endAtBoundary id 4).settleBarrier.settleRetire := by
  simp only [cancelled, fair, known]
  rfl

theorem exec_tierEntries (may : s.mayConsume (qpKey (hostNo p) n.toNat) = true) (tag : EntryTag) (ctx : BitVec 32) :
    let u := s.consume (qpKey (hostNo p) n.toNat)
    exec (.pause p n tag ctx) s = .next (u.tierEntry (qpKey (hostNo p) n.toNat) tag ctx.toNat 1) ∧
    exec (.renew p n tag ctx) s = .next (u.tierEntry (qpKey (hostNo p) n.toNat) tag ctx.toNat 5) ∧
    exec (.discard p n tag ctx) s = .next (u.tierEntry (qpKey (hostNo p) n.toNat) tag ctx.toNat 4) := by
  have taken : ¬ (!s.mayConsume (qpKey (hostNo p) n.toNat)) = true := by simp [may]
  exact ⟨congrArg Host.Outcome.next (if_neg taken), congrArg Host.Outcome.next (if_neg taken), congrArg Host.Outcome.next (if_neg taken)⟩

end Entries

/-! ### Admission, the bucket and the tenant's configuration (R294, R295, R307) -/

section Admission

variable {s : State} {req : BitVec 32} {r : Request}

/-- What ADMISSION does with a pending request. -/
def admissionJudged (n : Nat) (r : Request) (s : State) : State :=
  if r.phase ≠ .pending ∨ s.earlierPending r = true ∨ s.admits = false then s
  else if s.odAt r.tenant 0x5801 0 0 = 0 then s.finish n 8 [] 0 s.now
  else if pastDeadline r.entry s.now then s.finish n 3 [] 0 s.now
  else if s.level r.tenant < (min r.entry.promptCount.toNat (s.odAt r.tenant 0x5801 0 2) : Nat) then
    (if s.odAt r.tenant 0x5801 0 3 = 1 then s.finish n 6 [] 0 s.now else s)
  else if s.od 0x5805 0 0 ≤ s.activeCount then s
  else if (if r.ctx = 0 then s.noRecord else (s.keptOf r.ctx).isNone) then s.finish n 10 [] 0 s.now
  else s.admitReq n r

theorem exec_admission_some (found : s.req req.toNat = some r) : exec (.admission req) s = .next (admissionJudged req.toNat r s) := by
  change execAdmission req s = _
  unfold execAdmission
  simp only [found]
  rfl

theorem exec_admission_none (found : s.req req.toNat = none) : exec (.admission req) s = .next s := by
  change execAdmission req s = _
  unfold execAdmission
  simp only [found]

theorem exec_pendingDeadlineExpired_some (found : s.req req.toNat = some r) : exec (.pendingDeadlineExpired req) s =
    .next (if (r.phase = .pending ∨ r.phase = .reading) ∧ pastDeadline r.entry s.now = true then s.finish req.toNat 3 [] 0 s.now else s) := by
  change execPendingDeadlineExpired req s = _
  unfold execPendingDeadlineExpired
  simp only [found]

theorem exec_pendingDeadlineExpired_none (found : s.req req.toNat = none) : exec (.pendingDeadlineExpired req) s = .next s := by
  change execPendingDeadlineExpired req s = _
  unfold execPendingDeadlineExpired
  simp only [found]

/-- No context can be had for a request: no record is free for a new one, or its kept one is gone. -/
theorem noContext_iff : (if r.ctx = 0 then s.noRecord else (s.keptOf r.ctx).isNone) = true ↔
    (r.ctx = 0 → s.noRecord = true) ∧ (r.ctx ≠ 0 → s.keptOf r.ctx = none) := by
  split <;> simp_all

theorem hasContext_iff : ¬ (if r.ctx = 0 then s.noRecord else (s.keptOf r.ctx).isNone) = true ↔
    (r.ctx = 0 → s.noRecord = false) ∧ (r.ctx ≠ 0 → s.keptOf r.ctx ≠ none) := by
  split <;> simp_all

theorem applyTenant_bad {t : Nat} {cfg : List Byte} (bad : 1 < leAt cfg 0 1 ∨ 10000000 < leAt cfg 1 4 ∨ 16777216 < leAt cfg 5 4 ∨ 1 < leAt cfg 9 1) :
    s.applyTenant t cfg = (codeRange, s) := if_pos bad

theorem applyTenant_on {t : Nat} {cfg : List Byte} (good : ¬ (1 < leAt cfg 0 1 ∨ 10000000 < leAt cfg 1 4 ∨ 16777216 < leAt cfg 5 4 ∨ 1 < leAt cfg 9 1))
    (on : leAt cfg 0 1 ≠ 0) : s.applyTenant t cfg = (0, (s.putValue t 0x5801 0 cfg).setLevel t (min (s.level t) (leAt cfg 5 4 : Nat))) := by
  have off : ¬ (leAt cfg 0 1 == 0) = true := by simpa using on
  exact (if_neg good).trans (congrArg (Prod.mk 0) (if_neg off))

theorem exec_tenantConfigWrite (rq : Requester) (cfg : List Byte) : exec (.tenantConfigWrite rq cfg) s =
    .next (s.access rq .write 0x5801 0 cfg (State.applyTenant (s.odAt (rqNo rq) 0x5800 1 0) cfg)) := rfl

end Admission

/-- Settles O38: what consuming an entry writes bears on none of the conditions that the entry is judged by. -/
theorem entriesAreConsumedAndAdmitted : Obligations.EntriesAreConsumedAndAdmitted := by
  unfold Obligations.EntriesAreConsumedAndAdmitted
  intro s
  refine ⟨fun p n => ⟨fun barred e tag ctx => exec_entry_barred barred e tag ctx, fun may => ⟨fun e => ?submit, fun tag => ?cancel, fun tag ctx => ?tier⟩⟩,
    fun req => ⟨fun none => ⟨exec_admission_none none, exec_pendingDeadlineExpired_none none⟩, fun r found => ?admission⟩,
    fun other => congrArg Host.Outcome.next (if_neg (by simp [other])), fun t admitting one => ?refill, fun rq cfg ok => ?tenant⟩
  case submit =>
    have only := ringOnly_consume (qpPort_qpKey p n) s
    have state := qpStat_consume (qpPort_qpKey p n) (f := 0) (by omega) (by omega) s
    refine ⟨fun isOpen good names tenant => ?_, fun isOpen bad => ?_⟩
    · rw [exec_submit may, submitJudged_enabled only (state.trans isOpen), if_neg (by simp [good, names]), if_neg tenant]
      exact ⟨fun none => congrArg Host.Outcome.next (if_pos none), fun some => congrArg Host.Outcome.next (if_neg some)⟩
    · rw [exec_submit may, submitJudged_enabled only (state.trans isOpen), if_pos (by simp [bad])]
      rfl
  case cancel =>
    have only := ringOnly_consume (qpPort_qpKey p n) s
    refine ⟨fun reserved => ?_, fun fair unknown => ?_, fun id r fair known => ?_⟩
    · exact (exec_cancel may tag).trans (congrArg Host.Outcome.next (if_pos reserved))
    · rw [exec_cancel may tag, cancelled_unknown fair (only.reqList ▸ unknown)]
    · rw [exec_cancel may tag, cancelled_known fair (only.reqList ▸ known)]
  case tier =>
    have only := ringOnly_consume (qpPort_qpKey p n) s
    obtain ⟨pause, renew, discard⟩ := exec_tierEntries (p := p) may tag ctx
    simp only [List.forall_mem_cons, List.not_mem_nil, false_imp_iff, implies_true, and_true]
    rw [pause, renew, discard]
    simp only [tierEntry_consumed only]
    refine ⟨fun reserved => by simp [reserved], fun fair => ⟨fun active => ?_, fun idle unknown => ?_, fun idle known => ?_⟩⟩
    · obtain ⟨x, hx⟩ := Option.ne_none_iff_exists'.mp active
      simp [fair, hx]
    · simp [fair, idle, unknown]
    · obtain ⟨x, hx⟩ := Option.ne_none_iff_exists'.mp known
      simp +contextual [fair, idle, hx]
  case admission =>
    rw [exec_admission_some found, exec_pendingDeadlineExpired_some found]
    refine ⟨fun bars => congrArg Host.Outcome.next (if_pos bars), fun pending first admits off => ?_,
      fun pending first admits on => ⟨fun late => ?_, fun timely tokens => ?_⟩,
      fun waits late => congrArg Host.Outcome.next (if_pos ⟨waits, late⟩), fun stays => congrArg Host.Outcome.next (if_neg ?_)⟩
    · simp [admissionJudged, pending, first, admits, off]
    · simp [admissionJudged, pending, first, admits, on, late]
    · have judged : admissionJudged req.toNat r s = if s.od 0x5805 0 0 ≤ s.activeCount then s
          else if (if r.ctx = 0 then s.noRecord else (s.keptOf r.ctx).isNone) then s.finish req.toNat 10 [] 0 s.now
          else s.admitReq req.toNat r := by
        unfold admissionJudged
        rw [if_neg (by simp [pending, first, admits]), if_neg on, if_neg (by simp [timely]), if_neg (not_lt.mpr tokens)]
      rw [judged]
      refine ⟨fun full => congrArg Host.Outcome.next (if_pos full), fun room new old => ?_, fun room new old => ?_⟩
      · rw [if_neg (not_le.mpr room), if_pos (noContext_iff.mpr ⟨new, old⟩)]
      · rw [if_neg (not_le.mpr room), if_neg (hasContext_iff.mpr ⟨new, old⟩)]
    · rintro ⟨waits, late⟩
      rcases stays with active | timely
      · rcases waits with h | h <;> rw [active] at h <;> cases h
      · exact Bool.false_ne_true (timely.symm.trans late)
  case refill =>
    have refills : exec .bucketRefill s = .next (s.tenants.foldl (fun s t => s.refill t) s) := congrArg Host.Outcome.next (if_pos admitting)
    rw [refills, one]
    rfl
  case tenant =>
    exact ⟨fun bad => write_answers (exec_tenantConfigWrite rq cfg) ok (by decide) (applyTenant_bad bad),
      fun good on => write_taken (exec_tenantConfigWrite rq cfg) ok (applyTenant_on good on)⟩

end Sys2Proof.Proofs
end

section

/-! ## Selection, tokens and grammars (O39; 12 R292 to R307, 11 R285, 15 R368) -/

namespace Sys2Proof.Proofs

open Sys2Proof.Machine Sys2Proof.Laws

/-! ### Selection (R301 to R303) -/

section Selection

variable {s : State} {step : BitVec 64} {logits heads : List (List Logit)} {upset : Option Upset} {h : StepHdr}

/-- The parameters of a step with its header. -/
def stepSampling (s : State) (id : Nat) (h : StepHdr) : Sampling := s.sampling id h.ctx.toNat h.tree.source.toNat

/-- Whether the token stage, or its grammar unit where the step needs it, is gated (R210). -/
def selectionGated (s : State) (id : Nat) (h : StepHdr) : Bool :=
  let en := cfgOf (s.stepRec id).cfg 0x2120 0 0
  !bit en 8 || ((stepSampling s id h).slot != 255 && !bit en 9)

/-- What a step's selection finds. -/
def selectionWalk (s : State) (id : Nat) (h : StepHdr) (logits : List (List Logit)) : Walk :=
  let p := stepSampling s id h
  let last := h.positions.toNat - 1
  let start : Walk := { words := [], path := [], ended := false, gram := p.gram, drawn := 0, nan := false }
  if logits = [] then start else if h.tree.source.toNat == 0 && decide (1 < h.tree.count.toNat) then s.walk p [] logits last 1 last p.gram start
  else s.walk p h.tree.nodes logits 0 8 0 p.gram start

/-- The guesses that leave with the tokens of a step of class H. -/
def selectionGuesses (s : State) (id : Nat) (h : StepHdr) (w : Walk) (heads : List (List Logit)) : List Nat × Bool :=
  if h.cls = 1 && !w.ended && !w.nan && w.words != [] then s.guesses (stepSampling s id h) (heads.take 4) w.gram else ([], false)

/-- The counts of a selection (OD 0x5C01, 0x5C22). -/
def selectionCounted (drawn cold bans ended nodes : Nat) (s : State) : State :=
  ((((s.bump 0x5C01 0 0 drawn).bump 0x5C01 0 1 cold).bump 0x5C01 0 2 bans).bump 0x5C01 0 3 ended).bump 0x5C22 0 1 nodes

/-- The admitting part notes when a step was selected. -/
def selectionNoted (id : Nat) (s : State) : State := if s.isAdmitting then { s with selectedAt := s.selectedAt.put 0 id s.now } else s

/-- What a selection without a fault counts and sends. -/
def selected (id : Nat) (h : StepHdr) (logits : List (List Logit)) (w : Walk) (guesses : List Nat) (s : State) : State :=
  let p := stepSampling s id h
  let source := h.tree.source.toNat
  let m := if source = 0 then 0 else w.path.length
  (selectionNoted id (selectionCounted w.drawn (if p.temperature % 32768 = 0 then w.drawn else 0) (w.path.map fun i => bansOf p (logits.getD i [])).sum
    (if w.ended then 1 else 0) (if source = 0 then 0 else h.tree.count.toNat) s)).sendTokens id h.ctx.toNat h.cls.toNat m p.mode
      (tokenBytes h.ctx.toNat w.words m (if source = 0 then [] else w.path) guesses)

theorem exec_tokenSelection_running (shadow : s.isShadow step.toNat = false) (running : (s.stepRec step.toNat).phase = .running)
    (header : (s.stepRec step.toNat).hdr = some h) : exec (.tokenSelection step logits heads upset) s = .next (
      let id := step.toNat
      let w := selectionWalk s id h logits
      let g := selectionGuesses s id h w heads
      if selectionGated s id h then s.stokerFault (s.kindleHearths.headD 0) .gated (if bit (cfgOf (s.stepRec id).cfg 0x2120 0 0) 8 then 9 else 8) 0
      else if upset.isSome then s.tokenFailure id upset
      else if w.nan || g.2 then s.tokenFailure id none
      else selected id h logits w g.1 s) := by
  change execTokenSelection step logits heads upset s = _
  unfold execTokenSelection
  simp only [shadow, running, header]
  rfl

theorem exec_tokenSelection_idle (idle : s.isShadow step.toNat = true ∨ (s.stepRec step.toNat).phase ≠ .running ∨ (s.stepRec step.toNat).hdr = none) :
    exec (.tokenSelection step logits heads upset) s = .next s := by
  change execTokenSelection step logits heads upset s = _
  unfold execTokenSelection
  dsimp only
  rcases idle with shadow | still | bare
  · rw [if_pos shadow]
  · split
    · rfl
    · split
      · exact absurd ‹_› still
      · rfl
  · simp only [bare]
    cases (s.stepRec step.toNat).phase <;> exact congrArg Host.Outcome.next (ite_self s)

theorem selectionGated_of_off (off : bit (cfgOf (s.stepRec step.toNat).cfg 0x2120 0 0) 8 = false) : selectionGated s step.toNat h = true := by
  simp [selectionGated, off]

theorem selectionGated_of_grammarOff (off : bit (cfgOf (s.stepRec step.toNat).cfg 0x2120 0 0) 9 = false)
    (grammar : (stepSampling s step.toNat h).slot ≠ 255) : selectionGated s step.toNat h = true := by
  simp [selectionGated, off, grammar]

theorem selectionGated_eq_false (on : bit (cfgOf (s.stepRec step.toNat).cfg 0x2120 0 0) 8 = true)
    (grammar : (stepSampling s step.toNat h).slot = 255 ∨ bit (cfgOf (s.stepRec step.toNat).cfg 0x2120 0 0) 9 = true) :
    selectionGated s step.toNat h = false := by
  rcases grammar with none | on9
  · simp [selectionGated, on, none]
  · simp [selectionGated, on, on9]

theorem selectionWalk_none : selectionWalk s step.toNat h [] =
    { words := [], path := [], ended := false, gram := (stepSampling s step.toNat h).gram, drawn := 0, nan := false } := rfl

/-- A step of one position walks from the root of its tree. -/
theorem selectionWalk_one {l : List Logit} (one : h.tree.count.toNat = 1) : selectionWalk s step.toNat h [l] =
    s.walk (stepSampling s step.toNat h) h.tree.nodes [l] 0 8 0 (stepSampling s step.toNat h).gram
      { words := [], path := [], ended := false, gram := (stepSampling s step.toNat h).gram, drawn := 0, nan := false } := by
  unfold selectionWalk
  simp [one]

/-- At temperature 0 the token drawn is the first candidate. -/
theorem drawToken_cold {p : Sampling} (cold : p.temperature = 0) (seq pos : Nat) (c : Nat × Int) (rest : List (Nat × Int)) :
    drawToken p seq pos (c :: rest) = c := by
  unfold drawToken
  dsimp only
  rw [cold]
  exact if_pos (by decide)

/-- A tree of at most its root has no child to walk to. -/
theorem find_child_of_root {nodes : List NodeWord} (root : nodes.length ≤ 1) (f : NodeWord × Nat → Bool) :
    nodes.zipIdx.find? (fun c => decide (0 < c.2) && f c) = none := by
  match nodes, root with
  | [], _ => rfl
  | [_], _ => simp

theorem walk_nan {p : Sampling} {nodes : List NodeWord} {logits : List (List Logit)} {pos fuel i st : Nat} {w : Walk}
    (bad : s.candidates p st (logits.getD i []) = none) :
    s.walk p nodes logits pos (fuel + 1) i st w = { w with path := w.path ++ [i], drawn := w.drawn + 1, nan := true } := by
  simp only [State.walk, bad]

/-- A walk ends at a root without children. -/
theorem walk_root {p : Sampling} {nodes : List NodeWord} {logits : List (List Logit)} {pos fuel i st : Nat} {w : Walk} {c : Nat × Int}
    {rest : List (Nat × Int)} (cold : p.temperature = 0) (root : nodes.length ≤ 1) (cands : s.candidates p st (logits.getD i []) = some (c :: rest)) :
    s.walk p nodes logits pos (fuel + 1) i st w = { w with
      path := w.path ++ [i], drawn := w.drawn + 1, words := w.words ++ [tokenWord (logProb p c.2 c.2) c.1], gram := s.advanceGram p st c.1 } := by
  simp only [State.walk, cands, drawToken_cold cold, List.headD_cons]
  simp only [Bool.and_assoc, find_child_of_root root]

section Open

variable (shadow : s.isShadow step.toNat = false) (running : (s.stepRec step.toNat).phase = .running) (header : (s.stepRec step.toNat).hdr = some h)
  (isOpen : selectionGated s step.toNat h = false)

include shadow running header isOpen

/-- Without a residue upset the step fails on a NaN or poisoned logit, and else its tokens leave. -/
theorem exec_tokenSelection_open : exec (.tokenSelection step logits heads none) s = .next (
    let w := selectionWalk s step.toNat h logits
    let g := selectionGuesses s step.toNat h w heads
    if w.nan || g.2 then s.tokenFailure step.toNat none else selected step.toNat h logits w g.1 s) := by
  rw [exec_tokenSelection_running shadow running header]
  dsimp only
  rw [isOpen]
  rfl

theorem exec_tokenSelection_upset (u : Upset) :
    exec (.tokenSelection step logits heads (some u)) s = .next (s.tokenFailure step.toNat (some u)) := by
  rw [exec_tokenSelection_running shadow running header]
  dsimp only
  rw [isOpen]
  rfl

theorem exec_tokenSelection_nan (bad : (selectionWalk s step.toNat h logits).nan = true) :
    exec (.tokenSelection step logits heads none) s = .next (s.tokenFailure step.toNat none) := by
  rw [exec_tokenSelection_open shadow running header isOpen]
  exact congrArg Host.Outcome.next (if_pos (by simp [bad]))

/-- A step whose class has no guesses sends the words of its walk. -/
theorem exec_tokenSelection_words (cls : h.cls = 0) (good : (selectionWalk s step.toNat h logits).nan = false) :
    exec (.tokenSelection step logits heads none) s = .next (selected step.toNat h logits (selectionWalk s step.toNat h logits) [] s) := by
  have guesses (w : Walk) : selectionGuesses s step.toNat h w heads = ([], false) := if_neg (by simp [cls])
  rw [exec_tokenSelection_open shadow running header isOpen]
  dsimp only
  rw [guesses, good]
  rfl

end Open

/-- A step that is no speculation leaves as mode 0 of its class, with neither path nor guesses. -/
theorem selected_plain {id : Nat} {w : Walk} (source : h.tree.source = 0) (cls : h.cls = 0) (goes : w.ended = false) :
    selected id h logits w [] s = (selectionNoted id (selectionCounted w.drawn (if (stepSampling s id h).temperature % 32768 = 0 then w.drawn else 0)
      (w.path.map fun i => bansOf (stepSampling s id h) (logits.getD i [])).sum 0 0 s)).sendTokens id h.ctx.toNat 0 0 (stepSampling s id h).mode
        (tokenBytes h.ctx.toNat w.words 0 [] []) := by
  have from0 : h.tree.source.toNat = 0 := by simp [source]
  have class0 : h.cls.toNat = 0 := by simp [cls]
  simp only [selected, from0, class0, goes, if_true, Bool.false_eq_true, if_false]

end Selection

/-! ### Tokens at the admitting part (R292, R296, R307) -/

section Token

variable {s : State} {m : TokenMsg} {n : Nat} {r : Request} {f : Flight}

theorem draftWants_elsewhere (other : s.isDraft = false) (c : Nat) : s.draftWants c = false := by
  simp [State.draftWants, other]

theorem exec_token_elsewhere (admits : s.isAdmitting = false) (other : s.isDraft = false) : exec (.token m) s = .next s := by
  change execToken m s = _
  simp [execToken, draftWants_elsewhere other, admits]

theorem exec_token_inFlight (admits : s.isAdmitting = true) (other : s.isDraft = false) (owner : s.reqOfStep m.step.toNat = some (n, r))
    (flight : (r.flights.find? fun f => f.step == m.step.toNat) = some f) :
    exec (.token m) s = .next (s.takeTokens n r f m).settleBarrier.settleRetire := by
  change execToken m s = _
  simp only [execToken, draftWants_elsewhere other, Bool.false_and, Bool.false_eq_true, if_false, admits, Bool.not_true, owner, flight]
  rfl

/-- The step's flight has ended. -/
def flightEnded (n : Nat) (r : Request) (step : Nat) (s : State) : State :=
  { s with selectedAt := s.selectedAt.put 0 step 0 }.modReq n fun r' => { r' with flights := r.flights.filter fun g => g.step != step }

/-- A step is charged to its tenant unless it is made again (R298). -/
def charged (r : Request) (f : Flight) (k : Nat) (s : State) : State := if f.free then s else s.charge r.tenant k

/-- When the step was selected, as its entry reports it. -/
def selectionTime (s : State) (step : Nat) : Nat := if s.selectedAt.get 0 step = 0 then Config.samplingTime step % 2 ^ 64 else s.selectedAt.get 0 step

theorem elapsed_modReq (n : Nat) (g : Request → Request) (s : State) : (s.modReq n g).elapsed = s.elapsed := by
  unfold State.modReq
  split <;> rfl

theorem now_modReq (n : Nat) (g : Request → Request) (s : State) : (s.modReq n g).now = s.now := by
  unfold State.modReq
  split <;> rfl

theorem now_flightEnded (n : Nat) (r : Request) (step : Nat) (s : State) : (flightEnded n r step s).now = s.now := now_modReq ..

theorem grammar_flightEnded (n : Nat) (r : Request) (step slot : Nat) (s : State) : (flightEnded n r step s).grammar slot = s.grammar slot := by
  unfold flightEnded State.modReq
  split <;> rfl

theorem elapsed_flightEnded (n : Nat) (r : Request) (step : Nat) (s : State) : (flightEnded n r step s).elapsed = s.elapsed := elapsed_modReq ..

/-- What becomes of the words a sampled step brings: the outcome (0 where the request goes on) ends it, or they are returned. -/
def wordsTaken (n : Nat) (r : Request) (f : Flight) (m : TokenMsg) (time now : Nat) (taken : List Nat × Nat × Nat) (s : State) : State :=
  let s := (charged r f (if f.chunk then f.tree.count.toNat else taken.1.length) s).modReq n fun r' => r'.follow f m taken.1 taken.2.2 now m.step.toNat
  if taken.2.1 ≠ 0 then s.finish n taken.2.1 taken.1 m.step.toNat time
  else if m.grammarEnd || taken.1 = [] then s.finish n 9 taken.1 m.step.toNat time
  else (s.returnTokens n taken.1 m.step.toNat time).mirrorReq n

section Timely

variable (open_ : r.ending = none) (timely : pastDeadline r.entry s.now = false)

include open_ timely

theorem takeTokens_unsampled (unsampled : f.samples = false) (chunk : f.chunk = true) :
    s.takeTokens n r f m = charged r f f.tree.count.toNat (flightEnded n r m.step.toNat s) := by
  have now := (now_flightEnded n r m.step.toNat s).symm ▸ timely
  unfold flightEnded at now
  simp only [State.takeTokens, open_, now, Bool.false_and, Bool.false_eq_true, if_false, Option.none_or, unsampled, Bool.not_false, if_true, chunk]
  rfl

theorem takeTokens_sampled (samples : f.samples = true) : s.takeTokens n r f m =
    wordsTaken n r f m (selectionTime s m.step.toNat) s.elapsed (takeWords ((r.entry.stops.take r.entry.stopCount.toNat).map (·.toNat))
      (s.grammar r.entry.grammar.toNat) r.entry.grammar.toNat (r.entry.maxNew.toNat - r.returned) [] (m.words.map (·.toNat)) r.grammar)
      (flightEnded n r m.step.toNat s) := by
  have now := (now_flightEnded n r m.step.toNat s).symm ▸ timely
  have elapsed := elapsed_flightEnded n r m.step.toNat s
  have grammar := grammar_flightEnded n r m.step.toNat r.entry.grammar.toNat s
  unfold flightEnded at now elapsed grammar
  simp only [State.takeTokens, open_, now, Bool.false_and, Bool.false_eq_true, if_false, Option.none_or, samples, Bool.not_true, elapsed, grammar]
  rfl

end Timely

/-- One word that is no stop token and does not fill the request is taken whole. -/
theorem takeWords_one {stops : List Nat} {img : List Byte} {room w st : Nat} (go : stops.contains (wordToken w) = false) (more : 1 < room) :
    takeWords stops img 255 room [] [w] st = ([w], 0, st) := by
  unfold takeWords
  simp only [go, List.nil_append, List.length_singleton]
  rw [if_neg (by simp), if_neg (by omega)]
  rfl

/-- One word that ends nothing is charged and returned. -/
theorem wordsTaken_one {time now w gram : Nat} (on : m.grammarEnd = false) : wordsTaken n r f m time now ([w], 0, gram) s =
    (((charged r f (if f.chunk then f.tree.count.toNat else 1) s).modReq n fun r' => r'.follow f m [w] gram now m.step.toNat).returnTokens n [w]
      m.step.toNat time).mirrorReq n := by
  simp only [wordsTaken, on]
  rfl

end Token

/-! ### Tier reports (11 R285) -/

section TierReport

variable {s : State} {src : BitVec 16} {ctx : BitVec 32} {t : TierTimer}

theorem exec_tierReport_elsewhere (other : s.isAdmitting = false ∨ s.timer ctx.toNat = none) (x : TierReport) :
    exec (.tierReport src ctx x) s = .next s := by
  change execTierReport src ctx x s = _
  unfold execTierReport
  rcases other with elsewhere | timeless
  · exact congrArg Host.Outcome.next (if_pos (by simp [elsewhere]))
  · simp only [timeless]
    exact congrArg Host.Outcome.next (ite_self s)

theorem exec_tierReport_hot (admits : s.isAdmitting = true) (timer : s.timer ctx.toNat = some t) : exec (.tierReport src ctx .hot) s =
    .next (if t.awaiting = [] then s
      else (s.setTimer ctx.toNat (some { t with awaiting := t.awaiting.filter fun e => e % 65536 != src.toNat })).settleResume ctx.toNat) := by
  change execTierReport src ctx .hot s = _
  simp only [execTierReport, admits, timer]
  rfl

theorem exec_tierReport_lost (admits : s.isAdmitting = true) (timer : s.timer ctx.toNat = some t) : exec (.tierReport src ctx .lost) s =
    .next (if t.awaiting = [] then s.setTimer ctx.toNat (some { t with tier := .lost, since := s.elapsed, lost := true })
      else (s.setTimer ctx.toNat (some { t with awaiting := t.awaiting.filter fun e => e % 65536 != src.toNat, lost := true })).settleResume ctx.toNat) := by
  change execTierReport src ctx .lost s = _
  simp only [execTierReport, admits, timer]
  rfl

theorem exec_tierReport_discarded (admits : s.isAdmitting = true) (timer : s.timer ctx.toNat = some t) (idle : s.reqOfCtx ctx.toNat = none) :
    exec (.tierReport src ctx .discarded) s = .next (s.tierAction 4 ctx.toNat) := by
  change execTierReport src ctx .discarded s = _
  simp only [execTierReport, admits, timer, idle]
  rfl

end TierReport

/-! ### Grammars (R305, R306) and the replay limit (15 R368) -/

section Grammar

variable {s : State} {slot : Nat} {img : List Byte}

/-- An image in a slot leaves the table of stages. -/
theorem entries_setGrammar : (s.setBlobAt slot 0x5C11 0 img).entries = s.entries :=
  congrArg entriesOf (blobAt_setBlobAt_ne s img (odKey_ne (by omega) (by omega) (by omega) (by omega) (by omega) (by omega) (by omega)))

theorem inTokenPair_setGrammar : (s.setBlobAt slot 0x5C11 0 img).inTokenPair = s.inTokenPair := by
  unfold State.inTokenPair
  rw [entries_setGrammar]
  rfl

theorem draftPair_setGrammar : (s.setBlobAt slot 0x5C11 0 img).draftPair = s.draftPair := by
  unfold State.draftPair
  rw [entries_setGrammar]
  rfl

theorem storeGrammar_eq : s.storeGrammar slot img =
    if s.inTokenPair then (s.setBlobAt slot 0x5C11 0 img).forward 0x5C11 slot img s.draftPair else s.setBlobAt slot 0x5C11 0 img := by
  unfold State.storeGrammar
  rw [← inTokenPair_setGrammar (slot := slot) (img := img), ← draftPair_setGrammar (slot := slot) (img := img)]

theorem applyGrammar_used (used : (s.reqList.any fun e => e.2.isActive && e.2.entry.grammar.toNat == slot) = true) :
    s.applyGrammar slot img = (codeState, s.showGrammar slot 1) := if_pos used

theorem applyGrammar_bad (used : (s.reqList.any fun e => e.2.isActive && e.2.entry.grammar.toNat == slot) = false) (bad : gramGood img = false) :
    s.applyGrammar slot img = (codeFormat, s.showGrammar slot 2) :=
  (if_neg (by simp [used])).trans (if_pos (by simp [bad]))

theorem applyGrammar_good (used : (s.reqList.any fun e => e.2.isActive && e.2.entry.grammar.toNat == slot) = false) (good : gramGood img = true) :
    s.applyGrammar slot img = (0, ((s.storeGrammar slot img).forward 0x5C11 slot img s.tokenPair).awaitGrammar slot s.tokenPair) :=
  (if_neg (by simp [used])).trans (if_neg (by simp [good]))

theorem exec_grammarImageWrite (rq : Requester) (img : List Byte) : exec (.grammarImageWrite rq img) s =
    .next (s.access rq .write 0x5C11 0 img (State.applyGrammar (s.odAt (rqNo rq) 0x5C10 0 0) img)) := rfl

theorem exec_replayLimit_within {step : BitVec 64} (within : s.reqOfStep step.toNat = none ∨ s.replaysOf step.toNat ≤ s.od 0x4105 0 0) :
    exec (.replayLimit step) s = .next s := by
  change execReplayLimit step s = _
  unfold execReplayLimit
  rcases within with none | few
  · rw [none]
  · split
    · rfl
    · rw [if_pos few]

theorem exec_replayLimit_beyond {step : BitVec 64} {n : Nat} {r : Request} (owner : s.reqOfStep step.toNat = some (n, r))
    (many : s.od 0x4105 0 0 < s.replaysOf step.toNat) :
    exec (.replayLimit step) s = .next ((s.abandonEverywhere step.toNat).finish n 11 [] step.toNat s.now).settleBarrier.settleRetire := by
  change execReplayLimit step s = _
  unfold execReplayLimit
  rw [owner]
  exact congrArg Host.Outcome.next (if_neg (not_le.mpr many))

end Grammar

/-- Settles O39: each command by the branch of its definition that the hypotheses name. -/
theorem tokensAreSelectedAndReturned : Obligations.TokensAreSelectedAndReturned := by
  unfold Obligations.TokensAreSelectedAndReturned
  intro s
  refine ⟨fun step logits heads => ⟨fun idle u => exec_tokenSelection_idle idle, fun h shadow running header =>
    ⟨fun off u => ?off, fun on grammar off u => ?grammarOff,
    fun on grammar => ⟨fun u => ?upset, ?chunk, ?plain, ?nan⟩⟩⟩, fun m => ⟨exec_token_elsewhere, ?token⟩,
    fun src ctx => ⟨exec_tierReport_elsewhere, ?tier⟩,
    fun rq img ok => ⟨?used, ?bad, ?good⟩, fun step => ⟨exec_replayLimit_within, fun n r => exec_replayLimit_beyond⟩⟩
  case off =>
    rw [exec_tokenSelection_running shadow running header]
    simp only [selectionGated_of_off off, off]
    rfl
  case grammarOff =>
    rw [exec_tokenSelection_running shadow running header]
    simp only [selectionGated_of_grammarOff off grammar, on]
    rfl
  case upset => exact exec_tokenSelection_upset shadow running header (selectionGated_eq_false on grammar) u
  case chunk =>
    intro source count cls
    rw [exec_tokenSelection_words shadow running header (selectionGated_eq_false on grammar) cls rfl, selectionWalk_none, selected_plain source cls rfl]
    rfl
  case plain =>
    intro l c rest source count root cls cold cands
    have walk := (selectionWalk_one count).trans (walk_root cold root cands)
    rw [exec_tokenSelection_words shadow running header (selectionGated_eq_false on grammar) cls (congrArg Walk.nan walk), walk,
      selected_plain source cls rfl]
    rfl
  case nan =>
    intro l source count bad
    exact exec_tokenSelection_nan shadow running header (selectionGated_eq_false on grammar)
      (congrArg Walk.nan ((selectionWalk_one count).trans (walk_nan bad)))
  case token =>
    intro n r f admits other owner flight isOpen timely
    refine ⟨fun unsampled chunk => ?_, fun w samples free one on goes more => ?_⟩
    · rw [exec_token_inFlight admits other owner flight, takeTokens_unsampled isOpen timely unsampled chunk]
      rfl
    · rw [exec_token_inFlight admits other owner flight, takeTokens_sampled isOpen timely samples, one, free]
      rw [List.map_singleton, show (255 : BitVec 8).toNat = 255 from rfl, takeWords_one goes more, wordsTaken_one on]
      rfl
  case tier =>
    intro t admits timer
    rw [exec_tierReport_hot admits timer, exec_tierReport_lost admits timer]
    exact ⟨fun some => ⟨congrArg Host.Outcome.next (if_neg some), congrArg Host.Outcome.next (if_neg some)⟩,
      fun none => ⟨congrArg Host.Outcome.next (if_pos none), congrArg Host.Outcome.next (if_pos none)⟩, exec_tierReport_discarded admits timer⟩
  case used =>
    intro used
    rw [exec_grammarImageWrite, access_refused (by decide) ok (applyGrammar_used used)]
  case bad =>
    intro used bad
    rw [exec_grammarImageWrite, access_refused (by decide) ok (applyGrammar_bad used bad)]
  case good =>
    intro used good
    rw [exec_grammarImageWrite, access_written ok (applyGrammar_good used good), storeGrammar_eq]
    rfl

end Sys2Proof.Proofs
end

section

/-! ## Drafts, modes and their configuration (O40; 13 R310 to R328) -/

namespace Sys2Proof.Proofs

open Sys2Proof.Machine Sys2Proof.Laws

variable {s : State} {ctx : BitVec 32} {x : Sampler}

/-- The fall-back length in force is in no object that reports count in. -/
theorem inForce_bumpSpec (y f k g v : Nat) (hf : f < 64) (hg : g < 64) (hy : y < 256) (hk : k < 256) (s : State) :
    (s.bump 0x5C22 k g v).inForce 0x5C21 y f = s.inForce 0x5C21 y f := by
  have od : (s.bump 0x5C22 k g v).od 0x5C21 y f = s.od 0x5C21 y f :=
    od_bump_ne s v (odKey_ne hf hg hy hk (by omega) (by omega) (by omega))
  unfold State.inForce
  rw [od]
  rfl

/-! ### At other parts than the draft model's -/

section Elsewhere

variable (elsewhere : s.isDraft = false)

include elsewhere

theorem exec_draft_elsewhere (l : List DraftCand) : exec (.draft ctx l) s = .next s := by
  change execDraft ctx l s = _
  unfold execDraft
  split
  · rfl
  · split
    · rfl
    · exact congrArg Host.Outcome.next (if_pos (by simp [elsewhere]))

theorem exec_rebuildComplete_elsewhere (l : List DraftCand) : exec (.rebuildComplete ctx l) s = .next s := by
  change execRebuildComplete ctx l s = _
  unfold execRebuildComplete
  split
  · rfl
  · exact congrArg Host.Outcome.next (if_pos (by simp [elsewhere]))

theorem exec_specReport_elsewhere (m : BitVec 4) (r : BitVec 2) : exec (.specReport ctx m r) s = .next s :=
  congrArg Host.Outcome.next (if_pos (by simp [elsewhere]))

theorem exec_missLimit_elsewhere : exec (.missLimit ctx) s = .next s := by
  change execMissLimit ctx s = _
  unfold execMissLimit
  split
  · rfl
  · exact congrArg Host.Outcome.next (if_pos (by simp [elsewhere]))

theorem exec_fallbackEnd_elsewhere : exec (.fallbackEnd ctx) s = .next s := by
  change execFallbackEnd ctx s = _
  unfold execFallbackEnd
  split
  · rfl
  · exact congrArg Host.Outcome.next (if_pos (by simp [elsewhere]))

end Elsewhere

/-! ### At the draft model's part, with a sampler -/

section Sampler

variable (drafts : s.isDraft = true) (found : s.sampler ctx.toNat = some x)

include drafts found

theorem exec_draft_rooted {r : Nat} (root : x.root = some r) (l : List DraftCand) : exec (.draft ctx l) s =
    .next (if x.classT = false ∨ x.mode = 1 ∨ x.mode = 3 then s else s.sendTree ctx.toNat x r l) := by
  change execDraft ctx l s = _
  simp [execDraft, found, root, drafts, or_assoc]

omit drafts in
theorem exec_draft_rootless (root : x.root = none) (l : List DraftCand) : exec (.draft ctx l) s = .next s := by
  change execDraft ctx l s = _
  simp [execDraft, found, root]

theorem exec_missLimit_eq : exec (.missLimit ctx) s = .next (if x.mode ≠ 0 ∨ x.miss < s.inForce 0x5C21 1 0 then s
    else (s.bump 0x5C22 0 4 1).setMode ctx.toNat { x with mode := 1, left := s.inForce 0x5C21 2 0 }) := by
  change execMissLimit ctx s = _
  simp [execMissLimit, found, drafts]

theorem exec_fallbackEnd_eq : exec (.fallbackEnd ctx) s = .next (if x.mode ≠ 1 ∨ 0 < x.left then s else s.setMode ctx.toNat { x with mode := 2 }) := by
  change execFallbackEnd ctx s = _
  simp [execFallbackEnd, found, drafts]

omit drafts in
theorem exec_rebuildComplete_done (mode : x.mode ≠ 3) (l : List DraftCand) : exec (.rebuildComplete ctx l) s = .next s := by
  change execRebuildComplete ctx l s = _
  simp only [execRebuildComplete, found]
  exact congrArg Host.Outcome.next (if_pos (by simp [mode]))

theorem exec_rebuildComplete_rootless (mode : x.mode = 3) (root : x.root = none) (l : List DraftCand) :
    exec (.rebuildComplete ctx l) s = .next (s.setMode ctx.toNat { x with mode := 0, miss := 0 }) := by
  change execRebuildComplete ctx l s = _
  simp only [execRebuildComplete, found, root]
  exact congrArg Host.Outcome.next (if_neg (by simp [drafts, mode]))

theorem exec_rebuildComplete_rooted {r : Nat} (mode : x.mode = 3) (root : x.root = some r) (l : List DraftCand) :
    exec (.rebuildComplete ctx l) s =
      .next ((s.setMode ctx.toNat { x with mode := 0, miss := 0 }).sendTree ctx.toNat { x with mode := 0, miss := 0 } r l) := by
  change execRebuildComplete ctx l s = _
  simp only [execRebuildComplete, found, root]
  exact congrArg Host.Outcome.next (if_neg (by simp [drafts, mode]))

/-- A speculative step has run: what it counts. -/
def specCounted (more : Nat) (s : State) : State := (s.bump 0x5C22 0 0 1).bump 0x5C22 0 2 more

/-- What a sampler counts of a speculative step. -/
def specStepped (more : Nat) (x : Sampler) : Sampler := { x with steps := x.steps + 1, accepted := x.accepted + more }

/-- SPEC_REPORT of a step that ran in SPECULATIVE. -/
def specReported (c more : Nat) (x : Sampler) (s : State) : State :=
  ((specCounted more s).bump 0x5C22 0 3 (if more = 0 then 1 else 0)).setSampler c
    (if x.mode ≠ 0 then specStepped more x else { specStepped more x with miss := if more = 0 then x.miss + 1 else 0 })

/-- SPEC_REPORT of a step that ran in PROBE. -/
def probeReported (c more : Nat) (x : Sampler) (s : State) : State :=
  let u := ((specCounted more s).bump 0x5C22 0 5 1).bump 0x5C22 0 6 (if more = 0 then 0 else 1)
  if x.mode ≠ 2 then u.setSampler c (specStepped more x)
  else if more = 0 then (u.bump 0x5C22 0 4 1).setMode c { specStepped more x with mode := 1, left := u.inForce 0x5C21 2 0 }
  else u.setMode c { specStepped more x with mode := 0, miss := 0 }

section Report

variable (same : x.classT = false ∨ (s.recordOf ctx.toNat).any (·.entry.cls == 1) = false)

include same

theorem exec_specReport_eq (m : BitVec 4) (ranIn : BitVec 2) : exec (.specReport ctx m ranIn) s = .next (
    if ranIn = 1 ∨ ranIn = 3 then (if x.mode = 1 ∧ ranIn = 1 then s.setSampler ctx.toNat { x with left := x.left - 1 } else s.setSampler ctx.toNat x)
    else if ranIn = 0 then specReported ctx.toNat (m.toNat - 1) x s
    else probeReported ctx.toNat (m.toNat - 1) x s) := by
  have stays : (x.classT && (s.recordOf ctx.toNat).any (·.entry.cls == 1)) = false := by
    rcases same with h | h
    · rw [h, Bool.false_and]
    · rw [h, Bool.and_false]
  change execSpecReport ctx m ranIn s = _
  simp only [execSpecReport, found, drafts, Option.getD_some, stays]
  rfl

theorem exec_specReport_uncounted {ranIn : BitVec 2} (ran : ranIn = 1 ∨ ranIn = 3) (m : BitVec 4) : exec (.specReport ctx m ranIn) s =
    .next (if x.mode = 1 ∧ ranIn = 1 then s.setSampler ctx.toNat { x with left := x.left - 1 } else s.setSampler ctx.toNat x) := by
  rw [exec_specReport_eq drafts found same, if_pos ran]

theorem exec_specReport_speculative (m : BitVec 4) :
    exec (.specReport ctx m 0) s = .next (specReported ctx.toNat (m.toNat - 1) x s) := by
  rw [exec_specReport_eq drafts found same]
  rfl

theorem exec_specReport_probe (m : BitVec 4) :
    exec (.specReport ctx m 2) s = .next (probeReported ctx.toNat (m.toNat - 1) x s) := by
  rw [exec_specReport_eq drafts found same]
  rfl

end Report

omit drafts found

theorem specReported_hit {c more : Nat} (mode : x.mode = 0) (some : more ≠ 0) : specReported c more x s =
    ((specCounted more s).bump 0x5C22 0 3 0).setSampler c { specStepped more x with miss := 0 } := by
  simp only [specReported, mode, some, if_false, ne_eq, not_true_eq_false]

theorem specReported_miss {c : Nat} (mode : x.mode = 0) : specReported c 0 x s =
    ((specCounted 0 s).bump 0x5C22 0 3 1).setSampler c { specStepped 0 x with miss := x.miss + 1 } := by
  simp only [specReported, mode, if_true, if_false, ne_eq, not_true_eq_false]

theorem probeReported_hit {c more : Nat} (mode : x.mode = 2) (some : more ≠ 0) : probeReported c more x s =
    (((specCounted more s).bump 0x5C22 0 5 1).bump 0x5C22 0 6 1).setMode c { specStepped more x with mode := 0, miss := 0 } := by
  simp only [probeReported, mode, some, if_false, ne_eq, not_true_eq_false]

theorem probeReported_miss {c : Nat} (mode : x.mode = 2) : probeReported c 0 x s =
    ((((specCounted 0 s).bump 0x5C22 0 5 1).bump 0x5C22 0 6 0).bump 0x5C22 0 4 1).setMode c
      { specStepped 0 x with mode := 1, left := s.inForce 0x5C21 2 0 } := by
  simp only [probeReported, mode, if_true, if_false, ne_eq, not_true_eq_false, specCounted]
  repeat rw [inForce_bumpSpec _ _ _ _ _ (by omega) (by omega) (by omega) (by omega)]

end Sampler

/-! ### Stage 0 (R323, R324) -/

section Stage0

variable {n : Nat} {r : Request}

/-- A request that waits for its next tree. -/
def awaitsTree (r : Request) : Prop := r.entry.cls = 2 ∧ r.generating = true ∧ r.flights = [] ∧ r.tree = none

/-- The wait of a request for its tree, as DRAFT_WAIT_EXPIRED judges it. -/
theorem awaitsTree_iff : awaitsTree r ↔ (r.entry.cls == 2 && r.generating && r.flights == [] && r.tree.isNone) = true := by
  simp [awaitsTree, and_assoc]

theorem exec_tree_none (idle : s.reqOfCtx ctx.toNat = none) (step : BitVec 64) (t : TreeRec) : exec (.tree step ctx t) s = .next s := by
  change execTree step ctx t s = _
  simp only [execTree, idle]

theorem exec_draftWaitExpired_none (idle : s.reqOfCtx ctx.toNat = none) : exec (.draftWaitExpired ctx) s = .next s := by
  change execDraftWaitExpired ctx s = _
  simp only [execDraftWaitExpired, idle]

theorem exec_mode_elsewhere (elsewhere : s.isAdmitting = false) (m : BitVec 2) :
    exec (.mode ctx m) s = .next (if s.isDraft then s.resetSampler ctx.toNat m.toNat else s) :=
  congrArg Host.Outcome.next (if_pos (by simp [elsewhere]))

variable (admits : s.isAdmitting = true)

include admits

theorem exec_mode_none (idle : s.reqOfCtx ctx.toNat = none) (m : BitVec 2) : exec (.mode ctx m) s = .next s := by
  change execMode ctx m s = _
  simp [execMode, idle, admits]

variable (owner : s.reqOfCtx ctx.toNat = some (n, r))

include owner

theorem exec_tree_kept {step : BitVec 64} (waits : awaitsTree r) (last : r.lastStep = step.toNat) (t : TreeRec) :
    exec (.tree step ctx t) s = .next (s.modReq n fun r => { r with tree := some t }) := by
  obtain ⟨cls, generating, flights, tree⟩ := waits
  change execTree step ctx t s = _
  simp [execTree, owner, admits, cls, generating, flights, tree, last]

theorem exec_tree_dropped {step : BitVec 64} (out : ¬ awaitsTree r ∨ r.lastStep ≠ step.toNat) (t : TreeRec) :
    exec (.tree step ctx t) s = .next s := by
  change execTree step ctx t s = _
  simp only [execTree, owner]
  refine congrArg Host.Outcome.next (if_pos ?_)
  by_contra taken
  simp only [admits, Bool.or_eq_true, not_or, Bool.not_eq_true, Bool.not_eq_eq_eq_not, Bool.not_true, decide_eq_false_iff_not, not_not,
    Option.isSome_eq_false_iff, Option.isNone_iff_eq_none, Bool.not_eq_false] at taken
  obtain ⟨⟨⟨⟨⟨-, cls⟩, generating⟩, flights⟩, tree⟩, last⟩ := taken
  exact out.elim (· ⟨cls, generating, flights, tree⟩) (· last)

theorem exec_draftWaitExpired_late (waits : awaitsTree r) (mode : r.mode = 0 ∨ r.mode = 2) (late : r.tokensAt + s.inForce 0x5C20 6 0 ≤ s.elapsed) :
    exec (.draftWaitExpired ctx) s = .next ((s.bump 0x5C22 0 7 1).modReq n fun r => { r with tree := some (plainTree (r.rest.headD 0)) }) := by
  change execDraftWaitExpired ctx s = _
  simp only [execDraftWaitExpired, owner]
  refine congrArg Host.Outcome.next (if_neg ?_)
  rw [awaitsTree_iff.mp waits, admits]
  rcases mode with h | h <;> simp [h, late]

omit admits in
theorem exec_draftWaitExpired_stays (out : ¬ awaitsTree r ∨ r.mode = 1 ∨ r.mode = 3 ∨ s.elapsed < r.tokensAt + s.inForce 0x5C20 6 0) :
    exec (.draftWaitExpired ctx) s = .next s := by
  change execDraftWaitExpired ctx s = _
  simp only [execDraftWaitExpired, owner]
  refine congrArg Host.Outcome.next (if_pos ?_)
  rcases out with open_ | mode | mode | early
  · rw [awaitsTree_iff, Bool.not_eq_true] at open_
    simp only [open_, Bool.false_and, Bool.not_false, Bool.or_true, Bool.true_or]
  · simp [mode]
  · simp [mode]
  · simp [early]

theorem exec_mode_eq (m : BitVec 2) : exec (.mode ctx m) s = .next (
    if m = 3 ∧ r.entry.cls ≠ 2 then s else s.modReq n fun r => { r with mode := m.toNat }) := by
  change execMode ctx m s = _
  simp [execMode, owner, admits]

end Stage0

/-! ### Configuration (R328) -/

theorem dict_keepForStep (x y : Nat) (s : State) : (s.keepForStep x y).dict = s.dict := by
  unfold State.keepForStep
  split
  · split
    · unfold State.keepOldBlob
      dsimp only
      split <;> rfl
    · refine List.foldlRecOn _ _ (motive := fun t : State => t.dict = s.dict) rfl fun t kept f _ => ?_
      unfold State.keepOld
      dsimp only
      split <;> exact kept
  · rfl

/-- Whether this part admits is in objects that the configuration of speculation is not among. -/
theorem isAdmitting_setSpec {limits : Bool} {sub : Nat} (small : sub < 256) (v : Nat) :
    ((s.keepForStep (if limits then 0x5C21 else 0x5C20) sub).setOd (if limits then 0x5C21 else 0x5C20) sub 0 v).isAdmitting = s.isAdmitting := by
  have od (x y f : Nat) (hx : x < 0x5C20) (hy : y < 256) (hf : f < 64) :
      ((s.keepForStep (if limits then 0x5C21 else 0x5C20) sub).setOd (if limits then 0x5C21 else 0x5C20) sub 0 v).od x y f = s.od x y f := by
    refine (od_setOd_ne _ _ (odKey_ne hf (by omega) hy small (by omega) (by cases limits <;> decide) ?_)).trans (odAt_congr (dict_keepForStep _ _ s) ..)
    cases limits <;> simp <;> omega
  unfold State.isAdmitting State.admitting State.endpoint
  rw [od 0x4100 2 0 (by omega) (by omega) (by omega), od 0x4011 0 0 (by omega) (by omega) (by omega), od 0x4011 0 1 (by omega) (by omega) (by omega)]

section Config

variable {rq : Requester} {limits : Bool} {sub : Byte} {v : BitVec 32}

theorem exec_speculationConfigWrite (rq : Requester) (limits : Bool) (sub : Byte) (v : BitVec 32) : exec (.speculationConfigWrite rq limits sub v) s =
    .next (s.access rq .write (if limits then 0x5C21 else 0x5C20) sub.toNat (leBytes ((odWidths (if limits then 0x5C21 else 0x5C20) sub.toNat).headD 1) v.toNat)
      (State.applySpec limits sub.toNat v.toNat)) := rfl

theorem applySpec_bad {sub v : Nat} (bad : v < (specRange limits sub).1 ∨ (specRange limits sub).2 < v) :
    s.applySpec limits sub v = (codeRange, s) := if_pos bad

theorem applySpec_good {sub v : Nat} (small : sub < 256) (low : (specRange limits sub).1 ≤ v) (high : v ≤ (specRange limits sub).2) :
    s.applySpec limits sub v = (0,
      let idx := if limits then 0x5C21 else 0x5C20
      let u := (s.keepForStep idx sub).setOd idx sub 0 v
      if s.isAdmitting then u.forward idx sub (leBytes ((odWidths idx sub).headD 1) v) u.samplerParts else u) := by
  rw [← isAdmitting_setSpec (limits := limits) small v]
  exact if_neg (by omega)

end Config

/-- Settles O40: each command by the branch of its definition that the hypotheses name. -/
theorem speculationFollowsItsModes : Obligations.SpeculationFollowsItsModes := by
  unfold Obligations.SpeculationFollowsItsModes
  intro s
  refine ⟨fun ctx => ⟨fun elsewhere => ⟨fun l => ⟨exec_draft_elsewhere elsewhere l, exec_rebuildComplete_elsewhere elsewhere l⟩,
      exec_specReport_elsewhere elsewhere, exec_missLimit_elsewhere elsewhere, exec_fallbackEnd_elsewhere elsewhere⟩, ?sampler,
    fun idle step t => ⟨exec_tree_none idle step t, exec_draftWaitExpired_none idle⟩, ?mode, ?stage0⟩, ?config⟩
  case sampler =>
    intro x drafts found
    refine ⟨fun r l root cls mode => ?_, fun l out => ?_, fun same => ⟨fun m mode => ?_, fun m mode => ?_, fun m => ?_, fun m mode more => ?_, fun mode => ?_,
      fun m mode more => ?_, fun mode => ?_⟩, fun mode misses => ?_, fun out => ?_, fun mode left => ?_, fun out => ?_,
      fun l mode root => exec_rebuildComplete_rootless drafts found mode root l, fun l r mode root => exec_rebuildComplete_rooted drafts found mode root l,
      fun l mode => exec_rebuildComplete_done found mode l⟩
    · rw [exec_draft_rooted drafts found root, if_neg (by rcases mode with h | h <;> simp [cls, h])]
      rfl
    · cases root : x.root with
      | none => exact exec_draft_rootless found root l
      | some r => rw [exec_draft_rooted drafts found root, if_pos (by rcases out with h | h | h <;> simp_all)]
    · rw [exec_specReport_uncounted drafts found same (.inl rfl), if_pos ⟨mode, rfl⟩]
    · rw [exec_specReport_uncounted drafts found same (.inl rfl), if_neg fun h => mode h.1]
    · rw [exec_specReport_uncounted drafts found same (.inr rfl), if_neg (by simp)]
    · rw [exec_specReport_speculative drafts found same, specReported_hit mode (by omega)]
      rfl
    · rw [exec_specReport_speculative drafts found same]
      exact congrArg Host.Outcome.next (specReported_miss mode)
    · rw [exec_specReport_probe drafts found same, probeReported_hit mode (by omega)]
      rfl
    · rw [exec_specReport_probe drafts found same]
      exact congrArg Host.Outcome.next (probeReported_miss mode)
    · rw [exec_missLimit_eq drafts found, if_neg (by omega)]
    · rw [exec_missLimit_eq drafts found, if_pos out]
    · rw [exec_fallbackEnd_eq drafts found, if_neg (by omega)]
    · rw [exec_fallbackEnd_eq drafts found, if_pos out]
  case mode =>
    intro m
    refine ⟨fun admits idle => exec_mode_none admits idle m, fun elsewhere drafts => ?_, fun elsewhere other => ?_⟩
    · rw [exec_mode_elsewhere elsewhere, drafts]
      rfl
    · rw [exec_mode_elsewhere elsewhere, other]
      rfl
  case stage0 =>
    intro n r admits owner
    refine ⟨fun step t => ⟨fun waits last => exec_tree_kept admits owner waits last t, fun out => exec_tree_dropped admits owner out t⟩,
      exec_draftWaitExpired_late admits owner, exec_draftWaitExpired_stays owner, fun m fits => ?_, fun cls => ?_⟩
    · rw [exec_mode_eq admits owner, if_neg (by tauto)]
    · rw [exec_mode_eq admits owner, if_pos ⟨rfl, cls⟩]
  case config =>
    intro rq limits sub v idx data range ok
    refine ⟨fun bad => write_answers (exec_speculationConfigWrite rq limits sub v) ok (by decide) (applySpec_bad bad), fun low high => ?_⟩
    have applied := applySpec_good (s := s) sub.isLt low high
    refine ⟨fun admits => ?_, fun other => ?_⟩
    · rw [admits] at applied
      exact write_taken (exec_speculationConfigWrite rq limits sub v) ok applied
    · rw [other] at applied
      exact write_taken (exec_speculationConfigWrite rq limits sub v) ok applied

end Sys2Proof.Proofs
end

section

/-! ## Ports train and identify (O41; 14 R331, R344, R352 to R356) -/

namespace Sys2Proof.Proofs

open Sys2Proof.Machine Sys2Proof.Laws

variable {s : State} {p : PortId}

/-! ### Training (R331, R352) -/

section Training

/-- A port that has trained waits for its peer's IDENT. -/
def identState (n lanes : Nat) (s : State) : State :=
  ((s.setOd (0x4000 + n) 3 0 lanes).setPortState n 3).modPort n fun x => { x with heardAt := s.elapsed, trainAt := s.elapsed }

/-- One half of the lanes trained, with degrade enabled at both ends. -/
def halfTrained (s : State) (n : Nat) (l : BitVec 8) (d : Bool) : Bool :=
  s.od (0x4000 + n) 7 0 != 0 && d && (l.toNat % 16 == 15 || l.toNat / 16 == 15)

theorem halfTrained_iff {n : Nat} {l : BitVec 8} {d : Bool} :
    halfTrained s n l d = true ↔ s.od (0x4000 + n) 7 0 ≠ 0 ∧ d = true ∧ (l.toNat % 16 = 15 ∨ l.toNat / 16 = 15) := by
  simp [halfTrained, and_assoc]

theorem exec_trainingComplete_elsewhere (state : s.portState p.toNat ≠ 2) (l : BitVec 8) (d : Bool) : exec (.trainingComplete p l d) s = .next s :=
  congrArg Host.Outcome.next (if_pos state)

theorem exec_trainingComplete (state : s.portState p.toNat = 2) (l : BitVec 8) (d : Bool) : exec (.trainingComplete p l d) s = .next (
    if l = 0xFF then (identState p.toNat 8 s).sendIdent p.toNat
    else if halfTrained s p.toNat l d then ((identState p.toNat 4 s).portRecord p.toNat false).sendIdent p.toNat
    else (s.setPortState p.toNat 1).modPort p.toNat fun x => { x with trainAt := s.elapsed }) :=
  congrArg Host.Outcome.next (if_neg (not_not.mpr state))

theorem retrain_eq (n : Nat) : s.retrain n = if s.od 0x4010 (n + 1) 0 = 3 ∨ s.od (0x4000 + n) 1 42 = 1 then s.lowerPort n 0
    else if s.mainUp then (s.lowerPort n 2).bump (0x4000 + n) 6 6 1 else s.lowerPort n 1 := by
  unfold State.retrain State.unusedPort
  simp only [Bool.or_eq_true, beq_iff_eq]
  cases s.mainUp <;> rfl

theorem exec_trainingRetry : exec (.trainingRetry p) s = .next (
    if !s.mainUp || s.portState p.toNat ≠ 1 || ((s.port p.toNat).trainAt ≠ 0 && s.elapsed < (s.port p.toNat).trainAt + 1000000000) then s
    else s.retrain p.toNat) := rfl

theorem retry_due_iff : (s.mainUp = true ∧ s.portState p.toNat = 1 ∧ ((s.port p.toNat).trainAt = 0 ∨ (s.port p.toNat).trainAt + 1000000000 ≤ s.elapsed)) ↔
    ¬ (!s.mainUp || s.portState p.toNat ≠ 1 || ((s.port p.toNat).trainAt ≠ 0 && s.elapsed < (s.port p.toNat).trainAt + 1000000000)) = true := by
  simp [and_assoc, imp_iff_not_or]

theorem exec_identTimeout : exec (.identTimeout p) s = .next (
    if s.portState p.toNat ≠ 3 ∨ s.elapsed < (s.port p.toNat).trainAt + 10000000 then s
    else (s.lowerPort p.toNat 1).modPort p.toNat fun x => { x with trainAt := s.elapsed }) := rfl

theorem exec_identRepeat : exec (.identRepeat p) s = .next (
    if s.portState p.toNat = 3 ∨ s.portState p.toNat = 4 ∨ s.portState p.toNat = 5 then s.sendIdent p.toNat else s) := rfl

end Training

/-! ### Identity (R353 to R355) -/

section Identity

variable {i : IdentBody}

/-- What an IDENT does on a port once it is heard. -/
def identTaken (n : Nat) (i : IdentBody) (s : State) : State :=
  if s.portState n = 3 then
    let s := s.putFields 0 (0x4000 + n) 4 0 (identFields i)
    if s.identMatches n i then
      let s := s.putFields 0 (0x4000 + n) 5 0 [2, min 1 i.minor.toNat, Nat.land (s.od 0x4012 0 2) i.features.toNat]
      let s := (s.setPortState n 4).modPort n fun x => { x with ident := some i }
      s.pump n (s.port n).queue.length
    else s.quarantine n i
  else if s.portState n = 4 ∧ (s.port n).ident ≠ some i then s.quarantine n i
  else s

theorem exec_ident_heard (state : s.portState p.toNat = 3 ∨ s.portState p.toNat = 4 ∨ s.portState p.toNat = 5) :
    exec (.ident p i) s = .next (identTaken p.toNat i (s.heard p.toNat)) := by
  change execIdent p i s = _
  unfold execIdent
  simp only [if_pos state]
  rfl

theorem exec_ident_unheard (state : s.portState p.toNat < 3 ∨ 5 < s.portState p.toNat) : exec (.ident p i) s = .next s := by
  change execIdent p i s = _
  unfold execIdent
  have closed : ¬ (s.portState p.toNat = 3 ∨ s.portState p.toNat = 4 ∨ s.portState p.toNat = 5) := by omega
  simp only [if_neg closed]
  rw [if_neg (by omega), if_neg (by omega)]

end Identity

/-! ### Ports that go down (R344) -/

theorem portLost_plain {n : Nat} (plain : n ≠ 0 ∨ s.portState n ≠ 4 ∨ s.twin = none) : s.portLost n = s.retrain n := by
  have none : (if n = 0 ∧ s.portState 0 = 4 then s.twin else none) = none := by
    split
    · rename_i lost
      obtain ⟨rfl, up⟩ := lost
      exact plain.elim (absurd rfl) (·.elim (absurd up) id)
    · rfl
  unfold State.portLost
  simp only [none]

theorem portLost_twin {t : Nat} (up : s.portState 0 = 4) (twin : s.twin = some t) : s.portLost 0 =
    if t = (s.retrain 0).admitting then (s.retrain 0).probe t
    else (s.retrain 0).mirrorTo 0x0A (roleBody 5 ((s.retrain 0).ownIndex.getD 0xFFFF) t ((s.retrain 0).od 0x4111 0 0)) (s.retrain 0).admitting := by
  have lost : (if (0 : Nat) = 0 ∧ s.portState 0 = 4 then s.twin else none) = some t := (if_pos ⟨rfl, up⟩).trans twin
  unfold State.portLost
  dsimp only
  rw [lost]

theorem exec_portDown : exec (.portDown p) s = .next (if s.portState p.toNat < 3 then s else s.portLost p.toNat) := rfl

/-! ### Port commands and the neighbour entry (R356) -/

section Commands

variable {rq : Requester}

theorem exec_portRetrain : exec (.portRetrain rq p) s = .next (s.access rq .command (0x4000 + p.toNat) 2 [1] (State.applyRetrain p.toNat)) := rfl
theorem exec_portDisable : exec (.portDisable rq p) s = .next (s.access rq .command (0x4000 + p.toNat) 2 [2] (State.applyDisable p.toNat)) := rfl
theorem exec_portEnable : exec (.portEnable rq p) s = .next (s.access rq .command (0x4000 + p.toNat) 2 [3] (State.applyEnable p.toNat)) := rfl
theorem exec_neighbourEntryWrite (entry : List Byte) :
    exec (.neighbourEntryWrite rq p entry) s = .next (s.access rq .write 0x4010 (p.toNat + 1) entry (State.applyNeighbour p.toNat entry)) := rfl

variable {n : Nat}

theorem applyDisable_busy (busy : s.stepRunning = true ∨ ∃ o ∈ s.sending, o.port = n) : s.applyDisable n = (0, s.setOd (0x4000 + n) 1 41 1) :=
  if_pos (by simpa [State.portBusy] using busy)

theorem applyDisable_idle (still : s.stepRunning = false) (free : ∀ o ∈ s.sending, o.port ≠ n) :
    s.applyDisable n = (0, (s.setOd (0x4000 + n) 1 42 1).lowerPort n 0) :=
  if_neg (by simpa [State.portBusy, still] using free)

theorem applyEnable_disabled (off : ((s.setOd (0x4000 + n) 1 41 0).setOd (0x4000 + n) 1 42 0).portState n = 0) :
    s.applyEnable n = (0, ((s.setOd (0x4000 + n) 1 41 0).setOd (0x4000 + n) 1 42 0).retrain n) :=
  congrArg (Prod.mk 0) (if_pos off)

theorem applyEnable_other (on : ((s.setOd (0x4000 + n) 1 41 0).setOd (0x4000 + n) 1 42 0).portState n ≠ 0) :
    s.applyEnable n = (0, (s.setOd (0x4000 + n) 1 41 0).setOd (0x4000 + n) 1 42 0) :=
  congrArg (Prod.mk 0) (if_neg on)

theorem applyNeighbour_bad {entry : List Byte} (bad : 3 < leAt entry 0 1) : s.applyNeighbour n entry = (codeRange, s) := if_pos bad

theorem applyNeighbour_good {entry : List Byte} (good : leAt entry 0 1 ≤ 3) :
    s.applyNeighbour n entry = (0, (s.putValue 0 0x4010 (n + 1) (patch (patch entry 2 [0, 0]) 10 [0, 0])).retrain n) :=
  if_neg (not_lt.mpr good)

end Commands

/-- Settles O41: each command by the branch of its definition that the hypotheses name. -/
theorem portsTrainAndIdentify : Obligations.PortsTrainAndIdentify := by
  unfold Obligations.PortsTrainAndIdentify
  intro s p
  refine ⟨exec_trainingComplete_elsewhere, fun training l d => ⟨fun all => ?_, fun some half => ?_, fun some less => ?_⟩, retrain_eq _,
    ⟨fun due => ?_, fun early => ?_⟩, ⟨fun due => ?_, fun early => ?_⟩, fun state => ?_, fun state => ?_, fun i => ?ident,
    fun down => ?_, fun up plain => ?_, fun t first up twin => ⟨fun admits => ?_, fun other => ?_⟩, fun rq => ?commands⟩
  case ident =>
    refine ⟨fun state stays agrees => ?_, fun state stays differs => ?_, fun state stays differs => ?_, fun state stays agrees => ?_, exec_ident_unheard⟩
    · rw [exec_ident_heard (.inl state)]
      exact congrArg Host.Outcome.next ((if_pos stays).trans (if_pos agrees))
    · rw [exec_ident_heard (.inl state)]
      exact congrArg Host.Outcome.next ((if_pos stays).trans (if_neg (Bool.eq_false_iff.mp differs)))
    · rw [exec_ident_heard (.inr (.inl state))]
      exact congrArg Host.Outcome.next ((if_neg fun h => absurd (stays.symm.trans h) (by decide)).trans (if_pos ⟨stays, differs⟩))
    · rw [exec_ident_heard (.inr state)]
      refine congrArg Host.Outcome.next ((if_neg stays).trans (if_neg fun ⟨up, differs⟩ => ?_))
      exact agrees.elim (fun h => absurd (up.symm.trans h) (by decide)) differs
  case commands =>
    refine ⟨fun ok => command_taken exec_portRetrain ok rfl, fun ok => ⟨fun busy => command_taken exec_portDisable ok (applyDisable_busy busy),
      fun still free => command_taken exec_portDisable ok (applyDisable_idle still free)⟩,
      fun ok => ⟨fun off => command_taken exec_portEnable ok (applyEnable_disabled off), fun on => command_taken exec_portEnable ok (applyEnable_other on)⟩,
      fun entry ok => ⟨fun bad => write_answers (exec_neighbourEntryWrite entry) ok (by decide) (applyNeighbour_bad bad),
        fun good => write_taken (exec_neighbourEntryWrite entry) ok (applyNeighbour_good good)⟩⟩
  · rw [exec_trainingComplete training, if_pos all]
    rfl
  · rw [exec_trainingComplete training, if_neg some, if_pos (halfTrained_iff.mpr half)]
    rfl
  · rw [exec_trainingComplete training, if_neg some, if_neg fun h => less (halfTrained_iff.mp h)]
  · rw [exec_trainingRetry, if_neg (retry_due_iff.mp due)]
  · rw [exec_trainingRetry, if_pos (not_not.mp fun h => early (retry_due_iff.mpr h))]
  · rw [exec_identTimeout, if_neg (by omega)]
  · rw [exec_identTimeout, if_pos (by omega)]
  · rw [exec_identRepeat, if_pos state]
    rfl
  · rw [exec_identRepeat, if_neg (by omega)]
  · rw [exec_portDown, if_pos down]
  · rw [exec_portDown, if_neg (not_lt.mpr up), portLost_plain plain]
  · rw [first] at up
    rw [exec_portDown, first, if_neg (by omega), portLost_twin up twin, if_pos admits]
  · rw [first] at up
    rw [exec_portDown, first, if_neg (by omega), portLost_twin up twin, if_neg other]

end Sys2Proof.Proofs
end

section

/-! ## Frames are acknowledged and replayed (O42; 14 R330 to R344) -/

namespace Sys2Proof.Proofs

open Sys2Proof.Machine Sys2Proof.Laws

variable {s : State} {p : PortId} {n : Nat}

/-! ### Ports, and what the link's operations do with them -/

@[simp] theorem port_setPort_same (n : Nat) (x : Port) (s : State) : (s.setPort n x).port n = x := get_put_same ..

theorem port_modPort_same (n : Nat) (f : Port → Port) (s : State) : (s.modPort n f).port n = f (s.port n) := get_put_same ..

theorem modPort_congr {f g : Port → Port} (same : f (s.port n) = g (s.port n)) : s.modPort n f = s.modPort n g :=
  congrArg (State.setPort n · s) same

theorem linkOpen_iff : s.linkOpen n = true ↔ s.portState n = 4 ∨ s.portState n = 5 := by
  simp [State.linkOpen]

theorem linkClosed_iff : s.linkOpen n = false ↔ ¬ (s.portState n = 4 ∨ s.portState n = 5) := by
  rw [← linkOpen_iff, Bool.not_eq_true]

theorem not_seqAtMost_iff {a b : Nat} : (!seqAtMost a b) = decide (2 ^ 31 ≤ (b + 2 ^ 32 - a) % 2 ^ 32) := by
  unfold seqAtMost
  rw [← decide_not]
  exact decide_eq_decide.mpr not_lt

/-! ### Frames on a port that is not open -/

section Closed

variable (closed : s.linkOpen p.toNat = false)

include closed

theorem exec_data_closed (q : BitVec 32) (h : TransportHdr) (b : Option StepHdr) (l : List Byte) (e : FrameFaults) :
    exec (.data p q h b l e) s = .next s := congrArg Host.Outcome.next (if_pos (by simp [closed]))

theorem exec_lack_closed (a : BitVec 32) (c : BitVec 2) (g : BitVec 14) : exec (.lack p a c g) s = .next s :=
  congrArg Host.Outcome.next (if_neg (by simp [closed]))

theorem exec_lnak_closed (a : BitVec 32) : exec (.lnak p a) s = .next s := congrArg Host.Outcome.next (if_neg (by simp [closed]))

theorem exec_idle_closed (b : LinkBack) : exec (.idle ⟨p, b⟩) s = .next s := congrArg Host.Outcome.next (if_neg (by simp [closed]))

theorem exec_linkReplayTimeout_closed : exec (.linkReplayTimeout p) s = .next s := congrArg Host.Outcome.next (if_neg (by simp [closed]))

theorem exec_lackTimer_closed : exec (.lackTimer p) s = .next s := congrArg Host.Outcome.next (if_neg (by simp [closed]))

theorem exec_idleTimer_closed : exec (.idleTimer p) s = .next s := congrArg Host.Outcome.next (if_neg (by simp [closed]))

end Closed

/-! ### DATA (R334, R342, R343) -/

section Data

/-- A frame has come in, with the codewords that its FEC corrected. -/
def dataHeard (n corrected : Nat) (s : State) : State := (s.heard n).bump (0x4000 + n) 6 4 corrected

/-- The link moves to a frame that is next in sequence, and owes its granules. -/
def dataLinked (n seq : Nat) (h : TransportHdr) (b : Option StepHdr) (l : List Byte) (s : State) : State :=
  let x := s.port n
  s.setPort n { x with
    rxSeq := seq, gap := false, sinceAck := x.sinceAck + 1
    owed := setAt h.cls.toNat (x.owed.getD h.cls.toNat 0 + s.frameGranules h b l) x.owed }

/-- A frame that is next in sequence goes on to its transfer, unless R339 refuses its packet. -/
def dataTaken (n seq : Nat) (h : TransportHdr) (b : Option StepHdr) (l : List Byte) (e : FrameFaults) (s : State) : State :=
  let u := dataLinked n seq h b l s
  if e.ip && h.rack.toNat != u.od 0x4011 0 0 then u else u.takeData n h b l e.parity

/-- What becomes of a frame on an open port. -/
def dataJudged (n seq : Nat) (h : TransportHdr) (b : Option StepHdr) (l : List Byte) (e : FrameFaults) (s : State) : State :=
  if e.uncorrectable then (s.askReplay n).badCodeword n
  else if e.crc then (s.bump (0x4000 + n) 6 2 1).askReplay n
  else if seq = ((s.port n).rxSeq + 1) % 2 ^ 32 then
    let u := dataTaken n seq h b l e s
    (if 16 ≤ (u.port n).sinceAck then u.sendLack n else u).handBack n e.back
  else if seqAtMost seq (s.port n).rxSeq then s
  else s.askReplay n

variable {q : BitVec 32} {h : TransportHdr} {b : Option StepHdr} {l : List Byte} {e : FrameFaults}

theorem exec_data_open (isOpen : s.linkOpen p.toNat = true) :
    exec (.data p q h b l e) s = .next (dataJudged p.toNat q.toNat h b l e (dataHeard p.toNat e.corrected.toNat s)) := by
  have taken : ¬ (!s.linkOpen p.toNat) = true := by simp [isOpen]
  exact congrArg Host.Outcome.next (if_neg taken)

/-- The rack number is none of a port's counters. -/
theorem od_rack_heard (small : n < 8) (c : Nat) : (dataHeard n c s).od 0x4011 0 0 = s.od 0x4011 0 0 :=
  (od_bump_ne (s.heard n) c (odKey_ne (by omega) (by omega) (by omega) (by omega) (by omega) (by omega) (by omega))).trans
    (od_bump_ne s 1 (odKey_ne (by omega) (by omega) (by omega) (by omega) (by omega) (by omega) (by omega)))

theorem frameGranules_heard (small : n < 8) (c : Nat) : (dataHeard n c s).frameGranules h b l =
    ceilDiv (64 + (if h.rack.toNat ≠ s.od 0x4011 0 0 then 48 else 0) + l.length + (if b.isSome then 192 else 0) + 4) 512 := by
  unfold State.frameGranules
  rw [od_rack_heard small]
  simp only [ite_not]

/-- A frame is taken as its packet's rack says. -/
theorem dataTaken_heard (small : n < 8) (seq c : Nat) : dataTaken n seq h b l e (dataHeard n c s) =
    if e.ip = true ∧ h.rack.toNat ≠ s.od 0x4011 0 0 then dataLinked n seq h b l (dataHeard n c s)
    else (dataLinked n seq h b l (dataHeard n c s)).takeData n h b l e.parity := by
  have rack : (dataLinked n seq h b l (dataHeard n c s)).od 0x4011 0 0 = s.od 0x4011 0 0 := od_rack_heard small c
  unfold dataTaken
  simp only [rack, Bool.and_eq_true, bne_iff_ne]

theorem askReplay_eq (n : Nat) (s : State) : s.askReplay n = if (s.port n).gap = true then s
    else ((s.modPort n fun y => { y with gap := true }).bump (0x4000 + n) 6 0 1).emit (.linkControl n 3 (s.port n).rxSeq 0 0) := rfl

variable {seq : Nat} (whole : e.uncorrectable = false) (good : e.crc = false)

theorem dataJudged_uncorrectable (bad : e.uncorrectable = true) : dataJudged n seq h b l e s = (s.askReplay n).badCodeword n := if_pos bad

include whole

theorem dataJudged_crc (bad : e.crc = true) : dataJudged n seq h b l e s = (s.bump (0x4000 + n) 6 2 1).askReplay n :=
  (if_neg (by simp [whole])).trans (if_pos bad)

include good

theorem dataJudged_next (next : seq = ((s.port n).rxSeq + 1) % 2 ^ 32) : dataJudged n seq h b l e s =
    (if 16 ≤ ((dataTaken n seq h b l e s).port n).sinceAck then (dataTaken n seq h b l e s).sendLack n else dataTaken n seq h b l e s).handBack n e.back :=
  (if_neg (by simp [whole])).trans ((if_neg (by simp [good])).trans (if_pos next))

theorem dataJudged_past (past : seq ≠ ((s.port n).rxSeq + 1) % 2 ^ 32) : dataJudged n seq h b l e s =
    if ((s.port n).rxSeq + 2 ^ 32 - seq) % 2 ^ 32 < 2 ^ 31 then s else s.askReplay n := by
  refine (if_neg (by simp [whole])).trans ((if_neg (by simp [good])).trans ((if_neg past).trans ?_))
  simp only [seqAtMost, decide_eq_true_eq]

end Data

/-! ### What a link header hands back -/

section Back

variable {ack : BitVec 32} {cls : BitVec 2} {g : BitVec 14}

/-- The frames that an acknowledgement leaves. -/
def unacked (ack : Nat) (x : Port) : List LinkFrame := x.retry.filter fun f => 2 ^ 31 ≤ (ack + 2 ^ 32 - f.seq) % 2 ^ 32

/-- The frames up to `ack` are acknowledged. -/
def ackedTo (n ack : Nat) (keep : Port) (s : State) : State := s.modPort n fun x =>
  { x with
    retry := unacked ack keep
    ackAt := if (unacked ack keep).length < keep.retry.length then s.elapsed else keep.ackAt }

theorem port_heard (n : Nat) (s : State) : (s.heard n).port n = { s.port n with heardAt := s.elapsed } :=
  port_modPort_same n (fun x => { x with heardAt := s.elapsed }) (s.bump (0x4000 + n) 6 1 1)

theorem acked_heard (n ack : Nat) (s : State) : (s.heard n).acked n ack = ackedTo n ack (s.port n) (s.heard n) := by
  refine modPort_congr ?_
  simp only [port_heard, not_seqAtMost_iff]
  rfl

/-- Credit returns to a class. -/
def creditedTo (n : Nat) (cls : BitVec 2) (g : BitVec 14) (s : State) : State :=
  s.modPort n fun x => { x with credit := setAt cls.toNat (x.credit.getD cls.toNat 0 + g.toNat) x.credit }

/-- A link header that comes with a frame hands back: frames leave the retry buffer, credit returns, and waiting frames go. -/
theorem handBack_heard : (s.heard n).handBack n ⟨ack, cls, g⟩ =
    (creditedTo n cls g (ackedTo n ack.toNat (s.port n) (s.heard n))).pump n (s.port n).queue.length := by
  have queue : ((creditedTo n cls g ((s.heard n).acked n ack.toNat)).port n).queue = (s.port n).queue := by
    unfold creditedTo State.acked State.heard
    simp only [port_modPort_same]
    rfl
  rw [← acked_heard, ← queue]
  rfl

theorem exec_lack_open (isOpen : s.linkOpen p.toNat = true) :
    exec (.lack p ack cls g) s = .next ((s.heard p.toNat).handBack p.toNat ⟨ack, cls, g⟩) := congrArg Host.Outcome.next (if_pos isOpen)

theorem exec_idle_open (isOpen : s.linkOpen p.toNat = true) :
    exec (.idle ⟨p, ⟨ack, cls, g⟩⟩) s = .next ((s.heard p.toNat).handBack p.toNat ⟨ack, cls, g⟩) := congrArg Host.Outcome.next (if_pos isOpen)

theorem exec_lnak_open (isOpen : s.linkOpen p.toNat = true) :
    exec (.lnak p ack) s = .next (((s.heard p.toNat).acked p.toNat ack.toNat).replay p.toNat) := congrArg Host.Outcome.next (if_pos isOpen)

end Back

/-! ### Replay (R343, R344) -/

/-- Frames leave as they are on the wire; what leaves bears on none of the later ones. -/
theorem foldl_emit_wire (n : Nat) (l : List LinkFrame) (s : State) :
    l.foldl (fun s f => s.emit (.data n (s.wire n f))) s = { s with out := s.out ++ l.map fun f => Out.data n (s.wire n f) } := by
  induction l generalizing s with
  | nil => simp
  | cons f l ih =>
    rw [List.foldl_cons, ih, List.map_cons, List.append_cons]
    rfl

/-- The frames of the retry buffer, replayed once more. -/
def replayedFrames (x : Port) : List LinkFrame := x.retry.map fun f => { f with replays := f.replays + 1 }

/-- The port while its frames are replayed. -/
def replayCounted (n : Nat) (s : State) : State :=
  let again := replayedFrames (s.port n)
  ((s.setPort n { s.port n with retry := again, ackAt := s.elapsed }).bump (0x4000 + n) 6 3 again.length).bump (0x4000 + n) 6 0 again.length

/-- All unacknowledged frames leave again. -/
def replaySent (n : Nat) (s : State) : State :=
  let u := replayCounted n s
  { u with out := u.out ++ (replayedFrames (s.port n)).map fun f => Out.data n (u.wire n f) }

theorem replay_eq (n : Nat) (s : State) : s.replay n =
    if (replayedFrames (s.port n)).any (fun f => decide (8 ≤ f.replays)) then (replaySent n s).portLost n else replaySent n s := by
  unfold State.replay replaySent
  simp only [foldl_emit_wire]
  rfl

theorem replay_few (few : ∀ f ∈ replayedFrames (s.port n), f.replays < 8) : s.replay n = replaySent n s := by
  rw [replay_eq]
  exact if_neg (by simpa using few)

theorem replay_last (last : ∃ f ∈ replayedFrames (s.port n), 8 ≤ f.replays) : s.replay n = (replaySent n s).portLost n := by
  rw [replay_eq]
  exact if_pos (by simpa using last)

/-- A replay falls due: frames wait, and no acknowledgement has advanced for 1 µs. -/
theorem exec_linkReplayTimeout_eq : exec (.linkReplayTimeout p) s = .next (
    if s.linkOpen p.toNat && (s.port p.toNat).retry != [] && decide ((s.port p.toNat).ackAt + 1000 ≤ s.elapsed) then s.replay p.toNat else s) := rfl

theorem exec_lackTimer_eq : exec (.lackTimer p) s = .next (
    if s.linkOpen p.toNat && decide ((s.port p.toNat).lackAt + 200 ≤ s.elapsed) then s.sendLack p.toNat else s) := rfl

theorem stagingFull_iff {j : SteepJob} : s.stagingFull j = true ↔
    2 ^ 20 * s.od 0x5026 0 0 < ((j.arrays.filter fun a => a.phase == 0 || a.phase == 1).length + 1) * 264272 := decide_eq_true_iff

/-- Credit stays owed only to class BULK, while the staging of a steep over the fabric is full. -/
theorem mayReturn_eq_false_iff {c : Nat} : s.mayReturn c = false ↔ c = 2 ∧ ∃ j, s.steep = some j ∧ j.kind = 2 ∧
    2 ^ 20 * s.od 0x5026 0 0 < ((j.arrays.filter fun a => a.phase == 0 || a.phase == 1).length + 1) * 264272 := by
  cases steep : s.steep with
  | none => simp [State.mayReturn, steep]
  | some j =>
    simp only [State.mayReturn, steep, Option.any_some, stagingFull_iff, Bool.or_eq_false_iff, Bool.not_eq_false', bne_eq_false_iff_eq,
      Bool.and_eq_true, beq_iff_eq, Option.some.injEq, exists_eq_left']

/-- Settles O42: each command by the branch of its definition that the hypotheses name. -/
theorem framesAreAcknowledgedAndReplayed : Obligations.FramesAreAcknowledgedAndReplayed := by
  unfold Obligations.FramesAreAcknowledgedAndReplayed
  intro s p
  dsimp only
  simp only [← linkOpen_iff, Bool.not_eq_true]
  refine ⟨fun closed => ⟨exec_data_closed closed, exec_lack_closed closed, exec_lnak_closed closed, exec_idle_closed closed,
      exec_linkReplayTimeout_closed closed, exec_lackTimer_closed closed, exec_idleTimer_closed closed⟩, fun isOpen q h b l e => ?data, rfl,
    fun isOpen ack => ⟨fun cls g => ⟨?_, ?_, handBack_heard⟩, ?_⟩, ⟨replay_few, replay_last⟩, fun isOpen some late => ?_, fun out => ?_, fun isOpen late => ?_,
    fun c => mayReturn_eq_false_iff, fun early => ?_, fun isOpen => congrArg Host.Outcome.next (if_pos isOpen)⟩
  case data =>
    have small : p.toNat < 8 := p.isLt
    have taken := dataTaken_heard (s := s) (h := h) (b := b) (l := l) (e := e) small q.toNat e.corrected.toNat
    unfold dataLinked at taken
    rw [frameGranules_heard small] at taken
    rw [exec_data_open isOpen]
    refine ⟨fun bad => congrArg Host.Outcome.next (dataJudged_uncorrectable bad), fun whole bad => congrArg Host.Outcome.next (dataJudged_crc whole bad),
      fun whole good => ⟨fun next few => ?_, fun next many => ?_, fun past before => ?_, fun past after => ?_⟩⟩
    · refine congrArg Host.Outcome.next
        ((dataJudged_next (s := dataHeard p.toNat e.corrected.toNat s) whole good (not_not.mp next)).trans ?_)
      rw [taken]
      exact congrArg (State.handBack p.toNat e.back) (if_neg (not_le.mpr few))
    · refine congrArg Host.Outcome.next
        ((dataJudged_next (s := dataHeard p.toNat e.corrected.toNat s) whole good (not_not.mp next)).trans ?_)
      rw [taken]
      exact congrArg (State.handBack p.toNat e.back) (if_pos many)
    · exact congrArg Host.Outcome.next ((dataJudged_past whole good past).trans (if_pos before))
    · exact congrArg Host.Outcome.next ((dataJudged_past whole good past).trans (if_neg (not_lt.mpr after)))
  · rw [exec_lack_open isOpen, handBack_heard]
    rfl
  · rw [exec_idle_open isOpen, handBack_heard]
    rfl
  · rw [exec_lnak_open isOpen, acked_heard]
    rfl
  · rw [exec_linkReplayTimeout_eq, if_pos (by simp [isOpen, some, late])]
  · rw [exec_linkReplayTimeout_eq, if_neg (by rcases out with h | h <;> simp [h])]
  · rw [exec_lackTimer_eq, if_pos (by simp [isOpen, late])]
    rfl
  · rw [exec_lackTimer_eq, if_neg (by simp [early])]

end Sys2Proof.Proofs
end

section

/-! ## Racks told apart by the endpoint (O43; 14 R340, R349)

DELIVERY_TIMEOUT asks whether the silent endpoints are in the rack of OD 0x4011.00; the statement asks whether they are in the rack of the endpoint
made of both fields of OD 0x4011. The two differ where the second field holds more than its 16 bits, which the model's state does not rule out. -/

namespace Sys2Proof.Proofs

open Sys2Proof.Machine Sys2Proof.Laws

/-- A transfer that has been sent to endpoint 0 at time 0, and has one attempt left. -/
def lastAttempt : Sending :=
  { hdr := { kind := 2, cls := 0, mcast := false, first := false, last := true, retry := false, reserved := false, src := 0, dst := 0, slot := 0, tid := 7,
             len := 8, offset := 0, gen := 0, step := 0, mask := 0, kvGen := 0, rack := 0 },
    stepHdr := none, payload := List.replicate 8 0, port := 0, left := [0], refused := [], tries := 31, sentAt := 0, retryAt := none, hearth := 0,
    acked := false, run := 0 }

/-- 10 µs after it was sent, at a part of rack 0 whose endpoint number is 65,536. -/
def wideEndpoint : State := { State.reset.setOd 0x4011 0 1 65536 with tick := 1000, sending := [lastAttempt] }

/-- The 5 µs of an endpoint in the same rack are over, so the attempt is counted. -/
theorem deliveryTimeout_wideEndpoint : exec (.deliveryTimeout 7) wideEndpoint =
    .next (wideEndpoint.modSending 7 fun x => { x with tries := x.tries + 1 }) := by
  have sent : wideEndpoint.sendingOf 7 = some lastAttempt := by decide
  change execDeliveryTimeout 7 wideEndpoint = _
  unfold execDeliveryTimeout
  rw [show (7 : BitVec 32).toNat = 7 from rfl, sent]
  rfl

/-- Refutes O43: in `wideEndpoint` DELIVERY_TIMEOUT acts after the 5 µs of its own rack, where the statement waits the 50 µs of another. -/
theorem not_transfersAreDeliveredOrFail : ¬ Obligations.TransfersAreDeliveredOrFail := by
  intro holds
  obtain ⟨-, -, -, sends⟩ := holds wideEndpoint
  obtain ⟨-, -, -, ⟨waits, -⟩, -⟩ := sends 7 lastAttempt (by decide)
  have stays := waits (.inr (.inl (by decide)))
  rw [deliveryTimeout_wideEndpoint] at stays
  injection stays with same
  have tries := congrArg (fun t => t.sending.map (·.tries)) same
  exact absurd tries (by decide)

end Sys2Proof.Proofs
end

section

/-! ## Transfers that come again (O44; 14 R351) -/

namespace Sys2Proof.Proofs

open Sys2Proof.Machine Sys2Proof.Laws

/-! ### The last frame of a transfer -/

section Last

variable {s : State} {src tid offset : Nat} {payload : List Byte} {bad : Bool} {x : Receiving}

/-- A frame of a transfer is written at its offset. -/
def frameFilled (src tid offset : Nat) (payload : List Byte) (bad : Bool) (x : Receiving) (s : State) : State :=
  s.modReceiving src tid fun r =>
    { r with
      data := (patch r.data offset payload).take x.hdr.len.toNat, offsets := x.offsets ++ [offset], complete := true, poisoned := r.poisoned || bad }

theorem fillTransfer_last (found : s.receivingOf src tid = some x) (part : x.complete = false) (new : offset ∉ x.offsets)
    (last : ceilDiv x.hdr.len.toNat 4096 ≤ x.offsets.length + 1) : s.fillTransfer src tid offset payload bad =
      if x.hdr.kind = 1 then ((frameFilled src tid offset payload bad x s).noteCompleted src tid).sendAnswer 0x0A src tid 0
      else (((frameFilled src tid offset payload bad x s).noteCompleted src tid).sendAnswer 0x0A src tid 0).dropReceiving src tid := by
  have fresh : (x.complete || x.offsets.contains offset) = false := by simp [part, new]
  have done : decide (ceilDiv x.hdr.len.toNat 4096 ≤ (x.offsets ++ [offset]).length) = true := by simpa using last
  unfold State.fillTransfer
  simp only [found, fresh, done]
  rfl

theorem completed_noteCompleted_same (src tid : Nat) (s : State) : (s.noteCompleted src tid).completed.get [] src =
    (s.completed.get [] src ++ [tid]).drop ((s.completed.get [] src).length + 1 - 1024) := by
  unfold State.noteCompleted
  dsimp only
  rw [get_put_same, List.length_append, List.length_singleton]

theorem completed_noteCompleted_ne {other : Nat} (ne : other ≠ src) (tid : Nat) (s : State) :
    (s.noteCompleted src tid).completed.get [] other = s.completed.get [] other := by
  unfold State.noteCompleted
  dsimp only
  rw [get_put_ne _ _ _ ne]

end Last

/-! ### A frame of a transfer whose id is recorded -/

section Again

variable {s : State} {n : Nat} {h : TransportHdr} {b : Option StepHdr} {l : List Byte} {e : FrameFaults}

/-- Whether a frame is addressed to this part. -/
def addressed (s : State) (h : TransportHdr) : Bool :=
  if h.mcast then bit h.mask.toNat (s.endpoint % 65536) && decide (s.endpoint % 65536 < 64) else h.dst.toNat == s.endpoint % 65536

theorem addressed_iff : addressed s h = true ↔
    if h.mcast then h.mask.toNat.testBit (s.endpoint % 65536) = true ∧ s.endpoint % 65536 < 64 else h.dst.toNat = s.endpoint % 65536 := by
  unfold addressed
  split <;> simp [bit_eq_testBit]

theorem addressed_congr {t : State} (same : t.endpoint = s.endpoint) : addressed t h = addressed s h := by
  unfold addressed
  rw [same]

/-- A frame of a transfer that has been completed before is discarded; its last one is acknowledged again. -/
theorem takeData_again (mine : addressed s h = true) (up : s.portState n = 4) (ack : h.kind ≠ 0x0A) (nack : h.kind ≠ 0x0B)
    (again : h.tid.toNat ∈ s.completed.get [] (65536 * h.rack.toNat + h.src.toNat)) : s.takeData n h b l false =
      if h.last then (s.bump 0x4202 0 5 1).sendAnswer 0x0A (65536 * h.rack.toNat + h.src.toNat) h.tid.toNat 0 else s := by
  unfold addressed at mine
  have contained : (s.completed.get [] (65536 * h.rack.toNat + h.src.toNat)).contains h.tid.toNat = true := by simpa using again
  unfold State.takeData
  simp only [mine, up]
  simp only [Bool.not_true, Nat.reduceBEq, Bool.false_and, Bool.or_self, Bool.false_eq_true, if_false, contained, if_true, ack, nack, or_self]

/-- The counters of a port leave this part's endpoint and the states of the ports. -/
theorem endpoint_heard (small : n < 8) (c : Nat) : (dataHeard n c s).endpoint = s.endpoint := by
  have od (f : Nat) (hf : f < 64) : (dataHeard n c s).od 0x4011 0 f = s.od 0x4011 0 f :=
    (od_bump_ne (s.heard n) c (odKey_ne hf (by omega) (by omega) (by omega) (by omega) (by omega) (by omega))).trans
      (od_bump_ne s 1 (odKey_ne hf (by omega) (by omega) (by omega) (by omega) (by omega) (by omega)))
  unfold State.endpoint
  rw [od 0 (by omega), od 1 (by omega)]

theorem portState_heard (small : n < 8) (c : Nat) : (dataHeard n c s).portState n = s.portState n :=
  (od_bump_ne (s.heard n) c (odKey_ne (by omega) (by omega) (by omega) (by omega) (by omega) (by omega) (by omega))).trans
    (od_bump_ne s 1 (odKey_ne (by omega) (by omega) (by omega) (by omega) (by omega) (by omega) (by omega)))

theorem rxSeq_heard (c : Nat) : ((dataHeard n c s).port n).rxSeq = (s.port n).rxSeq := by
  have port : (dataHeard n c s).port n = { s.port n with heardAt := s.elapsed } := port_heard n s
  rw [port]

end Again

/-- Settles O44: the state that the statement asks for is the link at the frame's number. -/
theorem duplicatesAreAcknowledgedAndDiscarded : Obligations.DuplicatesAreAcknowledgedAndDiscarded := by
  unfold Obligations.DuplicatesAreAcknowledgedAndDiscarded
  intro s
  refine ⟨fun src tid offset payload bad x found part new last => ?_, fun p q h b l e => ?_⟩
  · exact ⟨(frameFilled src tid offset payload bad x s).noteCompleted src tid, fillTransfer_last found part new last,
      completed_noteCompleted_same .., fun other ne => completed_noteCompleted_ne ne ..⟩
  · intro n src whole good clean plain up next ack nack mine again
    have small : n < 8 := p.isLt
    have isOpen : s.linkOpen n = true := linkOpen_iff.mpr (.inl up)
    have heard : q.toNat = (((dataHeard n e.corrected.toNat s).port n).rxSeq + 1) % 2 ^ 32 := by rw [rxSeq_heard, next]
    refine ⟨dataLinked n q.toNat h b l (dataHeard n e.corrected.toNat s), rfl, rfl, rfl, rfl, rfl, ?_⟩
    have taken : dataTaken n q.toNat h b l e (dataHeard n e.corrected.toNat s) =
        (dataLinked n q.toNat h b l (dataHeard n e.corrected.toNat s)).takeData n h b l false := by
      rw [dataTaken_heard small, clean]
      exact if_neg fun foreign => plain.elim (fun ip => Bool.false_ne_true (ip.symm.trans foreign.1)) foreign.2
    have answered := takeData_again (s := dataLinked n q.toNat h b l (dataHeard n e.corrected.toNat s)) (n := n) (b := b) (l := l)
      ((addressed_congr (endpoint_heard small e.corrected.toNat)).trans (addressed_iff.mpr mine)) ((portState_heard small e.corrected.toNat).trans up) ack nack again
    dsimp only
    rw [exec_data_open isOpen, dataJudged_next whole good heard, taken, answered]

end Sys2Proof.Proofs
end

section

/-! ## Step inputs and notices (O45; 07 R178, 14 R347, 15 R362 to R373) -/

namespace Sys2Proof.Proofs

open Sys2Proof.Machine Sys2Proof.Laws

variable {s : State}

/-! ### ACT (R347, R373) -/

section Act

variable {src : BitVec 16} {tid : BitVec 32} {x : Receiving}

theorem exec_act_none (none : ∀ r ∈ s.receiving, ¬ (r.src % 65536 = src.toNat ∧ r.tid = tid.toNat ∧ r.hdr.kind = 1 ∧ r.complete = true)) :
    exec (.act src tid) s = .next s := by
  have found : (s.receiving.find? fun r => r.src % 65536 == src.toNat && r.tid == tid.toNat && r.hdr.kind == 1 && r.complete) = Option.none :=
    List.find?_eq_none.mpr fun r mem => by simpa [and_assoc] using none r mem
  change execAct src tid s = _
  simp only [execAct, found]

/-- A step comes too late: it is past, or failed since its transfer began. -/
def actLate (r : StepRec) (x : Receiving) : Prop :=
  (r.phase ≠ .waiting ∧ r.phase ≠ .running ∧ r.phase ≠ .failed) ∨ (r.phase = .failed ∧ x.since < r.boundary * 10)

theorem actLate_iff {r : StepRec} : actLate r x ↔
    ((r.phase != .waiting && r.phase != .running && r.phase != .failed) || (r.phase == .failed && decide (x.since < r.boundary * 10))) = true := by
  simp [actLate, and_assoc]

/-- The step of a completed ACT is opened, or its slip count raised. -/
def actOpened (x : Receiving) (step : Nat) (s : State) : State :=
  match x.stepHdr with
  | none => s
  | some b => if (s.stepRec step).hdr = none then (s.openStep step x.hdr b).takePartner x.src step else s.takeK step b.k.toNat

variable (found : (s.receiving.find? fun r => r.src % 65536 == src.toNat && r.tid == tid.toNat && r.hdr.kind == 1 && r.complete) = some x)

include found

theorem exec_act_found : exec (.act src tid) s = .next (
    let step := x.hdr.step.toNat
    let u := s.dropReceiving x.src x.tid
    let r := u.stepRec step
    if (r.phase != .waiting && r.phase != .running && r.phase != .failed) || (r.phase == .failed && decide (x.since < r.boundary * 10)) then
      u.bump 0x4202 0 7 1
    else
      match ((actOpened x step u).stepRec step).inputs.find? fun i => i.slot == x.hdr.slot.toNat with
      | some first => (actOpened x step u).secondCopy x first step
      | none => (actOpened x step u).joinInput x step) := by
  change execAct src tid s = _
  simp only [execAct, found]
  cases header : x.stepHdr with
  | none =>
    simp only [actOpened, header]
    rfl
  | some b =>
    simp only [actOpened, header, Option.isNone_iff_eq_none]
    rfl

theorem exec_act_late (late : actLate (s.stepRec x.hdr.step.toNat) x) :
    exec (.act src tid) s = .next ((s.dropReceiving x.src x.tid).bump 0x4202 0 7 1) := by
  rw [exec_act_found found]
  exact congrArg Host.Outcome.next (if_pos (actLate_iff.mp late))

theorem exec_act_first (timely : ¬ actLate (s.stepRec x.hdr.step.toNat) x)
    (first : ∀ i ∈ ((actOpened x x.hdr.step.toNat (s.dropReceiving x.src x.tid)).stepRec x.hdr.step.toNat).inputs, i.slot ≠ x.hdr.slot.toNat) :
    exec (.act src tid) s = .next ((actOpened x x.hdr.step.toNat (s.dropReceiving x.src x.tid)).joinInput x x.hdr.step.toNat) := by
  have none := List.find?_eq_none.mpr fun i mem => (beq_eq_false_iff_ne.mpr (first i mem)) ▸ Bool.false_ne_true
  rw [exec_act_found found]
  refine congrArg Host.Outcome.next ((if_neg fun h => timely (actLate_iff.mpr h)).trans ?_)
  simp only [none]

theorem exec_act_second {i : StepInput} (timely : ¬ actLate (s.stepRec x.hdr.step.toNat) x)
    (second : (((actOpened x x.hdr.step.toNat (s.dropReceiving x.src x.tid)).stepRec x.hdr.step.toNat).inputs.find? fun i => i.slot == x.hdr.slot.toNat) = some i) :
    exec (.act src tid) s = .next ((actOpened x x.hdr.step.toNat (s.dropReceiving x.src x.tid)).secondCopy x i x.hdr.step.toNat) := by
  rw [exec_act_found found]
  refine congrArg Host.Outcome.next ((if_neg fun h => timely (actLate_iff.mpr h)).trans ?_)
  simp only [second]

end Act

/-! ### What joins a step (R347, R373) -/

section Join

variable {x : Receiving} {step : Nat}

/-- An input of a step, as its transfer brought it. -/
def inputOf (x : Receiving) : StepInput :=
  { slot := x.hdr.slot.toNat, src := x.src, tid := x.tid, data := x.data, poisoned := x.poisoned, port := x.port, reserve := x.reserve,
    shared := x.shared, forwarded := false, waiting := [] }

/-- The first copy of a slot is among the inputs, its source noted. -/
def inputJoined (x : Receiving) (step : Nat) (s : State) : State :=
  s.modStep step fun r => { r with inputs := r.inputs ++ [inputOf x], sources := (r.sources ++ [x.src]).eraseDups }

theorem stepRec_inputJoined : (inputJoined x step s).stepRec step =
    { s.stepRec step with
      inputs := (s.stepRec step).inputs ++ [inputOf x], sources := ((s.stepRec step).sources ++ [x.src]).eraseDups } := stepRec_modStep_same ..

theorem shadowed_inputJoined : (inputJoined x step s).shadowed step = s.shadowed step := by
  unfold State.shadowed State.forStep
  rw [stepRec_inputJoined]
  rfl

/-- An input of a step that waits and is not shadow-checked joins it, and a replay due for want of it is scheduled. -/
theorem joinInput_waiting (waits : (s.stepRec step).phase = .waiting) (plain : s.shadowed step = false) : s.joinInput x step =
    if (inputJoined x step s).replayDue step then
      (if (inputJoined x step s).isAdmitting then (inputJoined x step s).countReplay step else inputJoined x step s).scheduleReplay step
    else inputJoined x step s := by
  have plain' : (inputJoined x step s).shadowed step = false := shadowed_inputJoined.trans plain
  have waits' : ((inputJoined x step s).stepRec step).phase = .waiting := by rw [stepRec_inputJoined, waits]
  unfold inputJoined inputOf at plain' waits' ⊢
  unfold State.joinInput
  simp only [plain', waits', Bool.false_eq_true, if_false]
  rfl

end Join

section Second

variable {x : Receiving} {i : StepInput} {step : Nat}

/-- The sender of a transfer serves a LOCKSTEP entry. -/
def fromLockstep (s : State) (x : Receiving) : Bool := ((s.entryIndexOf x.src).bind s.entryAt |>.map fun e => e.mode == 2).getD false

theorem fromLockstep_iff : fromLockstep s x = true ↔ ∃ n e, s.entryIndexOf x.src = some n ∧ s.entryAt n = some e ∧ e.mode = 2 := by
  unfold fromLockstep
  cases index : s.entryIndexOf x.src with
  | none => simp
  | some n => cases entry : s.entryAt n <;> simp [entry]

/-- The source of a second copy is noted. -/
def sourceNoted (x : Receiving) (step : Nat) (s : State) : State := s.modStep step fun r => { r with sources := (r.sources ++ [x.src]).eraseDups }

/-- Once compared, a forwarded input whose rows are accepted gives its granules back. -/
def granulesFreed (slot : Nat) (y : StepInput) : StepInput :=
  if y.slot = slot ∧ y.forwarded = true ∧ y.waiting = [] then { y with reserve := 0, shared := 0 } else y

/-- A comparison of two copies is counted. -/
def copyCompared (slot step : Nat) (s : State) : State :=
  (s.bump 0x4107 0 0 1).modStep step fun r => { r with matched := r.matched ++ [slot], inputs := r.inputs.map (granulesFreed slot) }

theorem secondCopy_eq : s.secondCopy x i step =
    if !fromLockstep s x || i.src == x.src then sourceNoted x step s
    else
      let found := (sourceNoted x step s).compare step i.slot i.data x.data
      let u := copyCompared i.slot step (sourceNoted x step s)
      let v := u.noteCheck step ((u.entryIndexOf x.src).getD 0xFFFF) found.2
      if found.2 then v.twinMismatch step found.1 else v := rfl

theorem secondCopy_dropped (out : fromLockstep s x = false ∨ i.src = x.src) : s.secondCopy x i step = sourceNoted x step s := by
  rw [secondCopy_eq]
  exact if_pos (by rcases out with h | h <;> simp [h])

theorem secondCopy_compared (lock : fromLockstep s x = true) (other : i.src ≠ x.src) : s.secondCopy x i step =
    let found := (sourceNoted x step s).compare step i.slot i.data x.data
    let u := copyCompared i.slot step (sourceNoted x step s)
    let v := u.noteCheck step ((u.entryIndexOf x.src).getD 0xFFFF) found.2
    if found.2 then v.twinMismatch step found.1 else v := by
  rw [secondCopy_eq]
  exact if_neg (by simp [lock, other])

end Second

/-! ### SLIP and COMMIT (07 R178, R365, R368) -/

section Notices

variable {src : BitVec 16} {step : BitVec 64}

/-- A slip count that comes of a replay counts at the admitting part. -/
def slipCounted (step : Nat) (replay : Bool) (s : State) : State := if replay && s.isAdmitting then s.countReplay step else s

theorem exec_slip (k : SlipCount) : exec (.slip step k) s = .next ((slipCounted step.toNat k.replay s).takeK step.toNat k.k.toNat) := rfl

theorem takeK_low {n k : Nat} (low : k ≤ (s.stepRec n).k) : s.takeK n k = s := if_pos low

theorem takeK_high {n k : Nat} (high : (s.stepRec n).k < k) : s.takeK n k = (s.bump 0x2204 0 5 1).modStep n fun r => { r with k := k } :=
  if_neg (not_le.mpr high)

/-- What is kept of a step, without the position that has committed it. -/
def lessCommitted (src step : Nat) (r : Retained) : Retained :=
  if r.step = step then { r with left := r.left.filter fun e => e % 65536 != src } else r

theorem step_lessCommitted (src step : Nat) (r : Retained) : (lessCommitted src step r).step = r.step := by
  unfold lessCommitted
  split <;> rfl

theorem send_lessCommitted (src step : Nat) (r : Retained) : (lessCommitted src step r).send = r.send := by
  unfold lessCommitted
  split <;> rfl

theorem mem_left_lessCommitted {a b : Nat} {r : Retained} (e : Nat) :
    e ∈ (lessCommitted a b r).left ↔ e ∈ r.left ∧ (r.step = b → e % 65536 ≠ a) := by
  unfold lessCommitted
  split <;> rename_i own <;> simp [own]

theorem exec_commit : exec (.commit src step) s =
    .next { s with retained := (s.retained.map (lessCommitted src.toNat step.toNat)).filter fun r => r.left != [] } := rfl

end Notices

theorem sameBut_retained {l : List Part} (fabric : l.contains .fabric = true) (kept : List Retained) (s : State) :
    SameBut l s { s with retained := kept } := by
  refine ⟨rfl, fun part other => ?_⟩
  cases part
  case fabric => exact absurd (other.symm.trans fabric) Bool.false_ne_true
  all_goals rfl

/-! ### ABANDON (R366 to R368) -/

section Abandon

variable {src : BitVec 16} {step : BitVec 64} {stage : Byte}

/-- The endpoint that sent a notice, in this part's rack. -/
def senderOf (s : State) (src : BitVec 16) : Nat := 65536 * (s.endpoint / 65536) + src.toNat

theorem exec_abandon_stranger (none : ∀ e ∈ s.entries, senderOf s src ∉ e.members) : exec (.abandon src step stage) s =
    .next (if senderOf s src = s.admitting ∧ stage = 0 then (s.dropStep step.toNat).settleDrain else s) := by
  have found : (s.entries.zipIdx.find? fun e => e.1.members.contains (senderOf s src)) = Option.none :=
    List.find?_eq_none.mpr fun e mem => by simpa using none e.1 (List.fst_mem_of_mem_zipIdx mem)
  unfold senderOf at found
  change execAbandon src step stage s = _
  simp only [execAbandon, found]
  rfl

section Member

variable {e : Entry} {i : Nat} (found : (s.entries.zipIdx.find? fun e => e.1.members.contains (senderOf s src)) = some (e, i))

include found

theorem entryAt_of_found : s.entryAt i = some e := by
  have mem := List.mem_of_find?_eq_some found
  exact List.mem_zipIdx_iff_getElem?.mp mem

theorem exec_abandon_member : exec (.abandon src step stage) s = .next (
    if senderOf s src == s.admitting && stage == 0 && !(senderOf s src == s.endpoint) then (s.dropStep step.toNat).settleDrain
    else if e.head then (if s.isAdmitting then s.replayHead step.toNat i e else s)
    else if s.isAdmitting && decide (s.od 0x2203 0 0 ≤ (s.stepRec step.toNat).k) then s.restartStep step.toNat
    else if s.retains step.toNat i then s.resendOrWait step.toNat i e
    else s.restartStep step.toNat) := by
  have unfolded := found
  unfold senderOf at unfolded
  change execAbandon src step stage s = _
  simp only [execAbandon, unfolded]
  rfl

/-- The admitting part drops the step. -/
theorem exec_abandon_dropped (admits : senderOf s src = s.admitting ∧ stage = 0) (other : senderOf s src ≠ s.endpoint) :
    exec (.abandon src step stage) s = .next (s.dropStep step.toNat).settleDrain := by
  rw [exec_abandon_member found]
  refine congrArg Host.Outcome.next (if_pos ?_)
  simp only [Bool.and_eq_true, beq_iff_eq, Bool.not_eq_true', beq_eq_false_iff_ne]
  exact ⟨admits, other⟩

/-- A notice from the HEAD, or from another entry. -/
theorem exec_abandon_entry (other : ¬ (senderOf s src = s.admitting ∧ stage = 0) ∨ senderOf s src = s.endpoint) :
    exec (.abandon src step stage) s = .next (
      if e.head then (if s.isAdmitting then s.replayHead step.toNat i e else s)
      else if s.isAdmitting && decide (s.od 0x2203 0 0 ≤ (s.stepRec step.toNat).k) then s.restartStep step.toNat
      else if s.retains step.toNat i then s.resendOrWait step.toNat i e
      else s.restartStep step.toNat) := by
  rw [exec_abandon_member found]
  refine congrArg Host.Outcome.next (if_neg fun h => ?_)
  simp only [Bool.and_eq_true, beq_iff_eq, Bool.not_eq_true', beq_eq_false_iff_ne] at h
  exact other.elim (· h.1) h.2

/-- What is kept for the entry that failed. -/
theorem retains_iff {id : Nat} : s.retains id i = true ↔ ∃ r ∈ s.retained, r.step = id ∧ ∃ x ∈ r.left, x ∈ e.members := by
  simp [State.retains, entryAt_of_found found]

end Member

theorem replayHead_eq (id i : Nat) (e : Entry) (s : State) : s.replayHead id i e =
    if (s.countReplay id).od 0x4105 0 0 < (s.countReplay id).replaysOf id then s.countReplay id
    else if (s.countReplay id).retains id i then (s.countReplay id).resendOrWait id i e
    else if ((s.countReplay id).stepRec id).phase == .failed then (s.countReplay id).scheduleReplay id
    else s.countReplay id := rfl

theorem suspected_iff {e : Entry} : (e.members.any fun x => s.suspects.contains x) = true ↔ ∃ x ∈ e.members, x ∈ s.suspects := by simp

end Abandon

/-- Settles O45: each command by the branch of its definition that the hypotheses name. -/
theorem stepInputsAndNoticesAreTaken : Obligations.StepInputsAndNoticesAreTaken := by
  unfold Obligations.StepInputsAndNoticesAreTaken
  intro s
  refine ⟨fun src tid => ⟨exec_act_none, fun x found => ⟨exec_act_late found, fun timely => ⟨exec_act_first found timely, fun i => exec_act_second found timely⟩⟩⟩,
    fun x step waits plain => ?join, fun x i step => ?second, fun step k => ?slip, fun src step => ?commit, fun src step stage => ?abandon⟩
  case join =>
    refine ⟨fun undue => ?_, fun due => ?_⟩
    · rw [joinInput_waiting waits plain]
      exact if_neg (Bool.eq_false_iff.mp undue)
    · rw [joinInput_waiting waits plain]
      exact if_pos due
  case second =>
    refine ⟨fun out => ?_, fun lock other => ⟨fun agree => ?_, fun differ => ?_⟩⟩
    · exact secondCopy_dropped (out.imp (fun h => Bool.eq_false_iff.mpr fun k => h (fromLockstep_iff.mp k)) id)
    · rw [secondCopy_compared (fromLockstep_iff.mpr lock) other]
      exact if_neg (Bool.eq_false_iff.mp agree)
    · rw [secondCopy_compared (fromLockstep_iff.mpr lock) other]
      exact if_pos differ
  case slip =>
    have counted : (if k.replay = true ∧ s.isAdmitting = true then s.countReplay step.toNat else s) = slipCounted step.toNat k.replay s := by
      simp only [slipCounted, Bool.and_eq_true]
    intro u
    rw [exec_slip]
    refine ⟨fun low => ?_, fun high => ?_⟩
    · rw [← counted, takeK_low low]
    · rw [← counted, takeK_high high]
  case commit =>
    refine ⟨_, exec_commit, sameBut_retained rfl .., rfl, fun r mem left other => ?_, fun r mem => ?_⟩
    · have own : lessCommitted src.toNat step.toNat r = r := if_neg other
      exact List.mem_filter.mpr ⟨List.mem_map.mpr ⟨r, mem, own⟩, by simpa using left⟩
    · obtain ⟨mem, left⟩ := List.mem_filter.mp mem
      obtain ⟨q, held, rfl⟩ := List.mem_map.mp mem
      refine ⟨by simpa using left, fun own e owed => ?_, q, held, (step_lessCommitted ..).symm, (send_lessCommitted ..).symm, fun e => mem_left_lessCommitted e⟩
      exact ((mem_left_lessCommitted e).mp owed).2 ((step_lessCommitted ..).symm.trans own)
  case abandon =>
    refine ⟨fun stranger => ?_, fun e i found => ?_⟩
    · rw [exec_abandon_stranger stranger]
      exact ⟨fun admits => congrArg Host.Outcome.next (if_pos admits), fun other => congrArg Host.Outcome.next (if_neg other)⟩
    · refine ⟨fun admits self => exec_abandon_dropped found admits self, fun other => ?_⟩
      have judged := exec_abandon_entry (step := step) found other
      refine ⟨fun head elsewhere => ?_, fun head admits => ⟨fun many => ?_, fun few => ⟨fun kept => ?_, fun gone failed => ?_, fun gone on => ?_⟩⟩,
        fun tail => ⟨fun restarts => ?_, fun below kept suspected => ?_, fun below kept clear => ?_⟩⟩
      · rw [judged, if_pos head, elsewhere]
        rfl
      · rw [judged, if_pos head, if_pos admits, replayHead_eq, if_pos many]
      · rw [judged, if_pos head, if_pos admits, replayHead_eq, if_neg (not_lt.mpr few), if_pos kept]
      · rw [judged, if_pos head, if_pos admits, replayHead_eq, if_neg (not_lt.mpr few), if_neg (Bool.eq_false_iff.mp gone), if_pos (by simp [failed])]
      · rw [judged, if_pos head, if_pos admits, replayHead_eq, if_neg (not_lt.mpr few), if_neg (Bool.eq_false_iff.mp gone), if_neg (by simp [on])]
      · rw [judged, if_neg (Bool.eq_false_iff.mp tail)]
        split
        · rfl
        · rename_i below
          have gone := restarts.resolve_left fun h => below (by simp [h.1, h.2])
          rw [if_neg fun h => gone ((retains_iff found).mp h)]
      · rw [judged, if_neg (Bool.eq_false_iff.mp tail), if_neg fun h => below (by simpa using h), if_pos ((retains_iff found).mpr kept)]
        exact congrArg Host.Outcome.next (if_pos (suspected_iff.mpr suspected))
      · rw [judged, if_neg (Bool.eq_false_iff.mp tail), if_neg fun h => below (by simpa using h), if_pos ((retains_iff found).mpr kept)]
        exact congrArg Host.Outcome.next (if_neg fun h => clear (suspected_iff.mp h))

end Sys2Proof.Proofs
end

section

/-! ## A step in shadow (O46; 15 R370)

Starting the stokers and forwarding a step's inputs touches the hearths, the step and the flags, but neither the stacks nor the fabric (`Forwards`). -/

namespace Sys2Proof.Proofs

open Sys2Proof.Machine Sys2Proof.Laws

/-- `t` is `s` but for the queues of its hearths, steps and objects: no stoker has moved on. -/
structure Forwards (s t : State) : Prop where
  pending : t.pending = s.pending
  memory : t.toMemoryPart = s.toMemoryPart
  fabric : t.toFabricPart = s.toFabricPart
  phase : ∀ h, (t.hearth h).phase = (s.hearth h).phase
  step : ∀ h, (t.hearth h).step = (s.hearth h).step
  pc : ∀ h, (t.hearth h).pc = (s.hearth h).pc

theorem Forwards.refl (s : State) : Forwards s s := ⟨rfl, rfl, rfl, fun _ => rfl, fun _ => rfl, fun _ => rfl⟩

theorem Forwards.trans {s t u : State} (h : Forwards s t) (k : Forwards t u) : Forwards s u :=
  ⟨k.pending.trans h.pending, k.memory.trans h.memory, k.fabric.trans h.fabric, fun g => (k.phase g).trans (h.phase g), fun g => (k.step g).trans (h.step g),
    fun g => (k.pc g).trans (h.pc g)⟩

theorem forwards_modHearth {h : Nat} {f : Hearth → Hearth} {s : State} (phase : (f (s.hearth h)).phase = (s.hearth h).phase)
    (step : (f (s.hearth h)).step = (s.hearth h).step) (pc : (f (s.hearth h)).pc = (s.hearth h).pc) : Forwards s (s.modHearth h f) := by
  have keeps {α : Type} (p : Hearth → α) (same : p (f (s.hearth h)) = p (s.hearth h)) (g : Nat) : p ((s.modHearth h f).hearth g) = p (s.hearth g) := by
    by_cases own : g = h
    · rw [own, hearth_modHearth, same]
    · rw [hearth_modHearth_ne own]
  exact ⟨rfl, rfl, rfl, keeps _ phase, keeps _ step, keeps _ pc⟩

theorem forwards_setFlag (h e cc : Nat) (s : State) : Forwards s (s.setFlag h e cc) := by
  unfold State.setFlag
  split
  · exact ⟨rfl, rfl, rfl, fun _ => rfl, fun _ => rfl, fun _ => rfl⟩
  · exact forwards_modHearth rfl rfl rfl

theorem forwards_wakeDma (h cc : Nat) (s : State) : Forwards s (s.wakeDma h cc) := by
  unfold State.wakeDma
  dsimp only
  split
  · exact .refl s
  · exact forwards_modHearth rfl rfl rfl

theorem forwards_acceptRow (h cc : Nat) (r : InRow) (s : State) : Forwards s (s.acceptRow h cc r) := by
  unfold State.acceptRow
  dsimp only
  have event (t : State) : Forwards t (match r.event with
      | some e => if (t.hearth h).step = r.step then t.setFlag h e cc else t
      | none => t) := by
    split
    · split
      · exact forwards_setFlag ..
      · exact .refl t
    · exact .refl t
  split
  · exact ((forwards_modHearth rfl rfl rfl).trans (event _)).trans (forwards_wakeDma ..)
  · exact (forwards_modHearth rfl rfl rfl).trans (event _)

theorem forwards_acceptRows (h cc n : Nat) (s : State) : Forwards s (s.acceptRows h cc n) := by
  induction n generalizing s with
  | zero => exact .refl s
  | succ n ih =>
    unfold State.acceptRows
    split
    · exact .refl s
    · split
      · exact .refl s
      · exact (forwards_acceptRow ..).trans (ih _)

theorem forwards_sendRows (h cc : Nat) (rows : List InRow) (s : State) : Forwards s (s.sendRows h cc rows) :=
  (forwards_modHearth rfl rfl rfl).trans (forwards_acceptRows ..)

theorem forwards_modStep (step : Nat) (f : StepRec → StepRec) (s : State) : Forwards s (s.modStep step f) :=
  ⟨rfl, rfl, rfl, fun _ => rfl, fun _ => rfl, fun _ => rfl⟩

theorem forwards_settleInput (h cc : Nat) (i : StepInput) (matched : Bool) (s : State) : Forwards s (s.settleInput h cc i matched).1 := by
  unfold State.settleInput
  split
  · exact forwards_setFlag ..
  · exact .refl s

theorem forwards_foldl {α : Type} {f : State → α → State} (each : ∀ s a, Forwards s (f s a)) (l : List α) (s : State) : Forwards s (l.foldl f s) :=
  List.foldlRecOn l f (motive := Forwards s) (.refl s) fun t held a _ => held.trans (each t a)

theorem forwards_settleInputs (h cc step : Nat) (s : State) : Forwards s (s.settleInputs h cc step) := by
  have settled (f : State → StepInput → State × StepInput) (each : ∀ t i, Forwards t (f t i).1) (l : List StepInput) : Forwards s
      (l.foldl (fun (acc : State × List StepInput) i => ((f acc.1 i).1, acc.2 ++ [(f acc.1 i).2])) (s, [])).1 :=
    List.foldlRecOn l _ (motive := fun acc : State × List StepInput => Forwards s acc.1) (.refl s) fun _ held i _ => held.trans (each _ i)
  have inputs := settled (fun t i => t.settleInput h cc i ((s.stepRec step).matched.contains i.slot)) (fun _ _ => forwards_settleInput ..)
    (s.stepRec step).inputs
  unfold State.settleInputs
  dsimp only
  split
  · exact inputs
  · exact inputs.trans (forwards_modStep ..)

theorem forwards_forwardInput (step : Nat) (i : StepInput) (s : State) : Forwards s (s.forwardInput step i) :=
  ((forwards_foldl (fun _ _ => forwards_sendRows ..) ..).trans (forwards_modStep ..)).trans (forwards_foldl (fun _ _ => forwards_settleInputs ..) ..)

/-! ### Starting the stokers -/

section Start

variable {s : State} {step entry : Nat} {ctx : List Nat}

theorem settleRows_idle {h : Nat} (idle : (s.hearth h).calendar = []) : s.settleRows h = s := by
  unfold State.settleRows
  rw [idle]
  rfl

/-- A stoker that starts with nothing in its hearth's calendar leaves the stacks and the fabric. -/
theorem startHearth_idle {h : Nat} (idle : (s.hearth h).calendar = []) :
    startHearth step entry ctx s h = (s.modHearth h (Hearth.launch step entry ctx)).showStoker h 1 := by
  unfold startHearth
  rw [settleRows_idle idle]

theorem calendar_startHearth {h g : Nat} (idle : (s.hearth h).calendar = []) (still : (s.hearth g).calendar = []) :
    ((startHearth step entry ctx s h).hearth g).calendar = [] := by
  rw [startHearth_idle idle]
  show ((s.modHearth h (Hearth.launch step entry ctx)).hearth g).calendar = []
  by_cases own : g = h
  · rw [own, hearth_modHearth]
    rfl
  · rw [hearth_modHearth_ne own, still]

theorem startHearths_idle (l : List Nat) (idle : ∀ h ∈ l, (s.hearth h).calendar = []) :
    (l.foldl (startHearth step entry ctx) s).pending = s.pending ∧ (l.foldl (startHearth step entry ctx) s).toMemoryPart = s.toMemoryPart ∧
      (l.foldl (startHearth step entry ctx) s).toFabricPart = s.toFabricPart := by
  induction l generalizing s with
  | nil => exact ⟨rfl, rfl, rfl⟩
  | cons h l ih =>
    have first := idle h List.mem_cons_self
    obtain ⟨pending, memory, fabric⟩ := ih fun g mem => calendar_startHearth first (idle g (List.mem_cons_of_mem _ mem))
    have own : (startHearth step entry ctx s h).pending = s.pending ∧ (startHearth step entry ctx s h).toMemoryPart = s.toMemoryPart ∧
        (startHearth step entry ctx s h).toFabricPart = s.toFabricPart := by
      rw [startHearth_idle first]
      exact ⟨rfl, rfl, rfl⟩
    exact ⟨pending.trans own.1, memory.trans own.2.1, fabric.trans own.2.2⟩

/-- Once every stoker of the kindle set has started, the step's inputs are forwarded. -/
theorem startRun_forwards (program : entryOf step s ≠ 0) : Forwards (allStarted step s) (s.startRun step) := by
  have starts : s.startRun step =
      ((allStarted step s).stepRec step).inputs.foldl (fun s i => s.forwardInput step i) (allStarted step s) := if_neg program
  rw [starts]
  exact forwards_foldl (fun _ _ => forwards_forwardInput ..) ..

/-- A run of a step on free hearths: its stokers stand at the entry point, and neither stacks nor fabric have changed. -/
theorem startRun_idle (program : entryOf step s ≠ 0) (idle : ∀ h ∈ s.kindleHearths, (s.hearth h).calendar = []) :
    (s.startRun step).pending = s.pending ∧ (s.startRun step).toMemoryPart = s.toMemoryPart ∧ (s.startRun step).toFabricPart = s.toFabricPart ∧
      ∀ h ∈ s.kindleHearths, ((s.startRun step).hearth h).phase = .running ∧ ((s.startRun step).hearth h).step = step ∧
        ((s.startRun step).hearth h).pc = entryOf step s := by
  have forwards := startRun_forwards program
  obtain ⟨pending, memory, fabric⟩ : (allStarted step s).pending = s.pending ∧ (allStarted step s).toMemoryPart = s.toMemoryPart ∧
      (allStarted step s).toFabricPart = s.toFabricPart := startHearths_idle (s := runNoted step s) s.kindleHearths idle
  obtain ⟨-, work⟩ := allStarted_starts step s
  refine ⟨forwards.pending.trans pending, forwards.memory.trans memory, forwards.fabric.trans fabric, fun h mem => ?_⟩
  have own := work h mem
  exact ⟨(forwards.phase h).trans (congrArg Work.phase own), (forwards.step h).trans (congrArg Work.step own),
    (forwards.pc h).trans (congrArg Work.pc own)⟩

end Start

/-! ### SHADOW_RUN -/

section ShadowRun

variable {s : State} {k : BitVec 64} {x : Shadow}

theorem exec_shadowRun_none (none : s.shadow = none ∨ ∃ x, s.shadow = some x ∧ x.step ≠ k.toNat) : exec (.shadowRun k) s = .next s := by
  change execShadowRun k s = _
  unfold execShadowRun
  rcases none with none | ⟨x, found, other⟩
  · rw [none]
  · rw [found]
    exact congrArg Host.Outcome.next (if_pos (by simp [other]))

variable (found : s.shadow = some x) (own : x.step = k.toNat)

include found own

omit own in
theorem exec_shadowRun_stays (out : x.running = true ∨ s.shadowComplete x = false ∨ s.programLoaded = false ∨ (s.stepRec x.step).hdr ≠ none) :
    exec (.shadowRun k) s = .next s := by
  have header : (s.stepRec x.step).hdr ≠ none ↔ (s.stepRec x.step).hdr.isSome = true := Option.isSome_iff_ne_none.symm
  rw [header] at out
  change execShadowRun k s = _
  unfold execShadowRun
  rw [found]
  exact congrArg Host.Outcome.next (if_pos (by rcases out with h | h | h | h <;> simp [h]))

/-- The step as its shadow run knows it is in the table, and the run has a scratch of the pages, contexts and line states. -/
def shadowBegun (x : Shadow) (s : State) : State :=
  { s with shadow := some { x with running := true, pages := s.pages, ctxs := s.ctxs, lines := s.stackLine } }.setStep x.step (s.shadowStep x)

theorem exec_shadowRun_due (still : x.running = false) (complete : s.shadowComplete x = true) (loaded : s.programLoaded = true)
    (idle : (s.stepRec x.step).hdr = none) :
    exec (.shadowRun k) s = .next (if !s.hearthsFree then s.kindleSetNow else (shadowBegun x s).startRun x.step) := by
  change execShadowRun k s = _
  unfold execShadowRun
  rw [found]
  exact congrArg Host.Outcome.next (if_neg (by simp [own, still, complete, loaded, own ▸ idle]))

omit found own

theorem stepRec_shadowBegun (x : Shadow) (s : State) : (shadowBegun x s).stepRec x.step = s.shadowStep x :=
  congrArg (fun r : Option StepRec => r.getD StepRec.fresh) (get_put_same none (some (s.shadowStep x)) x.step s.steps)

theorem entryOf_shadowBegun (x : Shadow) (s : State) :
    entryOf x.step (shadowBegun x s) = s.headerAt (40 + 2 * (x.hdr.variant.toNat % 8)) 2 := by
  unfold entryOf
  rw [stepRec_shadowBegun]
  rfl

end ShadowRun

end Sys2Proof.Proofs
end

section

/-! ## Mirror records at a standby (O46; 15 R369 to R377, 11 R272, R285) -/

namespace Sys2Proof.Proofs

open Sys2Proof.Machine Sys2Proof.Laws

variable {s : State}

/-! ### Sparse stores -/

/-- A store without the entries of some keys reads as nothing there. -/
theorem get_filter_keys {α : Type} {d : α} {gone : List Nat} {k : Nat} (mem : k ∈ gone) (m : Tab α) :
    Tab.get d k (m.filter fun e => !gone.contains e.1) = d := by
  by_contra listed
  have kept := (List.mem_filter.mp (mem_of_get rfl listed)).2
  simp [mem] at kept

theorem mem_of_get_some {α : Type} {k : Nat} {v : α} {m : Tab (Option α)} (found : Tab.get none k m = some v) : (k, some v) ∈ m :=
  mem_of_get found (by simp)

/-! ### KV_ENTRY -/

section KvEntry

variable {die : Nat} {h : PageHdr} {entries : List KvSlot} {x : Ctx}

/-- The context that a page's header names, made where it is missing. -/
def namedCtx (h : PageHdr) (s : State) : State := s.haveCtx h.ctx.toNat h.tenant.toNat h.kvGen.toNat

/-- The list that a page's header names. -/
def namedList (h : PageHdr) (x : Ctx) : PageList := x.list h.layer.toNat h.head.toNat

/-- A page as its header says, over what it was. -/
def headedPage (h : PageHdr) (old : Option Page) : Page :=
  { old.getD { ctx := h.ctx.toNat, tenant := 0, layer := h.layer.toNat, head := h.head.toNat, first := 64 * (h.first.toNat / 64), kScale := 0, vScale := 0,
               kvGen := 0, state := 1, written := 0, slots := [] } with
    tenant := h.tenant.toNat, kScale := h.kScale.toNat, vScale := h.vScale.toNat, kvGen := h.kvGen.toNat, state := h.state.toNat }

/-- Slots are written into a page. -/
def slotsPut (entries : List KvSlot) (p : Page) : Page := entries.foldl (fun p (e : KvSlot) => p.putSlot e.slot.toNat (e.k, e.v)) p

/-- The list with its page in a frame. -/
def framedList (die f : Nat) (h : PageHdr) (x : Ctx) : PageList :=
  { namedList h x with die := die, frames := (namedList h x).frames.put none (h.first.toNat / 64) (some f) }

/-- A page and its list are put. -/
def pagePut (die f : Nat) (h : PageHdr) (entries : List KvSlot) (x : Ctx) (s : State) : State :=
  (s.setPage f (slotsPut entries (headedPage h (s.page f)))).modCtx h.ctx.toNat fun y => y.setList (framedList die f h x)

/-- Slots carry their poison to the lines that hold them. -/
def slotsMarked (f : Nat) (entries : List KvSlot) (s : State) : State :=
  entries.foldl (fun s e => if e.poison then s.poisonSlot f e.slot.toNat else s.cleanSlot f e.slot.toNat) s

theorem mirrorSlots_none (known : (namedCtx h s).ctx h.ctx.toNat = some x)
    (full : (namedCtx h s).pageFrame (namedList h x) die (h.first.toNat / 64) = none) :
    s.mirrorSlots die h entries = (namedCtx h s).loseCtx h.ctx.toNat := by
  unfold namedCtx namedList at *
  simp only [State.mirrorSlots, known, full]

theorem mirrorSlots_some {f : Nat} (known : (namedCtx h s).ctx h.ctx.toNat = some x)
    (frame : (namedCtx h s).pageFrame (namedList h x) die (h.first.toNat / 64) = some f) :
    s.mirrorSlots die h entries = slotsMarked f entries (pagePut die f h entries x (namedCtx h s)) := by
  unfold namedCtx namedList at *
  simp only [State.mirrorSlots, known, frame]
  rfl

theorem foldl_same {α β : Type} (p : State → β) {f : State → α → State} (each : ∀ s a, p (f s a) = p s) (l : List α) (s : State) :
    p (l.foldl f s) = p s :=
  List.foldlRecOn l f (motive := fun t => p t = p s) rfl fun t held a _ => (each t a).trans held

theorem slotsMarked_same {β : Type} (p : State → β) (poison : ∀ s f t, p (s.poisonSlot f t) = p s) (clean : ∀ s f t, p (s.cleanSlot f t) = p s) (f : Nat)
    (entries : List KvSlot) (s : State) : p (slotsMarked f entries s) = p s := by
  refine foldl_same p (fun t e => ?_) entries s
  split
  · exact poison ..
  · exact clean ..

/-- The lines of a slot that has been written are poison as its words are. -/
theorem stackLine_slotsMarked_one {f : Nat} {e : KvSlot} : ∀ y ∈ (slotsMarked f [e] s).slotLines f e.slot.toNat,
    (slotsMarked f [e] s).stackLine.get 0 y = if e.poison = true then 2 else 0 := by
  have lines : (slotsMarked f [e] s).slotLines f e.slot.toNat = s.slotLines f e.slot.toNat :=
    slotsMarked_same (fun t => t.slotLines f e.slot.toNat) (fun _ _ _ => rfl) (fun _ _ _ => rfl) ..
  rw [lines]
  intro y mem
  have marked : slotsMarked f [e] s = if e.poison then s.poisonSlot f e.slot.toNat else s.cleanSlot f e.slot.toNat := rfl
  rw [marked]
  by_cases poison : e.poison = true
  · rw [if_pos poison, if_pos poison]
    have both : y = s.frameAddr f / 64 + e.slot.toNat ∨ y = s.frameAddr f / 64 + 64 + e.slot.toNat := by simpa [State.slotLines] using mem
    have ne : s.frameAddr f / 64 + e.slot.toNat ≠ s.frameAddr f / 64 + 64 + e.slot.toNat := by omega
    show Tab.get 0 y ((s.stackLine.put 0 _ 2).put 0 _ 2) = 2
    rcases both with rfl | rfl
    · rw [get_put_ne _ _ _ ne, get_put_same]
    · rw [get_put_same]
  · rw [if_neg poison, if_neg poison]
    exact get_filter_keys mem _

theorem ctx_pagePut {f : Nat} (known : s.ctx h.ctx.toNat = some x) : (pagePut die f h entries x s).ctx h.ctx.toNat = some (x.setList (framedList die f h x)) := by
  have kept : (s.setPage f (slotsPut entries (headedPage h (s.page f)))).ctx h.ctx.toNat = some x := known
  unfold pagePut State.modCtx
  rw [kept]
  exact get_put_same none (some (x.setList (framedList die f h x))) _ _

theorem pages_pagePut (f : Nat) : (pagePut die f h entries x s).pages = s.pages.put none f (some (slotsPut entries (headedPage h (s.page f)))) := by
  unfold pagePut State.modCtx
  split <;> rfl

theorem slotsPut_keeps {β : Type} (field : Page → β) (put : ∀ p t kv, field (Page.putSlot t kv p) = field p) (entries : List KvSlot) (p : Page) :
    field (slotsPut entries p) = field p :=
  List.foldlRecOn entries _ (motive := fun q => field q = field p) rfl fun q held _ _ => (put q _ _).trans held

end KvEntry

/-! ### Records of requests and contexts -/

section Records

variable {r : ReqMirror} {c : BitVec 32} {e : ContextEdit} {x : Ctx} {twin : Nat}

theorem exec_request_kept (takes : s.takesMirror = true) : exec (.request r) s = .next (s.mirrorRequest r) :=
  congrArg Host.Outcome.next (if_pos (by simp [takes]))

/-- A REQUEST of request 0 is for the admitting part, one of a request for a serving part. -/
theorem exec_request_elsewhere (keeps : s.takesMirror = false) (other : s.isAdmitting ≠ (r.req == 0)) : exec (.request r) s = .next s :=
  congrArg Host.Outcome.next (if_neg (by simpa [keeps] using other))

theorem exec_request_named (named : s.isAdmitting = (r.req == 0)) : exec (.request r) s = .next (s.mirrorRequest r) :=
  congrArg Host.Outcome.next (if_pos (by simp [named]))

theorem mirrorRequest_sampler (zero : r.req = 0) : s.mirrorRequest r = { s with samplers := s.samplers.put none r.ctx.toNat (some (samplerOf r)) } :=
  if_pos zero

theorem mirrorRequest_standby (some_ : r.req ≠ 0) (takes : s.takesMirror = true) :
    s.mirrorRequest r = { s with mirrored := s.mirrored.put none r.req.toNat (some r) } := (if_neg some_).trans (if_pos takes)

/-- The records that a serving part keeps: the one record of a context. -/
def recordsWith (r : ReqMirror) (m : Tab (Option ReqMirror)) : Tab (Option ReqMirror) :=
  Tab.put none r.req.toNat (some r) (m.filter fun e => (e.2.map (·.ctx)) != some r.ctx)

theorem mirrorRequest_serving (some_ : r.req ≠ 0) (keeps : s.takesMirror = false) : s.mirrorRequest r = { s with mirrored := recordsWith r s.mirrored } :=
  (if_neg some_).trans (if_neg (by simp [keeps]))

theorem ctx_recordsWith {n : Nat} {q : ReqMirror} (m : Tab (Option ReqMirror)) (other : n ≠ r.req.toNat)
    (found : (recordsWith r m).get none n = some q) : q.ctx ≠ r.ctx := by
  unfold recordsWith at found
  rw [get_put_ne _ _ _ other] at found
  simpa using (List.mem_filter.mp (mem_of_get_some found)).2

theorem exec_context_edit (plain : e.tier ≠ 3) : exec (.context c e) s = .next (if s.takesMirror then s.editCtx c.toNat e else s) :=
  congrArg Host.Outcome.next (if_neg plain)

section Asked

variable (asks : e.tier = 3)

include asks

theorem exec_context_alone (alone : s.twin = none) : exec (.context c e) s = .next s := by
  change execContext c e s = _
  simp only [execContext, asks, if_true, alone]

variable (has : s.twin = some twin)

include has

theorem exec_context_missing (missing : s.ctx c.toNat = none) :
    exec (.context c e) s = .next (s.noCopy c.toNat twin e.tenant.toNat e.kvGen.toNat) := by
  change execContext c e s = _
  simp only [execContext, asks, if_true, has, missing]

theorem exec_context_away (known : s.ctx c.toNat = some x) (hot : x.tier ≠ .hot) (warm : x.tier ≠ .warm) :
    exec (.context c e) s = .next (s.noCopy c.toNat twin x.tenant x.kvGen) := by
  change execContext c e s = _
  simp only [execContext, asks, if_true, has, known, hot, warm, or_self, if_false]

theorem exec_context_here {y : Ctx} (known : s.ctx c.toNat = some x) (here : x.tier = .hot ∨ x.tier = .warm)
    (after : (s.readCtx x).ctx c.toNat = some y) : exec (.context c e) s = .next (
      if y.tier = .hot ∨ y.tier = .warm then (s.readCtx x).mirrorTo 6 ((s.readCtx x).copyBody c.toNat y) twin
      else (s.readCtx x).noCopy c.toNat twin x.tenant x.kvGen) := by
  change execContext c e s = _
  simp only [execContext, asks, if_true, has, known, here, after]

end Asked

/-- A copy's pages are put into its context. -/
def copyPut (c die : Nat) (e : ContextEdit) (l : List (PageHdr × List KvSlot)) (s : State) : State :=
  l.foldl (fun s p => s.mirrorSlots die p.1 p.2) ((s.clearCopy c).editCtx c e)

theorem exec_copy_context (d : BitVec 1) (l : List (PageHdr × List KvSlot)) : exec (.copy (.context c e d l)) s = .next (
    if (s.ctx c.toNat).all (fun x => x.tier == .lost) && e.tier == 0 && s.twin.isSome && s.od 0x4102 0 0 == 0 then
      (((copyPut c.toNat d.toNat e l s).setTier c.toNat .hot 1).tierReport c.toNat 0).relieve
    else if s.takesMirror then (copyPut c.toNat d.toNat e l s).relieve
    else s) := rfl

end Records

/-! ### Inputs and outputs of a shadow check (R370, R371) -/

section Shadow

variable {k : BitVec 64} {h : StepHdr} {n : BitVec 16} {input : List Byte} {x : Shadow}

theorem exec_shadowIn (takes : s.takesMirror = true) (role : s.od 0x4100 1 0 = 2) : exec (.shadowIn k h n input) s = .next (
    let add (x : Shadow) : Shadow := { x with inputs := x.inputs ++ [(n.toNat, input)] }
    let new := add (Shadow.fresh k.toNat h)
    match s.shadow with
    | none => { s with shadow := some new }
    | some x =>
      if x.running && !x.ended then (if x.step = k.toNat then s else s.bump 0x4107 0 1 1)
      else { s with shadow := some (if x.step = k.toNat ∧ x.running = false then add x else new) }) :=
  congrArg Host.Outcome.next (if_neg (by simp [takes, role]))

theorem exec_shadowOut_none (none : s.shadow = none ∨ ∃ x, s.shadow = some x ∧ x.step ≠ k.toNat) (a b : List Byte) :
    exec (.shadowOut k a b) s = .next s := by
  change execShadowOut k a b s = _
  unfold execShadowOut
  rcases none with none | ⟨x, found, other⟩
  · rw [none]
  · rw [found]
    exact congrArg Host.Outcome.next (if_pos other)

variable (found : s.shadow = some x) (own : x.step = k.toNat)

include found own

theorem exec_shadowOut_own (theirs ours : List Byte) : exec (.shadowOut k theirs ours) s =
    .next { s with shadow := some { x with theirs := some (theirs, ours) } }.settleShadow := by
  change execShadowOut k theirs ours s = _
  unfold execShadowOut
  rw [found]
  exact congrArg Host.Outcome.next (if_neg (not_not.mpr own))

end Shadow

/-- What a finished shadow run and the primary's compare data say (R371). -/
def shadowCompared (x : Shadow) (theirs ours : List Byte) (s : State) : Nat × Bool :=
  if (s.ownEntry.map Entry.token).getD false then s.compareBlocks x.step (b4Blocks theirs) (b4Blocks ours)
  else s.compareBlocks x.step (dataBlocks x.out.eraseDups theirs) (dataBlocks x.out.eraseDups (x.out.eraseDups.flatMap (·.2)))

theorem settleShadow_running {x : Shadow} {theirs ours : List Byte} (runs : x.ended = false) :
    ({ s with shadow := some { x with theirs := some (theirs, ours) } } : State).settleShadow =
      { s with shadow := some { x with theirs := some (theirs, ours) } } := by
  simp only [State.settleShadow, runs]

theorem settleShadow_ended {x : Shadow} {theirs ours : List Byte} (ended : x.ended = true) :
    ({ s with shadow := some { x with theirs := some (theirs, ours) } } : State).settleShadow =
      let u := ({ s with shadow := none }.bump 0x4107 0 0 1).noteCheck x.step (s.ownIndex.getD 0xFFFF) (shadowCompared x theirs ours s).2
      if (shadowCompared x theirs ours s).2 then u.twinMismatch x.step (shadowCompared x theirs ours s).1 else u := by
  simp only [State.settleShadow, ended]
  rfl

/-! ### The statement -/

section Statement

/-- KV_ENTRY at a standby, once the page has a frame. -/
theorem kvEntry_put {die : BitVec 1} {h : PageHdr} {entries : List KvSlot} {x : Ctx} {f : Nat} (takes : s.takesMirror = true)
    (known : (namedCtx h s).ctx h.ctx.toNat = some x) (frame : (namedCtx h s).pageFrame (namedList h x) die.toNat (h.first.toNat / 64) = some f) :
    ∃ t : State, exec (.kvEntry die h entries) s = .next t.relieve ∧ t.pending = s.pending ∧
      t.ctx h.ctx.toNat = some (x.setList (framedList die.toNat f h x)) ∧ (∀ g, g ≠ f → t.page g = (namedCtx h s).page g) ∧
      ∃ p, t.page f = some p ∧ p.tenant = h.tenant.toNat ∧ p.kScale = h.kScale.toNat ∧ p.vScale = h.vScale.toNat ∧ p.kvGen = h.kvGen.toNat ∧
        p.state = h.state.toNat ∧ ∀ e : KvSlot, entries = [e] → p.slot e.slot.toNat = (e.k, e.v) ∧
          ∀ y ∈ t.slotLines f e.slot.toNat, t.stackLine.get 0 y = if e.poison = true then 2 else 0 := by
  have put := mirrorSlots_some (entries := entries) known frame
  have pages : (slotsMarked f entries (pagePut die.toNat f h entries x (namedCtx h s))).pages =
      (namedCtx h s).pages.put none f (some (slotsPut entries (headedPage h ((namedCtx h s).page f)))) :=
    (slotsMarked_same (·.pages) (fun _ _ _ => rfl) (fun _ _ _ => rfl) ..).trans (pages_pagePut f)
  refine ⟨slotsMarked f entries (pagePut die.toNat f h entries x (namedCtx h s)), ?_, ?_, ?_, fun g other => ?_,
    slotsPut entries (headedPage h ((namedCtx h s).page f)), ?_, ?_, ?_, ?_, ?_, ?_, ?_⟩
  · rw [← put]
    exact congrArg Host.Outcome.next (if_pos takes)
  · rw [← put]
    exact (State_mirrorSlots_keeps ..).1
  · exact (slotsMarked_same (·.ctx h.ctx.toNat) (fun _ _ _ => rfl) (fun _ _ _ => rfl) ..).trans (ctx_pagePut known)
  · unfold State.page
    rw [pages, get_put_ne _ _ _ other]
  · unfold State.page
    rw [pages, get_put_same]
    rfl
  · exact slotsPut_keeps (·.tenant) (fun _ _ _ => rfl) ..
  · exact slotsPut_keeps (·.kScale) (fun _ _ _ => rfl) ..
  · exact slotsPut_keeps (·.vScale) (fun _ _ _ => rfl) ..
  · exact slotsPut_keeps (·.kvGen) (fun _ _ _ => rfl) ..
  · exact slotsPut_keeps (·.state) (fun _ _ _ => rfl) ..
  · rintro e rfl
    exact ⟨get_put_same .., stackLine_slotsMarked_one⟩

theorem kvEntry_full {die : BitVec 1} {h : PageHdr} {entries : List KvSlot} {x : Ctx} (takes : s.takesMirror = true)
    (known : (namedCtx h s).ctx h.ctx.toNat = some x) (full : (namedCtx h s).pageFrame (namedList h x) die.toNat (h.first.toNat / 64) = none) :
    exec (.kvEntry die h entries) s = .next ((namedCtx h s).loseCtx h.ctx.toNat).relieve := by
  rw [← mirrorSlots_none (entries := entries) known full]
  exact congrArg Host.Outcome.next (if_pos takes)

/-- A standby has a twin. -/
theorem twin_of_takesMirror (takes : s.takesMirror = true) : s.twin.isSome = true := (Bool.and_eq_true_iff.mp takes).1

end Statement

/-- Settles O46: each command by the branch of its definition that the hypotheses name, a run in shadow by `startRun_idle`. -/
theorem standbysMirrorAndShadow : Obligations.StandbysMirrorAndShadow := by
  unfold Obligations.StandbysMirrorAndShadow
  intro s
  refine ⟨fun keeps => ⟨fun d h e => ?_, fun c l h f m n => ?_, fun r => exec_request_elsewhere keeps, fun r => ?_, fun c e plain => ?_, fun k => ?_,
    fun k h n i => ?_⟩, fun takes => ⟨fun die h entries => ?kv, fun c l h f m nodes => ?commit, fun r => ?request, fun k => ?_, fun c e plain => ?_,
    fun c e d l fresh => ?copied⟩, fun r => ⟨?sampler, ?serving⟩, fun c e => ⟨fun asks => ?asked, fun twin tenant g => ?noCopy, fun d l => ?copy⟩,
    fun k h n i => ⟨?shadowIn, fun x found own => ⟨?stays, ?runs, ?out⟩, fun none => ⟨exec_shadowRun_none none, exec_shadowOut_none none⟩⟩⟩
  · exact congrArg Host.Outcome.next (if_neg (by simp [keeps]))
  · exact congrArg Host.Outcome.next (if_pos (by simp [keeps]))
  · exact congrArg Host.Outcome.next (if_neg (by simp [keeps]))
  · rw [exec_context_edit plain, if_neg (by simp [keeps])]
  · exact congrArg Host.Outcome.next (if_neg (by simp [keeps]))
  · exact congrArg Host.Outcome.next (if_pos (by simp [keeps]))
  case kv => exact fun x known => ⟨kvEntry_full takes known, fun f => kvEntry_put takes known⟩
  case commit =>
    have here : ¬ (!s.takesMirror) = true := by simp [takes]
    exact ⟨fun zero => congrArg Host.Outcome.next ((if_neg here).trans (if_pos zero)),
      fun some => congrArg Host.Outcome.next ((if_neg here).trans (if_neg some))⟩
  case request =>
    refine ⟨?_, fun some => ?_⟩
    · rw [exec_request_kept takes]
      exact congrArg Host.Outcome.next (if_pos takes)
    · rw [exec_request_kept takes, mirrorRequest_standby some takes]
  · exact congrArg Host.Outcome.next (if_pos takes)
  · rw [exec_context_edit plain, if_pos takes]
  case copied =>
    rw [exec_copy_context, if_neg (by simpa [twin_of_takesMirror takes] using fresh), if_pos takes]
    rfl
  case sampler =>
    intro zero there
    refine ⟨samplerOf r, ?_, rfl, rfl, rfl, rfl, rfl, rfl, rfl, rfl, rfl, rfl, rfl⟩
    rw [← mirrorRequest_sampler zero]
    exact there.elim exec_request_kept fun admits => exec_request_named (by simp [admits, zero])
  case serving =>
    intro some keeps other
    refine ⟨recordsWith r s.mirrored, ?_, get_put_same .., fun n q ne found => ctx_recordsWith _ ne found⟩
    rw [← mirrorRequest_serving some keeps]
    exact exec_request_named (other.trans (beq_eq_false_iff_ne.mpr some).symm)
  case asked =>
    refine ⟨exec_context_alone asks, fun twin has => ⟨exec_context_missing asks has, fun x known => ⟨exec_context_away asks has known, fun here => ?_⟩⟩⟩
    intro t y after
    rw [exec_context_here asks has known here after]
    exact ⟨fun hot => congrArg Host.Outcome.next (if_pos hot), fun hot warm => congrArg Host.Outcome.next (if_neg (not_or.mpr ⟨hot, warm⟩))⟩
  case noCopy => exact ⟨fun serves => if_pos serves, fun stands => if_neg (by simp [stands])⟩
  case copy =>
    rw [exec_copy_context]
    refine ⟨fun hot lost has serving => ?_, fun keeps other => ?_⟩
    · rw [if_pos (by simp [hot, has, serving]; simpa using lost)]
      rfl
    · rw [if_neg (by simpa [and_assoc] using other), if_neg (by simp [keeps])]
  case shadowIn =>
    intro takes role
    rw [exec_shadowIn takes role]
    refine ⟨fun none => by rw [none], fun x found => ?_⟩
    rw [found]
    refine ⟨fun runs lasts => ⟨fun other => ?_, fun own => ?_⟩, fun still own => ?_, fun still other => ?_, fun runs ended => ?_⟩
    · exact congrArg Host.Outcome.next ((if_pos (by simp [runs, lasts])).trans (if_neg other))
    · exact congrArg Host.Outcome.next ((if_pos (by simp [runs, lasts])).trans (if_pos own))
    · simp only [still, own, Bool.false_and, Bool.false_eq_true, if_false, and_self, if_true]
    · simp only [still, other, Bool.false_and, Bool.false_eq_true, if_false, false_and]
    · simp only [runs, ended, Bool.not_true, Bool.and_false, Bool.false_eq_true, Bool.true_eq_false, if_false, and_false]
  case stays => exact exec_shadowRun_stays found
  case runs =>
    intro still complete loaded idle
    have due := exec_shadowRun_due found own still complete loaded idle
    refine ⟨fun busy => ?_, fun free empty program => ?_⟩
    · rw [due, if_pos (by simp [busy])]
    · rw [if_neg (by simp [free])] at due
      have entry := entryOf_shadowBegun x s
      obtain ⟨pending, memory, fabric, hearths⟩ := startRun_idle (step := x.step) (s := shadowBegun x s) (entry ▸ program) empty
      refine ⟨_, due, pending, congrArg MemoryPart.pages memory, congrArg MemoryPart.ctxs memory, (congrArg FabricPart.sending fabric).trans rfl,
        ⟨_, congrArg FabricPart.shadow fabric, rfl, rfl, rfl, rfl, rfl⟩, fun h mem => ?_⟩
      rw [← entry]
      exact hearths h mem
  case out =>
    intro theirs ours
    rw [exec_shadowOut_own found own]
    refine ⟨fun runs => ?_, fun ended agree => ?_, fun ended differ => ?_⟩
    · rw [settleShadow_running runs]
    · rw [settleShadow_ended ended]
      exact congrArg Host.Outcome.next (if_neg (Bool.eq_false_iff.mp agree))
    · rw [settleShadow_ended ended, ← own]
      exact congrArg Host.Outcome.next (if_pos differ)

end Sys2Proof.Proofs
end

section

/-! ## Failures are probed and declared (O47; 15 R374 to R381) -/

namespace Sys2Proof.Proofs

open Sys2Proof.Machine Sys2Proof.Laws

variable {s : State}

/-! ### Reports and probes (R372, R374) -/

section Reports

variable {ep : BitVec 64} {e : BitVec 16} {q : BitVec 32}

theorem exec_roleReport_admitting (admits : s.isAdmitting = true) : exec (.roleReport ep e q) s = .next (
    if ep.toNat = 0 then s.doubt e.toNat else if ep.toNat = s.endpoint then s else s.probe ep.toNat) := congrArg Host.Outcome.next (if_pos admits)

theorem exec_roleReport_other (other : s.isAdmitting = false) : exec (.roleReport ep e q) s = .next (
    if ep.toNat = s.endpoint ∨ s.twin = some ep.toNat then s.dropShadow.setPair 1 else s) := congrArg Host.Outcome.next (if_neg (by simp [other]))

theorem probe_known {n : Nat} (known : (∃ x ∈ s.probes, x.1 = n) ∨ n ∈ s.declared) : s.probe n = s := if_pos (by simpa using known)

theorem probe_new {n : Nat} (unprobed : ∀ x ∈ s.probes, x.1 ≠ n) (lives : n ∉ s.declared) :
    s.probe n = { s with probes := s.probes ++ [(n, s.elapsed)] }.sendHeartbeat n :=
  if_neg (by simpa [lives] using fun x mem => unprobed (n, x) mem rfl)

theorem exec_failureProbeTimeout_none (unprobed : ∀ x ∈ s.probes, x.1 ≠ ep.toNat) : exec (.failureProbeTimeout ep) s = .next s := by
  have none : (s.probes.find? fun p => p.1 == ep.toNat) = Option.none := List.find?_eq_none.mpr fun x mem => by simpa using unprobed x mem
  change execFailureProbeTimeout ep s = _
  simp only [execFailureProbeTimeout, none]

theorem exec_failureProbeTimeout_some {p : Nat × Nat} (probed : (s.probes.find? fun p => p.1 == ep.toNat) = some p) :
    exec (.failureProbeTimeout ep) s = .next (
      if s.elapsed < p.2 + 1000 * s.od 0x4106 0 0 then s else s.declareFailed ep.toNat (s.od 0x4111 0 0 + 1)) := by
  have own : p.1 = ep.toNat := by simpa using List.find?_some probed
  change execFailureProbeTimeout ep s = _
  simp only [execFailureProbeTimeout, probed, own]

end Reports

/-! ### Joining (R377, R379) -/

section Join

variable {ep : BitVec 64} {e : BitVec 16} {q : BitVec 32}

theorem exec_roleJoin_spare (admits : s.isAdmitting = true) (unnamed : s.entryIndexOf ep.toNat = none) : exec (.roleJoin ep e q) s = .next (
    (if s.spares.contains ep.toNat ∨ 16 ≤ s.spares.length then s else s.setSpares (s.spares ++ [ep.toNat])).recover) := by
  change execRoleJoin ep e q s = _
  simp only [execRoleJoin, admits, if_true, unnamed]

theorem exec_roleJoin_elsewhere (other : s.isAdmitting = false) : exec (.roleJoin ep e q) s = .next (
    if (s.entryIndexOf ep.toNat).isSome then s.noteJoin ep.toNat (decide (q.toNat = joinDone)) else s) :=
  congrArg Host.Outcome.next (if_neg (by simp [other]))

theorem exec_roleJoin_named {i : Nat} {x : Entry} (admits : s.isAdmitting = true) (index : s.entryIndexOf ep.toNat = some i) (entry : s.entryAt i = some x) :
    exec (.roleJoin ep e q) s = .next (
      if decide (q.toNat = joinDone) = true ∧ x.mode ≠ 2 then s.passJoin i ep.toNat q.toNat
      else (s.passJoin i ep.toNat q.toNat).issueTable
        ((s.passJoin i ep.toNat q.toNat).editTable i (x.joinService ep.toNat (decide (q.toNat = joinDone))) none (s.passJoin i ep.toNat q.toNat).now)) := by
  change execRoleJoin ep e q s = _
  simp only [execRoleJoin, admits, if_true, index, entry]

theorem joinDone_iff : decide (q.toNat = joinDone) = decide (q = 0xFFFFFFFF) :=
  decide_eq_decide.mpr ⟨fun h => BitVec.eq_of_toNat_eq h, fun h => congrArg BitVec.toNat h⟩

/-- What is noted of a position that joins: it has failed no longer, and gives cover only once its copy is complete. -/
def joinNoted (n : Nat) (copied : Bool) (s : State) : State :=
  { s with
    declared := s.declared.filter (· != n)
    syncing := if copied then s.syncing.filter (· != n)
      else if ((s.entryIndexOf n).bind s.entryAt).any (fun x => x.mode == 1 || x.mode == 2) && !s.syncing.contains n then s.syncing ++ [n] else s.syncing }

theorem noteJoin_eq (n : Nat) (copied : Bool) (s : State) : s.noteJoin n copied = joinNoted n copied s := by
  cases copied with
  | true => rfl
  | false =>
    change (if ((s.entryIndexOf n).bind s.entryAt).any (fun x => x.mode == 1 || x.mode == 2) then
      ({ s with declared := s.declared.filter (· != n) } : State).noteSyncing n else { s with declared := s.declared.filter (· != n) }) = _
    by_cases pair : ((s.entryIndexOf n).bind s.entryAt).any (fun x => x.mode == 1 || x.mode == 2) = true
    · by_cases listed : s.syncing.contains n = true
      · simp only [joinNoted, pair, listed, State.noteSyncing, if_true, Bool.false_eq_true, if_false, Bool.not_true, Bool.and_false]
      · simp only [joinNoted, pair, listed, State.noteSyncing, if_true, Bool.false_eq_true, if_false, Bool.not_false, Bool.and_true]
    · simp only [joinNoted, pair, if_false, Bool.false_and, Bool.false_eq_true]

/-- A JOIN is noted, and every other part hears of it. -/
theorem passJoin_eq (i n : Nat) (q : BitVec 32) (s : State) : s.passJoin i n q.toNat =
    ((joinNoted n (decide (q = 0xFFFFFFFF)) s).allParts.filter fun m => m != n && m != (joinNoted n (decide (q = 0xFFFFFFFF)) s).endpoint).foldl
      (fun t m => t.mirrorTo 0x0A (roleBody 3 i n q.toNat) m) (joinNoted n (decide (q = 0xFFFFFFFF)) s) := by
  unfold State.passJoin
  rw [joinDone_iff, noteJoin_eq]

theorem joinService_eq (x : Entry) (n : Nat) (copied : Bool) :
    x.joinService n copied = if x.mode = 2 then (if copied then 3 else if x.pos0 = n then 2 else 1) else x.service := by
  unfold Entry.joinService
  rw [ite_not]

end Join

/-! ### Declarations (R374 to R376, R384) -/

section Declared

variable {n q : Nat}

theorem positionFails_again (again : n ∈ s.declared) : s.positionFails n q = s := if_pos (by simpa using again)

theorem declareFailed_again (again : n ∈ s.declared) : s.declareFailed n q = s := if_pos (by simpa using again)

/-- The position that admits after another, where that is the admitting part's. -/
def heirOf (s : State) (n : Nat) : Option Nat :=
  ((s.entryIndexOf n).bind s.entryAt).bind fun e => e.members.find? fun m => m != n && !s.declared.contains m

/-- The part routes around the position, and says so where it takes over. -/
def failureNoted (n q : Nat) (s : State) : State :=
  if s.od 0x4100 1 0 = 2 ∧ (s.failPosition n q).od 0x4100 1 0 = 1 then (s.failPosition n q).roleAlarm 2 else s.failPosition n q

/-- The table in force names the heir. -/
def heirNamed (h : Nat) (s : State) : State :=
  let named := patch (s.blob 0x4110 0) 16 (leBytes 8 h)
  (s.setAdmitting h).setBlob 0x4110 0 (if s.blob 0x4110 0 = [] then [] else patch named 28 (leBytes 4 (crc32 (named.take 28))))

/-- An heir admits from then on, and every part reports its generation to it. -/
def heirFollows (h : Nat) (s : State) : State := (if h = (heirNamed h s).endpoint then (heirNamed h s).becomeAdmitting else heirNamed h s).reportGeneration

variable (new : n ∉ s.declared)

include new

theorem positionFails_new : s.positionFails n q =
    (if n = s.admitting then heirOf s n else none).elim (failureNoted n q s) fun h => heirFollows h (failureNoted n q s) := by
  unfold State.positionFails
  rw [if_neg (by simpa using new)]
  dsimp only
  split <;> rename_i heir <;> unfold heirOf <;> rw [heir] <;> rfl

theorem positionFails_other (other : n ≠ s.admitting ∨ heirOf s n = none) : s.positionFails n q = failureNoted n q s := by
  have none : (if n = s.admitting then heirOf s n else Option.none) = Option.none := by
    split
    · exact other.resolve_left (absurd · (not_not.mpr ‹_›))
    · rfl
  rw [positionFails_new new, none, Option.elim_none]

theorem positionFails_admitting {h : Nat} (own : n = s.admitting) (heir : heirOf s n = some h) :
    s.positionFails n q = heirFollows h (failureNoted n q s) := by
  rw [positionFails_new new, if_pos own, heir, Option.elim_some]

/-- The admitting part has done with what the failed position held. -/
def failureVoided (n : Nat) (s : State) : State := (((s.roleAlarm 1).voidReport n).spareFails n).endGeneration ((s.genOf n).getD 0)

theorem declareFailed_new : s.declareFailed n q =
    if !(s.positionFails n q).isAdmitting then s.positionFails n q
    else
      let w := failureVoided n (s.positionFails n q)
      (((w.allParts ++ w.spares).eraseDups.filter (· != w.endpoint)).foldl
        (fun t p => t.mirrorTo 0x0A (roleBody 2 ((s.entryIndexOf n).getD 0xFFFF) n (w.od 0x4111 0 0)) p) w).settleDrain.recover :=
  if_neg (by simpa using new)

end Declared

theorem recover_stays (out : s.recovery.isSome = true ∨ s.lostPlace = none ∨ s.od 0x4116 0 0 ≠ 1 ∨ s.spares = []) : s.recover = s := by
  unfold State.recover
  split
  · rename_i i p free lost
    refine if_neg fun ready => ?_
    rcases out with busy | none | off | bare
    · simp [free] at busy
    · simp [lost] at none
    · exact off ready.1
    · exact ready.2 bare
  · rfl

theorem recover_assigns {i p x : Nat} {l : List Nat} (free : s.recovery = none) (lost : s.lostPlace = some (i, p)) (on : s.od 0x4116 0 0 = 1)
    (spares : s.spares = x :: l) : s.recover = ({ s with recovery := some { entry := i, pos := p, spare := x, replace := false } }.roleAlarm 4).mirrorTo 0x0A
      (roleBody 4 i x (s.od 0x4111 0 0)) x := by
  unfold State.recover State.assignSpare
  simp only [free, lost, on, spares]
  rfl

/-! ### Heartbeats (R374, R381) -/

section Heartbeat

variable {src : BitVec 16} {serial : BitVec 64} {role : Byte} {seq : BitVec 32}

/-- A HEARTBEAT answers the probe of its source, or is answered; and the pair may lose its cover. -/
def heartbeatHeard (ep : Nat) (s : State) : State :=
  (if s.probes.any (fun p => p.1 == ep) then { s with probes := s.probes.filter fun p => p.1 != ep } else s.sendHeartbeat ep).loseCover ep

/-- Whether the table in force has a position in service. -/
def servesEntry (s : State) (ep : Nat) : Bool := ((s.entryIndexOf ep).bind s.entryAt).any fun e => e.serving.contains ep

/-- A part shows that it is DRAINED. -/
def twinDown (ep : Nat) (s : State) : State :=
  let v := if s.twin = some ep ∧ servesEntry s ep = false then s.setPair 1 else s
  if v.isAdmitting && servesEntry s ep then v.drainPart ep else v

theorem exec_mirrorHeartbeat : exec (.mirrorHeartbeat src serial role seq) s = .next (
    if role ≠ 3 then heartbeatHeard (s.sourceOf src.toNat) s
    else twinDown (s.sourceOf src.toNat) (heartbeatHeard (s.sourceOf src.toNat) s)) := rfl

theorem exec_mirrorHeartbeat_down (down : role = 3) : exec (.mirrorHeartbeat src serial role seq) s =
    .next (twinDown (s.sourceOf src.toNat) (heartbeatHeard (s.sourceOf src.toNat) s)) :=
  exec_mirrorHeartbeat.trans (congrArg Host.Outcome.next (if_neg (not_not.mpr down)))

theorem twinDown_away {ep : Nat} (away : servesEntry s ep = false) : twinDown ep s = if s.twin = some ep then s.setPair 1 else s := by
  simp only [twinDown, away, and_true, Bool.and_false, Bool.false_eq_true, if_false]

theorem twinDown_serving {ep : Nat} (serves : servesEntry s ep = true) : twinDown ep s = if s.isAdmitting then s.drainPart ep else s := by
  simp only [twinDown, serves, Bool.true_eq_false, and_false, if_false, Bool.and_true]

end Heartbeat

/-- Settles O47: each command by the branch of its definition that the hypotheses name. -/
theorem failuresAreProbedAndDeclared : Obligations.FailuresAreProbedAndDeclared := by
  unfold Obligations.FailuresAreProbedAndDeclared
  intro s
  refine ⟨fun ep e q => ?position, fun n q => ?declared, recover_stays, fun i p x l => recover_assigns, fun src serial role seq => ?heartbeat⟩
  case position =>
    refine ⟨fun other => ⟨fun own => ?_, fun foreign twin => ?_⟩, fun admits none => ⟨fun known => ?_, fun still new => ?_⟩, fun admits some own => ?_,
      fun admits some foreign => ⟨fun known => ?_, fun unprobed lives => ?_⟩, rfl, fun own => congrArg Host.Outcome.next (if_pos own),
      fun foreign => congrArg Host.Outcome.next (if_neg foreign), exec_failureProbeTimeout_none, fun p probed => ⟨fun early => ?_, fun late => ?_⟩,
      fun admits unnamed => ⟨fun full => ?_, fun new room => ?_⟩, ⟨fun admits i x index entry => ⟨fun copied mode => ?_, fun edits => ?_⟩, fun other named => ?_⟩,
      fun other unnamed => ?_⟩
    · rw [exec_roleReport_other other, if_pos own]
    · rw [exec_roleReport_other other, if_neg (not_or.mpr ⟨foreign, twin⟩)]
    · rw [exec_roleReport_admitting admits, if_pos none]
      exact congrArg Host.Outcome.next (if_pos known)
    · rw [exec_roleReport_admitting admits, if_pos none]
      exact congrArg Host.Outcome.next (if_neg (by simp [still]; simpa using new))
    · rw [exec_roleReport_admitting admits, if_neg some, if_pos own]
    · rw [exec_roleReport_admitting admits, if_neg some, if_neg foreign, probe_known known]
    · rw [exec_roleReport_admitting admits, if_neg some, if_neg foreign, probe_new unprobed lives]
    · rw [exec_failureProbeTimeout_some probed, if_pos early]
    · rw [exec_failureProbeTimeout_some probed, if_neg (not_lt.mpr late)]
    · rw [exec_roleJoin_spare admits unnamed, if_pos (by simpa using full)]
    · rw [exec_roleJoin_spare admits unnamed, if_neg (by simp [new, room])]
    · rw [exec_roleJoin_named admits index entry, if_pos ⟨joinDone_iff.trans copied, mode⟩, passJoin_eq]
      rfl
    · rw [exec_roleJoin_named admits index entry, if_neg fun h => edits.elim (fun c => Bool.false_ne_true (c.symm.trans (joinDone_iff.symm.trans h.1))) h.2,
        joinService_eq, joinDone_iff, passJoin_eq]
      rfl
    · rw [exec_roleJoin_elsewhere other, if_pos named, noteJoin_eq, joinDone_iff]
      rfl
    · rw [exec_roleJoin_elsewhere other, if_neg (by simp [unnamed])]
  case declared =>
    refine ⟨fun again => ⟨positionFails_again again, declareFailed_again again⟩, fun new => ⟨positionFails_other new, fun h own heir => ⟨fun other => ?_, fun self => ?_⟩,
      fun other => ?_, fun admits => ?_⟩⟩
    · rw [positionFails_admitting new own heir]
      exact congrArg State.reportGeneration (if_neg other)
    · rw [positionFails_admitting new own heir]
      exact congrArg State.reportGeneration (if_pos self)
    · rw [declareFailed_new new, if_pos (by simp [other])]
    · rw [declareFailed_new new, if_neg (by simp [admits])]
      rfl
  case heartbeat =>
    refine ⟨fun up => ?_, fun down away => ⟨fun own => ?_, fun foreign => ?_⟩, fun down serves => ⟨fun admits => ?_, fun other => ?_⟩⟩
    · exact exec_mirrorHeartbeat.trans (congrArg Host.Outcome.next (if_pos up))
    · exact exec_mirrorHeartbeat_down down |>.trans (congrArg Host.Outcome.next (twinDown_away away |>.trans (if_pos own)))
    · exact exec_mirrorHeartbeat_down down |>.trans (congrArg Host.Outcome.next (twinDown_away away |>.trans (if_neg foreign)))
    · exact exec_mirrorHeartbeat_down down |>.trans (congrArg Host.Outcome.next (twinDown_serving serves |>.trans (if_pos admits)))
    · exact exec_mirrorHeartbeat_down down |>.trans (congrArg Host.Outcome.next (twinDown_serving serves |>.trans (if_neg (Bool.eq_false_iff.mp other))))

end Sys2Proof.Proofs
end

section

/-! ## Roles are assigned, tested and given up (O48; 15 R372, R379 to R384) -/

namespace Sys2Proof.Proofs

open Sys2Proof.Machine Sys2Proof.Laws

variable {s : State}

/-! ### Spares (R379, R380) -/

section Spares

variable {ep : BitVec 64} {entry : BitVec 16} {q : BitVec 32}

/-- A spare knows its entry, and the table's sequence but for the one that it joins with. -/
def spareKnown (i q : Nat) (s : State) : State :=
  { s with assigned := some i }.setOd 0x4111 0 0 (max (s.od 0x4111 0 0) (if s.od 0x4111 0 0 = 0 then 0 else q - 1))

/-- It asks its steep engine for the image of its entry from that entry's source. -/
def spareSteep (i q : Nat) (s : State) : Nat × State :=
  (((spareKnown i q s).setOd 0x5023 0 0 (leAt (s.blob 0x4113 0) (24 * i) 8)).setOd 0x5023 0 1 (leAt (s.blob 0x4113 0) (24 * i + 8) 8)).applySteep 2 .a

theorem exec_roleAssign_spare (spare : ep.toNat = s.endpoint ∧ s.od 0x4100 1 0 = 0) : exec (.roleAssign ep entry q) s = .next (
    if (spareSteep entry.toNat q.toNat s).1 ≠ 0 then spareKnown entry.toNat q.toNat s
    else ((spareSteep entry.toNat q.toNat s).2.send
      { kind := 6, cls := 0, targets := [leAt (s.blob 0x4113 0) (24 * entry.toNat) 8],
        payload := leBytes 8 (leAt (s.blob 0x4113 0) (24 * entry.toNat + 8) 8) ++ leBytes 4 0xFFFFFFFF ++ leBytes 4 0 }).2) :=
  congrArg Host.Outcome.next (if_pos spare)

theorem exec_roleAssign_replaces (other : ¬ (ep.toNat = s.endpoint ∧ s.od 0x4100 1 0 = 0)) (admits : s.isAdmitting = true) (free : s.recovery = none)
    {k : Nat} {x : Entry} (index : s.entryIndexOf ep.toNat = some k) (at_ : s.entryAt k = some x) :
    exec (.roleAssign ep entry q) s = .next (s.assignSpare k (if x.pos0 = ep.toNat then 0 else 1) true) := by
  change execRoleAssign ep entry q s = _
  unfold execRoleAssign
  dsimp only
  rw [if_neg other, if_pos (by simp [admits, free]), index]
  dsimp only
  rw [at_]
  simp only [Option.map_some, Option.some.injEq]

theorem exec_roleAssign_stays (other : ¬ (ep.toNat = s.endpoint ∧ s.od 0x4100 1 0 = 0))
    (out : s.isAdmitting = false ∨ s.recovery ≠ none ∨ s.entryIndexOf ep.toNat = none) : exec (.roleAssign ep entry q) s = .next s := by
  change execRoleAssign ep entry q s = _
  unfold execRoleAssign
  dsimp only
  rw [if_neg other]
  split
  · rename_i ready
    simp only [Bool.and_eq_true, Option.isNone_iff_eq_none] at ready
    have unnamed := (out.resolve_left fun h => Bool.false_ne_true (h.symm.trans ready.1)).resolve_left (absurd ready.2)
    rw [unnamed]
  · rfl

theorem exec_recoveryComplete_stays (out : s.isAdmitting = false ∨ ∀ r, s.recovery = some r → r.entry ≠ entry.toNat) :
    exec (.recoveryComplete entry) s = .next s := by
  change execRecoveryComplete entry s = _
  unfold execRecoveryComplete
  split
  · rfl
  · rename_i r under
    exact congrArg Host.Outcome.next (if_pos (by rcases out with h | h <;> simp [*]))

/-- The spare leaves the list, and the recovery is over. -/
def recoveryEnded (r : Recovery) (s : State) : State := { s with recovery := none }.setSpares (s.spares.filter (· != r.spare))

/-- The in-service bits of an entry with its spare in place (R380, R381). -/
def recoveredService (e : Entry) (r : Recovery) : Nat := if e.mode = 3 ∨ (e.mode = 2 ∧ r.replace = true) then 3 else 2 ^ r.pos

theorem exec_recoveryComplete_ends {r : Recovery} {e : Entry} (admits : s.isAdmitting = true) (under : s.recovery = some r)
    (own : r.entry = entry.toNat) (at_ : s.entryAt r.entry = some e) : exec (.recoveryComplete entry) s = .next ((recoveryEnded r s).issueTable
      ((recoveryEnded r s).editTable r.entry (recoveredService e r) (some (r.pos, r.spare)) (recoveryEnded r s).now)) := by
  have service : (if e.mode = 3 then 3 else if e.mode = 2 ∧ r.replace = true then 3 else 2 ^ r.pos) = recoveredService e r := by
    unfold recoveredService
    split_ifs <;> tauto
  change execRecoveryComplete entry s = _
  unfold execRecoveryComplete
  rw [under]
  dsimp only
  rw [if_neg (by simp [admits, own]), at_]
  dsimp only
  rw [service]
  rfl

end Spares

/-! ### The test of an entry (R372) -/

section Test

variable {entry : BitVec 16} {e : Entry}

/-- An entry that can be tested. -/
def testable (s : State) (e : Entry) : Prop := s.isAdmitting = true ∧ (e.mode = 1 ∨ e.mode = 2) ∧ ∀ m ∈ e.members, m ∉ s.declared

theorem testable_iff : testable s e ↔ ¬ (!s.isAdmitting || decide (e.mode ≠ 1 ∧ e.mode ≠ 2) || e.members.any s.declared.contains) = true := by
  simp [testable, and_assoc, imp_iff_not_or]

/-- A position of an entry. -/
def positionOf (e : Entry) (q : Nat) : Nat := if q = 0 then e.pos0 else e.pos1

/-- The position tested first: the one not in service, position 1 of a LOCKSTEP entry. -/
def firstTested (e : Entry) : Nat := if e.mode = 1 ∧ bit e.service 1 = true then 0 else 1

theorem firstTested_eq (e : Entry) : firstTested e = if e.mode = 1 ∧ e.service.testBit 1 = true then 0 else 1 := by
  unfold firstTested
  rw [bit_eq_testBit]

/-- One round of an entry's test. -/
def testRound (i : Nat) (e : Entry) (s : State) : State :=
  match s.entryTest with
  | none =>
    if !s.doubtful.contains i then s
    else
      (({ s with entryTest := some (i, firstTested e), doubtful := s.doubtful.filter (· != i) }.serveAlone i (2 ^ (1 - firstTested e))).soloPair i e).orderTest
        (positionOf e (firstTested e))
  | some (j, q) =>
    if j ≠ i then s
    else if q < 2 then ({ s with entryTest := some (i, 3 - q) }.serveAlone i (2 ^ q)).orderTest (positionOf e (1 - q))
    else (({ s with entryTest := none }.passJoin i (positionOf e (q - 2)) (s.od 0x4111 0 0)).serveAlone i (2 ^ (3 - q))).roleAlarm 0

section Round

variable {i : Nat}

theorem testRound_clear (idle : s.entryTest = none) (fine : i ∉ s.doubtful) : testRound i e s = s := by
  simp [testRound, idle, fine]

theorem testRound_first (idle : s.entryTest = none) (doubted : i ∈ s.doubtful) : testRound i e s =
    (({ s with entryTest := some (i, firstTested e), doubtful := s.doubtful.filter (· != i) }.serveAlone i (2 ^ (1 - firstTested e))).soloPair i e).orderTest
      (positionOf e (firstTested e)) := by
  unfold testRound
  rw [idle]
  exact if_neg (by simpa using doubted)

theorem testRound_second {q : Nat} (under : s.entryTest = some (i, q)) : testRound i e s =
    if q < 2 then ({ s with entryTest := some (i, 3 - q) }.serveAlone i (2 ^ q)).orderTest (positionOf e (1 - q))
    else (({ s with entryTest := none }.passJoin i (positionOf e (q - 2)) (s.od 0x4111 0 0)).serveAlone i (2 ^ (3 - q))).roleAlarm 0 := by
  unfold testRound
  rw [under]
  exact if_neg (not_not.mpr rfl)

theorem testRound_other {j q : Nat} (under : s.entryTest = some (j, q)) (other : j ≠ i) : testRound i e s = s := by
  unfold testRound
  rw [under]
  exact if_pos other

theorem soloPair_lockstep (mode : e.mode ≠ 1) : s.soloPair i e = s := if_pos mode

theorem soloPair_mirror (mode : e.mode = 1) : s.soloPair i e = e.members.foldl (fun s m =>
    if m = s.endpoint then s.dropShadow.setPair 1 else s.mirrorTo 0x0A (roleBody 5 i m (s.od 0x4111 0 0)) m) s := if_neg (not_not.mpr mode)

end Round

variable (at_ : s.entryAt entry.toNat = some e)

include at_

theorem exec_entryTest_unable (unable : ¬ testable s e) : exec (.entryTest entry) s =
    .next (if s.entryTest.map (·.1) = some entry.toNat then { s with entryTest := none } else s) := by
  change execEntryTest entry s = _
  unfold execEntryTest
  simp only [at_]
  exact congrArg Host.Outcome.next (if_pos (not_not.mp fun h => unable (testable_iff.mpr h)))

theorem exec_entryTest_able (able : testable s e) : exec (.entryTest entry) s = .next (testRound entry.toNat e s) := by
  change execEntryTest entry s = _
  unfold execEntryTest
  simp only [at_]
  exact congrArg Host.Outcome.next (if_neg (testable_iff.mp able))

end Test

/-! ### Role commands (R381) -/

section Commands

variable {rq : Requester}

theorem exec_roleDrain : exec (.roleDrain rq) s = .next (s.access rq .command 0x4101 0 [1] State.applyDrain) := rfl
theorem exec_roleReturn : exec (.roleReturn rq) s = .next (s.access rq .command 0x4101 0 [2] State.applyRejoin) := rfl
theorem exec_roleRelease : exec (.roleRelease rq) s = .next (s.access rq .command 0x4101 0 [3] State.applyRelease3) := rfl
theorem exec_roleReplace : exec (.roleReplace rq) s = .next (s.access rq .command 0x4101 0 [4] State.applyReplace) := rfl

theorem applyDrain_standby (role : s.od 0x4100 1 0 = 2) {t : Nat} (twin : ((s.setOd 0x4100 1 0 3).setPair 1).twin = some t) :
    s.applyDrain = (0, (((s.setOd 0x4100 1 0 3).setPair 1).dropShadow).sendHeartbeat t) := by
  unfold State.applyDrain
  dsimp only
  rw [if_pos role, twin]

theorem applyDrain_serving (role : s.od 0x4100 1 0 = 1) : s.applyDrain =
    if s.onlyLive then (onlyCopy, s)
    else if s.isAdmitting then (0, (s.setOd 0x4101 0 cmdState 1).drainPart s.endpoint)
    else (0, (s.setOd 0x4101 0 cmdState 1).mirrorTo 9 (leBytes 8 (s.od 0x1000 0 0) ++ leBytes 1 3 ++ leBytes 4 (s.od 0x4111 0 0)) s.admitting) := by
  unfold State.applyDrain
  dsimp only
  rw [if_neg (by omega), if_pos role]
  rfl

theorem applyDrain_none (serves : s.od 0x4100 1 0 ≠ 1) (stands : s.od 0x4100 1 0 ≠ 2) : s.applyDrain = (codeState, s) :=
  (if_neg stands).trans (if_neg serves)

theorem applyRelease3_drained (role : s.od 0x4100 1 0 = 3) : s.applyRelease3 =
    (0, if (s.setOd 0x4100 1 0 0).admitting = 0 then s.setOd 0x4100 1 0 0 else (s.setOd 0x4100 1 0 0).sendJoin 0xFFFF) :=
  if_neg (not_not.mpr role)

theorem applyReplace_out (out : s.inService = false) : s.applyReplace = (codeState, s) := if_pos (by simp [out])

theorem applyReplace_worker (serves : s.inService = true) (other : s.isAdmitting = false) : s.applyReplace =
    (0, s.mirrorTo 0x0A (roleBody 4 (s.ownIndex.getD 0xFFFF) s.endpoint (s.od 0x4111 0 0)) s.admitting) :=
  (if_neg (by simp [serves])).trans (if_neg (by simp [other]))

theorem applyReplace_manager (serves : s.inService = true) (admits : s.isAdmitting = true) : s.applyReplace =
    if s.recovery.isSome then (codeBusy, s)
    else if s.spares = [] then (codeState, s)
    else match s.ownIndex, s.ownEntry with
      | some i, some e => (0, s.assignSpare i (if e.pos0 = s.endpoint then 0 else 1) true)
      | _, _ => (codeState, s) :=
  (if_neg (by simp [serves])).trans (if_pos admits)

end Commands

/-- Settles O48: each command by the branch of its definition that the hypotheses name. -/
theorem rolesAreAssignedTestedAndGiven : Obligations.RolesAreAssignedTestedAndGiven := by
  unfold Obligations.RolesAreAssignedTestedAndGiven
  intro s
  refine ⟨fun ep entry q => ⟨fun spare => ⟨fun fails => ?_, fun steeps => ?_⟩, fun other admits free k x => exec_roleAssign_replaces other admits free,
    exec_roleAssign_stays⟩, fun entry => ⟨exec_recoveryComplete_stays, fun r e => exec_recoveryComplete_ends⟩, fun entry e at_ => ?test, fun rq => ?commands⟩
  · exact (exec_roleAssign_spare spare).trans (congrArg Host.Outcome.next (if_pos fails))
  · exact (exec_roleAssign_spare spare).trans (congrArg Host.Outcome.next (if_neg (not_not.mpr steeps)))
  case test =>
    refine ⟨fun unable => ⟨fun q under => ?_, fun none => ?_⟩, fun able => ⟨fun idle fine => ?_, fun idle doubted => ⟨fun mode => ?_, fun mode => ?_⟩,
      fun q first under => ?_, fun q second under => ?_, fun j q other under => ?_⟩⟩
    · rw [exec_entryTest_unable at_ unable, if_pos (by simp [under])]
    · rw [exec_entryTest_unable at_ unable, if_neg fun h => ?_]
      obtain ⟨⟨j, q⟩, under, rfl⟩ := Option.map_eq_some_iff.mp h
      exact none q under
    · rw [exec_entryTest_able at_ able, testRound_clear idle fine]
    · rw [exec_entryTest_able at_ able, testRound_first idle doubted, firstTested_eq, soloPair_lockstep (by omega)]
      rfl
    · rw [exec_entryTest_able at_ able, testRound_first idle doubted, firstTested_eq, soloPair_mirror mode]
      rfl
    · rw [exec_entryTest_able at_ able, testRound_second under, if_pos first]
      rfl
    · rw [exec_entryTest_able at_ able, testRound_second under, if_neg (not_lt.mpr second)]
      rfl
    · rw [exec_entryTest_able at_ able, testRound_other under other]
  case commands =>
    refine ⟨fun ok => ⟨fun role t twin => command_taken exec_roleDrain ok (applyDrain_standby role twin), fun role only => ?_, fun role lives admits => ?_,
      fun role lives other => ?_, fun serves stands => command_answers exec_roleDrain ok (by decide) (applyDrain_none serves stands)⟩,
      fun ok => ⟨fun role image => command_taken exec_roleReturn ok (if_neg (by simp [role, image])),
        fun out => command_answers exec_roleReturn ok (by decide) (if_pos out)⟩,
      fun ok => ⟨fun role bare => ?_, fun role named => ?_, fun role => command_answers exec_roleRelease ok (by decide) (if_pos role)⟩,
      fun ok => ⟨fun out => command_answers exec_roleReplace ok (by decide) (applyReplace_out out), fun serves admits => ?_,
        fun serves other => command_taken exec_roleReplace ok (applyReplace_worker serves other)⟩⟩
    · exact command_answers exec_roleDrain ok (by decide) ((applyDrain_serving role).trans (if_pos only))
    · exact command_taken exec_roleDrain ok ((applyDrain_serving role).trans ((if_neg (by simp [lives])).trans (if_pos admits)))
    · exact command_taken exec_roleDrain ok ((applyDrain_serving role).trans ((if_neg (by simp [lives])).trans (if_neg (by simp [other]))))
    · exact command_taken exec_roleRelease ok ((applyRelease3_drained role).trans (congrArg (Prod.mk 0) (if_pos bare)))
    · exact command_taken exec_roleRelease ok ((applyRelease3_drained role).trans (congrArg (Prod.mk 0) (if_neg named)))
    · have manager := applyReplace_manager serves admits
      refine ⟨fun busy => ?_, fun free bare => ?_, fun i e free spares index own => ?_⟩
      · exact command_answers exec_roleReplace ok (by decide) (manager.trans (if_pos (Option.isSome_iff_ne_none.mpr busy)))
      · exact command_answers exec_roleReplace ok (by decide) (manager.trans ((if_neg (by simp [free])).trans (if_pos bare)))
      · refine command_taken exec_roleReplace ok (manager.trans ((if_neg (by simp [free])).trans ((if_neg spares).trans ?_)))
        rw [index, own]

end Sys2Proof.Proofs
end

section

/-! ## The main side starts and beats (O49; 17 R407 to R413, 21 R495, R500, R501) -/

namespace Sys2Proof.Proofs

open Sys2Proof.Machine Sys2Proof.Laws

variable {s : State}

/-! ### The boot image (R495, R500) -/

section BootImage

/-- The island has let the main side out of reset, and its code does not run yet. -/
def bootDue (s : State) : Prop := s.seq.released = true ∧ s.thermalHold = false ∧ s.od 0x2100 2 0 = 0 ∧ (s.mainState = 1 ∨ s.mainState = 4)

/-- What the main side has gathered of its code once a frame is taken. -/
def bootWith (off : BitVec 32) (d : List Byte) (b : Boot) : Boot :=
  if off = 0 then { b with digest := d.take 64, code := d.drop 64 } else { b with code := b.code ++ d }

/-- The last frame is taken: the code starts where its digest matches, and is asked for again or given up where it does not. -/
def bootEnds (b : Boot) (u : State) : State :=
  if Config.sha512 b.code = b.digest then { u with boot := { b with code := [] } }.mainStarts
  else if b.fails = 0 then { u with boot := { b with digest := [], code := [], fails := b.fails + 1 } }.sendBoot
  else { u with boot := { b with digest := [], code := [], fails := b.fails + 1 } }.islandRecord false

variable {off : BitVec 32} {d : List Byte} {last : Bool}

theorem bootDue_iff : (!s.seq.released || s.thermalHold || s.od 0x2100 2 0 != 0 || !(s.mainState == 1 || s.mainState == 4)) = false ↔ bootDue s := by
  simp [bootDue, and_assoc, or_iff_not_imp_left]

theorem exec_bootImage_undue (undue : ¬ bootDue s) : exec (.bootImage off d last) s = .next s :=
  congrArg Host.Outcome.next (if_pos (by rwa [← bootDue_iff, Bool.not_eq_false] at undue))

theorem exec_bootImage_due (due : bootDue s) : exec (.bootImage off d last) s = .next (
    if 4096 < d.length then s.offCatalogue
    else if !last then { s.arrived true false with boot := bootWith off d (s.arrived true false).boot }
    else bootEnds (bootWith off d (s.arrived true false).boot) (s.arrived true false)) := by
  have whether : bootWith off d (s.arrived true false).boot =
      if (off == 0) = true then { (s.arrived true false).boot with digest := d.take 64, code := d.drop 64 }
      else { (s.arrived true false).boot with code := (s.arrived true false).boot.code ++ d } := by
    simp only [bootWith, beq_iff_eq]
  rw [whether]
  exact congrArg Host.Outcome.next (if_neg (by rw [bootDue_iff.mpr due]; exact Bool.false_ne_true))

end BootImage

/-! ### Readiness (R501) -/

theorem exec_mainSideReady_barred (barred : s.ready = true ∨ s.mayServe = false) : exec .mainSideReady s = .next s :=
  congrArg Host.Outcome.next (if_pos (by simpa using barred))

/-- The part is ready: its causes and its record show it, its generation is reported and it joins its role. -/
def becomesReady (s : State) : State :=
  let u := { s with ready := true, readyAt := s.elapsed }
  (((u.setCause 0 2).setCause 1 2).raise { kind := .island, path := pathDie 0 0, detail := u.mainState, event := true }).reportGeneration.joinRole

theorem exec_mainSideReady (waits : s.ready = false) (serves : s.mayServe = true) :
    exec .mainSideReady s = .next (if (becomesReady s).isAdmitting then (becomesReady s).autoBarrier else becomesReady s) :=
  congrArg Host.Outcome.next (if_neg (by simp [waits, serves]))

theorem hearthReady_iff {h : Nat} : s.hearthReady h = true ↔ s.power h = 0 ∨ (s.calState h = 1 ∧ s.testState h = 0) := by
  simp [State.hearthReady]

/-! ### Heartbeats (R409 to R413) -/

section Heartbeats

variable {a b : BitVec 16} {q t : BitVec 16} {st : Byte} {w : BitVec 64}

theorem criticalTemp_eq : s.criticalTemp = 16 * (s.od 0x2403 0 0 : Int) := by simp [State.criticalTemp]

/-- The island sends its heartbeat, after counting one that it has missed. -/
def islandBeats (a b : BitVec 16) (s : State) : State :=
  let u := if s.mainRuns && decide (s.islandHeard + 1000000 < s.elapsed) then s.bump 0x1301 0 5 1 else s
  let t := if u.laneIslandUrgent.next % 2 = 0 then a else b
  u.sendToMain true 0xA 0 (leBytes 4 0 ++ leBytes 2 t.toNat ++ leBytes 2 0 ++ leBytes 8 0)

/-- The main side sends its heartbeat, after counting one that it has missed. -/
def mainBeats (s : State) : State :=
  let u := if decide (s.mainHeard + 1000000 < s.elapsed) then s.bump 0x1301 0 5 1 else s
  u.sendToIsland true 0xA 0
    (leBytes 1 2 ++ leBytes 3 0 ++ leBytes 2 (ofSigned 16 (u.hottestOf 0 139)) ++ leBytes 2 0 ++ leBytes 8 u.now)

theorem exec_heartbeatTimer_island : exec (.heartbeatTimer true a b) s = .next (
    if !s.islandUp then s else ((islandBeats a b s).islandTrip a.toInt).islandTrip b.toInt) := by
  change execHeartbeatTimer true a b s = _
  rw [execHeartbeatTimer, if_pos rfl]
  rfl

theorem exec_heartbeatTimer_main : exec (.heartbeatTimer false a b) s = .next (if !s.mainRuns then s else mainBeats s) := by
  change execHeartbeatTimer false a b s = _
  rw [execHeartbeatTimer, if_neg Bool.false_ne_true]
  rfl

/-- A frame is taken at an end, and its acknowledgement leaves. -/
def frameAcked (back : Bool) (q : Nat) (u : State) : State := (u.bump 0x1301 0 1 1).emit (.barrier back 0xE q 0 (leBytes 2 q))

theorem exec_heartbeat_main : exec (.heartbeat true q st t w) s = .next (
    if !(s.mainRuns || s.thermalHold) then s
    else (frameAcked false q.toNat { s with laneIslandUrgent := { s.laneIslandUrgent with taken := some q.toNat } }).mainTakes q.toNat t.toInt) := rfl

theorem exec_heartbeat_island : exec (.heartbeat false q st t w) s = .next (
    if !s.islandUp then s
    else (frameAcked true q.toNat { s with laneMainUrgent := { s.laneMainUrgent with taken := some q.toNat } }).islandTakes t.toInt) := rfl

/-- The island has heard the main side. -/
def islandHears (q : Nat) (s : State) : State :=
  { frameAcked true q { s with laneMainUrgent := { s.laneMainUrgent with taken := some q } } with islandHeard := s.elapsed }

/-- What the island does about the temperature and the state once it has heard the main side. -/
def islandHeeds (t : Int) (u : State) : State :=
  if u.criticalTemp ≤ t then (if u.seq.down = some true then u else u.powerOff true)
  else if u.mainState = 3 ∧ (u.hangAlarmed = false ∨ u.od 0x1302 2 0 = 0) then ({ u with hangAlarmed := false }.setOd 0x1300 3 0 2).islandRecord true
  else u

theorem exec_heartbeat_islandUp (runs : s.islandUp = true) :
    exec (.heartbeat false q st t w) s = .next (islandHeeds t.toInt (islandHears q.toNat s)) := by
  rw [exec_heartbeat_island, if_neg (by simp [runs])]; rfl

/-- The main side has heard the island, and is done with what it lost where it was lost. -/
def mainHears (q : Nat) (s : State) : State :=
  let u := { frameAcked false q { s with laneIslandUrgent := { s.laneIslandUrgent with taken := some q } } with mainHeard := s.elapsed }
  if u.islandLost then u.islandReturns.steepProgress else u

theorem exec_heartbeat_mainRuns (hears : s.mainRuns = true ∨ s.thermalHold = true) : exec (.heartbeat true q st t w) s = .next (
    if (mainHears q.toNat s).thermalHold then mainHears q.toNat s
    else ((mainHears q.toNat s).drainLost s.mainHeard).takeReading (140 + q.toNat % 2) t.toInt false) := by
  have either : (s.mainRuns || s.thermalHold) = true := by simpa only [Bool.or_eq_true] using hears
  rw [exec_heartbeat_main, if_neg (by rw [either]; exact Bool.false_ne_true)]
  rfl

end Heartbeats

/-! ### The lanes (R408) -/

section Lanes

variable {l : Lane} {q : Nat}

theorem acked_unacked : (l.acked q).unacked =
    (l.unacked.filter fun f => f.seq != q) ++ l.queued.take (32 - (l.unacked.filter fun f => f.seq != q).length) := rfl

theorem acked_queued : (l.acked q).queued = l.queued.drop (32 - (l.unacked.filter fun f => f.seq != q).length) := rfl

theorem acked_length_le (few : l.unacked.length ≤ 32) : (l.acked q).unacked.length ≤ 32 := by
  have fewer := List.length_filter_le (fun f => f.seq != q) l.unacked
  rw [acked_unacked, List.length_append, List.length_take]
  omega

theorem mem_acked {f} (mem : f ∈ l.unacked) : f.seq = q ∨ f ∈ (l.acked q).unacked := by
  by_cases own : f.seq = q
  · exact .inl own
  · exact .inr (acked_unacked ▸ List.mem_append_left _ (List.mem_filter.mpr ⟨mem, by simpa using own⟩))

theorem acked_order : (l.acked q).unacked ++ (l.acked q).queued = (l.unacked.filter fun f => f.seq != q) ++ l.queued := by
  rw [acked_unacked, acked_queued, List.append_assoc, List.take_append_drop]

end Lanes

/-- Settles O49: each command through its equation, what an acknowledgement leaves in a lane from the order of its frames. -/
theorem mainSideStartsAndBeats : Obligations.MainSideStartsAndBeats := by
  unfold Obligations.MainSideStartsAndBeats
  intro s
  refine ⟨fun off d last => ⟨exec_bootImage_undue, ?long, ?more, ?ends⟩, exec_mainSideReady_barred, fun waits serves => ⟨?admits, ?joins⟩, ?serves,
    fun a b => ⟨?islandRests, ?mainRests, ?islandBeats, ?mainBeats⟩, fun t => ⟨?cool, ?trips⟩,
    fun q t st w => ⟨?deafMain, ?deafIsland, fun runs => ⟨?critical, ?falling, ?returns, ?stays⟩, fun hears => ⟨?held, ?drains⟩⟩, ?acks,
    fun l q few => ⟨acked_length_le few, fun f => mem_acked, acked_order⟩, ?again⟩
  case long => intro due long; rw [exec_bootImage_due due, if_pos long]; rfl
  case more => intro due fits more; rw [exec_bootImage_due due, if_neg (Nat.not_lt.mpr fits), if_pos (by simp [more])]; rfl
  case ends =>
    intro due fits ends
    rw [exec_bootImage_due due, if_neg (Nat.not_lt.mpr fits), if_neg (c := (!last) = true) (by simp [ends])]
    rfl
  case admits => intro admits; rw [exec_mainSideReady waits serves]; exact congrArg Host.Outcome.next (if_pos admits)
  case joins => intro other; rw [exec_mainSideReady waits serves]; exact congrArg Host.Outcome.next (if_neg (by rw [Bool.not_eq_true]; exact other))
  case serves =>
    intro serves
    simp only [State.mayServe, Bool.and_eq_true, List.all_eq_true, List.mem_range, beq_iff_eq, decide_eq_true_eq, Bool.not_eq_true',
      hearthReady_iff] at serves
    obtain ⟨⟨⟨⟨⟨⟨⟨⟨⟨up, -⟩, integrity⟩, image⟩, -⟩, hearths⟩, off⟩, edges⟩, cadence⟩, -⟩ := serves
    exact ⟨up, integrity, image, off, edges, cadence, hearths⟩
  case islandRests => intro rests; rw [exec_heartbeatTimer_island, if_pos (by simp [rests])]
  case mainRests => intro rests; rw [exec_heartbeatTimer_main, if_pos (by simp [rests])]
  case islandBeats =>
    intro runs
    rw [exec_heartbeatTimer_island, if_neg (c := (!s.islandUp) = true) (by simp [runs])]
    simp only [islandBeats, Bool.and_eq_true, decide_eq_true_eq]
  case mainBeats =>
    intro runs
    rw [exec_heartbeatTimer_main, if_neg (c := (!s.mainRuns) = true) (by simp [runs])]
    simp only [mainBeats, decide_eq_true_eq]
  case cool => intro cool; exact if_pos (by rwa [criticalTemp_eq])
  case trips => intro runs hot stands; exact if_neg (by rintro (off | cool | falls); exacts [runs off, Int.not_lt.mpr hot cool, stands falls])
  case deafMain => intro off cold; rw [exec_heartbeat_main, if_pos (by simp [off, cold])]
  case deafIsland => intro off; rw [exec_heartbeat_island, if_pos (by simp [off])]
  case critical => intro hot stands; rw [exec_heartbeat_islandUp runs]; exact congrArg Host.Outcome.next ((if_pos hot).trans (if_neg stands))
  case falling => intro hot falls; rw [exec_heartbeat_islandUp runs]; exact congrArg Host.Outcome.next ((if_pos hot).trans (if_pos falls))
  case returns =>
    intro cool silent open'
    rw [exec_heartbeat_islandUp runs]
    exact congrArg Host.Outcome.next ((if_neg (Int.not_le.mpr cool)).trans (if_pos ⟨silent, open'⟩))
  case stays =>
    intro cool beats
    rw [exec_heartbeat_islandUp runs]
    exact congrArg Host.Outcome.next ((if_neg (Int.not_le.mpr cool)).trans (if_neg fun both => beats both.1))
  case held => intro holds; rw [exec_heartbeat_mainRuns hears]; exact congrArg Host.Outcome.next (if_pos holds)
  case drains => intro free; rw [exec_heartbeat_mainRuns hears]; exact congrArg Host.Outcome.next (if_neg (by rw [Bool.not_eq_true]; exact free))
  case acks => intro toMain urgent q; rfl
  case again => exact fun toMain => ⟨rfl, rfl⟩

end Sys2Proof.Proofs

end

section

/-! ## Keys and firmware are taken (O50; 21 R488 to R494)

A write of a statement has three answers: barred by the last owner key, wrong, stored. A firmware command has an equation for each of its answers. -/

namespace Sys2Proof.Proofs

open Sys2Proof.Machine Sys2Proof.Laws

variable {s : State}

/-! ### Statements (R489 to R491) -/

section Statements

variable {idx sub : Nat} {b : List Byte}

/-- The signature of a statement is that of a registered owner key, or a zero one ahead of the first owner key. -/
theorem stmtSigned_cases (signed : s.stmtSigned idx b = true) :
    (s.unowned = true ∧ idx = 0x7001 ∧ leAt b 0 1 = 1 ∧ leAt b 1 1 = 0 ∧ zeroAt b 168 132 = true) ∨
    (s.ownerRegistered (leAt b 1 1) = true ∧ Config.ecdsaVerifies (slice 32 133 (s.ownerStmt (leAt b 1 1))) (b.take 168) (slice 168 132 b) = true) := by
  rw [State.stmtSigned] at signed
  split at signed
  case isTrue first =>
    simp only [Bool.and_eq_true, beq_iff_eq] at first
    obtain ⟨⟨⟨unowned, object⟩, registers⟩, unsigned⟩ := first
    exact .inl ⟨unowned, object, registers, unsigned, signed⟩
  case isFalse => exact .inr ((Bool.and_eq_true _ _).mp signed)

theorem stmtGood_names (good : s.stmtGood idx sub b = true) :
    leAt b 20 2 = idx ∧ leAt b 22 1 = sub ∧ (leAt b 8 8 = 0 ∨ leAt b 8 8 = s.od 0x1000 0 0) ∧ s.od 0x7002 0 3 < leAt b 4 4 ∧ stmtReserved b = true ∧
      s.stmtSigned idx b = true := by
  simp only [State.stmtGood, Bool.and_eq_true, Bool.or_eq_true, beq_iff_eq, decide_eq_true_eq] at good
  obtain ⟨⟨⟨⟨⟨⟨object, slot⟩, part⟩, fresh⟩, reserved⟩, -⟩, signed⟩ := good
  exact ⟨object, slot, part, fresh, reserved, signed⟩

theorem lastOwnerBars_owner : s.lastOwnerBars 0x7001 sub b = true ↔
    s.ownerRegistered sub = true ∧ ([1, 2, 3, 4].filter s.ownerRegistered).length = 1 ∧
      (leAt b 0 1 = 2 ∨ (leAt b 0 1 = 0 ∧ s.publishes = true)) := by
  simp [State.lastOwnerBars, and_assoc]

theorem lastOwnerBars_publisher : s.lastOwnerBars 0x5010 sub b = false := by simp [State.lastOwnerBars]

theorem applyStmt_barred (barred : s.lastOwnerBars idx sub b = true) : s.applyStmt idx sub b = (codeState, s) := if_pos barred

theorem applyStmt_wrong (free : s.lastOwnerBars idx sub b = false) (wrong : s.stmtGood idx sub b = false) :
    s.applyStmt idx sub b = (codeFormat, s) := (if_neg (by simp [free])).trans (if_pos (by simp [wrong]))

theorem applyStmt_good (free : s.lastOwnerBars idx sub b = false) (good : s.stmtGood idx sub b = true) :
    s.applyStmt idx sub b = (0, s.takeStmt idx sub b) := (if_neg (by simp [free])).trans (if_neg (by simp [good]))

theorem exec_ownerKeyWrite (rq : Requester) (slot : BitVec 2) : exec (.ownerKeyWrite rq slot b) s =
    .next (s.access rq .write 0x7001 (slot.toNat + 1) b (State.applyStmt 0x7001 (slot.toNat + 1) b)) := rfl

theorem exec_publisherKeyWrite (rq : Requester) (slot : BitVec 4) : exec (.publisherKeyWrite rq slot b) s =
    .next (s.access rq .write 0x5010 (slot.toNat + 1) b (State.applyStmt 0x5010 (slot.toNat + 1) b)) := rfl

theorem endOwnerSessions_registered (registered : s.ownerRegistered sub = true) : s.endOwnerSessions sub = s := if_pos registered

/-- What the end of an owner slot's sessions makes of a connection. -/
def withoutSlot (sub : Nat) (c : Conn) : Conn :=
  match c.session with
  | some x => if x.slot = some sub then { c with session := none } else c
  | none => c

theorem endOwnerSessions_conns (gone : s.ownerRegistered sub = false) :
    (s.endOwnerSessions sub).conns = s.conns.map fun e => (e.1, withoutSlot sub e.2) := by
  rw [State.endOwnerSessions, if_neg (by simp [gone])]
  rfl

/-- No session of the slot is left. -/
theorem withoutSlot_session {c : Conn} {x : Session} (opened : (withoutSlot sub c).session = some x) : x.slot ≠ some sub := by
  rw [withoutSlot] at opened
  split at opened
  case h_1 y held =>
    split at opened
    case isTrue => cases opened
    case isFalse other => exact Option.some.inj (held.symm.trans opened) ▸ other
  case h_2 none' => rw [none'] at opened; cases opened

end Statements

/-! ### Firmware (R493, R494) -/

section Firmware

variable {rq : Requester}

theorem exec_firmwareInstall : exec (.firmwareInstall rq) s = .next (s.access rq .command 0x7004 0 [1] State.applyInstall) := rfl

theorem exec_firmwareActivate : exec (.firmwareActivate rq) s = .next (s.access rq .command 0x7004 0 [2] State.applyActivate) := rfl

/-- The image and its version stand in the slot that is not active, and the slot is VALID. -/
def installed (s : State) : State :=
  let img := s.blob 0x7005 0
  let n := 1 - s.activeSlot
  ((((s.setBlobAt (n + 1) 0x7005 0 img).setOd 0x7003 0 (4 * n) (leAt img 12 2)).setOd 0x7003 0 (4 * n + 1) (leAt img 14 2)).setOd 0x7003 0
    (4 * n + 2) (leAt img 16 2)).setOd 0x7003 0 (4 * n + 3) 1

theorem applyInstall_busy (tried : s.trial ≠ 0) : s.applyInstall = (codeBusy, s) := if_pos tried

theorem applyInstall_wrong (idle : s.trial = 0) (wrong : s.firmwareGood (s.blob 0x7005 0) = false) : s.applyInstall = (codeFormat, s) :=
  (if_neg (by simp [idle])).trans (if_pos (by simp [wrong]))

theorem applyInstall_good (idle : s.trial = 0) (good : s.firmwareGood (s.blob 0x7005 0) = true) : s.applyInstall = (0, installed s) :=
  (if_neg (by simp [idle])).trans (if_neg (by simp [good]))

theorem applyActivate_busy (tried : s.trial ≠ 0) : s.applyActivate = (codeBusy, s) := if_pos tried

theorem applyActivate_invalid (idle : s.trial = 0) (invalid : s.od 0x7003 0 (4 * (1 - s.activeSlot) + 3) ≠ 1) : s.applyActivate = (codeState, s) :=
  (if_neg (by simp [idle])).trans (if_pos invalid)

theorem applyActivate_valid (idle : s.trial = 0) (valid : s.od 0x7003 0 (4 * (1 - s.activeSlot) + 3) = 1) :
    s.applyActivate = (0, { s with trial := 1 }) :=
  (if_neg (by simp [idle])).trans (if_neg (not_not.mpr valid))

theorem exec_trialCommit_early (early : s.trial ≠ 2 ∨ s.ready = false ∨ s.elapsed < s.islandAt + 60000000000) : exec .trialCommit s = .next s :=
  congrArg Host.Outcome.next (if_pos (by simpa [or_assoc] using early))

/-- The slot on trial is ACTIVE, the other one VALID, and the security counters are at least the image's. -/
def trialCommitted (s : State) : State :=
  let img := s.slotImage s.runSlot
  let u := ({ s with trial := 0 }.setSlotState s.runSlot 2).setSlotState (1 - s.runSlot) 1
  let v := u.setOd 0x7002 0 0 (max (u.od 0x7002 0 0) (leAt img 4 4))
  v.setOd 0x7002 0 1 (max (v.od 0x7002 0 1) (leAt img 8 4))

theorem mainVersion_setOd (v : Nat) (s : State) : (s.setOd 0x7002 0 0 v).od 0x7002 0 1 = s.od 0x7002 0 1 := od_setOd_ne s v (by decide)

theorem exec_trialCommit_due (tried : s.trial = 2) (ready : s.ready = true) (late : s.islandAt + 60000000000 ≤ s.elapsed) :
    exec .trialCommit s = .next (trialCommitted s) := by
  rw [trialCommitted]
  rw [mainVersion_setOd]
  exact congrArg Host.Outcome.next (if_neg (by simp [tried, ready, late]))

end Firmware

/-- Settles O50: a statement that passes from the checks it has passed, each access through the answer its object gives. -/
theorem keysAndFirmwareAreTaken : Obligations.KeysAndFirmwareAreTaken := by
  unfold Obligations.KeysAndFirmwareAreTaken
  intro s
  refine ⟨fun idx sub b good => ?statement, fun rq b => ⟨fun slot ok => ⟨?last, ?owner⟩, fun slot ok => ?publisher⟩,
    fun n => ⟨endOwnerSessions_registered, ?ends⟩, fun rq => ⟨fun ok => ⟨?installBusy, ?installs⟩, fun ok => ⟨?activateBusy, ?invalid, ?activates⟩⟩,
    exec_trialCommit_early, exec_trialCommit_due⟩
  case statement =>
    obtain ⟨object, slot, part, fresh, reserved, signed⟩ := stmtGood_names good
    exact ⟨object, slot, part, fresh, reserved, stmtSigned_cases signed⟩
  case last =>
    intro last
    exact write_answers (exec_ownerKeyWrite rq slot) ok (by decide) (applyStmt_barred (lastOwnerBars_owner.mpr last))
  case owner =>
    intro other
    have free : s.lastOwnerBars 0x7001 (slot.toNat + 1) b = false := Bool.eq_false_iff.mpr (mt lastOwnerBars_owner.mp other)
    cases good : s.stmtGood 0x7001 (slot.toNat + 1) b with
    | false => exact write_answers (exec_ownerKeyWrite rq slot) ok (by decide) (applyStmt_wrong free good)
    | true => exact write_taken (exec_ownerKeyWrite rq slot) ok (applyStmt_good free good)
  case publisher =>
    cases good : s.stmtGood 0x5010 (slot.toNat + 1) b with
    | false => exact write_answers (exec_publisherKeyWrite rq slot) ok (by decide) (applyStmt_wrong lastOwnerBars_publisher good)
    | true => exact write_taken (exec_publisherKeyWrite rq slot) ok (applyStmt_good lastOwnerBars_publisher good)
  case ends =>
    intro gone e mem x opened
    rw [endOwnerSessions_conns gone] at mem
    obtain ⟨f, -, rfl⟩ := List.mem_map.mp mem
    exact withoutSlot_session opened
  case installBusy => exact fun tried => command_answers exec_firmwareInstall ok (by decide) (applyInstall_busy tried)
  case installs =>
    intro idle
    cases good : s.firmwareGood (s.blob 0x7005 0) with
    | false => exact command_answers exec_firmwareInstall ok (by decide) (applyInstall_wrong idle good)
    | true => exact command_taken exec_firmwareInstall ok (applyInstall_good idle good)
  case activateBusy => exact fun tried => command_answers exec_firmwareActivate ok (by decide) (applyActivate_busy tried)
  case invalid => exact fun idle other => command_answers exec_firmwareActivate ok (by decide) (applyActivate_invalid idle other)
  case activates => exact fun idle valid => command_taken exec_firmwareActivate ok (applyActivate_valid idle valid)

end Sys2Proof.Proofs

end

section

/-! ## SPDM requests are answered (O51; 21 R486, R496 to R498)

Every request asks for a phase of the negotiation and has one answer from there on; the island's silence and its error for a request that comes too
early are the same for all of them. -/

namespace Sys2Proof.Proofs

open Sys2Proof.Machine Sys2Proof.Laws

variable {s : State} {c : BitVec 2}

/-! ### Silence, error and answer (R496) -/

/-- A command is a request of a connection that is answered from phase `n` of its negotiation on. -/
def Requests (c : BitVec 2) (n : Nat) (i : Instr) (f : State → State) : Prop := ∀ s, exec i s = .next (s.spdmAt c n f)

section Requests

variable {n : Nat} {i : Instr} {f : State → State} (requests : Requests c n i f)

include requests

theorem request_unheard (off : s.islandRun = 0 ∨ (s.islandRun = 2 ∧ 2 ≤ n)) : exec i s = .next s := by
  rw [requests, State.spdmAt]
  split
  case isTrue => rfl
  case isFalse runs => rw [if_pos (off.resolve_left runs)]

theorem request_early (runs : s.islandRun ≠ 0) (code : s.islandRun ≠ 2 ∨ n < 2) (early : (s.conn c).phase < n) :
    exec i s = .next (s.spdmFails c 4) := by
  rw [requests, State.spdmAt, if_neg runs, if_neg (by omega), if_pos early]
  rfl

theorem request_answered (runs : s.islandRun ≠ 0) (code : s.islandRun ≠ 2 ∨ n < 2) (reached : n ≤ (s.conn c).phase) : exec i s = .next (f s) := by
  rw [requests, State.spdmAt, if_neg runs, if_neg (by omega), if_neg (Nat.not_lt.mpr reached)]

end Requests

/-! ### The requests -/

section Answers

theorem getVersion_requests : Requests c 0 (.getVersion c)
    fun s => (s.setConn c { Conn.fresh with phase := 1 }).spdmOut c 0x04 [0x12, 0x13] := fun _ => rfl

theorem getCapabilities_requests : Requests c 1 (.getCapabilities c)
    fun s => (s.setConn c { s.conn c with phase := max 2 (s.conn c).phase }).spdmOut c 0x61 [] := fun _ => rfl

/-- The answer to an offer of algorithms. -/
def algorithmsAnswer (c : BitVec 2) (supported : Bool) (s : State) : State :=
  if supported then (s.setConn c { s.conn c with phase := 3 }).spdmOut c 0x63 [] else s.spdmFails c 1

theorem negotiateAlgorithms_requests {o : Bool} : Requests c 2 (.negotiateAlgorithms c o) (algorithmsAnswer c o) := fun _ => rfl

theorem getDigests_requests : Requests c 3 (.getDigests c)
    fun s => s.spdmOut c 0x01 (leBytes 1 1 ++ Config.sha512 s.certChain) := fun _ => rfl

/-- The part of the chain of slot 0 that is asked for, and how much remains. -/
def certificateAnswer (c : BitVec 2) (n : Byte) (f l : BitVec 16) (s : State) : State :=
  if n ≠ 0 ∨ s.certChain.length < f.toNat then s.spdmFails c 1
  else
    let part := slice f.toNat l.toNat s.certChain
    s.spdmOut c 0x02 (leBytes 2 part.length ++ leBytes 2 (s.certChain.length - f.toNat - part.length) ++ part)

theorem getCertificate_requests {n : Byte} {f l : BitVec 16} : Requests c 3 (.getCertificate c n f l) (certificateAnswer c n f l) := fun _ => rfl

/-- The digest of the chain and the nonce, signed. -/
def challengeAnswer (c : BitVec 2) (n : Byte) (b : List Byte) (s : State) : State :=
  if n ≠ 0 then s.spdmFails c 1
  else s.spdmOut c 0x03 ((Config.sha512 s.certChain ++ b) ++ Config.identitySign (Config.sha512 s.certChain ++ b))

theorem challenge_requests {n : Byte} {b : List Byte} : Requests c 3 (.challenge c n b) (challengeAnswer c n b) := fun _ => rfl

/-- The blocks that an index asks for. -/
def blocksOf (n : Nat) : List Nat := if n = 0 then [] else if n = 255 then [1, 2, 3, 4, 5, 6, 7, 8] else [n]

/-- The blocks asked for, or their number. -/
def measurementsBody (n : Nat) (s : State) : List Byte :=
  leBytes 1 (if n = 0 then 8 else (blocksOf n).length) ++ (blocksOf n).flatMap fun k => leBytes 1 k ++ s.measurement k

/-- The measurements that an index asks for. -/
def measurementsAnswer (c : BitVec 2) (i : Byte) (signed : Bool) (b : List Byte) (s : State) : State :=
  if 8 < i.toNat ∧ i.toNat ≠ 255 then s.spdmFails c 1
  else
    s.spdmOut c 0x60 (measurementsBody i.toNat s ++ if signed then Config.identitySign (measurementsBody i.toNat s ++ b) else [])

theorem getMeasurements_requests {i : Byte} {signed : Bool} {b : List Byte} :
    Requests c 3 (.getMeasurements c i signed b) (measurementsAnswer c i signed b) := fun _ => rfl

/-- The requester is kept where it may open a session. -/
def exchangeAnswer (c : BitVec 2) (r : SpdmRequester) (s : State) : State :=
  if !s.mayOpen r then s.spdmFails c 1
  else (s.setConn c { s.conn c with exchange := some r }).spdmOut c 0x64 (leBytes 1 (flagNat !s.unowned))

theorem keyExchange_requests {r : SpdmRequester} : Requests c 3 (.keyExchange c r) (exchangeAnswer c r) := fun _ => rfl

/-- The exchange of a requester ends, with a session where its message verifies and it may open one. -/
def finishes (c : BitVec 2) (v : Bool) (s : State) (r : SpdmRequester) : State :=
  let u := s.setConn c { s.conn c with exchange := none }
  if !v || !u.mayOpen r then u.spdmFails c 6
  else ((u.setConn c { u.conn c with session := some (newSession r (!u.unowned)) }).bump 0x1314 0 3 1).spdmOut c 0x65 []

/-- FINISH without an exchange is unexpected. -/
def finishAnswer (c : BitVec 2) (v : Bool) (s : State) : State := (s.conn c).exchange.elim (s.spdmFails c 4) (finishes c v s)

theorem finish_requests {v : Bool} : Requests c 3 (.finish c v) (finishAnswer c v) := by
  intro s
  have answers : (fun s : State => finishAnswer c v s) = fun s => match (s.conn c).exchange with
      | none => s.spdmFails c unexpectedRequest
      | some r => finishes c v s r := by
    funext s
    rw [finishAnswer]
    cases (s.conn c).exchange <;> rfl
  exact congrArg (fun f => Host.Outcome.next (s.spdmAt c 3 f)) answers.symm

/-- A request inside a session. -/
def insideAnswer (c : BitVec 2) (f : State → State) (s : State) : State :=
  if (s.conn c).session.isSome then f s else s.spdmFails c unexpectedRequest

theorem keyUpdate_requests : Requests c 3 (.keyUpdate c) (insideAnswer c fun s => s.spdmOut c 0x69 []) := fun _ => rfl

theorem spdmHeartbeat_requests : Requests c 3 (.spdmHeartbeat c) (insideAnswer c fun s => s.spdmOut c 0x68 []) := fun _ => rfl

theorem endSession_requests : Requests c 3 (.endSession c)
    (insideAnswer c fun s => (s.setConn c { s.conn c with session := none }).spdmOut c 0x6C []) := fun _ => rfl

theorem insideAnswer_none {f : State → State} (none' : (s.conn c).session = none) : insideAnswer c f s = s.spdmFails c 4 :=
  if_neg (by simp [none'])

theorem insideAnswer_some {f : State → State} (opened : (s.conn c).session.isSome = true) : insideAnswer c f s = f s := if_pos opened

theorem conn_setConn {x : Conn} : (s.setConn c x).conn c = x := by simp [State.conn, State.setConn, get_put_same]

theorem finishes_fails {v : Bool} {r : SpdmRequester}
    (fails : v = false ∨ (s.setConn c { s.conn c with exchange := none }).mayOpen r = false) :
    finishes c v s r = (s.setConn c { s.conn c with exchange := none }).spdmFails c 6 := if_pos (by simpa using fails)

theorem finishes_opens {r : SpdmRequester} (opens : (s.setConn c { s.conn c with exchange := none }).mayOpen r = true) :
    finishes c true s r = (((s.setConn c { s.conn c with exchange := none }).setConn c
      { s.conn c with exchange := none, session := some (newSession r (!s.unowned)) }).bump 0x1314 0 3 1).spdmOut c 0x65 [] := by
  rw [finishes, if_neg (by simp [opens]), conn_setConn]
  rfl

end Answers

/-! ### Who may open a session (R497) -/

theorem mayOpen_unowned {r : SpdmRequester} (unowned : s.unowned = true) : s.mayOpen r = true := by simp [State.mayOpen, unowned]

theorem mayOpen_owned {r : SpdmRequester} (owned : s.unowned = false) (opens : s.mayOpen r = true) :
    (∃ k, r = .ownerKey k ∧ s.ownerRegistered (k.toNat + 1) = true) ∨ (∃ n, r = .vendorPeer n ∧ s.partNamed n.toNat = true) := by
  cases r with
  | ownerKey k => exact .inl ⟨k, rfl, by simpa [State.mayOpen, owned] using opens⟩
  | vendorPeer n => exact .inr ⟨n, rfl, by simpa [State.mayOpen, owned] using opens⟩
  | _ => simp [State.mayOpen, owned] at opens

/-- Settles O51: a request by request assembly of the silence, the error and the answer that all requests have in common. -/
theorem spdmRequestsAreAnswered : Obligations.SpdmRequestsAreAnswered := by
  unfold Obligations.SpdmRequestsAreAnswered
  intro s c
  refine ⟨fun off => ⟨request_unheard getVersion_requests (.inl off), request_unheard getCapabilities_requests (.inl off)⟩, ?unheard,
    fun ⟨runs, code, early⟩ => request_early getCapabilities_requests runs code early,
    fun ⟨runs, code, early⟩ o => request_early negotiateAlgorithms_requests runs code early, ?early,
    fun runs => request_answered getVersion_requests runs (by omega) (Nat.zero_le _),
    fun runs reached => request_answered getCapabilities_requests runs (by omega) reached,
    fun runs reached => ⟨?algorithms, ?unsupported⟩, ?ready, fun r => ⟨mayOpen_unowned, mayOpen_owned⟩⟩
  case unheard =>
    intro off
    have silent {i : Instr} {f : State → State} {n : Nat} (requests : Requests c n i f) (late : 2 ≤ n) : exec i s = .next s :=
      request_unheard requests (off.imp_right fun rom => ⟨rom, late⟩)
    exact ⟨fun o => silent negotiateAlgorithms_requests (by omega), silent getDigests_requests (by omega),
      fun n f l => silent getCertificate_requests (by omega), fun n b => silent challenge_requests (by omega),
      fun i g b => silent getMeasurements_requests (by omega), fun r => silent keyExchange_requests (by omega),
      fun v => silent finish_requests (by omega), silent keyUpdate_requests (by omega), silent spdmHeartbeat_requests (by omega),
      silent endSession_requests (by omega)⟩
  case early =>
    intro ⟨runs, code, early⟩
    have unexpected {i : Instr} {f : State → State} (requests : Requests c 3 i f) : exec i s = .next (s.spdmFails c 4) :=
      request_early requests runs code early
    exact ⟨unexpected getDigests_requests, fun n f l => unexpected getCertificate_requests, fun n b => unexpected challenge_requests,
      fun i g b => unexpected getMeasurements_requests, fun r => unexpected keyExchange_requests, fun v => unexpected finish_requests,
      unexpected keyUpdate_requests, unexpected spdmHeartbeat_requests, unexpected endSession_requests⟩
  case algorithms => exact request_answered negotiateAlgorithms_requests (by omega) (by omega) reached
  case unsupported => exact request_answered negotiateAlgorithms_requests (by omega) (by omega) reached
  case ready =>
    intro runs reached
    have answers {i : Instr} {f : State → State} (requests : Requests c 3 i f) : exec i s = .next (f s) :=
      request_answered requests (by omega) (by omega) reached
    refine ⟨?digests, fun n f l => ⟨?noPart, ?part⟩, fun n b => ⟨?otherSlot, ?challenged⟩,
      fun i signed b => ⟨?otherIndex, ?blocks⟩, fun r => ⟨?stranger, ?keeps⟩, ?noExchange, fun r exchange => ⟨?unverified, ?barred, ?opens⟩,
      fun none' => ⟨?noUpdate, ?noBeat, ?noEnd⟩, fun opened => ⟨?update, ?beat, ?ends⟩⟩
    case digests => rw [answers getDigests_requests]; rfl
    case noPart => intro wrong; rw [answers getCertificate_requests, certificateAnswer, if_pos wrong]; rfl
    case part => intro zero within; rw [answers getCertificate_requests, certificateAnswer, if_neg (by simp [zero, within])]; rfl
    case otherSlot => intro other; rw [answers challenge_requests, challengeAnswer, if_pos other]; rfl
    case challenged => intro zero; rw [answers challenge_requests, challengeAnswer, if_neg (not_not.mpr zero)]; rfl
    case otherIndex => intro large one; rw [answers getMeasurements_requests, measurementsAnswer, if_pos ⟨large, one⟩]; rfl
    case blocks =>
      intro known
      have zero : i = 0 ↔ i.toNat = 0 := (BitVec.toNat_inj (y := 0)).symm
      have all : i = 0xFF ↔ i.toNat = 255 := (BitVec.toNat_inj (y := 0xFF)).symm
      have within : ¬ (8 < i.toNat ∧ i.toNat ≠ 255) := by omega
      rw [answers getMeasurements_requests, measurementsAnswer, if_neg within]
      simp only [measurementsBody, blocksOf, zero, all]
      rfl
    case stranger => intro barred; rw [answers keyExchange_requests, exchangeAnswer, if_pos (by simp [barred])]; rfl
    case keeps =>
      intro may
      rw [answers keyExchange_requests, exchangeAnswer, if_neg (by simp [may])]
      cases s.unowned <;> rfl
    case noExchange => intro none' v; rw [answers finish_requests, finishAnswer, none']; rfl
    case unverified => rw [answers finish_requests, finishAnswer, exchange, Option.elim_some, finishes_fails (.inl rfl)]; rfl
    case barred => intro barred; rw [answers finish_requests, finishAnswer, exchange, Option.elim_some, finishes_fails (.inr barred)]; rfl
    case opens => intro may; rw [answers finish_requests, finishAnswer, exchange, Option.elim_some, finishes_opens may]; rfl
    case noUpdate => rw [answers keyUpdate_requests, insideAnswer_none none']; rfl
    case noBeat => rw [answers spdmHeartbeat_requests, insideAnswer_none none']; rfl
    case noEnd => rw [answers endSession_requests, insideAnswer_none none']; rfl
    case update => rw [answers keyUpdate_requests, insideAnswer_some opened]; rfl
    case beat => rw [answers spdmHeartbeat_requests, insideAnswer_some opened]; rfl
    case ends => rw [answers endSession_requests, insideAnswer_some opened]; rfl

end Sys2Proof.Proofs

end

section

/-! ## Accesses are judged and answered (O52; 16 R389, R390, 17 R417 to R424, 18 R427, R428, 21 R499) -/

namespace Sys2Proof.Proofs

open Sys2Proof.Machine Sys2Proof.Laws

variable {s : State}

/-! ### Table 18-1 (R427) -/

section Judge

variable {q : Req} {n : Nat}

theorem judge_unknown (unknown : odRow? q.idx q.sub = none) :
    s.judge q n = if q.sub = 0 ∧ odHighest q.idx ≠ 0 then (if q.op = .read then 0 else codeAccess) else codeIndex := by
  rw [State.judge, unknown]

theorem judge_row {r : OdRow} (row : odRow? q.idx q.sub = some r) :
    s.judge q n = if codeSuits q.op r.code = false then codeAccess else if q.op ≠ .read ∧ s.mayWrite q.rq r = false then codeAccess
      else if lengthSuits q r n = false then codeLength else if s.gated q r then codeGated else if s.commonState q r ≠ 0 then s.commonState q r
      else if (q.op = .command ∧ s.od q.idx q.sub cmdState = 1 ∧ ¬ (q.idx = 0x5020 ∧ q.data = [4])) ∨
        (q.op = .write ∧ s.segmentOpen q.idx q.sub = true) then codeBusy
      else 0 := by
  simp only [State.judge, row, ite_or, Bool.not_eq_true', Bool.and_eq_true, Bool.and_eq_false_iff, bne_iff_ne, beq_iff_eq, beq_eq_false_iff_ne,
    and_assoc, not_and_or, ne_eq]

end Judge

/-! ### One access (R427, R428) -/

section Perform

variable {q : Req}

theorem perform_refused (refused : s.judgeReq q ≠ 0) : s.perform q = (⟨s.judgeReq q, 0, []⟩, s) := if_pos refused

theorem perform_read (ok : s.judgeReq q = 0) (reads : q.op = .read) : s.perform q = s.performRead q :=
  (if_neg (not_not.mpr ok)).trans (if_pos reads)

theorem perform_change (ok : s.judgeReq q = 0) (changes : q.op ≠ .read) : s.perform q = s.performChange q :=
  (if_neg (not_not.mpr ok)).trans (if_neg changes)

theorem performRead_code : (s.performRead q).1.code = s.readBar q.rq q.idx q.sub := by
  rw [State.performRead]
  split
  case isTrue => rfl
  case isFalse free => exact (not_not.mp free).symm

theorem performRead_state : (s.performRead q).2 = s := by
  rw [State.performRead]
  split <;> rfl

/-- A change answers what its object says, and leaves what it leaves; an accepted command is noted. -/
theorem performChange_write (writes : q.op = .write) :
    ((s.performChange q).1.code, (s.performChange q).2) = s.applyWrite q.rq q.idx q.sub q.data := by
  simp only [State.performChange, writes, reduceCtorEq, if_false]
  split
  case isTrue => rfl
  case isFalse taken => exact Prod.ext (not_not.mp taken).symm rfl

theorem performChange_command (commands : q.op = .command) :
    (s.performChange q).1.code = (s.applyCommand q.rq q.idx q.sub q.data).1 ∧
    (s.performChange q).2 = if (s.applyCommand q.rq q.idx q.sub q.data).1 ≠ 0 then (s.applyCommand q.rq q.idx q.sub q.data).2
      else (s.applyCommand q.rq q.idx q.sub q.data).2.noteCommand q.idx q.sub q.data := by
  simp only [State.performChange, commands, if_true]
  split
  case isTrue => exact ⟨rfl, rfl⟩
  case isFalse taken => exact ⟨(not_not.mp taken).symm, rfl⟩

end Perform

/-! ### Writes of objects (R428) -/

section ObjectWrite

variable {rq : Requester} {op : AccessOp} {idx : BitVec 16} {sub : BitVec 8} {off : Nat} {data : List Byte}

/-- What OBJECT_WRITE asks for. -/
def objectReq (rq : Requester) (op : AccessOp) (idx : BitVec 16) (sub : BitVec 8) (off : Nat) (data : List Byte) : Req :=
  { rq := rq, op := op, idx := idx.toNat, sub := sub.toNat, offset := off, room := 2 ^ 32, data := data }

theorem exec_objectWrite : exec (.objectWrite rq op idx sub off data) s =
    .next ((s.perform (objectReq rq op idx sub off data)).2.answer rq (s.perform (objectReq rq op idx sub off data)).1.code) := rfl

theorem exec_objectWrite_refused (refused : s.judgeReq (objectReq rq op idx sub off data) ≠ 0) :
    exec (.objectWrite rq op idx sub off data) s = .next (s.answer rq (s.judgeReq (objectReq rq op idx sub off data))) := by
  rw [exec_objectWrite, perform_refused refused]

theorem exec_objectWrite_read (ok : s.judgeReq (objectReq rq op idx sub off data) = 0) (reads : op = .read) :
    exec (.objectWrite rq op idx sub off data) s = .next (s.answer rq (s.readBar rq idx.toNat sub.toNat)) := by
  rw [exec_objectWrite, perform_read ok reads, performRead_code, performRead_state]
  rfl

theorem exec_objectWrite_write (ok : s.judgeReq (objectReq rq op idx sub off data) = 0) (writes : op = .write) :
    exec (.objectWrite rq op idx sub off data) s =
      .next ((s.applyWrite rq idx.toNat sub.toNat data).2.answer rq (s.applyWrite rq idx.toNat sub.toNat data).1) := by
  have done : _ = s.applyWrite rq idx.toNat sub.toNat data := performChange_write (s := s) (q := objectReq rq op idx sub off data) writes
  rw [exec_objectWrite, perform_change ok (by simp [objectReq, writes]), ← done]

theorem exec_objectWrite_command (ok : s.judgeReq (objectReq rq op idx sub off data) = 0) (commands : op = .command) :
    exec (.objectWrite rq op idx sub off data) s = .next (
      (if (s.applyCommand rq idx.toNat sub.toNat data).1 ≠ 0 then (s.applyCommand rq idx.toNat sub.toNat data).2
        else (s.applyCommand rq idx.toNat sub.toNat data).2.noteCommand idx.toNat sub.toNat data).answer rq
          (s.applyCommand rq idx.toNat sub.toNat data).1) := by
  obtain ⟨code, left⟩ := performChange_command (s := s) (q := objectReq rq op idx sub off data) commands
  rw [exec_objectWrite, perform_change ok (by simp [objectReq, commands]), code, left]
  rfl

end ObjectWrite

/-! ### The mailbox (16 R389, R390) -/

section Mailbox

variable {p : HostPort} {m : MailboxReq}

/-- What a mailbox asks for. -/
def mailboxReq (p : HostPort) (m : MailboxReq) : Req :=
  { rq := hostRequester p, op := m.op, idx := m.index.toNat, sub := m.sub.toNat, offset := 0, room := m.length.toNat,
    data := if m.op = .read then [] else m.data.take m.length.toNat }

/-- What a mailbox shows of an answer. -/
def mailboxOf (m : MailboxReq) (a : Answer) : Mailbox :=
  { result := a.code, tag := m.tag.toNat, length := a.total, data := if m.bulk != 0 then [] else a.data }

/-- The answer stands in the mailbox. -/
def inMailbox (p : HostPort) (m : MailboxReq) (a : Answer) (s : State) : State :=
  { s with mailboxes := s.mailboxes.put Mailbox.fresh (hostNo p) (mailboxOf m a) }

theorem exec_mailboxGo_linkless (linkless : s.hostLink (hostNo p) = false) : exec (.mailboxGo p m) s = .next s :=
  congrArg Host.Outcome.next (if_pos (by simp [linkless]))

theorem showMailbox_bulk {a : Answer} (bulk : m.bulk ≠ 0) (some' : a.data ≠ []) :
    s.showMailbox p m a = ((inMailbox p m a s).emit (.hostWrite p m.bulk.toNat a.data)).setCause (hostNo p) 0 :=
  congrArg (State.setCause (hostNo p) 0) (if_pos (by simpa [some'] using bulk))

theorem showMailbox_small {a : Answer} (small : ¬ m.bulk ≠ 0 ∨ a.data = []) : s.showMailbox p m a = (inMailbox p m a s).setCause (hostNo p) 0 :=
  congrArg (State.setCause (hostNo p) 0) (if_neg (by simpa [imp_iff_not_or] using small))

theorem exec_mailboxGo_linked (linked : s.hostLink (hostNo p) = true) : exec (.mailboxGo p m) s = .next (
    ((s.perform (mailboxReq p m)).2.answer (hostRequester p) (s.perform (mailboxReq p m)).1.code).showMailbox p m (s.perform (mailboxReq p m)).1) :=
  congrArg Host.Outcome.next (if_neg (by simp [linked]))

end Mailbox

/-! ### NOA requests (17 R419 to R424) -/

section Noa

variable {m : NoaMsg}

/-- Requests of the message's session that wait for the main side. -/
def waitingWith (s : State) (m : NoaMsg) : List NoaWait := s.noaWaits.filter fun w => w.msg.session == m.session

theorem exec_noaRequest : exec (.noaRequest m) s = .next (if m.fabric || s.od 0x1310 5 0 != 0 then s.noaTakes m else s) := rfl

theorem exec_noaRequest_reached (reachable : m.fabric = true ∨ s.od 0x1310 5 0 ≠ 0) : exec (.noaRequest m) s = .next (s.noaTakes m) :=
  congrArg Host.Outcome.next (if_pos (by simpa using reachable))

theorem exec_noaRequest_lost (lost : ¬ (m.fabric = true ∨ s.od 0x1310 5 0 ≠ 0) ∨ s.islandRun = 0) : exec (.noaRequest m) s = .next s := by
  rw [exec_noaRequest]
  split
  case isTrue reaches =>
    have reset : s.islandRun = 0 := lost.resolve_left (not_not.mpr (by simpa using reaches))
    exact congrArg Host.Outcome.next (if_pos reset)
  case isFalse => rfl

theorem noaTakes_unreadable (runs : s.islandRun ≠ 0) (unreadable : s.noaUnreadable m = true) : s.noaTakes m = s.bump 0x1314 0 4 1 :=
  (if_neg runs).trans (if_pos unreadable)

theorem noaTakes_kept {r : Nat × Nat × List Byte} (runs : s.islandRun ≠ 0) (readable : s.noaUnreadable m = false) (kept : s.keptResponse m = some r) :
    s.noaTakes m = ((s.bump 0x1314 0 0 1).bump 0x1314 0 1 1).respondOnce m r.1 r.2.1 r.2.2 := by
  rw [State.noaTakes, if_neg runs, if_neg (by simp [readable]), kept]

theorem repeated_iff : (s.noaWaits.any fun w => w.msg.session == m.session && w.msg.seq == m.seq) = true ↔
    ∃ w ∈ waitingWith s m, w.msg.seq = m.seq := by
  simp [waitingWith, List.any_eq_true, List.mem_filter, and_assoc]

section New

variable (runs : s.islandRun ≠ 0) (readable : s.noaUnreadable m = false) (new : s.keptResponse m = none)

include runs readable new

/-- A request that no kept response answers. -/
theorem noaTakes_new : s.noaTakes m =
    if s.noaWaits.any fun w => w.msg.session == m.session && w.msg.seq == m.seq then (s.bump 0x1314 0 0 1).bump 0x1314 0 1 1
    else if !s.noaMay m then (s.bump 0x1314 0 0 1).respond m codeAccess 0 []
    else if 8 ≤ (waitingWith s m).length then s.bump 0x1314 0 4 1
    else if m.op = .write ∧ (m.more = true ∨ m.offset ≠ 0) then (s.bump 0x1314 0 0 1).noaSegment m
    else (s.bump 0x1314 0 0 1).noaAccess m := by
  rw [State.noaTakes, if_neg runs, if_neg (by simp [readable]), new]
  rfl

theorem noaTakes_repeated (repeated : ∃ w ∈ waitingWith s m, w.msg.seq = m.seq) :
    s.noaTakes m = (s.bump 0x1314 0 0 1).bump 0x1314 0 1 1 := by
  rw [noaTakes_new runs readable new, if_pos (repeated_iff.mpr repeated)]

variable (once : ¬ ∃ w ∈ waitingWith s m, w.msg.seq = m.seq)

include once

theorem noaTakes_barred (barred : s.noaMay m = false) : s.noaTakes m = (s.bump 0x1314 0 0 1).respond m codeAccess 0 [] := by
  rw [noaTakes_new runs readable new, if_neg (mt repeated_iff.mp once), if_pos (by simp [barred])]

variable (may : s.noaMay m = true)

include may

theorem noaTakes_ninth (many : 8 ≤ (waitingWith s m).length) : s.noaTakes m = s.bump 0x1314 0 4 1 := by
  rw [noaTakes_new runs readable new, if_neg (mt repeated_iff.mp once), if_neg (by simp [may]), if_pos many]

theorem noaTakes_segment (few : (waitingWith s m).length < 8) (segment : m.op = .write ∧ (m.more = true ∨ m.offset ≠ 0)) :
    s.noaTakes m = (s.bump 0x1314 0 0 1).noaSegment m := by
  rw [noaTakes_new runs readable new, if_neg (mt repeated_iff.mp once), if_neg (by simp [may]), if_neg (Nat.not_le.mpr few), if_pos segment]

theorem noaTakes_whole (few : (waitingWith s m).length < 8) (whole : ¬ (m.op = .write ∧ (m.more = true ∨ m.offset ≠ 0))) :
    s.noaTakes m = (s.bump 0x1314 0 0 1).noaAccess m := by
  rw [noaTakes_new runs readable new, if_neg (mt repeated_iff.mp once), if_neg (by simp [may]), if_neg (Nat.not_le.mpr few), if_neg whole]

end New

theorem noaAccess_passed (elsewhere : islandServes m.index.toNat m.sub.toNat = false) (up : s.mainUp = true) : s.noaAccess m = s.passOn m :=
  if_pos (by simp [noaReq, elsewhere, up])

theorem noaAccess_here (here : islandServes m.index.toNat m.sub.toNat = true ∨ s.mainUp = false) : s.noaAccess m =
    let a := if islandServes m.index.toNat m.sub.toNat then s.perform (noaReq m) else s.storeAccess (noaReq m)
    a.2.respond m a.1.code a.1.total a.1.data :=
  if_neg (by rcases here with here | down <;> simp [noaReq, *])

end Noa

/-! ### Segmented writes (R421) -/

section Segments

/-- The segments of a session that had none for 2 s are dropped. -/
def dropSegments (n : Nat) (s : State) : State :=
  if s.segmentsOf n = [] then s else s.setSegments n ((s.segmentsOf n).filter fun g => decide (s.elapsed < g.at_ + 2000000000))

theorem exec_segmentedWriteTimeout {c : BitVec 2} : exec (.segmentedWriteTimeout c) s = .next (dropSegments 4 (dropSegments c.toNat s)) := rfl

theorem dropSegments_empty {n : Nat} (empty : s.segmentsOf n = []) : dropSegments n s = s := if_pos empty

/-- What a session keeps of its segments. -/
def keptSegments (s : State) (n : Nat) : List Segmented := (s.segmentsOf n).filter fun g => decide (s.elapsed < g.at_ + 2000000000)

/-- Segments are held by a session alone. -/
theorem session_of_segments {n : Nat} (some' : s.segmentsOf n ≠ []) : ∃ x, (s.conns.get Conn.fresh n).session = some x :=
  Option.ne_none_iff_exists'.mp fun none' => some' (by simp [State.segmentsOf, none'])

theorem dropSegments_held {n : Nat} {x : Session} (some' : s.segmentsOf n ≠ []) (held : (s.conns.get Conn.fresh n).session = some x) :
    dropSegments n s = { s with
      conns := s.conns.put Conn.fresh n { s.conns.get Conn.fresh n with session := some { x with segments := keptSegments s n } } } := by
  rw [dropSegments, if_neg some', State.setSegments, if_neg (by simp [held])]
  simp only [held, Option.getD_some, keptSegments]

theorem sameConns_dropSegments (n : Nat) (s : State) : dropSegments n s = { s with conns := (dropSegments n s).conns } := by
  by_cases empty : s.segmentsOf n = []
  · rw [dropSegments_empty empty]
  · obtain ⟨x, held⟩ := session_of_segments empty
    rw [dropSegments_held empty held]

theorem segmentsOf_dropSegments_same (n : Nat) (s : State) : (dropSegments n s).segmentsOf n = keptSegments s n := by
  by_cases empty : s.segmentsOf n = []
  · rw [dropSegments_empty empty, keptSegments, empty, List.filter_nil]
  · obtain ⟨x, held⟩ := session_of_segments empty
    rw [dropSegments_held empty held]
    simp [State.segmentsOf, get_put_same]

theorem segmentsOf_dropSegments_ne {n k : Nat} (other : k ≠ n) (s : State) : (dropSegments n s).segmentsOf k = s.segmentsOf k := by
  by_cases empty : s.segmentsOf n = []
  · rw [dropSegments_empty empty]
  · obtain ⟨x, held⟩ := session_of_segments empty
    rw [dropSegments_held empty held]
    simp only [State.segmentsOf, get_put_ne _ _ _ other]

theorem mem_keptSegments {n : Nat} {g : Segmented} : g ∈ keptSegments s n ↔ g ∈ s.segmentsOf n ∧ s.elapsed < g.at_ + 2000000000 := by
  simp [keptSegments]

end Segments

/-! ### Peers and the side-band port (R417, R418, R499) -/

section Peers

variable {p : PortId} {good : Bool} {serial : BitVec 64} {i : IdentBody}

theorem exec_peerSession_known (known : (s.port p.toNat).ident = some i) : exec (.peerSession p good serial) s = .next (
    if !s.islandUp || !s.portUp p.toNat || i.kind != 1 then s
    else if good && serial == i.serial then s.modPort p.toNat fun x => { x with peerSerial := some serial.toNat }
    else s.quarantine p.toNat i) := by
  change execPeerSession p good serial s = _
  simp only [execPeerSession, known]

theorem exec_peerSession_unknown (unknown : (s.port p.toNat).ident = none) : exec (.peerSession p good serial) s = .next s := by
  change execPeerSession p good serial s = _
  simp only [execPeerSession, unknown]

theorem exec_sideBandLinkChange {link : Byte} : exec (.sideBandLinkChange link) s = .next (
    if s.islandRun = 0 ∨ 2 < link.toNat ∨ (link = 2 ∧ s.od 0x1310 1 0 = 0xFF) then s else s.setOd 0x1310 5 0 link.toNat) := rfl

theorem exec_icmpv6Request {echo : Bool} {id : BitVec 32} {data : List Byte} : exec (.icmpv6Request echo id data) s = .next (
    if s.islandRun = 0 ∨ s.od 0x1310 5 0 = 0 then s
    else s.emit (.echo ((if echo then leBytes 1 129 else leBytes 1 136) ++ beBytes 4 id.toNat ++ data))) := rfl

end Peers

/-- Settles O52: the judgement row by row, then each command through its equation. -/
theorem accessesAreJudgedAndAnswered : Obligations.AccessesAreJudgedAndAnswered := by
  unfold Obligations.AccessesAreJudgedAndAnswered
  intro s
  refine ⟨fun q n => ⟨judge_unknown, fun r row => judge_row row⟩,
    fun rq op idx sub off data => ⟨exec_objectWrite_refused, exec_objectWrite_read, exec_objectWrite_write, fun ok commands => ⟨?taken, ?refused⟩⟩,
    fun p m => ⟨exec_mailboxGo_linkless, fun linked => ⟨?bulk, ?box⟩⟩,
    fun m => ⟨exec_noaRequest_lost, fun reachable runs => ⟨?unreadable, fun readable => ⟨?kept, fun new => ⟨?repeated, ?barred, ?ninth, ?segment,
      fun once may few whole => ⟨?passed, ?here⟩⟩⟩⟩⟩, fun c => ⟨_, exec_segmentedWriteTimeout, ?conns, ?segments⟩,
    fun p good serial => ⟨?noPeer, fun i peer known => ⟨?taken', ?quarantined⟩⟩, fun link => ⟨?linkBarred, ?linkSet⟩,
    fun echo id data => ⟨?mute, ?echoes⟩⟩
  case taken => intro taken; rw [exec_objectWrite_command ok commands, if_neg (not_not.mpr taken), taken]; rfl
  case refused => intro refused; rw [exec_objectWrite_command ok commands, if_pos refused]
  case bulk =>
    intro bulk (some' : (s.perform (mailboxReq p m)).1.data ≠ [])
    rw [exec_mailboxGo_linked linked, showMailbox_bulk bulk some']
    simp only [inMailbox, mailboxOf, bne_iff_ne]
    rfl
  case box =>
    intro (small : ¬ m.bulk ≠ 0 ∨ (s.perform (mailboxReq p m)).1.data = [])
    rw [exec_mailboxGo_linked linked, showMailbox_small small]
    simp only [inMailbox, mailboxOf, bne_iff_ne]
    rfl
  case unreadable => intro unreadable; rw [exec_noaRequest_reached reachable, noaTakes_unreadable runs unreadable]
  case kept => intro r kept; rw [exec_noaRequest_reached reachable, noaTakes_kept runs readable kept]
  case repeated => intro repeated; rw [exec_noaRequest_reached reachable, noaTakes_repeated runs readable new repeated]
  case barred => intro once barred; rw [exec_noaRequest_reached reachable, noaTakes_barred runs readable new once barred]
  case ninth => intro once may many; rw [exec_noaRequest_reached reachable, noaTakes_ninth runs readable new once may many]
  case segment =>
    intro once may few segment
    rw [exec_noaRequest_reached reachable, noaTakes_segment runs readable new once may few segment]
  case passed =>
    intro elsewhere up
    rw [exec_noaRequest_reached reachable, noaTakes_whole runs readable new once may few whole, noaAccess_passed elsewhere up]
  case here =>
    intro here
    rw [exec_noaRequest_reached reachable, noaTakes_whole runs readable new once may few whole, noaAccess_here here]
  case conns => rw [sameConns_dropSegments 4, sameConns_dropSegments c.toNat s]
  case segments =>
    have other : c.toNat ≠ 4 := by omega
    have time : (dropSegments c.toNat s).elapsed = s.elapsed := (congrArg State.elapsed (sameConns_dropSegments c.toNat s)).trans rfl
    intro g mem
    rw [segmentsOf_dropSegments_ne other, segmentsOf_dropSegments_same, segmentsOf_dropSegments_same, List.mem_append, mem_keptSegments,
      mem_keptSegments, segmentsOf_dropSegments_ne other.symm, time] at mem
    exact mem.elim (fun own => ⟨List.mem_append_left _ own.1, own.2⟩) fun rom => ⟨List.mem_append_right _ rom.1, rom.2⟩
  case noPeer =>
    intro noPeer
    cases known : (s.port p.toNat).ident with
    | none => exact exec_peerSession_unknown known
    | some i =>
      have off : (!s.islandUp || !s.portUp p.toNat || i.kind != 1) = true := by
        rw [← Bool.not_eq_false]
        intro runs
        simp only [Bool.or_eq_false_iff, Bool.not_eq_false', bne_eq_false_iff_eq] at runs
        exact noPeer ⟨runs.1.1, runs.1.2, i, known, runs.2⟩
      rw [exec_peerSession_known known, if_pos off]
  case taken' =>
    intro verified same
    obtain ⟨runs, up, j, own, part⟩ := peer
    cases known.symm.trans own
    rw [exec_peerSession_known known, if_neg (by simp [runs, up, part]), if_pos (by simp [verified, same])]
    rfl
  case quarantined =>
    intro wrong
    obtain ⟨runs, up, j, own, part⟩ := peer
    cases known.symm.trans own
    rw [exec_peerSession_known known, if_neg (by simp [runs, up, part]), if_neg (by rcases wrong with wrong | wrong <;> simp [wrong])]
  case linkBarred => intro bars; rw [exec_sideBandLinkChange, if_pos bars]
  case linkSet => intro free; rw [exec_sideBandLinkChange, if_neg free]
  case mute => intro quiet; rw [exec_icmpv6Request, if_pos quiet]
  case echoes => intro runs; rw [exec_icmpv6Request, if_neg runs]

end Sys2Proof.Proofs

end

section

/-! ## Crossing frames act at their end (O53; 17 R407, R422, 21 R487)

Every frame is ignored at an end that does not run and discarded where it is too long for its type; what is left of its command then acts. -/

namespace Sys2Proof.Proofs

open Sys2Proof.Machine Sys2Proof.Laws

variable {s : State}

/-- Whether the end that a frame reaches runs. -/
def endRuns (toMain : Bool) (s : State) : Bool := if toMain then s.mainRuns else s.islandUp

/-! ### Accesses (R407) -/

section Objects

variable {c : BitVec 32} {i : BitVec 16} {k : Byte} {o l : BitVec 32} {p : AccessOp} {d : List Byte} {r : BitVec 16}

/-- What OBJ_READ asks for. -/
def crossedRead (i : BitVec 16) (k : Byte) (o l : BitVec 32) : Req :=
  { rq := .sideBand, op := .read, idx := i.toNat, sub := k.toNat, offset := o.toNat, room := min l.toNat 1024, data := [] }

/-- What OBJ_WRITE asks for. -/
def crossedChange (i : BitVec 16) (k : Byte) (p : AccessOp) (o : BitVec 32) (d : List Byte) : Req :=
  { rq := .sideBand, op := p, idx := i.toNat, sub := k.toNat, offset := o.toNat, room := 0, data := d }

/-- A read is answered, the bytes of a byte string in the frames of their kind. -/
def readAnswered (c : BitVec 32) (i : BitVec 16) (k : Byte) (o : BitVec 32) (r : Answer × State) : State :=
  if r.1.code = 0 ∧ isBlob i.toNat k.toNat = true then
    if i.toNat = 0x2808 then r.2.sendToIsland false 5 c.toNat (leBytes 4 o.toNat ++ r.1.data)
    else r.2.sendToIsland false 6 c.toNat (leBytes 2 i.toNat ++ leBytes 1 k.toNat ++ leBytes 4 o.toNat ++ leBytes 4 r.1.total ++ r.1.data)
  else r.2.sendResult c.toNat r.1

theorem exec_objRead : exec (.objRead c i k o l) s = .next (
    if !s.mainRuns then s else readAnswered c i k o ((s.arrived true false).perform (crossedRead i k o l))) := rfl

theorem exec_objWrite : exec (.objWrite c i k p o d) s = .next (
    if !s.mainRuns || p == .read then s
    else if 1024 < d.length then s.offCatalogue
    else ((s.arrived true false).perform (crossedChange i k p o d)).2.sendResult c.toNat
      ((s.arrived true false).perform (crossedChange i k p o d)).1) := rfl

/-- The request that waits on a result is answered with it. -/
def resultTaken (r : BitVec 16) (d : List Byte) (s : State) (w : NoaWait) : State :=
  s.endWait w r.toNat (if r ≠ 0 then 0 else if w.msg.op = .read then s.totalOf w.msg.index.toNat w.msg.sub.toNat else w.msg.data.length) d

theorem exec_objResult : exec (.objResult c r d) s = .next (
    if !s.islandUp then s
    else if 1024 < d.length then s.offCatalogue
    else (s.noaWaits.find? fun w => w.corr == c.toNat).elim (s.arrived false false) (resultTaken r d (s.arrived false false))) := by
  have waits : (s.arrived false false).noaWaits = s.noaWaits := rfl
  change execObjResult c r d s = _
  rw [execObjResult]
  simp only [waits]
  cases s.noaWaits.find? fun w => w.corr == c.toNat <;> rfl

theorem exec_event : exec (.event d) s = .next (
    if !s.islandUp then s
    else if 32 < d.length then s.offCatalogue
    else if ((s.arrived false false).offer 2 (Record.ofBytes d)).2 then ((s.arrived false false).offer 2 (Record.ofBytes d)).1.chimneyDrop 2
    else ((s.arrived false false).offer 2 (Record.ofBytes d)).1) := rfl

theorem exec_keyOp {e w : List Byte} {image serial : BitVec 64} : exec (.keyOp e image serial w) s = .next (
    if !s.islandUp || !s.mainRuns then s
    else ((s.arrived false false).sendToMain false 8 0 ((Config.unwrapKey e image.toNat serial.toNat w).getD [])).takeKey
      (Config.unwrapKey e image.toNat serial.toNat w)) := rfl

end Objects

/-! ### Byte strings (R407) -/

section Strings

variable {toMain : Bool} {i : BitVec 16} {k : Byte} {o t : BitVec 32} {d : List Byte}

/-- A part of a byte string that goes on where the last ended joins it, and one from its start begins it. -/
def gathered (old : List Byte) (o : BitVec 32) (d : List Byte) : List Byte :=
  if o = 0 then d else if o.toNat = old.length then old ++ d else old

/-- A part of a calibration image is taken. -/
def imagePart (o : BitVec 32) (d : List Byte) (s : State) : State :=
  if (gathered s.calBuffer o d).length < ((s.waitOn .write 0x2808 0).map fun w => w.msg.data.length).getD calImageSize then
    { s with calBuffer := gathered s.calBuffer o d }
  else { s with calBuffer := [] }.blobArrived 0x2808 0 (gathered s.calBuffer o d)

/-- What has come of a byte string. -/
def soFar (i k : Nat) (s : State) : List Byte := ((s.blobSoFar.find? fun e => e.1 == i && e.2.1 == k).map (·.2.2)).getD []

/-- What has come of the others. -/
def othersSoFar (i k : Nat) (s : State) : List (Nat × Nat × List Byte) := s.blobSoFar.filter fun e => !(e.1 == i && e.2.1 == k)

/-- A part of a byte string of `t` bytes is taken. -/
def stringPart (i k : Nat) (o : BitVec 32) (t : Nat) (d : List Byte) (s : State) : State :=
  if (gathered (soFar i k s) o d).length < t then { s with blobSoFar := othersSoFar i k s ++ [(i, k, gathered (soFar i k s) o d)] }
  else { s with blobSoFar := othersSoFar i k s }.blobArrived i k (gathered (soFar i k s) o d)

theorem exec_calImage : exec (.calImage toMain o d) s = .next (
    if !endRuns toMain s then s
    else if 4096 < d.length then s.offCatalogue
    else if toMain then imagePart o d (s.arrived true false)
    else (s.arrived false false).blobRead 0x2808 0 calImageSize d) := rfl

theorem exec_blobSegment : exec (.blobSegment toMain i k o t d) s = .next (
    if !endRuns toMain s then s
    else if 4096 < d.length then s.offCatalogue
    else if toMain then stringPart i.toNat k.toNat o t.toNat d (s.arrived true false)
    else (s.arrived false false).blobRead i.toNat k.toNat t.toNat d) := rfl

theorem blobRead_none {i k total : Nat} (none' : s.waitOn .read i k = none) : s.blobRead i k total d = s := by
  rw [State.blobRead, none']

theorem blobRead_some {i k total : Nat} {w : NoaWait} (waits : s.waitOn .read i k = some w) :
    s.blobRead i k total d = s.endWait w 0 total (d.take 1024) := by
  rw [State.blobRead, waits]

end Strings

/-! ### NOA over the fabric (R422) -/

section Fabric

variable {src : BitVec 16} {m : NoaMsg} {toMain : Bool}

/-- A part of what the admitting part forwards is taken. -/
def forwardedPart (src : Nat) (m : NoaMsg) (s : State) : State :=
  if (gathered s.forwarding m.offset m.data).length < m.total.toNat then { s with forwarding := gathered s.forwarding m.offset m.data }
  else { s with forwarding := [] }.takeForwarded src m.index.toNat m.sub.toNat (gathered s.forwarding m.offset m.data)

theorem exec_mgmt : exec (.mgmt src m) s = .next (
    if !s.mainRuns then s
    else if s.isForwarded src.toNat m then forwardedPart src.toNat m s
    else { s with mgmtFrom := s.mgmtFrom ++ [(m.session, m.seq.toNat, src.toNat)] }.sendToIsland false 7 0 (noaBytes m)) := rfl

/-- The answer of the island goes to where its request came from. -/
def answerPassed (m : NoaMsg) (s : State) (e : Option (BitVec 2) × Nat × Nat) : State :=
  ({ s with mgmtFrom := s.mgmtFrom.erase e }.send
    { kind := 8, cls := 0, targets := [e.2.2 + 65536 * s.od 0x4011 0 0], payload := noaResponse m 0 m.total.toNat m.data }).2

theorem exec_mgmtFrame : exec (.mgmtFrame toMain m) s = .next (
    if !endRuns toMain s then s
    else if 1024 < m.data.length then s.offCatalogue
    else if toMain then (s.mgmtFrom.find? fun e => e.1 == m.session && e.2.1 == m.seq.toNat).elim (s.arrived true false)
      (answerPassed m (s.arrived true false))
    else (s.arrived false false).noaTakes { m with fabric := true }) := by
  have sources : (s.arrived true false).mgmtFrom = s.mgmtFrom := rfl
  change execMgmtFrame toMain m s = _
  rw [execMgmtFrame]
  simp only [sources]
  cases toMain
  · rfl
  · cases s.mgmtFrom.find? fun e => e.1 == m.session && e.2.1 == m.seq.toNat <;> rfl

end Fabric

/-- Settles O53: frame by frame, at an end that rests, with a frame too long, and at one that acts. -/
theorem crossingFramesActAtTheirEnd : Obligations.CrossingFramesActAtTheirEnd := by
  unfold Obligations.CrossingFramesActAtTheirEnd
  intro s
  refine ⟨?mainRests, ?islandRests, ⟨?longString, ?longObject, ?longMgmt, ?longRecord⟩,
    fun runs => ⟨fun c i k o l => ⟨?readNumber, ?readString⟩, fun c i k p o d changes short => ?changed, fun o d short => ⟨?imageMore, ?imageWhole⟩,
      fun i k o t d short => ⟨?stringMore, ?stringWhole⟩, fun src m => ⟨?passed, ?forwardedMore, ?forwardedWhole⟩,
      fun m short => ⟨?unsought, ?answered⟩⟩,
    fun runs => ⟨fun c r d short => ⟨?unawaited, ?awaited⟩, fun rec short => ?queued, fun i k o t d short => ⟨?stringIdle, ?stringRead⟩,
      fun o d short => ⟨?imageIdle, ?imageRead⟩, fun m short => ?requested, fun main e i n w => ?unwrapped⟩⟩
  case mainRests =>
    intro off
    have off' : endRuns true s = false := off
    refine ⟨fun c i k o l => ?_, fun c i k p o d => ?_, fun o d => ?_, fun i k o t d => ?_, fun f m => ?_, fun m => ?_, fun e i n w => ?_⟩
    · rw [exec_objRead, if_pos (by simp [off])]
    · rw [exec_objWrite, if_pos (by simp [off])]
    · rw [exec_calImage, if_pos (by simp [off'])]
    · rw [exec_blobSegment, if_pos (by simp [off'])]
    · rw [exec_mgmt, if_pos (by simp [off])]
    · rw [exec_mgmtFrame, if_pos (by simp [off'])]
    · rw [exec_keyOp, if_pos (by simp [off])]
  case islandRests =>
    intro off
    have off' : endRuns false s = false := off
    refine ⟨fun c r d => ?_, fun r => ?_, fun o d => ?_, fun i k o t d => ?_, fun m => ?_, fun e i n w => ?_⟩
    · rw [exec_objResult, if_pos (by simp [off])]
    · rw [exec_event, if_pos (by simp [off])]
    · rw [exec_calImage, if_pos (by simp [off'])]
    · rw [exec_blobSegment, if_pos (by simp [off'])]
    · rw [exec_mgmtFrame, if_pos (by simp [off'])]
    · rw [exec_keyOp, if_pos (by simp [off])]
  case longString =>
    intro d toMain long (runs : endRuns toMain s = true)
    refine ⟨fun o => ?_, fun i k o t => ?_⟩
    · rw [exec_calImage, if_neg (by simp [runs]), if_pos long]; rfl
    · rw [exec_blobSegment, if_neg (by simp [runs]), if_pos long]; rfl
  case longObject =>
    intro d long
    refine ⟨fun runs c i k p o changes => ?_, fun runs c r => ?_⟩
    · rw [exec_objWrite, if_neg (by simp [runs, changes]), if_pos long]; rfl
    · rw [exec_objResult, if_neg (by simp [runs]), if_pos long]; rfl
  case longMgmt => intro m toMain long (runs : endRuns toMain s = true); rw [exec_mgmtFrame, if_neg (by simp [runs]), if_pos long]; rfl
  case longRecord => intro r long runs; rw [exec_event, if_neg (by simp [runs]), if_pos long]; rfl
  case readNumber =>
    intro number
    rw [exec_objRead, if_neg (by simp [runs])]
    exact congrArg Host.Outcome.next (if_neg number)
  case readString =>
    intro string_
    have image : i = 0x2808 ↔ i.toNat = 0x2808 := (BitVec.toNat_inj (y := 0x2808)).symm
    rw [exec_objRead, if_neg (by simp [runs])]
    simp only [image]
    exact congrArg Host.Outcome.next (if_pos string_)
  case changed =>
    rw [exec_objWrite, if_neg (by simp [runs, changes]), if_neg (Nat.not_lt.mpr short)]
    rfl
  case imageMore =>
    intro more
    rw [exec_calImage, if_neg (by simp [endRuns, runs]), if_neg (Nat.not_lt.mpr short), if_pos rfl]
    exact congrArg Host.Outcome.next (if_pos more)
  case imageWhole =>
    intro whole
    rw [exec_calImage, if_neg (by simp [endRuns, runs]), if_neg (Nat.not_lt.mpr short), if_pos rfl]
    exact congrArg Host.Outcome.next (if_neg (Nat.not_lt.mpr whole))
  case stringMore =>
    intro more
    rw [exec_blobSegment, if_neg (by simp [endRuns, runs]), if_neg (Nat.not_lt.mpr short), if_pos rfl]
    exact congrArg Host.Outcome.next (if_pos more)
  case stringWhole =>
    intro whole
    rw [exec_blobSegment, if_neg (by simp [endRuns, runs]), if_neg (Nat.not_lt.mpr short), if_pos rfl]
    exact congrArg Host.Outcome.next (if_neg (Nat.not_lt.mpr whole))
  case passed => intro own; rw [exec_mgmt, if_neg (by simp [runs]), if_neg (by simp [own])]
  case forwardedMore =>
    intro forwarded more
    rw [exec_mgmt, if_neg (by simp [runs]), if_pos forwarded]
    exact congrArg Host.Outcome.next (if_pos more)
  case forwardedWhole =>
    intro forwarded whole
    rw [exec_mgmt, if_neg (by simp [runs]), if_pos forwarded]
    exact congrArg Host.Outcome.next (if_neg (Nat.not_lt.mpr whole))
  case unsought =>
    intro others
    have none' : (s.mgmtFrom.find? fun e => e.1 == m.session && e.2.1 == m.seq.toNat) = none :=
      List.find?_eq_none.mpr fun e mem => by simpa [imp_iff_not_or] using others e mem
    rw [exec_mgmtFrame, if_neg (by simp [endRuns, runs]), if_neg (Nat.not_lt.mpr short), if_pos rfl, none']
    rfl
  case answered =>
    intro e source
    rw [exec_mgmtFrame, if_neg (by simp [endRuns, runs]), if_neg (Nat.not_lt.mpr short), if_pos rfl, source]
    rfl
  case unawaited =>
    intro others
    have none' : (s.noaWaits.find? fun w => w.corr == c.toNat) = none := List.find?_eq_none.mpr fun w mem => by simpa using others w mem
    rw [exec_objResult, if_neg (by simp [runs]), if_neg (Nat.not_lt.mpr short), none']
    rfl
  case awaited =>
    intro w waits
    rw [exec_objResult, if_neg (c := (!s.islandUp) = true) (by simp [runs]), if_neg (Nat.not_lt.mpr short), waits]
    rfl
  case queued => rw [exec_event, if_neg (by simp [runs]), if_neg (Nat.not_lt.mpr short)]
  case stringIdle =>
    intro none'
    rw [exec_blobSegment, if_neg (by simp [endRuns, runs]), if_neg (Nat.not_lt.mpr short), if_neg Bool.false_ne_true, blobRead_none none']
  case stringRead =>
    intro w waits
    rw [exec_blobSegment, if_neg (by simp [endRuns, runs]), if_neg (Nat.not_lt.mpr short), if_neg Bool.false_ne_true, blobRead_some waits]
  case imageIdle =>
    intro none'
    rw [exec_calImage, if_neg (by simp [endRuns, runs]), if_neg (Nat.not_lt.mpr short), if_neg Bool.false_ne_true, blobRead_none none']
  case imageRead =>
    intro w waits
    rw [exec_calImage, if_neg (by simp [endRuns, runs]), if_neg (Nat.not_lt.mpr short), if_neg Bool.false_ne_true, blobRead_some waits]
  case requested =>
    rw [exec_mgmtFrame, if_neg (by simp [endRuns, runs]), if_neg (Nat.not_lt.mpr short), if_neg Bool.false_ne_true]
  case unwrapped => rw [exec_keyOp, if_neg (by simp [runs, main])]

end Sys2Proof.Proofs

end

section

/-! ## Ends are supervised and reset (O54; 17 R406, R410 to R415, 21 R494, 22 R513) -/

namespace Sys2Proof.Proofs

open Sys2Proof.Machine Sys2Proof.Laws

variable {s : State}

/-! ### Missing heartbeats (R410, R412) -/

section Supervision

/-- The main side was UP, and its heartbeats are missing for 10 ms. -/
def beatsMissing (s : State) : Prop := s.islandRun = 1 ∧ s.mainUp = true ∧ s.islandHeard + 10000000 ≤ s.elapsed

theorem beatsMissing_iff : (s.islandUp && s.mainUp && decide (s.islandHeard + 10000000 ≤ s.elapsed)) = true ↔ beatsMissing s := by
  simp [beatsMissing, State.islandUp, and_assoc]

theorem exec_heartbeatMissing_due (due : beatsMissing s) : exec .heartbeatMissing s = .next ((s.setOd 0x1300 3 0 3).islandRecord false) :=
  congrArg Host.Outcome.next (if_pos (beatsMissing_iff.mpr due))

theorem exec_heartbeatMissing_undue (undue : ¬ beatsMissing s) : exec .heartbeatMissing s = .next s :=
  congrArg Host.Outcome.next (if_neg (mt beatsMissing_iff.mp undue))

theorem exec_islandLost : exec .islandLost s = .next (if decide (s.mainHeard + 10000000 ≤ s.elapsed) then s.loseIsland else s) := rfl

/-- A hang has lasted as long as it may, and nothing has been done about it. -/
def hangDue (s : State) : Prop :=
  s.islandRun = 1 ∧ s.mainState = 3 ∧ s.hangAlarmed = false ∧ s.islandHeard + 1000000 * s.od 0x1302 1 0 ≤ s.elapsed

theorem hangDue_iff : (!s.islandUp || s.mainState != 3 || s.hangAlarmed || decide (s.elapsed < s.islandHeard + 1000000 * s.od 0x1302 1 0)) = false ↔
    hangDue s := by
  simp [hangDue, State.islandUp, and_assoc]

theorem exec_hangTimeout_undue (undue : ¬ hangDue s) : exec .hangTimeout s = .next s :=
  congrArg Host.Outcome.next (if_pos (by rwa [← hangDue_iff, Bool.not_eq_false] at undue))

theorem exec_hangTimeout_due (due : hangDue s) : exec .hangTimeout s = .next (
    if s.od 0x1302 2 0 = 1 then { s with hangAlarmed := true }.sendReset else { s with hangAlarmed := true }.islandRecord false) :=
  congrArg Host.Outcome.next (if_neg (by rw [hangDue_iff.mpr due]; exact Bool.false_ne_true))

end Supervision

/-! ### Resets of the main side (R406, R411) -/

section MainReset

theorem exec_mainOff {forced : Bool} : exec (.mainOff forced) s = .next (
    if s.mainState = 0 then s else s.mainSideReset true (if forced then 4 else 5)) := rfl

theorem exec_mainReset : exec .mainReset s = .next (if s.mainState = 0 then s else s.mainSideReset false 4) := rfl

/-- A part that is not ready, has no steep under way and no host linked forgets, and shows its state. -/
theorem mainSideReset_idle {cycle : Bool} {n : Nat} (waits : s.ready = false) (still : s.failWaits.ready = false)
    (cold : s.failWaits.steepRuns = false) (linkA : s.failWaits.hostLink 0 = false) (linkB : s.failWaits.hostLink 1 = false)
    (idle : ((s.failWaits.forget cycle).setOd 0x1300 3 0 n).od 0x1300 1 cmdState ≠ 1) :
    s.mainSideReset cycle n = (s.failWaits.forget cycle).setOd 0x1300 3 0 n := by
  simp [State.mainSideReset, waits, still, cold, linkA, linkB, idle]

end MainReset

/-! ### Resets of the island (R415, R494, R513) -/

section IslandReset

/-- The loss of the island touches nothing of the other parts. -/
theorem loseIsland_parts : s.loseIsland.toHearthPart = s.toHearthPart ∧ s.loseIsland.toMemoryPart = s.toMemoryPart ∧
    s.loseIsland.toServingPart = s.toServingPart := by
  rw [State.loseIsland]
  split
  case isTrue => exact ⟨rfl, rfl, rfl⟩
  case isFalse =>
    have quiet := quiet_raise { kind := .island, path := pathDie 5 0, detail := s.mainState } ({ s with islandLost := true }.bump 0x1301 0 6 1)
    exact ⟨quiet.hearth, quiet.memory, quiet.serving⟩

theorem islandReset_alwaysOn : s.islandReset.pending = s.pending ∧ s.islandReset.seq = s.seq ∧ s.islandReset.trial = s.trial ∧
    s.islandReset.runSlot = s.runSlot := by
  obtain ⟨pending, on⟩ := State_loseIsland_keeps s
  have seq : s.loseIsland.seq = s.seq := congrArg AlwaysOnPart.seq on
  have trial : s.loseIsland.trial = s.trial := congrArg AlwaysOnPart.trial on
  have slot : s.loseIsland.runSlot = s.runSlot := congrArg AlwaysOnPart.runSlot on
  exact ⟨pending, seq, trial, slot⟩

theorem islandReset_dict : s.islandReset.dict = s.loseIsland.dict.filter fun e => !islandVolatile (keyIndex e.1) (keySub e.1) := rfl

theorem volatile_gone {x y : Nat} (volatile : islandVolatile x y = true) {e : Nat × Nat} (mem : e ∈ s.islandReset.dict) :
    keyIndex e.1 ≠ x ∨ keySub e.1 ≠ y := by
  rw [islandReset_dict, List.mem_filter] at mem
  by_contra same
  obtain ⟨index, sub⟩ := not_or.mp same
  rw [not_not.mp index, not_not.mp sub, volatile] at mem
  exact Bool.false_ne_true mem.2

theorem exec_islandReset {rq : Requester} : exec (.islandReset rq) s =
    .next (s.access rq .command 0x1300 4 [1] fun s => (0, s.islandReset)) := rfl

theorem exec_islandWatchdog : exec .islandWatchdog s = .next (
    if s.islandRun = 0 then s else if s.trial = 2 then s.failTrial else s.islandReset) := rfl

/-- A trial runs, and the main side is not ready 10 s after its start. -/
def trialOverdue (s : State) : Prop := s.trial = 2 ∧ s.islandRun = 1 ∧ s.ready = false ∧ s.boot.startAt + 10000000000 ≤ s.elapsed

theorem trialOverdue_iff : (s.trial = 2 && s.islandUp && !s.ready && decide (s.boot.startAt + 10000000000 ≤ s.elapsed)) = true ↔ trialOverdue s := by
  simp [trialOverdue, State.islandUp, and_assoc]

theorem exec_trialFail_due (due : trialOverdue s) : exec .trialFail s = .next s.failTrial :=
  congrArg Host.Outcome.next (if_pos (trialOverdue_iff.mpr due))

theorem exec_trialFail_undue (undue : ¬ trialOverdue s) : exec .trialFail s = .next s :=
  congrArg Host.Outcome.next (if_neg (mt trialOverdue_iff.mp undue))

/-- A brown-out resets the island, and a trial starts again. -/
def brownedOut (s : State) : State := { s with trial := if s.trial = 2 then 1 else s.trial }.islandReset

/-- Every enable that is set falls. -/
def railsDropped (s : State) : State := [5, 4, 3, 2, 1, 0].foldl (fun t k => if bit t.seq.enables k then t.emit (.rail k false) else t) s

theorem exec_visoBrownOut {deep : Bool} : exec (.visoBrownOut deep) s = .next (
    if !deep then brownedOut s else { (railsDropped (brownedOut s)).mainSideReset true 0 with seq := Sequencer.fresh }) := rfl

theorem exec_visoPowerOn : exec .visoPowerOn s = .next (
    if s.islandRun ≠ 0 ∨ s.seq.enables ≠ 0 then s
    else { s.mainSideReset true 0 with seq := { Sequencer.fresh with again := true }, islandAt := s.elapsed }) := rfl

end IslandReset

/-! ### The island boots (R494) -/

section Boot

theorem romBoot_eq (t : State) : t.romBoot =
    if t.slotState t.activeSlot = 2 ∧ t.firmwareGood (t.slotImage t.activeSlot) = true then t.runIsland t.activeSlot
    else if t.slotState (1 - t.activeSlot) = 1 ∧ t.firmwareGood (t.slotImage (1 - t.activeSlot)) = true then t.runIsland (1 - t.activeSlot)
    else { t with islandRun := 2 } := by
  simp only [State.romBoot, Bool.and_eq_true, decide_eq_true_eq]

/-- The image of the slot that would be tried passes. -/
def passes (s : State) : Bool := s.firmwareGood (s.slotImage (1 - s.activeSlot))

/-- What the ROM runs. -/
def booted (s : State) : State :=
  if s.trial = 1 then
    if passes s then { s.runIsland (1 - s.activeSlot) with trial := 2 }
    else ({ s.setSlotState (1 - s.activeSlot) 3 with trial := 0 }.islandRecord false).romBoot
  else s.romBoot

/-- What becomes of the main side. -/
def bootEffect (s u : State) : State :=
  if u.islandRun ≠ 1 then (if u.mainState = 0 then u else u.powerOff true)
  else if u.mainState = 0 then (if u.seq.again = true ∧ u.seq.enables = 0 then u.startSequence else u)
  else if u.runSlot ≠ s.runSlot ∨ (s.trial = 1 ∧ passes s = false) then u.sendReset else u

theorem exec_islandBoot_running (runs : s.islandRun ≠ 0) : exec .islandBoot s = .next s := congrArg Host.Outcome.next (if_pos runs)

theorem exec_islandBoot_rom (rests : s.islandRun = 0) : exec .islandBoot s = .next (bootEffect s (booted s)) := by
  have ran : booted s = if (s.trial == 1 && passes s) = true then { s.runIsland (1 - s.activeSlot) with trial := 2 }
      else if (s.trial == 1) = true then ({ s.setSlotState (1 - s.activeSlot) 3 with trial := 0 }.islandRecord false).romBoot
      else s.romBoot := by
    by_cases tried : s.trial = 1
    · simp [booted, tried]
    · simp [booted, tried]
  change execIslandBoot s = _
  rw [execIslandBoot, if_neg (not_not.mpr rests), ran]
  simp only [bootEffect, State.islandUp, Bool.not_eq_true', beq_eq_false_iff_ne, Bool.and_eq_true, Bool.or_eq_true, beq_iff_eq, decide_eq_true_eq]
  rfl

end Boot

/-- Settles O54: each command through its equation, what a reset of the island keeps from what the loss of the island touches. -/
theorem endsAreSupervisedAndReset : Obligations.EndsAreSupervisedAndReset := by
  unfold Obligations.EndsAreSupervisedAndReset
  intro s
  refine ⟨⟨exec_heartbeatMissing_due, exec_heartbeatMissing_undue⟩, ?loses, ?hears, ⟨?resets, ?reports, exec_hangTimeout_undue⟩, ?off, ?main,
    fun cycle n waits still cold linkA linkB idle => mainSideReset_idle waits still cold linkA linkB idle, ?command, ?reset, ?watchdogOff, ?watchdogTrial,
    ?watchdog, ⟨exec_trialFail_due, exec_trialFail_undue⟩, rfl, ⟨?shallow, ?deep⟩, ?powered, ?powersOn, exec_islandBoot_running, ?boots⟩
  case loses => intro late; rw [exec_islandLost, if_pos (by simp [late])]
  case hears => intro early; rw [exec_islandLost, if_neg (by simp [early])]
  case resets => intro due resets; rw [exec_hangTimeout_due due, if_pos resets]
  case reports => intro due reports; rw [exec_hangTimeout_due due, if_neg reports]
  case off => intro off; exact ⟨fun f => by rw [exec_mainOff, if_pos off], by rw [exec_mainReset, if_pos off]⟩
  case main =>
    intro on
    refine ⟨?_, ?_, ?_⟩
    · rw [exec_mainOff, if_neg on, if_pos rfl]
    · rw [exec_mainOff, if_neg on, if_neg Bool.false_ne_true]
    · rw [exec_mainReset, if_neg on]
  case command => intro rq ok; exact command_taken exec_islandReset ok rfl
  case reset =>
    obtain ⟨pending, seq, trial, slot⟩ := islandReset_alwaysOn (s := s)
    obtain ⟨hearth, memory, serving⟩ := loseIsland_parts (s := s)
    exact ⟨rfl, rfl, rfl, rfl, rfl, seq, trial, slot, pending, hearth, memory, serving, fun x y volatile e mem => volatile_gone volatile mem⟩
  case watchdogOff => intro off; rw [exec_islandWatchdog, if_pos off]
  case watchdogTrial => intro on tries; rw [exec_islandWatchdog, if_neg on, if_pos tries]
  case watchdog => intro on other; rw [exec_islandWatchdog, if_neg on, if_neg other]
  case shallow => exact exec_visoBrownOut
  case deep => exact exec_visoBrownOut
  case powered => intro on; rw [exec_visoPowerOn, if_pos on]
  case powersOn => intro off low; rw [exec_visoPowerOn, if_neg (by simp [off, low])]
  case boots => intro rests; rw [exec_islandBoot_rom rests]; simp only [bootEffect, booted, passes, romBoot_eq]

end Sys2Proof.Proofs

end
